-- ==== Sys2Proof/Word.lean ====
section
/-!
DEFINITION. The unit of memory, and tables keyed by number.
-/
namespace Sys2Proof

/-- One byte. -/
abbrev Byte := BitVec 8

/-- A table: entries by number, in rising order of the number; an unlisted number holds the default its reader names. -/
abbrev Tbl (α : Type) := List (Nat × α)

end Sys2Proof
end

