-- ==== Sys2Proof/Syntax.lean ====
section
/-!
DEFINITION. The commands of the ZB9640 block: one constructor of Instr per row of spec/opcode_table.json. An opcode row takes
the header of its submission entry and its parameters (R105, R561); an event row takes what the environment shows when it happens.
-/
namespace Sys2Proof

/-- Queue pair, FLAGS, TAG, FLOW, PLEN and DEADLINE of a submission entry (R105), with what the part reads of the rest of
the entry's frame: whether a reserved header bit is set (R6), the parameter address of PTR_PARAMS and whether the
parameter read ended in a PCIe error (R107), and act_time of a TIMED command (R122). Queue pair 64 is the management SPI
and 65 the management VLAN. -/
structure Hdr where
  qp : Nat := 0
  flags : Nat := 0
  reservedSet : Bool := false
  tag : Nat := 0
  flow : Nat := 0
  plen : Nat := 0
  deadline : Nat := 0
  paramAddr : Nat := 0
  paramError : Bool := false
  actTime : Nat := 0
deriving DecidableEq, Repr

/-- A user channel plan 9-15 (R141): F0 and spacing in 100 kHz. -/
structure UserPlan where
  plan : Nat := 9
  f0 : Nat := 0
  spacing : Nat := 0
  count : Nat := 0
deriving DecidableEq, Repr

/-- One RFFE register write (R166). -/
structure RffeWrite where
  usid : Nat := 0
  addr : Nat := 0
  data : Nat := 0
deriving DecidableEq, Repr

/-- One antenna tuner state: up to 4 RFFE writes (R165). -/
structure TunerState where
  writes : List RffeWrite := []
deriving DecidableEq, Repr

/-- A timeslot template as SLOT_CFG carries it (R245). -/
structure Template where
  txOffset : Nat := 2120
  rxGuard : Nat := 1100
  ackDelay : Nat := 1000
  ackGuard : Nat := 200
  endGuard : Nat := 100
  maxAckPsdu : Option Nat := none
deriving DecidableEq, Repr

/-- A cell descriptor (R250) by its fields; reserved says whether a reserved bit is set. -/
structure CellW where
  slotOffset : Nat := 0
  channelOffset : Nat := 0
  peer : Nat := 0xFFFF
  tx : Bool := false
  rx : Bool := false
  shared : Bool := false
  timekeeping : Bool := false
  adv : Bool := false
  slotframe : Nat := 0
  phy : Nat := 0
  classMask : Nat := 0
  chain : Nat := 0
  chainAny : Bool := false
  power : Int := 0
  mcs : Nat := 0
  queue : Nat := 0x3FFF
  reserved : Bool := false
deriving DecidableEq, Repr

/-- An assigned-slot descriptor of a superframe (R270, R271); rx is the direction bit: the device receives. -/
structure GtsDesc where
  short : Nat := 0
  start : Nat := 1
  length : Nat := 1
  rx : Bool := false
deriving DecidableEq, Repr

/-- A sub-band entry of BUDG_REGION_LOAD (R295). -/
structure SubBand where
  fLow : Nat := 0
  fHigh : Nat := 0
  chainPpm : Nat := 0
  aggPpm : Nat := 0
  maxOnMs : Nat := 0
deriving DecidableEq, Repr

/-- The common key parameters of R396. -/
structure KeyAttr where
  ktype : Nat := 0
  engines : Nat := 0
  nonceMode : Nat := 0
  usageLimit : Nat := 0xFFFF0000
  warnMargin : Nat := 0x00100000
  usageStart : Nat := 0
deriving DecidableEq, Repr

/-- A drop record (R430) by its fields; the CRC as it arrived. -/
structure DropRec where
  tag : List Byte := []
  index : Nat := 0
  data : List Byte := []
  crc : Nat := 0
deriving DecidableEq, Repr

/-- An entry of UPD_CAMPAIGN_CFG op 1 and 2 (R455). -/
structure MemberRef where
  member : Nat := 0
  address : Nat := 0
deriving DecidableEq, Repr

/-- A node report (R447). -/
structure NodeReport where
  tag : List Byte := []
  kind : Nat := 0
  manifestHeld : Bool := false
  offset : Nat := 0
  slice : List Byte := []
  reserved : Bool := false
deriving DecidableEq, Repr

/-- The op 0 parameters of UPD_CAMPAIGN_CFG (R455). -/
structure CampCfg where
  keyHash : List Byte := []
  nodeModel : List Byte := []
  svFloor : Nat := 0
  mcQueue : Nat := 0
  repairQueue : Nat := 0
  mcKeySlot : Nat := 0
  mcSecLevel : Nat := 0
  mcGroup : Nat := 0
  udpPort : Nat := 0
  reportAddr : Nat := 0
  reportPort : Nat := 0
  windowAsn : Nat := 0
  windowLen : Nat := 1
  windowPeriod : Nat := 1
  fillFrames : Nat := 16
  maxRounds : Nat := 3
  mcMinMissing : Nat := 16
  reportWaitS : Nat := 600
  repairPasses : Nat := 4
  repairParallel : Nat := 256
  repairInflight : Nat := 4
deriving DecidableEq, Repr

/-- A route entry of LNK_TOPOLOGY (R486). -/
structure Route where
  member : Nat := 0
  primary : Nat := 0
  alternate : Nat := 0xFF
  hopsPrimary : Nat := 0
  hopsAlternate : Nat := 0
deriving DecidableEq, Repr

/-- The 32-byte air record by its fields (R209). -/
structure AirRec where
  ts : Int := 0
  asn : Nat := 0
  chain : Nat := 0
  lane : Nat := 0
  channel : Nat := 0
  phy : Nat := 0
  rssi : Int := 0
  snr : Int := 0
  lqi : Nat := 0
  dir : Bool := false
  acked : Bool := false
  captured : Bool := false
  spareLane : Bool := false
  falseSync : Bool := false
  length : Nat := 0
  secStatus : Nat := 0
  dup : Bool := false
  keySlot : Nat := 0
  neighbour : Nat := 0
  cls : Nat := 0
  queue : Nat := 0
  buffer : Nat := 0
deriving DecidableEq, Repr

/-- What the packet engine parses of an IPv6 header: destination halves, DSCP and UDP destination port. -/
structure IpHdr where
  dstHi : Nat := 0
  dstLo : Nat := 0
  dscp : Nat := 0
  udp : Option Nat := none
deriving DecidableEq, Repr

/-- A frame between the packet engine, the traffic manager and the ports: its bytes B from the MAC header to the end of
the payload, what it parses to, its ingress identifier (R8), its air record and its ingress raw time. -/
structure PktFrame where
  data : List Byte := []
  ip : Option IpHdr := none
  srcPort : Nat := 0
  air : Option AirRec := none
  ts : Nat := 0
  cls : Nat := 0
  unknown : Bool := false
  drops : List DropRec := []
deriving DecidableEq, Repr

/-- A ZAO map information element (R205). -/
structure ZaoIe where
  seq : Nat := 0
  rate : Nat := 0
  map : List Nat := []
deriving DecidableEq, Repr

/-- A PHY or ZAO header as the lane decodes it (R189, R201). -/
structure PhyHdr where
  length : Nat := 0
  modeSwitch : Bool := false
  hcsOk : Bool := true
  mcs : Nat := 0
  rate : Nat := 0
  mapSrc : Nat := 0
  mapSeq : Nat := 0
  link : Nat := 0
  seed : Nat := 1
  nullPeriod : Nat := 0
deriving DecidableEq, Repr

/-- What parsing a received MAC frame shows (R23, R263, R311): sequence number, AR bit, version, security fields,
addresses, the authenticated header bytes, payload and MIC as received, and the information elements and IPv6 header of
its plaintext. -/
structure AirFrame where
  seq : Option Nat := none
  ackReq : Bool := false
  version : Nat := 2
  secLevel : Nat := 0
  counter : Nat := 0
  fcSuppressed : Bool := false
  srcKind : Nat := 0
  srcAddr : Nat := 0
  srcPan : Option Nat := none
  dstPan : Option Nat := none
  header : List Byte := []
  payload : List Byte := []
  mic : List Byte := []
  isBeacon : Bool := false
  isAck : Bool := false
  timeCorr : Option Int := none
  zao : Option ZaoIe := none
  ip : Option IpHdr := none
  drops : List DropRec := []
deriving DecidableEq, Repr

/-- An Enh-Ack that arrived in an ACK wait (R258, R259). -/
structure AckObs where
  ts : Int := 0
  frame : AirFrame := {}
  nack : Bool := false
  imm : Bool := false
  rssi : Int := 0
  snr : Int := 0
  lqi : Nat := 0
deriving DecidableEq, Repr

/-- What a slot boundary shows: whether the plan of the next slot is frozen in time (R256), and per chain the window
power over the last 1,000 us in quarter dB with the microseconds measured (R155). -/
structure SlotEnv where
  planLate : Bool := false
  power : List (Int × Nat) := []
deriving DecidableEq, Repr

/-- What the ROM finds on its way through the boot (R76-R84): TEST_EN and the straps on the pins, flash density, the PUF
pattern's outcome per attempt (bits corrected, or none where the tag fails), each slot's result and its manifest's
security version, and the random source's salt, nonce and root. -/
structure BootProbe where
  testEn : Bool := false
  straps : Nat := 0
  supplyOk : Bool := true
  pllOk : Bool := true
  flashSmall : Bool := false
  pufRuns : List (Option Nat) := []
  root : List Byte := []
  resultA : Nat := 1
  svA : Nat := 0
  resultB : Nat := 1
  svB : Nat := 0
deriving DecidableEq, Repr

/-- What INIT's calibrations and checks show (R82, R85): segment check, ranks trained, a failed calibration step per
chain, ports whose SerDes failed, TIME PLL lock, BIST failures, and physical lanes that failed their self-test. -/
structure InitProbe where
  segmentsOk : Bool := true
  rank0Ok : Bool := true
  rank1Fitted : Bool := false
  rank1Ok : Bool := true
  gib0 : Nat := 4
  gib1 : Nat := 0
  chainFail : List Nat := [0, 0, 0, 0]
  ethFail : List Nat := []
  dlFail : List Nat := []
  timeLock : Bool := true
  bistFail : Nat := 0
  laneFail : List Nat := []
  avsMv : Nat := 800
  avsAck : Bool := true
  journalOk : Bool := true
  fwJournalOk : Bool := true
deriving DecidableEq, Repr

/-- A PTP event message at a port (R234, R235). -/
structure PtpMsg where
  domainNumber : Nat := 0
  kind : Nat := 0
  transport : Nat := 0
  correction : Int := 0
  outPort : Nat := 0
  id : Nat := 0
  port : Nat := 0
deriving DecidableEq, Repr

/-- A buffer the host has posted on a TH ring (R502). -/
structure HostBuf where
  addr : Nat := 0
  len : Nat := 256
deriving DecidableEq, Repr

/-- An FH ring entry as fetched, with the frame it names (R504). -/
structure FhEntry where
  frame : List Byte := []
  fetchOk : Bool := true
  queue : Nat := 0
  cls : Nat := 0
  ackReq : Bool := false
  secLevel : Nat := 0
  neighbour : Nat := 0xFFFF
  reserved : Bool := false
deriving DecidableEq, Repr

/-- A frame as an Ethernet port receives it (R495-R497). -/
structure EthFrame where
  bytes : List Byte := []
  fcsOk : Bool := true
  pause : Option Nat := none
  eapol : Bool := false
  tagged : Bool := false
  sci : Nat := 0
  an : Nat := 0
  pn : Nat := 0
  aad : List Byte := []
  icv : List Byte := []
  ip : Option IpHdr := none
  queueFull : Bool := false
  drops : List DropRec := []
deriving DecidableEq, Repr

/-- A learn observation (R333). -/
structure LearnObs where
  port : Nat := 6
  lane : Nat := 0xFF
  chain : Nat := 0
  lqi : Nat := 0
  rssi : Int := 0
deriving DecidableEq, Repr

/-- What a Dalhiuf link frame carries once decrypted (R468). -/
inductive LinkMsg where
  | ptp (m : PtpMsg)
  | boundary (asn : Nat) (s : Int) (slotLenUs : Nat)
  | linkState (member port state : Nat)
  | host (bytes : List Byte)
  | observe (kind panId addr : Nat) (obs : LearnObs)
  | drops (recs : List DropRec)
  | packet (f : PktFrame)
  | ack (seq : Nat)
  | beat (claim state seq : Nat)
  | switchReq
deriving DecidableEq, Repr

/-- A Dalhiuf link frame (R458): header fields, IV, body as received, tag, and the message its body decrypts to. -/
structure LinkFrame where
  vl : Nat := 0
  src : Nat := 0
  dst : Nat := 0
  hops : Nat := 1
  kind : Nat := 1
  enc : Bool := true
  ivFixed : Nat := 0
  nc : Nat := 0
  seq : Nat := 0
  crcOk : Bool := true
  aborted : Bool := false
  aad : List Byte := []
  body : List Byte := []
  tag : List Byte := []
  msg : LinkMsg := .host []
deriving DecidableEq, Repr

/-- Parameters of SYS_INFO. -/
structure SysInfoP where
  op : Nat := 0
  bufferAddr : Nat := 0
deriving DecidableEq, Repr

/-- Parameters of SYS_RESET. -/
structure SysResetP where
  kind : Nat := 0
deriving DecidableEq, Repr

/-- Parameters of SYS_STATE. -/
structure SysStateP where
  op : Nat := 0
  lullDram : Nat := 0
  wakeGpio : Nat := 0
  wakeTimerS : Nat := 0
deriving DecidableEq, Repr

/-- Parameters of SYS_EVENT_MAP. -/
structure SysEventMapP where
  firstSrc : Nat := 0
  count : Nat := 0
  vector : Nat := 0
  toPf1 : Nat := 0
  enable : Nat := 0
deriving DecidableEq, Repr

/-- Parameters of SYS_TIMED. -/
structure SysTimedP where
  queue : Nat := 0
  timeRef : Nat := 0
  lateNs : Nat := 0
  maxAheadS : Nat := 0
deriving DecidableEq, Repr

/-- Parameters of SYS_MGMT_CFG. -/
structure SysMgmtCfgP where
  enable : Nat := 0
  portMask : Nat := 0
  vlanId : Nat := 0
deriving DecidableEq, Repr

/-- Parameters of SYS_ETH_CFG. -/
structure SysEthCfgP where
  port : Nat := 0
  mode : Nat := 0
  autoneg : Nat := 0
  maxFrame : Nat := 0
  pauseRx : Nat := 0
  macAddr : Nat := 0
  macsec : Nat := 0
  eapolRing : Nat := 0
deriving DecidableEq, Repr

/-- Parameters of SYS_MACSEC_SA. -/
structure SysMacsecSaP where
  port : Nat := 0
  op : Nat := 0
  sci : Nat := 0
  an : Nat := 0
  slot : Nat := 0
  nextPn : Nat := 0
  ssci : Nat := 0
  salt : Nat := 0
  encrypt : Nat := 0
  replayWindow : Nat := 0
  pnWarn : Nat := 0
deriving DecidableEq, Repr

/-- Parameters of RAD_CHAIN_CFG. -/
structure RadChainCfgP where
  windowCentre : Nat := 0
  phyEnable : Nat := 0
  planForPhy : List Nat := []
  rampForPhy : List Nat := []
  rxFeGain : Int := 0
  couplerSrc : Nat := 0
  cplFwd : Int := 0
  mismatchRl : Nat := 0
  backoffStep : Nat := 0
  maxBackoff : Nat := 0
  autoRecal : Nat := 0
  userPlans : List UserPlan := []
  txOn : List RffeWrite := []
  txOff : List RffeWrite := []
  rxWindow : List RffeWrite := []
deriving DecidableEq, Repr

/-- Parameters of RAD_CAL. -/
structure RadCalP where
  steps : Nat := 0
deriving DecidableEq, Repr

/-- Parameters of RAD_TUNER. -/
structure RadTunerP where
  op : Nat := 0
  states : List TunerState := []
deriving DecidableEq, Repr

/-- Parameters of RAD_COEX_CFG. -/
structure RadCoexCfgP where
  coexMode : Nat := 0
  grantPolarity : Nat := 0
  reqLeadUs : Nat := 0
  priMask : Nat := 0
  priAck : Nat := 0
  abortOnRevoke : Nat := 0
deriving DecidableEq, Repr

/-- Parameters of RAD_AGC_CFG. -/
structure RadAgcCfgP where
  agcMode : Nat := 0
  wbTarget : Int := 0
  nbTarget : Int := 0
  clipCount : Nat := 0
deriving DecidableEq, Repr

/-- Parameters of RAD_PA_RAMP. -/
structure RadPaRampP where
  profile : Nat := 0
  rampUs : Nat := 0
  paLeadUs : Nat := 0
  points : List Nat := []
deriving DecidableEq, Repr

/-- Parameters of RAD_TX_RAW. -/
structure RadTxRawP where
  channel : Nat := 0
  phyMode : Nat := 0
  powerHdbm : Int := 0
  kind : Nat := 0
  bufferHandle : Nat := 0
  length : Nat := 0
  cls : Nat := 0
  durationUs : Nat := 0
deriving DecidableEq, Repr

/-- Parameters of RAD_BLANK_MAP. -/
structure RadBlankMapP where
  dist : List Nat := []
deriving DecidableEq, Repr

/-- Parameters of LANE_ASSIGN. -/
structure LaneAssignP where
  chain : Nat := 0
  kind : Nat := 0
  channel : Nat := 0
  phyMode : Nat := 0
deriving DecidableEq, Repr

/-- Parameters of LANE_PHY_CFG. -/
structure LanePhyCfgP where
  phyMode : Nat := 0
  detThreshold : Nat := 0
  edFloor : Int := 0
  maxPreambleUs : Nat := 0
  maxPsdu : Nat := 0
  fskFec : Nat := 0
  fskWhitening : Nat := 0
  fskSfdSet : Nat := 0
  rateMask : Nat := 0
  mcsMask : Nat := 0
deriving DecidableEq, Repr

/-- Parameters of LANE_CAPTURE_CFG. -/
structure LaneCaptureCfgP where
  op : Nat := 0
  captureMargin : Nat := 0
  spawnEnable : Nat := 0
  trigger : Nat := 0
  comparator : Nat := 0
  preUs : Nat := 0
  samples : Nat := 0
  bufferAddr : Nat := 0
deriving DecidableEq, Repr

/-- Parameters of LANE_STATUS. -/
structure LaneStatusP where
  clear : Nat := 0
deriving DecidableEq, Repr

/-- Parameters of LANE_FLUSH. -/
structure LaneFlushP where
  unit : Unit := ()
deriving DecidableEq, Repr

/-- Parameters of LANE_BITLOAD. -/
structure LaneBitloadP where
  op : Nat := 0
  margin : Nat := 0
  thr : List Nat := []
  minChange : Nat := 0
  ratePolicy : Nat := 0
  nullPeriod : Nat := 0
deriving DecidableEq, Repr

/-- Parameters of SLOT_CFG. -/
structure SlotCfgP where
  op : Nat := 0
  slotLenUs : Nat := 0
  asnStart : Nat := 0
  startTimeNs : Nat := 0
  maxRetries : Nat := 0
  minBe : Nat := 0
  maxBe : Nat := 0
  preBytes : Nat := 0
  fskTx : Nat := 0
  ackUnknown : Nat := 0
  dupWindowMs : Nat := 0
  txReportRing : Nat := 0
  reportAll : Nat := 0
  ebTemplate : List Byte := []
  ebAsnOffset : Nat := 0
  ebSecLevel : Nat := 0
  ebKeySlot : Nat := 0
  tmpl : Template := {}
  hopLen : Nat := 0
  channels : List Nat := []
deriving DecidableEq, Repr

/-- Parameters of SLOT_LIST_LOAD. -/
structure SlotListLoadP where
  op : Nat := 0
  sfLen : Nat := 0
  hostAddr : Nat := 0
  cells : List CellW := []
deriving DecidableEq, Repr

/-- Parameters of SLOT_LIST_ACTIVATE. -/
structure SlotListActivateP where
  op : Nat := 0
  asn : Nat := 0
deriving DecidableEq, Repr

/-- Parameters of SLOT_SUPERFRAME_CFG. -/
structure SlotSuperframeCfgP where
  op : Nat := 0
  chain : Nat := 0
  channel : Nat := 0
  phyMode : Nat := 0
  bo : Nat := 0
  so : Nat := 0
  anchorAsn : Nat := 0
  anchorOffsetUs : Nat := 0
  ackTurnaroundUs : Nat := 0
  template : List Byte := []
  descs : List GtsDesc := []
deriving DecidableEq, Repr

/-- Parameters of SLOT_TX. -/
structure SlotTxP where
  neighbour : Nat := 0
  hostAddr : Nat := 0
  data : List Byte := []
  cls : Nat := 0
  queue : Nat := 0
  ackReq : Nat := 0
  secLevel : Nat := 0
deriving DecidableEq, Repr

/-- Parameters of SLOT_FRONT_CFG. -/
structure SlotFrontCfgP where
  src : Nat := 0
  port : Nat := 0
  edge : Nat := 0
  periodSlots : Nat := 0
  anchorAsn : Nat := 0
  offsetNs : Int := 0
  windowUs : Nat := 0
  maxShiftUs : Nat := 0
  lockNs : Nat := 0
  lossCount : Nat := 0
deriving DecidableEq, Repr

/-- Parameters of SLOT_STATUS. -/
structure SlotStatusP where
  op : Nat := 0
  bufferAddr : Nat := 0
  clear : Nat := 0
deriving DecidableEq, Repr

/-- Parameters of SLOT_FOLLOW_CFG. -/
structure SlotFollowCfgP where
  enable : Nat := 0
  timeSource : Nat := 0
  ebPeriodSlots : Nat := 0
  driftPpb : Nat := 0
  maxExtraGuardUs : Nat := 0
deriving DecidableEq, Repr

/-- Parameters of BUDG_REGION_LOAD. -/
structure BudgRegionLoadP where
  regionId : Nat := 0
  windowS : Nat := 0
  warnPct : Nat := 0
  entries : List SubBand := []
deriving DecidableEq, Repr

/-- Parameters of BUDG_STATUS. -/
structure BudgStatusP where
  subband : Nat := 0
  clear : Nat := 0
deriving DecidableEq, Repr

/-- Parameters of TM_QUEUE_CFG. -/
structure TmQueueCfgP where
  port : Nat := 0
  cls : Nat := 0
  ring : Nat := 0
  quantum : Nat := 0
  maxBytes : Nat := 0
  maxFrames : Nat := 0
  yellowPct : Nat := 0
  shaper : Nat := 0
  nbCap : Nat := 0
deriving DecidableEq, Repr

/-- Parameters of TM_METER_CFG. -/
structure TmMeterCfgP where
  mode : Nat := 0
  colourAware : Nat := 0
  redAction : Nat := 0
  cirKbps : Nat := 0
  cbs : Nat := 0
  pirKbps : Nat := 0
  pbsEbs : Nat := 0
deriving DecidableEq, Repr

/-- Parameters of TM_SHAPER_CFG. -/
structure TmShaperCfgP where
  rate10bps : Nat := 0
  burst : Nat := 0
  tokenOnChange : Nat := 0
deriving DecidableEq, Repr

/-- Parameters of TM_CLASS_MAP. -/
structure TmClassMapP where
  op : Nat := 0
  index : Nat := 0
  entry : Nat := 0
  map : List Nat := []
  enable : Nat := 0
  udpPort : Nat := 0
  cls : Nat := 0
  unknownQueue : Nat := 0
  reserveCells : Nat := 0
deriving DecidableEq, Repr

/-- Parameters of TM_STATS. -/
structure TmStatsP where
  clear : Nat := 0
deriving DecidableEq, Repr

/-- Parameters of TBL_NODE_INSERT. -/
structure TblNodeInsertP where
  kind : Nat := 0
  flags : Nat := 0
  panId : Nat := 0
  addr : Nat := 0
  nextHop : Nat := 0
  tmProfile : Nat := 0
  hostData : List Byte := []
deriving DecidableEq, Repr

/-- Parameters of TBL_NODE_DELETE. -/
structure TblNodeDeleteP where
  kind : Nat := 0
  panId : Nat := 0
  addr : Nat := 0
  force : Nat := 0
deriving DecidableEq, Repr

/-- Parameters of TBL_PREFIX_ADD. -/
structure TblPrefixAddP where
  pfx : Nat := 0
  plen : Nat := 0
  action : Nat := 0
  port : Nat := 0
  panId : Nat := 0
  tmProfile : Nat := 0
  replace : Nat := 0
deriving DecidableEq, Repr

/-- Parameters of TBL_PREFIX_DEL. -/
structure TblPrefixDelP where
  pfx : Nat := 0
  plen : Nat := 0
deriving DecidableEq, Repr

/-- Parameters of TBL_AGING_CFG. -/
structure TblAgingCfgP where
  table : Nat := 0
  periodS : Nat := 0
deriving DecidableEq, Repr

/-- Parameters of TBL_LOOKUP. -/
structure TblLookupP where
  kind : Nat := 0
  panId : Nat := 0
  addr : Nat := 0
  setHit : Nat := 0
  bufferAddr : Nat := 0
deriving DecidableEq, Repr

/-- Parameters of TBL_EVICT_POLICY. -/
structure TblEvictPolicyP where
  policy : Nat := 0
  maxKicks : Nat := 0
deriving DecidableEq, Repr

/-- Parameters of TBL_CFG. -/
structure TblCfgP where
  hashSeed : Nat := 0
  airPanId : Nat := 0
  nearPct : Nat := 0
  unknownRing : Nat := 0
  learnEnable : Nat := 0
  learnBase : Nat := 0
  learnLog2 : Nat := 0
  windowMs : Nat := 0
  holdoffMs : Nat := 0
  peerPorts : Nat := 0
deriving DecidableEq, Repr

/-- Parameters of TBL_NEIGHBOUR_SET. -/
structure TblNeighbourSetP where
  op : Nat := 0
  flags : Nat := 0
  eui64 : Nat := 0
  short : Nat := 0
  panId : Nat := 0
  keySlot : Nat := 0
  rxHStart : Nat := 0
deriving DecidableEq, Repr

/-- Parameters of TBL_STATUS. -/
structure TblStatusP where
  clear : Nat := 0
  bufferAddr : Nat := 0
deriving DecidableEq, Repr

/-- Parameters of KEY_IMPORT. -/
structure KeyImportP where
  src : Nat := 0
  replace : Nat := 0
  attr : KeyAttr := {}
  key : List Byte := []
  record : Nat := 0
  parent : Nat := 0
  blob : List Byte := []
  store : Nat := 0
  outAddr : Nat := 0
deriving DecidableEq, Repr

/-- Parameters of KEY_DERIVE. -/
structure KeyDeriveP where
  parent : Nat := 0
  replace : Nat := 0
  attr : KeyAttr := {}
  label : List Byte := []
  context : List Byte := []
  store : Nat := 0
  outAddr : Nat := 0
deriving DecidableEq, Repr

/-- Parameters of KEY_STAGE. -/
structure KeyStageP where
  src : Nat := 0
  replace : Nat := 0
  attr : KeyAttr := {}
  key : List Byte := []
  record : Nat := 0
  parent : Nat := 0
  blob : List Byte := []
  label : List Byte := []
  context : List Byte := []
  store : Nat := 0
  outAddr : Nat := 0
  kcvPresent : Nat := 0
  kcv : Nat := 0
  rxOverlapMs : Nat := 0
deriving DecidableEq, Repr

/-- Parameters of KEY_COMMIT. -/
structure KeyCommitP where
  kcv : Nat := 0
deriving DecidableEq, Repr

/-- Parameters of KEY_ERASE. -/
structure KeyEraseP where
  unit : Unit := ()
deriving DecidableEq, Repr

/-- Parameters of KEY_INFO. -/
structure KeyInfoP where
  bufferAddr : Nat := 0
deriving DecidableEq, Repr

/-- Parameters of KEY_INVALIDATE. -/
structure KeyInvalidateP where
  engines : Nat := 0
deriving DecidableEq, Repr

/-- Parameters of KEY_ATTEST. -/
structure KeyAttestP where
  nonce : List Byte := []
  slotFirst : Nat := 0
  slotCount : Nat := 0
  bufferAddr : Nat := 0
deriving DecidableEq, Repr

/-- Parameters of KEY_STORE_CFG. -/
structure KeyStoreCfgP where
  lockPlain : Nat := 0
  loopArm : Nat := 0
  loopMismatch : Nat := 0
deriving DecidableEq, Repr

/-- Parameters of CRY_OP. -/
structure CryOpP where
  op : Nat := 0
  slot : Nat := 0
  srcAddr : Nat := 0
  secLevel : Nat := 0
  frameCounter : Nat := 0
  iv : List Byte := []
  tweak : Nat := 0
  unit : Nat := 0
  aad : List Byte := []
  input : List Byte := []
  outAddr : Nat := 0
  tag : List Byte := []
deriving DecidableEq, Repr

/-- Parameters of CRY_SIGN. -/
structure CrySignP where
  slot : Nat := 0
  digest : List Byte := []
  sigAddr : Nat := 0
deriving DecidableEq, Repr

/-- Parameters of CRY_VERIFY. -/
structure CryVerifyP where
  exponent : Nat := 0
  modulus : List Byte := []
  digest : List Byte := []
  signature : List Byte := []
deriving DecidableEq, Repr

/-- Parameters of CRY_HASH. -/
structure CryHashP where
  op : Nat := 0
  mode : Nat := 0
  slot : Nat := 0
  context : Nat := 0
  input : List Byte := []
  outAddr : Nat := 0
deriving DecidableEq, Repr

/-- Parameters of CRY_XTS_REGION. -/
structure CryXtsRegionP where
  region : Nat := 0
  op : Nat := 0
  base : Nat := 0
  size : Nat := 0
  slot : Nat := 0
deriving DecidableEq, Repr

/-- Parameters of CRY_CHK_CFG. -/
structure CryChkCfgP where
  op : Nat := 0
  lane : Nat := 0
  poly : Nat := 0
  mode : Nat := 0
  skipAbort : Nat := 0
  init : Nat := 0
  expectEn : Nat := 0
  expect : Nat := 0
  context : List Byte := []
deriving DecidableEq, Repr

/-- Parameters of CRY_STATUS. -/
structure CryStatusP where
  clear : Nat := 0
  bufferAddr : Nat := 0
deriving DecidableEq, Repr

/-- Parameters of UPD_OPEN. -/
structure UpdOpenP where
  manifest : List Byte := []
  replace : Nat := 0
  acceptMask : Nat := 0
  intakePort : Nat := 0
  autoVerify : Nat := 0
deriving DecidableEq, Repr

/-- Parameters of UPD_BLOCK. -/
structure UpdBlockP where
  records : List DropRec := []
deriving DecidableEq, Repr

/-- Parameters of UPD_STATUS. -/
structure UpdStatusP where
  bufferAddr : Nat := 0
  clear : Nat := 0
deriving DecidableEq, Repr

/-- Parameters of UPD_VERIFY. -/
structure UpdVerifyP where
  unit : Unit := ()
deriving DecidableEq, Repr

/-- Parameters of UPD_ACTIVATE. -/
structure UpdActivateP where
  op : Nat := 0
  restart : Nat := 0
  commitAfterS : Nat := 0
deriving DecidableEq, Repr

/-- Parameters of UPD_CAMPAIGN_CFG. -/
structure UpdCampaignCfgP where
  op : Nat := 0
  cfg : CampCfg := {}
  members : List MemberRef := []
deriving DecidableEq, Repr

/-- Parameters of UPD_CAMPAIGN_CTRL. -/
structure UpdCampaignCtrlP where
  op : Nat := 0
  address : Nat := 0
  report : NodeReport := {}
  member : Nat := 0
  bufferAddr : Nat := 0
deriving DecidableEq, Repr

/-- Parameters of TIME_STEP. -/
structure TimeStepP where
  stepNs : Int := 0
  stepFrac : Nat := 0
  markTracked : Nat := 0
deriving DecidableEq, Repr

/-- Parameters of TIME_RATE. -/
structure TimeRateP where
  rate : Int := 0
deriving DecidableEq, Repr

/-- Parameters of TIME_SELECT. -/
structure TimeSelectP where
  domain : Nat := 0
  stepThresholdNs : Nat := 0
  slewPpm : Nat := 0
  force : Nat := 0
deriving DecidableEq, Repr

/-- Parameters of TIME_TRIGGER. -/
structure TimeTriggerP where
  op : Nat := 0
  ref : Nat := 0
  targetNs : Nat := 0
  periodNs : Nat := 0
  actions : Nat := 0
  pin : Nat := 0
  pinMode : Nat := 0
  pulseNs : Nat := 0
deriving DecidableEq, Repr

/-- Parameters of TIME_CAPTURE_CFG. -/
structure TimeCaptureCfgP where
  input : Nat := 0
  edge : Nat := 0
  clear : Nat := 0
deriving DecidableEq, Repr

/-- Parameters of TIME_PTP_PORT_CFG. -/
structure TimePtpPortCfgP where
  enable : Nat := 0
  tcEnable : Nat := 0
  transports : Nat := 0
  mapA : Nat := 0
  mapB : Nat := 0
  asymmetryNs : Int := 0
deriving DecidableEq, Repr

/-- Parameters of TIME_DOMAIN_CFG. -/
structure TimeDomainCfgP where
  src : Nat := 0
  port : Nat := 0
  domainNumber : Nat := 0
  stepLimitNs : Nat := 0
  lockNs : Nat := 0
  announceTimeout : Nat := 0
deriving DecidableEq, Repr

/-- Parameters of TIME_STATUS. -/
structure TimeStatusP where
  unit : Unit := ()
deriving DecidableEq, Repr

/-- Parameters of LNK_PORT_CFG. -/
structure LnkPortCfgP where
  enable : Nat := 0
  role : Nat := 0
  expectedPeer : Nat := 0
  txSlot : Nat := 0
  rxSlot : Nat := 0
  linkDownUs : Nat := 0
  boundaryOut : Nat := 0
  handoverOut : Nat := 0
deriving DecidableEq, Repr

/-- Parameters of LNK_TOPOLOGY. -/
structure LnkTopologyP where
  setId : Nat := 0
  memberId : Nat := 0
  kind : Nat := 0
  members : Nat := 0
  timeRoot : Nat := 0
  coordBudgetUs : Nat := 0
  timeGuardNs : Nat := 0
  rootErrNs : Nat := 0
  hopLimit : Nat := 0
  linkRing : Nat := 0
  routes : List Route := []
deriving DecidableEq, Repr

/-- Parameters of LNK_STATUS. -/
structure LnkStatusP where
  clear : Nat := 0
deriving DecidableEq, Repr

/-- Parameters of LNK_SEND. -/
structure LnkSendP where
  vl : Nat := 0
  kind : Nat := 0
  dst : Nat := 0
  body : List Byte := []
deriving DecidableEq, Repr

/-- Parameters of TWIN_CFG. -/
structure TwinCfgP where
  op : Nat := 0
  chipId : Nat := 0
  claimOffsetUs : Nat := 0
  deltaAckUs : Nat := 0
deriving DecidableEq, Repr

/-- Parameters of TWIN_CLAIM. -/
structure TwinClaimP where
  op : Nat := 0
  priority : Nat := 0
deriving DecidableEq, Repr

/-- Parameters of TWIN_SWITCH. -/
structure TwinSwitchP where
  unit : Unit := ()
deriving DecidableEq, Repr

/-- Parameters of TWIN_STATUS. -/
structure TwinStatusP where
  clear : Nat := 0
deriving DecidableEq, Repr

/-- Parameters of TWIN_SAVE_STATE. -/
structure TwinSaveStateP where
  op : Nat := 0
  usageFloor : Nat := 0
deriving DecidableEq, Repr

/-- Parameters of HLTH_STATUS. -/
structure HlthStatusP where
  clear : Nat := 0
deriving DecidableEq, Repr

/-- Parameters of HLTH_SPARE_MAP. -/
structure HlthSpareMapP where
  op : Nat := 0
  reserve : Nat := 0
  bufferAddr : Nat := 0
deriving DecidableEq, Repr

/-- Parameters of HLTH_RETIRE. -/
structure HlthRetireP where
  kind : Nat := 0
  index : Nat := 0
deriving DecidableEq, Repr

/-- Parameters of DIAG_DUMP_READ. -/
structure DiagDumpReadP where
  op : Nat := 0
  src : Nat := 0
  offset : Nat := 0
  len : Nat := 0
  bufferAddr : Nat := 0
deriving DecidableEq, Repr

/-- Parameters of DIAG_UNFREEZE. -/
structure DiagUnfreezeP where
  unit : Unit := ()
deriving DecidableEq, Repr

/-- Parameters of DIAG_FW_REGION. -/
structure DiagFwRegionP where
  region : Nat := 0
  op : Nat := 0
  base : Nat := 0
  size : Nat := 0
  readGroups : Nat := 0
  writeGroups : Nat := 0
deriving DecidableEq, Repr

/-- Parameters of TEST_LOOPBACK. -/
structure TestLoopbackP where
  target : Nat := 0
  depth : Nat := 0
  pattern : Nat := 0
  frameLen : Nat := 0
  durationMs : Nat := 0
  channel : Nat := 0
  phyMode : Nat := 0
  powerHdbm : Int := 0
deriving DecidableEq, Repr

/-- Parameters of TEST_BIST. -/
structure TestBistP where
  mask : Nat := 0
  rangeBase : Nat := 0
  rangeLen : Nat := 0
deriving DecidableEq, Repr

/-- Parameters of TEST_PATTERN. -/
structure TestPatternP where
  target : Nat := 0
  pattern : Nat := 0
  durationMs : Nat := 0
  channel : Nat := 0
  phyMode : Nat := 0
  powerHdbm : Int := 0
  toneKhz : Nat := 0
deriving DecidableEq, Repr

/-- Parameters of TEST_STATUS. -/
structure TestStatusP where
  op : Nat := 0
deriving DecidableEq, Repr

/-- The parameters of a submission entry, by opcode (R561). -/
inductive Cmd where
  | sysInfo (p : SysInfoP)
  | sysReset (p : SysResetP)
  | sysState (p : SysStateP)
  | sysEventMap (p : SysEventMapP)
  | sysTimed (p : SysTimedP)
  | sysMgmtCfg (p : SysMgmtCfgP)
  | sysEthCfg (p : SysEthCfgP)
  | sysMacsecSa (p : SysMacsecSaP)
  | radChainCfg (p : RadChainCfgP)
  | radCal (p : RadCalP)
  | radTuner (p : RadTunerP)
  | radCoexCfg (p : RadCoexCfgP)
  | radAgcCfg (p : RadAgcCfgP)
  | radPaRamp (p : RadPaRampP)
  | radTxRaw (p : RadTxRawP)
  | radBlankMap (p : RadBlankMapP)
  | laneAssign (p : LaneAssignP)
  | lanePhyCfg (p : LanePhyCfgP)
  | laneCaptureCfg (p : LaneCaptureCfgP)
  | laneStatus (p : LaneStatusP)
  | laneFlush (p : LaneFlushP)
  | laneBitload (p : LaneBitloadP)
  | slotCfg (p : SlotCfgP)
  | slotListLoad (p : SlotListLoadP)
  | slotListActivate (p : SlotListActivateP)
  | slotSuperframeCfg (p : SlotSuperframeCfgP)
  | slotTx (p : SlotTxP)
  | slotFrontCfg (p : SlotFrontCfgP)
  | slotStatus (p : SlotStatusP)
  | slotFollowCfg (p : SlotFollowCfgP)
  | budgRegionLoad (p : BudgRegionLoadP)
  | budgStatus (p : BudgStatusP)
  | tmQueueCfg (p : TmQueueCfgP)
  | tmMeterCfg (p : TmMeterCfgP)
  | tmShaperCfg (p : TmShaperCfgP)
  | tmClassMap (p : TmClassMapP)
  | tmStats (p : TmStatsP)
  | tblNodeInsert (p : TblNodeInsertP)
  | tblNodeDelete (p : TblNodeDeleteP)
  | tblPrefixAdd (p : TblPrefixAddP)
  | tblPrefixDel (p : TblPrefixDelP)
  | tblAgingCfg (p : TblAgingCfgP)
  | tblLookup (p : TblLookupP)
  | tblEvictPolicy (p : TblEvictPolicyP)
  | tblCfg (p : TblCfgP)
  | tblNeighbourSet (p : TblNeighbourSetP)
  | tblStatus (p : TblStatusP)
  | keyImport (p : KeyImportP)
  | keyDerive (p : KeyDeriveP)
  | keyStage (p : KeyStageP)
  | keyCommit (p : KeyCommitP)
  | keyErase (p : KeyEraseP)
  | keyInfo (p : KeyInfoP)
  | keyInvalidate (p : KeyInvalidateP)
  | keyAttest (p : KeyAttestP)
  | keyStoreCfg (p : KeyStoreCfgP)
  | cryOp (p : CryOpP)
  | crySign (p : CrySignP)
  | cryVerify (p : CryVerifyP)
  | cryHash (p : CryHashP)
  | cryXtsRegion (p : CryXtsRegionP)
  | cryChkCfg (p : CryChkCfgP)
  | cryStatus (p : CryStatusP)
  | updOpen (p : UpdOpenP)
  | updBlock (p : UpdBlockP)
  | updStatus (p : UpdStatusP)
  | updVerify (p : UpdVerifyP)
  | updActivate (p : UpdActivateP)
  | updCampaignCfg (p : UpdCampaignCfgP)
  | updCampaignCtrl (p : UpdCampaignCtrlP)
  | timeStep (p : TimeStepP)
  | timeRate (p : TimeRateP)
  | timeSelect (p : TimeSelectP)
  | timeTrigger (p : TimeTriggerP)
  | timeCaptureCfg (p : TimeCaptureCfgP)
  | timePtpPortCfg (p : TimePtpPortCfgP)
  | timeDomainCfg (p : TimeDomainCfgP)
  | timeStatus (p : TimeStatusP)
  | lnkPortCfg (p : LnkPortCfgP)
  | lnkTopology (p : LnkTopologyP)
  | lnkStatus (p : LnkStatusP)
  | lnkSend (p : LnkSendP)
  | twinCfg (p : TwinCfgP)
  | twinClaim (p : TwinClaimP)
  | twinSwitch (p : TwinSwitchP)
  | twinStatus (p : TwinStatusP)
  | twinSaveState (p : TwinSaveStateP)
  | hlthStatus (p : HlthStatusP)
  | hlthSpareMap (p : HlthSpareMapP)
  | hlthRetire (p : HlthRetireP)
  | diagDumpRead (p : DiagDumpReadP)
  | diagUnfreeze (p : DiagUnfreezeP)
  | diagFwRegion (p : DiagFwRegionP)
  | testLoopback (p : TestLoopbackP)
  | testBist (p : TestBistP)
  | testPattern (p : TestPatternP)
  | testStatus (p : TestStatusP)
deriving DecidableEq, Repr

/-- A submission entry as HIF fetches it (R105): its header and the command its opcode and parameters spell, none where
the opcode is not one of R561. -/
structure Entry where
  hdr : Hdr := {}
  cmd : Option Cmd := none
deriving DecidableEq, Repr

/-- A KEY entry of a delta record (R472). -/
structure KeyDelta where
  slot : Nat := 0
  state : Nat := 0
  gen : Nat := 0
  parent : Option (Nat × Nat) := none
  usageCount : Nat := 0
  ktype : Nat := 0
  engines : Nat := 0
  nonceMode : Nat := 0
  depth : Nat := 0
  blob : List Byte := []
deriving DecidableEq, Repr

/-- A REPLAY entry of a delta record (R472). -/
structure ReplayDelta where
  nbr : Nat := 0
  keyGen : Nat := 0
  rxH : Nat := 0
  rxMap : Nat := 0
  winEmpty : Bool := false
  lastHeard : Nat := 0
  seqTime : Nat := 0
  lastSeq : Nat := 0
deriving DecidableEq, Repr

/-- A delta record or BULK copy (R471, R472) by its sections. -/
structure DeltaRec where
  seq : Nat := 0
  asn : Nat := 0
  boundary : Int := 0
  last : Bool := false
  cmds : List Entry := []
  keys : List KeyDelta := []
  counters : List (Nat × Nat × Nat) := []
  replay : List ReplayDelta := []
  nbrs : List (Nat × List Byte) := []
  nodes : List (Nat × Nat × Nat) := []
  queues : List (Nat × List Nat) := []
  frontF : Int := 0
  frontP : Int := 0
  guardUs : Nat := 0
  misses : Nat := 0
  lists : List Nat := []
  camps : List (Nat × Nat × Nat × List (Nat × Byte)) := []
deriving DecidableEq, Repr

/-- The commands the block takes: one constructor per row of the table. -/
inductive Instr where
  | sysInfo (h : Hdr) (p : SysInfoP)
  | sysReset (h : Hdr) (p : SysResetP)
  | sysState (h : Hdr) (p : SysStateP)
  | sysEventMap (h : Hdr) (p : SysEventMapP)
  | sysTimed (h : Hdr) (p : SysTimedP)
  | sysMgmtCfg (h : Hdr) (p : SysMgmtCfgP)
  | sysEthCfg (h : Hdr) (p : SysEthCfgP)
  | sysMacsecSa (h : Hdr) (p : SysMacsecSaP)
  | radChainCfg (h : Hdr) (p : RadChainCfgP)
  | radCal (h : Hdr) (p : RadCalP)
  | radTuner (h : Hdr) (p : RadTunerP)
  | radCoexCfg (h : Hdr) (p : RadCoexCfgP)
  | radAgcCfg (h : Hdr) (p : RadAgcCfgP)
  | radPaRamp (h : Hdr) (p : RadPaRampP)
  | radTxRaw (h : Hdr) (p : RadTxRawP)
  | radBlankMap (h : Hdr) (p : RadBlankMapP)
  | laneAssign (h : Hdr) (p : LaneAssignP)
  | lanePhyCfg (h : Hdr) (p : LanePhyCfgP)
  | laneCaptureCfg (h : Hdr) (p : LaneCaptureCfgP)
  | laneStatus (h : Hdr) (p : LaneStatusP)
  | laneFlush (h : Hdr) (p : LaneFlushP)
  | laneBitload (h : Hdr) (p : LaneBitloadP)
  | slotCfg (h : Hdr) (p : SlotCfgP)
  | slotListLoad (h : Hdr) (p : SlotListLoadP)
  | slotListActivate (h : Hdr) (p : SlotListActivateP)
  | slotSuperframeCfg (h : Hdr) (p : SlotSuperframeCfgP)
  | slotTx (h : Hdr) (p : SlotTxP)
  | slotFrontCfg (h : Hdr) (p : SlotFrontCfgP)
  | slotStatus (h : Hdr) (p : SlotStatusP)
  | slotFollowCfg (h : Hdr) (p : SlotFollowCfgP)
  | budgRegionLoad (h : Hdr) (p : BudgRegionLoadP)
  | budgStatus (h : Hdr) (p : BudgStatusP)
  | tmQueueCfg (h : Hdr) (p : TmQueueCfgP)
  | tmMeterCfg (h : Hdr) (p : TmMeterCfgP)
  | tmShaperCfg (h : Hdr) (p : TmShaperCfgP)
  | tmClassMap (h : Hdr) (p : TmClassMapP)
  | tmStats (h : Hdr) (p : TmStatsP)
  | tblNodeInsert (h : Hdr) (p : TblNodeInsertP)
  | tblNodeDelete (h : Hdr) (p : TblNodeDeleteP)
  | tblPrefixAdd (h : Hdr) (p : TblPrefixAddP)
  | tblPrefixDel (h : Hdr) (p : TblPrefixDelP)
  | tblAgingCfg (h : Hdr) (p : TblAgingCfgP)
  | tblLookup (h : Hdr) (p : TblLookupP)
  | tblEvictPolicy (h : Hdr) (p : TblEvictPolicyP)
  | tblCfg (h : Hdr) (p : TblCfgP)
  | tblNeighbourSet (h : Hdr) (p : TblNeighbourSetP)
  | tblStatus (h : Hdr) (p : TblStatusP)
  | keyImport (h : Hdr) (p : KeyImportP)
  | keyDerive (h : Hdr) (p : KeyDeriveP)
  | keyStage (h : Hdr) (p : KeyStageP)
  | keyCommit (h : Hdr) (p : KeyCommitP)
  | keyErase (h : Hdr) (p : KeyEraseP)
  | keyInfo (h : Hdr) (p : KeyInfoP)
  | keyInvalidate (h : Hdr) (p : KeyInvalidateP)
  | keyAttest (h : Hdr) (p : KeyAttestP)
  | keyStoreCfg (h : Hdr) (p : KeyStoreCfgP)
  | cryOp (h : Hdr) (p : CryOpP)
  | crySign (h : Hdr) (p : CrySignP)
  | cryVerify (h : Hdr) (p : CryVerifyP)
  | cryHash (h : Hdr) (p : CryHashP)
  | cryXtsRegion (h : Hdr) (p : CryXtsRegionP)
  | cryChkCfg (h : Hdr) (p : CryChkCfgP)
  | cryStatus (h : Hdr) (p : CryStatusP)
  | updOpen (h : Hdr) (p : UpdOpenP)
  | updBlock (h : Hdr) (p : UpdBlockP)
  | updStatus (h : Hdr) (p : UpdStatusP)
  | updVerify (h : Hdr) (p : UpdVerifyP)
  | updActivate (h : Hdr) (p : UpdActivateP)
  | updCampaignCfg (h : Hdr) (p : UpdCampaignCfgP)
  | updCampaignCtrl (h : Hdr) (p : UpdCampaignCtrlP)
  | timeStep (h : Hdr) (p : TimeStepP)
  | timeRate (h : Hdr) (p : TimeRateP)
  | timeSelect (h : Hdr) (p : TimeSelectP)
  | timeTrigger (h : Hdr) (p : TimeTriggerP)
  | timeCaptureCfg (h : Hdr) (p : TimeCaptureCfgP)
  | timePtpPortCfg (h : Hdr) (p : TimePtpPortCfgP)
  | timeDomainCfg (h : Hdr) (p : TimeDomainCfgP)
  | timeStatus (h : Hdr) (p : TimeStatusP)
  | lnkPortCfg (h : Hdr) (p : LnkPortCfgP)
  | lnkTopology (h : Hdr) (p : LnkTopologyP)
  | lnkStatus (h : Hdr) (p : LnkStatusP)
  | lnkSend (h : Hdr) (p : LnkSendP)
  | twinCfg (h : Hdr) (p : TwinCfgP)
  | twinClaim (h : Hdr) (p : TwinClaimP)
  | twinSwitch (h : Hdr) (p : TwinSwitchP)
  | twinStatus (h : Hdr) (p : TwinStatusP)
  | twinSaveState (h : Hdr) (p : TwinSaveStateP)
  | hlthStatus (h : Hdr) (p : HlthStatusP)
  | hlthSpareMap (h : Hdr) (p : HlthSpareMapP)
  | hlthRetire (h : Hdr) (p : HlthRetireP)
  | diagDumpRead (h : Hdr) (p : DiagDumpReadP)
  | diagUnfreeze (h : Hdr) (p : DiagUnfreezeP)
  | diagFwRegion (h : Hdr) (p : DiagFwRegionP)
  | testLoopback (h : Hdr) (p : TestLoopbackP)
  | testBist (h : Hdr) (p : TestBistP)
  | testPattern (h : Hdr) (p : TestPatternP)
  | testStatus (h : Hdr) (p : TestStatusP)
  | sqDoorbellWrite (q : Nat) (value : Nat)
  | commandFetch (e : Entry)
  | commandRelease (qp : Nat) (tag : Nat)
  | cqDoorbellWrite (q : Nat) (value : Nat)
  | qpEnable (func : Nat) (q : Nat) (ctrl : Nat)
  | qpDisable (func : Nat) (q : Nat) (ctrl : Nat)
  | deadlineAbandon (qp : Nat) (tag : Nat)
  | delayListWalk
  | coalTimeExpiry (kind : Nat) (index : Nat)
  | msixUnmask (func : Nat) (vector : Nat)
  | evtCauseClear (k : Nat) (value : Nat)
  | registerWrite (func : Nat) (addr : Nat) (value : Nat)
  | rcCounterRead (addr : Nat)
  | resetCtrlWarm (key : Nat)
  | resetCtrlFull (key : Nat)
  | spiSubmit (e : Entry) (lengthOk : Bool)
  | spiReadReply
  | spiReadStatus
  | mgmtVlanFrame (port : Nat) (mac : Nat) (vlan : Nat) (verified : Bool) (seq : Nat) (entries : List Entry)
  | powerOnReset (coreLow : Bool)
  | sysResetNLow (lowNs : Nat)
  | resetEnd (probe : BootProbe)
  | initDone (probe : InitProbe)
  | bootWatchdogExpiry
  | perstNRise
  | pcieLinkUp (width : Nat) (speed : Nat)
  | supplyExcursion (rail : Nat) (lowPm : Int) (highPm : Int) (stillLow : Bool) (throughLow : Bool) (throughHigh : Bool) (durPs : Nat)
  | tamperAlarm (sensor : Nat)
  | tamperLoopSample (loop : Nat) (mismatch : Bool)
  | temperatureSample (degC : Int)
  | vbatLoss
  | refLoss (ref : Nat)
  | refReturn (ref : Nat)
  | avsEvaluate (targetMv : Nat) (attempts : Nat)
  | lullEntry
  | lullWake (source : Nat) (gpio : Nat)
  | pwrGoodRise (lullCycles : Nat) (segmentsOk : Bool) (savedOk : Bool)
  | fatalError (cause : Nat) (core : Nat)
  | synthFreqWrite (chain : Nat)
  | synthLock (chain : Nat)
  | synthUnlock (chain : Nat)
  | txCoexReq (chain : Nat)
  | txRffeSeqOn (chain : Nat)
  | grantDeadline (chain : Nat) (level : Bool)
  | txPaEnable (chain : Nat)
  | lockDeadline (chain : Nat)
  | txModulationStart (chain : Nat)
  | txLastSymbol (chain : Nat) (fwd : Int) (rev : Int) (inputOk : Bool)
  | txPaDisable (chain : Nat)
  | txEnRelease (chain : Nat)
  | blankEnd (chain : Nat)
  | coexGrantRevoke (chain : Nat)
  | tunerSearchTimeout (chain : Nat)
  | calStart (chain : Nat)
  | calDone (chain : Nat) (failedStep : Nat) (degC : Int)
  | autoRecalTrigger (chain : Nat) (degC : Int)
  | nbAgcUpdate (chain : Nat) (level : Int)
  | adcClip (chain : Nat) (clipped : Nat)
  | preambleDetect (phys : Nat) (corr : Nat) (rssi : Int)
  | syncFieldEnd (phys : Nat)
  | maxPreambleTimeout (phys : Nat)
  | headerCheck (phys : Nat) (hdr : PhyHdr)
  | laneCellAlloc (phys : Nat) (data : List Byte) (backpressure : Bool)
  | laneFrameEnd (phys : Nat) (fcsOk : Bool) (snr : Int) (toneSnr : List Nat)
  | listenWindowOpen (lane : Nat)
  | listenWindowClose (lane : Nat)
  | deferredConfigApply (lane : Nat)
  | laneFail (phys : Nat)
  | laneSpareMove (lane : Nat)
  | snapshotEnd (lane : Nat)
  | chkPauseWrite (u : Nat) (value : Nat)
  | chkPauseEffect (u : Nat)
  | chkValueWrite (u : Nat) (value : Nat)
  | chkResultRead (u : Nat)
  | comparatorFire (n : Nat)
  | timeInEdge (input : Nat) (falling : Bool)
  | frontInEdge (falling : Bool)
  | frontPositionMissing
  | slewDone
  | holdRelease
  | rateFold (domain : Nat)
  | ptpEventRx (port : Nat) (msg : PtpMsg)
  | ptpTcEgress (port : Nat) (id : Nat)
  | ptpOffsetMeasure (domain : Nat) (offsetNs : Int) (rateCorr : Int)
  | ptpAnnounceTimeout (domain : Nat)
  | timeSnapshotRead
  | captureEntryRead (input : Nat)
  | asnLatchRead
  | slotBoundary (env : SlotEnv)
  | superframeEvent (sf : Nat) (kind : Nat)
  | slotStopEffect
  | secureStart (chain : Nat)
  | secureDeadline (chain : Nat)
  | ackListenOpen (chain : Nat)
  | ackWaitEnd (chain : Nat) (ack : Option AckObs)
  | airRecordProcess (phys : Nat) (frame : AirFrame)
  | enhAckCommit (buffer : Nat)
  | beaconPeriodMiss
  | guardLimitReached
  | tmEnqueue
  | portServe (port : Nat)
  | wheelFineAdvance
  | wheelCoarseAdvance
  | learnWindowExpiry (kind : Nat) (panId : Nat) (addr : Nat)
  | learnHoldoffExpiry (kind : Nat) (panId : Nat) (addr : Nat)
  | learnHeadWrite (value : Nat)
  | agingSweepVisit (table : Nat) (index : Nat) (hitNow : Bool)
  | tblParityRepair (table : Nat) (index : Nat)
  | keyReferenceDrop (slot : Nat) (gen : Nat)
  | keyWaitExpiry (slot : Nat)
  | rxOverlapExpiry (slot : Nat)
  | identityGenerated
  | pufSpareEnrol (array : Nat) (active : Bool)
  | engineResume (engine : Nat)
  | journalEntryDurable (slot : Nat)
  | journalWriteFail (slot : Nat)
  | journalCompactDone
  | dropIntake
  | dropDurable (index : Nat) (readBackOk : Bool) (rewriteOk : Bool)
  | journalHeldFlush
  | fwVerifyDone (failedSegment : Option Nat) (imageOk : Bool)
  | autoCommitTimer
  | nodeReportRx (source : Nat) (report : NodeReport)
  | campaignWindowStart (c : Nat)
  | campaignWindowEnd (c : Nat)
  | reportWaitExpiry (c : Nat)
  | repairVisitTimeout (c : Nat) (member : Nat)
  | dlBlockLock (port : Nat)
  | dlHelloTx (port : Nat)
  | dlHelloRx (port : Nat) (setId : Nat) (memberId : Nat) (twin : Bool) (chipId : Nat)
  | dlTrainingUp (port : Nat)
  | dlLinkDownTimeout (port : Nat)
  | dlElasticOverflow (port : Nat)
  | dlFrameRx (port : Nat) (frame : LinkFrame)
  | deltaRx (delta : DeltaRec)
  | deltaAckTimeout
  | twinBulkRx (delta : DeltaRec)
  | heartbeatTx
  | heartbeatMissing
  | claimArbitration (peer : Option Nat) (busOk : Bool)
  | twinSaveDone (restore : Bool) (authOk : Bool)
  | ethFrameRx (port : Nat) (frame : EthFrame)
  | ethPauseExpiry (port : Nat)
  | ethLinkChange (port : Nat) (up : Bool) (speed : Nat)
  | ethPhyInt
  | thDoorbellWrite (ring : Nat) (value : Nat)
  | thFrameDeliver (ring : Nat) (bufs : List HostBuf)
  | fhDoorbellWrite (ring : Nat) (value : Nat)
  | fhEntryFetch (ring : Nat) (entry : FhEntry)
  | pf1WriteDrop (addr : Nat)
  | pcieFlr (func : Nat)
  | dramCe (addr : Nat)
  | dramUe (addr : Nat)
  | ddrCaAlert (addr : Nat) (again : Bool)
  | patrolScrub (wrapped : Bool)
  | ddrTempPoll (degC : Int)
  | pageRetireDone (page : Nat)
  | flashBlockFail (block : Nat)
  | sramEccError (mem : Nat) (uncorrectable : Bool) (dirty : Bool) (row : Nat)
  | coreWatchdogExpiry (core : Nat)
  | coreFail (core : Nat)
  | fwallViolation (master : Nat) (addr : Nat) (write : Bool)
  | masterOwnerReset (master : Nat)
  | fwallRecordRead
  | queueFlushWriter (queue : Nat) (tag : Nat) (lastWasEnd : Bool) (words : Nat) (items : Nat)
  | testComplete (sent : Nat) (received : Nat) (errors : Nat) (bistFail : Nat) (engines : Nat)
  | jtagInstruction (ir : Nat)
  | rawSlotBoundary (env : SlotEnv)
  | mainPowerRemoval
  | mainPowerRestore
  | twinWatchdogExpiry
  | campaignDoneWaitExpiry (c : Nat)
  | budgetBucketExpiry
  | pcieAerError (kind : Nat)
deriving DecidableEq, Repr

end Sys2Proof
end

