-- ==== Sys2Proof/Decode.lean ====
section
/-!
DEFINITION. The words of the command table: the table gives no row any bits, so no word spells a command.
-/
namespace Sys2Proof

/-- The command a word spells by the bits of the table: spec/opcode_table.json gives no row bits, so none. A submission
entry (R105) reaches the part by COMMAND_FETCH, whose operand is the entry by its fields. -/
def decodeTableWord (_nbits _w : Nat) : Option Instr := none

end Sys2Proof
end

