-- ==== Sys2Proof/Config.lean ====
section
/-!
DEFINITION. What one part or one draw fixes and the spec leaves open: constants without a body, so that no proof can see a value.
-/
namespace Sys2Proof.Config

/-- What the island's random source gives at draw n (R367, R369, R374, R388). Free value, log entry 3. -/
opaque randomByte : Nat → Nat → BitVec 8

/-- A uniform draw (R261, R330). Free value, log entry 3. -/
opaque randomNat : Nat → Nat

/-- The job number of an ST_PENDING reply (R117); the spec gives no numbering. Free value, log entry 4. -/
opaque jobNumber : Nat → Nat

/-- The handle of a frame's first packet-buffer cell (R18, R209); the spec gives no allocation order. Free value, log entry 4. -/
opaque bufferHandle : Nat → Nat

/-- Whether a row of the packet buffer holds a cell of the frame with this buffer handle (R18, R522). Free value, log entry 4. -/
opaque rowHolds : Nat → Nat → Bool

/-- The device serial in OTP, 8 bytes (R88). Log entry 5. -/
opaque serial : List (BitVec 8)

/-- The part's EUI-64 (R88). Log entry 5. -/
opaque eui64 : Nat

/-- The ordering code: 0 ZB9640-I, 1 ZB9640-E (R1, R88). Log entry 5. -/
opaque grade : Nat

/-- SHA-256 of the vendor's signer key in OTP (R76, R432). Log entry 5. -/
opaque otpKeyHash : List (BitVec 8)

/-- The modulus of the identity key (R392), by identity epoch. Log entry 5. -/
opaque identityModulus : Nat → List (BitVec 8)

/-- The private exponent of the identity key (R392), by identity epoch. Log entry 5. -/
opaque identityExponent : Nat → Nat

/-- The samples a snapshot writes (R214), by draw: what the antenna shows. Free value, log entry 6. -/
opaque sampleByte : Nat → Nat → BitVec 8

/-- The symbol-level duration of PHY modes whose preamble and payload coding the spec leaves to IEEE 802.15.4: PPDU air
time in us of mode, rate or MCS, and PSDU bytes (R182, R246, R247). Free value, log entry 7. -/
opaque airTimeUs : Nat → Nat → Nat → Nat

/-- The preamble and SFD of MR-O-QPSK by rate mode, in us (R246). Free value, log entry 7. -/
opaque oqpskShrUs : Nat → Nat

/-- What a register read returns that the spec ties to analogue or undelivered data. Free value, log entry 8. -/
opaque openWord : Nat → Nat

/-- The result-array entry a new prefix takes, by draw (R322, R339); the spec gives no order. Free value, log entry 13. -/
opaque resultIndex : Nat → Nat

/-- The status word of EV_HLTH_SPARE_EXHAUSTED by resource (R526); the spec gives the word no coding. Free value, log entry 14. -/
opaque resourceWord : Nat → Nat

/-- The status word of EV_TUNER_DONE by outcome, candidate and return loss (R165, R177); the spec gives no layout. Free value,
log entry 14. -/
opaque tunerWord : Nat → Nat → Nat → Nat

/-- Where in its slot a RAD_TX_RAW without act_time is placed, by draw (R178); the spec names the slot only. Free value, log
entry 15. -/
opaque rawOffset : Nat → Nat

/-- The MAC header of an acknowledgement, or the whole of an Imm-Ack (R264, R272): sequence number echoed, time correction in us, the map
information element's SEQ, RATE and map, security level, neighbour, and whether it is an Imm-Ack; the field layout is left to IEEE
802.15.4. Free value, log entry 16. -/
opaque ackFrame : Option Nat → Int → Option (Nat × Nat × List Nat) → Nat → Nat → Bool → List (BitVec 8)

/-- A MAC header with the drawn frame counter in its Auxiliary Security Header (R401); the layout is left to IEEE 802.15.4. Free value,
log entry 16. -/
opaque fillAux : List (BitVec 8) → Nat → List (BitVec 8)

/-- The sequence number of a MAC frame, none where it is suppressed (R259); the layout is left to IEEE 802.15.4. Free value, log entry
16. -/
opaque macSeq : List (BitVec 8) → Option Nat

/-- The MAC frame the packet engine makes of a downlink IPv6 frame for a neighbour, header and payload, and the IPv6 frame it
makes of an uplink payload: 6LoWPAN and the MAC header layout are left to RFC 6282 and IEEE 802.15.4 (R23, R27). Free values,
log entry 16. -/
opaque toAirHeader : List (BitVec 8) → Nat → List (BitVec 8)
opaque toAir : List (BitVec 8) → List (BitVec 8)
opaque fromAir : List (BitVec 8) → List (BitVec 8)

/-- Bytes of the MAC header of a MAC frame: its layout is left to IEEE 802.15.4 (R28, R399). Free value, log entry 16. -/
opaque macHeader : List (BitVec 8) → Nat

/-- The superframe beacon made of the template, the assigned-slot IE and the final CAP slot: where they go in the template is
left to IEEE 802.15.4 (R271). Free value, log entry 16. -/
opaque superBeacon : List (BitVec 8) → List (BitVec 8) → Nat → List (BitVec 8)

/-- The rate correction of the proportional-integral servo of R274, by draw and offset; the spec gives its bandwidth only. Free
value, log entry 17. -/
opaque servoRate : Nat → Int → Int

/-- The join metric that a beacon carries, by ASN (R267): the spec does not say where it comes from. Free value, log entry 16. -/
opaque joinMetric : Nat → Nat

/-- The Time Correction of an Enh-Ack in a superframe, by draw (R264, R272): the spec's formula needs a cell's template. Free value, log
entry 16. -/
opaque superCorrection : Nat → Int

/-- Security level and ACK request of a frame that the packet engine queues for a neighbour (R27, R326); the spec names no source for
them. Free values, log entry 19. -/
opaque downLevel : Nat → Nat
opaque downAck : Nat → Bool

/-- The sections of a delta record or BULK copy as bytes, by DELTA_SEQ (R472): the spec leaves the widths of several fields open. Free
value, log entry 20. -/
opaque deltaBody : Nat → List (BitVec 8)

/-- The Ethernet header of a frame that leaves on an Ethernet port, by the frame's bytes: addresses and EtherType are not given (R8, R23).
Free value, log entry 16. -/
opaque ethHeader : List (BitVec 8) → List (BitVec 8)

/-- The body of a DL2 heartbeat by claim, state and DELTA_SEQ (R476): the spec gives no layout. Free value, log entry 20. -/
opaque beatBody : Nat → Nat → Nat → List (BitVec 8)

/-- The size in bytes of a snapshot in the BULK section format, by draw (R481): the spec leaves section widths open. Free value, log
entry 20. -/
opaque savedBytes : Nat → Nat

/-- The UDP datagram that carries a drop record to an address and port (R448, R450): its source address and header fields are not
given. Free value, log entry 16. -/
opaque datagram : Nat → Nat → List (BitVec 8) → List (BitVec 8)

/-- Whether the fuse burnt at this draw reads back good (R529). Free value, log entry 5. -/
opaque burnOk : Nat → Bool

/-- The status word of EV_UPD_VERIFIED and EV_UPD_CAMPAIGN_READY, by event, outcome and first failing segment (R437, R445); the spec gives
no layout. Free value, log entry 14. -/
opaque outcomeWord : Nat → Nat → Nat → Nat

/-- The content of a dump section by TYPE, INSTANCE and draw (R536), where the spec leaves its layout open. Free value, log entry 21. -/
opaque dumpSection : Nat → Nat → Nat → List (BitVec 8)

/-- Where the counter of a bucket, sub-band and scope lies in the air budget window, as a 64-byte unit (R19, R523): the layout is not given.
Free value, log entry 23. -/
opaque budgetUnit : Nat → Nat → Nat → Nat

/-- The group of four cells that a 64-byte unit of the schedule lists holds, as 262144 times the slotframe plus a quarter of the position
(R19, R523): the layout is not given. Free value, log entry 23. -/
opaque listUnit : Nat → Nat

/-- Whether a command in flight, by queue pair and TAG, runs on the faulting thread of a frozen core, by draw (R520). Free value, log entry
24. -/
opaque onThread : Nat → Nat → Nat → Bool

/-- The firewall regions 0-15 firmware sets at INIT: base, pages, READ, WRITE, ENABLE (R516); the values are not given. Free value, log entry
25. -/
opaque fwRegion : Nat → Nat × Nat × Nat × Nat × Bool

/-- The manifest of the firmware in a slot that this part has not loaded itself (R79, R393, R427). Log entry 5. -/
opaque factoryManifest : Nat → List (BitVec 8)

end Sys2Proof.Config
end

