-- ==== Sys2Proof/WellFormed.lean ====
section
/-!
DEFINITION. Which command terms are well formed: every number fits the width the spec gives its field (R105, R561 and the
command tables of each chapter). The machine gives every term a meaning; a host sends only well-formed ones.
-/
namespace Sys2Proof

/-- n fits w bits. -/
def fitsU (w n : Nat) : Bool := n < 2 ^ w

/-- x fits w bits in two's complement. -/
def fitsS (w : Nat) (x : Int) : Bool := -(2 ^ (w - 1) : Int) ≤ x && x < (2 ^ (w - 1) : Int)

/-- The header's fields fit their widths (R105); the queue is 0-63, the management SPI 64 or VLAN 65. -/
def Hdr.wf (h : Hdr) : Bool :=
  h.qp ≤ 65 && fitsU 8 h.flags && fitsU 16 h.tag && fitsU 16 h.flow && fitsU 16 h.plen && fitsU 32 h.deadline &&
    fitsU 64 h.paramAddr && fitsU 64 h.actTime

/-- A cell descriptor fits R250. -/
def CellW.wf (c : CellW) : Bool :=
  fitsU 16 c.slotOffset && fitsU 16 c.channelOffset && fitsU 16 c.peer && fitsU 3 c.slotframe && fitsU 5 c.phy &&
    fitsU 8 c.classMask && fitsU 2 c.chain && fitsS 8 c.power && fitsU 4 c.mcs && fitsU 14 c.queue

/-- A user plan fits R177. -/
def UserPlan.wf (u : UserPlan) : Bool := 9 ≤ u.plan && u.plan ≤ 15 && fitsU 16 u.f0 && fitsU 8 u.spacing && fitsU 16 u.count

/-- An RFFE write fits R177. -/
def RffeWrite.wf (r : RffeWrite) : Bool := fitsU 8 r.usid && fitsU 16 r.addr && fitsU 8 r.data

/-- A tuner state has at most 4 writes (R165). -/
def TunerState.wf (t : TunerState) : Bool := t.writes.length ≤ 4 && t.writes.all RffeWrite.wf

/-- A sub-band entry fits R295. -/
def SubBand.wf (b : SubBand) : Bool :=
  fitsU 16 b.fLow && fitsU 16 b.fHigh && fitsU 32 b.chainPpm && fitsU 32 b.aggPpm && fitsU 16 b.maxOnMs

/-- An assigned-slot descriptor fits R271. -/
def GtsDesc.wf (d : GtsDesc) : Bool := fitsU 16 d.short && fitsU 4 d.start && fitsU 4 d.length

/-- A drop record fits R430. -/
def DropRec.wf (d : DropRec) : Bool := d.tag.length = 8 && fitsU 32 d.index && fitsU 16 d.data.length && fitsU 32 d.crc

/-- A member reference fits R455. -/
def MemberRef.wf (m : MemberRef) : Bool := fitsU 32 m.member && fitsU 128 m.address

/-- A route entry fits R486. -/
def Route.wf (r : Route) : Bool :=
  fitsU 16 r.member && fitsU 8 r.primary && fitsU 8 r.alternate && fitsU 16 r.hopsPrimary && fitsU 16 r.hopsAlternate

/-- The common key parameters fit R396. -/
def KeyAttr.wf (k : KeyAttr) : Bool :=
  fitsU 8 k.ktype && fitsU 8 k.engines && fitsU 8 k.nonceMode && fitsU 32 k.usageLimit && fitsU 32 k.warnMargin && fitsU 32 k.usageStart

/-- A timeslot template fits R245. -/
def Template.wf (t : Template) : Bool :=
  fitsU 16 t.txOffset && fitsU 16 t.rxGuard && fitsU 16 t.ackDelay && fitsU 16 t.ackGuard && fitsU 16 t.endGuard &&
    match t.maxAckPsdu with
    | some n => fitsU 8 n
    | none => true

/-- The settings of a campaign fit R455. -/
def CampCfg.wf (c : CampCfg) : Bool :=
  c.keyHash.length = 32 && c.nodeModel.length = 8 && fitsU 32 c.svFloor && fitsU 16 c.mcQueue && fitsU 16 c.repairQueue && fitsU 16 c.mcKeySlot &&
    fitsU 8 c.mcSecLevel && fitsU 128 c.mcGroup && fitsU 16 c.udpPort && fitsU 128 c.reportAddr && fitsU 16 c.reportPort && fitsU 64 c.windowAsn &&
    fitsU 32 c.windowLen && fitsU 32 c.windowPeriod && fitsU 8 c.fillFrames && fitsU 8 c.maxRounds && fitsU 32 c.mcMinMissing &&
    fitsU 16 c.reportWaitS && fitsU 8 c.repairPasses && fitsU 16 c.repairParallel && fitsU 8 c.repairInflight

/-- A posted buffer fits R502. -/
def HostBuf.wf (b : HostBuf) : Bool := fitsU 64 b.addr && fitsU 16 b.len

/-- The parameters of an opcode row fit their widths. -/
def Cmd.wf : Cmd → Bool
  | .sysInfo p => fitsU 8 p.op && fitsU 64 p.bufferAddr
  | .sysReset p => fitsU 8 p.kind
  | .sysState p => fitsU 8 p.op && fitsU 8 p.lullDram && fitsU 8 p.wakeGpio && fitsU 32 p.wakeTimerS
  | .sysEventMap p => fitsU 16 p.firstSrc && fitsU 16 p.count && fitsU 8 p.vector && fitsU 8 p.toPf1 && fitsU 8 p.enable
  | .sysTimed p => fitsU 8 p.queue && fitsU 8 p.timeRef && fitsU 32 p.lateNs && fitsU 32 p.maxAheadS
  | .sysMgmtCfg p => fitsU 8 p.enable && fitsU 8 p.portMask && fitsU 16 p.vlanId
  | .sysEthCfg p => fitsU 8 p.port && fitsU 8 p.mode && fitsU 8 p.autoneg && fitsU 16 p.maxFrame && fitsU 8 p.pauseRx && fitsU 48 p.macAddr && fitsU 8 p.macsec && fitsU 8 p.eapolRing
  | .sysMacsecSa p => fitsU 8 p.port && fitsU 8 p.op && fitsU 64 p.sci && fitsU 8 p.an && fitsU 16 p.slot && fitsU 64 p.nextPn && fitsU 32 p.ssci && fitsU 96 p.salt && fitsU 8 p.encrypt && fitsU 32 p.replayWindow && fitsU 64 p.pnWarn
  | .radChainCfg p => fitsU 16 p.windowCentre && fitsU 16 p.phyEnable && p.planForPhy.all (fitsU 4) && p.rampForPhy.all (fitsU 4) && fitsS 16 p.rxFeGain && fitsU 8 p.couplerSrc && fitsS 16 p.cplFwd && fitsU 8 p.mismatchRl && fitsU 8 p.backoffStep && fitsU 8 p.maxBackoff && fitsU 8 p.autoRecal && p.userPlans.all UserPlan.wf && p.txOn.all RffeWrite.wf && p.txOff.all RffeWrite.wf && p.rxWindow.all RffeWrite.wf
  | .radCal p => fitsU 8 p.steps
  | .radTuner p => fitsU 8 p.op && p.states.all TunerState.wf
  | .radCoexCfg p => fitsU 8 p.coexMode && fitsU 8 p.grantPolarity && fitsU 16 p.reqLeadUs && fitsU 8 p.priMask && fitsU 8 p.priAck && fitsU 8 p.abortOnRevoke
  | .radAgcCfg p => fitsU 8 p.agcMode && fitsS 16 p.wbTarget && fitsS 16 p.nbTarget && fitsU 8 p.clipCount
  | .radPaRamp p => fitsU 8 p.profile && fitsU 8 p.rampUs && fitsU 8 p.paLeadUs && p.points.all (fitsU 16)
  | .radTxRaw p => fitsU 16 p.channel && fitsU 8 p.phyMode && fitsS 8 p.powerHdbm && fitsU 8 p.kind && fitsU 32 p.bufferHandle && fitsU 16 p.length && fitsU 8 p.cls && fitsU 32 p.durationUs
  | .radBlankMap p => p.dist.all (fitsU 16)
  | .laneAssign p => fitsU 8 p.chain && fitsU 8 p.kind && fitsU 16 p.channel && fitsU 8 p.phyMode
  | .lanePhyCfg p => fitsU 8 p.phyMode && fitsU 8 p.detThreshold && fitsS 16 p.edFloor && fitsU 16 p.maxPreambleUs && fitsU 16 p.maxPsdu && fitsU 8 p.fskFec && fitsU 8 p.fskWhitening && fitsU 8 p.fskSfdSet && fitsU 8 p.rateMask && fitsU 8 p.mcsMask
  | .laneCaptureCfg p => fitsU 8 p.op && fitsU 8 p.captureMargin && fitsU 8 p.spawnEnable && fitsU 8 p.trigger && fitsU 8 p.comparator && fitsU 16 p.preUs && fitsU 32 p.samples && fitsU 64 p.bufferAddr
  | .laneStatus p => fitsU 8 p.clear
  | .laneFlush _ => true
  | .laneBitload p => fitsU 8 p.op && fitsU 8 p.margin && p.thr.all (fitsU 8) && fitsU 8 p.minChange && fitsU 8 p.ratePolicy && fitsU 8 p.nullPeriod
  | .slotCfg p => fitsU 8 p.op && fitsU 16 p.slotLenUs && fitsU 64 p.asnStart && fitsU 64 p.startTimeNs && fitsU 8 p.maxRetries && fitsU 8 p.minBe && fitsU 8 p.maxBe && fitsU 8 p.preBytes && fitsU 8 p.fskTx && fitsU 8 p.ackUnknown && fitsU 16 p.dupWindowMs && fitsU 8 p.txReportRing && fitsU 8 p.reportAll && fitsU 8 p.ebAsnOffset && fitsU 8 p.ebSecLevel && fitsU 16 p.ebKeySlot && p.tmpl.wf && fitsU 16 p.hopLen && p.channels.all (fitsU 16)
  | .slotListLoad p => fitsU 8 p.op && fitsU 16 p.sfLen && fitsU 64 p.hostAddr && p.cells.all CellW.wf
  | .slotListActivate p => fitsU 8 p.op && fitsU 64 p.asn
  | .slotSuperframeCfg p => fitsU 8 p.op && fitsU 8 p.chain && fitsU 16 p.channel && fitsU 8 p.phyMode && fitsU 8 p.bo && fitsU 8 p.so && fitsU 64 p.anchorAsn && fitsU 16 p.anchorOffsetUs && fitsU 16 p.ackTurnaroundUs && p.descs.all GtsDesc.wf
  | .slotTx p => fitsU 16 p.neighbour && fitsU 64 p.hostAddr && fitsU 8 p.cls && fitsU 16 p.queue && fitsU 8 p.ackReq && fitsU 8 p.secLevel
  | .slotFrontCfg p => fitsU 8 p.src && fitsU 8 p.port && fitsU 8 p.edge && fitsU 16 p.periodSlots && fitsU 64 p.anchorAsn && fitsS 32 p.offsetNs && fitsU 16 p.windowUs && fitsU 16 p.maxShiftUs && fitsU 32 p.lockNs && fitsU 8 p.lossCount
  | .slotStatus p => fitsU 8 p.op && fitsU 64 p.bufferAddr && fitsU 8 p.clear
  | .slotFollowCfg p => fitsU 8 p.enable && fitsU 16 p.timeSource && fitsU 16 p.ebPeriodSlots && fitsU 16 p.driftPpb && fitsU 16 p.maxExtraGuardUs
  | .budgRegionLoad p => fitsU 16 p.regionId && fitsU 16 p.windowS && fitsU 8 p.warnPct && p.entries.all SubBand.wf
  | .budgStatus p => fitsU 8 p.subband && fitsU 8 p.clear
  | .tmQueueCfg p => fitsU 8 p.port && fitsU 8 p.cls && fitsU 8 p.ring && fitsU 16 p.quantum && fitsU 32 p.maxBytes && fitsU 16 p.maxFrames && fitsU 8 p.yellowPct && fitsU 16 p.shaper && fitsU 8 p.nbCap
  | .tmMeterCfg p => fitsU 8 p.mode && fitsU 8 p.colourAware && fitsU 8 p.redAction && fitsU 32 p.cirKbps && fitsU 32 p.cbs && fitsU 32 p.pirKbps && fitsU 32 p.pbsEbs
  | .tmShaperCfg p => fitsU 32 p.rate10bps && fitsU 32 p.burst && fitsU 8 p.tokenOnChange
  | .tmClassMap p => fitsU 8 p.op && fitsU 16 p.index && fitsU 64 p.entry && p.map.all (fitsU 8) && fitsU 8 p.enable && fitsU 16 p.udpPort && fitsU 8 p.cls && fitsU 16 p.unknownQueue && fitsU 16 p.reserveCells
  | .tmStats p => fitsU 8 p.clear
  | .tblNodeInsert p => fitsU 8 p.kind && fitsU 8 p.flags && fitsU 16 p.panId && fitsU 64 p.addr && fitsU 16 p.nextHop && fitsU 16 p.tmProfile
  | .tblNodeDelete p => fitsU 8 p.kind && fitsU 16 p.panId && fitsU 64 p.addr && fitsU 8 p.force
  | .tblPrefixAdd p => fitsU 64 p.pfx && fitsU 8 p.plen && fitsU 8 p.action && fitsU 8 p.port && fitsU 16 p.panId && fitsU 16 p.tmProfile && fitsU 8 p.replace
  | .tblPrefixDel p => fitsU 64 p.pfx && fitsU 8 p.plen
  | .tblAgingCfg p => fitsU 8 p.table && fitsU 32 p.periodS
  | .tblLookup p => fitsU 8 p.kind && fitsU 16 p.panId && fitsU 64 p.addr && fitsU 8 p.setHit && fitsU 64 p.bufferAddr
  | .tblEvictPolicy p => fitsU 8 p.policy && fitsU 16 p.maxKicks
  | .tblCfg p => fitsU 32 p.hashSeed && fitsU 16 p.airPanId && fitsU 8 p.nearPct && fitsU 8 p.unknownRing && fitsU 8 p.learnEnable && fitsU 64 p.learnBase && fitsU 8 p.learnLog2 && fitsU 16 p.windowMs && fitsU 16 p.holdoffMs && fitsU 8 p.peerPorts
  | .tblNeighbourSet p => fitsU 8 p.op && fitsU 8 p.flags && fitsU 64 p.eui64 && fitsU 16 p.short && fitsU 16 p.panId && fitsU 16 p.keySlot && fitsU 32 p.rxHStart
  | .tblStatus p => fitsU 8 p.clear && fitsU 64 p.bufferAddr
  | .keyImport p => fitsU 8 p.src && fitsU 8 p.replace && p.attr.wf && fitsU 32 p.record && fitsU 16 p.parent && fitsU 32 p.store && fitsU 64 p.outAddr
  | .keyDerive p => fitsU 16 p.parent && fitsU 8 p.replace && p.attr.wf && fitsU 32 p.store && fitsU 64 p.outAddr
  | .keyStage p => fitsU 8 p.src && fitsU 8 p.replace && p.attr.wf && fitsU 32 p.record && fitsU 16 p.parent && fitsU 32 p.store && fitsU 64 p.outAddr && fitsU 8 p.kcvPresent && fitsU 32 p.kcv && fitsU 16 p.rxOverlapMs
  | .keyCommit p => fitsU 32 p.kcv
  | .keyErase _ => true
  | .keyInfo p => fitsU 64 p.bufferAddr
  | .keyInvalidate p => fitsU 8 p.engines
  | .keyAttest p => fitsU 16 p.slotFirst && fitsU 16 p.slotCount && fitsU 64 p.bufferAddr
  | .keyStoreCfg p => fitsU 8 p.lockPlain && fitsU 8 p.loopArm && fitsU 8 p.loopMismatch
  | .cryOp p => fitsU 8 p.op && fitsU 16 p.slot && fitsU 64 p.srcAddr && fitsU 8 p.secLevel && fitsU 32 p.frameCounter && fitsU 64 p.tweak && fitsU 16 p.unit && fitsU 64 p.outAddr
  | .crySign p => fitsU 16 p.slot && fitsU 64 p.sigAddr
  | .cryVerify p => fitsU 32 p.exponent
  | .cryHash p => fitsU 8 p.op && fitsU 8 p.mode && fitsU 16 p.slot && fitsU 8 p.context && fitsU 64 p.outAddr
  | .cryXtsRegion p => fitsU 8 p.region && fitsU 8 p.op && fitsU 64 p.base && fitsU 64 p.size && fitsU 16 p.slot
  | .cryChkCfg p => fitsU 8 p.op && fitsU 8 p.lane && fitsU 8 p.poly && fitsU 8 p.mode && fitsU 8 p.skipAbort && fitsU 32 p.init && fitsU 8 p.expectEn && fitsU 32 p.expect
  | .cryStatus p => fitsU 8 p.clear && fitsU 64 p.bufferAddr
  | .updOpen p => fitsU 8 p.replace && fitsU 8 p.acceptMask && fitsU 16 p.intakePort && fitsU 8 p.autoVerify
  | .updBlock p => p.records.all DropRec.wf
  | .updStatus p => fitsU 64 p.bufferAddr && fitsU 8 p.clear
  | .updVerify _ => true
  | .updActivate p => fitsU 8 p.op && fitsU 8 p.restart && fitsU 32 p.commitAfterS
  | .updCampaignCfg p => fitsU 8 p.op && p.cfg.wf && p.members.all MemberRef.wf
  | .updCampaignCtrl p => fitsU 8 p.op && fitsU 128 p.address && fitsU 32 p.member && fitsU 64 p.bufferAddr
  | .timeStep p => fitsS 64 p.stepNs && fitsU 16 p.stepFrac && fitsU 8 p.markTracked
  | .timeRate p => fitsS 32 p.rate
  | .timeSelect p => fitsU 8 p.domain && fitsU 16 p.stepThresholdNs && fitsU 8 p.slewPpm && fitsU 8 p.force
  | .timeTrigger p => fitsU 8 p.op && fitsU 8 p.ref && fitsU 64 p.targetNs && fitsU 32 p.periodNs && fitsU 8 p.actions && fitsU 8 p.pin && fitsU 8 p.pinMode && fitsU 32 p.pulseNs
  | .timeCaptureCfg p => fitsU 8 p.input && fitsU 8 p.edge && fitsU 8 p.clear
  | .timePtpPortCfg p => fitsU 8 p.enable && fitsU 8 p.tcEnable && fitsU 8 p.transports && fitsU 8 p.mapA && fitsU 8 p.mapB && fitsS 32 p.asymmetryNs
  | .timeDomainCfg p => fitsU 8 p.src && fitsU 8 p.port && fitsU 8 p.domainNumber && fitsU 32 p.stepLimitNs && fitsU 32 p.lockNs && fitsU 8 p.announceTimeout
  | .timeStatus _ => true
  | .lnkPortCfg p => fitsU 8 p.enable && fitsU 8 p.role && fitsU 16 p.expectedPeer && fitsU 16 p.txSlot && fitsU 16 p.rxSlot && fitsU 16 p.linkDownUs && fitsU 8 p.boundaryOut && fitsU 8 p.handoverOut
  | .lnkTopology p => fitsU 32 p.setId && fitsU 16 p.memberId && fitsU 8 p.kind && fitsU 16 p.members && fitsU 16 p.timeRoot && fitsU 16 p.coordBudgetUs && fitsU 32 p.timeGuardNs && fitsU 32 p.rootErrNs && fitsU 16 p.hopLimit && fitsU 8 p.linkRing && p.routes.all Route.wf
  | .lnkStatus p => fitsU 8 p.clear
  | .lnkSend p => fitsU 8 p.vl && fitsU 8 p.kind && fitsU 16 p.dst
  | .twinCfg p => fitsU 8 p.op && fitsU 8 p.chipId && fitsU 16 p.claimOffsetUs && fitsU 16 p.deltaAckUs
  | .twinClaim p => fitsU 8 p.op && fitsU 8 p.priority
  | .twinSwitch _ => true
  | .twinStatus p => fitsU 8 p.clear
  | .twinSaveState p => fitsU 8 p.op && fitsU 32 p.usageFloor
  | .hlthStatus p => fitsU 8 p.clear
  | .hlthSpareMap p => fitsU 8 p.op && fitsU 8 p.reserve && fitsU 64 p.bufferAddr
  | .hlthRetire p => fitsU 8 p.kind && fitsU 32 p.index
  | .diagDumpRead p => fitsU 8 p.op && fitsU 8 p.src && fitsU 32 p.offset && fitsU 32 p.len && fitsU 64 p.bufferAddr
  | .diagUnfreeze _ => true
  | .diagFwRegion p => fitsU 8 p.region && fitsU 8 p.op && fitsU 64 p.base && fitsU 64 p.size && fitsU 8 p.readGroups && fitsU 8 p.writeGroups
  | .testLoopback p => fitsU 8 p.target && fitsU 8 p.depth && fitsU 8 p.pattern && fitsU 16 p.frameLen && fitsU 32 p.durationMs && fitsU 16 p.channel && fitsU 8 p.phyMode && fitsS 8 p.powerHdbm
  | .testBist p => fitsU 16 p.mask && fitsU 64 p.rangeBase && fitsU 64 p.rangeLen
  | .testPattern p => fitsU 8 p.target && fitsU 8 p.pattern && fitsU 32 p.durationMs && fitsU 16 p.channel && fitsU 8 p.phyMode && fitsS 8 p.powerHdbm && fitsU 16 p.toneKhz
  | .testStatus p => fitsU 8 p.op

/-- A submission entry fits R105. -/
def Entry.wf (e : Entry) : Bool := e.hdr.wf && match e.cmd with | some c => c.wf | none => true

/-- A command term is well formed. -/
def Instr.wf : Instr → Bool
  | .sysInfo h p => h.wf && (Cmd.sysInfo p).wf
  | .sysReset h p => h.wf && (Cmd.sysReset p).wf
  | .sysState h p => h.wf && (Cmd.sysState p).wf
  | .sysEventMap h p => h.wf && (Cmd.sysEventMap p).wf
  | .sysTimed h p => h.wf && (Cmd.sysTimed p).wf
  | .sysMgmtCfg h p => h.wf && (Cmd.sysMgmtCfg p).wf
  | .sysEthCfg h p => h.wf && (Cmd.sysEthCfg p).wf
  | .sysMacsecSa h p => h.wf && (Cmd.sysMacsecSa p).wf
  | .radChainCfg h p => h.wf && (Cmd.radChainCfg p).wf
  | .radCal h p => h.wf && (Cmd.radCal p).wf
  | .radTuner h p => h.wf && (Cmd.radTuner p).wf
  | .radCoexCfg h p => h.wf && (Cmd.radCoexCfg p).wf
  | .radAgcCfg h p => h.wf && (Cmd.radAgcCfg p).wf
  | .radPaRamp h p => h.wf && (Cmd.radPaRamp p).wf
  | .radTxRaw h p => h.wf && (Cmd.radTxRaw p).wf
  | .radBlankMap h p => h.wf && (Cmd.radBlankMap p).wf
  | .laneAssign h p => h.wf && (Cmd.laneAssign p).wf
  | .lanePhyCfg h p => h.wf && (Cmd.lanePhyCfg p).wf
  | .laneCaptureCfg h p => h.wf && (Cmd.laneCaptureCfg p).wf
  | .laneStatus h p => h.wf && (Cmd.laneStatus p).wf
  | .laneFlush h p => h.wf && (Cmd.laneFlush p).wf
  | .laneBitload h p => h.wf && (Cmd.laneBitload p).wf
  | .slotCfg h p => h.wf && (Cmd.slotCfg p).wf
  | .slotListLoad h p => h.wf && (Cmd.slotListLoad p).wf
  | .slotListActivate h p => h.wf && (Cmd.slotListActivate p).wf
  | .slotSuperframeCfg h p => h.wf && (Cmd.slotSuperframeCfg p).wf
  | .slotTx h p => h.wf && (Cmd.slotTx p).wf
  | .slotFrontCfg h p => h.wf && (Cmd.slotFrontCfg p).wf
  | .slotStatus h p => h.wf && (Cmd.slotStatus p).wf
  | .slotFollowCfg h p => h.wf && (Cmd.slotFollowCfg p).wf
  | .budgRegionLoad h p => h.wf && (Cmd.budgRegionLoad p).wf
  | .budgStatus h p => h.wf && (Cmd.budgStatus p).wf
  | .tmQueueCfg h p => h.wf && (Cmd.tmQueueCfg p).wf
  | .tmMeterCfg h p => h.wf && (Cmd.tmMeterCfg p).wf
  | .tmShaperCfg h p => h.wf && (Cmd.tmShaperCfg p).wf
  | .tmClassMap h p => h.wf && (Cmd.tmClassMap p).wf
  | .tmStats h p => h.wf && (Cmd.tmStats p).wf
  | .tblNodeInsert h p => h.wf && (Cmd.tblNodeInsert p).wf
  | .tblNodeDelete h p => h.wf && (Cmd.tblNodeDelete p).wf
  | .tblPrefixAdd h p => h.wf && (Cmd.tblPrefixAdd p).wf
  | .tblPrefixDel h p => h.wf && (Cmd.tblPrefixDel p).wf
  | .tblAgingCfg h p => h.wf && (Cmd.tblAgingCfg p).wf
  | .tblLookup h p => h.wf && (Cmd.tblLookup p).wf
  | .tblEvictPolicy h p => h.wf && (Cmd.tblEvictPolicy p).wf
  | .tblCfg h p => h.wf && (Cmd.tblCfg p).wf
  | .tblNeighbourSet h p => h.wf && (Cmd.tblNeighbourSet p).wf
  | .tblStatus h p => h.wf && (Cmd.tblStatus p).wf
  | .keyImport h p => h.wf && (Cmd.keyImport p).wf
  | .keyDerive h p => h.wf && (Cmd.keyDerive p).wf
  | .keyStage h p => h.wf && (Cmd.keyStage p).wf
  | .keyCommit h p => h.wf && (Cmd.keyCommit p).wf
  | .keyErase h p => h.wf && (Cmd.keyErase p).wf
  | .keyInfo h p => h.wf && (Cmd.keyInfo p).wf
  | .keyInvalidate h p => h.wf && (Cmd.keyInvalidate p).wf
  | .keyAttest h p => h.wf && (Cmd.keyAttest p).wf
  | .keyStoreCfg h p => h.wf && (Cmd.keyStoreCfg p).wf
  | .cryOp h p => h.wf && (Cmd.cryOp p).wf
  | .crySign h p => h.wf && (Cmd.crySign p).wf
  | .cryVerify h p => h.wf && (Cmd.cryVerify p).wf
  | .cryHash h p => h.wf && (Cmd.cryHash p).wf
  | .cryXtsRegion h p => h.wf && (Cmd.cryXtsRegion p).wf
  | .cryChkCfg h p => h.wf && (Cmd.cryChkCfg p).wf
  | .cryStatus h p => h.wf && (Cmd.cryStatus p).wf
  | .updOpen h p => h.wf && (Cmd.updOpen p).wf
  | .updBlock h p => h.wf && (Cmd.updBlock p).wf
  | .updStatus h p => h.wf && (Cmd.updStatus p).wf
  | .updVerify h p => h.wf && (Cmd.updVerify p).wf
  | .updActivate h p => h.wf && (Cmd.updActivate p).wf
  | .updCampaignCfg h p => h.wf && (Cmd.updCampaignCfg p).wf
  | .updCampaignCtrl h p => h.wf && (Cmd.updCampaignCtrl p).wf
  | .timeStep h p => h.wf && (Cmd.timeStep p).wf
  | .timeRate h p => h.wf && (Cmd.timeRate p).wf
  | .timeSelect h p => h.wf && (Cmd.timeSelect p).wf
  | .timeTrigger h p => h.wf && (Cmd.timeTrigger p).wf
  | .timeCaptureCfg h p => h.wf && (Cmd.timeCaptureCfg p).wf
  | .timePtpPortCfg h p => h.wf && (Cmd.timePtpPortCfg p).wf
  | .timeDomainCfg h p => h.wf && (Cmd.timeDomainCfg p).wf
  | .timeStatus h p => h.wf && (Cmd.timeStatus p).wf
  | .lnkPortCfg h p => h.wf && (Cmd.lnkPortCfg p).wf
  | .lnkTopology h p => h.wf && (Cmd.lnkTopology p).wf
  | .lnkStatus h p => h.wf && (Cmd.lnkStatus p).wf
  | .lnkSend h p => h.wf && (Cmd.lnkSend p).wf
  | .twinCfg h p => h.wf && (Cmd.twinCfg p).wf
  | .twinClaim h p => h.wf && (Cmd.twinClaim p).wf
  | .twinSwitch h p => h.wf && (Cmd.twinSwitch p).wf
  | .twinStatus h p => h.wf && (Cmd.twinStatus p).wf
  | .twinSaveState h p => h.wf && (Cmd.twinSaveState p).wf
  | .hlthStatus h p => h.wf && (Cmd.hlthStatus p).wf
  | .hlthSpareMap h p => h.wf && (Cmd.hlthSpareMap p).wf
  | .hlthRetire h p => h.wf && (Cmd.hlthRetire p).wf
  | .diagDumpRead h p => h.wf && (Cmd.diagDumpRead p).wf
  | .diagUnfreeze h p => h.wf && (Cmd.diagUnfreeze p).wf
  | .diagFwRegion h p => h.wf && (Cmd.diagFwRegion p).wf
  | .testLoopback h p => h.wf && (Cmd.testLoopback p).wf
  | .testBist h p => h.wf && (Cmd.testBist p).wf
  | .testPattern h p => h.wf && (Cmd.testPattern p).wf
  | .testStatus h p => h.wf && (Cmd.testStatus p).wf
  | .sqDoorbellWrite q value => fitsU 8 q && fitsU 32 value
  | .commandFetch e => e.wf
  | .commandRelease qp tag => fitsU 8 qp && fitsU 16 tag
  | .cqDoorbellWrite q value => fitsU 8 q && fitsU 32 value
  | .qpEnable func q ctrl => fitsU 8 func && fitsU 8 q && fitsU 32 ctrl
  | .qpDisable func q ctrl => fitsU 8 func && fitsU 8 q && fitsU 32 ctrl
  | .deadlineAbandon qp tag => fitsU 8 qp && fitsU 16 tag
  | .delayListWalk => true
  | .coalTimeExpiry kind index => fitsU 8 kind && fitsU 8 index
  | .msixUnmask func vector => fitsU 8 func && fitsU 8 vector
  | .evtCauseClear k value => fitsU 8 k && fitsU 32 value
  | .registerWrite func addr value => fitsU 8 func && fitsU 32 addr && fitsU 32 value
  | .rcCounterRead addr => fitsU 32 addr
  | .resetCtrlWarm key => fitsU 16 key
  | .resetCtrlFull key => fitsU 16 key
  | .spiSubmit e _ => e.wf
  | .spiReadReply => true
  | .spiReadStatus => true
  | .mgmtVlanFrame port mac vlan _ seq entries => fitsU 8 port && fitsU 48 mac && fitsU 16 vlan && fitsU 16 seq && entries.all Entry.wf
  | .powerOnReset _ => true
  | .sysResetNLow lowNs => fitsU 32 lowNs
  | .resetEnd _ => true
  | .initDone _ => true
  | .bootWatchdogExpiry => true
  | .perstNRise => true
  | .pcieLinkUp width speed => fitsU 8 width && fitsU 8 speed
  | .supplyExcursion rail lowPm highPm _ _ _ durPs => fitsU 8 rail && fitsS 16 lowPm && fitsS 16 highPm && fitsU 32 durPs
  | .tamperAlarm sensor => fitsU 8 sensor
  | .tamperLoopSample loop _ => fitsU 8 loop
  | .temperatureSample degC => fitsS 16 degC
  | .vbatLoss => true
  | .refLoss ref => fitsU 8 ref
  | .refReturn ref => fitsU 8 ref
  | .avsEvaluate targetMv attempts => fitsU 16 targetMv && fitsU 8 attempts
  | .lullEntry => true
  | .lullWake source gpio => fitsU 8 source && fitsU 8 gpio
  | .pwrGoodRise lullCycles _ _ => fitsU 64 lullCycles
  | .fatalError cause core => fitsU 8 cause && fitsU 16 core
  | .synthFreqWrite chain => fitsU 8 chain
  | .synthLock chain => fitsU 8 chain
  | .synthUnlock chain => fitsU 8 chain
  | .txCoexReq chain => fitsU 8 chain
  | .txRffeSeqOn chain => fitsU 8 chain
  | .grantDeadline chain _ => fitsU 8 chain
  | .txPaEnable chain => fitsU 8 chain
  | .lockDeadline chain => fitsU 8 chain
  | .txModulationStart chain => fitsU 8 chain
  | .txLastSymbol chain fwd rev _ => fitsU 8 chain && fitsS 16 fwd && fitsS 16 rev
  | .txPaDisable chain => fitsU 8 chain
  | .txEnRelease chain => fitsU 8 chain
  | .blankEnd chain => fitsU 8 chain
  | .coexGrantRevoke chain => fitsU 8 chain
  | .tunerSearchTimeout chain => fitsU 8 chain
  | .calStart chain => fitsU 8 chain
  | .calDone chain failedStep degC => fitsU 8 chain && fitsU 8 failedStep && fitsS 16 degC
  | .autoRecalTrigger chain degC => fitsU 8 chain && fitsS 16 degC
  | .nbAgcUpdate chain level => fitsU 8 chain && fitsS 16 level
  | .adcClip chain clipped => fitsU 8 chain && fitsU 16 clipped
  | .preambleDetect phys corr rssi => fitsU 8 phys && fitsU 16 corr && fitsS 16 rssi
  | .syncFieldEnd phys => fitsU 8 phys
  | .maxPreambleTimeout phys => fitsU 8 phys
  | .headerCheck phys _ => fitsU 8 phys
  | .laneCellAlloc phys _ _ => fitsU 8 phys
  | .laneFrameEnd phys _ snr _ => fitsU 8 phys && fitsS 16 snr
  | .listenWindowOpen lane => fitsU 8 lane
  | .listenWindowClose lane => fitsU 8 lane
  | .deferredConfigApply lane => fitsU 8 lane
  | .laneFail phys => fitsU 8 phys
  | .laneSpareMove lane => fitsU 8 lane
  | .snapshotEnd lane => fitsU 8 lane
  | .chkPauseWrite u value => fitsU 8 u && fitsU 32 value
  | .chkPauseEffect u => fitsU 8 u
  | .chkValueWrite u value => fitsU 8 u && fitsU 32 value
  | .chkResultRead u => fitsU 8 u
  | .comparatorFire n => fitsU 8 n
  | .timeInEdge input _ => fitsU 8 input
  | .frontInEdge _ => true
  | .frontPositionMissing => true
  | .slewDone => true
  | .holdRelease => true
  | .rateFold domain => fitsU 8 domain
  | .ptpEventRx port _ => fitsU 8 port
  | .ptpTcEgress port id => fitsU 8 port && fitsU 32 id
  | .ptpOffsetMeasure domain offsetNs rateCorr => fitsU 8 domain && fitsS 64 offsetNs && fitsS 32 rateCorr
  | .ptpAnnounceTimeout domain => fitsU 8 domain
  | .timeSnapshotRead => true
  | .captureEntryRead input => fitsU 8 input
  | .asnLatchRead => true
  | .slotBoundary _ => true
  | .superframeEvent sf kind => fitsU 8 sf && fitsU 8 kind
  | .slotStopEffect => true
  | .secureStart chain => fitsU 8 chain
  | .secureDeadline chain => fitsU 8 chain
  | .ackListenOpen chain => fitsU 8 chain
  | .ackWaitEnd chain _ => fitsU 8 chain
  | .airRecordProcess phys _ => fitsU 8 phys
  | .enhAckCommit buffer => fitsU 32 buffer
  | .beaconPeriodMiss => true
  | .guardLimitReached => true
  | .tmEnqueue => true
  | .portServe port => fitsU 8 port
  | .wheelFineAdvance => true
  | .wheelCoarseAdvance => true
  | .learnWindowExpiry kind panId addr => fitsU 8 kind && fitsU 16 panId && fitsU 64 addr
  | .learnHoldoffExpiry kind panId addr => fitsU 8 kind && fitsU 16 panId && fitsU 64 addr
  | .learnHeadWrite value => fitsU 32 value
  | .agingSweepVisit table index _ => fitsU 8 table && fitsU 32 index
  | .tblParityRepair table index => fitsU 8 table && fitsU 32 index
  | .keyReferenceDrop slot gen => fitsU 16 slot && fitsU 16 gen
  | .keyWaitExpiry slot => fitsU 16 slot
  | .rxOverlapExpiry slot => fitsU 16 slot
  | .identityGenerated => true
  | .pufSpareEnrol array _ => fitsU 8 array
  | .engineResume engine => fitsU 8 engine
  | .journalEntryDurable slot => fitsU 16 slot
  | .journalWriteFail slot => fitsU 16 slot
  | .journalCompactDone => true
  | .dropIntake => true
  | .dropDurable index _ _ => fitsU 32 index
  | .journalHeldFlush => true
  | .fwVerifyDone _ _ => true
  | .autoCommitTimer => true
  | .nodeReportRx source _ => fitsU 128 source
  | .campaignWindowStart c => fitsU 8 c
  | .campaignWindowEnd c => fitsU 8 c
  | .reportWaitExpiry c => fitsU 8 c
  | .repairVisitTimeout c member => fitsU 8 c && fitsU 32 member
  | .dlBlockLock port => fitsU 8 port
  | .dlHelloTx port => fitsU 8 port
  | .dlHelloRx port setId memberId _ chipId => fitsU 8 port && fitsU 32 setId && fitsU 16 memberId && fitsU 8 chipId
  | .dlTrainingUp port => fitsU 8 port
  | .dlLinkDownTimeout port => fitsU 8 port
  | .dlElasticOverflow port => fitsU 8 port
  | .dlFrameRx port _ => fitsU 8 port
  | .deltaRx _ => true
  | .deltaAckTimeout => true
  | .twinBulkRx _ => true
  | .heartbeatTx => true
  | .heartbeatMissing => true
  | .claimArbitration _ _ => true
  | .twinSaveDone _ _ => true
  | .ethFrameRx port _ => fitsU 8 port
  | .ethPauseExpiry port => fitsU 8 port
  | .ethLinkChange port _ speed => fitsU 8 port && fitsU 8 speed
  | .ethPhyInt => true
  | .thDoorbellWrite ring value => fitsU 8 ring && fitsU 32 value
  | .thFrameDeliver ring bufs => fitsU 8 ring && bufs.all HostBuf.wf
  | .fhDoorbellWrite ring value => fitsU 8 ring && fitsU 32 value
  | .fhEntryFetch ring _ => fitsU 8 ring
  | .pf1WriteDrop addr => fitsU 32 addr
  | .pcieFlr func => fitsU 8 func
  | .dramCe addr => fitsU 64 addr
  | .dramUe addr => fitsU 64 addr
  | .ddrCaAlert addr _ => fitsU 64 addr
  | .patrolScrub _ => true
  | .ddrTempPoll degC => fitsS 16 degC
  | .pageRetireDone page => fitsU 32 page
  | .flashBlockFail block => fitsU 32 block
  | .sramEccError mem _ _ row => fitsU 8 mem && fitsU 32 row
  | .coreWatchdogExpiry core => fitsU 8 core
  | .coreFail core => fitsU 8 core
  | .fwallViolation master addr _ => fitsU 8 master && fitsU 48 addr
  | .masterOwnerReset master => fitsU 8 master
  | .fwallRecordRead => true
  | .queueFlushWriter queue tag _ words items => fitsU 8 queue && fitsU 8 tag && fitsU 16 words && fitsU 16 items
  | .testComplete sent received errors bistFail engines => fitsU 32 sent && fitsU 32 received && fitsU 32 errors && fitsU 16 bistFail && fitsU 8 engines
  | .jtagInstruction ir => fitsU 8 ir
  | .rawSlotBoundary _ => true
  | .mainPowerRemoval => true
  | .mainPowerRestore => true
  | .twinWatchdogExpiry => true
  | .campaignDoneWaitExpiry c => fitsU 8 c
  | .budgetBucketExpiry => true
  | .pcieAerError kind => fitsU 8 kind

end Sys2Proof
end

