-- ==== Sys2Proof/Machine/State.lean ====
section
/-!
DEFINITION. The state of the ZB9640 block: every register, queue, counter, mode and pin the spec gives it, by block (R7), with its
reset value as the default of its field. Each field names the file and rule of spec/ that gives it.
-/
namespace Sys2Proof.Machine

/-- The device states of R64, with the codes of R73 given by devCode. -/
inductive DevState where
  | off | reset | bootRom | pufRegen | fwVerify | init | run | lull | tamperHold | halted
deriving DecidableEq, Repr

/-- The reset kinds of R68. -/
inductive ResetKind where
  | powerOn | full | warm
deriving DecidableEq, Repr

/-- EVT.SRC_CFG of one source (R131). -/
structure SrcCfg where
  vector : Nat := 0
  toPf1 : Bool := false
  enable : Bool := true
deriving DecidableEq, Repr

/-- A frame in a traffic-manager queue (R350). -/
structure QFrame where
  id : Nat := 0
  buf : Nat := 0
  data : List Byte := []
  cls : Nat := 0
  neighbour : Nat := 0xFFFF
  ackReq : Bool := false
  secLevel : Nat := 0
  keySlot : Option Nat := none
  frame : PktFrame := {}
  bound : Bool := false
  attempts : Nat := 0
  charged : Bool := false
  camp : Option (Nat × Option Nat) := none
  arrivedNs : Nat := 0
deriving DecidableEq, Repr

/-- A frame held in packet-buffer cells: its handle, its bytes and the cells it takes (R18). -/
structure PBuf where
  id : Nat := 0
  handle : Nat := 0
  data : List Byte := []
  cells : Nat := 0
deriving DecidableEq, Repr

/-- A lane entry of a plan (R252). Times in us from the slot boundary. -/
structure LaneEntry where
  lane : Nat := 0
  chain : Nat := 0
  channel : Nat := 0
  phy : Nat := 0
  listenStart : Nat := 0
  listenEnd : Nat := 0
  slotframe : Nat := 0
  super : Option Nat := none
  timekeeping : Bool := false
  peer : Nat := 0xFFFF
deriving DecidableEq, Repr

/-- A transmit entry of a plan (R252), or of a committed Enh-Ack, raw or test transmission. Times in us from the
boundary; kind 0 frame, 1 Enhanced Beacon, 2 superframe beacon, 3 RAD_TX_RAW, 4 acknowledgement, 5 test. -/
structure TxEntry where
  kind : Nat := 0
  asn : Nat := 0
  chain : Nat := 0
  channel : Nat := 0
  phy : Nat := 0
  mcs : Nat := 0
  carrier : Nat := 0
  tUs : Nat := 0
  eUs : Nat := 0
  power : Int := 0
  profile : Nat := 0
  rampUs : Nat := 16
  paLeadUs : Nat := 5
  queue : Nat := 0
  frameId : Nat := 0
  handle : Nat := 0
  neighbour : Nat := 0xFFFF
  cls : Nat := 7
  ackReq : Bool := false
  ackLane : Option Nat := none
  secLevel : Nat := 0
  keySlot : Nat := 0
  shared : Bool := false
  slotframe : Nat := 0
  super : Option Nat := none
  blanks : List Nat := []
  psdu : Nat := 0
  swapped : Bool := false
deriving DecidableEq, Repr

/-- An ACK reservation of a plan (R252) with the air time debited for it (R299). -/
structure AckRes where
  chain : Nat := 0
  channel : Nat := 0
  phy : Nat := 0
  fromUs : Nat := 0
  lane : Nat := 0
  debitUs : Nat := 0
  bucket : Nat := 0
  sentUs : Nat := 0
  asn : Nat := 0
  super : Option Nat := none
deriving DecidableEq, Repr

/-- The plan of one slot (R252). -/
structure Plan where
  asn : Nat := 0
  lanes : List LaneEntry := []
  txs : List TxEntry := []
  acks : List AckRes := []
  supers : List Nat := []
  dist : List Nat := []
  fallback : Bool := false
  tmpls : List Template := []
deriving DecidableEq, Repr

/-- An ACK wait of one chain (R258). -/
structure AckWait where
  entry : TxEntry := {}
  openNs : Int := 0
  endNs : Int := 0
  listening : Bool := false
  seq : Option Nat := none
deriving DecidableEq, Repr

/-- One command queue pair; 0-63 host, 64 management SPI, 65 management VLAN. -/
structure QpSt where
  /-- 04 R99 SQ_BASE_LO/HI. -/
  sqBase : Nat := 0
  /-- 04 R99 CQ_BASE_LO/HI. -/
  cqBase : Nat := 0
  /-- 04 R99 QP_CTRL.ENABLE. -/
  enable : Bool := false
  /-- 04 R99 QP_CTRL.FUNC. -/
  func : Nat := 0
  /-- 04 R99 QP_CTRL.SQ_LOG2. -/
  sqLog2 : Nat := 4
  /-- 04 R99 QP_CTRL.CQ_LOG2. -/
  cqLog2 : Nat := 4
  /-- 04 R99 QP_CTRL.PRIO. -/
  prio : Nat := 2
  /-- 04 R99 QP_CTRL.COAL_COUNT. -/
  coalCount : Nat := 0
  /-- 04 R99 QP_CTRL.COAL_TIME. -/
  coalTime : Nat := 0
  /-- 04 R99 QP_STATUS.ENABLED. -/
  enabled : Bool := false
  /-- 04 R99/R100 QP_STATUS.CONFIG_ERROR. -/
  configError : Bool := false
  /-- 04 R99/R101 QP_STATUS.FETCH_ERROR. -/
  fetchError : Bool := false
  /-- 04 R99/R103 QP_STATUS.CQ_FULL. -/
  cqFull : Bool := false
  /-- 04 R99 QP_POS.SQ_HEAD. -/
  sqHead : Nat := 0
  /-- 04 R99 QP_POS.CQ_TAIL. -/
  cqTail : Nat := 0
  /-- 04 R98 SQ_DB.SQ_TAIL as last written. -/
  sqTail : Nat := 0
  /-- 04 R98 CQ_DB.CQ_HEAD as last written. -/
  cqHead : Nat := 0
  /-- 04 R111 PHASE of the next reply: 1 on the first pass. -/
  phase : Bool := true
  /-- 04 R99/R126 replies written and not yet signalled. -/
  unsignalled : Nat := 0
deriving DecidableEq, Repr

/-- One command fetched and not yet released (R114). -/
structure Flight where
  /-- 04 R108 queue pair it was fetched from. -/
  qp : Nat := 0
  /-- 04 R105 its header. -/
  hdr : Hdr := {}
  /-- 04 R105 its opcode's command, none where the opcode is undefined. -/
  cmd : Option Cmd := none
  /-- 04 R119 tick at fetch. -/
  fetchTick : Nat := 0
  /-- 04 R120 completion record written. -/
  done : Bool := false
  /-- 04 R111 STATUS to reply. -/
  status : Nat := 0
  /-- 04 R111 INFO to reply. -/
  info : Nat := 0
  /-- 04 R111 reply data. -/
  data : List Byte := []
  /-- 04 R124 waits on the firmware delay list. -/
  delayed : Bool := false
  /-- 12 R379/R380 its work waits for an event named by its chapter. -/
  waiting : Bool := false
  /-- 04 R120 tick of the completion record. -/
  doneTick : Nat := 0
  /-- 04 R114 its work has ended; its side effects are held for an earlier command of its flow. -/
  staged : Bool := false
  /-- 04 R136 sender of a management VLAN entry. -/
  mac : Nat := 0
  /-- 04 R136 sequence number of its frame. -/
  seqNo : Nat := 0
deriving DecidableEq, Repr

/-- One TIMED command on the firmware delay list (R124). -/
structure Delayed where
  /-- 04 R124 its queue pair. -/
  qp : Nat := 0
  /-- 04 R105 its header. -/
  hdr : Hdr := {}
  /-- 04 R122 the staged command. -/
  cmd : Option Cmd := none
  /-- 04 R137 time reference it was fetched under. -/
  ref : Nat := 0
  /-- 04 R137 late_ns it was fetched under. -/
  lateNs : Nat := 0
  /-- 04 R122 act_time. -/
  actNs : Nat := 0
  /-- 04 R124 comparator 12-15 armed for it. -/
  cmp : Option Nat := none
deriving DecidableEq, Repr

/-- One data ring, toward or from the host (R501-R504). -/
structure DataRing where
  /-- 16 R501 BASE. -/
  base : Nat := 0
  /-- 16 R501 CTRL.LOG2. -/
  log2 : Nat := 6
  /-- 16 R501 CTRL.ENABLE. -/
  enable : Bool := false
  /-- 16 R501 CTRL.COAL_COUNT. -/
  coalCount : Nat := 0
  /-- 16 R501 CTRL.COAL_TIME. -/
  coalTime : Nat := 0
  /-- 16 R501 STATUS.HEAD. -/
  head : Nat := 0
  /-- 16 R501 STATUS.FETCH_ERROR. -/
  fetchError : Bool := false
  /-- 16 R501 STATUS.NO_BUFFER. -/
  noBuffer : Bool := false
  /-- 16 R501 DROPS. -/
  drops : Nat := 0
  /-- 16 R501 TAIL of the doorbell as last written. -/
  tail : Nat := 0
  /-- 16 R502 PHASE of the next entry. -/
  phase : Bool := true
  /-- 04 R129 entries finished that the host has not consumed. -/
  unread : Nat := 0
  /-- 16 R501 entries finished and not yet signalled. -/
  unsignalled : Nat := 0
deriving DecidableEq, Repr

/-- SYS_TIMED setting of one queue. -/
structure TimedCfg where
  /-- 04 R137 time_ref: raw counter. -/
  ref : Nat := 0
  /-- 04 R137 late_ns. -/
  lateNs : Nat := 0
  /-- 04 R137 max_ahead_s. -/
  maxAheadS : Nat := 3600
deriving DecidableEq, Repr

/-- What the management VLAN remembers of one sender (R136). -/
structure MgmtPeer where
  /-- 04 R136 sender's MAC address. -/
  mac : Nat := 0
  /-- 04 R136 last 16 sequence numbers, newest first. -/
  seqs : List Nat := []
  /-- 04 R136 port the sender was heard on. -/
  port : Nat := 0
  /-- 04 R136 reply frames stored, by sequence number. -/
  replies : List (Nat × List Byte) := []
deriving DecidableEq, Repr

/-- SYS block and what the SYS agent keeps. -/
structure SysSt where
  /-- 03 R73 SYS.STATE.STATE. -/
  devState : DevState := .bootRom
  /-- 03 R70/R73 SYS.STATE.RESET_CAUSE (POWER_ON). -/
  resetCause : Nat := 0
  /-- 03 R71/R73 SYS.STATE.STRAP, sampled from the board. -/
  strap : Nat := 0
  /-- 03 R71 the STRAP[3:0] pins as the board holds them. -/
  strapPins : Nat := 0
  /-- 03 R73 SYS.STATE.BOOT_SLOT. -/
  bootSlot : Nat := 0
  /-- 03 R73 SYS.STATE.TRIAL. -/
  trial : Bool := false
  /-- 03 R73 SYS.STATE.RECOVERY. -/
  recovery : Bool := false
  /-- 03 R64/R68 the reset being taken while the part is in RESET. -/
  resetKind : Option ResetKind := none
  /-- 03 R81 slot to be marked failed (result 7) at the next boot. -/
  slotFailed : Option Nat := none
  /-- 03 R87 a SYS_RESET accepted, whose reset starts after its reply is released. -/
  resetNext : Option ResetKind := none
  /-- 17 R535 cause of the halt in HALTED_DUMPED. -/
  haltCause : Option Nat := none
  /-- 18 R554 TEST_EN sampled high. -/
  testMode : Bool := false
  /-- 03 R65 boot watchdog running: it starts when BOOT_ROM is entered. -/
  bootWatchdog : Bool := true
  /-- 03 R91 ENTER_LULL accepted, entry to come. -/
  lullArmed : Bool := false
  /-- 03 R87 lull_dram RELEASE. -/
  lullRelease : Bool := false
  /-- 03 R87 wake_gpio (AON well, kept by every reset). -/
  wakeGpio : Nat := 0
  /-- 03 R87 wake_timer_s (AON well, kept by every reset). -/
  wakeTimerS : Nat := 0
  /-- 03 R92 a wake source latched during entry. -/
  wakeLatched : Option Nat := none
  /-- 03 R87 SYS_STATE wake source of the last LULL. -/
  lullSource : Nat := 0
  /-- 03 R87 SYS_STATE last LULL duration in s. -/
  lullSeconds : Nat := 0
  /-- 02 R51 AON_PWR_EN pin. -/
  aonPwrEn : Bool := true
  /-- 03 R93 wake seen, waiting for PWR_GOOD. -/
  lullExit : Bool := false
  /-- 02 R55 references lost: bit 0 SYS, 1 RF, 2 TIME, 3 ETH, 4 PCIE, 5 XTAL. -/
  refLost : Nat := 0
  /-- 02 R41/R42 VDD_CORE setpoint in mV: the regulator starts at 0.80 V. -/
  avsMv : Nat := 800
  /-- 02 R43 the regulator failed to acknowledge. -/
  avsFault : Bool := false
  /-- 02 R63 highest on-die sensor reading, degrees C. -/
  tempNow : Int := 25
  /-- 02 R63 reading at the last EV_THERMAL_HIGH. -/
  thermalLast : Option Int := none
  /-- 04 R137 SYS_MGMT_CFG enable. -/
  mgmtEnable : Bool := false
  /-- 04 R137 SYS_MGMT_CFG port_mask. -/
  mgmtPorts : Nat := 0
  /-- 04 R137 SYS_MGMT_CFG vlan_id. -/
  mgmtVlan : Nat := 0
  /-- 04 R136 sequence numbers seen per sender. -/
  mgmtPeers : List MgmtPeer := []
  /-- 04 R136 reply frames sent to the management VLAN, oldest first. -/
  mgmtReplies : List (List Byte) := []
  /-- 04 R135 unread management SPI replies, oldest first. -/
  spiReplies : List (List Byte) := []
  /-- 04 R135 bytes last returned on MISO. -/
  spiOut : List Byte := []
  /-- 04 R135 SUBMITs ignored for want of room. -/
  spiNoRoom : Nat := 0
  /-- 04 R135 transactions ignored for their length. -/
  spiBadLen : Nat := 0
  /-- 04 R137 SYS_TIMED settings per queue. -/
  timed : Tbl TimedCfg := []
  /-- 03 R85 events raised when the agents start. -/
  startEvents : List Nat := []
  /-- 03 R88 DRAM in use, MiB (both ranks as fitted; one rank after a training failure). -/
  dramMib : Nat := 4096
  /-- 18 R557 JTAG instruction selected. -/
  jtagIr : Option Nat := none
deriving DecidableEq, Repr

/-- BOOT.STATUS. -/
structure BootSt where
  /-- 03 R74 STEP. -/
  step : Nat := 0
  /-- 03 R74 SLOT_A_RESULT. -/
  slotA : Nat := 0
  /-- 03 R74 SLOT_B_RESULT. -/
  slotB : Nat := 0
  /-- 03 R74 PUF_ATTEMPTS. -/
  pufAttempts : Nat := 0
  /-- 03 R74 BOOT_SOURCE. -/
  bootSource : Nat := 0
  /-- 03 R74 WAITING_IMAGE. -/
  waitingImage : Bool := false
deriving DecidableEq, Repr

/-- HIF queue pairs and the command path. -/
structure HifSt where
  /-- 04 R98/R99 queue pairs. -/
  qps : Tbl QpSt := []
  /-- 04 R102/R114 commands in flight, in fetch order. -/
  flights : List Flight := []
  /-- 04 R102 last ring served per PRIO. -/
  lastServed : Tbl Nat := []
  /-- 04 R124 firmware delay list. -/
  delayList : List Delayed := []
  /-- 04 R98 value the last register read returned. -/
  readData : Nat := 0
  /-- 03 R77/16 R511 PCIe link up. -/
  pcieUp : Bool := false
deriving DecidableEq, Repr

/-- EVT block and the MSI-X tables. -/
structure EvtSt where
  /-- 04 R131 EVT.CAUSE[0-11], bit b of word k is source 32k+b. -/
  cause : Nat := 0
  /-- 05 R151 status word of each event source that carries one. -/
  words : Tbl Nat := []
  /-- 04 R130/R131 EVT.SRC_CFG where changed from its reset value. -/
  srcCfg : Tbl SrcCfg := []
  /-- 04 R131 EVT.IRQ_SEL. -/
  irqSel : Tbl Nat := []
  /-- 04 R129 MSI-X vectors the host has unmasked (0-255 PF0, 256-263 PF1); all masked at reset. -/
  unmasked : List Nat := []
  /-- 04 R129 MSI-X pending bits held behind a mask. -/
  held : List Nat := []
  /-- 16 R500 words of the MSI-X tables the host has written, by BAR0 offset: 256 entries of PF0, 8 of PF1. -/
  msix : Tbl Nat := []
  /-- 04 R129 MSI-X messages sent, oldest first. -/
  msgs : List Nat := []
deriving DecidableEq, Repr

/-- One PA ramp profile. -/
structure RampProfile where
  /-- 05 R160 ramp_us. -/
  rampUs : Nat := 16
  /-- 05 R160 pa_lead_us. -/
  paLeadUs : Nat := 5
  /-- 05 R160 raised cosine. -/
  points : List Nat := [10,39,86,150,227,315,412,512,611,708,796,873,937,984,1013,1023]
deriving DecidableEq, Repr

/-- A tuner search in progress. -/
structure TunerSearch where
  /-- 05 R165 job number. -/
  job : Nat := 0
  /-- 05 R165 candidate states. -/
  states : List TunerState := []
  /-- 05 R165 candidates tried with their return loss. -/
  tried : List (Nat × Int) := []
  /-- 05 R165 state restored on timeout. -/
  prev : Option TunerState := none
  /-- 05 R165 raw time it started. -/
  startedNs : Nat := 0
deriving DecidableEq, Repr

/-- A calibration asked for or running (R150). -/
structure CalJob where
  /-- 05 R148 steps to run. -/
  steps : List Nat := []
  /-- 05 R151 job number, 0 when the part starts it. -/
  job : Nat := 0
  /-- 05 R150 first slot taken. -/
  fromAsn : Nat := 0
  /-- 05 R150 consecutive slots taken. -/
  slots : Nat := 0
  /-- 05 R148 steps running. -/
  running : Bool := false
deriving DecidableEq, Repr

/-- The transmission a chain is bound to or is making (R159). -/
structure TxSeq where
  /-- 08 R252 its transmit entry. -/
  entry : TxEntry := {}
  /-- 05 R159 lines driven so far: 0 planned, 1 COEX_REQ, 2 RFFE tx_on, 3 granted, 4 PA on, 5 ramping, 6 modulating, 7 last symbol, 8 PA off. -/
  phase : Nat := 0
  /-- 08 R248 secured frame in the transmit queue. -/
  secured : Bool := false
  /-- 08 R248 frame counter drawn. -/
  counter : Nat := 0
  /-- 12 R383 key slot and generation referenced. -/
  keyRef : Option (Nat × Nat) := none
  /-- 01 R27 PSDU for the modulator. -/
  bytes : List Byte := []
  /-- 05 R145 its frequency is written. -/
  written : Bool := false
deriving DecidableEq, Repr

/-- One RAD_TX_RAW waiting or placed (R178). -/
structure RawTx where
  /-- 05 R178 queue pair to reply on. -/
  qp : Nat := 0
  /-- 05 R178 TAG to reply with. -/
  tag : Nat := 0
  /-- 05 R177 its parameters. -/
  p : RadTxRawP := {}
  /-- 04 R123 it fell due late within tolerance. -/
  late : Bool := false
  /-- 05 R178 slot it is placed in. -/
  placedAsn : Option Nat := none
  /-- 05 R178 act_time. -/
  actNs : Option Nat := none
deriving DecidableEq, Repr

/-- One radio chain (R175). -/
structure ChainSt where
  /-- 05 R175 SERVICE. -/
  service : Nat := 1
  /-- 05 R175 RX_LOCK. -/
  rxLock : Bool := false
  /-- 05 R175 TX_LOCK. -/
  txLock : Bool := false
  /-- 05 R175 AGC_WIDE. -/
  agcWide : Bool := false
  /-- 05 R175 GAIN_INDEX. -/
  gainIndex : Nat := 15
  /-- 05 R175 TX_ACTIVE: TX_EN high. -/
  txEn : Bool := false
  /-- 05 R175 COEX_GRANT after polarity. -/
  coexGrant : Bool := false
  /-- 05 R175 BACKOFF, 0.5 dB. -/
  backoff : Nat := 0
  /-- 05 R175 CPL_LAST.FWD. -/
  cplFwd : Int := 0
  /-- 05 R175 CPL_LAST.RL. -/
  cplRl : Int := 0
  /-- 05 R175 CPL_LAST.VALID. -/
  cplValid : Bool := false
  /-- 05 R175 RX_WINDOW.CENTRE, 100 kHz. -/
  centre : Nat := 0
  /-- 05 R175 TX_DONE. -/
  cntDone : Nat := 0
  /-- 05 R175 TX_SYNTH_LATE. -/
  cntLate : Nat := 0
  /-- 05 R175 TX_BLANKED. -/
  cntBlanked : Nat := 0
  /-- 05 R175 TX_STANDBY. -/
  cntStandby : Nat := 0
  /-- 05 R175 CLIP. -/
  cntClip : Nat := 0
  /-- 05 R175 MISMATCH. -/
  cntMismatch : Nat := 0
  /-- 03 R88 last calibration step that failed. -/
  failedStep : Nat := 0
  /-- 05 R568 plan bound per PHY_MODE; unlisted is unbound. -/
  plans : Tbl Nat := []
  /-- 05 R568 ramp profile per PHY_MODE. -/
  ramps : Tbl Nat := []
  /-- 05 R568 user plans 9-15 defined. -/
  userPlans : Tbl UserPlan := []
  /-- 05 R177 rx_fe_gain_qdb. -/
  rxFeGain : Int := 0
  /-- 05 R177 coupler_src. -/
  couplerSrc : Nat := 0
  /-- 05 R177 cpl_fwd_qdb. -/
  cplFactor : Int := 0
  /-- 05 R177 mismatch_rl_qdb. -/
  mismatchRl : Nat := 24
  /-- 05 R177 backoff_step_hdb. -/
  backoffStep : Nat := 6
  /-- 05 R177 max_backoff_hdb. -/
  maxBackoff : Nat := 18
  /-- 05 R177 auto_recal_degc. -/
  autoRecal : Nat := 25
  /-- 05 R177 tx_on sequence. -/
  seqOn : List RffeWrite := []
  /-- 05 R177 tx_off sequence. -/
  seqOff : List RffeWrite := []
  /-- 05 R177 rx_window sequence. -/
  seqWindow : List RffeWrite := []
  /-- 05 R168 coex_mode. -/
  coexMode : Nat := 0
  /-- 05 R168 grant_polarity. -/
  grantPolarity : Nat := 0
  /-- 05 R168 req_lead_us. -/
  reqLeadUs : Nat := 100
  /-- 05 R168 pri_mask. -/
  priMask : Nat := 0
  /-- 05 R168 pri_ack. -/
  priAck : Bool := false
  /-- 05 R168 abort_on_revoke. -/
  abortOnRevoke : Bool := false
  /-- 05 R177 agc_mode. -/
  agcMode : Nat := 0
  /-- 05 R177 wb_target_qdb. -/
  wbTarget : Int := -72
  /-- 05 R177 nb_target_qdb. -/
  nbTarget : Int := -48
  /-- 05 R156 clip_count. -/
  clipCount : Nat := 4
  /-- 05 R156 raw time of the last clip step. -/
  lastClipNs : Option Nat := none
  /-- 05 R160 ramp profiles. -/
  profiles : Tbl RampProfile := []
  /-- 05 R160/R10 profiles waiting for the end of a transmission. -/
  profileNext : Tbl RampProfile := []
  /-- 05 R165 antenna tuner state written last. -/
  tunerState : Option TunerState := none
  /-- 05 R177 a tuner set whose reply waits for the next reading. -/
  tunerWait : Option (Nat × Nat) := none
  /-- 05 R175 TUNER_SEARCH and the search. -/
  tunerSearch : Option TunerSearch := none
  /-- 05 R150 calibration asked for or running. -/
  cal : Option CalJob := none
  /-- 05 R152 die temperature of the chain, degrees C. -/
  dieTemp : Int := 25
  /-- 05 R152 die temperature at the last step 2. -/
  lastCalTemp : Option Int := none
  /-- 05 R144 carrier written, 100 kHz. -/
  synthCarrier : Option Nat := none
  /-- 05 R144 raw time of the frequency write. -/
  synthWriteNs : Nat := 0
  /-- 05 R144 the synthesiser must retune before it locks. -/
  synthUp : Bool := true
  /-- 05 R159 transmissions planned or committed for the chain, the next one first. -/
  txs : List TxSeq := []
  /-- 05 R159 COEX_REQ pin. -/
  coexReq : Bool := false
  /-- 05 R167 COEX_PRI pin. -/
  coexPri : Bool := false
  /-- 05 R167 raw time COEX_REQ fell. -/
  coexLowNs : Nat := 0
  /-- 05 R159 PA_EN pin. -/
  paEn : Bool := false
  /-- 05 R160 ramp DAC above zero. -/
  rampOn : Bool := false
  /-- 05 R166 RFFE writes sent, oldest first. -/
  rffe : List RffeWrite := []
  /-- 05 R178 raw transmissions in submission order. -/
  raws : List RawTx := []
  /-- 05 R170 blanking by this chain ends. -/
  blankUntilNs : Option Nat := none
  /-- 05 R170 this chain blanks lanes now. -/
  blanking : Bool := false
  /-- 05 R170 carrier that blanks, 100 kHz. -/
  blankCarrier : Nat := 0
  /-- 05 R171 blanking map of the plan it transmits under. -/
  blankDist : List Nat := []
  /-- 18 R546 chain held by a loop-back or test pattern. -/
  testHold : Bool := false
deriving DecidableEq, Repr

/-- RFC block. -/
structure RfcSt where
  /-- 05 R175 chains A-D. -/
  chains : Tbl ChainSt := []
  /-- 01 R27, 05 R161 PSDUs modulated, with their chain and power in 0.5 dB, oldest first. -/
  sent : List (Nat × Int × List Byte) := []
  /-- 05 R169 RAD_BLANK_MAP entries set, key 4t+r. -/
  blankMap : Tbl Nat := []
deriving DecidableEq, Repr

/-- LANE_PHY_CFG of one lane and PHY mode. -/
structure PhyCfg where
  /-- 06 R214 det_threshold. -/
  detThreshold : Nat := 141
  /-- 06 R214 ed_floor_qdbm. -/
  edFloor : Int := -440
  /-- 06 R214 max_preamble_us. -/
  maxPreambleUs : Nat := 4000
  /-- 06 R214 max_psdu. -/
  maxPsdu : Nat := 2047
  /-- 06 R214 fsk_fec. -/
  fskFec : Bool := false
  /-- 06 R214 fsk_whitening. -/
  fskWhitening : Bool := false
  /-- 06 R214 fsk_sfd_set. -/
  fskSfdSet : Nat := 0
  /-- 06 R214 rate_mask. -/
  rateMask : Nat := 255
  /-- 06 R214 mcs_mask. -/
  mcsMask : Nat := 255
deriving DecidableEq, Repr

/-- The frame a physical lane is receiving (R188). -/
structure RxFrame where
  /-- 06 R193 RSSI of the preamble, 0.25 dB. -/
  rssi : Int := 0
  /-- 06 R188 raw time of detection. -/
  startNs : Nat := 0
  /-- 06 R210 TS in S. -/
  tsNs : Int := 0
  /-- 06 R210 ASN of the slot that contains TS. -/
  asn : Nat := 0
  /-- 06 R193 CAPTURED. -/
  captured : Bool := false
  /-- 06 R193 FALSE_SYNC_ABORT. -/
  falseSync : Bool := false
  /-- 06 R201 decoded header. -/
  hdr : PhyHdr := {}
  /-- 06 R190 PSDU bytes in cells. -/
  data : List Byte := []
  /-- 06 R190 packet-buffer cells held. -/
  cells : Nat := 0
  /-- 06 R210 handle of the first cell. -/
  handle : Nat := 0
  /-- 01 R18 the frame's place in the packet buffer. -/
  id : Nat := 0
  /-- 06 R190 bytes in the lane's staging store. -/
  staged : Nat := 0
  /-- 06 R191 words in the lane-to-fabric queue. -/
  queued : Nat := 0
  /-- 06 R202 load map in force. -/
  map : List Nat := []
  /-- 06 R214 PHY configuration it was detected under. -/
  cfg : PhyCfg := {}
deriving DecidableEq, Repr

/-- What a lane listens to. -/
structure LaneTune where
  /-- 06 R184 chain. -/
  chain : Nat := 0
  /-- 06 R184 planned, else fixed. -/
  planned : Bool := false
  /-- 06 R184 channel. -/
  channel : Nat := 0
  /-- 06 R184 PHY_MODE. -/
  phy : Nat := 0
deriving DecidableEq, Repr

/-- A sample snapshot of LANE_CAPTURE_CFG op 1. -/
structure Snapshot where
  /-- 06 R214 job number. -/
  job : Nat := 0
  /-- 06 R214 trigger. -/
  trigger : Nat := 0
  /-- 06 R214 comparator. -/
  comparator : Nat := 0
  /-- 06 R214 pre_us. -/
  preUs : Nat := 0
  /-- 06 R214 samples. -/
  samples : Nat := 0
  /-- 06 R214 buffer_addr. -/
  buffer : Nat := 0
  /-- 06 R214 triggered. -/
  running : Bool := false
deriving DecidableEq, Repr

/-- One logical lane (R212). -/
structure LaneSt where
  /-- 06 R212 LMAP ASSIGNED, CHAIN, PLANNED. -/
  assign : Option LaneTune := none
  /-- 06 R186 assignment that waits for the frame in progress. -/
  deferred : Option (Option LaneTune) := none
  /-- 06 R187 the listen window of the slot's entry is open. -/
  window : Bool := false
  /-- 06 R212 OUT_OF_SERVICE. -/
  outOfService : Bool := false
  /-- 06 R212 LMAP.PHYS where moved (reset n). -/
  phys : Option Nat := none
  /-- 06 R197 logical number waits for a free spare. -/
  moveDue : Bool := false
  /-- 06 R214 PHY configuration per mode. -/
  cfg : Tbl PhyCfg := []
  /-- 06 R214 capture_margin_qdb. -/
  captureMargin : Nat := 24
  /-- 06 R214 spawn_enable. -/
  spawnEnable : Bool := true
  /-- 06 R214 sample snapshot. -/
  snapshot : Option Snapshot := none
  /-- 06 R184/08 R252 lane-plan entry of the slot. -/
  entry : Option LaneEntry := none
  /-- 06 R186 entry, or its absence, taken after the frame in progress. -/
  entryNext : Option (Option LaneEntry) := none
  /-- 06 R215 LANE_STATUS counters 0 DONE 1 header 2 false sync 3 spawns 4 captures 5 blank 6 no-buffer 7 FCS. -/
  cnt : Tbl Nat := []
deriving DecidableEq, Repr

/-- One physical lane (R212). -/
structure PhysSt where
  /-- 06 R212 STATE. -/
  state : Nat := 0
  /-- 06 R212 ROLE where moved (reset 0 for p < 96, 1 otherwise). -/
  role : Option Nat := none
  /-- 06 R212 LOGICAL where moved (reset p for p < 96, 0 otherwise). -/
  logical : Option Nat := none
  /-- 06 R212 BIN_FIRST. -/
  binFirst : Nat := 0
  /-- 06 R212 BIN_COUNT. -/
  binCount : Nat := 0
  /-- 06 R184 what it is tuned to. -/
  tune : Option LaneTune := none
  /-- 06 R188 frame in progress. -/
  frame : Option RxFrame := none
deriving DecidableEq, Repr

/-- LANE block. -/
structure LaneBlk where
  /-- 06 R212 logical lanes. -/
  lanes : Tbl LaneSt := []
  /-- 06 R212 physical lanes. -/
  phys : Tbl PhysSt := []
  /-- 06 R212 SPARE.RESERVE. -/
  reserve : Nat := 0
  /-- 06 R212 CNT. -/
  cnt : Tbl Nat := []
  /-- 06 R214 margin_qdb. -/
  margin : Nat := 16
  /-- 06 R214 thr_qdb. -/
  thr : List Nat := [12,24,48,72]
  /-- 06 R214 min_change. -/
  minChange : Nat := 4
  /-- 06 R214 rate_policy. -/
  ratePolicy : Nat := 0
  /-- 06 R214 null_period. -/
  nullPeriod : Nat := 2
  /-- 06 R188 air records in the lane-to-fabric queues, with their physical lane and buffer. -/
  fabric : List (Nat × Nat × AirRec) := []
deriving DecidableEq, Repr

/-- One time domain. -/
structure DomSt where
  /-- 07 R219 offset, 2^-16 ns. -/
  o : Int := 0
  /-- 07 R219 rate, 2^-44. -/
  r : Int := 0
  /-- 07 R219 anchor counter value. -/
  k : Nat := 0
  /-- 07 R238 source. -/
  src : Nat := 0
  /-- 07 R240 port. -/
  port : Nat := 0
  /-- 07 R240 domain_number. -/
  domainNumber : Nat := 0
  /-- 07 R240 step_limit_ns. -/
  stepLimit : Nat := 1000
  /-- 07 R240 lock_ns. -/
  lockNs : Nat := 100
  /-- 07 R240 announce_timeout. -/
  annTimeout : Nat := 3
  /-- 07 R238 TRACKED. -/
  tracked : Bool := false
  /-- 07 R238 LOCKED. -/
  locked : Bool := false
  /-- 07 R236 consecutive Syncs within lock_ns. -/
  good : Nat := 0
  /-- 07 R241 last follower offset. -/
  lastOffset : Int := 0
deriving DecidableEq, Repr

/-- One comparator. -/
structure CmpSt where
  /-- 07 R238 ARMED. -/
  armed : Bool := false
  /-- 07 R238 REF. -/
  ref : Nat := 0
  /-- 07 R238 CMP_TGT. -/
  target : Nat := 0
  /-- 07 R238 CMP_PERIOD_LO. -/
  period : Nat := 0
  /-- 07 R238 ACTIONS. -/
  actions : Nat := 0
  /-- 07 R238 PIN. -/
  pin : Nat := 0
  /-- 07 R238 PIN_MODE. -/
  pinMode : Nat := 0
  /-- 07 R240 pulse_ns. -/
  pulseNs : Nat := 0
  /-- 07 R238 SKIPPED. -/
  skipped : Nat := 0
deriving DecidableEq, Repr

/-- One captured edge. -/
structure CapEntry where
  /-- 07 R233 raw time, ns. -/
  raw : Int := 0
  /-- 07 R233 T_A. -/
  a : Int := 0
  /-- 07 R233 T_B. -/
  b : Int := 0
  /-- 07 R233 edge direction. -/
  falling : Bool := false
deriving DecidableEq, Repr

/-- One capture input. -/
structure CapSt where
  /-- 07 R233 queue of up to 16 entries. -/
  queue : List CapEntry := []
  /-- 07 R238 latched words, VALID. -/
  latched : Option CapEntry := none
  /-- 07 R238 OVF. -/
  ovf : Bool := false
  /-- 07 R238 EDGE_SEL. -/
  edgeSel : Nat := 0
deriving DecidableEq, Repr

/-- PTP settings of one port. -/
structure PtpPort where
  /-- 07 R240 enable. -/
  enable : Bool := false
  /-- 07 R240 tc_enable. -/
  tcEnable : Bool := false
  /-- 07 R240 transports. -/
  transports : Nat := 0
  /-- 07 R240 map_a: unmapped. -/
  mapA : Nat := 255
  /-- 07 R240 map_b: unmapped. -/
  mapB : Nat := 255
  /-- 07 R240 asymmetry_ns. -/
  asymmetry : Int := 0
deriving DecidableEq, Repr

/-- A PTP event message on its way through the transparent clock. -/
structure PtpTransit where
  /-- 07 R235 the message. -/
  id : Nat := 0
  /-- 07 R235 its content. -/
  msg : PtpMsg := {}
  /-- 07 R235 ingress port. -/
  inPort : Nat := 0
  /-- 07 R234 counter value at ingress. -/
  inC : Nat := 0
deriving DecidableEq, Repr

/-- TIME block. -/
structure TimeSt where
  /-- 07 R216/R217 counter C, 2 ns ticks. -/
  c : Nat := 0
  /-- 07 R219 domain A. -/
  domA : DomSt := {}
  /-- 07 R219 domain B. -/
  domB : DomSt := {}
  /-- 07 R238 SEL. -/
  sel : Nat := 0
  /-- 07 R225 residual E when the slew began, 2^-16 ns. -/
  e0 : Int := 0
  /-- 07 R226 counter value at which e0 was set. -/
  e0C : Nat := 0
  /-- 07 R238 SLEWING. -/
  slewing : Bool := false
  /-- 07 R238 HOLDING. -/
  holding : Bool := false
  /-- 07 R225 reading held, 2^-16 ns. -/
  holdS : Int := 0
  /-- 07 R240 step_threshold_ns. -/
  threshold : Nat := 100
  /-- 07 R240 slew_ppm. -/
  slewPpm : Nat := 10
  /-- 07 R238 comparators. -/
  cmps : Tbl CmpSt := []
  /-- 07 R238 capture inputs. -/
  caps : Tbl CapSt := []
  /-- 07 R238 SNAP words latched. -/
  snap : List Nat := [0,0,0,0,0,0,0,0]
  /-- 07 R240 PTP ports. -/
  ptp : Tbl PtpPort := []
  /-- 07 R235 messages in transit. -/
  transit : List PtpTransit := []
  /-- 07 R235 PTP messages sent with their corrections, oldest first. -/
  ptpOut : List PtpMsg := []
  /-- 07 R232 TIME_OUT[3:0] pins. -/
  timeOut : Nat := 0
  /-- 07 R232 raw time at which a pulse ends. -/
  pulseEnd : Tbl Nat := []
  /-- 02 R55 TIME PLL pulling in after a return of REF_TIME. -/
  pllPull : Bool := false
deriving DecidableEq, Repr

/-- One slotframe. -/
structure SfSt where
  /-- 08 R245 template: tx_offset 2,120, rx_guard 1,100, tx_ack_delay 1,000, ack_guard 200, end_guard 100, max_ack_psdu 24 or 80 by PHY mode. -/
  tmpl : Template := {}
  /-- 08 R251 hopping sequence. -/
  hop : List Nat := []
  /-- 09 R305 SF_LEN. -/
  activeLen : Nat := 0
  /-- 09 R283 active list. -/
  active : Option (List CellW) := none
  /-- 09 R284 a begin without its end. -/
  staging : Bool := false
  /-- 09 R283 staged list. -/
  staged : Option (List CellW) := none
  /-- 09 R284 sf_len of the staged list. -/
  stagedLen : Nat := 0
  /-- 09 R305 STAGED_READY. -/
  stagedReady : Bool := false
  /-- 09 R305 ACT_PENDING and the applied ASN. -/
  pendAsn : Option Nat := none
  /-- 09 R286 the pending activation deactivates (op 1). -/
  pendOff : Bool := false
deriving DecidableEq, Repr

/-- One superframe. -/
structure SuperSt where
  /-- 08 R279 ENABLED. -/
  enabled : Bool := false
  /-- 08 R268 chain. -/
  chain : Nat := 0
  /-- 08 R268 channel. -/
  channel : Nat := 0
  /-- 08 R268 PHY_MODE. -/
  phy : Nat := 0
  /-- 08 R279 BO. -/
  bo : Nat := 0
  /-- 08 R279 SO. -/
  so : Nat := 0
  /-- 08 R268 anchor_asn. -/
  anchorAsn : Nat := 0
  /-- 08 R268 anchor_offset_us. -/
  anchorOffset : Nat := 0
  /-- 08 R281 sf_ack_turnaround_us. -/
  turnaround : Nat := 1000
  /-- 08 R281 beacon template. -/
  template : List Byte := []
  /-- 08 R270 assigned-slot descriptors. -/
  descs : List GtsDesc := []
  /-- 08 R279 LAST_BEACON_OK. -/
  lastOk : Bool := false
  /-- 08 R272 event under way: 0 inactive, 1 beacon, 2 CAP, 3 runs. -/
  phase : Nat := 0
deriving DecidableEq, Repr

/-- An Enh-Ack to decide or committed (R263). -/
structure AckJob where
  /-- 08 R263 handle of the frame. -/
  buffer : Nat := 0
  /-- 08 R264 receiving chain. -/
  chain : Nat := 0
  /-- 08 R264 channel. -/
  channel : Nat := 0
  /-- 08 R264 PHY mode. -/
  phy : Nat := 0
  /-- 08 R264 neighbour index, 0xFFFF unknown. -/
  neighbour : Nat := 0
  /-- 08 R264 security level of the frame. -/
  secLevel : Nat := 0
  /-- 08 R265 SEC_STATUS of the frame. -/
  status : Nat := 0
  /-- 08 R263 processing of R23 steps 2-4 finished. -/
  done : Bool := false
  /-- 08 R263 AR bit. -/
  ackReq : Bool := false
  /-- 08 R264 E_rx + tx_ack_delay in S. -/
  startNs : Int := 0
  /-- 08 R246 the frame acknowledged was sent with FEC. -/
  coded : Bool := false
  /-- 08 R264 Time Correction. -/
  correctionUs : Int := 0
  /-- 08 R264 sequence number echoed. -/
  seq : Option Nat := none
  /-- 08 R272 superframe whose acknowledgement it is. -/
  super : Option Nat := none
deriving DecidableEq, Repr

/-- SLOT block. -/
structure SlotSt where
  /-- 08 R279 RUNNING. -/
  running : Bool := false
  /-- 08 R279 FOLLOWER. -/
  follower : Bool := false
  /-- 08 R279 HOLDOVER. -/
  holdover : Bool := false
  /-- 08 R279 GUARD_LIMIT. -/
  guardLimit : Bool := false
  /-- 08 R279 STOP_PENDING. -/
  stopPending : Bool := false
  /-- 08 R279 ASN of the current slot. -/
  asn : Nat := 0
  /-- 08 R279 latched ASN_HI. -/
  asnLatched : Nat := 0
  /-- 08 R279 SLOT_LEN. -/
  slotLenUs : Nat := 10000
  /-- 08 R243 the first boundary has passed. -/
  started : Bool := false
  /-- 08 R242 asn_start. -/
  asnStart : Nat := 0
  /-- 08 R242 start_time. -/
  startNs : Int := 0
  /-- 08 R281 S of the current boundary. -/
  boundaryNs : Int := 0
  /-- 08 R260 max_retries. -/
  maxRetries : Nat := 3
  /-- 08 R261 min_be. -/
  minBe : Nat := 1
  /-- 08 R261 max_be. -/
  maxBe : Nat := 7
  /-- 08 R246 pre_bytes. -/
  preBytes : Nat := 8
  /-- 08 R246 fsk_tx. -/
  fskTx : Nat := 0
  /-- 08 R281 ack_unknown. -/
  ackUnknown : Bool := false
  /-- 08 R266 dup_window_ms. -/
  dupWindowMs : Nat := 1000
  /-- 08 R281 tx_report_ring: none. -/
  txReportRing : Nat := 255
  /-- 08 R281 report_all. -/
  reportAll : Bool := false
  /-- 08 R281 eb_template. -/
  ebTemplate : List Byte := []
  /-- 08 R281 eb_asn_offset. -/
  ebAsnOffset : Nat := 0
  /-- 08 R281 eb_sec_level. -/
  ebSecLevel : Nat := 0
  /-- 08 R281 eb_key_slot. -/
  ebKeySlot : Nat := 0
  /-- 09 R305 slotframes. -/
  sfs : Tbl SfSt := []
  /-- 08 R279 superframes. -/
  supers : Tbl SuperSt := []
  /-- 08 R252 plans built for slots to come, nearest first. -/
  plans : List Plan := []
  /-- 08 R252 plan of the current slot. -/
  plan : Option Plan := none
  /-- 08 R263 Enh-Acks to decide. -/
  acks : List AckJob := []
  /-- 08 R272/09 R299 reservations of superframe runs and acknowledgement intervals not settled yet. -/
  runs : List AckRes := []
  /-- 08 R258 ACK wait per chain. -/
  waits : Tbl AckWait := []
  /-- 08 R281 time_source. -/
  timeSource : Nat := 0
  /-- 08 R281 eb_period_slots. -/
  ebPeriod : Nat := 1
  /-- 08 R281 drift_ppb. -/
  driftPpb : Nat := 2000
  /-- 08 R281 max_extra_guard_us. -/
  maxExtraGuard : Nat := 1000
  /-- 08 R279 GUARD.EXTRA_US. -/
  guardUs : Nat := 0
  /-- 08 R279 GUARD.MISSES. -/
  misses : Nat := 0
  /-- 08 R242 S of the previous boundary. -/
  prevNs : Int := 0
  /-- 08 R276 raw time of the last valid timekeeping reception. -/
  lastSyncNs : Nat := 0
  /-- 08 R279 CNT. -/
  cnt : Tbl Nat := []
  /-- 09 R305 FRONT_STATUS.SRC. -/
  frontSrc : Nat := 0
  /-- 09 R308 port. -/
  frontPort : Nat := 0
  /-- 09 R308 edge. -/
  frontEdge : Nat := 0
  /-- 09 R308 period_slots. -/
  frontPeriod : Nat := 1
  /-- 09 R308 anchor_asn. -/
  frontAnchor : Nat := 0
  /-- 09 R308 offset_ns. -/
  frontOffset : Int := 0
  /-- 09 R308 window_us. -/
  frontWindow : Nat := 500
  /-- 09 R308 max_shift_us. -/
  frontMaxShift : Nat := 20
  /-- 09 R308 lock_ns. -/
  frontLockNs : Nat := 1000
  /-- 09 R308 loss_count. -/
  frontLossCount : Nat := 4
  /-- 09 R305 LOCKED. -/
  frontLocked : Bool := false
  /-- 09 R305 LOST. -/
  frontLost : Bool := false
  /-- 09 R305 F, ns. -/
  frontF : Int := 0
  /-- 09 R305 P, ns. -/
  frontP : Int := 0
  /-- 09 R305 FRONT_ERR. -/
  frontErr : Int := 0
  /-- 09 R290 consecutive accepted edges within lock_ns. -/
  frontGood : Nat := 0
  /-- 09 R290 consecutive missing or rejected positions. -/
  frontBad : Nat := 0
  /-- 09 R305 FRONT_CNT. -/
  frontCnt : Tbl Nat := []
  /-- 09 R305 PRECOMMIT_CNT. -/
  preCnt : Tbl Nat := []
deriving DecidableEq, Repr

/-- One sub-band of the region table. -/
structure Band where
  /-- 09 R295 f_low. -/
  fLow : Nat := 0
  /-- 09 R295 f_high. -/
  fHigh : Nat := 0
  /-- 09 R295 chain_ppm. -/
  chainPpm : Nat := 0
  /-- 09 R295 agg_ppm. -/
  aggPpm : Nat := 0
  /-- 09 R295 max_on_ms. -/
  maxOnMs : Nat := 0
deriving DecidableEq, Repr

/-- Air time one scope of one bucket holds. -/
structure Debit where
  /-- 09 R297 bucket number. -/
  bucket : Nat := 0
  /-- 09 R297 sub-band index. -/
  band : Nat := 0
  /-- 09 R297 chain 0-3, or 4 for the aggregate. -/
  scope : Nat := 0
  /-- 09 R297 microseconds. -/
  us : Nat := 0
deriving DecidableEq, Repr

/-- BUDG block. -/
structure BudgSt where
  /-- 09 R306 LOADED. -/
  loaded : Bool := false
  /-- 09 R306 NEAR. -/
  near : Bool := false
  /-- 09 R306 REGION_ID. -/
  regionId : Nat := 0
  /-- 09 R306 WINDOW. -/
  windowS : Nat := 3600
  /-- 09 R308 warn_pct. -/
  warnPct : Nat := 90
  /-- 09 R306 sub-bands. -/
  bands : List Band := []
  /-- 09 R297/R302 bucket counters, every one empty. -/
  debits : List Debit := []
  /-- 09 R298 sub-band and bucket of the last EV_BUDGET_REFUSE. -/
  refused : List (Nat × Nat) := []
  /-- 09 R301 scopes seen above the warning level in a bucket. -/
  nearSeen : List (Nat × Nat) := []
  /-- 09 R306 CNT. -/
  cnt : Tbl Nat := []
deriving DecidableEq, Repr

/-- One node-table entry (R313). -/
structure NodeE where
  /-- 10 R313 ADDR. -/
  addr : Nat := 0
  /-- 10 R313 PAN_ID. -/
  panId : Nat := 0
  /-- 10 R313 KIND. -/
  kind : Nat := 0
  /-- 10 R313 DIRECT. -/
  direct : Bool := false
  /-- 10 R313 HIT. -/
  hit : Bool := false
  /-- 10 R313 MARK. -/
  mark : Bool := false
  /-- 10 R313 STATIC. -/
  static : Bool := false
  /-- 10 R313 NH_VALID. -/
  nhValid : Bool := false
  /-- 10 R313 NEXT_HOP. -/
  nextHop : Nat := 0
  /-- 10 R313 TM_PROFILE. -/
  tmProfile : Nat := 0
  /-- 10 R313 LEARN_TIME. -/
  learnTime : Nat := 0
  /-- 10 R313 HOST_DATA. -/
  hostData : List Byte := []
  /-- 10 R328 the entry fails its parity check. -/
  bad : Bool := false
deriving DecidableEq, Repr

/-- One neighbour-table entry (R317). -/
structure NbrE where
  /-- 10 R317 VALID. -/
  valid : Bool := false
  /-- 10 R317 EUI64. -/
  eui64 : Nat := 0
  /-- 10 R317 SHORT. -/
  short : Nat := 0
  /-- 10 R317 PAN_ID. -/
  panId : Nat := 0
  /-- 10 R317 KEY_SLOT. -/
  keySlot : Nat := 0
  /-- 10 R317 KEY_GEN. -/
  keyGen : Nat := 0
  /-- 10 R317 RX_H. -/
  rxH : Nat := 0
  /-- 10 R317 RX_MAP, bit i is H - 1 - i. -/
  rxMap : Nat := 0
  /-- 10 R317 WIN_EMPTY. -/
  winEmpty : Bool := false
  /-- 10 R317 LAST_HEARD. -/
  lastHeard : Nat := 0
  /-- 10 R317 SEQ_TIME. -/
  seqTime : Nat := 0
  /-- 10 R317 LAST_SEQ. -/
  lastSeq : Nat := 0
  /-- 10 R317 SEQ_VALID. -/
  seqValid : Bool := false
  /-- 10 R317 HIT. -/
  hit : Bool := false
  /-- 10 R317 MARK. -/
  mark : Bool := false
  /-- 10 R317 STATIC. -/
  static : Bool := false
  /-- 10 R317 PIN. -/
  pin : Bool := false
  /-- 10 R317 ZAO. -/
  zao : Bool := false
  /-- 10 R317 DST_SHORT. -/
  dstShort : Bool := false
  /-- 10 R317 UP_PENDING. -/
  upPending : Bool := false
  /-- 10 R317 UP_SEQ. -/
  upSeq : Nat := 0
  /-- 10 R317 DOWN_SEQ. -/
  downSeq : Nat := 0
  /-- 10 R317 XCOUNT. -/
  xcount : Nat := 0
  /-- 10 R317 UP_RATE. -/
  upRate : Nat := 0
  /-- 10 R317 UP_VALID. -/
  upValid : Bool := false
  /-- 10 R317 DOWN_RATE. -/
  downRate : Nat := 0
  /-- 10 R317 DOWN_VALID. -/
  downValid : Bool := false
  /-- 10 R317 BE. -/
  be : Nat := 0
  /-- 10 R317 BACKOFF. -/
  backoff : Nat := 0
  /-- 10 R317 RSSI_AVG. -/
  rssiAvg : Int := 0
  /-- 10 R317 LQI_AVG. -/
  lqiAvg : Nat := 0
  /-- 10 R317 UP_MAP. -/
  upMap : List Nat := []
  /-- 10 R317 UP_PREV while held. -/
  upPrev : List Nat := []
  /-- 10 R317 DOWN_MAP. -/
  downMap : List Nat := []
  /-- 10 R317 SNR codes; empty before the first exchange. -/
  snr : List Nat := []
  /-- 10 R328 the entry fails its parity check. -/
  bad : Bool := false
deriving DecidableEq, Repr

/-- One installed prefix (firmware copy of R324). -/
structure PrefixE where
  /-- 10 R322 destination bits [127:64]. -/
  pfx : Nat := 0
  /-- 10 R323 PLEN. -/
  plen : Nat := 0
  /-- 10 R323 ACTION. -/
  action : Nat := 0
  /-- 10 R323 PORT. -/
  port : Nat := 0
  /-- 10 R323 PAN_ID. -/
  panId : Nat := 0
  /-- 10 R323 TM_PROFILE. -/
  tmProfile : Nat := 0
  /-- 10 R324 result index. -/
  result : Nat := 0
  /-- 10 R328 the result fails its parity check. -/
  bad : Bool := false
deriving DecidableEq, Repr

/-- One learn lock (R334). -/
structure LearnLock where
  /-- 10 R334 key KIND. -/
  kind : Nat := 0
  /-- 10 R334 key PAN_ID. -/
  panId : Nat := 0
  /-- 10 R334 key ADDR. -/
  addr : Nat := 0
  /-- 10 R334 observations in arrival order. -/
  obs : List LearnObs := []
  /-- 10 R335 EXTRA. -/
  extra : Nat := 0
  /-- 10 R334 the record is written, holdoff runs. -/
  holdoff : Bool := false
  /-- 10 R335 WAS_PRESENT. -/
  wasPresent : Bool := false
  /-- 10 R334 INSERTED. -/
  inserted : Bool := false
  /-- 10 R335 FIRST. -/
  firstUs : Nat := 0
  /-- 10 R334 raw time its window or holdoff ends. -/
  dueNs : Nat := 0
deriving DecidableEq, Repr

/-- TBL block. -/
structure TblSt where
  /-- 10 R310 node table by position. -/
  nodes : Tbl NodeE := []
  /-- 10 R310 neighbour table by index. -/
  nbrs : Tbl NbrE := []
  /-- 10 R310 prefixes installed. -/
  prefixes : List PrefixE := []
  /-- 10 R337 TRIE_POOL.HIGH. -/
  poolHigh : Tbl Nat := []
  /-- 10 R337 HASH_SEED. -/
  hashSeed : Nat := 4294967295
  /-- 10 R339 air_pan_id. -/
  airPanId : Nat := 0
  /-- 10 R339 near_pct. -/
  nearPct : Nat := 95
  /-- 10 R339 unknown_ring. -/
  unknownRing : Nat := 255
  /-- 10 R337 LEARN_EN. -/
  learnEnable : Bool := false
  /-- 10 R337 LEARN_BASE. -/
  learnBase : Nat := 0
  /-- 10 R337 LEARN_CTRL.LOG2. -/
  learnLog2 : Nat := 6
  /-- 10 R337 LEARN_HEAD. -/
  learnHead : Nat := 0
  /-- 10 R337 LEARN_TAIL. -/
  learnTail : Nat := 0
  /-- 10 R335 PHASE of the next record. -/
  learnPhase : Bool := true
  /-- 10 R339 window_ms. -/
  windowMs : Nat := 2
  /-- 10 R339 holdoff_ms. -/
  holdoffMs : Nat := 1000
  /-- 10 R339 peer_ports. -/
  peerPorts : Nat := 0
  /-- 10 R337 LOCKS. -/
  locks : List LearnLock := []
  /-- 10 R339 policy. -/
  evictPolicy : Nat := 2
  /-- 10 R339 max_kicks. -/
  maxKicks : Nat := 256
  /-- 10 R337/R339 node period_s: SWEEP_NODE reads 0. -/
  ageNode : Nat := 0
  /-- 10 R339 neighbour period_s. -/
  ageNbr : Nat := 0
  /-- 10 R337 CNT. -/
  cnt : Tbl Nat := []
  /-- 10 R326 frames dropped by ACTION DROP. -/
  dropAction : Nat := 0
  /-- 10 R315 buckets in the bucket cache per set, most recent first. -/
  bucketCache : Tbl (List Nat) := []
  /-- 10 R319 indices in the neighbour cache per set, most recent first. -/
  nbrCache : Tbl (List Nat) := []
deriving DecidableEq, Repr

/-- One meter (R346). -/
structure MeterSt where
  /-- 11 R346 mode: off. -/
  mode : Nat := 0
  /-- 11 R346 colour_aware. -/
  aware : Bool := false
  /-- 11 R348 red_action. -/
  redAction : Nat := 0
  /-- 11 R361 cir_kbps. -/
  cirKbps : Nat := 0
  /-- 11 R361 cbs. -/
  cbs : Nat := 64
  /-- 11 R361 pir_kbps. -/
  pirKbps : Nat := 0
  /-- 11 R361 pbs_ebs. -/
  pbsEbs : Nat := 64
  /-- 11 R347 Tc, 1/256 byte. -/
  tc : Nat := 0
  /-- 11 R347 Tp or Te, 1/256 byte. -/
  tp : Nat := 0
  /-- 11 R347 raw time of the last frame metered. -/
  lastNs : Nat := 0
  /-- 11 R347 part of a unit of Tc carried to the next fill. -/
  cRem : Nat := 0
  /-- 11 R347 part of a unit of Tp carried to the next fill. -/
  pRem : Nat := 0
  /-- 11 R362 green frames. -/
  green : Nat := 0
  /-- 11 R362 yellow frames. -/
  yellow : Nat := 0
  /-- 11 R362 red frames. -/
  red : Nat := 0
deriving DecidableEq, Repr

/-- One shaper (R355). -/
structure ShaperSt where
  /-- 11 R355 rate, 10 bit/s: 40 Gbit/s. -/
  rate : Nat := 4000000000
  /-- 11 R355 burst. -/
  burst : Nat := 16777216
  /-- 11 R355 T, 1/256 byte: the burst. -/
  t : Int := 4294967296
  /-- 11 R355 raw time of the last accrual. -/
  lastNs : Nat := 0
  /-- 11 R355 part of a unit of T carried to the next accrual. -/
  rem : Nat := 0
  /-- 11 R356 on the wheel, with its eligible time in us. -/
  wheel : Option Nat := none
  /-- 11 R356 in a coarse bucket. -/
  coarse : Bool := false
  /-- 11 R356 bucket. -/
  bucket : Nat := 0
  /-- 11 R362 frames released. -/
  released : Nat := 0
deriving DecidableEq, Repr

/-- One traffic-manager queue (R350). -/
structure QueueSt where
  /-- 11 R361 port. -/
  port : Nat := 5
  /-- 11 R361 class. -/
  cls : Nat := 7
  /-- 11 R361 ring. -/
  ring : Nat := 0
  /-- 11 R361 quantum. -/
  quantum : Nat := 1536
  /-- 11 R361 max_bytes. -/
  maxBytes : Nat := 65536
  /-- 11 R361 max_frames. -/
  maxFrames : Nat := 256
  /-- 11 R361 yellow_pct. -/
  yellowPct : Nat := 50
  /-- 11 R361 shaper: none. -/
  shaper : Nat := 65535
  /-- 11 R361 nb_cap. -/
  nbCap : Nat := 8
  /-- 11 R350 frames held, in arrival order. -/
  frames : List QFrame := []
  /-- 11 R353 DRR deficit. -/
  deficit : Int := 0
  /-- 11 R362 frames sent. -/
  sent : Nat := 0
  /-- 11 R362 frames dropped. -/
  dropped : Nat := 0
  /-- 11 R351 raw time of the last full drop. -/
  lastFullNs : Option Nat := none
  /-- 11 R351 1 s bucket of the last EV_TM_NB_CAP. -/
  nbCapBucket : Option Nat := none
deriving DecidableEq, Repr

/-- TM block. -/
structure TmSt where
  /-- 11 R350 queues. -/
  queues : Tbl QueueSt := []
  /-- 11 R346 meters. -/
  meters : Tbl MeterSt := []
  /-- 11 R355 shapers. -/
  shapers : Tbl ShaperSt := []
  /-- 11 R343 profiles, 0. -/
  profiles : Tbl Nat := []
  /-- 11 R344 DSCP class map where set (default 7 - floor(DSCP/8)). -/
  dscpClass : Tbl Nat := []
  /-- 11 R346 DSCP colour map where set. -/
  dscpColour : Tbl Nat := []
  /-- 11 R344 enabled port-table entries: UDP port and class. -/
  portTable : Tbl (Nat × Nat) := []
  /-- 11 R345 unknown_queue. -/
  unknownQueue : Nat := 0
  /-- 11 R359 RESERVE. -/
  reserve : Nat := 1024
  /-- 11 R353 active list per port. -/
  active : Tbl (List Nat) := []
  /-- 11 R353 queue whose visit at the front of its port's list is in progress. -/
  drrVisit : Tbl Nat := []
  /-- 11 R352 class-0 queue served last per port. -/
  lastStrict : Tbl Nat := []
  /-- 16 R495 egress held by PAUSE until. -/
  pauseNs : Tbl Nat := []
  /-- 11 R359 FINE_POS. -/
  finePos : Nat := 0
  /-- 11 R359 COARSE_POS. -/
  coarsePos : Nat := 0
  /-- 11 R342/R351 frames on their way to the classifier, with their TM_PROFILE, oldest first. -/
  arriving : List (Nat × QFrame) := []
  /-- 01 R8 port 7: frames delivered to firmware. -/
  fwRx : List PktFrame := []
  /-- 11 R359 QSEL. -/
  qsel : Nat := 0
  /-- 11 R356 1 s bucket of the last EV_TM_WHEEL_LATE. -/
  lateBucket : Option Nat := none
  /-- 11 R360 1 s bucket of the last EV_TM_PROFILE_BAD. -/
  badBucket : Option Nat := none
  /-- 11 R359 CNT. -/
  cnt : Tbl Nat := []
  /-- 01 R18 packet-buffer frames and their cells. -/
  bufs : List PBuf := []
deriving DecidableEq, Repr

/-- The key of one slot generation. -/
structure KeyMat where
  /-- 12 R371 TYPE. -/
  ktype : Nat := 0
  /-- 12 R371 ENGINES. -/
  engines : Nat := 0
  /-- 12 R371 key material. -/
  key : List Byte := []
  /-- 12 R371 NONCE_MODE. -/
  nonceMode : Nat := 0
  /-- 12 R371 USAGE_LIMIT. -/
  usageLimit : Nat := 4294901760
  /-- 12 R371 USAGE_COUNT. -/
  usageCount : Nat := 0
  /-- 12 R371 WARN_MARGIN. -/
  warnMargin : Nat := 1048576
  /-- 12 R371 RECORD, RECORD_VALID. -/
  record : Option Nat := none
  /-- 12 R371 DEPTH. -/
  depth : Nat := 0
  /-- 12 R371 HAS_PARENT, PARENT, PARENT_GEN. -/
  parent : Option (Nat × Nat) := none
  /-- 12 R371 NONCE_FIXED. -/
  nonceFixed : Nat := 0
  /-- 13 R409 NC. -/
  nc : Nat := 0
  /-- 13 R411 H known durable. -/
  hDurable : Option Nat := none
  /-- 13 R411 H being written. -/
  hWriting : Option Nat := none
  /-- 13 R411 failed writes of that entry. -/
  writeFails : Nat := 0
  /-- 13 R413 NC in the last acknowledged delta. -/
  copiedNc : Nat := 0
  /-- 15 R473 USAGE_COUNT in the last acknowledged delta. -/
  copiedUse : Nat := 0
deriving DecidableEq, Repr

/-- A staged successor (R378). -/
structure StagedKey where
  /-- 12 R378 the successor. -/
  mat : KeyMat := {}
  /-- 12 R378 kcv given. -/
  kcv : Option Nat := none
  /-- 12 R378 VERIFIED. -/
  verified : Bool := false
  /-- 12 R385 rx_overlap_ms. -/
  overlapMs : Nat := 0
deriving DecidableEq, Repr

/-- One key slot (R371). -/
structure KeySlotSt where
  /-- 12 R371 STATE: EMPTY. -/
  state : Nat := 0
  /-- 12 R371 GEN. -/
  gen : Nat := 0
  /-- 12 R371 current key. -/
  mat : KeyMat := {}
  /-- 12 R371 STAGED and the successor. -/
  staged : Option StagedKey := none
  /-- 12 R379 RETIRING: former generation held. -/
  retiring : Option (Nat × KeyMat) := none
  /-- 12 R385 raw time at which the overlap ends. -/
  overlapEnds : Option Nat := none
  /-- 12 R371 REFS on the current generation. -/
  refs : Nat := 0
  /-- 12 R379 references on the retiring generation. -/
  oldRefs : Nat := 0
  /-- 12 R379/R380 queue pair and tag whose reply waits. -/
  waiter : Option (Nat × Nat) := none
  /-- 12 R379 the generation that waits for the retiring one. -/
  waitNext : Option StagedKey := none
  /-- 12 R380 KEY_ERASE: aborts after 20 us. -/
  erasing : Bool := false
  /-- 12 R380 operations aborted. -/
  aborted : Nat := 0
deriving DecidableEq, Repr

/-- SEC block. -/
structure SecSt where
  /-- 12 R394 ROOT_READY. -/
  rootReady : Bool := false
  /-- 12 R364 root register. -/
  root : List Byte := []
  /-- 12 R394 KEYS_LOST. -/
  keysLost : Bool := false
  /-- 12 R394 PLAIN_LOCKED. -/
  plainLocked : Bool := false
  /-- 12 R369 boot_nonce. -/
  bootNonce : List Byte := []
  /-- 12 R394 TAMPER_LIVE. -/
  tamperLive : Nat := 0
  /-- 12 R387 consecutive samples beyond the temperature thresholds. -/
  tempHot : Nat := 0
  /-- 12 R394 PUF_ERRORS. -/
  pufErrors : Nat := 0
  /-- 12 R370 key slots. -/
  slots : Tbl KeySlotSt := []
  /-- 12 R394 LAST_KEY_EVENT. -/
  lastEvent : Nat := 0
  /-- 12 R394 CNT. -/
  cnt : Tbl Nat := []
  /-- 12 R375 wrapped record store. -/
  records : Tbl (List Byte) := []
deriving DecidableEq, Repr

/-- AON well: kept by every reset (R68). -/
structure AonSt where
  /-- 12 R367 epoch salt. -/
  salt : List Byte := []
  /-- 12 R394 SALT_VALID. -/
  saltValid : Bool := false
  /-- 03 R73 TAMPER_LATCHED. -/
  latch : Bool := false
  /-- 03 R73 CYCLED_SINCE_TAMPER. -/
  cycled : Bool := false
  /-- 12 R394 TAMPER_CAUSE. -/
  cause : Nat := 0
  /-- 12 R394 TAMPER_CAUSE.STATE. -/
  causeState : Nat := 0
  /-- 12 R394 LOOP_EN. -/
  loopEn : Nat := 0
  /-- 12 R388 consecutive mismatched bits per loop. -/
  loopMiss : Tbl Nat := []
  /-- 12 R366 PUF_FAILED. -/
  pufFailed : Bool := false
  /-- 07 R218 C saved at LULL entry. -/
  savedC : Nat := 0
  /-- 02 R55 AON runs from its RC oscillator. -/
  rcOsc : Bool := false
  /-- 02 R55 EV_REF_LOSS due at the next INIT. -/
  xtalEvent : Bool := false
  /-- 02 R50 EV_VBAT_LOST due at the next INIT. -/
  vbatEvent : Bool := false
deriving DecidableEq, Repr

/-- One-time-programmable fuses. -/
structure OtpSt where
  /-- 12 R442/R529 security-version counter. -/
  svBurnt : Nat := 0
  /-- 17 R529 tamper-clear counter. -/
  clearBurnt : Nat := 0
  /-- 17 R540 HLTH.OTP DEAD. -/
  dead : Nat := 0
  /-- 17 R529/R540 spare banks 10-15 in use (HLTH.OTP ASSIGNED) with the counter each serves: 0 security version, 1 tamper clear. -/
  owner : Tbl Nat := []
  /-- 17 R529 good burnt fuses per bank. -/
  banks : Tbl Nat := []
  /-- 12 R394 PUF_ARRAY. -/
  pufArray : Nat := 0
  /-- 12 R394 ENROLLED. -/
  enrolled : Nat := 1
  /-- 12 R366 arrays whose regeneration failed. -/
  pufBad : Nat := 0
deriving DecidableEq, Repr

/-- The saved-state snapshot in flash (R481). -/
structure SavedState where
  /-- 12 R368 salt the snapshot is encrypted under. -/
  salt : List Byte := []
  /-- 15 R481 keys, as stored records. -/
  slots : Tbl KeySlotSt := []
  /-- 15 R481 tables. -/
  tblB : TblSt := {}
  /-- 15 R481 slot engine settings and lists. -/
  slotB : SlotSt := {}
  /-- 15 R481 air budget. -/
  budgB : BudgSt := {}
  /-- 15 R481 chain settings. -/
  rfcB : RfcSt := {}
  /-- 15 R481 lane settings. -/
  laneB : LaneBlk := {}
  /-- 15 R481 traffic-manager settings. -/
  tmB : TmSt := {}
deriving DecidableEq, Repr

/-- The boot record (R438). -/
structure BootRec where
  /-- 14 R438 a copy with a valid CHECK exists. -/
  valid : Bool := false
  /-- 14 R438 SEQ. -/
  seq : Nat := 0
  /-- 14 R438 PREFERRED. -/
  preferred : Nat := 0
  /-- 14 R438 TRIAL. -/
  trial : Bool := false
  /-- 14 R438 COMMITTED. -/
  committed : Nat := 0
  /-- 14 R438 TRIAL_SV. -/
  trialSv : Nat := 0
  /-- 14 R438 TRIAL_TAG. -/
  trialTag : List Byte := []
deriving DecidableEq, Repr

/-- One dump (R535). -/
structure DumpRec where
  /-- 17 R535 CAUSE. -/
  cause : Nat := 0
  /-- 17 R535 byte 7. -/
  flags : Nat := 0
  /-- 17 R535/R536 header, section table and sections. -/
  bytes : List Byte := []
  /-- 17 R535 total length. -/
  length : Nat := 0
  /-- 17 R535 dump sequence number. -/
  seq : Nat := 0
deriving DecidableEq, Repr

/-- One current nonce-journal entry (R410). -/
structure NonceEntry where
  /-- 13 R410 fingerprint. -/
  fp : List Byte := []
  /-- 13 R410 high-water H. -/
  h : Nat := 0
  /-- 13 R410 sequence number. -/
  seq : Nat := 0
deriving DecidableEq, Repr

/-- The xSPI flash: kept by every reset. -/
structure FlashSt where
  /-- 14 R438 boot record. -/
  bootRec : BootRec := {}
  /-- 16 R509 manifests in slots A and B. -/
  slotManifest : Tbl (List Byte) := []
  /-- 16 R509 drops durable in slots A and B. -/
  slotImage : Tbl (Tbl (List Byte)) := []
  /-- 14 R435 firmware-image journal entries per slot, oldest first. -/
  journal : Tbl (List (List Byte)) := []
  /-- 13 R410 nonce journal: current entries. -/
  nonce : List NonceEntry := []
  /-- 13 R410 floor G. -/
  nonceFloor : Nat := 0
  /-- 13 R410 last sequence number. -/
  nonceSeq : Nat := 0
  /-- 13 R412 entries in the half in use. -/
  nonceLog : Nat := 0
  /-- 15 R481 saved-state snapshot. -/
  saved : Option SavedState := none
  /-- 12 R392 identity record present. -/
  identity : Bool := false
  /-- 12 R392 identity epoch. -/
  identityEpoch : Nat := 0
  /-- 16 R510 library images. -/
  library : Tbl (List Byte) := []
  /-- 16 R510 library manifests. -/
  libManifest : Tbl (List Byte) := []
  /-- 17 R537 unreleased dumps per slot. -/
  dumps : Tbl DumpRec := []
  /-- 17 R524 failed cores in the health log. -/
  failedCores : Nat := 0
  /-- 17 R524 failed physical lanes in the health log. -/
  failedLanes : List Nat := []
  /-- 17 R524 SRAM repairs in the health log. -/
  sramRepairs : Nat := 0
  /-- 17 R524 retired DRAM pages and their pool pages. -/
  retiredPages : List (Nat × Nat) := []
  /-- 17 R524 remapped flash blocks. -/
  flashRemaps : List Nat := []
  /-- 17 R524 PUF readings. -/
  pufReadings : List Nat := []
  /-- 17 R540 dump sequence number. -/
  dumpSeq : Nat := 0
deriving DecidableEq, Repr

/-- A message in a cipher engine (R414). -/
structure EngMsg where
  /-- 13 R415 the message. -/
  id : Nat := 0
  /-- 13 R414 urgency. -/
  urgency : Nat := 3
  /-- 13 R398 key slot referenced. -/
  slot : Nat := 0
  /-- 13 R398 its generation. -/
  gen : Nat := 0
  /-- 13 R415 suspended. -/
  suspended : Bool := false
deriving DecidableEq, Repr

/-- One XTS region (R404). -/
structure XtsRegion where
  /-- 13 R422 XTS_BASE. -/
  base : Nat := 0
  /-- 13 R422 XTS_SIZE. -/
  pages : Nat := 0
  /-- 13 R422 ENABLE. -/
  enable : Bool := false
  /-- 13 R422 SLOT. -/
  slot : Nat := 0
  /-- 13 R406 EV_CRY_XTS_KEY raised since it was configured. -/
  reported : Bool := false
deriving DecidableEq, Repr

/-- One saved hash context (R408). -/
structure HashCtx where
  /-- 13 R408 mode. -/
  mode : Nat := 0
  /-- 13 R408 HMAC key taken at start. -/
  key : List Byte := []
  /-- 13 R408 bytes hashed so far. -/
  data : List Byte := []
deriving DecidableEq, Repr

/-- CRY block. -/
structure CrySt where
  /-- 13 R415 messages per engine, running first. -/
  msgs : Tbl (List EngMsg) := []
  /-- 13 R422 JOURNAL_OK. -/
  journalOk : Bool := false
  /-- 13 R422 COMPACTING. -/
  compacting : Bool := false
  /-- 13 R422 XTS regions. -/
  regions : Tbl XtsRegion := []
  /-- 13 R408 saved contexts in use. -/
  hashes : Tbl HashCtx := []
  /-- 13 R422 CNT. -/
  cnt : Tbl Nat := []
deriving DecidableEq, Repr

/-- One check-value result. -/
structure ChkRes where
  /-- 13 R423 LENGTH. -/
  length : Nat := 0
  /-- 13 R423 ABORT. -/
  abort : Bool := false
  /-- 13 R423 SPAWNED. -/
  spawned : Bool := false
  /-- 13 R423 MATCH. -/
  isMatch : Bool := false
  /-- 13 R423 RES_VALUE. -/
  value : Nat := 0
deriving DecidableEq, Repr

/-- One check-value unit (R423). -/
structure ChkSt where
  /-- 13 R423 PAUSE. -/
  pause : Bool := false
  /-- 13 R423 POLY. -/
  poly : Nat := 0
  /-- 13 R423 MODE. -/
  mode : Nat := 0
  /-- 13 R423 SKIP_ABORT. -/
  skipAbort : Bool := false
  /-- 13 R423 PAUSED. -/
  paused : Bool := false
  /-- 13 R423 ATTACHED and LANE. -/
  attached : Option Nat := none
  /-- 13 R423 OVF. -/
  ovf : Bool := false
  /-- 13 R423 WRITE_IGNORED. -/
  writeIgnored : Bool := false
  /-- 13 R423 EXPECT_EN. -/
  expectEn : Bool := false
  /-- 13 R423 VALUE. -/
  value : Nat := 0
  /-- 13 R423 INIT. -/
  init : Nat := 0
  /-- 13 R423 EXPECT. -/
  expect : Nat := 0
  /-- 13 R423 result queue. -/
  results : List ChkRes := []
  /-- 13 R423 RES_INFO latched, VALID. -/
  latched : Option ChkRes := none
  /-- 13 R423 FRAMES. -/
  frames : Nat := 0
  /-- 13 R423 MISMATCH. -/
  mismatch : Nat := 0
  /-- 13 R423 SKIPPED. -/
  skipped : Nat := 0
  /-- 13 R421 a save whose reply waits for the pause. -/
  saveWait : Option (Nat × Nat) := none
deriving DecidableEq, Repr

/-- Own-firmware image (R432). -/
structure FwUpd where
  /-- 14 R453 FW_STATUS.STATE. -/
  state : Nat := 0
  /-- 14 R453 FW_HELD: drops held. -/
  held : List Nat := []
  /-- 14 R436 drops entered in the journal. -/
  journaled : List Nat := []
  /-- 14 R434 drops programmed whose read-back is to come. -/
  pendingDrops : Tbl (List Byte) := []
  /-- 14 R432 manifest of the open image. -/
  manifest : List Byte := []
  /-- 14 R433 accept_mask. -/
  acceptMask : Nat := 0
  /-- 14 R433 intake_port. -/
  intakePort : Nat := 0
  /-- 14 R455 auto_verify. -/
  autoVerify : Bool := true
  /-- 14 R455 job of a verification. -/
  job : Nat := 0
  /-- 14 R453 JOURNAL_OK. -/
  journalOk : Bool := false
  /-- 14 R453 BURN_PENDING. -/
  burnPending : Bool := false
  /-- 14 R441 commit_after_s. -/
  commitAfterS : Nat := 0
  /-- 14 R443 drops of a recovery image in RAM. -/
  ramDrops : Tbl (List Byte) := []
  /-- 14 R443 recovery init stage verified. -/
  ready : Bool := false
  /-- 03 R88 IMAGE_VERSION of the running firmware. -/
  imageVersion : Nat := 0
  /-- 17 R535 image tag of the running firmware. -/
  runTag : List Byte := []
  /-- 12 R393 security version of the running firmware. -/
  runSv : Nat := 0
  /-- 12 R393 manifest of the running firmware. -/
  runManifest : List Byte := []
  /-- 14 R433 drops dropped by accept_mask. -/
  ignored : Nat := 0
deriving DecidableEq, Repr

/-- One campaign member (R446). -/
structure MemberSt where
  /-- 14 R446 IPv6 address. -/
  address : Nat := 0
  /-- 14 R446 0 PENDING 1 HAVE_ALL 2 NODE_OK 3 INSTALLED 4 FAILED. -/
  state : Nat := 0
  /-- 14 R446 resumption bitmap, unlisted bytes 0. -/
  bitmap : List Byte := []
  /-- 14 R447 MANIFEST_HELD. -/
  manifestHeld : Bool := false
  /-- 14 R450 repair passes that visited it. -/
  pass : Nat := 0
  /-- 14 R450 under a repair visit. -/
  visiting : Bool := false
  /-- 14 R450 next drop to consider in the visit. -/
  nextDrop : Nat := 0
deriving DecidableEq, Repr

/-- One campaign (R444). -/
structure CampSt where
  /-- 14 R444 state code. -/
  state : Nat := 0
  /-- 14 R453 ROUND. -/
  round : Nat := 0
  /-- 14 R453 IN_WINDOW. -/
  inWindow : Bool := false
  /-- 14 R444 state paused from. -/
  pausedFrom : Nat := 0
  /-- 14 R455 op 0 parameters. -/
  cfg : CampCfg := {}
  /-- 14 R445 manifest. -/
  manifest : List Byte := []
  /-- 14 R445 drops held. -/
  drops : Tbl (List Byte) := []
  /-- 14 R446 members by index. -/
  members : Tbl MemberSt := []
  /-- 14 R449 next drop of the round. -/
  position : Nat := 0
  /-- 14 R449 drops this round has sent. -/
  roundSent : Nat := 0
  /-- 14 R449 report_wait_s runs. -/
  waitingReports : Bool := false
  /-- 14 R450 repair pass. -/
  pass : Nat := 0
  /-- 14 R450 second of the last EV_UPD_MEMBER_FAIL. -/
  lastFailS : Option Nat := none
  /-- 14 R450 members skipped for want of a route. -/
  skipped : Nat := 0
deriving DecidableEq, Repr

/-- UPD block. -/
structure UpdSt where
  /-- 14 R453 own firmware. -/
  fw : FwUpd := {}
  /-- 14 R453 campaigns. -/
  camps : Tbl CampSt := []
  /-- 14 R453 CNT. -/
  cnt : Tbl Nat := []
  /-- 14 R433 drops that came by Dalhiuf (path 1) or as datagrams (path 2) and wait for the agent, oldest first. -/
  intake : List (Nat × DropRec) := []
deriving DecidableEq, Repr

/-- One Dalhiuf port (R483). -/
structure LnkPort where
  /-- 15 R483 STATE. -/
  state : Nat := 0
  /-- 15 R483 TWIN_ROLE. -/
  role : Nat := 0
  /-- 15 R483 PEER. -/
  peer : Nat := 0
  /-- 15 R469 chip_id in the peer's hello. -/
  peerChip : Nat := 0
  /-- 15 R486 enable. -/
  enable : Bool := false
  /-- 15 R486 expected_peer. -/
  expectedPeer : Nat := 0
  /-- 15 R486 tx_slot. -/
  txSlot : Nat := 0
  /-- 15 R486 rx_slot. -/
  rxSlot : Nat := 0
  /-- 15 R486 link_down_us. -/
  linkDownUs : Nat := 100
  /-- 15 R486 boundary_out. -/
  boundaryOut : Bool := false
  /-- 15 R486 handover_out. -/
  handoverOut : Bool := false
  /-- 15 R461 block lock. -/
  lock : Bool := false
  /-- 15 R461 matching hello heard. -/
  matched : Bool := false
  /-- 15 R461 EV_LNK_PEER_MISMATCH raised. -/
  mismatchSeen : Bool := false
  /-- 15 R461 hellos sent. -/
  hellos : Nat := 0
  /-- 15 R459 rx_slot generation and last NC accepted. -/
  floor : Option (Nat × Nat) := none
  /-- 18 R548 DOWN for a loop-back or pattern. -/
  held : Bool := false
  /-- 15 R461 raw time of the last hello in ms. -/
  lastMs : Nat := 0
  /-- 15 R483 PORT_CNT. -/
  cnt : Tbl Nat := []
deriving DecidableEq, Repr

/-- LNK block. -/
structure LnkSt where
  /-- 15 R483 ports. -/
  ports : Tbl LnkPort := []
  /-- 15 R486 set_id. -/
  setId : Nat := 0
  /-- 15 R483 MEMBER. -/
  memberId : Nat := 0
  /-- 15 R483 KIND. -/
  kind : Nat := 0
  /-- 15 R483 MEMBERS. -/
  members : Nat := 0
  /-- 15 R483 RING_BROKEN. -/
  ringBroken : Bool := false
  /-- 15 R483 UP_PORT. -/
  upPort : Nat := 0
  /-- 15 R483 HMAX. -/
  hMax : Nat := 0
  /-- 15 R486 time_root. -/
  timeRoot : Nat := 0
  /-- 15 R486 hop_limit. -/
  hopLimit : Nat := 4095
  /-- 15 R486 link_ring. -/
  linkRing : Nat := 0
  /-- 15 R486 routes. -/
  routes : List Route := []
  /-- 15 R464 (SRC, VL, SEQ) of broadcasts seen, newest first. -/
  seen : List (Nat × Nat × Nat) := []
  /-- 15 R458 next SEQ per virtual lane. -/
  seqs : Tbl Nat := []
  /-- 15 R464 member and ring port reported DOWN. -/
  downReports : List (Nat × Nat) := []
  /-- 15 R458 link frames sent, with their port, oldest first. -/
  out : List (Nat × LinkFrame) := []
  /-- 15 R473/13 R411 link frames whose nonce draw waits, with their port, oldest first. -/
  waiting : List (Nat × LinkFrame) := []
deriving DecidableEq, Repr

/-- TWIN block. -/
structure TwinSt where
  /-- 15 R484 CONFIGURED. -/
  configured : Bool := false
  /-- 15 R484 GATES. -/
  gates : Bool := false
  /-- 15 R484 PREPARING. -/
  preparing : Bool := false
  /-- 15 R484 PEER_ALIVE. -/
  peerAlive : Bool := false
  /-- 15 R484 SYNCED (standby). -/
  synced : Bool := false
  /-- 15 R484 YIELDING. -/
  yielding : Bool := false
  /-- 15 R484 VOID. -/
  void : Bool := false
  /-- 15 R484 TIE. -/
  tie : Bool := false
  /-- 15 R484 CLAIM.OWN. -/
  claimOwn : Nat := 0
  /-- 15 R484 CLAIM.WINNER. -/
  claimWinner : Nat := 0
  /-- 15 R484 CLAIM_PEER. -/
  claimPeer : Nat := 0
  /-- 15 R480 the peer reports SYNCED. -/
  peerSynced : Bool := false
  /-- 15 R484 DELTA.SEQ. -/
  deltaSeq : Nat := 0
  /-- 15 R473 DELTA_SEQ last acknowledged. -/
  lastAcked : Nat := 0
  /-- 15 R486 last ACK latency. -/
  ackLatencyUs : Nat := 0
  /-- 15 R471 raw time of the boundary of the last delta. -/
  deltaSentNs : Nat := 0
  /-- 15 R486 chip_id. -/
  chipId : Nat := 0
  /-- 15 R486 claim_offset_us. -/
  claimOffset : Nat := 9960
  /-- 15 R486 delta_ack_us. -/
  deltaAck : Nat := 5000
  /-- 15 R474 PRIORITY. -/
  priority : Nat := 32
  /-- 15 R474 INCUMBENT. -/
  incumbent : Bool := false
  /-- 15 R474 twin watchdog kicked within the last slot. -/
  live : Bool := true
  /-- 15 R476 boundaries until the gates are enabled. -/
  enableIn : Option Nat := none
  /-- 15 R476 gates to be disabled at the next boundary. -/
  disableDue : Bool := false
  /-- 15 R480 TWIN_SWITCH whose reply waits. -/
  switchWait : Option (Nat × Nat) := none
  /-- 15 R471 BULK copy applied. -/
  bulkDone : Bool := false
  /-- 15 R476 consecutive heartbeats missing. -/
  missedBeats : Nat := 0
  /-- 15 R476 tie check in force. -/
  tieCheck : Bool := false
  /-- 15 R471 changes of the slot in progress, for its delta record. -/
  pendingDelta : DeltaRec := {}
  /-- 15 R472 USAGE_COUNT and NC of each slot in the last delta record sent. -/
  counters : Tbl (Nat × Nat) := []
  /-- 15 R481 save or restore under way: op and job. -/
  saving : Option (Nat × Nat) := none
  /-- 15 R482 usage_floor of the restore. -/
  usageFloor : Nat := 0
  /-- 15 R481 the snapshot a save has taken and writes. -/
  snapshot : Option SavedState := none
  /-- 15 R471 delta records sent, oldest first. -/
  out : List DeltaRec := []
  /-- 15 R476 heartbeats sent. -/
  beats : Nat := 0
  /-- 15 R484 CNT. -/
  cnt : Tbl Nat := []
deriving DecidableEq, Repr

/-- One security association (R496). -/
structure MacsecSa where
  /-- 16 R496 SAK slot. -/
  slot : Nat := 0
  /-- 16 R496 next PN. -/
  nextPn : Nat := 1
  /-- 16 R496 SSCI. -/
  ssci : Nat := 0
  /-- 16 R496 salt. -/
  salt : Nat := 0
  /-- 16 R496 encryption or integrity only. -/
  encrypt : Bool := false
  /-- 16 R497 replay_window. -/
  replayWindow : Nat := 0
  /-- 16 R498 pn_warn. -/
  pnWarn : Nat := 9223372036854775808
  /-- 16 R498 EV_MACSEC_PN_NEAR raised. -/
  warned : Bool := false
deriving DecidableEq, Repr

/-- One Ethernet port (R511). -/
structure EthPort where
  /-- 16 R511 MODE. -/
  mode : Nat := 0
  /-- 16 R511 LINK. -/
  link : Bool := false
  /-- 16 R511 SPEED. -/
  speed : Nat := 0
  /-- 16 R511 MACSEC. -/
  macsec : Bool := false
  /-- 16 R511 TX_AN. -/
  txAn : Nat := 0
  /-- 16 R498 an AN has been activated. -/
  txAnSet : Bool := false
  /-- 16 R511 TX_STOPPED. -/
  txStopped : Bool := false
  /-- 16 R514 autoneg. -/
  autoneg : Bool := false
  /-- 16 R495 max_frame. -/
  maxFrame : Nat := 1522
  /-- 16 R514 pause_rx. -/
  pauseRx : Bool := false
  /-- 16 R514 mac_addr. -/
  mac : Nat := 0
  /-- 16 R514 eapol_ring. -/
  eapolRing : Nat := 0
  /-- 16 R496 SCI of the transmit channel. -/
  txSci : Nat := 0
  /-- 16 R496 transmit SAs by AN. -/
  txSas : Tbl MacsecSa := []
  /-- 16 R496 receive SAs by SCI and AN. -/
  rxSas : List (Nat × Nat × MacsecSa) := []
  /-- 18 R548 DOWN for a loop-back or pattern. -/
  held : Bool := false
  /-- 16 R495 second of the last EV_ETH_RX_DROP. -/
  dropSec : Option Nat := none
  /-- 16 R497 second of the last EV_MACSEC_AUTH_FAIL. -/
  icvSec : Option Nat := none
  /-- 16 R494 frames transmitted, oldest first. -/
  out : List PktFrame := []
  /-- 16 R511 CNT. -/
  cnt : Tbl Nat := []
deriving DecidableEq, Repr

/-- DDR, PCIE and ring blocks. -/
structure RankDdr where
  /-- 16 R512 TRAINED. -/
  trained : Bool := false
  /-- 16 R512 RANK1. -/
  rank1 : Bool := false
  /-- 16 R512 REFRESH_2X. -/
  refresh2x : Bool := false
  /-- 16 R512 SELF_REFRESH. -/
  selfRefresh : Bool := false
  /-- 16 R512 SIZE_GIB. -/
  sizeGib : Nat := 0
  /-- 16 R512 DDR.CNT. -/
  cnt : Tbl Nat := []
  /-- 16 R512 LAST_CE. -/
  lastCe : Nat := 0
  /-- 16 R512 LAST_UE. -/
  lastUe : Nat := 0
  /-- 16 R507 second of the last EV_DDR_CE. -/
  ceSec : Option Nat := none
  /-- 17 R525 corrected errors per page within 24 h: the raw second of each. -/
  pageErrs : Tbl (List Nat) := []
  /-- 17 R523 pages that are retirement candidates. -/
  candidates : List Nat := []
  /-- 17 R530 64-byte units that stay poisoned. -/
  poisoned : List Nat := []
  /-- 17 R523 damaged units of the schedule lists. -/
  skipUnits : List Nat := []
deriving DecidableEq, Repr

/-- PCIE block. -/
structure PcieSt where
  /-- 16 R512 WIDTH. -/
  width : Nat := 0
  /-- 16 R512 SPEED. -/
  speed : Nat := 0
  /-- 16 R512 UP. -/
  up : Bool := false
  /-- 16 R512 PCIE.CNT. -/
  cnt : Tbl Nat := []
  /-- 16 R501 rings toward the host. -/
  th : Tbl DataRing := []
  /-- 16 R501 rings from the host. -/
  fh : Tbl DataRing := []
  /-- 16 R503 second of the last EV_RING_NO_BUFFER. -/
  noBufSec : Option Nat := none
  /-- 18 R549 link down for a PMA loop-back. -/
  held : Bool := false
  /-- 03 R77 PERST_N has risen. -/
  perst : Bool := false
  /-- 03 R77 link training started. -/
  training : Bool := false
  /-- 08 R262, 15 R468, 16 R497 TX air records, link messages and EAPOL frames that wait for a TH ring, oldest first. -/
  reports : List (Nat × PktFrame) := []
deriving DecidableEq, Repr

/-- One firewall region (R516). -/
structure FwRegion where
  /-- 17 R539 BASE. -/
  base : Nat := 0
  /-- 17 R539 SIZE. -/
  pages : Nat := 0
  /-- 17 R539 READ. -/
  read : Nat := 0
  /-- 17 R539 WRITE. -/
  write : Nat := 0
  /-- 17 R539 ENABLE. -/
  enable : Bool := false
deriving DecidableEq, Repr

/-- One violation record (R519). -/
structure FwRec where
  /-- 17 R539 MASTER. -/
  master : Nat := 0
  /-- 17 R539 address. -/
  addr : Nat := 0
  /-- 17 R539 WRITE. -/
  isWrite : Bool := false
  /-- 17 R539 REGION. -/
  region : Nat := 127
deriving DecidableEq, Repr

/-- FWALL block. -/
structure FwallSt where
  /-- 17 R539 regions. -/
  regions : Tbl FwRegion := []
  /-- 17 R539 FROZEN. -/
  frozen : List Nat := []
  /-- 17 R520 masters whose owner reset is complete. -/
  ownerReset : List Nat := []
  /-- 17 R539 violation queue. -/
  records : List FwRec := []
  /-- 17 R539 REC_INFO latched, VALID. -/
  latched : Option FwRec := none
  /-- 17 R539 VIOLATIONS. -/
  violations : Nat := 0
deriving DecidableEq, Repr

/-- HLTH block. -/
structure HlthSt where
  /-- 17 R540 DEGRADED. -/
  degraded : Nat := 0
  /-- 17 R540 CORES.ACTIVE: the 8 lowest. -/
  coresActive : Nat := 255
  /-- 17 R540 SRAM.PENDING. -/
  sramPending : Nat := 0
  /-- 17 R525 corrected errors per SRAM row within 24 h: the raw second of each. -/
  rowErrs : Tbl (List Nat) := []
  /-- 17 R525 watchdog expiries per core within 24 h: the raw second of each. -/
  watchdogs : Tbl (List Nat) := []
  /-- 17 R528 a spare array is to be enrolled. -/
  enrolDue : Bool := false
  /-- 17 R540 HLTH.CNT. -/
  cnt : Tbl Nat := []
deriving DecidableEq, Repr

/-- DUMP block. -/
structure DumpSt where
  /-- 17 R540 WRITING. -/
  writing : Bool := false
  /-- 17 R540 DRAM_VALID and the dump. -/
  dram : Option DumpRec := none
  /-- 17 R540 FLASH_SKIPPED. -/
  skipped : Bool := false
  /-- 17 R540 CAUSE. -/
  cause : Nat := 0
  /-- 17 R540 DUMP.LENGTH. -/
  length : Nat := 0
deriving DecidableEq, Repr

/-- A test that runs (R543). -/
structure TestRun where
  /-- 18 R556 KIND. -/
  kind : Nat := 0
  /-- 18 R556 TARGET. -/
  target : Nat := 0
  /-- 18 R545 depth. -/
  depth : Nat := 0
  /-- 18 R544 job number. -/
  job : Nat := 0
  /-- 18 R546 first slot taken. -/
  fromAsn : Nat := 0
  /-- 18 R546 slots taken. -/
  slots : Nat := 0
  /-- 18 R546 spare physical lane held. -/
  lane : Option Nat := none
  /-- 18 R551 BIST mask. -/
  mask : Nat := 0
  /-- 18 R553 pattern. -/
  pattern : Nat := 0
  /-- 18 R558 channel. -/
  channel : Nat := 0
  /-- 18 R558 phy_mode. -/
  phy : Nat := 0
  /-- 18 R558 power_hdbm. -/
  power : Int := 0
  /-- 18 R558 frame_len. -/
  frameLen : Nat := 0
  /-- 18 R558 duration_ms. -/
  durationMs : Nat := 0
  /-- 18 R546 its first slot has come. -/
  started : Bool := false
deriving DecidableEq, Repr

/-- TEST block. -/
structure TestSt where
  /-- 18 R556 BUSY, KIND, TARGET. -/
  run : Option TestRun := none
  /-- 18 R544 the test whose result TEST_STATUS reports. -/
  last : Option TestRun := none
  /-- 18 R556 SENT. -/
  sent : Nat := 0
  /-- 18 R556 RECEIVED. -/
  received : Nat := 0
  /-- 18 R556 ERRORS. -/
  errors : Nat := 0
  /-- 18 R556 BIST_FAIL.TARGETS. -/
  bistFail : Nat := 0
  /-- 18 R556 BIST_FAIL.ENGINES. -/
  engFail : Nat := 0
  /-- 18 R558 final status. -/
  finalStatus : Nat := 0
  /-- 18 R558 last return loss. -/
  lastRl : Int := 0
  /-- 18 R556 QSEL.QUEUE. -/
  qselQueue : Nat := 0
  /-- 18 R556 QSEL.TAG. -/
  qselTag : Nat := 0
  /-- 18 R556 QFLUSH_WORDS per queue and tag (key 128 q + t). -/
  flushWords : Tbl Nat := []
  /-- 18 R556 QFLUSH_ITEMS per queue and tag. -/
  flushItems : Tbl Nat := []
deriving DecidableEq, Repr

/-- The whole machine. -/
structure State where
  /-- model: the commands that are waiting, first in first out. -/
  pending : List Instr := []
  /-- model: counter the free values are drawn with. -/
  free : Nat := 0
  /-- block SYS. -/
  sys : SysSt := {}
  /-- block BOOT. -/
  boot : BootSt := {}
  /-- block HIF. -/
  hif : HifSt := {}
  /-- block EVT. -/
  evt : EvtSt := {}
  /-- block RFC. -/
  rfc : RfcSt := {}
  /-- block LANE. -/
  lane : LaneBlk := {}
  /-- block SLOT. -/
  slot : SlotSt := {}
  /-- block BUDG. -/
  budg : BudgSt := {}
  /-- block TM. -/
  tm : TmSt := {}
  /-- block TBL. -/
  tbl : TblSt := {}
  /-- block SEC. -/
  sec : SecSt := {}
  /-- AON well. -/
  aon : AonSt := {}
  /-- OTP fuses. -/
  otp : OtpSt := {}
  /-- xSPI flash. -/
  flash : FlashSt := {}
  /-- block CRY. -/
  cry : CrySt := {}
  /-- block CHK. -/
  chk : Tbl ChkSt := []
  /-- block UPD. -/
  upd : UpdSt := {}
  /-- block TIME. -/
  time : TimeSt := {}
  /-- block LNK. -/
  lnk : LnkSt := {}
  /-- block TWIN. -/
  twin : TwinSt := {}
  /-- block ETH. -/
  eth : Tbl EthPort := []
  /-- block PCIE and the data rings. -/
  pcie : PcieSt := {}
  /-- block DDR. -/
  ddr : RankDdr := {}
  /-- block FWALL. -/
  fwall : FwallSt := {}
  /-- block HLTH. -/
  hlth : HlthSt := {}
  /-- block DUMP. -/
  dump : DumpSt := {}
  /-- block TEST. -/
  test : TestSt := {}
  /-- 16 R500 host memory the part reads and writes: unlisted bytes read 0. -/
  hostMem : List Host.Cell := []
deriving DecidableEq, Repr

/-- Why the machine stops with a fault: no meaning of this model stops, so the type has the one reason the interface needs a
name for. -/
inductive Fault where
  /-- Raised by no meaning: every command of the spec has an effect (a refused command is answered with a status). Safe. -/
  | never
deriving DecidableEq, Repr

/-- Why the machine gives a command no meaning. -/
inductive Refusal where
  /-- Raised by Dispatch.lean alone, for a row that has no meaning yet; none is left. Safe: nothing can be proved of it. -/
  | notModelled (mnemonic : String)
deriving DecidableEq, Repr

/-- The machine right after reset: every field at the reset value its declaration states (R73: STATE reads BOOT_ROM). -/
def State.reset : State := {}

end Sys2Proof.Machine
end

