-- ==== Sys2Proof/Machine/Ops.lean ====
section
/-!
DEFINITION. The named operations over tables, bytes, host memory, events and time that every meaning uses.
-/
namespace Sys2Proof.Machine

/-- Entry i of a table, d where it is not listed. -/
def tget {α : Type} (d : α) : Tbl α → Nat → α
  | [], _ => d
  | (k, v) :: t, i => if k = i then v else tget d t i

/-- Entry i of a table where it is listed. -/
def tfind {α : Type} : Tbl α → Nat → Option α
  | [], _ => none
  | (k, v) :: t, i => if k = i then some v else tfind t i

/-- The table with entry i set to v, in rising order. -/
def tput {α : Type} : Tbl α → Nat → α → Tbl α
  | [], i, v => [(i, v)]
  | (k, w) :: t, i, v => if i < k then (i, v) :: (k, w) :: t else if k = i then (i, v) :: t else (k, w) :: tput t i v

/-- The table without entry i. -/
def tdel {α : Type} (t : Tbl α) (i : Nat) : Tbl α := t.filter (fun e => e.1 ≠ i)

/-- The table with the function applied to entry i, d where it is not listed. -/
def tmod {α : Type} (d : α) (t : Tbl α) (i : Nat) (f : α → α) : Tbl α := tput t i (f (tget d t i))

/-- A 32-bit counter that saturates (R362). -/
def satInc (n : Nat) : Nat := min (n + 1) 0xFFFFFFFF

/-- Counter i of a counter table, one higher. -/
def bump (t : Tbl Nat) (i : Nat) : Tbl Nat := tmod 0 t i satInc

/-- The last k entries of a list. -/
def lastN {α : Type} (k : Nat) (l : List α) : List α := l.drop (l.length - k)

/-- x put into a sorted list, before what is no smaller. -/
def insertBy {α : Type} (le : α → α → Bool) (x : α) : List α → List α
  | [] => [x]
  | y :: t => if le x y then x :: y :: t else y :: insertBy le x t

/-- A list sorted, equals in the order they had. -/
def isort {α : Type} (le : α → α → Bool) (l : List α) : List α := l.foldr (insertBy le) []

/-- Entry i of a list, d past its end. -/
def nth {α : Type} (d : α) (l : List α) (i : Nat) : α := l.getD i d

/-- Bit i of n. -/
def bit (n i : Nat) : Bool := n.testBit i

/-- n with bit i set. -/
def setBit (n i : Nat) : Nat := n ||| 2 ^ i

/-- n with bit i clear. -/
def clrBit (n i : Nat) : Nat := if n.testBit i then n - 2 ^ i else n

/-- n with bit i as b. -/
def putBit (n i : Nat) (b : Bool) : Nat := if b then setBit n i else clrBit n i

/-- A Bool as a bit. -/
def b2n (b : Bool) : Nat := if b then 1 else 0

/-- Bits [hi:lo] of n. -/
def bits (n hi lo : Nat) : Nat := n / 2 ^ lo % 2 ^ (hi + 1 - lo)

/-- k bytes of n, least significant first (R4). -/
def le (k n : Nat) : List Byte := (List.range k).map (fun i => BitVec.ofNat 8 (n / 2 ^ (8 * i)))

/-- k bytes of n, most significant first (R369, R399). -/
def be (k n : Nat) : List Byte := (le k n).reverse

/-- The number of little-endian bytes (R4). -/
def ofLe : List Byte → Nat
  | [] => 0
  | b :: t => b.toNat + 256 * ofLe t

/-- The number of big-endian bytes. -/
def ofBe (l : List Byte) : Nat := ofLe l.reverse

/-- x in w bits of two's complement. -/
def s2n (w : Nat) (x : Int) : Nat := (x % (2 ^ w : Int)).toNat

/-- k little-endian bytes of a signed value. -/
def leS (k : Nat) (x : Int) : List Byte := le k (s2n (8 * k) x)

/-- x clamped to lo..hi. -/
def clampI (lo hi x : Int) : Int := max lo (min hi x)

/-- ceil(a / b). -/
def cdiv (a b : Nat) : Nat := (a + b - 1) / b

/-- ceil(a / b) over the integers, b positive. -/
def cdivI (a b : Int) : Int := -((-a) / b)

/-- Zero bytes. -/
def zeros (k : Nat) : List Byte := List.replicate k 0

/-- l padded with zeros, or cut, to k bytes. -/
def fit (k : Nat) (l : List Byte) : List Byte := (l ++ zeros k).take k

/-- n capped at 16 bits: the saturating u16 counters of R215 and R486. -/
def sat16 (n : Nat) : Nat := min n 0xFFFF

/-! Host memory: byte cells in canonical form. -/

/-- One byte of host memory; an unlisted address reads 0 (log entry 9). -/
def memByte : List Host.Cell → Nat → Byte
  | [], _ => 0
  | (k, v) :: t, a => if k = a then v else memByte t a

/-- Host memory with one byte written; writing 0 removes the entry. -/
def memPut : List Host.Cell → Nat → Byte → List Host.Cell
  | [], a, v => if v = 0 then [] else [(a, v)]
  | (k, w) :: t, a, v =>
    if a < k then (if v = 0 then (k, w) :: t else (a, v) :: (k, w) :: t)
    else if k = a then (if v = 0 then t else (a, v) :: t)
    else (k, w) :: memPut t a v

/-- Host memory with bytes written from address a up, wrapping at 2^64. -/
def memWrite : List Host.Cell → Nat → List Byte → List Host.Cell
  | m, _, [] => m
  | m, a, b :: t => memWrite (memPut m (a % 2 ^ 64) b) (a + 1) t

/-- k bytes of host memory from address a. -/
def memRead (m : List Host.Cell) (a k : Nat) : List Byte := (List.range k).map (fun i => memByte m ((a + i) % 2 ^ 64))

/-- The canonical form: addresses strictly rising and below 2^64, no entry 0. -/
def memSorted : Nat → List Host.Cell → Bool
  | _, [] => true
  | lo, (k, v) :: t => lo ≤ k && k < 2 ^ 64 && v ≠ 0 && memSorted (k + 1) t

/-- Host memory is in canonical form. -/
def memWf (m : List Host.Cell) : Bool := memSorted 0 m

/-- s with the function applied to its block pending. -/
def withPending (f : List Instr → List Instr) (s : State) : State := { s with pending := f s.pending }

/-- s with the function applied to its block free. -/
def withFree (f : Nat → Nat) (s : State) : State := { s with free := f s.free }

/-- s with the function applied to its block sys. -/
def withSys (f : SysSt → SysSt) (s : State) : State := { s with sys := f s.sys }

/-- s with the function applied to its block boot. -/
def withBoot (f : BootSt → BootSt) (s : State) : State := { s with boot := f s.boot }

/-- s with the function applied to its block hif. -/
def withHif (f : HifSt → HifSt) (s : State) : State := { s with hif := f s.hif }

/-- s with the function applied to its block evt. -/
def withEvt (f : EvtSt → EvtSt) (s : State) : State := { s with evt := f s.evt }

/-- s with the function applied to its block rfc. -/
def withRfc (f : RfcSt → RfcSt) (s : State) : State := { s with rfc := f s.rfc }

/-- s with the function applied to its block lane. -/
def withLane (f : LaneBlk → LaneBlk) (s : State) : State := { s with lane := f s.lane }

/-- s with the function applied to its block slot. -/
def withSlot (f : SlotSt → SlotSt) (s : State) : State := { s with slot := f s.slot }

/-- s with the function applied to its block budg. -/
def withBudg (f : BudgSt → BudgSt) (s : State) : State := { s with budg := f s.budg }

/-- s with the function applied to its block tm. -/
def withTm (f : TmSt → TmSt) (s : State) : State := { s with tm := f s.tm }

/-- s with the function applied to its block tbl. -/
def withTbl (f : TblSt → TblSt) (s : State) : State := { s with tbl := f s.tbl }

/-- s with the function applied to its block sec. -/
def withSec (f : SecSt → SecSt) (s : State) : State := { s with sec := f s.sec }

/-- s with the function applied to its block aon. -/
def withAon (f : AonSt → AonSt) (s : State) : State := { s with aon := f s.aon }

/-- s with the function applied to its block otp. -/
def withOtp (f : OtpSt → OtpSt) (s : State) : State := { s with otp := f s.otp }

/-- s with the function applied to its block flash. -/
def withFlash (f : FlashSt → FlashSt) (s : State) : State := { s with flash := f s.flash }

/-- s with the function applied to its block cry. -/
def withCry (f : CrySt → CrySt) (s : State) : State := { s with cry := f s.cry }

/-- s with the function applied to its block chk. -/
def withChk (f : Tbl ChkSt → Tbl ChkSt) (s : State) : State := { s with chk := f s.chk }

/-- s with the function applied to its block upd. -/
def withUpd (f : UpdSt → UpdSt) (s : State) : State := { s with upd := f s.upd }

/-- s with the function applied to its block time. -/
def withTime (f : TimeSt → TimeSt) (s : State) : State := { s with time := f s.time }

/-- s with the function applied to its block lnk. -/
def withLnk (f : LnkSt → LnkSt) (s : State) : State := { s with lnk := f s.lnk }

/-- s with the function applied to its block twin. -/
def withTwin (f : TwinSt → TwinSt) (s : State) : State := { s with twin := f s.twin }

/-- s with the function applied to its block eth. -/
def withEth (f : Tbl EthPort → Tbl EthPort) (s : State) : State := { s with eth := f s.eth }

/-- s with the function applied to its block pcie. -/
def withPcie (f : PcieSt → PcieSt) (s : State) : State := { s with pcie := f s.pcie }

/-- s with the function applied to its block ddr. -/
def withDdr (f : RankDdr → RankDdr) (s : State) : State := { s with ddr := f s.ddr }

/-- s with the function applied to its block fwall. -/
def withFwall (f : FwallSt → FwallSt) (s : State) : State := { s with fwall := f s.fwall }

/-- s with the function applied to its block hlth. -/
def withHlth (f : HlthSt → HlthSt) (s : State) : State := { s with hlth := f s.hlth }

/-- s with the function applied to its block dump. -/
def withDump (f : DumpSt → DumpSt) (s : State) : State := { s with dump := f s.dump }

/-- s with the function applied to its block test. -/
def withTest (f : TestSt → TestSt) (s : State) : State := { s with test := f s.test }

/-- s with the function applied to its block hostMem. -/
def withHostMem (f : List Host.Cell → List Host.Cell) (s : State) : State := { s with hostMem := f s.hostMem }

/-- Bytes written to a host buffer; address 0 is no buffer (R339, R396, R425). -/
def toHost (a : Nat) (bs : List Byte) (s : State) : State :=
  if a = 0 then s else withHostMem (memWrite · a bs) s

/-- Bytes written at a host address (R112, R336). -/
def hostWrite (a : Nat) (bs : List Byte) (s : State) : State := withHostMem (memWrite · a bs) s

/-! Free values. -/

/-- s with its free-value counter advanced. -/
def tick1 (s : State) : State := withFree (· + 1) s

/-- k bytes of the random source at this draw. -/
def randomBytes (s : State) (k : Nat) : List Byte := (List.range k).map (Config.randomByte s.free)

/-- A uniform draw below n. -/
def randomBelow (s : State) (n : Nat) : Nat := Config.randomNat s.free % (max n 1)

/-- A fresh job number (R117): 16 bits; 0 marks work that the part started itself. -/
def freshJob (s : State) : Nat := Config.jobNumber s.free % 0xFFFF + 1

/-! Time (R216, R219, R225, R226). -/

/-- Raw time in ns. -/
def rawNs (s : State) : Nat := 2 * s.time.c

/-- Raw time in whole seconds: the 1 s buckets of R297 and R351. -/
def rawSec (s : State) : Nat := rawNs s / 1000000000

/-- The firmware tick (R118). -/
def fwTick (s : State) : Nat := s.time.c / 50000 % 2 ^ 32

/-- T_d in 2^-16 ns at counter value c (R219). -/
def domAt (d : DomSt) (c : Nat) : Int := 131072 * (c : Int) + d.o + d.r * 2 * ((c : Int) - (d.k : Int)) / 2 ^ 28

/-- Domain 0 A, 1 B. -/
def domOf (t : TimeSt) (i : Nat) : DomSt := if i = 0 then t.domA else t.domB

/-- The block with domain i replaced. -/
def setDom (i : Nat) (d : DomSt) (t : TimeSt) : TimeSt := if i = 0 then { t with domA := d } else { t with domB := d }

/-- The selected domain. -/
def selDom (t : TimeSt) : DomSt := domOf t t.sel

/-- The residual E in 2^-16 ns: it moves toward 0 at slew_ppm ns per ms of raw time while SLEWING is set (R226). -/
def residual (t : TimeSt) : Int :=
  if t.slewing then
    let m : Int := (2 * (t.c - t.e0C) * t.slewPpm * 65536 / 1000000 : Nat)
    if t.e0 ≥ 0 then max 0 (t.e0 - m) else min 0 (t.e0 + m)
  else 0

/-- The selected reading S in 2^-16 ns: T_sel - E, held while HOLDING is set (R225). -/
def selAt (t : TimeSt) : Int :=
  let x := domAt (selDom t) t.c - residual t
  if t.holding then max t.holdS x else x

/-- S in whole ns. -/
def selNs (s : State) : Int := selAt s.time / 65536

/-- A time reference in whole ns: 0 raw, 1 A, 2 B, 3 selected (R230). -/
def refNs (s : State) (r : Nat) : Int :=
  if r = 0 then rawNs s else if r = 1 then domAt s.time.domA s.time.c / 65536
  else if r = 2 then domAt s.time.domB s.time.c / 65536 else selNs s

/-- The reference is tracked; raw always is (R123). -/
def refTracked (s : State) (r : Nat) : Bool :=
  r = 0 || (if r = 1 then s.time.domA.tracked else if r = 2 then s.time.domB.tracked else (selDom s.time).tracked)

/-! Status codes (R127). -/

abbrev stOk : Nat := 0
abbrev stPending : Nat := 1
abbrev stBadOpcode : Nat := 2
abbrev stBadParam : Nat := 3
abbrev stBusy : Nat := 4
abbrev stNoRoom : Nat := 5
abbrev stTimeout : Nat := 6
abbrev stPastTime : Nat := 7
abbrev stLateApplied : Nat := 8
abbrev stSynthLate : Nat := 9
abbrev stBudget : Nat := 0xA
abbrev stBlanked : Nat := 0xB
abbrev stFlushed : Nat := 0xC
abbrev stKeyExhausted : Nat := 0xD
abbrev stKeyOrphan : Nat := 0xE
abbrev stKeyGone : Nat := 0xF
abbrev stKeyDenied : Nat := 0x10
abbrev stAuthFail : Nat := 0x11
abbrev stCheckFail : Nat := 0x12
abbrev stSigFail : Nat := 0x13
abbrev stRollback : Nat := 0x14
abbrev stStandby : Nat := 0x15
abbrev stFrozen : Nat := 0x16
abbrev stDuplicate : Nat := 0x17
abbrev stTamper : Nat := 0x18
abbrev stDegraded : Nat := 0x19

/-- What an agent's work on a command comes to: the state with its side effects staged, the STATUS, INFO and data of its
reply, whether the reply waits for an event its chapter names, and whether the work itself waits and is taken up again
(R111, R114, R411). -/
structure Res where
  st : State
  status : Nat := stOk
  info : Nat := 0
  data : List Byte := []
  wait : Bool := false
  again : Bool := false

/-- A refusal: the state unchanged (R6, R31). -/
def refuse (s : State) (status : Nat) : Res := { st := s, status := status }

/-- ST_OK with reply data. -/
def done (s : State) (data : List Byte := []) : Res := { st := s, data := data }

/-! Events and MSI-X vectors (R128-R133). -/

/-- The block-event vector a source is routed to by default, as VECTOR (R130). -/
def defaultVector (n : Nat) : Nat :=
  if n < 0x10 then 0 else if n < 0x20 then 1 else if n < 0x40 then 2 else if n < 0x80 then 3 else if n < 0xA0 then 4
  else if n < 0xA8 then 5 else if n < 0xC0 then 6 else if n < 0xD0 then 7 else if n < 0xE0 then 8 else if n < 0xF0 then 9
  else if n < 0xF8 then 10 else if n < 0x110 then 12 else if n < 0x120 then 13 else if n < 0x128 then 14
  else if n < 0x140 then 15 else if n < 0x148 then 16 else if n < 0x150 then 17 else if n < 0x158 then 18
  else if n < 0x168 then 19 else if n < 0x16C then 20 else if n < 0x170 then 21 else if n < 0x178 then 22 else 23

/-- EVT.SRC_CFG[n] (R131). -/
def srcCfgOf (s : State) (n : Nat) : SrcCfg := tget { vector := defaultVector n } s.evt.srcCfg n

/-- The MSI-X vector of a source: 128 + VECTOR on PF0, or 256 + 4 + VECTOR[1:0] on PF1 (R131). -/
def vecOfSrc (c : SrcCfg) : Nat := if c.toPf1 then 260 + c.vector % 4 else 128 + c.vector % 128

/-- Queue pair q; queue pairs of the management paths are FUNC 1 (R135). -/
def qpOf (s : State) (q : Nat) : QpSt := tget (if 64 ≤ q then { func := 1, enable := true, enabled := true } else {}) s.hif.qps q

/-- s with the function applied to queue pair q. -/
def withQp (q : Nat) (f : QpSt → QpSt) (s : State) : State := withHif (fun h => { h with qps := tput h.qps q (f (qpOf s q)) }) s

/-- Replies written that the host has not read (R112). -/
def unread (q : QpSt) : Nat := (q.cqTail + 2 ^ q.cqLog2 - q.cqHead) % 2 ^ q.cqLog2

/-- The queue pair holds a signalled reply beyond its CQ_HEAD (R129). -/
def qpSignalled (q : QpSt) : Bool := q.unsignalled < unread q

/-- Some enabled source routed to vector v has its cause bit set (R129). -/
def blockPending (s : State) (v : Nat) : Bool :=
  (List.range 384).any (fun n => s.evt.cause.testBit n && (srcCfgOf s n).enable && vecOfSrc (srcCfgOf s n) = v)

/-- Vector v is pending: 0-255 of PF0, 256-263 of PF1 (R129). -/
def vecPending (s : State) (v : Nat) : Bool :=
  if v < 64 then (qpOf s v).func = 0 && qpSignalled (qpOf s v)
  else if v < 96 then (tget {} s.pcie.th (v - 64)).unread > (tget {} s.pcie.th (v - 64)).unsignalled
  else if v < 128 then (tget {} s.pcie.fh (v - 96)).unread > (tget {} s.pcie.fh (v - 96)).unsignalled
  else if v < 256 then blockPending s v
  else if v < 260 then (List.range 64).any (fun q => q % 4 = v - 256 && (qpOf s q).func = 1 && qpSignalled (qpOf s q))
  else blockPending s v

/-- A message for vector v: sent, or held as the pending bit while it is masked (R129). -/
def notify (v : Nat) (s : State) : State :=
  if s.evt.unmasked.contains v then withEvt (fun e => { e with msgs := e.msgs ++ [v] }) s
  else withEvt (fun e => { e with held := if e.held.contains v then e.held else e.held ++ [v] }) s

/-- After a change to what makes v pending: the message of R129 where v is now pending and was not before, or is pending
still after one of the writes that repeat it; the held bit clears where v stopped being pending. -/
def settle (v : Nat) (was again : Bool) (s : State) : State :=
  if vecPending s v then (if was && !again then s else notify v s)
  else withEvt (fun e => { e with held := e.held.filter (· ≠ v) }) s

/-- Raise event source n (R131, R132): a disabled source sets no cause bit, and a bit already set produces nothing. -/
def raise (n : Nat) (s : State) : State :=
  let c := srcCfgOf s n
  if !c.enable || s.evt.cause.testBit n then s
  else
    let was := vecPending s (vecOfSrc c)
    settle (vecOfSrc c) was false (withEvt (fun e => { e with cause := setBit e.cause n }) s)

/-- Raise event source n with its status word. -/
def raiseW (n w : Nat) (s : State) : State := raise n (withEvt (fun e => { e with words := tput e.words n w }) s)

/-- Raise when b holds. -/
def raiseIf (b : Bool) (n : Nat) (s : State) : State := if b then raise n s else s

/-! Blocks by instance. -/

/-- Chain c. -/
def chainOf (s : State) (c : Nat) : ChainSt := tget {} s.rfc.chains c

/-- s with the function applied to chain c. -/
def withChain (c : Nat) (f : ChainSt → ChainSt) (s : State) : State :=
  withRfc (fun r => { r with chains := tmod {} r.chains c f }) s

/-- Logical lane n. -/
def laneOf (s : State) (n : Nat) : LaneSt := tget {} s.lane.lanes n

/-- s with the function applied to logical lane n. -/
def withLaneN (n : Nat) (f : LaneSt → LaneSt) (s : State) : State :=
  withLane (fun b => { b with lanes := tmod {} b.lanes n f }) s

/-- Physical lane p. -/
def physOf (s : State) (p : Nat) : PhysSt := tget {} s.lane.phys p

/-- s with the function applied to physical lane p. -/
def withPhys (p : Nat) (f : PhysSt → PhysSt) (s : State) : State :=
  withLane (fun b => { b with phys := tmod {} b.phys p f }) s

/-- ROLE of physical lane p (R212). -/
def roleOf (s : State) (p : Nat) : Nat := (physOf s p).role.getD (if p < 96 then 0 else 1)

/-- LOGICAL of physical lane p (R212). -/
def logicalOf (s : State) (p : Nat) : Nat := (physOf s p).logical.getD (if p < 96 then p else 0)

/-- PHYS of logical lane n (R212). -/
def lanePhys (s : State) (n : Nat) : Nat := (laneOf s n).phys.getD n

/-- s with LANE counter i one higher. -/
def laneCnt (i : Nat) (s : State) : State := withLane (fun b => { b with cnt := bump b.cnt i }) s

/-- Slotframe f. -/
def sfOf (s : State) (f : Nat) : SfSt := tget {} s.slot.sfs f

/-- s with the function applied to slotframe n. -/
def withSf (n : Nat) (f : SfSt → SfSt) (s : State) : State := withSlot (fun b => { b with sfs := tmod {} b.sfs n f }) s

/-- Superframe n. -/
def superOf (s : State) (n : Nat) : SuperSt := tget {} s.slot.supers n

/-- s with the function applied to superframe n. -/
def withSuper (n : Nat) (f : SuperSt → SuperSt) (s : State) : State :=
  withSlot (fun b => { b with supers := tmod {} b.supers n f }) s

/-- s with SLOT counter i one higher. -/
def slotCnt (i : Nat) (s : State) : State := withSlot (fun b => { b with cnt := bump b.cnt i }) s

/-- Neighbour entry n. -/
def nbrOf (s : State) (n : Nat) : NbrE := tget {} s.tbl.nbrs n

/-- s with the function applied to neighbour entry n. -/
def withNbr (n : Nat) (f : NbrE → NbrE) (s : State) : State := withTbl (fun b => { b with nbrs := tmod {} b.nbrs n f }) s

/-- s with TBL counter i one higher. -/
def tblCnt (i : Nat) (s : State) : State := withTbl (fun b => { b with cnt := bump b.cnt i }) s

/-- Queue q. -/
def queueOf (s : State) (q : Nat) : QueueSt := tget {} s.tm.queues q

/-- s with the function applied to queue q. -/
def withQueue (q : Nat) (f : QueueSt → QueueSt) (s : State) : State := withTm (fun b => { b with queues := tmod {} b.queues q f }) s

/-- s with TM counter i one higher. -/
def tmCnt (i : Nat) (s : State) : State := withTm (fun b => { b with cnt := bump b.cnt i }) s

/-- Key slot n. -/
def slotOf (s : State) (n : Nat) : KeySlotSt := tget {} s.sec.slots n

/-- s with the function applied to key slot n. -/
def withKey (n : Nat) (f : KeySlotSt → KeySlotSt) (s : State) : State := withSec (fun b => { b with slots := tmod {} b.slots n f }) s

/-- s with SEC counter i one higher. -/
def secCnt (i : Nat) (s : State) : State := withSec (fun b => { b with cnt := bump b.cnt i }) s

/-- s with CRY counter i one higher. -/
def cryCnt (i : Nat) (s : State) : State := withCry (fun b => { b with cnt := bump b.cnt i }) s

/-- s with UPD counter i one higher. -/
def updCnt (i : Nat) (s : State) : State := withUpd (fun b => { b with cnt := bump b.cnt i }) s

/-- Campaign c. -/
def campOf (s : State) (c : Nat) : CampSt := tget {} s.upd.camps c

/-- s with the function applied to campaign c. -/
def withCamp (c : Nat) (f : CampSt → CampSt) (s : State) : State := withUpd (fun b => { b with camps := tmod {} b.camps c f }) s

/-- s with the function applied to the own-firmware image. -/
def withFw (f : FwUpd → FwUpd) (s : State) : State := withUpd (fun b => { b with fw := f b.fw }) s

/-- Dalhiuf port p. -/
def portOf (s : State) (p : Nat) : LnkPort := tget {} s.lnk.ports p

/-- s with the function applied to Dalhiuf port p. -/
def withPort (p : Nat) (f : LnkPort → LnkPort) (s : State) : State := withLnk (fun b => { b with ports := tmod {} b.ports p f }) s

/-- s with PORT_CNT[p][i] one higher. -/
def portCnt (p i : Nat) (s : State) : State := withPort p (fun q => { q with cnt := bump q.cnt i }) s

/-- s with TWIN counter i one higher. -/
def twinCnt (i : Nat) (s : State) : State := withTwin (fun b => { b with cnt := bump b.cnt i }) s

/-- Ethernet port e. -/
def ethOf (s : State) (e : Nat) : EthPort := tget {} s.eth e

/-- s with the function applied to Ethernet port e. -/
def withEthP (e : Nat) (f : EthPort → EthPort) (s : State) : State := withEth (tmod {} · e f) s

/-- s with ETH counter i of port e one higher. -/
def ethCnt (e i : Nat) (s : State) : State := withEthP e (fun p => { p with cnt := bump p.cnt i }) s

/-- Check-value unit u: a unit comes out of reset with POLY 0 and INIT 0 (R423). -/
def chkOf (s : State) (u : Nat) : ChkSt := tget {} s.chk u

/-- s with the function applied to check-value unit u. -/
def withChkU (u : Nat) (f : ChkSt → ChkSt) (s : State) : State := withChk (tmod {} · u f) s

/-- Comparator n. -/
def cmpOf (s : State) (n : Nat) : CmpSt := tget {} s.time.cmps n

/-- s with the function applied to comparator n. -/
def withCmp (n : Nat) (f : CmpSt → CmpSt) (s : State) : State := withTime (fun b => { b with cmps := tmod {} b.cmps n f }) s

/-- s with the function applied to capture input i. -/
def withCap (i : Nat) (f : CapSt → CapSt) (s : State) : State := withTime (fun b => { b with caps := tmod {} b.caps i f }) s

/-! Packet-buffer cells (R18). -/

/-- Cells that k bytes take. -/
def cellsFor (k : Nat) : Nat := cdiv k 256

/-- Free packet-buffer cells: those neither held by a frame nor by a lane (R359). -/
def freeCells (s : State) : Nat :=
  32768 - (s.tm.bufs.map (·.cells)).sum - (s.lane.phys.map (fun p => match p.2.frame with | some f => f.cells | none => 0)).sum

/-- EV_TM_RESERVE where free cells have fallen below reserve_cells since they were `before` (R351). -/
def reserveFell (before : Nat) (s : State) : State := raiseIf (s.tm.reserve ≤ before && freeCells s < s.tm.reserve) 0xA8 s

/-- A frame placed in cells: the state and the frame's identity and handle, none where no cell is free. -/
def allocBuf (data : List Byte) (s : State) : Option (State × Nat × Nat) :=
  if freeCells s < cellsFor data.length then none
  else
    let h := Config.bufferHandle s.free % 2 ^ 32
    some (reserveFell (freeCells s) (tick1 (withTm (fun b => { b with
        bufs := b.bufs ++ [{ id := s.free, handle := h, data := data, cells := cellsFor data.length }] }) s)), s.free, h)

/-- The cells of frame id freed. -/
def freeBuf (id : Nat) (s : State) : State := withTm (fun b => { b with bufs := b.bufs.filter (·.id ≠ id) }) s

/-- The bytes of frame id. -/
def bufData (s : State) (id : Nat) : List Byte := match s.tm.bufs.find? (·.id = id) with | some b => b.data | none => []

/-- EV_DEGRADED and the reason bit (R532): each bit that sets raises the event. -/
def degrade (b : Nat) (s : State) : State :=
  if bit s.hlth.degraded b then s else raise 0x158 (withHlth (fun h => { h with degraded := setBit h.degraded b }) s)

/-- A reason bit clears when its cause clears (R532). -/
def undegrade (b : Nat) (s : State) : State := withHlth (fun h => { h with degraded := clrBit h.degraded b }) s

/-- TWIN.GATE holds for this chip: STRAP[3] 0, or the gates enabled, in RUN (R67, R477). -/
def gateHeld (s : State) : Bool := s.sys.devState = .run && (!bit s.sys.strap 3 || s.twin.gates)

/-- A part fitted as a twin whose output gates are disabled (R12, R477). -/
def gated (s : State) : Bool := bit s.sys.strap 3 && !s.twin.gates

/-- ASN arithmetic is modulo 2^40 (R242). -/
def asnAdd (a k : Nat) : Nat := (a + k) % 2 ^ 40

/-- a is behind u (R286). -/
def asnBehind (a u : Nat) : Bool :=
  let d := (u + 2 ^ 40 - a % 2 ^ 40) % 2 ^ 40
  1 ≤ d && d < 2 ^ 39

end Sys2Proof.Machine
end

