-- ==== Sys2Proof/Machine/Operands.lean ====
section
/-!
DEFINITION. The operand forms: opcodes, FLOW, channel plans, bins, PHY durations, cells and the fields of the device.
-/
namespace Sys2Proof.Machine

/-- The opcode of each command (R561). -/
def opcodeOf : Cmd → Nat
  | .sysInfo _ => 0x0100
  | .sysReset _ => 0x0101
  | .sysState _ => 0x0102
  | .sysEventMap _ => 0x0103
  | .sysTimed _ => 0x0104
  | .sysMgmtCfg _ => 0x0105
  | .sysEthCfg _ => 0x0106
  | .sysMacsecSa _ => 0x0107
  | .radChainCfg _ => 0x0200
  | .radCal _ => 0x0201
  | .radTuner _ => 0x0202
  | .radCoexCfg _ => 0x0203
  | .radAgcCfg _ => 0x0204
  | .radPaRamp _ => 0x0205
  | .radTxRaw _ => 0x0206
  | .radBlankMap _ => 0x0207
  | .laneAssign _ => 0x0300
  | .lanePhyCfg _ => 0x0301
  | .laneCaptureCfg _ => 0x0302
  | .laneStatus _ => 0x0303
  | .laneFlush _ => 0x0304
  | .laneBitload _ => 0x0305
  | .slotCfg _ => 0x0400
  | .slotListLoad _ => 0x0401
  | .slotListActivate _ => 0x0402
  | .slotSuperframeCfg _ => 0x0403
  | .slotTx _ => 0x0404
  | .slotFrontCfg _ => 0x0405
  | .slotStatus _ => 0x0406
  | .slotFollowCfg _ => 0x0407
  | .budgRegionLoad _ => 0x0500
  | .budgStatus _ => 0x0501
  | .tmQueueCfg _ => 0x0600
  | .tmMeterCfg _ => 0x0601
  | .tmShaperCfg _ => 0x0602
  | .tmClassMap _ => 0x0603
  | .tmStats _ => 0x0604
  | .tblNodeInsert _ => 0x0700
  | .tblNodeDelete _ => 0x0701
  | .tblPrefixAdd _ => 0x0702
  | .tblPrefixDel _ => 0x0703
  | .tblAgingCfg _ => 0x0704
  | .tblLookup _ => 0x0705
  | .tblEvictPolicy _ => 0x0706
  | .tblCfg _ => 0x0707
  | .tblNeighbourSet _ => 0x0708
  | .tblStatus _ => 0x0709
  | .keyImport _ => 0x0800
  | .keyDerive _ => 0x0801
  | .keyStage _ => 0x0802
  | .keyCommit _ => 0x0803
  | .keyErase _ => 0x0804
  | .keyInfo _ => 0x0805
  | .keyInvalidate _ => 0x0806
  | .keyAttest _ => 0x0807
  | .keyStoreCfg _ => 0x0808
  | .cryOp _ => 0x0900
  | .crySign _ => 0x0901
  | .cryVerify _ => 0x0902
  | .cryHash _ => 0x0903
  | .cryXtsRegion _ => 0x0904
  | .cryChkCfg _ => 0x0905
  | .cryStatus _ => 0x0906
  | .updOpen _ => 0x0A00
  | .updBlock _ => 0x0A01
  | .updStatus _ => 0x0A02
  | .updVerify _ => 0x0A03
  | .updActivate _ => 0x0A04
  | .updCampaignCfg _ => 0x0A05
  | .updCampaignCtrl _ => 0x0A06
  | .timeStep _ => 0x0B00
  | .timeRate _ => 0x0B01
  | .timeSelect _ => 0x0B02
  | .timeTrigger _ => 0x0B03
  | .timeCaptureCfg _ => 0x0B04
  | .timePtpPortCfg _ => 0x0B05
  | .timeDomainCfg _ => 0x0B06
  | .timeStatus _ => 0x0B07
  | .lnkPortCfg _ => 0x0C00
  | .lnkTopology _ => 0x0C01
  | .lnkStatus _ => 0x0C02
  | .lnkSend _ => 0x0C03
  | .twinCfg _ => 0x0D00
  | .twinClaim _ => 0x0D01
  | .twinSwitch _ => 0x0D02
  | .twinStatus _ => 0x0D03
  | .twinSaveState _ => 0x0D04
  | .hlthStatus _ => 0x0E00
  | .hlthSpareMap _ => 0x0E01
  | .hlthRetire _ => 0x0E02
  | .diagDumpRead _ => 0x0F00
  | .diagUnfreeze _ => 0x0F01
  | .diagFwRegion _ => 0x0F02
  | .testLoopback _ => 0x1000
  | .testBist _ => 0x1001
  | .testPattern _ => 0x1002
  | .testStatus _ => 0x1003

/-- f lies in base .. base + n - 1. -/
def inR (f base n : Nat) : Bool := base ≤ f && f < base + n

/-- FLOW names an instance of a kind the opcode acts on (R110, R561). -/
def flowOk (c : Cmd) (f : Nat) : Bool :=
  match c with
  | .sysInfo _ => f = 0
  | .sysReset _ => f = 0
  | .sysState _ => f = 0
  | .sysEventMap _ => f = 0
  | .sysTimed _ => f = 0
  | .sysMgmtCfg _ => f = 0
  | .sysEthCfg _ => f = 0
  | .sysMacsecSa _ => f = 0
  | .radChainCfg _ => f < 4
  | .radCal _ => f < 4
  | .radTuner _ => f < 4
  | .radCoexCfg _ => f < 4
  | .radAgcCfg _ => f < 4
  | .radPaRamp _ => f < 4
  | .radTxRaw _ => f < 4
  | .radBlankMap _ => f < 4
  | .laneAssign _ => f < 96
  | .lanePhyCfg _ => f < 96
  | .laneCaptureCfg _ => f < 96
  | .laneStatus _ => f < 96
  | .laneFlush _ => f < 96
  | .laneBitload _ => f = 0
  | .slotCfg _ => f = 0 || inR f 0x100 8
  | .slotListLoad _ => inR f 0x100 8
  | .slotListActivate _ => inR f 0x100 8
  | .slotSuperframeCfg _ => inR f 0x200 8
  | .slotTx _ => f = 0
  | .slotFrontCfg _ => f = 0
  | .slotStatus _ => f = 0
  | .slotFollowCfg _ => f = 0
  | .budgRegionLoad _ => f = 0
  | .budgStatus _ => f = 0
  | .tmQueueCfg _ => f < 0x1000
  | .tmMeterCfg _ => inR f 0x1000 0x2000
  | .tmShaperCfg _ => inR f 0x3000 0x800
  | .tmClassMap _ => f = 0x3800
  | .tmStats _ => f < 0x3800
  | .tblNodeInsert _ => f = 0
  | .tblNodeDelete _ => f = 0
  | .tblPrefixAdd _ => f = 1
  | .tblPrefixDel _ => f = 1
  | .tblAgingCfg _ => f = 2
  | .tblLookup _ => f < 2 || inR f 0x8000 0x8000
  | .tblEvictPolicy _ => f = 2
  | .tblCfg _ => f = 2
  | .tblNeighbourSet _ => inR f 0x8000 0x8000
  | .tblStatus _ => f = 2
  | .keyImport _ => f < 0x1000
  | .keyDerive _ => f < 0x1000
  | .keyStage _ => f < 0x1000
  | .keyCommit _ => f < 0x1000
  | .keyErase _ => f < 0x1000 || f = 0xF000
  | .keyInfo _ => f < 0x1000 || f = 0xF000
  | .keyInvalidate _ => f < 0x1000 || f = 0xF000
  | .keyAttest _ => f = 0xF000
  | .keyStoreCfg _ => f = 0xF000
  | .cryOp _ => f < 3
  | .crySign _ => f = 3
  | .cryVerify _ => f = 3
  | .cryHash _ => f = 4
  | .cryXtsRegion _ => f = 2
  | .cryChkCfg _ => inR f 0x100 8
  | .cryStatus _ => f = 0
  | .updOpen _ => f = 0 || inR f 0x100 16
  | .updBlock _ => f = 0 || inR f 0x100 16
  | .updStatus _ => f = 0 || inR f 0x100 16
  | .updVerify _ => f = 0
  | .updActivate _ => f = 0
  | .updCampaignCfg _ => inR f 0x100 16
  | .updCampaignCtrl _ => inR f 0x100 16
  | .timeStep _ => f < 2
  | .timeRate _ => f < 2
  | .timeSelect _ => f = 2
  | .timeTrigger _ => inR f 0x100 16
  | .timeCaptureCfg _ => f = 2
  | .timePtpPortCfg _ => inR f 0x200 5
  | .timeDomainCfg _ => f < 2
  | .timeStatus _ => f < 3
  | .lnkPortCfg _ => f < 3
  | .lnkTopology _ => f = 0x100
  | .lnkStatus _ => f < 3 || f = 0x100
  | .lnkSend _ => f = 0x100
  | .twinCfg _ => f = 0
  | .twinClaim _ => f = 0
  | .twinSwitch _ => f = 0
  | .twinStatus _ => f = 0
  | .twinSaveState _ => f = 0
  | .hlthStatus _ => f = 0
  | .hlthSpareMap _ => f = 0
  | .hlthRetire _ => f = 0
  | .diagDumpRead _ => f = 0
  | .diagUnfreeze _ => inR f 0x100 36
  | .diagFwRegion _ => f = 0
  | .testLoopback _ => f = 0
  | .testBist _ => f = 0
  | .testPattern _ => f = 0
  | .testStatus _ => f = 0

/-- The Paths column of R561: 0 All, 1 PF0, 2 Mgmt. -/
def pathOf : Cmd → Nat
  | .sysInfo _ => 0
  | .sysReset _ => 0
  | .sysState _ => 0
  | .sysEventMap _ => 0
  | .sysTimed _ => 0
  | .sysMgmtCfg _ => 0
  | .sysEthCfg _ => 0
  | .sysMacsecSa _ => 0
  | .radChainCfg _ => 1
  | .radCal _ => 1
  | .radTuner _ => 1
  | .radCoexCfg _ => 1
  | .radAgcCfg _ => 1
  | .radPaRamp _ => 1
  | .radTxRaw _ => 1
  | .radBlankMap _ => 1
  | .laneAssign _ => 1
  | .lanePhyCfg _ => 1
  | .laneCaptureCfg _ => 1
  | .laneStatus _ => 0
  | .laneFlush _ => 1
  | .laneBitload _ => 1
  | .slotCfg _ => 1
  | .slotListLoad _ => 1
  | .slotListActivate _ => 1
  | .slotSuperframeCfg _ => 1
  | .slotTx _ => 1
  | .slotFrontCfg _ => 1
  | .slotStatus _ => 0
  | .slotFollowCfg _ => 1
  | .budgRegionLoad _ => 1
  | .budgStatus _ => 0
  | .tmQueueCfg _ => 1
  | .tmMeterCfg _ => 1
  | .tmShaperCfg _ => 1
  | .tmClassMap _ => 1
  | .tmStats _ => 0
  | .tblNodeInsert _ => 1
  | .tblNodeDelete _ => 1
  | .tblPrefixAdd _ => 1
  | .tblPrefixDel _ => 1
  | .tblAgingCfg _ => 1
  | .tblLookup _ => 1
  | .tblEvictPolicy _ => 1
  | .tblCfg _ => 1
  | .tblNeighbourSet _ => 1
  | .tblStatus _ => 1
  | .keyImport _ => 1
  | .keyDerive _ => 1
  | .keyStage _ => 1
  | .keyCommit _ => 1
  | .keyErase _ => 1
  | .keyInfo _ => 0
  | .keyInvalidate _ => 1
  | .keyAttest _ => 0
  | .keyStoreCfg _ => 1
  | .cryOp _ => 1
  | .crySign _ => 1
  | .cryVerify _ => 1
  | .cryHash _ => 1
  | .cryXtsRegion _ => 1
  | .cryChkCfg _ => 1
  | .cryStatus _ => 1
  | .updOpen _ => 0
  | .updBlock _ => 0
  | .updStatus _ => 0
  | .updVerify _ => 0
  | .updActivate _ => 0
  | .updCampaignCfg _ => 0
  | .updCampaignCtrl _ => 0
  | .timeStep _ => 1
  | .timeRate _ => 1
  | .timeSelect _ => 1
  | .timeTrigger _ => 1
  | .timeCaptureCfg _ => 1
  | .timePtpPortCfg _ => 1
  | .timeDomainCfg _ => 1
  | .timeStatus _ => 1
  | .lnkPortCfg _ => 1
  | .lnkTopology _ => 1
  | .lnkStatus _ => 0
  | .lnkSend _ => 1
  | .twinCfg _ => 1
  | .twinClaim _ => 1
  | .twinSwitch _ => 1
  | .twinStatus _ => 0
  | .twinSaveState _ => 1
  | .hlthStatus _ => 0
  | .hlthSpareMap _ => 0
  | .hlthRetire _ => 0
  | .diagDumpRead _ => 2
  | .diagUnfreeze _ => 2
  | .diagFwRegion _ => 2
  | .testLoopback _ => 2
  | .testBist _ => 2
  | .testPattern _ => 2
  | .testStatus _ => 2

/-- TIMED is accepted on these opcodes only (R561). -/
def timedOk : Cmd → Bool
  | .radTxRaw _ => true
  | .slotCfg _ => true
  | .keyCommit _ => true
  | .updActivate _ => true
  | .timeStep _ => true
  | .timeRate _ => true
  | .timeSelect _ => true
  | _ => false

/-- The *_STATUS and *_INFO opcodes (R117, R470). -/
def isStatus : Cmd → Bool
  | .sysInfo _ => true
  | .laneStatus _ => true
  | .slotStatus _ => true
  | .budgStatus _ => true
  | .tblStatus _ => true
  | .keyInfo _ => true
  | .cryStatus _ => true
  | .updStatus _ => true
  | .timeStatus _ => true
  | .lnkStatus _ => true
  | .twinStatus _ => true
  | .hlthStatus _ => true
  | .testStatus _ => true
  | _ => false

/-! Channel plans and PHY modes (R139-R142, R182). Frequencies in 100 kHz. -/

/-- The three bands (R138, R141). -/
def inBand (lo hi : Nat) : Bool := (4100 ≤ lo && hi ≤ 5100) || (7790 ≤ lo && hi ≤ 9600) || (24000 ≤ lo && hi ≤ 24835)

/-- The centre range of R139 a window centre lies in: 0, 1, 2, or 3 for none. -/
def centreBand (c : Nat) : Nat :=
  if 3950 ≤ c && c ≤ 5250 then 0 else if 7650 ≤ c && c ≤ 9750 then 1 else if 23800 ≤ c && c ≤ 25000 then 2 else 3

/-- A built-in plan: F0, spacing, number of channels (R141). -/
def builtinPlan (n : Nat) : Option UserPlan :=
  if n = 0 then some { plan := 0, f0 := 4101, spacing := 2, count := 499 }
  else if n = 1 then some { plan := 1, f0 := 4102, spacing := 4, count := 249 }
  else if n = 2 then some { plan := 2, f0 := 7791, spacing := 2, count := 905 }
  else if n = 3 then some { plan := 3, f0 := 7792, spacing := 4, count := 452 }
  else if n = 4 then some { plan := 4, f0 := 7794, spacing := 8, count := 226 }
  else if n = 5 then some { plan := 5, f0 := 7796, spacing := 12, count := 150 }
  else if n = 6 then some { plan := 6, f0 := 24050, spacing := 50, count := 16 }
  else if n = 7 then some { plan := 7, f0 := 24004, spacing := 4, count := 207 }
  else if n = 8 then some { plan := 8, f0 := 24012, spacing := 12, count := 69 }
  else none

/-- Occupied bandwidth in 50 kHz units (R182): 1.05 MHz is 21. -/
def occupied (phy : Nat) : Nat :=
  if phy ≤ 3 then 4 else if phy ≤ 5 then 8 else if phy = 6 then 4 else if phy = 7 then 40 else if phy = 8 then 24
  else if phy = 9 then 16 else if phy = 10 then 8 else if phy = 11 then 4 else 21

/-- Passband m (R182). -/
def passband (phy : Nat) : Nat :=
  if phy ≤ 3 then 1 else if phy ≤ 5 then 2 else if phy = 6 then 1 else if phy = 7 then 7 else if phy = 8 then 6
  else if phy = 9 then 4 else if phy = 10 then 2 else if phy = 11 then 1 else 6

/-- 60 symbol periods in us: a superframe slot at SO 0 (R182, R268), PHY_MODE 6 apart. -/
def baseSlotUs (phy : Nat) : Nat :=
  if phy = 0 then 1200 else if phy = 1 || phy = 4 then 600 else if phy = 2 || phy = 5 then 400 else if phy = 3 then 300
  else if phy = 7 then 960 else 7200

/-- The plan a chain holds under a number: built in, or defined by the host (R568). -/
def planOf (c : ChainSt) (n : Nat) : Option UserPlan := if n < 9 then builtinPlan n else tfind c.userPlans n

/-- A plan can carry a PHY mode: its spacing is no narrower than the occupied bandwidth (R142). -/
def planCarries (u : UserPlan) (phy : Nat) : Bool := occupied phy ≤ 2 * u.spacing

/-- A user plan that R141 allows. -/
def userPlanOk (u : UserPlan) : Bool :=
  9 ≤ u.plan && u.plan ≤ 15 && 2 ≤ u.spacing && u.spacing ≤ 50 && 1 ≤ u.count && u.count ≤ 1024 &&
    inBand u.f0 (u.f0 + (u.count - 1) * u.spacing)

/-- The centre of a channel of a chain and PHY mode, none without a bound plan or beyond it (R141, R568). -/
def channelCentre (c : ChainSt) (phy ch : Nat) : Option Nat :=
  match tfind c.plans phy with
  | none => none
  | some n => match planOf c n with
    | none => none
    | some u => if ch < u.count then some (u.f0 + ch * u.spacing) else none

/-- The channel lies wholly inside a band and inside the chain's window (R139). -/
def inWindow (c : ChainSt) (phy centre : Nat) : Bool :=
  let w := occupied phy
  c.centre ≠ 0 && inBand ((2 * centre - w / 2) / 2) (cdiv (2 * centre + cdiv w 2) 2) &&
    2 * c.centre - 960 + w / 2 ≤ 2 * centre && 2 * centre + cdiv w 2 ≤ 2 * c.centre + 960

/-- First bin and bin count of a channel (R180). -/
def binsOf (c : ChainSt) (phy centre : Nat) : Nat × Nat :=
  let d : Int := (centre : Int) - c.centre
  let m : Int := passband phy
  let first := 256 + (d - m + 1) / 2
  let last := 256 + cdivI (d + m - 1) 2
  (first.toNat, (last - first + 1).toNat)

/-- SHR duration in us (R246). -/
def shrUs (pre phy mcs : Nat) : Nat :=
  if phy ≤ 5 then
    let kbps := if phy = 0 then 50 else if phy = 1 then 100 else if phy = 2 then 150 else if phy = 3 then 200 else if phy = 4 then 200 else 300
    cdiv ((pre + 2) * 8 * 1000) kbps
  else if phy = 6 then Config.oqpskShrUs mcs else if phy = 7 then 160 else if phy ≤ 11 then 720 else 440

/-- Coded bits of a ZAO load code (R200). -/
def loadBits (c : Nat) : Nat := if c = 1 then 1 else if c = 2 then 2 else if c = 3 then 4 else if c = 4 then 6 else 0

/-- B of a map (R200). -/
def mapBits (m : List Nat) : Nat := (m.map loadBits).sum

/-- Air time of a ZAO frame in us (R200): B coded bits per symbol, RATE 0-2, NULL_PERIOD, LENGTH. -/
def zaoUs (b rate nullPeriod len : Nat) : Nat :=
  let num := if rate = 0 then 1 else if rate = 1 then 2 else 3
  let den := if rate = 0 then 2 else if rate = 1 then 3 else 4
  let n := cdiv ((8 * len + 6) * den) (max 1 (b * num))
  let p := if nullPeriod = 1 then 8 else if nullPeriod = 2 then 16 else 32
  200 + 240 + 120 + 240 + 120 * (n + (if nullPeriod = 0 then 0 else (n - 1) / p))

/-- PPDU duration in us (R247): uncoded MR-FSK and O-QPSK from their bit rates, ZAO with uniform QPSK at rate 1/2 unless a
map is given, the rest a free value of mode, rate and length. -/
def airUs (pre phy mcs len : Nat) (coded : Bool) (nullPeriod : Nat) (zao : Option (List Nat × Nat)) : Nat :=
  if phy ≤ 5 then
    if coded then shrUs pre phy mcs + Config.airTimeUs phy 16 len
    else
      let kbps := if phy = 0 then 50 else if phy = 1 then 100 else if phy = 2 then 150 else if phy = 3 then 200 else if phy = 4 then 200 else 300
      cdiv ((pre + 2 + 2 + len) * 8 * 1000) kbps
  else if phy = 7 then 160 + (1 + len) * 32
  else if phy = 12 then match zao with
    | some (m, r) => zaoUs (mapBits m) r nullPeriod len
    | none => zaoUs 192 0 nullPeriod len
  else shrUs pre phy mcs + Config.airTimeUs phy mcs len

/-- max_ack_psdu of a template for a PHY mode (R245). -/
def maxAck (t : Template) (phy : Nat) : Nat := t.maxAckPsdu.getD (if phy = 12 then 80 else 24)

/-- PHY_MODE 13-31 are reserved (R6, R209). -/
def phyOk (m : Nat) : Bool := m ≤ 12

/-- A queue drains to port AIR (R8). -/
def isAirQueue (s : State) (q : Nat) : Bool := q < 4096 && (queueOf s q).port = 6

/-- The key slot can serve an engine bit without the use being made: LIVE and the bit set, else the status of R373. -/
def keyStatus (s : State) (slot bitNo : Nat) : Nat :=
  let k := slotOf s slot
  if k.state = 0 || k.state = 4 then stKeyGone else if k.state = 2 then stKeyOrphan else if k.state = 3 then stKeyExhausted
  else if !bit k.mat.engines bitNo then stKeyDenied else stOk

end Sys2Proof.Machine
end

