-- ==== Sys2Proof/Machine/Flags.lean ====
section
/-!
DEFINITION. The status words: each register field that is computed from the state is computed here once.
-/
namespace Sys2Proof.Machine

/-- The codes of SYS.STATE.STATE (R73); OFF has none and reads 0. -/
def devCode : DevState → Nat
  | .off => 0
  | .reset => 1
  | .bootRom => 2
  | .pufRegen => 3
  | .fwVerify => 4
  | .init => 5
  | .run => 6
  | .lull => 7
  | .tamperHold => 8
  | .halted => 9

/-- SYS.STATE (R73). -/
def sysStateWord (s : State) : Nat :=
  devCode s.sys.devState + 16 * s.sys.resetCause + 256 * s.sys.strap + 4096 * s.sys.bootSlot + 2 ^ 13 * b2n s.sys.trial +
    2 ^ 14 * b2n s.sys.recovery + 2 ^ 15 * b2n s.aon.latch + 2 ^ 16 * b2n s.aon.cycled + 2 ^ 17 * b2n (s.hlth.degraded ≠ 0)

/-- BOOT.STATUS (R74). -/
def bootStatusWord (s : State) : Nat :=
  s.boot.step + 16 * s.boot.slotA + 256 * s.boot.slotB + 2 ^ 12 * s.otp.pufArray + 2 ^ 14 * s.boot.pufAttempts +
    2 ^ 16 * s.boot.bootSource + 2 ^ 18 * b2n s.boot.waitingImage

/-- FAULT_N is driven low in HALTED_DUMPED, in TAMPER_HOLD and while stopped on a reserved strap (R66); while the board has
VDD_IO33 off, in LULL, it is released (R95). -/
def faultNLow (s : State) : Bool :=
  s.sys.devState = .halted || (s.sys.devState = .tamperHold && !s.sys.lullExit) || (s.sys.devState = .bootRom && s.boot.step = 0xF)

/-- CHAIN_STATUS (R175). -/
def chainStatusWord (s : State) (c : Nat) : Nat :=
  let k := chainOf s c
  k.service + 4 * b2n k.rxLock + 8 * b2n k.txLock + 16 * b2n k.agcWide + 32 * k.gainIndex + 2 ^ 10 * b2n k.txEn +
    2 ^ 11 * b2n (gateHeld s) + 2 ^ 12 * b2n k.coexGrant + 2 ^ 13 * b2n k.tunerSearch.isSome + 2 ^ 14 * k.backoff

/-- LMAP[n] (R212). -/
def lmapWord (s : State) (n : Nat) : Nat :=
  let l := laneOf s n
  lanePhys s n + (match l.assign with | some t => 128 * t.chain + 512 + 1024 * b2n t.planned | none => 0) + 2048 * b2n l.outOfService

/-- Chain t blanks a channel centre f of chain r: it transmits, or ended less than 5 us ago, and its carrier is nearer than its
map's distance (R169-R171). -/
def blanksAt (k : ChainSt) (r f : Nat) : Bool :=
  let d := nth 0 k.blankDist r
  k.blanking && (d = 0xFFFF || max f k.blankCarrier - min f k.blankCarrier < d)

/-- A lane tuned so is blanked (R170). -/
def tuneBlanked (s : State) (u : LaneTune) : Bool :=
  match channelCentre (chainOf s u.chain) u.phy u.channel with
  | none => false
  | some f => (List.range 4).any (fun t => blanksAt (chainOf s t) u.chain f)

/-- The correlator of physical lane p is enabled: its logical lane is assigned and in service, fixed or inside its listen
window, its chain in service and receiving, and the lane is not blanked (R140, R170, R184-R187, R192). -/
def listens (s : State) (p : Nat) : Bool :=
  (roleOf s p = 0 || roleOf s p = 2) &&
    match (physOf s p).tune with
    | none => false
    | some u =>
      let l := laneOf s (logicalOf s p)
      let k := chainOf s u.chain
      !l.outOfService && k.service = 0 && !k.testHold && !tuneBlanked s u &&
        match l.assign with
        | some a => !a.planned || l.window
        | none => false

/-- PSTATUS[p] (R212). -/
def pstatusWord (s : State) (p : Nat) : Nat :=
  let k := physOf s p
  k.state + 8 * b2n (listens s p) + 16 * roleOf s p + 64 * logicalOf s p + 2 ^ 13 * k.binFirst + 2 ^ 22 * k.binCount

/-- Spare physical lanes: free, carrying a logical number, spawned (R212). -/
def sparesFree (s : State) : Nat := ((List.range 104).filter (fun p => roleOf s p = 1)).length
def sparesReplacing (s : State) : Nat := ((List.range 8).filter (fun i => roleOf s (96 + i) = 0)).length
def sparesSpawned (s : State) : Nat := ((List.range 104).filter (fun p => roleOf s p = 2)).length

/-- LANE.SPARE (R212). -/
def spareWord (s : State) : Nat := sparesFree s + 16 * sparesReplacing s + 256 * sparesSpawned s + 4096 * s.lane.reserve

/-- SLOT.STATUS (R279). -/
def slotStatusWord (s : State) : Nat :=
  let b := s.slot
  b2n b.running + 2 * b2n b.follower + 4 * b2n b.holdover + 8 * b2n b.guardLimit + 16 * b2n b.stopPending +
    256 * ((List.range 8).map (fun f => if (sfOf s f).active.isSome then 2 ^ f else 0)).sum +
    65536 * ((List.range 8).map (fun f => if (superOf s f).enabled then 2 ^ f else 0)).sum

/-- SF_STATUS[n] (R279). -/
def sfStatusWord (s : State) (n : Nat) : Nat :=
  let u := superOf s n
  b2n u.enabled + 2 * u.bo + 32 * u.so + 512 * (u.descs.map (·.length)).sum + 2 ^ 13 * b2n u.lastOk

/-- LIST_STATUS[f] (R305). -/
def listStatusWord (s : State) (f : Nat) : Nat :=
  let x := sfOf s f
  b2n x.active.isSome + 2 * b2n x.stagedReady + 4 * b2n x.pendAsn.isSome + 256 * x.activeLen + 2 ^ 24 * (x.pendAsn.getD 0 / 2 ^ 32)

/-- FRONT_STATUS (R305). -/
def frontStatusWord (s : State) : Nat :=
  s.slot.frontSrc + 4 * b2n s.slot.frontLocked + 8 * b2n (s.slot.frontP ≠ 0) + 16 * b2n s.slot.frontLost

/-- BUDG.STATUS (R306). -/
def budgStatusWord (s : State) : Nat :=
  b2n s.budg.loaded + 2 * b2n s.budg.near + 256 * s.budg.bands.length + 65536 * s.budg.regionId

/-- TBL.STATUS (R337). -/
def nodeCount (s : State) : Nat := s.tbl.nodes.length
def nbrCount (s : State) : Nat := (s.tbl.nbrs.filter (·.2.valid)).length
def pinCount (s : State) : Nat := (s.tbl.nbrs.filter (fun e => e.2.valid && e.2.pin)).length
def tblStatusWord (s : State) : Nat :=
  b2n s.tbl.learnEnable + 2 * b2n (s.tbl.nearPct * 262144 ≤ 100 * nodeCount s) + 4 * b2n (s.tbl.ageNode ≠ 0) + 8 * b2n (s.tbl.ageNbr ≠ 0)

/-- SEC.STATUS (R394). -/
def secStatusWord (s : State) : Nat :=
  b2n s.sec.rootReady + 2 * b2n s.aon.saltValid + 4 * b2n s.sec.keysLost + 8 * b2n s.sec.plainLocked + 16 * b2n s.flash.identity +
    32 * s.otp.pufArray + 128 * s.otp.enrolled

/-- Slots in a state, and staging entries in use (R394). -/
def slotsIn (s : State) (st : Nat) : Nat := (s.sec.slots.filter (fun e => e.2.state = st)).length
def stagedCount (s : State) : Nat := (s.sec.slots.filter (fun e => e.2.staged.isSome)).length

/-- SEC.SLOTS and SEC.SLOTS2 (R394). -/
def secSlotsWord (s : State) : Nat := slotsIn s 1 + 2 ^ 13 * slotsIn s 2
def secSlots2Word (s : State) : Nat := slotsIn s 3 + 2 ^ 13 * stagedCount s

/-- TAMPER_CAUSE (R394). -/
def tamperCauseWord (s : State) : Nat := s.aon.cause + 512 * s.aon.causeState

/-- Words 0-7 of a slot descriptor (R371). -/
def descWords (k : KeySlotSt) : List Nat :=
  let m := k.mat
  [k.state + 8 * m.ktype + 64 * b2n k.staged.isSome + 128 * b2n (match k.staged with | some t => t.verified | none => false) +
      256 * m.engines + 65536 * k.gen,
    (match m.parent with | some (p, g) => p + 4096 + 65536 * g | none => 0) + 8192 * m.nonceMode + 16384 * b2n k.retiring.isSome,
    m.usageLimit, m.usageCount, m.warnMargin,
    (match m.record with | some r => r + 2 ^ 18 | none => 0) + 2 ^ 19 * m.depth,
    m.nonceFixed, k.refs]

/-- CRY.STATUS and CCM_CTX (R422). -/
def cryStatusWord (s : State) : Nat :=
  ((List.range 5).map (fun e => if (tget [] s.cry.msgs e).isEmpty then 0 else 2 ^ e)).sum + 32 * b2n s.cry.journalOk + 64 * b2n s.cry.compacting
def ccmCtxWord (s : State) : Nat :=
  (tget [] s.cry.msgs 0).length + 32 * ((List.range 5).map (fun e => ((tget [] s.cry.msgs e).filter (·.suspended)).length)).sum

/-- CHK STATUS of unit u (R423). -/
def chkStatusWord (s : State) (u : Nat) : Nat :=
  let c := chkOf s u
  c.poly + 4 * c.mode + 8 * b2n c.skipAbort + 16 * b2n c.paused + 32 * b2n c.attached.isSome + 64 * c.attached.getD 0 +
    2 ^ 13 * c.results.length + 2 ^ 18 * b2n c.ovf + 2 ^ 19 * b2n c.writeIgnored + 2 ^ 20 * b2n c.expectEn

/-- The slot that does not run: the target of an own-firmware image (R432). -/
def targetSlot (s : State) : Nat := 1 - s.sys.bootSlot

/-- UPD.FW_STATUS (R453); 5 while the running slot is on trial and nothing is open. -/
def fwStatusWord (s : State) : Nat :=
  (if s.sys.trial && s.upd.fw.state = 0 then 5 else s.upd.fw.state) + 8 * targetSlot s + 16 * b2n s.upd.fw.journalOk + 32 * b2n s.upd.fw.burnPending

/-- CAMP_STATUS of a campaign (R453). -/
def campStatusWord (s : State) (c : Nat) : Nat := (campOf s c).state + 8 * (campOf s c).round + 256 * b2n (campOf s c).inWindow

/-- Members of a campaign in a state (R446). -/
def membersIn (c : CampSt) (st : Nat) : Nat := (c.members.filter (fun m => m.2.state = st)).length

/-- TIME.STATUS (R238). -/
def timeStatusWord (s : State) : Nat :=
  let t := s.time
  b2n t.domA.tracked + 2 * b2n t.domB.tracked + 4 * t.sel + 8 * b2n t.slewing + 16 * b2n t.holding + 32 * b2n (bit s.sys.refLost 2) +
    64 * t.domA.src + 256 * t.domB.src + 1024 * b2n t.domA.locked + 2048 * b2n t.domB.locked

/-- CMP_CTRL[n] (R238). -/
def cmpReserved (n : Nat) : Bool := n < 2 || 12 ≤ n
def cmpCtrlWord (s : State) (n : Nat) : Nat :=
  let c := cmpOf s n
  b2n c.armed + 2 * c.ref + 8 * b2n (c.period ≠ 0) + 16 * c.actions + 128 * c.pin + 512 * c.pinMode + 2048 * b2n (cmpReserved n) +
    65536 * min c.skipped 0xFFFF

/-- CAP_STATUS[i] (R238). -/
def capStatusWord (s : State) (i : Nat) : Nat :=
  let c := tget {} s.time.caps i
  c.queue.length + 32 * b2n (match c.latched with | some e => e.falling | none => false) + 64 * b2n c.latched.isSome + 128 * b2n c.ovf + 256 * c.edgeSel

/-- PORT_STATUS[p] and TOPO (R483). -/
def portStatusWord (s : State) (p : Nat) : Nat := (portOf s p).state + 4 * (portOf s p).role + 65536 * (portOf s p).peer
def topoWord (s : State) : Nat :=
  s.lnk.memberId + 4096 * s.lnk.kind + 8192 * b2n s.lnk.ringBroken + 16384 * s.lnk.upPort + 65536 * s.lnk.members

/-- Claim bit 13: active, or standby that has applied the delta before (R474). -/
def claimSynced (s : State) : Bool := s.twin.gates || s.twin.synced

/-- TWIN.STATUS (R484). -/
def twinStatusWord (s : State) : Nat :=
  let t := s.twin
  b2n t.configured + 2 * b2n (gateHeld s) + 4 * b2n t.preparing + 8 * b2n t.peerAlive + 16 * b2n (claimSynced s) + 32 * b2n t.yielding +
    64 * b2n t.void + 128 * b2n t.tie

/-- HEALTH (R474). -/
def chainsOut (s : State) : Nat := ((List.range 4).filter (fun c => (chainOf s c).service = 2)).length
def lanesOut (s : State) : Nat := ((List.range 96).filter (fun n => (laneOf s n).outOfService)).length
def portsDown (s : State) : Nat :=
  ((List.range 2).filter (fun e => !(ethOf s e).link)).length + ((List.range 2).filter (fun p => (portOf s p).state ≠ 2)).length
def health (s : State) : Nat := 63 - min 63 (16 * chainsOut s + 8 * portsDown s + lanesOut s)

/-- The claim a chip forms for an arbitration (R474). -/
def claimWord (s : State) : Nat :=
  let t := s.twin
  2 ^ 15 * b2n (s.sys.devState = .run && t.configured && t.live && !t.yielding) + 2 ^ 14 * b2n t.incumbent + 2 ^ 13 * b2n (claimSynced s) +
    128 * health s + 2 * t.priority + t.chipId

/-- ETH STATUS (R511). -/
def ethStatusWord (s : State) (e : Nat) : Nat :=
  let p := ethOf s e
  p.mode + 4 * b2n p.link + 8 * p.speed + 32 * b2n p.macsec + 64 * p.txAn + 256 * b2n p.txStopped + 512 * b2n (bit s.sys.strap 3 && !gateHeld s)

/-- PCIE.LINK and DDR.STATUS (R512). -/
def pcieLinkWord (s : State) : Nat := s.pcie.width + 8 * s.pcie.speed + 32 * b2n s.pcie.up
def ddrStatusWord (s : State) : Nat :=
  b2n s.ddr.trained + 2 * b2n s.ddr.rank1 + 4 * b2n s.ddr.refresh2x + 8 * b2n s.ddr.selfRefresh + 16 * s.ddr.sizeGib

/-- Bits of a list of numbers. -/
def maskOf (l : List Nat) : Nat := l.foldl setBit 0

/-- FROZEN (R539). -/
def frozenMask (s : State) : Nat := maskOf s.fwall.frozen

/-- REC_INFO (R539). -/
def recInfoWord (s : State) : Nat :=
  match s.fwall.latched with
  | some r => r.master + 64 * b2n r.isWrite + 128 * r.region + 16384
  | none => 0

/-- Active cores (R527), and spare cores free. -/
def popcount (n w : Nat) : Nat := ((List.range w).filter (bit n)).length
def coresActive (s : State) : Nat := popcount s.hlth.coresActive 10
def coresSpare (s : State) : Nat := ((List.range 10).filter (fun c => !bit s.hlth.coresActive c && !bit s.flash.failedCores c)).length

/-- The recovery core: the lowest-numbered active core (R515). -/
def recoveryCore (s : State) : Nat := ((List.range 10).find? (bit s.hlth.coresActive)).getD 10

/-- HLTH registers (R540). -/
def hlthCoresWord (s : State) : Nat := s.hlth.coresActive + 2 ^ 10 * s.flash.failedCores + 2 ^ 20 * recoveryCore s
def hlthOtpWord (s : State) : Nat := s.otp.dead + 65536 * maskOf (s.otp.owner.map (fun e => e.1 - 10))

/-- DUMP.STATUS (R540). -/
def dumpStatusWord (s : State) : Nat :=
  b2n s.dump.writing + 2 * b2n s.dump.dram.isSome + 4 * maskOf (s.flash.dumps.map (·.1)) + 16 * b2n s.dump.skipped + 32 * s.dump.cause

/-- TEST.STATUS and BIST_FAIL (R556). -/
def testStatusWord (s : State) : Nat :=
  match s.test.run with
  | some r => 1 + 2 * b2n s.sys.testMode + 4 * r.kind + 16 * r.target
  | none => 2 * b2n s.sys.testMode
def bistFailWord (s : State) : Nat := s.test.bistFail + 65536 * s.test.engFail

/-- TM.STATUS (R359). -/
def tmStatusWord (s : State) : Nat := freeCells s + 65536 * b2n (freeCells s < s.tm.reserve)

/-- B of a frame and the bytes a queue holds (R347, R350). -/
def queueBytes (q : QueueSt) : Nat := (q.frames.map (·.data.length)).sum

end Sys2Proof.Machine
end

