-- ==== Sys2Proof/Machine/Command.lean ====
section
/-!
DEFINITION. The command path of R30: what a fetch refuses, the order of a flow, completion, and the rows of the queue pairs,
the vectors, the delay list and the management paths that need no meaning of an opcode.
-/
namespace Sys2Proof.Machine

/-- Bit i of FLAGS (R106). -/
def hflag (h : Hdr) (i : Nat) : Bool := bit h.flags i

/-- Deadline d is passed at tick n (R119). -/
def deadlinePassed (d n : Nat) : Bool :=
  d ≠ 0 && (let x := (n + 2 ^ 32 - d % 2 ^ 32) % 2 ^ 32
    1 ≤ x && x < 2 ^ 31)

/-- SYS_TIMED settings of a queue (R137). -/
def timedOf (s : State) (q : Nat) : TimedCfg := tget {} s.sys.timed q

/-- The part answers commands: an agent or the ROM runs (R64, R75). -/
def answers (s : State) : Bool :=
  match s.sys.devState with
  | .bootRom | .pufRegen | .fwVerify | .init | .run | .tamperHold => true
  | _ => false

/-- The opcodes the ROM answers (R79). -/
def romCmd : Cmd → Bool
  | .sysInfo _ | .sysState _ | .updOpen _ | .updBlock _ | .updActivate _ | .diagDumpRead _ => true
  | _ => false

/-- In test mode the TEST commands come as management SPI entries through the TEST_AGENT instruction of the TAP (R555). -/
def testAgent (s : State) (h : Hdr) (c : Cmd) : Bool :=
  s.sys.testMode && s.sys.devState = .bootRom && s.sys.jtagIr = some 0x10 && h.qp = 64 && opcodeOf c / 256 = 0x10

/-- Opcode of the KEY family (R389). -/
def keyCmd (c : Cmd) : Bool := opcodeOf c / 256 = 8

/-- What the standby refuses with ST_STANDBY (R470). -/
def standbyRefuses (c : Cmd) (flow : Nat) : Bool :=
  let f := opcodeOf c / 256
  if isStatus c then false
  else (2 ≤ f && f ≤ 8) || (f = 0x0A && flow ≠ 0 && !(opcodeOf c = 0x0A00 || opcodeOf c = 0x0A01))

/-- A fitted twin that does not hold the gates is the standby (R470). -/
def isStandby (s : State) : Bool := bit s.sys.strap 3 && s.twin.configured && !s.twin.gates

/-- The path of a queue is a management path: PF1, SPI or VLAN (R109). -/
def isMgmt (s : State) (q : Nat) : Bool := (qpOf s q).func = 1

/-- A function's inbound writes are dropped while its master is frozen (R520). -/
def pfFrozen (s : State) (func : Nat) : Bool := s.fwall.frozen.contains (26 + func)

/-- The DMA engine that serves queue pair or ring q (R515; which engine serves which is log entry 22). -/
def dmaFrozen (s : State) (q : Nat) : Bool := s.fwall.frozen.contains (10 + q % 8)

/-- The tick that contains act_time of a reference (R123). -/
def actTick (s : State) (ref act : Nat) : Nat :=
  (((rawNs s : Int) + ((act : Int) - refNs s ref)) / 100000 % (2 ^ 32 : Int)).toNat

/-- Why a TIMED command is refused at fetch, or 0 (R123, R561). -/
def timedRefusal (h : Hdr) (c : Cmd) (s : State) : Nat :=
  let t := timedOf s h.qp
  if !timedOk c then stBadParam
  else if !refTracked s t.ref then stBusy
  else if (h.actTime : Int) > refNs s t.ref + (t.maxAheadS : Int) * 1000000000 then stBadParam
  else if h.deadline ≠ 0 && deadlinePassed h.deadline (actTick s t.ref h.actTime) then stBadParam
  else 0

/-- PLEN, PTR_PARAMS and the parameter address fit R107; a management path takes no pointer. -/
def paramsFit (h : Hdr) : Bool :=
  h.plen ≤ 16384 &&
    (if 64 ≤ h.qp then !hflag h 2 else (h.plen ≤ 48 || hflag h 2) && (!hflag h 2 || h.paramAddr % 8 = 0))

/-- Why a command is refused at fetch, ST_OK where it is not: header, opcode, path, FLOW, device state and TIMED checks
(R6, R79, R91, R96, R107, R109, R110, R119, R123, R389, R470). The order of the checks is log entry 10. -/
def entryRefusal (h : Hdr) (c : Option Cmd) (s : State) : Nat :=
  if deadlinePassed h.deadline (fwTick s) then stTimeout
  else match c with
    | none => stBadOpcode
    | some c =>
      if (pathOf c = 1 && isMgmt s h.qp) || (pathOf c = 2 && !isMgmt s h.qp) then stBadOpcode
      else if keyCmd c && s.sys.devState = .run && s.sec.tamperLive ≠ 0 then stTamper
      else if (s.sys.devState ≠ .run && !romCmd c && !testAgent s h c) || s.sys.lullArmed then stBusy
      else if h.reservedSet || 32 ≤ h.flags || !paramsFit h || (hflag h 2 && h.paramError) then stBadParam
      else if !flowOk c h.flow then stBadParam
      else if isStandby s && standbyRefuses c h.flow then stStandby
      else if hflag h 1 then timedRefusal h c s
      else stOk

/-- The ordered flow of a command: family and FLOW (R110). -/
def flowKey (f : Flight) : Nat × Nat := ((match f.cmd with | some c => opcodeOf c / 256 | none => 0), f.hdr.flow)

/-- Commands in flight of a queue pair: QP_STATUS.IN_FLIGHT (R99). -/
def inFlight (s : State) (q : Nat) : Nat := (s.hif.flights.filter (·.qp = q)).length

/-- s with the function applied to the first flight that satisfies p. -/
def modFirst (p : Flight → Bool) (f : Flight → Flight) : List Flight → List Flight
  | [] => []
  | x :: t => if p x then f x :: t else x :: modFirst p f t

/-- The flights before the first that satisfies p. -/
def before (p : Flight → Bool) (l : List Flight) : List Flight := l.takeWhile (fun x => !p x)

/-- A flight still to be worked on under this header and command. -/
def isFor (h : Hdr) (c : Cmd) (f : Flight) : Bool := f.hdr = h && f.cmd = some c && f.qp = h.qp

/-- A flight of this queue pair and TAG. -/
def isTag (qp tag : Nat) (f : Flight) : Bool := f.qp = qp && f.hdr.tag = tag

/-- A fetched entry joins the commands in flight, completed at once where it is refused (R108, R109, R119). -/
def fetchEntry (h : Hdr) (c : Option Cmd) (mac seqNo : Nat) (s : State) : State :=
  let dup := s.hif.flights.any (isTag h.qp h.tag)
  let st := if dup then stDuplicate else entryRefusal h c s
  let x : Flight := {
    qp := h.qp, hdr := h, cmd := c, fetchTick := fwTick s, done := st ≠ stOk,
    status := st, doneTick := fwTick s, mac := mac, seqNo := seqNo }
  let s := withHif (fun f => { f with flights := f.flights ++ [x] }) s
  if !dup && st ≠ stTimeout && hflag h 2 && h.paramError && h.qp < 64 then raise 0x010 (withQp h.qp (fun q => { q with fetchError := true }) s) else s

/-- The reply ring of a queue pair has no free entry (R103); a management path holds 15 replies (R101). -/
def replyFull (s : State) (q : Nat) : Bool :=
  if q < 64 then unread (qpOf s q) + 1 ≥ 2 ^ (qpOf s q).cqLog2 else if q = 64 then s.sys.spiReplies.length ≥ 15 else false

/-- ORDERED lets the flight start: none earlier from its ring, or none earlier with ORDERED (R115). -/
def mayStart (earlier : List Flight) (f : Flight) : Bool :=
  earlier.all (fun x => x.qp ≠ f.qp || !(hflag f.hdr 0 || hflag x.hdr 0))

/-- The side effects of a flight are held: an earlier command of its flow is not released, or its reply ring is full
(R103, R114). -/
def heldBack (s : State) (earlier : List Flight) (f : Flight) : Bool :=
  earlier.any (fun x => flowKey x = flowKey f) || replyFull s f.qp

/-- The completion record: status, INFO and data of the reply, or the wait its chapter names (R114, R120). -/
def complete (p : Flight → Bool) (r : Res) : State :=
  withHif (fun h => { h with flights := modFirst p (fun f =>
    if r.again then f
    else if r.wait then { f with waiting := true, staged := false, status := r.status, info := r.info, data := r.data }
    else { f with
      done := true, waiting := false, staged := false, delayed := false, status := r.status, info := r.info, data := r.data,
      doneTick := fwTick r.st }) h.flights }) r.st

/-- The wait of a flight ends: its reply is filled in (R379, R380, R480). -/
def finishWait (who : Option (Nat × Nat)) (status : Nat) (data : List Byte) (s : State) : State :=
  match who with
  | none => s
  | some (qp, tag) => complete (fun f => isTag qp tag f && f.waiting) { st := s, status := status, data := data }

/-- The wait of a flight ends with the reply it already holds. -/
def finishStored (who : Option (Nat × Nat)) (s : State) : State :=
  match who with
  | none => s
  | some (qp, tag) => withHif (fun h => { h with
      flights := modFirst (fun f => isTag qp tag f && f.waiting) (fun f => { f with done := true, waiting := false, doneTick := fwTick s }) h.flights }) s

/-- An entry on the delay list, in act_time order (R124). -/
def delayInsert (d : Delayed) : List Delayed → List Delayed
  | [] => [d]
  | x :: t => if d.actNs < x.actNs then d :: x :: t else x :: delayInsert d t

/-- A TIMED command other than RAD_TX_RAW waits on the delay list; RAD_TX_RAW is placed by act_time itself (R122, R178). -/
def staysDelayed (h : Hdr) (c : Cmd) : Bool := hflag h 1 && opcodeOf c ≠ 0x0206

/-- A TIMED command whose checks pass waits on the delay list; one that fails them is refused at once (R122, R123). -/
def stageTimed (h : Hdr) (c : Cmd) (r : Res) (s : State) : State :=
  if r.status = stOk || r.status = stPending then
    let t := timedOf s h.qp
    withHif (fun f => { f with
      flights := modFirst (isFor h c) (fun x => { x with delayed := true }) f.flights,
      delayList := delayInsert { qp := h.qp, hdr := h, cmd := some c, ref := t.ref, lateNs := t.lateNs, actNs := h.actTime } f.delayList }) s
  else complete (isFor h c) { r with st := s }

/-- Work that a command accepted with ST_PENDING continues on the instance that family and FLOW name (R117). -/
def jobRuns (family flow : Nat) (s : State) : Bool :=
  match family with
  | 2 => (match (chainOf s flow).cal with | some j => j.job ≠ 0 | none => false) || (chainOf s flow).tunerSearch.isSome
  | 3 => (laneOf s flow).snapshot.isSome
  | 0x0A => flow = 0 && s.upd.fw.state = 2 && s.upd.fw.job ≠ 0
  | 0x0D => s.twin.saving.isSome
  | 0x10 => s.test.run.isSome
  | _ => false

/-- Until the end of such work the agent answers every later command to the instance with ST_BUSY, but for the *_STATUS and
*_INFO opcode of the family (R117). -/
def jobBusy (c : Cmd) (flow : Nat) (s : State) : Bool := !isStatus c && jobRuns (opcodeOf c / 256) flow s

/-- A command's meaning, or ST_BUSY by R117. -/
def unlessJob (h : Hdr) (c : Cmd) (run : State → Res) (s : State) : Res :=
  if jobBusy c h.flow s then refuse s stBusy else run s

/-- The agent works on a flight that has been fetched (R30 steps 4-5, R114, R115). -/
def workOn (h : Hdr) (c : Cmd) (run : State → Res) (s : State) : State :=
  match s.hif.flights.find? (isFor h c) with
  | none => s
  | some f =>
    let earlier := before (isFor h c) s.hif.flights
    if f.done || f.staged || f.waiting || f.delayed || !mayStart earlier f then s
    else if staysDelayed h c then stageTimed h c (unlessJob h c run s) s
    else if heldBack s earlier f then
      withHif (fun x => { x with flights := modFirst (isFor h c) (fun y => { y with staged := true, doneTick := fwTick s }) x.flights }) s
    else complete (isFor h c) (unlessJob h c run s)

/-- An opcode row: the command is fetched where it is not in flight yet, and its agent works on it (R30). A part on which
neither agent nor ROM runs answers nothing. -/
def agentRun (h : Hdr) (c : Cmd) (run : State → Res) (s : State) : Host.Outcome State Fault Refusal :=
  if !answers s then .next s
  else if s.hif.flights.any (isFor h c) then .next (workOn h c run s)
  else .next (workOn h c run (fetchEntry h (some c) 0 0 s))

/-- The part ends every command in flight that has no completion record with a status (R91, R389). -/
def endFlights (status : Nat) (p : Flight → Bool) (s : State) : State :=
  withHif (fun h => { h with
    flights := h.flights.map (fun f => if f.done || !p f then f else
      { f with
        done := true, waiting := false, staged := false, delayed := false, status := status, info := 0, data := [], doneTick := fwTick s }),
    delayList := h.delayList.filter (fun d => !h.flights.any (fun f => isTag d.qp d.hdr.tag f && p f)) }) s

/-! Replies. -/

/-- A reply entry (R111). -/
def replyBytes (tag status info sqHead : Nat) (phase : Bool) (data : List Byte) : List Byte :=
  le 2 tag ++ le 2 status ++ le 2 info ++ le 2 (sqHead % 4096 + 32768 * b2n phase) ++ fit 24 data

/-- The vector that carries the replies of queue pair q (R128). -/
def replyVector (s : State) (q : Nat) : Nat := if (qpOf s q).func = 0 then q else 256 + q % 4

/-- A queue pair whose ENABLE is 0 stops being ENABLED once nothing of it is in flight (R104). -/
def drain (q : Nat) (s : State) : State :=
  if q < 64 && !(qpOf s q).enable && (qpOf s q).enabled && inFlight s q = 0 then withQp q (fun x => { x with enabled := false }) s else s

/-- Signalling of a new reply: by COAL_COUNT and COAL_TIME, at once for URGENT and for a status other than ST_OK and
ST_PENDING (R99, R126). -/
def signalsNow (q : QpSt) (h : Hdr) (status : Nat) : Bool :=
  hflag h 4 || (status ≠ stOk && status ≠ stPending) || q.coalCount ≤ 1 || q.coalTime = 0 || q.coalCount ≤ q.unsignalled + 1

/-- A reply reaches the ring of a host queue pair in host memory, and its vector (R111, R112, R129). -/
def postReply (f : Flight) (s : State) : State :=
  let q := qpOf s f.qp
  let v := replyVector s f.qp
  let was := vecPending s v
  let wrap := q.cqTail + 1 = 2 ^ q.cqLog2
  let s := hostWrite (q.cqBase + 32 * q.cqTail) (replyBytes f.hdr.tag f.status f.info q.sqHead q.phase f.data) s
  let s := withQp f.qp (fun x => { x with
    cqTail := if wrap then 0 else x.cqTail + 1, phase := if wrap then !x.phase else x.phase,
    unsignalled := if signalsNow x f.hdr f.status then 0 else x.unsignalled + 1 }) s
  settle v was false s

/-- A reply frame of the management VLAN: the sequence number, count 1, a reserved byte and the reply (R136). -/
def vlanReply (f : Flight) : List Byte :=
  le 2 f.seqNo ++ le 1 1 ++ le 1 0 ++ replyBytes f.hdr.tag f.status f.info 0 true f.data

/-- The reply of a completed flight goes out on its path, unless NO_REPLY and ST_OK (R116, R135, R136). -/
def sendReply (f : Flight) (s : State) : State :=
  if hflag f.hdr 3 && f.status = stOk then s
  else if f.qp = 64 then
    withSys (fun x => { x with spiReplies := x.spiReplies ++ [replyBytes f.hdr.tag f.status f.info 0 true f.data] }) s
  else if f.qp = 65 then
    withSys (fun x => { x with
      mgmtReplies := x.mgmtReplies ++ [vlanReply f],
      mgmtPeers := x.mgmtPeers.map (fun p => if p.mac = f.mac then { p with replies := lastN 256 (p.replies ++ [(f.seqNo, vlanReply f)]) } else p) }) s
  else if (qpOf s f.qp).enabled then postReply f s
  else withSys (fun x => { x with spiOut := replyBytes f.hdr.tag f.status f.info 0 true f.data }) s

/-- A flight leaves: its reply is sent and its queue pair drains (R104, R114). -/
def releaseFlight (f : Flight) (s : State) : State :=
  let s := sendReply f s
  let s := withHif (fun h => { h with flights := h.flights.eraseP (fun x => isTag f.qp f.hdr.tag x && x.done) }) s
  drain f.qp s

/-! Rows of the queue pairs. -/

/-- SQ_DOORBELL_WRITE (R98, R101). -/
def sqDoorbell (q value : Nat) (s : State) : State :=
  let x := qpOf s q
  if 64 ≤ q || pfFrozen s x.func then s
  else if 2 ^ x.sqLog2 ≤ value % 4096 then raise 0x010 (withQp q (fun x => { x with fetchError := true }) s)
  else withQp q (fun x => { x with sqTail := value % 4096 }) s
def execSqDoorbellWrite (q value : Nat) (s : State) : Host.Outcome State Fault Refusal := .next (sqDoorbell q value s)

/-- CQ_DOORBELL_WRITE: held releases resume, and the vector is sent again where it stays pending (R98, R103, R129). -/
def cqDoorbell (q value : Nat) (s : State) : State :=
  let x := qpOf s q
  if 64 ≤ q || pfFrozen s x.func then s
  else if 2 ^ x.cqLog2 ≤ value % 4096 then raise 0x010 (withQp q (fun x => { x with fetchError := true }) s)
  else
    let v := replyVector s q
    let was := vecPending s v
    let s := withQp q (fun x => let y := { x with cqHead := value % 4096, cqFull := false }
      { y with unsignalled := min y.unsignalled (unread y) }) s
    settle v was true s
def execCqDoorbellWrite (q value : Nat) (s : State) : Host.Outcome State Fault Refusal := .next (cqDoorbell q value s)

/-- A PF1 write outside its allowance: dropped, counted, EV_PCIE_WRITE_DROPPED (R500). -/
def pf1Drop (s : State) : State := raise 0x143 (withPcie (fun p => { p with cnt := bump p.cnt 3 }) s)

/-- Fields of a QP_CTRL write: FUNC from PF0 only; FUNC and the sizes only while ENABLED is 0 (R99, R100, R500). -/
def qpCtrl (func ctrl : Nat) (x : QpSt) : QpSt :=
  let y := { x with prio := bits ctrl 11 10, coalCount := bits ctrl 23 16, coalTime := bits ctrl 31 24 }
  if x.enabled then y
  else { y with func := if func = 0 then bits ctrl 1 1 else y.func, sqLog2 := bits ctrl 5 2, cqLog2 := bits ctrl 9 6 }

/-- The sizing rule of R100. -/
def sizesOk (x : QpSt) : Bool := 4 ≤ x.sqLog2 && x.sqLog2 ≤ 12 && 4 ≤ x.cqLog2 && x.cqLog2 ≤ 12 && x.sqLog2 ≤ x.cqLog2

/-- A QP_CTRL write with ENABLE 1 (R100). -/
def qpOn (func q ctrl : Nat) (s : State) : State :=
  if 64 ≤ q || pfFrozen s func then s
  else if func = 1 && (qpOf s q).func = 0 then pf1Drop s
  else withQp q (fun x =>
    let y := qpCtrl func ctrl x
    if x.enabled then { y with enable := true }
    else if sizesOk y then { y with enable := true, enabled := true } else { y with enable := false, configError := true }) s
def execQpEnable (func q ctrl : Nat) (s : State) : Host.Outcome State Fault Refusal := .next (qpOn func q ctrl s)

/-- A QP_CTRL write with ENABLE 0: fetching stops and the commands in flight drain (R104). -/
def qpOff (func q ctrl : Nat) (s : State) : State :=
  if 64 ≤ q || pfFrozen s func then s
  else if func = 1 && (qpOf s q).func = 0 then pf1Drop s
  else drain q (withQp q (fun x => { qpCtrl func ctrl x with enable := false }) s)
def execQpDisable (func q ctrl : Nat) (s : State) : Host.Outcome State Fault Refusal := .next (qpOff func q ctrl s)

/-- Queue pair q has an entry that HIF may fetch (R102, R104). -/
def fetchable (s : State) (q : Nat) : Bool :=
  let x := qpOf s q
  x.enable && x.enabled && x.sqHead ≠ x.sqTail && inFlight s q < 64 && !dmaFrozen s q

/-- HIF serves queue pair q next: no ring of a higher PRIO has an entry, and in its PRIO it is the first after the ring
served last (R102). -/
def servedNext (s : State) (q : Nat) : Bool :=
  let p := (qpOf s q).prio
  let last := tget 63 s.hif.lastServed p
  fetchable s q &&
    (List.range 64).all (fun x => !fetchable s x || p ≤ (qpOf s x).prio) &&
    (List.range 64).all (fun x => !fetchable s x || (qpOf s x).prio ≠ p || (q + 127 - last) % 64 ≤ (x + 127 - last) % 64)

/-- COMMAND_FETCH: HIF fetches the next entry of a ring, and what a fetch refuses is refused (R102, R105-R110). Only firmware
agents serve the rings: in RUN (R77). -/
def commandFetch (e : Entry) (s : State) : State :=
  let q := e.hdr.qp
  if 64 ≤ q || s.sys.devState ≠ .run || !servedNext s q then s
  else
    let s := withHif (fun h => { h with lastServed := tput h.lastServed (qpOf s q).prio q }) s
    let s := withQp q (fun x => { x with sqHead := (x.sqHead + 1) % 2 ^ x.sqLog2 }) s
    fetchEntry e.hdr e.cmd 0 0 s
def execCommandFetch (e : Entry) (s : State) : Host.Outcome State Fault Refusal := .next (commandFetch e s)

/-- A comparator released without firing (R231). -/
def disarm (n : Nat) (s : State) : State := withCmp n (fun c => { c with armed := false }) s

/-- DEADLINE_ABANDON: at a tick past its deadline, a command without a completion record ends with ST_TIMEOUT and INFO 0
(R120, R121). -/
def deadlineAbandon (qp tag : Nat) (s : State) : State :=
  match s.hif.flights.find? (isTag qp tag) with
  | none => s
  | some f =>
    if f.done || f.staged || !deadlinePassed f.hdr.deadline (fwTick s) then s
    else
      let cmp := (s.hif.delayList.find? (fun d => d.qp = qp && d.hdr.tag = tag)).bind (·.cmp)
      let s := endFlights stTimeout (isTag qp tag) s
      match cmp with
      | some n => disarm n s
      | none => s
def execDeadlineAbandon (qp tag : Nat) (s : State) : Host.Outcome State Fault Refusal := .next (deadlineAbandon qp tag s)

/-- The delay list with a comparator of 12-15 armed for each entry due within two ticks while one is free (R124). -/
def armDue (s : State) : List Delayed → State → List Delayed × State
  | [], t => ([], t)
  | d :: l, t =>
    match (if d.cmp.isNone && (d.actNs : Int) ≤ refNs s d.ref + 200000 then [12, 13, 14, 15].find? (fun n => !(cmpOf t n).armed) else none) with
    | some n =>
      let r := armDue s l (withCmp n (fun c => { c with armed := true, ref := d.ref, target := d.actNs, period := 0, actions := 0 }) t)
      ({ d with cmp := some n } :: r.1, r.2)
    | none => let r := armDue s l t; (d :: r.1, r.2)

/-- DELAY_LIST_WALK (R124). -/
def delayListWalk (s : State) : State :=
  let r := armDue s s.hif.delayList s
  withHif (fun h => { h with delayList := r.1 }) r.2
def execDelayListWalk (s : State) : Host.Outcome State Fault Refusal := .next (delayListWalk s)

/-- COAL_TIME_EXPIRY: unsignalled replies (kind 0) or ring entries (1 TH, 2 FH) are signalled (R99, R501). -/
def coalExpiry (kind index : Nat) (s : State) : State :=
  if kind = 0 then
    let v := replyVector s index
    if 64 ≤ index || (qpOf s index).unsignalled = 0 then s
    else settle v (vecPending s v) false (withQp index (fun x => { x with unsignalled := 0 }) s)
  else if 32 ≤ index || 3 ≤ kind then s
  else if kind = 1 then
    if (tget {} s.pcie.th index).unsignalled = 0 then s
    else settle (64 + index) (vecPending s (64 + index)) false
      (withPcie (fun p => { p with th := tmod {} p.th index (fun r => { r with unsignalled := 0 }) }) s)
  else
    if (tget {} s.pcie.fh index).unsignalled = 0 then s
    else settle (96 + index) (vecPending s (96 + index)) false
      (withPcie (fun p => { p with fh := tmod {} p.fh index (fun r => { r with unsignalled := 0 }) }) s)
def execCoalTimeExpiry (kind index : Nat) (s : State) : Host.Outcome State Fault Refusal := .next (coalExpiry kind index s)

/-- MSIX_UNMASK: a message only if the vector is still pending (R129). -/
def msixUnmask (func vector : Nat) (s : State) : State :=
  let v := if func = 0 then vector else 256 + vector
  if (func = 0 && 256 ≤ vector) || (func ≠ 0 && 8 ≤ vector) then s
  else
    let wasHeld := s.evt.held.contains v
    let s := withEvt (fun e => { e with
      unmasked := if e.unmasked.contains v then e.unmasked else e.unmasked ++ [v], held := e.held.filter (· ≠ v) }) s
    if wasHeld && vecPending s v then notify v s else s
def execMsixUnmask (func vector : Nat) (s : State) : Host.Outcome State Fault Refusal := .next (msixUnmask func vector s)

/-- The vectors of the sources a write of value to EVT.CAUSE[k] names (R129). -/
def causeVectors (s : State) (k value : Nat) : List Nat :=
  (((List.range 32).filter (bit value)).map (fun b => vecOfSrc (srcCfgOf s (32 * k + b)))).eraseDups

/-- EVT_CAUSE_CLEAR (R129, R131). -/
def evtClear (k value : Nat) (s : State) : State :=
  if 12 ≤ k || pfFrozen s 0 then s
  else
    let vs := causeVectors s k value
    let s := withEvt (fun e => { e with cause := ((List.range 32).filter (bit value)).foldl (fun c b => clrBit c (32 * k + b)) e.cause }) s
    vs.foldl (fun s v => settle v true true s) s
def execEvtCauseClear (k value : Nat) (s : State) : Host.Outcome State Fault Refusal := .next (evtClear k value s)

/-! Rows of the management paths (R135, R136). -/

/-- SPI_SUBMIT: ignored and counted with no room or a wrong length; in LULL the transaction is discarded (R135). -/
def spiSubmit (e : Entry) (lengthOk : Bool) (s : State) : State :=
  if !answers s then s
  else if inFlight s 64 ≥ 15 then withSys (fun x => { x with spiNoRoom := satInc x.spiNoRoom }) s
  else if !lengthOk then withSys (fun x => { x with spiBadLen := satInc x.spiBadLen }) s
  else fetchEntry { e.hdr with qp := 64 } e.cmd 0 0 s
def execSpiSubmit (e : Entry) (lengthOk : Bool) (s : State) : Host.Outcome State Fault Refusal := .next (spiSubmit e lengthOk s)

/-- SPI_READ_REPLY (R135). -/
def spiReadReply (s : State) : State :=
  withSys (fun x => match x.spiReplies with
    | r :: t => { x with spiReplies := t, spiOut := 0xA5 :: r }
    | [] => { x with spiOut := [0] }) s
def execSpiReadReply (s : State) : Host.Outcome State Fault Refusal := .next (spiReadReply s)

/-- SPI_READ_STATUS: byte 0 reads 0x00 in LULL until RUN (R135). -/
def spiReadStatus (s : State) : State :=
  let b := if s.sys.devState = .lull then 0 else b2n (inFlight s 64 < 15) + 2 * b2n (s.sys.spiReplies ≠ [])
  withSys (fun x => { x with spiOut := le 1 b ++ le 4 (sysStateWord s) }) s
def execSpiReadStatus (s : State) : Host.Outcome State Fault Refusal := .next (spiReadStatus s)

/-- MGMT_VLAN_FRAME: on a port of the mask with MACsec and verified, its entries are executed, or its stored replies sent
again where its sequence number is one of the sender's last 16; any other such frame raises EV_MGMT_REJECT (R136). -/
def mgmtVlanFrame (port mac vlan : Nat) (verified : Bool) (seq : Nat) (entries : List Entry) (s : State) : State :=
  if s.sys.devState ≠ .run || !s.sys.mgmtEnable || !bit s.sys.mgmtPorts port || vlan ≠ s.sys.mgmtVlan then s
  else if !(ethOf s port).macsec || !verified || entries.length = 0 || 16 < entries.length then raise 0x12F s
  else
    let p := (s.sys.mgmtPeers.find? (·.mac = mac)).getD { mac := mac }
    if p.seqs.contains seq then
      withSys (fun x => { x with mgmtReplies := x.mgmtReplies ++ (p.replies.filter (·.1 = seq)).map (·.2) }) s
    else
      let seqs := (seq :: p.seqs).take 16
      let p := { p with seqs := seqs, port := port, replies := p.replies.filter (fun r => seqs.contains r.1) }
      let s := withSys (fun x => { x with mgmtPeers := x.mgmtPeers.filter (·.mac ≠ mac) ++ [p] }) s
      entries.foldl (fun s e => fetchEntry { e.hdr with qp := 65 } e.cmd mac seq s) s
def execMgmtVlanFrame (port mac vlan : Nat) (verified : Bool) (seq : Nat) (entries : List Entry) (s : State) :
    Host.Outcome State Fault Refusal := .next (mgmtVlanFrame port mac vlan verified seq entries s)

end Sys2Proof.Machine
end

