-- ==== Sys2Proof/Machine/Crypto.lean ====
section
/-!
DEFINITION. The computations of the engines: CRC, SHA-256, HMAC, the key derivation of R369, AES, CCM*, GCM, XTS and RSASSA-PSS.
The algorithms are those of the standards the spec names (R3); log entry 11.
-/
namespace Sys2Proof.Machine

/-- l cut into pieces of n. -/
def chunk {α : Type} (n : Nat) (l : List α) : List (List α) :=
  (List.range (cdiv l.length (max n 1))).map (fun i => (l.drop (n * i)).take n)

/-- Bytewise XOR. -/
def xorB (a b : List Byte) : List Byte := List.zipWith (· ^^^ ·) a b

/-! Check values (R418, R566). -/

/-- The w low bits of n reversed. -/
def revBits (w n : Nat) : Nat := ((List.range w).map (fun i => if n.testBit i then 2 ^ (w - 1 - i) else 0)).sum

/-- Width, reflected polynomial, default init and final XOR of a POLY (R418). -/
def crcWidth (poly : Nat) : Nat := if poly = 0 then 16 else 32
def crcPoly (poly : Nat) : Nat := if poly = 0 then 0x8408 else if poly = 1 then 0xEDB88320 else 0x82F63B78
def crcInit (poly : Nat) : Nat := if poly = 0 then 0 else 0xFFFFFFFF
def crcXor (poly : Nat) : Nat := if poly = 0 then 0 else 0xFFFFFFFF

/-- One bit, and one byte, of the LSB-first working register. -/
def crcBit (p r : Nat) : Nat := if r % 2 = 1 then (r / 2) ^^^ p else r / 2
def crcByte (p r : Nat) (b : Byte) : Nat := (List.range 8).foldl (fun r _ => crcBit p r) (r ^^^ b.toNat)

/-- The working register an init gives (R566). -/
def crcStart (poly init : Nat) : Nat := revBits (crcWidth poly) init

/-- The working register after bytes, and the final value (R418, R566). -/
def crcRun (poly r : Nat) (l : List Byte) : Nat := l.foldl (crcByte (crcPoly poly)) r
def crcEnd (poly r : Nat) : Nat := r ^^^ crcXor poly

/-- CRC of bytes under an init, and CRC-32C. -/
def crcOf (poly init : Nat) (l : List Byte) : Nat := crcEnd poly (crcRun poly (crcStart poly init) l)
def crc32c (l : List Byte) : Nat := crcOf 2 (crcInit 2) l

/-! SHA-256 (FIPS 180-4), HMAC and the key derivation of R369. -/

abbrev W32 := BitVec 32

def shaK : List W32 :=
  [0x428a2f98, 0x71374491, 0xb5c0fbcf, 0xe9b5dba5, 0x3956c25b, 0x59f111f1, 0x923f82a4, 0xab1c5ed5] ++
  [0xd807aa98, 0x12835b01, 0x243185be, 0x550c7dc3, 0x72be5d74, 0x80deb1fe, 0x9bdc06a7, 0xc19bf174] ++
  [0xe49b69c1, 0xefbe4786, 0x0fc19dc6, 0x240ca1cc, 0x2de92c6f, 0x4a7484aa, 0x5cb0a9dc, 0x76f988da] ++
  [0x983e5152, 0xa831c66d, 0xb00327c8, 0xbf597fc7, 0xc6e00bf3, 0xd5a79147, 0x06ca6351, 0x14292967] ++
  [0x27b70a85, 0x2e1b2138, 0x4d2c6dfc, 0x53380d13, 0x650a7354, 0x766a0abb, 0x81c2c92e, 0x92722c85] ++
  [0xa2bfe8a1, 0xa81a664b, 0xc24b8b70, 0xc76c51a3, 0xd192e819, 0xd6990624, 0xf40e3585, 0x106aa070] ++
  [0x19a4c116, 0x1e376c08, 0x2748774c, 0x34b0bcb5, 0x391c0cb3, 0x4ed8aa4a, 0x5b9cca4f, 0x682e6ff3] ++
  [0x748f82ee, 0x78a5636f, 0x84c87814, 0x8cc70208, 0x90befffa, 0xa4506ceb, 0xbef9a3f7, 0xc67178f2]

def shaH0 : List W32 := [0x6a09e667, 0xbb67ae85, 0x3c6ef372, 0xa54ff53a, 0x510e527f, 0x9b05688c, 0x1f83d9ab, 0x5be0cd19]

def ror (x : W32) (n : Nat) : W32 := x.rotateRight n

/-- The message schedule, newest word first. -/
def shaSchedule (block : List Byte) : List W32 :=
  let w0 := ((chunk 4 block).map (fun b => BitVec.ofNat 32 (ofBe b))).reverse
  ((List.range 48).foldl (fun w _ =>
    let x := nth 0 w 14
    let y := nth 0 w 1
    let s0 := ror x 7 ^^^ ror x 18 ^^^ (x >>> 3)
    let s1 := ror y 17 ^^^ ror y 19 ^^^ (y >>> 10)
    (nth 0 w 15 + s0 + nth 0 w 6 + s1) :: w) w0).reverse

def shaRound (h : List W32) (kw : W32 × W32) : List W32 :=
  match h with
  | [a, b, c, d, e, f, g, x] =>
    let t1 := x + (ror e 6 ^^^ ror e 11 ^^^ ror e 25) + ((e &&& f) ^^^ (~~~e &&& g)) + kw.1 + kw.2
    let t2 := (ror a 2 ^^^ ror a 13 ^^^ ror a 22) + ((a &&& b) ^^^ (a &&& c) ^^^ (b &&& c))
    [t1 + t2, a, b, c, d + t1, e, f, g]
  | _ => h

def shaBlock (h : List W32) (block : List Byte) : List W32 :=
  List.zipWith (· + ·) h ((shaK.zip (shaSchedule block)).foldl shaRound h)

/-- SHA-256 of a message. -/
def sha256 (m : List Byte) : List Byte :=
  let p := m ++ [0x80] ++ zeros ((119 - m.length % 64) % 64) ++ be 8 (8 * m.length)
  ((chunk 64 p).foldl shaBlock shaH0).flatMap (fun w => be 4 w.toNat)

/-- HMAC-SHA-256. -/
def hmac (key m : List Byte) : List Byte :=
  let k := fit 64 (if 64 < key.length then sha256 key else key)
  sha256 (k.map (· ^^^ 0x5c) ++ sha256 (k.map (· ^^^ 0x36) ++ m))

/-- ASCII bytes of a label. -/
def ascii (s : String) : List Byte := s.toList.map (fun c => BitVec.ofNat 8 c.toNat)

/-- KDF of R369: SP 800-108 in counter mode with HMAC-SHA-256, n bytes of output. -/
def kdf (key label ctx : List Byte) (n : Nat) : List Byte :=
  fit n ((List.range (cdiv n 32)).flatMap (fun i => hmac key (be 4 (i + 1) ++ label ++ [0] ++ ctx ++ be 4 (8 * n))))

/-! AES (FIPS 197). -/

def xtime (b : Byte) : Byte := (b <<< 1) ^^^ (if b.getLsbD 7 then 0x1b else 0)

def gmul (a b : Byte) : Byte :=
  ((List.range 8).foldl (fun (s : Byte × Byte) i => (if b.getLsbD i then s.1 ^^^ s.2 else s.1, xtime s.2)) (0, a)).1

def gpow (a : Byte) (n : Nat) : Byte := (List.range n).foldl (fun r _ => gmul r a) 1

def sboxOf (b : Byte) : Byte :=
  let x := gpow b 254
  x ^^^ x.rotateLeft 1 ^^^ x.rotateLeft 2 ^^^ x.rotateLeft 3 ^^^ x.rotateLeft 4 ^^^ 0x63

def sboxTab : List Byte := (List.range 256).map (fun i => sboxOf (BitVec.ofNat 8 i))
def sbox (b : Byte) : Byte := nth 0 sboxTab b.toNat
def invSboxTab : List Byte := (List.range 256).map (fun i => BitVec.ofNat 8 (sboxTab.idxOf (BitVec.ofNat 8 i)))
def invSbox (b : Byte) : Byte := nth 0 invSboxTab b.toNat

def rcon (i : Nat) : Byte := (List.range (i - 1)).foldl (fun r _ => xtime r) 1

/-- The round keys, as 4-byte words, for a key of 16 or 32 bytes. -/
def aesSchedule (key : List Byte) : List (List Byte) :=
  let nk := key.length / 4
  let total := 4 * (nk + 7)
  (List.range (total - nk)).foldl (fun w j =>
    let i := nk + j
    let t := nth [] w (i - 1)
    let t := if i % nk = 0 then xorB ((t.drop 1 ++ t.take 1).map sbox) [rcon (i / nk), 0, 0, 0]
      else if 6 < nk && i % nk = 4 then t.map sbox else t
    w ++ [xorB (nth [] w (i - nk)) t]) (chunk 4 key)

def roundKey (w : List (List Byte)) (r : Nat) : List Byte := ((w.drop (4 * r)).take 4).flatten

def shiftRows (s : List Byte) : List Byte := (List.range 16).map (fun i => nth 0 s ((i + 4 * (i % 4)) % 16))
def invShiftRows (s : List Byte) : List Byte := (List.range 16).map (fun i => nth 0 s ((i + 16 - 4 * (i % 4)) % 16))

def mixCol (m : List Byte) (c : List Byte) : List Byte :=
  (List.range 4).map (fun r => (List.range 4).foldl (fun x j => x ^^^ gmul (nth 0 m ((j + 4 - r) % 4)) (nth 0 c j)) 0)
def mixColumns (s : List Byte) : List Byte := (chunk 4 s).flatMap (mixCol [2, 3, 1, 1])
def invMixColumns (s : List Byte) : List Byte := (chunk 4 s).flatMap (mixCol [14, 11, 13, 9])

/-- AES encryption and decryption of one block. -/
def aesEnc (key blk : List Byte) : List Byte :=
  let w := aesSchedule key
  let nr := key.length / 4 + 6
  let s := (List.range (nr - 1)).foldl (fun s r => xorB (mixColumns (shiftRows (s.map sbox))) (roundKey w (r + 1))) (xorB blk (roundKey w 0))
  xorB (shiftRows (s.map sbox)) (roundKey w nr)
def aesDec (key blk : List Byte) : List Byte :=
  let w := aesSchedule key
  let nr := key.length / 4 + 6
  let s := (List.range (nr - 1)).foldl (fun s r => invMixColumns (xorB ((invShiftRows s).map invSbox) (roundKey w (nr - 1 - r))))
    (xorB blk (roundKey w nr))
  xorB ((invShiftRows s).map invSbox) (roundKey w 0)

/-! CCM* (R399). -/

/-- MIC length of a security level (R399). -/
def micLen (level : Nat) : Nat := if level % 4 = 0 then 0 else 2 ^ (level % 4 + 1)

/-- l padded with zeros to a multiple of 16 bytes. -/
def pad16 (l : List Byte) : List Byte := l ++ zeros ((16 - l.length % 16) % 16)

/-- The nonce of R399. -/
def ccmNonce (src counter level : Nat) : List Byte := be 8 src ++ be 4 counter ++ be 1 level

def ccmStream (key nonce : List Byte) (i : Nat) : List Byte := aesEnc key (([1] : List Byte) ++ nonce ++ be 2 i)
def ccmCtr (key nonce m : List Byte) : List Byte :=
  ((chunk 16 m).zipIdx.flatMap (fun b => xorB b.1 (ccmStream key nonce (b.2 + 1))))
def ccmMac (key nonce aad m : List Byte) (mic : Nat) : List Byte :=
  let flags := (if aad = [] then 0 else 64) + 8 * ((mic - 2) / 2) + 1
  let b := be 1 flags ++ nonce ++ be 2 m.length ++ (if aad = [] then [] else pad16 (be 2 aad.length ++ aad)) ++ pad16 m
  (chunk 16 b).foldl (fun x blk => aesEnc key (xorB x blk)) (zeros 16)

/-- Payload and MIC of a frame secured at a level (R399): levels 1-3 authenticate the payload with the header. -/
def ccmSeal (key : List Byte) (src counter level : Nat) (hdr payload : List Byte) : List Byte × List Byte :=
  let n := ccmNonce src counter level
  let t := fun (aad m : List Byte) => (xorB (ccmMac key n aad m (micLen level)) (ccmStream key n 0)).take (micLen level)
  if level % 8 = 0 then (payload, [])
  else if level < 4 then (payload, t (hdr ++ payload) [])
  else (ccmCtr key n payload, t hdr payload)

/-- The plaintext of a received frame, none where its MIC fails (R399). -/
def ccmOpen (key : List Byte) (src counter level : Nat) (hdr payload mic : List Byte) : Option (List Byte) :=
  let n := ccmNonce src counter level
  let plain := if level < 4 then payload else ccmCtr key n payload
  if (ccmSeal key src counter level hdr plain).2 = mic then some plain else none

/-! GCM (SP 800-38D). -/

/-- Multiplication in GF(2^128), bit 0 of the field the most significant. -/
def gf128 (x y : Nat) : Nat :=
  ((List.range 128).foldl (fun (s : Nat × Nat) i =>
    (if x.testBit (127 - i) then s.1 ^^^ s.2 else s.1, if s.2 % 2 = 1 then (s.2 / 2) ^^^ (0xE1 * 2 ^ 120) else s.2 / 2)) (0, y)).1

def ghash (h : Nat) (l : List Byte) : Nat := (chunk 16 l).foldl (fun x b => gf128 (x ^^^ ofBe b) h) 0
def gcmCtr (key iv m : List Byte) : List Byte :=
  ((chunk 16 m).zipIdx.flatMap (fun b => xorB b.1 (aesEnc key (iv ++ be 4 (b.2 + 2)))))
def gcmTag (key iv aad c : List Byte) : List Byte :=
  let h := ofBe (aesEnc key (zeros 16))
  xorB (be 16 (ghash h (pad16 aad ++ pad16 c ++ be 8 (8 * aad.length) ++ be 8 (8 * c.length)))) (aesEnc key (iv ++ be 4 1))

/-- Ciphertext and tag under a 12-byte IV. -/
def gcmSeal (key iv aad m : List Byte) : List Byte × List Byte := let c := gcmCtr key iv m; (c, gcmTag key iv aad c)

/-- Plaintext, none where the tag fails. -/
def gcmOpen (key iv aad c tag : List Byte) : Option (List Byte) := if gcmTag key iv aad c = tag then some (gcmCtr key iv c) else none

/-! XTS-AES-128 (R403): data key then tweak key; the tweak is a 128-bit little-endian value. -/

def xtsDouble (t : Nat) : Nat := if t.testBit 127 then (2 * t % 2 ^ 128) ^^^ 0x87 else 2 * t
def xtsBlocks (f : List Byte → List Byte) (t : Nat) (m : List Byte) : List Byte :=
  ((chunk 16 m).foldl (fun (s : List Byte × Nat) b => (s.1 ++ xorB (f (xorB b (le 16 s.2))) (le 16 s.2), xtsDouble s.2)) ([], t)).1
def xtsUnit (key : List Byte) (dec : Bool) (tweak : Nat) (m : List Byte) : List Byte :=
  xtsBlocks (if dec then aesDec (key.take 16) else aesEnc (key.take 16)) (ofLe (aesEnc (key.drop 16) (le 16 tweak))) m

/-- Data units of a length, with rising tweaks (R403, R425). -/
def xtsRun (key : List Byte) (dec : Bool) (tweak unit : Nat) (m : List Byte) : List Byte :=
  (chunk unit m).zipIdx.flatMap (fun u => xtsUnit key dec (tweak + u.2) u.1)

/-! RSASSA-PSS with a 3,072-bit modulus, SHA-256 and a 32-byte salt (R407). -/

def powMod (b e n : Nat) : Nat :=
  (List.range 3072).foldr (fun i r => let q := r * r % n; if e.testBit i then q * b % n else q) (1 % n)
def mgf1 (seed : List Byte) (k : Nat) : List Byte := fit k ((List.range (cdiv k 32)).flatMap (fun i => sha256 (seed ++ be 4 i)))
def pssHash (digest salt : List Byte) : List Byte := sha256 (zeros 8 ++ digest ++ salt)
def clearTop (l : List Byte) : List Byte := match l with | b :: t => (b &&& 0x7f) :: t | [] => []

/-- The encoded message of a digest under a salt. -/
def pssEncode (digest salt : List Byte) : List Byte :=
  let h := pssHash digest salt
  clearTop (xorB (zeros 318 ++ [1] ++ salt) (mgf1 h 351)) ++ h ++ [0xbc]

/-- An encoded message fits a digest. -/
def pssCheck (digest em : List Byte) : Bool :=
  let h := (em.drop 351).take 32
  let db := clearTop (xorB (em.take 351) (mgf1 h 351))
  em.length = 384 && em.drop 383 = [0xbc] && (match em with | b :: _ => !b.getLsbD 7 | [] => false) &&
    db.take 319 = zeros 318 ++ [1] && pssHash digest (db.drop 319) = h

/-- Signature and its verification. -/
def rsaSign (modulus : List Byte) (d : Nat) (digest salt : List Byte) : List Byte :=
  be 384 (powMod (ofBe (pssEncode digest salt)) d (ofBe modulus))
def rsaVerify (modulus : List Byte) (e : Nat) (digest sig : List Byte) : Bool :=
  ofBe sig < ofBe modulus && pssCheck digest (be 384 (powMod (ofBe sig) e (ofBe modulus)))

end Sys2Proof.Machine
end

