-- ==== Sys2Proof/Machine/Keys.lean ====
section
/-!
DEFINITION. The security island: slots, generations, references, uses, nonces, wrapped records, and the KEY commands.
-/
namespace Sys2Proof.Machine

/-- Generation after g (R371). -/
def nextGen (g : Nat) : Nat := if g = 0xFFFF then 1 else g + 1

/-- Key bytes of a type (R371, R376). -/
def keyLen (ktype : Nat) : Nat := if ktype = 0 then 16 else 32

/-- The types each engine bit allows (R372). -/
def bitAllows (b ktype : Nat) : Bool :=
  if b = 0 then ktype = 0 else if b = 1 || b = 2 || b = 7 then ktype = 1 else if b = 3 then ktype = 3
  else if b = 4 then ktype = 1 || ktype = 2 else if b = 5 then ktype = 2 else ktype = 4

/-- TYPE and ENGINES of a host slot fit R372. -/
def engineFits (ktype engines : Nat) : Bool :=
  ktype < 4 && engines < 256 && !bit engines 6 && (List.range 8).all (fun b => !bit engines b || bitAllows b ktype)

/-- Slot 0x003 or a host slot (R370). -/
def hostSlot (n : Nat) : Bool := n = 3 || (0x10 ≤ n && n < 0x1000)

/-- The check value of a key (R377). -/
def keyCheck (m : KeyMat) : Nat :=
  ofLe ((if m.ktype = 2 then hmac m.key (zeros 16) else aesEnc (if m.ktype = 3 then m.key.take 16 else m.key) (zeros 16)).take 4)

/-- One of the events 0x0D0-0x0D7 for a slot (R394, R395). -/
def keyEvent (n slot : Nat) (s : State) : State := raise (0xD0 + n) (withSec (fun b => { b with lastEvent := slot + 4096 * n }) s)

/-- A change of a slot that the active's next delta record carries (R386). -/
def noteKey (slot : Nat) (s : State) : State :=
  if s.twin.configured && gateHeld s then
    withTwin (fun t => { t with pendingDelta := { t.pendingDelta with
      keys := if t.pendingDelta.keys.any (·.slot = slot) then t.pendingDelta.keys else t.pendingDelta.keys ++ [{ slot := slot }] } }) s
  else s

/-! Nonces (R409-R413). -/

/-- The journal key and a key's fingerprint (R410). -/
def journalKey (s : State) : List Byte := kdf s.sec.root (ascii "ZB-NONCE") (fit 8 Config.serial) 32
def fingerprint (s : State) (m : KeyMat) : List Byte := (hmac (journalKey s) m.key).take 8

/-- A slot draws hardware nonces: NONCE_MODE 1 or GCM_LNK (R411). -/
def drawsNonces (m : KeyMat) : Bool := m.nonceMode = 1 || bit m.engines 1

/-- NC of a key that takes a generation, and the entry it starts writing (R411). -/
def startNonce (s : State) (m : KeyMat) : KeyMat :=
  if drawsNonces m then
    let nc := match s.flash.nonce.find? (·.fp = fingerprint s m) with
      | some e => max (e.h + 2 ^ 20) s.flash.nonceFloor
      | none => s.flash.nonceFloor
    { m with nc := nc, hDurable := none, hWriting := some nc, writeFails := 0, copiedNc := nc }
  else m

/-- The draw limits of a twin hold: it is the active, and the standby has acknowledged a delta record (R413, R473). -/
def twinLimits (s : State) : Bool := bit s.sys.strap 3 && s.twin.configured && gateHeld s && s.twin.lastAcked ≠ 0

/-- The value v may be drawn: below H_durable + 2^20 and, on a twin, within 65,535 of the NC the standby acknowledged
(R411, R413). -/
def nonceReady (s : State) (m : KeyMat) : Bool :=
  (match m.hDurable with | some h => m.nc < h + 2 ^ 20 | none => false) &&
    (!twinLimits s || m.nc < m.copiedNc + 65535)

/-- On a twin's active a CCM_AIR or GCM_LNK slot draws at most 65,535 values beyond the USAGE_COUNT the standby acknowledged (R473). -/
def drawReady (s : State) (slot : Nat) : Bool :=
  let m := (slotOf s slot).mat
  !twinLimits s || !(bit m.engines 0 || bit m.engines 1) || m.usageCount < m.copiedUse + 65535

/-- One draw of NC (R409, R411). -/
def drawNonce (m : KeyMat) : KeyMat :=
  let nc := m.nc + 1
  { m with nc := nc, hWriting := if (nc + 2 ^ 19) % 2 ^ 20 = 0 then some (nc + 2 ^ 19) else m.hWriting }

/-- The nonce journal with an entry of h for a fingerprint; a new fingerprint beyond 8,192 evicts the oldest (R412). -/
def journalPut (fp : List Byte) (h : Nat) (s : State) : State :=
  let known := s.flash.nonce.any (·.fp = fp)
  let s := if !known && 8192 ≤ s.flash.nonce.length then
      match s.flash.nonce with
      | [] => s
      | e :: l =>
        let old := l.foldl (fun a b => if b.seq < a.seq then b else a) e
        raise 0xE2 (cryCnt 8 (withFlash (fun f => { f with
          nonceFloor := max f.nonceFloor (old.h + 2 ^ 20), nonce := f.nonce.filter (·.fp ≠ old.fp),
          nonceSeq := f.nonceSeq + 1, nonceLog := f.nonceLog + 1 }) s))
    else s
  let s := cryCnt 6 (withFlash (fun f => { f with
    nonceSeq := f.nonceSeq + 1, nonceLog := f.nonceLog + 1,
    nonce := f.nonce.filter (·.fp ≠ fp) ++ [{ fp := fp, h := h, seq := f.nonceSeq + 1 }] }) s)
  if 49152 ≤ s.flash.nonceLog then withCry (fun c => { c with compacting := true }) s else s

/-! Generations (R379-R382). -/

/-- Slots whose PARENT is p and which are LIVE or EXHAUSTED, all of them or those whose PARENT_GEN is not g. -/
def childrenOf (s : State) (p : Nat) (g : Option Nat) : List Nat :=
  (s.sec.slots.filter (fun e => (e.2.state = 1 || e.2.state = 3) && (match e.2.mat.parent with
    | some (q, pg) => q = p && (match g with | some g => pg ≠ g | none => true)
    | none => false))).map (·.1)

/-- The children of p become ORPHANED, and their children in turn (R382). -/
def orphan : Nat → Nat → Option Nat → State → State × Nat
  | 0, _, _, s => (s, 0)
  | k + 1, p, g, s =>
    (childrenOf s p g).foldl (fun (a : State × Nat) c =>
      let r := orphan k c none (noteKey c (withKey c (fun x => { x with state := 2 }) a.1))
      (r.1, a.2 + 1 + r.2)) (s, 0)

/-- The orphaning a change of p causes, with EV_KEY_ORPHANED once (R382). -/
def orphanBy (p : Nat) (g : Option Nat) (s : State) : State × Nat :=
  let r := orphan 4 p g s
  if r.2 = 0 then r else (keyEvent 5 p r.1, r.2)

/-- The overlap of the slot's retiring generation runs (R385). -/
def overlapRuns (s : State) (k : KeySlotSt) : Bool := match k.overlapEnds with | some t => rawNs s < t | none => false

/-- A new generation of a slot: the former one retires while references or an overlap hold it (R379, R385). -/
def takeGen (slot : Nat) (m : KeyMat) (overlapMs : Nat) (s : State) : State :=
  let m := startNonce s { m with nonceFixed := ofBe (randomBytes s 4), copiedUse := m.usageCount }
  let s := tick1 s
  let ends := if bit m.engines 0 && overlapMs ≠ 0 then some (rawNs s + overlapMs * 1000000) else none
  let s := withKey slot (fun k => { k with
    state := 1, gen := nextGen k.gen, mat := m, staged := none, overlapEnds := ends,
    retiring := if (k.state = 1 || k.state = 2 || k.state = 3) && (k.refs ≠ 0 || ends.isSome) then some (k.gen, k.mat) else none,
    oldRefs := k.refs, refs := 0, waitNext := none }) s
  (orphanBy slot (some (slotOf s slot).gen) (noteKey slot s)).1

/-- The messages and transmissions that hold a reference on a generation end without output (R379, R380, R398). -/
def abortMessages (slot gen : Nat) (s : State) : State :=
  let s := withCry (fun c => { c with msgs := c.msgs.map (fun e => (e.1, e.2.filter (fun m => !(m.slot = slot && m.gen = gen)))) }) s
  withRfc (fun r => { r with chains := r.chains.map (fun e => (e.1, { e.2 with txs := e.2.txs.map (fun t =>
    if t.keyRef = some (slot, gen) then { t with keyRef := none } else t) })) }) s

/-- The operations that still hold the retiring generation abort (R379). -/
def abortRetiring (slot : Nat) (s : State) : State :=
  let k := slotOf s slot
  match k.retiring with
  | none => s
  | some (g, _) =>
    if k.oldRefs = 0 then withKey slot (fun k => { k with retiring := none, overlapEnds := none }) s
    else
      keyEvent 7 slot (secCnt 6 (abortMessages slot g (withKey slot (fun k => { k with retiring := none, oldRefs := 0, overlapEnds := none }) s)))

/-- The reply data of the command whose generation this is: KEY_COMMIT GEN; KEY_IMPORT and KEY_DERIVE also the check value
and the record (R396). -/
def genReply (s : State) (who : Option (Nat × Nat)) (slot : Nat) : List Byte :=
  let k := slotOf s slot
  let commit := match who with
    | some (qp, tag) => s.hif.flights.any (fun f => isTag qp tag f && (match f.cmd with | some (.keyCommit _) => true | _ => false))
    | none => false
  if commit then le 2 k.gen else le 2 k.gen ++ le 4 (keyCheck k.mat) ++ le 4 (k.mat.record.getD 0xFFFFFFFF)

/-- The generation that waited for the retiring one is made, and its reply released (R379). -/
def installWaiting (slot : Nat) (s : State) : State :=
  let k := slotOf s slot
  match k.waitNext with
  | none => s
  | some n =>
    let who := k.waiter
    let s := takeGen slot n.mat n.overlapMs (withKey slot (fun k => { k with waiter := none }) s)
    finishWait who stOk (genReply s who slot) s

/-- A command makes a new generation: at once, or after the retiring one that still holds references (R379). -/
def makeGen (h : Hdr) (slot : Nat) (m : KeyMat) (overlapMs : Nat) (s : State) : Res :=
  if (slotOf s slot).retiring.isSome && (slotOf s slot).oldRefs ≠ 0 then
    { st := withKey slot (fun k => { k with waitNext := some { mat := m, overlapMs := overlapMs }, waiter := some (h.qp, h.tag) }) s, wait := true }
  else
    let s := takeGen slot m overlapMs s
    done s (le 2 (slotOf s slot).gen ++ le 4 (keyCheck m) ++ le 4 (m.record.getD 0xFFFFFFFF))

/-! Requests and uses (R373, R383, R384). -/

/-- What a request for a key comes to. -/
structure KeyUse where
  st : State
  status : Nat := stOk
  mat : KeyMat := {}
  gen : Nat := 0
  counter : Nat := 0

/-- A refused request: counted, and EV_KEY_DENIED for an engine not named (R373, R394). -/
def keyRefuse (slot status : Nat) (s : State) : KeyUse :=
  let s := if status = stKeyDenied then keyEvent 4 slot (secCnt 1 s) else if status = stKeyGone then secCnt 2 s
    else if status = stKeyOrphan then secCnt 3 s else if status = stKeyExhausted then secCnt 4 s else s
  { st := s, status := status }

/-- A request that is no use: decryption, verification or unwrapping (R373, R383). -/
def requestKey (slot bitNo : Nat) (s : State) : KeyUse :=
  let st := keyStatus s slot bitNo
  if st ≠ stOk then keyRefuse slot st s
  else { st := secCnt 0 s, mat := (slotOf s slot).mat, gen := (slotOf s slot).gen }

/-- A use within the limit: draws USAGE_COUNT, with the warning and the checkpoint (R383, R384). -/
def drawUse (slot : Nat) (s : State) : KeyUse :=
  let m := (slotOf s slot).mat
  let s := secCnt 0 (withKey slot (fun k => { k with mat := { k.mat with usageCount := m.usageCount + 1 } }) s)
  let s := if m.usageCount + m.warnMargin = m.usageLimit then keyEvent 0 slot s else s
  let s := if (bit m.engines 0 || bit m.engines 1) && (m.usageCount + 1) % 2 ^ 20 = 0 then keyEvent 3 slot s else s
  { st := s, mat := m, gen := (slotOf s slot).gen, counter := m.usageCount }

/-- A use that finds USAGE_COUNT at the limit commits a VERIFIED successor first (R383). -/
def commitAtLimit (slot : Nat) (s : State) : State :=
  let k := slotOf s slot
  if k.state ≠ 1 || k.mat.usageCount < k.mat.usageLimit then s
  else match k.staged.filter (·.verified) with
    | some n => keyEvent 2 slot (secCnt 5 (takeGen slot n.mat n.overlapMs (abortRetiring slot s)))
    | none => s

/-- A use of a key: the first row of R373 that applies, and at the limit the automatic commit or exhaustion of R383. -/
def useKey (slot bitNo : Nat) (s : State) : KeyUse :=
  let st := keyStatus s slot bitNo
  if st ≠ stOk then keyRefuse slot st s
  else
    let s := commitAtLimit slot s
    let k := slotOf s slot
    if k.mat.usageCount < k.mat.usageLimit then
      if bit k.mat.engines bitNo then drawUse slot s else keyRefuse slot stKeyDenied s
    else keyRefuse slot stKeyExhausted (keyEvent 1 slot (noteKey slot (withKey slot (fun k => { k with state := 3 }) s)))

/-- An engine's reference on the current generation (R373, R398). -/
def holdKey (slot : Nat) (s : State) : State := withKey slot (fun k => { k with refs := k.refs + 1 }) s

/-! The end of a slot (R380, R381). -/

/-- The slots of a store-wide command that still settle. -/
def unsettled (s : State) (who : Nat × Nat) : Bool := s.sec.slots.any (fun e => e.2.waiter = some who && e.2.state = 4)

/-- The reply of an erase or of a store-wide invalidation once every slot it touches has settled (R380, R381). -/
def settleErase (who : Option (Nat × Nat)) (s : State) : State :=
  match who with
  | none => s
  | some w =>
    if unsettled s w then s
    else
      let n := ((s.sec.slots.filter (fun e => e.2.waiter = some w)).map (·.2.aborted)).sum
      let s := withSec (fun b => { b with slots := b.slots.map (fun e =>
        if e.2.waiter = some w then (e.1, { e.2 with waiter := none, aborted := 0 }) else e) }) s
      if s.hif.flights.any (fun f => isTag w.1 w.2 f && (match f.cmd with | some (.keyErase _) => true | _ => false)) then
        finishWait (some w) stOk (le 2 (sat16 n)) s
      else finishStored (some w) s

/-- The slot's material is zeroised and it becomes EMPTY, keeping GEN (R380, R381). -/
def emptySlot (slot : Nat) (s : State) : State :=
  noteKey slot (withKey slot (fun k => { gen := k.gen, waiter := k.waiter, aborted := k.aborted }) s)

/-- Becomes EMPTY once nothing holds it, releasing the reply that waits. -/
def tryEmpty (slot : Nat) (s : State) : State :=
  let k := slotOf s slot
  if k.state = 4 && k.refs = 0 && k.oldRefs = 0 then settleErase k.waiter (emptySlot slot s) else s

/-- A slot becomes ERASING, with its children orphaned: their number (R380-R382). -/
def startErase (slot : Nat) (erase : Bool) (who : Option (Nat × Nat)) (s : State) : State × Nat :=
  let s := noteKey slot (withKey slot (fun k => { k with state := 4, erasing := erase, waiter := who, aborted := 0, waitNext := none, staged := none }) s)
  orphanBy slot none s

/-! Wrapped records (R374, R375). -/

/-- The record wrap key (R369). -/
def recordKey (s : State) : List Byte := kdf s.sec.root (ascii "ZB-WRAP") s.aon.salt 32

/-- A wrapped record of a key, its GCM nonce drawn from the random source (R374). -/
def wrapKey (wkey : List Byte) (binding : Nat) (m : KeyMat) (s : State) : State × List Byte :=
  let hd := be 1 (m.ktype + 8 * m.nonceMode) ++ be 1 m.engines ++ zeros 2
  let iv := randomBytes s 12
  let r := gcmSeal wkey iv (hd ++ le 4 binding) (fit 32 m.key)
  (tick1 s, hd ++ iv ++ r.1 ++ r.2)

/-- The key of a wrapped record, none where it fails authentication or has non-zero padding (R374). -/
def unwrapKey (wkey : List Byte) (binding : Nat) (r : List Byte) : Option KeyMat :=
  let b0 := (nth 0 r 0).toNat
  match gcmOpen wkey ((r.drop 4).take 12) (r.take 4 ++ le 4 binding) ((r.drop 16).take 32) (r.drop 48) with
  | none => none
  | some k =>
    if r.length ≠ 64 || (b0 % 8 = 0 && k.drop 16 ≠ zeros 16) then none
    else some { ktype := b0 % 8, nonceMode := b0 / 8 % 2, engines := (nth 0 r 1).toNat, key := k.take (keyLen (b0 % 8)) }

/-- Record i of the store; a record never written is all zeros (R375). -/
def recordOf (s : State) (i : Nat) : List Byte := tget (zeros 64) s.sec.records i

/-! Where a key comes from (R376). -/

/-- The source of a new key: src 0 plaintext, 1 record, 2 blob, 3 derivation. -/
structure KeySrc where
  src : Nat := 0
  attr : KeyAttr := {}
  key : List Byte := []
  record : Nat := 0
  parent : Nat := 0
  blob : List Byte := []
  label : List Byte := []
  context : List Byte := []

/-- What obtaining the key comes to: a refusal, or the key with the state after its parent's use. -/
structure KeyGot where
  st : State
  status : Nat := stOk
  mat : KeyMat := {}

/-- Usage parameters that R376 refuses. -/
def usageBad (a : KeyAttr) : Bool := a.usageLimit ≤ a.usageStart || a.usageLimit ≤ a.warnMargin

/-- Host settings on a key (R371, R376, R379). -/
def settle2 (a : KeyAttr) (m : KeyMat) : KeyMat := { m with usageLimit := a.usageLimit, usageCount := a.usageStart, warnMargin := a.warnMargin }

/-- A key that fits the slot: host slots take R372, slot 0x003 exactly WRAP and GCM_LNK (R370). -/
def slotTakes (slot : Nat) (m : KeyMat) : Bool := engineFits m.ktype m.engines && (slot ≠ 3 || m.engines = 0x82)

/-- The rows of R376 after the first, in order. -/
def obtainKey (slot : Nat) (k : KeySrc) (s : State) : KeyGot :=
  let a := k.attr
  let fromHost : KeyMat := { ktype := a.ktype, engines := a.engines, nonceMode := a.nonceMode }
  let p := slotOf s k.parent
  if k.src = 0 then
    if s.sec.plainLocked then { st := s, status := stKeyDenied }
    else if k.key.length ≠ keyLen a.ktype || 1 < a.nonceMode || usageBad a || !slotTakes slot fromHost then { st := s, status := stBadParam }
    else { st := s, mat := settle2 a { fromHost with key := k.key } }
  else if k.src = 1 then
    if usageBad a || 262144 ≤ k.record then { st := s, status := stBadParam }
    else if recordOf s k.record = zeros 64 then { st := s, status := stKeyGone }
    else match unwrapKey (recordKey s) k.record (recordOf s k.record) with
      | none => { st := keyEvent 6 slot (secCnt 7 s), status := stAuthFail }
      | some m => if slotTakes slot m then { st := s, mat := settle2 a { m with record := some k.record } } else { st := s, status := stBadParam }
  else if k.src = 2 then
    if !bit p.mat.engines 7 then { st := (keyRefuse k.parent stKeyDenied s).st, status := stKeyDenied }
    else if p.state ≠ 1 then { st := (keyRefuse k.parent (keyStatus s k.parent 7) s).st, status := keyStatus s k.parent 7 }
    else if usageBad a || k.blob.length ≠ 64 then { st := s, status := stBadParam }
    else match unwrapKey p.mat.key 0xFFFFFFFF k.blob with
      | none => { st := secCnt 0 s, status := stAuthFail }
      | some m =>
        if slotTakes slot m then
          { st := secCnt 0 s, mat := settle2 a { m with parent := some (k.parent, p.gen), depth := p.mat.depth + 1 } }
        else { st := s, status := stBadParam }
  else
    if !bit p.mat.engines 4 then { st := (keyRefuse k.parent stKeyDenied s).st, status := stKeyDenied }
    else if p.state ≠ 1 then { st := (keyRefuse k.parent (keyStatus s k.parent 4) s).st, status := keyStatus s k.parent 4 }
    else if p.mat.depth = 3 || 1 < a.nonceMode || usageBad a || !slotTakes slot fromHost || k.label.length = 0 || 16 < k.label.length ||
        32 < k.context.length then { st := s, status := stBadParam }
    else
      let u := useKey k.parent 4 s
      if u.status ≠ stOk then { st := u.st, status := u.status }
      else
        { st := u.st, mat := settle2 a { fromHost with
            key := kdf u.mat.key k.label k.context (keyLen a.ktype), parent := some (k.parent, u.gen), depth := u.mat.depth + 1 } }

/-- The stored copy that store and out_addr ask for (R375). -/
def storeKey (store outAddr : Nat) (m : KeyMat) (s : State) : State × KeyMat :=
  if store = 0xFFFFFFFF then (s, m)
  else
    let r := wrapKey (recordKey s) store m s
    (toHost outAddr r.2 (withSec (fun b => { b with records := tput b.records store r.2 }) r.1), { m with record := some store })

/-- KEY_IMPORT and KEY_DERIVE (R376). -/
def importKey (h : Hdr) (k : KeySrc) (replace store outAddr : Nat) (s : State) : Res :=
  let slot := h.flow
  if !hostSlot slot || 1 < replace || (store ≠ 0xFFFFFFFF && 262144 ≤ store) || (slot = 3 && (k.src = 1 || k.src = 3)) then refuse s stBadParam
  else if (slotOf s slot).state ≠ 0 && replace = 0 then refuse s stDuplicate
  else if (slotOf s slot).state = 4 then refuse s stKeyGone
  else
    let g := obtainKey slot k s
    if g.status ≠ stOk then refuse g.st g.status
    else
      let r := storeKey store outAddr g.mat g.st
      makeGen h slot r.2 0 r.1

def keyImport (h : Hdr) (p : KeyImportP) (s : State) : Res :=
  if 2 < p.src then refuse s stBadParam
  else importKey h { src := p.src, attr := p.attr, key := p.key, record := p.record, parent := p.parent, blob := p.blob } p.replace p.store p.outAddr s
def execKeyImport (h : Hdr) (p : KeyImportP) (s : State) : Host.Outcome State Fault Refusal := agentRun h (.keyImport p) (keyImport h p) s

def keyDerive (h : Hdr) (p : KeyDeriveP) (s : State) : Res :=
  importKey h { src := 3, attr := p.attr, parent := p.parent, label := p.label, context := p.context } p.replace p.store p.outAddr s
def execKeyDerive (h : Hdr) (p : KeyDeriveP) (s : State) : Host.Outcome State Fault Refusal := agentRun h (.keyDerive p) (keyDerive h p) s

/-- KEY_STAGE (R378); a successor is stored as R375 has it for an import (store and out_addr of R396). -/
def keyStage (h : Hdr) (p : KeyStageP) (s : State) : Res :=
  let slot := h.flow
  let x := slotOf s slot
  if !hostSlot slot || 1 < p.replace || 3 < p.src || 1 < p.kcvPresent || 60000 < p.rxOverlapMs || (slot = 3 && (p.src = 1 || p.src = 3)) ||
      (p.store ≠ 0xFFFFFFFF && 262144 ≤ p.store) then
    refuse s stBadParam
  else if x.staged.isSome && p.replace = 0 then refuse s stBusy
  else if x.staged.isNone && 512 ≤ stagedCount s then refuse s stNoRoom
  else if x.state = 0 || x.state = 4 then refuse s stKeyGone
  else
    let g := obtainKey slot { src := p.src, attr := p.attr, key := p.key, record := p.record, parent := p.parent, blob := p.blob,
                              label := p.label, context := p.context } s
    if g.status ≠ stOk then refuse g.st g.status
    else if p.kcvPresent = 1 && keyCheck g.mat ≠ p.kcv then refuse g.st stCheckFail
    else
      let r := storeKey p.store p.outAddr g.mat g.st
      done (withKey slot (fun k => { k with staged := some {
        mat := r.2, kcv := if p.kcvPresent = 1 then some p.kcv else none, verified := p.kcvPresent = 1, overlapMs := p.rxOverlapMs } }) r.1)
        (le 1 p.kcvPresent)
def execKeyStage (h : Hdr) (p : KeyStageP) (s : State) : Host.Outcome State Fault Refusal := agentRun h (.keyStage p) (keyStage h p) s

/-- KEY_COMMIT (R379). -/
def keyCommit (h : Hdr) (p : KeyCommitP) (s : State) : Res :=
  if !hostSlot h.flow then refuse s stBadParam
  else match (slotOf s h.flow).staged with
    | none => refuse s stBadParam
    | some n =>
      if !n.verified && keyCheck n.mat ≠ p.kcv then refuse s stCheckFail
      else
        let r := makeGen h h.flow n.mat n.overlapMs s
        if r.wait then r else { r with data := le 2 (slotOf r.st h.flow).gen }
def execKeyCommit (h : Hdr) (p : KeyCommitP) (s : State) : Host.Outcome State Fault Refusal := agentRun h (.keyCommit p) (keyCommit h p) s

/-- Host slots and slot 0x003 that are not EMPTY, of the given set. -/
def heldSlots (s : State) (p : Nat → Bool) : List Nat :=
  (s.sec.slots.filter (fun e => hostSlot e.1 && e.2.state ≠ 0 && p e.1)).map (·.1)

/-- Slots that a store-wide invalidation touches: in use, and of the given set. -/
def usedSlots (s : State) (p : Nat → KeySlotSt → Bool) : List Nat :=
  (s.sec.slots.filter (fun e => hostSlot e.1 && e.2.state ≠ 0 && e.2.state ≠ 4 && p e.1 e.2)).map (·.1)

/-- The slots become ERASING under one waiter, and those nothing holds EMPTY at once. -/
def eraseAll (slots : List Nat) (erase : Bool) (who : Option (Nat × Nat)) (s : State) : State × Nat :=
  let r := slots.foldl (fun (a : State × Nat) n => let x := startErase n erase who a.1; (x.1, a.2 + x.2)) (s, 0)
  (slots.foldl (fun s n => let k := slotOf s n; if k.refs = 0 && k.oldRefs = 0 then emptySlot n s else s) r.1, r.2)

/-- KEY_ERASE (R380). A slot that KEY_INVALIDATE left ERASING is erased too; one whose end another command waits for is left to
end within its 20 us, and the erase is taken up again after it. -/
def keyErase (h : Hdr) (_ : KeyEraseP) (s : State) : Res :=
  if h.flow ≠ 0xF000 && !hostSlot h.flow then refuse s stBadParam
  else
    let slots := heldSlots s (fun n => h.flow = 0xF000 || n = h.flow)
    let w := (h.qp, h.tag)
    if slots.any (fun n => (slotOf s n).waiter.isSome && (slotOf s n).state = 4) then
      { st := slots.foldl (fun s n => withKey n (fun k => { k with erasing := k.erasing || k.state = 4 }) s) s, again := true }
    else
    let r := eraseAll slots true (some w) s
    if unsettled r.1 w then { st := r.1, wait := true }
    else
      done (withSec (fun b => { b with slots := b.slots.map (fun e => if e.2.waiter = some w then (e.1, { e.2 with waiter := none }) else e) }) r.1) (le 2 0)
def execKeyErase (h : Hdr) (p : KeyEraseP) (s : State) : Host.Outcome State Fault Refusal := agentRun h (.keyErase p) (keyErase h p) s

/-- KEY_INVALIDATE (R381): a single slot replies at once; the store once every slot has settled (R396). -/
def keyInvalidate (h : Hdr) (p : KeyInvalidateP) (s : State) : Res :=
  if h.flow = 0xF000 then
    if p.engines = 0 then refuse s stBadParam
    else
      let slots := usedSlots s (fun n k => 0x10 ≤ n && (k.mat.engines &&& p.engines) ≠ 0)
      let w := (h.qp, h.tag)
      let r := eraseAll slots false (some w) s
      let data := le 2 slots.length ++ le 2 (sat16 r.2)
      if unsettled r.1 w then { st := r.1, data := data, wait := true }
      else
        done (withSec (fun b => { b with slots := b.slots.map (fun e => if e.2.waiter = some w then (e.1, { e.2 with waiter := none }) else e) }) r.1) data
  else if !(0x10 ≤ h.flow && h.flow < 0x1000) then refuse s stBadParam
  else if (slotOf s h.flow).state = 0 || (slotOf s h.flow).state = 4 then refuse s stKeyGone
  else
    let r := eraseAll [h.flow] false none s
    done r.1 (le 2 1 ++ le 2 (sat16 r.2))
def execKeyInvalidate (h : Hdr) (p : KeyInvalidateP) (s : State) : Host.Outcome State Fault Refusal :=
  agentRun h (.keyInvalidate p) (keyInvalidate h p) s

/-- A slot descriptor in bytes (R371). -/
def descBytes (s : State) (n : Nat) : List Byte := (descWords (slotOf s n)).flatMap (le 4)

/-- KEY_INFO (R396). -/
def keyInfo (h : Hdr) (p : KeyInfoP) (s : State) : Res :=
  if h.flow = 0xF000 then
    let d := le 4 (secStatusWord s) ++ le 4 (secSlotsWord s) ++ le 4 (secSlots2Word s) ++ (List.range 3).flatMap (fun i => le 4 (tget 0 s.sec.cnt i))
    done (toHost p.bufferAddr ((List.range 4096).map (fun n => BitVec.ofNat 8 (nth 0 (descWords (slotOf s n)) 0))) s) d
  else
    let d := descBytes s h.flow
    done (toHost p.bufferAddr d s) (d.take 24)
def execKeyInfo (h : Hdr) (p : KeyInfoP) (s : State) : Host.Outcome State Fault Refusal := agentRun h (.keyInfo p) (keyInfo h p) s

/-- The body of an attestation report, bytes 0-255 (R393). -/
def attestBody (p : KeyAttestP) (s : State) : List Byte :=
  let pub := fit 384 (Config.identityModulus s.flash.identityEpoch) ++ be 4 65537
  let descs := (List.range p.slotCount).flatMap (fun i => (descBytes s (p.slotFirst + i)).take 28 ++ zeros 4)
  ascii "ZBAT" ++ le 2 1 ++ le 2 256 ++ fit 32 p.nonce ++ fit 8 Config.serial ++ sha256 pub ++ le 4 s.flash.identityEpoch ++
    le 4 (sysStateWord s) ++ le 4 (bootStatusWord s) ++ sha256 s.upd.fw.runManifest ++ le 4 s.upd.fw.runSv ++ le 4 s.otp.svBurnt ++
    le 4 s.otp.clearBurnt ++ le 4 (secStatusWord s) ++ le 8 (rawNs s) ++ le 2 p.slotFirst ++ le 2 p.slotCount ++ sha256 descs ++
    le 2 (slotsIn s 1) ++ le 2 (slotsIn s 2) ++ le 2 (slotsIn s 3) ++ le 2 (stagedCount s) ++ zeros 64

/-- KEY_ATTEST (R393). -/
def keyAttest (_ : Hdr) (p : KeyAttestP) (s : State) : Res :=
  if p.nonce.length ≠ 32 || 4096 < p.slotCount || 4096 < p.slotFirst + p.slotCount then refuse s stBadParam
  else if !s.flash.identity then refuse s stBusy
  else
    let b := attestBody p s
    let n := Config.identityModulus s.flash.identityEpoch
    let sig := rsaSign (fit 384 n) (Config.identityExponent s.flash.identityEpoch) (sha256 b) (randomBytes s 32)
    done (toHost p.bufferAddr (b ++ sig) (tick1 s)) (le 2 640)
def execKeyAttest (h : Hdr) (p : KeyAttestP) (s : State) : Host.Outcome State Fault Refusal := agentRun h (.keyAttest p) (keyAttest h p) s

/-- KEY_STORE_CFG (R388, R396); the loops whose TAMP_IN mismatches at arming are what the pins show. -/
def keyStoreCfg (_ : Hdr) (p : KeyStoreCfgP) (s : State) : Res :=
  if 1 < p.lockPlain || 16 ≤ p.loopArm then refuse s stBadParam
  else if (p.loopArm &&& p.loopMismatch) ≠ 0 then refuse s stBusy
  else
    let s := withSec (fun b => { b with plainLocked := b.plainLocked || p.lockPlain = 1 }) s
    let s := withAon (fun a => { a with loopEn := a.loopEn ||| p.loopArm }) s
    done s (le 4 (secStatusWord s) ++ le 1 s.aon.loopEn)
def execKeyStoreCfg (h : Hdr) (p : KeyStoreCfgP) (s : State) : Host.Outcome State Fault Refusal := agentRun h (.keyStoreCfg p) (keyStoreCfg h p) s

/-! Event rows. -/

/-- One transmission that waits for this reference is secured now, and one engine message under it ends (R398, R248). -/
def endMessage (slot gen : Nat) (s : State) : State :=
  let s := withCry (fun c => { c with msgs := c.msgs.map (fun e => (e.1, e.2.eraseP (fun m => m.slot = slot && m.gen = gen && !m.suspended))) }) s
  let waits := fun (t : TxSeq) => t.keyRef = some (slot, gen) && !t.secured
  match s.rfc.chains.find? (fun e => e.2.txs.any waits) with
  | none => s
  | some e => withChain e.1 (fun c => { c with txs := c.txs.map (fun t => if waits t then { t with secured := true, keyRef := none } else t) }) s

/-- KEY_REFERENCE_DROP: the last output word of a message leaves, and what waited for the reference goes on
(R379-R381, R398). -/
def keyReferenceDrop (slot gen : Nat) (s : State) : State :=
  let k := slotOf s slot
  if gen = k.gen && k.refs ≠ 0 then
    tryEmpty slot (withKey slot (fun k => { k with refs := k.refs - 1 }) (endMessage slot gen s))
  else match k.retiring with
    | none => s
    | some (g, _) =>
      if g ≠ gen || k.oldRefs = 0 then s
      else
        let s := withKey slot (fun k => { k with oldRefs := k.oldRefs - 1 }) (endMessage slot gen s)
        let k := slotOf s slot
        if k.state = 4 then tryEmpty slot s
        else if k.oldRefs ≠ 0 then s
        else if k.waitNext.isSome then installWaiting slot s
        else if overlapRuns s k then s
        else withKey slot (fun k => { k with retiring := none, overlapEnds := none }) s
def execKeyReferenceDrop (slot gen : Nat) (s : State) : Host.Outcome State Fault Refusal := .next (keyReferenceDrop slot gen s)

/-- KEY_WAIT_EXPIRY: 20 us after an erase or a new generation, what still holds aborts with ST_KEY_GONE (R379, R380). -/
def keyWaitExpiry (slot : Nat) (s : State) : State :=
  let k := slotOf s slot
  if k.state = 4 then
    if !k.erasing || (k.refs = 0 && k.oldRefs = 0) then s
    else
      let s := abortMessages slot k.gen s
      let s := match k.retiring with | some (g, _) => abortMessages slot g s | none => s
      let s := keyEvent 7 slot (secCnt 6 s)
      tryEmpty slot (withKey slot (fun x => { x with aborted := x.aborted + k.refs + k.oldRefs, refs := 0, oldRefs := 0 }) s)
  else if k.waitNext.isSome then installWaiting slot (abortRetiring slot s)
  else s
def execKeyWaitExpiry (slot : Nat) (s : State) : Host.Outcome State Fault Refusal := .next (keyWaitExpiry slot s)

/-- RX_OVERLAP_EXPIRY: the overlap ends and the retiring generation is zeroised once nothing holds it (R379, R385). -/
def rxOverlapExpiry (slot : Nat) (s : State) : State :=
  let k := slotOf s slot
  match k.overlapEnds with
  | none => s
  | some t =>
    if rawNs s < t then s
    else withKey slot (fun k => { k with overlapEnds := none, retiring := if k.oldRefs = 0 then none else k.retiring }) s
def execRxOverlapExpiry (slot : Nat) (s : State) : Host.Outcome State Fault Refusal := .next (rxOverlapExpiry slot s)

/-- IDENTITY_GENERATED (R392). -/
def identityGenerated (s : State) : State :=
  if s.sys.devState ≠ .run || s.flash.identity || !s.sec.rootReady then s
  else raise 0xDB (withFlash (fun f => { f with identity := true, identityEpoch := f.identityEpoch + 1 }) s)
def execIdentityGenerated (s : State) : Host.Outcome State Fault Refusal := .next (identityGenerated s)

/-- PUF_SPARE_ENROL: firmware enrols a spare array under the same root and burns its fuse (R365, R528). -/
def pufSpareEnrol (array : Nat) (active : Bool) (s : State) : State :=
  if !s.sec.rootReady || !s.hlth.enrolDue || 3 ≤ array || bit s.otp.enrolled array then s
  else withHlth (fun h => { h with enrolDue := false })
    (withOtp (fun o => { o with enrolled := setBit o.enrolled array, pufArray := if active then array else o.pufArray }) s)
def execPufSpareEnrol (array : Nat) (active : Bool) (s : State) : Host.Outcome State Fault Refusal := .next (pufSpareEnrol array active s)

/-- JOURNAL_ENTRY_DURABLE: the nonce-journal entry a slot was writing is durable (R411, R412). -/
def journalEntryDurable (slot : Nat) (s : State) : State :=
  let m := (slotOf s slot).mat
  match m.hWriting with
  | none => s
  | some h =>
    journalPut (fingerprint s m) h (withKey slot (fun k => { k with mat := { k.mat with hDurable := some h, hWriting := none, writeFails := 0 } }) s)

/-- JOURNAL_WRITE_FAIL: retried once; on the second failure the slot's draws wait, EV_CRY_JOURNAL_FAIL and degraded reason 9
(R411, R532). -/
def journalWriteFail (slot : Nat) (s : State) : State :=
  let m := (slotOf s slot).mat
  if m.hWriting.isNone then s
  else
    let s := withKey slot (fun k => { k with mat := { k.mat with writeFails := min 2 (k.mat.writeFails + 1) } }) s
    if m.writeFails = 0 then s else degrade 9 (raise 0xE1 s)
def execJournalWriteFail (slot : Nat) (s : State) : Host.Outcome State Fault Refusal := .next (journalWriteFail slot s)

/-- JOURNAL_COMPACT_DONE: the current entries stand in the other half and the first is erased (R412). -/
def journalCompactDone (s : State) : State :=
  if s.cry.compacting then
    withFlash (fun f => { f with nonceLog := f.nonce.length + 1 }) (withCry (fun c => { c with compacting := false }) s)
  else s
def execJournalCompactDone (s : State) : Host.Outcome State Fault Refusal := .next (journalCompactDone s)

end Sys2Proof.Machine
end

