-- ==== Sys2Proof/Machine/Cry.lean ====
section
/-!
DEFINITION. The cipher engines' commands and messages, the XTS regions, and the check-value units.
-/
namespace Sys2Proof.Machine

/-! Messages of an engine (R414-R416). -/

/-- The CCM*, GCM and SHA engines suspend; XTS and RSA never (R415). -/
def suspends (engine : Nat) : Bool := engine = 0 || engine = 1 || engine = 4

/-- A message arrives: it suspends a running message of strictly lower urgency, or waits in arrival order of its urgency
(R414, R415). -/
def arriveMsg (engine : Nat) (m : EngMsg) (s : State) : State :=
  let q := tget [] s.cry.msgs engine
  match q with
  | [] => withCry (fun c => { c with msgs := tput c.msgs engine [m] }) s
  | x :: t =>
    if suspends engine && m.urgency < x.urgency && (q.filter (·.suspended)).length < 3 then
      cryCnt 4 (withCry (fun c => { c with msgs := tput c.msgs engine (m :: { x with suspended := true } :: t) }) s)
    else
      let l := x :: t.takeWhile (fun y => y.urgency ≤ m.urgency) ++ [m] ++ t.dropWhile (fun y => y.urgency ≤ m.urgency)
      withCry (fun c => { c with msgs := tput c.msgs engine l }) s

/-- ENGINE_RESUME: the message at the front resumes when none of higher urgency waits; one that does goes first (R415). -/
def engineResume (engine : Nat) (s : State) : State :=
  match tget [] s.cry.msgs engine with
  | [] => s
  | x :: t =>
    if !x.suspended then s
    else match t.find? (fun y => !y.suspended && y.urgency < x.urgency) with
      | some y => withCry (fun c => { c with msgs := tput c.msgs engine (y :: x :: t.erase y) }) s
      | none => withCry (fun c => { c with msgs := tput c.msgs engine ({ x with suspended := false } :: t) }) s
def execEngineResume (engine : Nat) (s : State) : Host.Outcome State Fault Refusal := .next (engineResume engine s)

/-! CRY_OP (R399, R402, R403, R425, R426). -/

/-- Reply of CRY_OP: NC drawn and USAGE_COUNT value drawn. -/
def cryReply (nc count : Nat) : List Byte := le 8 nc ++ le 4 count

/-- A draw that cannot be made yet is counted and reported, and the work is taken up again later (R411, R473). -/
def stall (s : State) : Res := { st := raise 0xE0 (cryCnt 5 s), again := true }

/-- CCM* on FLOW 0x0000. -/
def cryCcm (p : CryOpP) (s : State) : Res :=
  if p.secLevel = 0 || 7 < p.secLevel then refuse s stBadParam
  else if p.op = 0 then
    if keyStatus s p.slot 0 = stOk && !drawReady s p.slot then stall s else
    let u := useKey p.slot 0 s
    if u.status ≠ stOk then refuse u.st u.status
    else
      let r := ccmSeal u.mat.key p.srcAddr u.counter p.secLevel p.aad p.input
      done (toHost p.outAddr (r.1 ++ r.2) (cryCnt 0 u.st)) (cryReply 0 u.counter)
  else
    let u := requestKey p.slot 0 s
    if u.status ≠ stOk then refuse u.st u.status
    else match ccmOpen u.mat.key p.srcAddr p.frameCounter p.secLevel p.aad p.input p.tag with
      | some m => done (toHost p.outAddr m (cryCnt 0 u.st)) (cryReply 0 0)
      | none => refuse (toHost p.outAddr (zeros p.input.length) (cryCnt 1 (cryCnt 0 u.st))) stAuthFail

/-- GCM on FLOW 0x0001: the GCM_LNK bit; NONCE_MODE 1 seals under a drawn nonce. -/
def cryGcm (p : CryOpP) (s : State) : Res :=
  let s := if p.op = 0 && keyStatus s p.slot 1 = stOk then commitAtLimit p.slot s else s
  let mode := (slotOf s p.slot).mat.nonceMode
  if (p.op = 1 || mode = 0) && p.iv.length ≠ 12 then refuse s stBadParam
  else if p.op = 0 then
    if keyStatus s p.slot 1 = stOk && mode = 1 && (slotOf s p.slot).mat.nc = 2 ^ 64 - 1 then
      refuse (keyRefuse p.slot stKeyExhausted s).st stKeyExhausted
    else if keyStatus s p.slot 1 = stOk && ((mode = 1 && !nonceReady s (slotOf s p.slot).mat) || !drawReady s p.slot) then stall s
    else
      let u := useKey p.slot 1 s
      if u.status ≠ stOk then refuse u.st u.status
      else
        let iv := if u.mat.nonceMode = 1 then be 4 u.mat.nonceFixed ++ be 8 u.mat.nc else p.iv
        let s := if u.mat.nonceMode = 1 then withKey p.slot (fun k => { k with mat := drawNonce k.mat }) u.st else u.st
        let r := gcmSeal u.mat.key iv p.aad p.input
        done (toHost p.outAddr (r.1 ++ r.2) (cryCnt 2 s)) (cryReply (if u.mat.nonceMode = 1 then u.mat.nc else 0) u.counter)
  else
    let u := requestKey p.slot 1 s
    if u.status ≠ stOk then refuse u.st u.status
    else match gcmOpen u.mat.key p.iv p.aad p.input p.tag with
      | some m => done (toHost p.outAddr m (cryCnt 2 u.st)) (cryReply 0 0)
      | none => refuse (toHost p.outAddr (zeros p.input.length) (cryCnt 3 (cryCnt 2 u.st))) stAuthFail

/-- XTS on FLOW 0x0002: no use of the key (R403). -/
def cryXts (p : CryOpP) (s : State) : Res :=
  if p.unit < 16 || 4096 < p.unit || p.unit % 16 ≠ 0 || p.input.length % (max p.unit 1) ≠ 0 then refuse s stBadParam
  else
    let u := requestKey p.slot 3 s
    if u.status ≠ stOk then refuse u.st u.status
    else done (toHost p.outAddr (xtsRun u.mat.key (p.op = 1) p.tweak p.unit p.input) u.st) (cryReply 0 0)

def cryOp (h : Hdr) (p : CryOpP) (s : State) : Res :=
  if 1 < p.op || 4096 ≤ p.slot || 4096 < p.aad.length || 16384 < p.input.length || p.outAddr % 8 ≠ 0 then refuse s stBadParam
  else if h.flow = 0 then cryCcm p s
  else if h.flow = 1 then cryGcm p s
  else cryXts p s
def execCryOp (h : Hdr) (p : CryOpP) (s : State) : Host.Outcome State Fault Refusal := agentRun h (.cryOp p) (cryOp h p) s

/-! RSA and SHA-256 (R407, R408). -/

def crySign (_ : Hdr) (p : CrySignP) (s : State) : Res :=
  if p.digest.length ≠ 32 || 4096 ≤ p.slot || p.sigAddr % 8 ≠ 0 then refuse s stBadParam
  else if p.slot ≠ 2 then refuse (keyRefuse p.slot stKeyDenied s).st stKeyDenied
  else if !s.flash.identity then refuse s stBusy
  else
    let u := useKey 2 6 s
    if u.status ≠ stOk then refuse u.st u.status
    else
      let e := s.flash.identityEpoch
      done (toHost p.sigAddr (rsaSign (fit 384 (Config.identityModulus e)) (Config.identityExponent e) p.digest (randomBytes u.st 32)) (tick1 u.st))
def execCrySign (h : Hdr) (p : CrySignP) (s : State) : Host.Outcome State Fault Refusal := agentRun h (.crySign p) (crySign h p) s

def cryVerify (_ : Hdr) (p : CryVerifyP) (s : State) : Res :=
  if (p.exponent ≠ 3 && p.exponent ≠ 65537) || p.modulus.length ≠ 384 || p.digest.length ≠ 32 || p.signature.length ≠ 384 then refuse s stBadParam
  else if rsaVerify p.modulus p.exponent p.digest p.signature then done s
  else refuse s stSigFail
def execCryVerify (h : Hdr) (p : CryVerifyP) (s : State) : Host.Outcome State Fault Refusal := agentRun h (.cryVerify p) (cryVerify h p) s

/-- The digest of what a context holds. -/
def hashOf (mode : Nat) (key data : List Byte) : List Byte := if mode = 1 then hmac key data else sha256 data

def cryHash (_ : Hdr) (p : CryHashP) (s : State) : Res :=
  let c := tfind s.cry.hashes p.context
  if 3 < p.op || 1 < p.mode || 16 ≤ p.context || 4096 ≤ p.slot || 16384 < p.input.length || p.outAddr % 8 ≠ 0 then refuse s stBadParam
  else if p.op = 1 && c.isSome then refuse s stBusy
  else if p.op ≤ 1 then
    let u := if p.mode = 1 then useKey p.slot 5 s else { st := s }
    if u.status ≠ stOk then refuse u.st u.status
    else if p.op = 0 then
      let d := hashOf p.mode u.mat.key p.input
      done (toHost p.outAddr d u.st) (d.take 24)
    else done (withCry (fun x => { x with hashes := tput x.hashes p.context { mode := p.mode, key := u.mat.key, data := p.input } }) u.st)
  else match c with
    | none => refuse s stBadParam
    | some x =>
      if p.op = 2 then done (withCry (fun y => { y with hashes := tput y.hashes p.context { x with data := x.data ++ p.input } }) s)
      else
        let d := hashOf x.mode x.key (x.data ++ p.input)
        done (toHost p.outAddr d (withCry (fun y => { y with hashes := tdel y.hashes p.context }) s)) (d.take 24)
def execCryHash (h : Hdr) (p : CryHashP) (s : State) : Host.Outcome State Fault Refusal := agentRun h (.cryHash p) (cryHash h p) s

/-! XTS regions (R404-R406). -/

/-- Two page ranges overlap. -/
def overlap (a n b m : Nat) : Bool := a < b + 4096 * m && b < a + 4096 * n

def cryXtsRegion (_ : Hdr) (p : CryXtsRegionP) (s : State) : Res :=
  if p.region < 16 || 64 ≤ p.region || 1 < p.op then refuse s stBadParam
  else if p.op = 0 then
    done (withCry (fun c => { c with regions := tmod {} c.regions p.region (fun r => { r with enable := false, reported := false }) }) s)
  else if p.base % 4096 ≠ 0 || p.size % 4096 ≠ 0 || p.size < 4096 || 2 ^ 34 < p.size || 4096 ≤ p.slot then refuse s stBadParam
  else if s.cry.regions.any (fun e => e.1 ≠ p.region && e.2.enable && overlap e.2.base e.2.pages p.base (p.size / 4096)) then refuse s stBadParam
  else
    let u := requestKey p.slot 3 s
    if u.status ≠ stOk then refuse u.st u.status
    else done (withCry (fun c => { c with regions := tput c.regions p.region { base := p.base, pages := p.size / 4096, enable := true, slot := p.slot } }) s)
def execCryXtsRegion (h : Hdr) (p : CryXtsRegionP) (s : State) : Host.Outcome State Fault Refusal :=
  agentRun h (.cryXtsRegion p) (cryXtsRegion h p) s

/-- An access to an enabled region whose key slot cannot deliver: counted, and EV_CRY_XTS_KEY once per region (R406). -/
def xtsAccess (addr : Nat) (s : State) : State :=
  match s.cry.regions.find? (fun e => e.2.enable && e.2.base ≤ addr && addr < e.2.base + 4096 * e.2.pages) with
  | none => s
  | some e =>
    if keyStatus s e.2.slot 3 = stOk then s
    else
      raiseIf (!e.2.reported) 0xE3 (cryCnt 9 (withCry (fun c => { c with regions := tmod {} c.regions e.1 (fun r => { r with reported := true }) }) s))

def cryStatus (_ : Hdr) (p : CryStatusP) (s : State) : Res :=
  if 1 < p.clear || p.bufferAddr % 8 ≠ 0 then refuse s stBadParam
  else
    let d := le 4 (cryStatusWord s) ++ le 4 (ccmCtxWord s) ++ le 2 s.flash.nonce.length ++ le 8 s.flash.nonceFloor
    let s := toHost p.bufferAddr ((List.range 10).flatMap (fun i => le 4 (tget 0 s.cry.cnt i))) s
    done (if p.clear = 1 then withCry (fun c => { c with cnt := [] }) s else s) d
def execCryStatus (h : Hdr) (p : CryStatusP) (s : State) : Host.Outcome State Fault Refusal := agentRun h (.cryStatus p) (cryStatus h p) s

/-! Check-value units (R418-R423). -/

/-- A frame is in progress on logical lane n. -/
def laneBusy (s : State) (n : Nat) : Bool := (physOf s (lanePhys s n)).frame.isSome

/-- The unit stands at a frame boundary of its stream (R421). -/
def atBoundary (s : State) (u : Nat) : Bool := match (chkOf s u).attached with | some n => !laneBusy s n | none => true

/-- The value kept for a POLY: 16 bits for POLY 0 (R423). -/
def chkWidth (poly v : Nat) : Nat := v % 2 ^ crcWidth poly

/-- The running value as VALUE shows it, with the bytes of a frame in progress (R419, R423). -/
def chkValueNow (s : State) (u : Nat) : Nat :=
  let c := chkOf s u
  match c.attached with
  | some n => match (physOf s (lanePhys s n)).frame with
    | some f => if c.paused then c.value else crcRun c.poly (if c.mode = 0 then crcStart c.poly c.init else c.value) f.data
    | none => c.value
  | none => c.value

/-- The 16-byte context of a unit (R425). -/
def chkContext (c : ChkSt) : List Byte :=
  le 1 c.poly ++ le 1 (c.mode + 2 * b2n c.skipAbort + 4 * b2n c.expectEn) ++ le 1 (c.attached.getD 0) ++ le 1 0 ++ le 4 c.init ++ le 4 c.expect ++ le 4 c.value

def cryChkCfg (h : Hdr) (p : CryChkCfgP) (s : State) : Res :=
  let u := h.flow - 0x100
  if p.op = 0 then
    if 95 < p.lane || 2 < p.poly || 1 < p.mode || 1 < p.skipAbort || 1 < p.expectEn then refuse s stBadParam
    else
      done (withChkU u (fun c => { c with
        attached := some p.lane, poly := p.poly, mode := p.mode, skipAbort := p.skipAbort = 1, expectEn := p.expectEn = 1,
        init := p.init, expect := p.expect, value := crcStart p.poly p.init }) s)
  else if p.op = 1 then done (withChkU u (fun c => { c with attached := none }) s)
  else if p.op = 2 then
    if (chkOf s u).paused then done s (chkContext (chkOf s u))
    else { st := withChkU u (fun c => { c with saveWait := some (h.qp, h.tag) }) s, wait := true }
  else if p.op = 3 then
    let b := fun i => (nth 0 p.context i).toNat
    if p.context.length ≠ 16 || 2 < b 0 || 8 ≤ b 1 || 95 < b 2 || b 3 ≠ 0 then refuse s stBadParam
    else
      done (withChkU u (fun c => { c with
        pause := false, paused := false, attached := some (b 2), poly := b 0, mode := b 1 % 2, skipAbort := bit (b 1) 1,
        expectEn := bit (b 1) 2, init := ofLe ((p.context.drop 4).take 4), expect := ofLe ((p.context.drop 8).take 4),
        value := chkWidth (b 0) (ofLe (p.context.drop 12)) }) s)
  else refuse s stBadParam
def execCryChkCfg (h : Hdr) (p : CryChkCfgP) (s : State) : Host.Outcome State Fault Refusal := agentRun h (.cryChkCfg p) (cryChkCfg h p) s

/-- PAUSE as written takes effect at a frame boundary, and a save that waits is answered (R421). -/
def chkPauseTake (u : Nat) (s : State) : State :=
  if !atBoundary s u then s
  else
    let s := withChkU u (fun c => { c with paused := c.pause }) s
    let c := chkOf s u
    if c.paused then finishWait c.saveWait stOk (chkContext c) (withChkU u (fun c => { c with saveWait := none }) s) else s

/-- CHK_PAUSE_WRITE (R421, R423). -/
def chkPauseWrite (u value : Nat) (s : State) : State :=
  if 8 ≤ u || pfFrozen s 0 then s else withChkU u (fun c => { c with pause := bit value 0 }) s
def execChkPauseWrite (u value : Nat) (s : State) : Host.Outcome State Fault Refusal := .next (chkPauseWrite u value s)

/-- CHK_PAUSE_EFFECT (R421). -/
def execChkPauseEffect (u : Nat) (s : State) : Host.Outcome State Fault Refusal := .next (if 8 ≤ u then s else chkPauseTake u s)

/-- CHK_VALUE_WRITE: only while PAUSED; otherwise ignored with WRITE_IGNORED (R421). -/
def chkValueWrite (u value : Nat) (s : State) : State :=
  if 8 ≤ u || pfFrozen s 0 then s
  else withChkU u (fun c => if c.paused then { c with value := chkWidth c.poly value } else { c with writeIgnored := true }) s
def execChkValueWrite (u value : Nat) (s : State) : Host.Outcome State Fault Refusal := .next (chkValueWrite u value s)

/-- RES_INFO of a latched result (R423). -/
def resInfoWord (r : Option ChkRes) : Nat :=
  match r with
  | some r => r.length + 2 ^ 11 * b2n r.abort + 2 ^ 12 * b2n r.spawned + 2 ^ 13 * b2n r.isMatch + 2 ^ 14
  | none => 0

/-- CHK_RESULT_READ: the oldest result leaves the queue and is latched (R423). -/
def chkResultRead (u : Nat) (s : State) : State :=
  if 8 ≤ u then s
  else
    let s := withChkU u (fun c => { c with latched := c.results.head?, results := c.results.tail }) s
    withHif (fun h => { h with readData := resInfoWord (chkOf s u).latched }) s
def execChkResultRead (u : Nat) (s : State) : Host.Outcome State Fault Refusal := .next (chkResultRead u s)

/-- A result of unit u: counted, compared, queued or dropped (R419, R420). -/
def chkResult (u : Nat) (data : List Byte) (abort spawned : Bool) (v : Nat) (s : State) : State :=
  let c := chkOf s u
  let final := crcEnd c.poly v
  let r : ChkRes := { length := data.length % 2048, abort := abort, spawned := spawned, isMatch := final = c.expect, value := final }
  let s := withChkU u (fun c => { c with
    frames := satInc c.frames, mismatch := if c.expectEn && final ≠ c.expect then satInc c.mismatch else c.mismatch,
    ovf := c.ovf || 16 ≤ c.results.length, results := if 16 ≤ c.results.length then c.results else c.results ++ [r] }) s
  raiseIf c.results.isEmpty (0x170 + u) s

/-- The end mark of a frame of logical lane n reaches unit u (R419, R421): data is what the lane streamed. In mode 1 a frame of
the originating lane folds into the running value and queues no result (DEDUCED from R419, log entry 26). -/
def chkFrameEnd (n : Nat) (data : List Byte) (abort spawned : Bool) (u : Nat) (s : State) : State :=
  let c := chkOf s u
  if c.attached ≠ some n then s
  else if c.paused then withChkU u (fun c => { c with skipped := satInc c.skipped }) s
  else if spawned || c.mode = 0 then
    let v := crcRun c.poly (crcStart c.poly c.init) data
    chkResult u data abort spawned v (if spawned then s else withChkU u (fun c => { c with value := v }) s)
  else
    let v := if abort && c.skipAbort then c.value else crcRun c.poly c.value data
    withChkU u (fun c => { c with value := v }) s

/-- All units see the end mark, and a pause that waits takes effect. -/
def chkEnds (n : Nat) (data : List Byte) (abort spawned : Bool) (s : State) : State :=
  (List.range 8).foldl (fun s u => chkFrameEnd n data abort spawned u s) s

end Sys2Proof.Machine
end

