-- ==== Sys2Proof/Machine/Time.lean ====
section
/-!
DEFINITION. The time domains, the selected reading, the comparators' arming, the edge captures and PTP (R216-R241).
-/
namespace Sys2Proof.Machine

/-! Domains and the selected reading. -/

/-- The selected reading after an event that changed T_sel, S having read `before`: the first row of R225 that holds; jump says
that the condition of its first row does. -/
def reselect (before : Int) (jump : Bool) (t : TimeSt) : TimeSt :=
  let e := domAt (selDom t) t.c - before
  let th : Int := t.threshold * 65536
  if jump || (0 ≤ e && e ≤ th) then { t with e0 := 0, slewing := false, holding := false }
  else if e < 0 && -th ≤ e then { t with e0 := 0, slewing := false, holding := true, holdS := before }
  else { t with e0 := e, e0C := t.c, slewing := true, holding := false }

/-- O_d stepped, with what R225 makes of it where the domain is selected; mark 1 sets TRACKED and 2 clears it (R220, R223). -/
def stepDomain (i : Nat) (inc : Int) (mark : Nat) (s : State) : State :=
  withTime (fun t =>
    let d := domOf t i
    let before := selAt t
    let t1 := setDom i { d with o := d.o + inc, tracked := if mark = 1 then true else if mark = 2 then false else d.tracked } t
    if i = t.sel then reselect before (!d.tracked && !s.slot.running) t1 else t1) s

/-- The fold of R220: the old rate goes into the offset and the anchor moves to the present cycle. -/
def foldRate (r c : Int) (d : DomSt) (k : Nat) : DomSt :=
  { d with o := d.o + d.r * 2 * (c - (d.k : Int)) / 2 ^ 28, k := k, r := r }

/-- R_d replaced (R220). -/
def setRate (i : Nat) (r : Int) (s : State) : State :=
  withTime (fun t => setDom i (foldRate r t.c (domOf t i) t.c) t) s

/-- The accepted rates of R221. -/
def rateMax : Int := 1759218604

/-- A domain reading and the raw time as 8 bytes each. -/
def domReading (s : State) (i : Nat) : List Byte := leS 8 (domAt (domOf s.time i) s.time.c / 65536)
def rawBytes (s : State) : List Byte := le 8 (rawNs s)

/-- TIME_STEP (R220, R222-R224, R240). -/
def timeStep (h : Hdr) (p : TimeStepP) (s : State) : Res :=
  if 2 < p.markTracked then refuse s stBadParam
  else if (domOf s.time h.flow).src ≠ 0 then refuse s stBusy
  else
    let s := stepDomain h.flow (p.stepNs * 65536 + p.stepFrac) p.markTracked s
    done s (domReading s h.flow ++ rawBytes s)
def execTimeStep (h : Hdr) (p : TimeStepP) (s : State) : Host.Outcome State Fault Refusal := agentRun h (.timeStep p) (timeStep h p) s

/-- TIME_RATE (R220, R221, R224, R240). -/
def timeRate (h : Hdr) (p : TimeRateP) (s : State) : Res :=
  if rateMax < p.rate || p.rate < -rateMax then refuse s stBadParam
  else if (domOf s.time h.flow).src ≠ 0 then refuse s stBusy
  else done (setRate h.flow p.rate s) (leS 4 (domOf s.time h.flow).r ++ zeros 4 ++ rawBytes s)
def execTimeRate (h : Hdr) (p : TimeRateP) (s : State) : Host.Outcome State Fault Refusal := agentRun h (.timeRate p) (timeRate h p) s

/-- The mode byte of a TIME_SELECT reply (R228, R240). -/
def selMode (t : TimeSt) : Nat := if t.slewing then 1 else if t.holding && domAt (selDom t) t.c < t.holdS then 2 else 0

/-- A TIME_SELECT of the domain already selected changes the threshold and the slew rate only (R228). -/
def sameSelect (p : TimeSelectP) (t : TimeSt) : TimeSt :=
  let e := residual t
  { t with e0 := e, e0C := t.c, threshold := p.stepThresholdNs, slewPpm := p.slewPpm }

/-- TIME_SELECT (R225, R228, R240). -/
def timeSelect (_h : Hdr) (p : TimeSelectP) (s : State) : Res :=
  if 1 < p.domain || 1000 < p.stepThresholdNs || p.slewPpm = 0 || 50 < p.slewPpm || 1 < p.force then refuse s stBadParam
  else if p.domain = s.time.sel then
    let s := withTime (sameSelect p) s
    done s (zeros 8 ++ le 1 (selMode s.time))
  else
    let tracked := (domOf s.time p.domain).tracked
    if p.force = 1 && s.slot.running then refuse s stBusy
    else if !tracked && (s.time.domA.tracked || s.time.domB.tracked) then refuse s stBusy
    else
      let before := selAt s.time
      let s := withTime (fun t =>
        reselect before (!tracked || p.force = 1) { t with sel := p.domain, threshold := p.stepThresholdNs, slewPpm := p.slewPpm }) s
      let e := (domAt (selDom s.time) s.time.c - before) / 65536
      done (raiseW 0x104 (s2n 32 e) s) (leS 8 e ++ le 1 (selMode s.time))
def execTimeSelect (h : Hdr) (p : TimeSelectP) (s : State) : Host.Outcome State Fault Refusal := agentRun h (.timeSelect p) (timeSelect h p) s

/-- SLEW_DONE: E has reached 0 (R226). -/
def slewDone (s : State) : State :=
  if s.time.slewing && residual s.time = 0 then raise 0x105 (withTime (fun t => { t with slewing := false, e0 := 0 }) s) else s
def execSlewDone (s : State) : Host.Outcome State Fault Refusal := .next (slewDone s)

/-- HOLD_RELEASE: T_sel has reached the held reading (R225). -/
def holdRelease (s : State) : State :=
  if s.time.holding && s.time.holdS ≤ domAt (selDom s.time) s.time.c then withTime (fun t => { t with holding := false }) s else s
def execHoldRelease (s : State) : Host.Outcome State Fault Refusal := .next (holdRelease s)

/-- RATE_FOLD: the fold with R_d unchanged (R220). -/
def rateFold (domain : Nat) (s : State) : State :=
  if 1 < domain then s else setRate domain (domOf s.time domain).r s
def execRateFold (domain : Nat) (s : State) : Host.Outcome State Fault Refusal := .next (rateFold domain s)

/-- One TIME cycle (R216): C advances and TIME_OUT pulses that end fall (R232). -/
def timeTick (s : State) : State :=
  withTime (fun t =>
    let t := { t with c := t.c + 1 }
    let ended := t.pulseEnd.filter (fun e => e.2 ≤ 2 * t.c)
    { t with timeOut := ended.foldl (fun o e => clrBit o e.1) t.timeOut, pulseEnd := t.pulseEnd.filter (fun e => 2 * t.c < e.2) }) s

/-! Comparators. -/

/-- Another armed comparator drives the pin (R232). -/
def pinTaken (s : State) (n pin : Nat) : Bool :=
  (List.range 16).any (fun m => m ≠ n && (cmpOf s m).armed && bit (cmpOf s m).actions 1 && (cmpOf s m).pin = pin)

/-- The ranges of a TIME_TRIGGER arm (R232, R240). -/
def triggerOk (p : TimeTriggerP) : Bool :=
  p.ref ≤ 3 && p.actions < 8 && p.pin ≤ 3 && p.pinMode ≤ 3 && (p.periodNs = 0 || 1000 ≤ p.periodNs) &&
    (!(bit p.actions 1 && p.pinMode = 0) ||
      (8 ≤ p.pulseNs && p.pulseNs ≤ 1000000000 && (p.periodNs = 0 || p.pulseNs < p.periodNs)))

/-- The smallest target + k * period above the reading (R231). -/
def nextTarget (target period : Nat) (now : Int) : Nat :=
  if now < (target : Int) then target else target + ((now - target) / period + 1).toNat * period

/-- TIME_TRIGGER (R229-R232, R240). -/
def timeTrigger (h : Hdr) (p : TimeTriggerP) (s : State) : Res :=
  let n := h.flow - 0x100
  if 1 < p.op then refuse s stBadParam
  else if cmpReserved n then refuse s stBusy
  else if p.op = 1 then done (disarm n s)
  else if !triggerOk p then refuse s stBadParam
  else if !refTracked s p.ref then refuse s stBusy
  else if bit p.actions 1 && pinTaken s n p.pin then refuse s stBusy
  else if p.periodNs = 0 && (p.targetNs : Int) ≤ refNs s p.ref then refuse (disarm n s) stPastTime
  else
    let t := nextTarget p.targetNs p.periodNs (refNs s p.ref)
    done (withCmp n (fun c => { c with
      armed := true, ref := p.ref, target := t, period := p.periodNs, actions := p.actions, pin := p.pin, pinMode := p.pinMode,
      pulseNs := p.pulseNs, skipped := 0 }) s) (le 8 t)
def execTimeTrigger (h : Hdr) (p : TimeTriggerP) (s : State) : Host.Outcome State Fault Refusal := agentRun h (.timeTrigger p) (timeTrigger h p) s

/-- The PIN action: TIME_OUT stays low in every state but RUN (R218, R232). -/
def drivePin (c : CmpSt) (s : State) : State :=
  if s.sys.devState ≠ .run then s
  else withTime (fun t =>
    let t := { t with pulseEnd := tdel t.pulseEnd c.pin }
    if c.pinMode = 0 then { t with timeOut := setBit t.timeOut c.pin, pulseEnd := tput t.pulseEnd c.pin (2 * t.c + c.pulseNs) }
    else if c.pinMode = 1 then { t with timeOut := putBit t.timeOut c.pin (!bit t.timeOut c.pin) }
    else { t with timeOut := putBit t.timeOut c.pin (c.pinMode = 2) }) s

/-- A comparator that has fired disarms, or rearms at target + period or beyond, counting the periods it skipped (R231). -/
def rearm (now : Int) (c : CmpSt) : CmpSt :=
  if c.period = 0 then { c with armed := false }
  else
    let t := nextTarget (c.target + c.period) c.period now
    { c with target := t, skipped := c.skipped + ((t - c.target) / c.period - 1) }

/-! Edge captures (R233, R238). -/

/-- An edge of input i in this cycle. -/
def captureEdge (i : Nat) (falling : Bool) (s : State) : State :=
  let c := tget {} s.time.caps i
  if !bit c.edgeSel (if falling then 1 else 0) then s
  else if c.queue.length ≥ 16 then raise 0x103 (withCap i (fun c => { c with ovf := true }) s)
  else
    let e : CapEntry := { raw := rawNs s, a := refNs s 1, b := refNs s 2, falling := falling }
    raiseIf c.queue.isEmpty 0x102 (withCap i (fun c => { c with queue := c.queue ++ [e] }) s)

/-- TIME_IN_EDGE. -/
def timeInEdge (input : Nat) (falling : Bool) (s : State) : State := if input < 4 then captureEdge input falling s else s
def execTimeInEdge (input : Nat) (falling : Bool) (s : State) : Host.Outcome State Fault Refusal := .next (timeInEdge input falling s)

/-- CAPTURE_ENTRY_READ: CAP_RAW_LO is read; an empty queue latches nothing (R238). -/
def captureRead (i : Nat) (s : State) : State :=
  if 5 ≤ i then s
  else
    let c := tget {} s.time.caps i
    let s := withCap i (fun c => { c with latched := c.queue.head?, queue := c.queue.drop 1 }) s
    withHif (fun x => { x with readData := match c.queue.head? with | some e => s2n 32 e.raw | none => 0 }) s
def execCaptureEntryRead (i : Nat) (s : State) : Host.Outcome State Fault Refusal := .next (captureRead i s)

/-- TIME_SNAPSHOT_READ: SNAP_RAW_LO is read, and the eight words come from this cycle (R238). -/
def snapshotRead (s : State) : State :=
  let w := (List.range 4).flatMap (fun r => [s2n 64 (refNs s r) % 2 ^ 32, s2n 64 (refNs s r) / 2 ^ 32])
  withHif (fun x => { x with readData := nth 0 w 0 }) (withTime (fun t => { t with snap := w }) s)
def execTimeSnapshotRead (s : State) : Host.Outcome State Fault Refusal := .next (snapshotRead s)

/-- TIME_CAPTURE_CFG (R240). -/
def timeCaptureCfg (_h : Hdr) (p : TimeCaptureCfgP) (s : State) : Res :=
  if 4 < p.input || 3 < p.edge || 1 < p.clear then refuse s stBadParam
  else done (withCap p.input (fun c =>
    let c := { c with edgeSel := p.edge }
    if p.clear = 1 then { c with queue := [], ovf := false } else c) s)
def execTimeCaptureCfg (h : Hdr) (p : TimeCaptureCfgP) (s : State) : Host.Outcome State Fault Refusal :=
  agentRun h (.timeCaptureCfg p) (timeCaptureCfg h p) s

/-! PTP (R234-R236). Ports 0 and 1 are ETH0 and ETH1, 2-4 are DL0-DL2. -/

/-- PTP settings of a port. -/
def ptpOf (s : State) (p : Nat) : PtpPort := tget {} s.time.ptp p

/-- TIME_PTP_PORT_CFG. -/
def timePtpPortCfg (h : Hdr) (p : TimePtpPortCfgP) (s : State) : Res :=
  if 1 < p.enable || 1 < p.tcEnable || 7 < p.transports then refuse s stBadParam
  else done (withTime (fun t => { t with ptp := tput t.ptp (h.flow - 0x200) {
      enable := p.enable = 1, tcEnable := p.tcEnable = 1, transports := p.transports, mapA := p.mapA, mapB := p.mapB,
      asymmetry := p.asymmetryNs } }) s)
def execTimePtpPortCfg (h : Hdr) (p : TimePtpPortCfgP) (s : State) : Host.Outcome State Fault Refusal :=
  agentRun h (.timePtpPortCfg p) (timePtpPortCfg h p) s

/-- PTP_EVENT_RX: the message is timestamped where the port and its transport have PTP (R234). -/
def ptpEventRx (port : Nat) (msg : PtpMsg) (s : State) : State :=
  let c := ptpOf s port
  if 4 < port || !c.enable || (port < 2 && !bit c.transports msg.transport) then s
  else withTime (fun t => { t with transit := t.transit ++ [{ id := msg.id, msg := msg, inPort := port, inC := t.c }] }) s
def execPtpEventRx (port : Nat) (msg : PtpMsg) (s : State) : Host.Outcome State Fault Refusal := .next (ptpEventRx port msg s)

/-- ρ_d of the domain that a port maps a domainNumber to, 0 where it is unmapped; 255 maps nothing. -/
def mappedRate (s : State) (port num : Nat) : Int :=
  let c := ptpOf s port
  if num = 255 then 0 else if c.mapA = num then s.time.domA.r else if c.mapB = num then s.time.domB.r else 0

/-- The residence time in 2^-16 ns (R235). -/
def residence (dc : Nat) (r : Int) : Int := 131072 * (dc : Int) + r * 2 * dc / 2 ^ 28

/-- PTP_TC_EGRESS: the message leaves on a port with the residence time added where tc_enable is set on both ports (R235). -/
def ptpTcEgress (port id : Nat) (s : State) : State :=
  match s.time.transit.find? (·.id = id) with
  | none => s
  | some x =>
    let on := port ≤ 4 && x.inPort ≠ port && (ptpOf s x.inPort).tcEnable && (ptpOf s port).tcEnable
    let add := if on then residence (s.time.c - x.inC) (mappedRate s x.inPort x.msg.domainNumber) else 0
    let s := withTime (fun t => { t with transit := t.transit.eraseP (·.id = id) }) s
    if port < 4 && gated s then (if 2 ≤ port then portCnt (port - 2) 6 s else s)
    else withTime (fun t => { t with ptpOut := t.ptpOut ++ [{ x.msg with correction := x.msg.correction + add, outPort := port }] }) s
def execPtpTcEgress (port id : Nat) (s : State) : Host.Outcome State Fault Refusal := .next (ptpTcEgress port id s)

/-- The rate correction of a source, within R221. -/
def correctRate (i : Nat) (dr : Int) (s : State) : State :=
  setRate i (clampI (-rateMax) rateMax ((domOf s.time i).r + dr)) s

/-- PTP_OFFSET_MEASURE: the follower of a PTP or LINK source acts on a measured offset; the servo's correction comes with it
(R236, R466). -/
def ptpOffset (i : Nat) (offset rateCorr : Int) (s : State) : State :=
  let d := domOf s.time i
  if 1 < i || !(d.src = 1 || d.src = 3) then s
  else
    let s := withTime (setDom i { d with
      lastOffset := clampI (-2147483648) 2147483647 offset,
      good := if offset.natAbs ≤ d.lockNs then min 16 (d.good + 1) else 0 }) s
    let s := if d.stepLimit < offset.natAbs then stepDomain i (-offset * 65536) 0 s else correctRate i rateCorr s
    let d := domOf s.time i
    if 16 ≤ d.good && !d.locked then raise 0x106 (withTime (setDom i { d with tracked := true, locked := true }) s) else s
def execPtpOffsetMeasure (domain : Nat) (offsetNs rateCorr : Int) (s : State) : Host.Outcome State Fault Refusal :=
  .next (ptpOffset domain offsetNs rateCorr s)

/-- An offset the AIR follower measures: above 50 us a step, else the servo's correction (R274). -/
def airOffset (offset : Int) (s : State) : State :=
  match [0, 1].find? (fun i => (domOf s.time i).src = 2) with
  | none => s
  | some i =>
    let d := domOf s.time i
    let s := withTime (setDom i { d with
      lastOffset := clampI (-2147483648) 2147483647 offset,
      good := if offset.natAbs ≤ d.lockNs then min 16 (d.good + 1) else 0 }) s
    let s := if 50000 < offset.natAbs then stepDomain i (-offset * 65536) 0 s
      else tick1 (correctRate i (Config.servoRate s.free offset) s)
    let d := domOf s.time i
    if 16 ≤ d.good && !d.locked then raise 0x106 (withTime (setDom i { d with tracked := true, locked := true }) s) else s

/-- The follower of a domain loses its source: holdover (R223, R236). -/
def loseSource (i : Nat) (s : State) : State :=
  raise 0x107 (withTime (setDom i { domOf s.time i with locked := false, good := 0 }) s)

/-- PTP_ANNOUNCE_TIMEOUT. -/
def ptpTimeout (i : Nat) (s : State) : State :=
  if 1 < i || (domOf s.time i).src ≠ 1 then s else loseSource i s
def execPtpAnnounceTimeout (domain : Nat) (s : State) : Host.Outcome State Fault Refusal := .next (ptpTimeout domain s)

/-- TIME_DOMAIN_CFG: it moves no reading; a new source starts its follower unlocked (R224, R236, R240). -/
def timeDomainCfg (h : Hdr) (p : TimeDomainCfgP) (s : State) : Res :=
  let o := domOf s.time (1 - h.flow)
  if 3 < p.src || ((p.src = 1 || p.src = 3) && 4 < p.port) || p.announceTimeout < 2 || 10 < p.announceTimeout then refuse s stBadParam
  else if p.src = 1 && o.src = 1 && o.port = p.port && o.domainNumber = p.domainNumber then refuse s stDuplicate
  else
    let d := domOf s.time h.flow
    let same := d.src = p.src && d.port = p.port && d.domainNumber = p.domainNumber
    done (withTime (setDom h.flow { d with
      src := p.src, port := p.port, domainNumber := p.domainNumber, stepLimit := p.stepLimitNs, lockNs := p.lockNs,
      annTimeout := p.announceTimeout, locked := d.locked && same, good := if same then d.good else 0,
      lastOffset := if same then d.lastOffset else 0 }) s)
def execTimeDomainCfg (h : Hdr) (p : TimeDomainCfgP) (s : State) : Host.Outcome State Fault Refusal :=
  agentRun h (.timeDomainCfg p) (timeDomainCfg h p) s

/-- E in whole ns, saturating at s32 (R238, R241). -/
def residualNs (s : State) : Int := clampI (-2147483647) 2147483647 (residual s.time / 65536)

/-- TIME_STATUS (R241). -/
def timeStatus (h : Hdr) (_p : TimeStatusP) (s : State) : Res :=
  if h.flow = 2 then done s (leS 8 (selNs s) ++ rawBytes s ++ leS 4 (residualNs s) ++ le 1 (timeStatusWord s % 256))
  else
    let d := domOf s.time h.flow
    done s (domReading s h.flow ++ rawBytes s ++ leS 4 d.r ++ leS 4 (if d.src = 0 then 0 else d.lastOffset))
def execTimeStatus (h : Hdr) (p : TimeStatusP) (s : State) : Host.Outcome State Fault Refusal := agentRun h (.timeStatus p) (timeStatus h p) s

end Sys2Proof.Machine
end

