-- ==== Sys2Proof/Machine/Tm.lean ====
section
/-!
DEFINITION. The traffic manager: classifier, meters, admission, shapers and the wheel, the choice of the next frame (R341-R362).
-/
namespace Sys2Proof.Machine

/-- A change that the active's next delta record carries (R471). -/
def noteDelta (f : DeltaRec → DeltaRec) (s : State) : State :=
  if s.twin.configured && gateHeld s then withTwin (fun t => { t with pendingDelta := f t.pendingDelta }) s else s

/-! Classifier (R341-R345). -/

/-- The default DSCP maps (R344, R346). -/
def defaultColour (d : Nat) : Nat :=
  if d = 12 || d = 20 || d = 28 || d = 36 then 1 else if d = 14 || d = 22 || d = 30 || d = 38 then 2 else 0
def dscpClassOf (s : State) (d : Nat) : Nat := tget (7 - d / 8) s.tm.dscpClass d
def dscpColourOf (s : State) (d : Nat) : Nat := tget (defaultColour d) s.tm.dscpColour d

/-- DSCP of a frame; 0 without an IPv6 header. -/
def dscpOf (f : PktFrame) : Nat := match f.ip with | some h => h.dscp % 64 | none => 0

/-- The class by the first rule that holds (R344). -/
def classOf (s : State) (profile : Nat) (f : PktFrame) : Nat :=
  let port := f.ip.bind (·.udp)
  match (match port with | some u => s.tm.portTable.find? (fun (e : Nat × Nat × Nat) => e.2.1 = u) | none => (none : Option (Nat × Nat × Nat))) with
  | some e => e.2.2
  | none => if bit profile 13 then bits profile 16 14 else dscpClassOf s (dscpOf f)

/-! Meters (R346-R349). -/

/-- Meter m. -/
def meterOf (s : State) (m : Nat) : MeterSt := tget {} s.tm.meters m

/-- Units of 1/256 byte that a rate in kbit/s gives in dt ns, and the part of a unit carried on. -/
def fillOf (kbps dt carry : Nat) : Nat × Nat := ((kbps * 32000 * dt + carry) / 1000000000, (kbps * 32000 * dt + carry) % 1000000000)

/-- One frame of b bytes through a meter: the meter after it and the colour, 0 green, 1 yellow, 2 red (R347). -/
def meterRun (m : MeterSt) (now b pre : Nat) : MeterSt × Nat :=
  let dt := now - m.lastNs
  let c := fillOf m.cirKbps dt m.cRem
  let p := fillOf m.pirKbps dt m.pRem
  let need := 256 * b
  if m.mode = 1 then
    let tc := min (256 * m.cbs) (m.tc + c.1)
    let tp := min (256 * m.pbsEbs) (m.tp + p.1)
    let m := { m with lastNs := now, cRem := c.2, pRem := p.2, tc := tc, tp := tp }
    if (m.aware && pre = 2) || tp < need then ({ m with red := satInc m.red }, 2)
    else if (m.aware && pre = 1) || tc < need then ({ m with tp := tp - need, yellow := satInc m.yellow }, 1)
    else ({ m with tp := tp - need, tc := tc - need, green := satInc m.green }, 0)
  else
    let t := m.tc + c.1
    let tc := min (256 * m.cbs) t
    let te := if 256 * m.cbs < t then min (256 * m.pbsEbs) (m.tp + (t - 256 * m.cbs)) else m.tp
    let m := { m with lastNs := now, cRem := c.2, tc := tc, tp := te }
    if (!m.aware || pre = 0) && need ≤ tc then ({ m with tc := tc - need, green := satInc m.green }, 0)
    else if (!m.aware || pre ≠ 2) && need ≤ te then ({ m with tp := te - need, yellow := satInc m.yellow }, 1)
    else ({ m with red := satInc m.red }, 2)

/-- A frame of b bytes metered: the state, its colour and whether red drops it (R347, R348). -/
def meterFrame (m b pre : Nat) (s : State) : State × Nat × Bool :=
  let x := meterOf s m
  if x.mode = 0 then (s, 0, true)
  else
    let r := meterRun x (rawNs s) b pre
    (withTm (fun t => { t with meters := tput t.meters m r.1 }) s, r.2, x.redAction = 0)

/-! Shapers and the wheel (R355-R357). Tokens in 1/256 byte, eligible times in us of raw time. -/

/-- Shaper k. -/
def shaperOf (s : State) (k : Nat) : ShaperSt := tget {} s.tm.shapers k

/-- s with the function applied to shaper k. -/
def withShaper (k : Nat) (f : ShaperSt → ShaperSt) (s : State) : State :=
  withTm (fun t => { t with shapers := tmod {} t.shapers k f }) s

/-- Tokens accrued up to now (R355). -/
def accrue (now : Nat) (x : ShaperSt) : ShaperSt :=
  let n := x.rate * 320 * (now - x.lastNs) + x.rem
  { x with t := min (256 * (x.burst : Int)) (x.t + (n / 1000000000 : Nat)), lastNs := now, rem := n % 1000000000 }

/-- Tokens that a head frame of b bytes needs (R355). -/
def needOf (x : ShaperSt) (b : Nat) : Int := 256 * (min b x.burst : Nat)

/-- The eligible time of a head frame, in us (R356). -/
def eligibleUs (x : ShaperSt) (now b : Nat) : Nat :=
  cdiv now 1000 + cdiv ((needOf x b - x.t).toNat * 3125) (max 1 x.rate)

/-- The shaper placed on the wheel (R356). -/
def placeWheel (s : State) (te : Nat) (x : ShaperSt) : ShaperSt :=
  let d := te - rawNs s / 1000
  if d < 4096 then { x with wheel := some te, coarse := false, bucket := (s.tm.finePos + d) % 4096 }
  else if d < 16777216 then { x with wheel := some te, coarse := true, bucket := (s.tm.coarsePos + d / 4096) % 4096 }
  else { x with wheel := some te, coarse := true, bucket := (s.tm.coarsePos + 4095) % 4096 }

/-- The frame a queue offers next: its oldest that is neither bound nor charged already. -/
def headOf (q : QueueSt) : Option QFrame := q.frames.find? (fun f => !f.bound && !f.charged)

/-- The shaper of queue q is evaluated against the queue's head frame: a shaper that is not eligible goes on the wheel (R355,
R356). -/
def evalShaper (q : Nat) (s : State) : State :=
  let k := (queueOf s q).shaper
  if k = 0xFFFF || (shaperOf s k).wheel.isSome then s
  else match headOf (queueOf s q) with
    | none => s
    | some f => withShaper k (fun x =>
        let x := accrue (rawNs s) x
        if needOf x f.data.length ≤ x.t then x else placeWheel s (eligibleUs x (rawNs s) f.data.length) x) s

/-- The frame is eligible: no shaper, charged already, or a shaper off the wheel with the tokens (R352, R355). -/
def eligible (s : State) (q : Nat) (f : QFrame) : Bool :=
  let k := (queueOf s q).shaper
  k = 0xFFFF || f.charged ||
    ((shaperOf s k).wheel.isNone && (let x := accrue (rawNs s) (shaperOf s k)
      needOf x f.data.length ≤ x.t))

/-- The frame charged to its queue's shaper, once (R355). -/
def chargeShaper (q : Nat) (f : QFrame) (s : State) : State :=
  let k := (queueOf s q).shaper
  if k = 0xFFFF || f.charged then s
  else withShaper k (fun x =>
    let x := accrue (rawNs s) x
    { x with t := x.t - 256 * f.data.length, released := satInc x.released }) s

/-- Queue q joins its port's active list where it holds an eligible frame, and leaves it where it does not; a queue that is
empty has deficit 0 (R353). -/
def offerQueue (q : Nat) (s : State) : State :=
  let s := evalShaper q s
  let x := queueOf s q
  let l := tget [] s.tm.active x.port
  let out := fun (s : State) => withTm (fun t => { t with
    active := tput t.active x.port (l.filter (· ≠ q)), drrVisit := t.drrVisit.filter (fun e => !(e.1 = x.port && e.2 = q)) }) s
  if x.frames.isEmpty then out (if x.deficit = 0 then s else withQueue q (fun x => { x with deficit := 0 }) s)
  else if x.port = 6 || x.cls = 0 then out s
  else match x.frames.head? with
    | some f =>
      if eligible s q f then
        if l.contains q then s else withTm (fun t => { t with active := tput t.active x.port (l ++ [q]) }) s
      else out s
    | none => s

/-- The queues of a shaper, by number. -/
def queuesOfShaper (s : State) (k : Nat) : List Nat := (s.tm.queues.filter (fun e => e.2.shaper = k)).map (·.1)

/-- The shaper comes off the wheel and its queues offer their frames; released late, it accrues from now (R356). -/
def releaseShaper (k : Nat) (s : State) : State :=
  let x := shaperOf s k
  let te := x.wheel.getD 0
  let late := te < rawNs s / 1000
  let s := withShaper k (fun x => { accrue (if late then 1000 * te else rawNs s) x with wheel := none, lastNs := rawNs s }) s
  let s := if late then
      let s := tmCnt 9 s
      if s.tm.lateBucket = some (rawSec s) then s else raise 0xAB (withTm (fun t => { t with lateBucket := some (rawSec s) }) s)
    else s
  (queuesOfShaper s k).foldl (fun s q => offerQueue q s) s

/-- WHEEL_FINE_ADVANCE: at most 256 shapers of the bucket reached are released; those left, or not due, wait for the next
bucket (R356). -/
def wheelFine (s : State) : State :=
  let pos := (s.tm.finePos + 1) % 4096
  let s := withTm (fun t => { t with finePos := pos }) s
  let due := (s.tm.shapers.filter (fun e => e.2.wheel.isSome && !e.2.coarse && e.2.bucket = pos)).map (·.1)
  let ripe := due.filter (fun k => 1000 * (shaperOf s k).wheel.getD 0 ≤ rawNs s)
  let now := ripe.take 256
  let s := (due.filter (fun k => !now.contains k)).foldl (fun s k => withShaper k (fun x => { x with bucket := (pos + 1) % 4096 }) s) s
  now.foldl (fun s k => releaseShaper k s) s
def execWheelFineAdvance (s : State) : Host.Outcome State Fault Refusal := .next (wheelFine s)

/-- WHEEL_COARSE_ADVANCE: the shapers of the bucket reached move to their fine buckets, or are placed again (R356). -/
def wheelCoarse (s : State) : State :=
  let pos := (s.tm.coarsePos + 1) % 4096
  let s := withTm (fun t => { t with coarsePos := pos }) s
  let due := (s.tm.shapers.filter (fun e => e.2.wheel.isSome && e.2.coarse && e.2.bucket = pos)).map (·.1)
  due.foldl (fun s k => withShaper k (fun x => placeWheel s (max (x.wheel.getD 0) (rawNs s / 1000 + 1)) x) s) s
def execWheelCoarseAdvance (s : State) : Host.Outcome State Fault Refusal := .next (wheelCoarse s)

/-! Queues (R350, R351). -/

/-- A frame leaves a queue, sent or dropped: its cells are freed, the delta record names it, and a drop frame sent is counted (R350,
R453, R472). -/
def leaveQueue (q id : Nat) (sent : Bool) (s : State) : State :=
  match (queueOf s q).frames.find? (·.id = id) with
  | none => s
  | some f =>
    let s := withQueue q (fun x => { x with
      frames := x.frames.eraseP (·.id = id), sent := if sent then satInc x.sent else x.sent, dropped := if sent then x.dropped else satInc x.dropped }) s
    let s := noteDelta (fun d => { d with queues := d.queues ++ [(q, [crc32c f.data])] }) s
    let s := match f.camp with
      | some (_, m) => if sent then updCnt (if m.isNone then 7 else 8) s else s
      | none => s
    offerQueue q (freeBuf f.buf s)

/-- Frames dropped from every queue: TX_DROP counted and EV_TX_DROP raised for each one (R260, R321). -/
def dropFrames (p : QFrame → Bool) (s : State) : State :=
  let gone := s.tm.queues.flatMap (fun q => (q.2.frames.filter p).map (fun f => (q.1, f.id)))
  gone.foldl (fun s x => raise 0x083 (slotCnt 3 (leaveQueue x.1 x.2 false s))) s

/-- Why a frame is refused by its queue: 0 admitted, else the counter of R359 that counts the drop (R351). -/
def admission (s : State) (q : Nat) (f : QFrame) (colour : Nat) : Nat :=
  let x := queueOf s q
  if colour = 2 then 4
  else if freeCells s < s.tm.reserve && f.cls ≠ 0 then 5
  else if x.port = 6 && x.nbCap ≤ (x.frames.filter (·.neighbour = f.neighbour)).length then 6
  else if x.maxBytes < queueBytes x + f.data.length || x.maxFrames ≤ x.frames.length then 7
  else if colour = 1 && x.yellowPct * x.maxBytes ≤ 100 * queueBytes x then 8
  else 0

/-- The events of a drop (R351). -/
def dropEvents (why q : Nat) (s : State) : State :=
  if why = 7 then
    let last := (queueOf s q).lastFullNs
    let s := withQueue q (fun x => { x with lastFullNs := some (rawNs s) }) s
    raiseIf (match last with | none => true | some t => t + 1000000000 ≤ rawNs s) 0xA9 s
  else if why = 6 && (queueOf s q).nbCapBucket ≠ some (rawSec s) then
    raise 0xAA (withQueue q (fun x => { x with nbCapBucket := some (rawSec s) }) s)
  else s

/-- A frame comes to its queue and is admitted or dropped: the state, and whether it was admitted (R351). -/
def admitFrame (q : Nat) (f : QFrame) (colour : Nat) (s : State) : State × Bool :=
  let why := admission s q f colour
  if why ≠ 0 then (freeBuf f.buf (dropEvents why q (tmCnt why (withQueue q (fun x => { x with dropped := satInc x.dropped }) s))), false)
  else
    let s := withQueue q (fun x => { x with frames := x.frames ++ [{ f with arrivedNs := rawNs s }] }) s
    let s := tmCnt 0 (if f.cls = 0 then tmCnt 10 s else s)
    (offerQueue q s, true)

/-- A frame classified, metered and brought to its queue under a TM_PROFILE: the state, its class, queue and whether it was
admitted (R342-R351). -/
def classifyAdmit (profile16 : Nat) (f : PktFrame) (x : QFrame) (s : State) : State × Nat × Nat × Bool :=
  let raw := if f.unknown then 0 else profile16
  let s := if raw / 4096 = 0 || s.tm.badBucket = some (rawSec s) then s
    else raise 0xAC (withTm (fun t => { t with badBucket := some (rawSec s) }) s)
  let pr := tget 0 s.tm.profiles (raw % 4096)
  let cls := classOf s pr f
  let q := if f.unknown then s.tm.unknownQueue else pr % 4096 + (if bit pr 12 then cls else 0)
  let m := if f.unknown || !bit pr 17 then (s, 0, true)
    else meterFrame (bits pr 30 18 + (if bit pr 31 then cls else 0)) x.data.length
      (match f.ip with | some h => dscpColourOf s (h.dscp % 64) | none => 0) s
  let s := tmCnt (1 + m.2.1) m.1
  let r := admitFrame q { x with cls := cls, frame := { f with cls := cls } } (if m.2.1 = 2 && !m.2.2 then 1 else m.2.1) s
  (r.1, cls, q, r.2)

/-! Serving a port by readiness (R352, R353). -/

/-- The class-0 queue of a port that goes next, round-robin. -/
def nextStrict (s : State) (port : Nat) (skip : Nat → Bool) : Option (Nat × QFrame) :=
  let c := s.tm.queues.filterMap (fun e => if e.2.port = port && e.2.cls = 0 && !skip e.1 then
    (match e.2.frames.head? with | some f => if eligible s e.1 f then some (e.1, f) else none | none => none) else none)
  match tfind s.tm.lastStrict port with
  | some l => (c.find? (fun x => l < x.1)).or c.head?
  | none => c.head?

/-- The DRR round (R353). -/
def drrNext (port : Nat) (skip : Nat → Bool) : Nat → State → State × Option (Nat × QFrame)
  | 0, s => (s, none)
  | k + 1, s =>
    match tget [] s.tm.active port with
    | [] => (s, none)
    | q :: t =>
      let back := fun (s : State) => withTm (fun x => { x with active := tput x.active port (t ++ [q]), drrVisit := tdel x.drrVisit port }) s
      match (queueOf s q).frames.head? with
      | none => drrNext port skip k (offerQueue q s)
      | some f =>
        if !eligible s q f then drrNext port skip k (offerQueue q s)
        else if skip q then drrNext port skip k (back s)
        else
          let s := if tfind s.tm.drrVisit port = some q then s
            else withTm (fun x => { x with drrVisit := tput x.drrVisit port q }) (withQueue q (fun x => { x with deficit := x.deficit + x.quantum }) s)
          if (f.data.length : Int) ≤ (queueOf s q).deficit then (s, some (q, f)) else drrNext port skip k (back s)

/-- The next frame of a port: class 0 first (R352). -/
def nextFrame (port : Nat) (skip : Nat → Bool) (s : State) : State × Option (Nat × QFrame) :=
  let s := (s.tm.queues.filter (fun e => e.2.port = port && e.2.cls = 0)).foldl (fun s e => evalShaper e.1 s) s
  match nextStrict s port skip with
  | some x => (withTm (fun t => { t with lastStrict := tput t.lastStrict port x.1 }) s, some x)
  | none =>
    let l := tget [] s.tm.active port
    let longest := (l.map (fun q => match (queueOf s q).frames.head? with | some f => f.data.length | none => 0)).foldl max 0
    drrNext port skip ((l.length + 1) * (longest / 64 + 3)) s

/-- The frame chosen is sent: its deficit and its shaper are charged and it leaves (R353, R355). -/
def sendFrame (q : Nat) (f : QFrame) (s : State) : State :=
  let s := if (queueOf s q).cls = 0 then s else withQueue q (fun x => { x with deficit := x.deficit - f.data.length }) s
  leaveQueue q f.id true (chargeShaper q f s)

/-! Port AIR (R354). -/

/-- The oldest frame for a peer in a queue, none where it is bound to a plan. -/
def airHead (q : QueueSt) (peer : Nat) : Option QFrame :=
  match q.frames.find? (·.neighbour = peer) with
  | some f => if f.bound then none else some f
  | none => none

/-- The candidates for a peer: eligible, of the mask, and fitting. -/
def airCandidates (s : State) (peer mask : Nat) (fits : QFrame → Bool) : List (Nat × QFrame) :=
  s.tm.queues.filterMap (fun e => if e.2.port ≠ 6 then none else match airHead e.2 peer with
    | some f => if eligible s e.1 f && bit mask f.cls && fits f then some (e.1, f) else none
    | none => none)

/-- A frame is bound to a plan and charged; it keeps its place (R354, R355). -/
def bindFrame (q id : Nat) (s : State) : State :=
  match (queueOf s q).frames.find? (·.id = id) with
  | none => s
  | some f =>
    let s := chargeShaper q f s
    evalShaper q (withQueue q (fun x => { x with frames := x.frames.map (fun y => if y.id = id then { y with bound := true, charged := true } else y) }) s)

/-- A bound frame returns to its place (R244, R256, R257). -/
def unbindFrame (q id : Nat) (s : State) : State :=
  withQueue q (fun x => { x with frames := x.frames.map (fun y => if y.id = id then { y with bound := false } else y) }) s

/-- tm_next (R278, R354): the frame bound for a peer, with its queue. -/
def tmNext (peer mask : Nat) (fits : QFrame → Bool) (s : State) : State × Option (Nat × QFrame) :=
  let s := (s.tm.queues.filter (fun e => e.2.port = 6)).foldl (fun s e => evalShaper e.1 s) s
  let c := airCandidates s peer mask fits
  match (c.filter (fun x => (queueOf s x.1).cls = 0)).foldl (fun b x => match b with
      | none => some x
      | some y => if x.2.arrivedNs < y.2.arrivedNs then some x else b) none with
  | some x => (bindFrame x.1 x.2.id s, some x)
  | none =>
    if c.isEmpty then (s, none)
    else
      let short := fun (x : Nat × QFrame) => (x.2.data.length : Int) - (queueOf s x.1).deficit
      let rounds := fun (x : Nat × QFrame) => (cdivI (short x) (max 1 (queueOf s x.1).quantum)).toNat
      let k := (c.map rounds).foldl min (match c.head? with | some x => rounds x | none => 0)
      let s := c.foldl (fun s x => withQueue x.1 (fun q => { q with deficit := q.deficit + k * q.quantum }) s) s
      match (c.filter (fun x => (x.2.data.length : Int) ≤ (queueOf s x.1).deficit)).foldl (fun b x => match b with
          | none => some x
          | some y => if (queueOf s y.1).deficit < (queueOf s x.1).deficit then some x else b) none with
      | none => (s, none)
      | some x => (bindFrame x.1 x.2.id (withQueue x.1 (fun q => { q with deficit := q.deficit - x.2.data.length }) s), some x)

/-! Commands (R361, R362). -/

/-- The ranges of TM_QUEUE_CFG; DL2 is refused while it is the twin port (R350). -/
def queueCfgOk (p : TmQueueCfgP) (s : State) : Bool :=
  p.port ≤ 7 && p.cls ≤ 7 && p.ring ≤ 31 && 64 ≤ p.quantum && 2048 ≤ p.maxBytes && p.maxBytes ≤ 8388608 && 1 ≤ p.maxFrames &&
    p.maxFrames ≤ 32768 && p.yellowPct ≤ 100 && (p.shaper < 2048 || p.shaper = 0xFFFF) && 1 ≤ p.nbCap &&
    !(p.port = 4 && (portOf s 2).role = 1)

/-- TM_QUEUE_CFG. -/
def tmQueueCfg (h : Hdr) (p : TmQueueCfgP) (s : State) : Res :=
  let q := h.flow
  let x := queueOf s q
  if !queueCfgOk p s then refuse s stBadParam
  else if (p.port ≠ x.port && !x.frames.isEmpty) || (q = s.tm.unknownQueue && p.port ≠ 5) then refuse s stBusy
  else
    let s := withTm (fun t => { t with active := tput t.active x.port ((tget [] t.active x.port).filter (· ≠ q || p.cls ≠ 0 && p.port = x.port)) }) s
    let s := withQueue q (fun x => { x with
      port := p.port, cls := p.cls, ring := p.ring, quantum := p.quantum, maxBytes := p.maxBytes, maxFrames := p.maxFrames,
      yellowPct := p.yellowPct, shaper := p.shaper, nbCap := p.nbCap }) s
    done (offerQueue q s)
def execTmQueueCfg (h : Hdr) (p : TmQueueCfgP) (s : State) : Host.Outcome State Fault Refusal := agentRun h (.tmQueueCfg p) (tmQueueCfg h p) s

/-- The ranges of TM_METER_CFG. -/
def meterCfgOk (p : TmMeterCfgP) : Bool :=
  p.mode ≤ 2 && p.colourAware ≤ 1 && p.redAction ≤ 1 && p.cirKbps ≤ 40000000 && 64 ≤ p.cbs && p.cbs ≤ 16777216 && 64 ≤ p.pbsEbs &&
    p.pbsEbs ≤ 16777216 && (p.mode ≠ 1 || (p.cirKbps ≤ p.pirKbps && p.pirKbps ≤ 40000000))

/-- TM_METER_CFG: every bucket full (R349). -/
def tmMeterCfg (h : Hdr) (p : TmMeterCfgP) (s : State) : Res :=
  if !meterCfgOk p then refuse s stBadParam
  else done (withTm (fun t => { t with meters := tmod {} t.meters (h.flow - 0x1000) (fun m => { m with
    mode := p.mode, aware := p.colourAware = 1, redAction := p.redAction, cirKbps := p.cirKbps, cbs := p.cbs, pirKbps := p.pirKbps,
    pbsEbs := p.pbsEbs, tc := 256 * p.cbs, tp := 256 * p.pbsEbs, lastNs := rawNs s, cRem := 0, pRem := 0 }) }) s)
def execTmMeterCfg (h : Hdr) (p : TmMeterCfgP) (s : State) : Host.Outcome State Fault Refusal := agentRun h (.tmMeterCfg p) (tmMeterCfg h p) s

/-- TM_SHAPER_CFG (R357). -/
def tmShaperCfg (h : Hdr) (p : TmShaperCfgP) (s : State) : Res :=
  let k := h.flow - 0x3000
  if p.rate10bps < 10 || 4000000000 < p.rate10bps || p.burst < 2048 || 16777216 < p.burst || 1 < p.tokenOnChange then refuse s stBadParam
  else
    let s := withShaper k (fun x => { x with
      rate := p.rate10bps, burst := p.burst, t := if p.tokenOnChange = 0 then 256 * p.burst else 0, lastNs := rawNs s, rem := 0,
      wheel := none }) s
    done ((queuesOfShaper s k).foldl (fun s q => offerQueue q s) s)
def execTmShaperCfg (h : Hdr) (p : TmShaperCfgP) (s : State) : Host.Outcome State Fault Refusal := agentRun h (.tmShaperCfg p) (tmShaperCfg h p) s

/-- A profile R343 allows. -/
def profileOk (e : Nat) : Bool :=
  e < 2 ^ 32 && (!bit e 12 || e % 4096 + 7 ≤ 4095) && (!bit e 31 || bits e 30 18 + 7 ≤ 8191)

/-- A 64-entry map as a table. -/
def mapTable (m : List Nat) : Tbl Nat := (List.range 64).map (fun i => (i, nth 0 m i))

/-- TM_CLASS_MAP; index is the profile, or the port-table entry of op 3. -/
def tmClassMap (_h : Hdr) (p : TmClassMapP) (s : State) : Res :=
  if p.op = 0 then
    if 4095 < p.index || !profileOk p.entry then refuse s stBadParam
    else done (withTm (fun t => { t with profiles := tput t.profiles p.index p.entry }) s)
  else if p.op = 1 then
    if p.map.length ≠ 64 || p.map.any (7 < ·) then refuse s stBadParam
    else done (withTm (fun t => { t with dscpClass := mapTable p.map }) s)
  else if p.op = 2 then
    if p.map.length ≠ 64 || p.map.any (2 < ·) then refuse s stBadParam
    else done (withTm (fun t => { t with dscpColour := mapTable p.map }) s)
  else if p.op = 3 then
    if 15 < p.index || 1 < p.enable || 7 < p.cls then refuse s stBadParam
    else done (withTm (fun t => { t with
      portTable := if p.enable = 1 then tput t.portTable p.index (p.udpPort, p.cls) else tdel t.portTable p.index }) s)
  else if p.op = 4 then
    if 4095 < p.unknownQueue || (queueOf s p.unknownQueue).port ≠ 5 || 8192 < p.reserveCells then refuse s stBadParam
    else done (withTm (fun t => { t with unknownQueue := p.unknownQueue, reserve := p.reserveCells }) s)
  else refuse s stBadParam
def execTmClassMap (h : Hdr) (p : TmClassMapP) (s : State) : Host.Outcome State Fault Refusal := agentRun h (.tmClassMap p) (tmClassMap h p) s

/-- What a shaper's queues offer next: the first head frame of its queues (R362). -/
def shaperHead (s : State) (k : Nat) : Option QFrame := (queuesOfShaper s k).findSome? (fun q => headOf (queueOf s q))

/-- TM_STATS (R362). -/
def tmStats (h : Hdr) (p : TmStatsP) (s : State) : Res :=
  if 1 < p.clear then refuse s stBadParam
  else if h.flow < 0x1000 then
    let x := queueOf s h.flow
    done (if p.clear = 1 then withQueue h.flow (fun x => { x with sent := 0, dropped := 0 }) s else s)
      (le 4 (queueBytes x) ++ le 2 x.frames.length ++ le 4 x.sent ++ le 4 x.dropped ++ leS 4 x.deficit)
  else if h.flow < 0x3000 then
    let m := meterOf s (h.flow - 0x1000)
    done (if p.clear = 1 then withTm (fun t => { t with
        meters := tmod {} t.meters (h.flow - 0x1000) (fun m => { m with green := 0, yellow := 0, red := 0 }) }) s else s)
      (le 4 m.green ++ le 4 m.yellow ++ le 4 m.red ++ le 4 (m.tc / 256) ++ le 4 (m.tp / 256))
  else
    let k := h.flow - 0x3000
    let x := if (shaperOf s k).wheel.isSome then shaperOf s k else accrue (rawNs s) (shaperOf s k)
    let ok := match shaperHead s k with
      | some f => x.wheel.isNone && needOf x f.data.length ≤ x.t
      | none => x.wheel.isNone && 0 ≤ x.t
    let te := match shaperHead s k, x.wheel with
      | some _, some t => 1000 * t
      | some f, none => if ok then 0 else 1000 * eligibleUs x (rawNs s) f.data.length
      | none, _ => 0
    done (if p.clear = 1 then withShaper k (fun x => { x with released := 0 }) s else s)
      (leS 4 (x.t / 256) ++ le 1 (b2n x.wheel.isSome + 2 * b2n ok) ++ zeros 3 ++ le 8 te ++ le 4 x.released)
def execTmStats (h : Hdr) (p : TmStatsP) (s : State) : Host.Outcome State Fault Refusal := agentRun h (.tmStats p) (tmStats h p) s

end Sys2Proof.Machine
end

