-- ==== Sys2Proof/Machine/Budg.lean ====
section
/-!
DEFINITION. The air budget: sub-bands, buckets, checks, reservations (R295-R302, R306-R309).
-/
namespace Sys2Proof.Machine

/-- What a transmission of a PHY mode occupies around its carrier, in 25 kHz units (R296). -/
def spanOf (carrier phy : Nat) : Nat × Nat := (4 * carrier - occupied phy, 4 * carrier + occupied phy)

/-- A sub-band overlaps a span by more than an edge, and by how much (R296). -/
def overlaps (b : Band) (sp : Nat × Nat) : Bool := sp.1 < 4 * b.fHigh && 4 * b.fLow < sp.2
def overlapBy (b : Band) (sp : Nat × Nat) : Nat := min sp.2 (4 * b.fHigh) - max sp.1 (4 * b.fLow)

/-- The sub-bands charged, by index. -/
def chargedBands (s : State) (carrier phy : Nat) : List Nat :=
  (List.range s.budg.bands.length).filter (fun j => overlaps (nth {} s.budg.bands j) (spanOf carrier phy))

/-- The transmission is forbidden: it overlaps no sub-band, extends beyond those it overlaps, or is longer than a limit (R296,
R300). -/
def forbidden (s : State) (carrier phy us : Nat) : Bool :=
  let sp := spanOf carrier phy
  let js := chargedBands s carrier phy
  js.isEmpty || (js.map (fun j => overlapBy (nth {} s.budg.bands j) sp)).sum < sp.2 - sp.1 ||
    js.any (fun j => let b := nth {} s.budg.bands j
      b.maxOnMs ≠ 0 && 1000 * b.maxOnMs < us)

/-- Counter D of a scope in a bucket: chain 0-3, or 4 for the aggregate (R297). -/
def debitOf (s : State) (bucket band scope : Nat) : Nat :=
  ((s.budg.debits.filter (fun d => d.bucket = bucket && d.band = band && d.scope = scope)).map (·.us)).sum

/-- U of a scope for bucket b (R298). -/
def usage (s : State) (band scope b : Nat) : Nat :=
  ((s.budg.debits.filter (fun d => d.band = band && d.scope = scope && d.bucket ≤ b && b < d.bucket + s.budg.windowS)).map (·.us)).sum

/-- The limit of a scope, in us (R298). -/
def limitOf (s : State) (band scope : Nat) : Nat :=
  let b := nth {} s.budg.bands band
  (if scope = 4 then b.aggPpm else b.chainPpm) * s.budg.windowS

/-- A scope is above its warning level, and is not below it (R301). -/
def aboveWarn (s : State) (band scope b : Nat) : Bool := s.budg.warnPct * limitOf s band scope < 100 * usage s band scope b
def atWarn (s : State) (band scope b : Nat) : Bool :=
  usage s band scope b ≠ 0 && s.budg.warnPct * limitOf s band scope ≤ 100 * usage s band scope b

/-- A counter changed by us, never below zero (R299). -/
def addDebit (bucket band scope : Nat) (us : Int) (l : List Debit) : List Debit :=
  if l.any (fun d => d.bucket = bucket && d.band = band && d.scope = scope) then
    (l.map (fun d => if d.bucket = bucket && d.band = band && d.scope = scope then { d with us := (max 0 ((d.us : Int) + us)).toNat } else d)).filter (·.us ≠ 0)
  else if us ≤ 0 then l else l ++ [{ bucket := bucket, band := band, scope := scope, us := us.toNat }]

/-- A debit of every scope charged: the chain's and the aggregate's counters (R297). -/
def debitAll (bucket chain : Nat) (bands : List Nat) (us : Int) (s : State) : State :=
  withBudg (fun b => { b with debits := bands.foldl (fun l j => addDebit bucket j 4 us (addDebit bucket j chain us l)) b.debits }) s

/-- NEAR and EV_BUDGET_NEAR for the scopes charged (R301). -/
def nearCheck (bucket chain : Nat) (bands : List Nat) (s : State) : State :=
  (bands.flatMap (fun j => [(j, chain), (j, 4)])).foldl (fun s x =>
    if aboveWarn s x.1 x.2 bucket && !s.budg.nearSeen.contains (5 * x.1 + x.2, bucket) then
      raise 0xA0 (withBudg (fun b => { b with near := true, nearSeen := (5 * x.1 + x.2, bucket) :: b.nearSeen }) s)
    else s) s

/-- The bands whose scopes the airtime would exceed (R298). -/
def failing (s : State) (bucket chain us : Nat) (bands : List Nat) : List Nat :=
  bands.filter (fun j => limitOf s j chain < usage s j chain bucket + us || limitOf s j 4 < usage s j 4 bucket + us)

/-- The budget check of a transmission: debited where it passes (R296-R298, R301). -/
def budgetCheck (carrier phy chain us bucket : Nat) (s : State) : State × Bool :=
  if forbidden s carrier phy us then (raise 0xA2 (withBudg (fun b => { b with cnt := bump b.cnt 2 }) s), false)
  else
    let js := chargedBands s carrier phy
    let bad := failing s bucket chain us js
    if bad.isEmpty then
      (nearCheck bucket chain js (debitAll bucket chain js us (withBudg (fun b => { b with cnt := bump b.cnt 0 }) s)), true)
    else
      let s := withBudg (fun b => { b with cnt := bump b.cnt 1 }) s
      (bad.foldl (fun s j => if s.budg.refused.contains (j, bucket) then s
        else raise 0xA1 (withBudg (fun b => { b with refused := (j, bucket) :: b.refused }) s)) s, false)

/-- A reservation's debit replaced by the airtime sent (R299). -/
def settleDebit (carrier phy chain bucket reserved sent : Nat) (s : State) : State :=
  let s := debitAll bucket chain (chargedBands s carrier phy) (-(reserved : Int)) s
  debitAll bucket chain (chargedBands s carrier phy) sent (withBudg (fun b => { b with cnt := bump b.cnt 3 }) s)

/-- The bucket that contains an instant of S converted to raw time (R297). -/
def bucketAt (s : State) (sNs : Int) : Nat := ((rawNs s + (sNs - selNs s)) / 1000000000).toNat

/-- A sub-band entry in its ranges (R295). -/
def subBandOk (e : SubBand) : Bool := e.fLow < e.fHigh && e.chainPpm ≤ 1000000 && e.aggPpm ≤ 1000000

/-- No two sub-bands share more than an edge. -/
def apart : List SubBand → Bool
  | [] => true
  | e :: t => t.all (fun f => e.fHigh ≤ f.fLow || f.fHigh ≤ e.fLow) && apart t

/-- BUDG_REGION_LOAD: sub-bands with unchanged edges keep their counters (R295, R300). -/
def budgRegionLoad (_h : Hdr) (p : BudgRegionLoadP) (s : State) : Res :=
  if p.windowS < 60 || 7200 < p.windowS || p.warnPct < 50 || 100 < p.warnPct || p.entries.isEmpty || 32 < p.entries.length ||
      !p.entries.all subBandOk || !apart p.entries then refuse s stBadParam
  else
    let bands := p.entries.map (fun e => ({ fLow := e.fLow, fHigh := e.fHigh, chainPpm := e.chainPpm, aggPpm := e.aggPpm, maxOnMs := e.maxOnMs } : Band))
    let moved := fun j => (List.range bands.length).find? (fun i =>
      (nth {} bands i).fLow = (nth {} s.budg.bands j).fLow && (nth {} bands i).fHigh = (nth {} s.budg.bands j).fHigh)
    done (withBudg (fun b => { b with
      loaded := true, regionId := p.regionId, windowS := p.windowS, warnPct := p.warnPct, bands := bands,
      debits := b.debits.filterMap (fun d => (moved d.band).map (fun i => { d with band := i })), refused := [], nearSeen := [] }) s)
def execBudgRegionLoad (h : Hdr) (p : BudgRegionLoadP) (s : State) : Host.Outcome State Fault Refusal :=
  agentRun h (.budgRegionLoad p) (budgRegionLoad h p) s

/-- A usage in ms, rounded up. -/
def usageMs (s : State) (band scope : Nat) : Nat := cdiv (usage s band scope (rawSec s)) 1000

/-- BUDG_STATUS (R309). -/
def budgStatus (_h : Hdr) (p : BudgStatusP) (s : State) : Res :=
  if 31 < p.subband || 1 < p.clear then refuse s stBadParam
  else
    let near := (List.range 5).any (fun k => atWarn s p.subband k (rawSec s))
    done (if p.clear = 1 then withBudg (fun b => { b with cnt := [] }) s else s)
      (le 4 (usageMs s p.subband 4) ++ (List.range 4).flatMap (fun k => le 4 (usageMs s p.subband k)) ++
        le 2 (nth {} s.budg.bands p.subband).fLow ++ le 1 (b2n near))
def execBudgStatus (h : Hdr) (p : BudgStatusP) (s : State) : Host.Outcome State Fault Refusal := agentRun h (.budgStatus p) (budgStatus h p) s

/-- BUDGET_BUCKET_EXPIRY: buckets older than 7,200 s leave the history, and NEAR clears where every scope is below its level
(R300-R302). -/
def budgetExpiry (s : State) : State :=
  let now := rawSec s
  let s := withBudg (fun b => { b with
    debits := b.debits.filter (fun d => now < d.bucket + 7200), refused := b.refused.filter (fun x => now ≤ x.2),
    nearSeen := b.nearSeen.filter (fun x => now ≤ x.2) }) s
  if (List.range s.budg.bands.length).all (fun j => (List.range 5).all (fun k => !atWarn s j k now)) then
    withBudg (fun b => { b with near := false }) s
  else s
def execBudgetBucketExpiry (s : State) : Host.Outcome State Fault Refusal := .next (budgetExpiry s)

end Sys2Proof.Machine
end

