-- ==== Sys2Proof/Machine/Tbl.lean ====
section
/-!
DEFINITION. The node, neighbour and prefix tables, learning and aging (R310-R340).
-/
namespace Sys2Proof.Machine

/-- The neighbour's entry is to be in the delta record's NEIGHBOUR section, and its window in the REPLAY section (R472). -/
def noteNbr (n : Nat) (s : State) : State :=
  noteDelta (fun d => { d with nbrs := if d.nbrs.any (·.1 = n) then d.nbrs else d.nbrs ++ [(n, [])] }) s
def noteReplay (n : Nat) (s : State) : State :=
  noteDelta (fun d => { d with replay := if d.replay.any (·.nbr = n) then d.replay else d.replay ++ [{ nbr := n }] }) s

/-! Entries as bytes. -/

/-- Even parity over a byte string, as one bit. -/
def parity (l : List Byte) : Nat := (l.foldl (fun (n : Nat) b => n + popcount b.toNat 8) 0) % 2

/-- The flags byte 10 of a node entry (R313). -/
def nodeFlags (e : NodeE) : Nat :=
  1 + 2 * e.kind + 4 * b2n e.direct + 8 * b2n e.hit + 16 * b2n e.mark + 32 * b2n e.static + 64 * b2n e.nhValid

/-- The 64 bytes of a node entry (R313). -/
def nodeBytes (e : NodeE) : List Byte :=
  let b := le 8 e.addr ++ le 2 e.panId ++ le 1 (nodeFlags e) ++ zeros 1 ++ le 2 e.nextHop ++ le 2 e.tmProfile ++ le 4 e.learnTime ++
    zeros 4 ++ fit 32 e.hostData ++ zeros 7
  b ++ le 1 (((List.range 8).map (fun i => 2 ^ i * parity ((b.drop (8 * i)).take 8))).sum)

/-- A ZAO map packed as R205 has it: code i in bits [3i+2:3i] of 288. -/
def packMap (m : List Nat) : List Byte := le 36 (((List.range 96).map (fun i => 2 ^ (3 * i) * (nth 0 m i % 8))).sum)
def unpackMap (l : List Byte) : List Nat :=
  let n := ofLe l
  if n = 0 then [] else (List.range 96).map (fun i => n / 2 ^ (3 * i) % 8)

/-- Bytes 37 and 38 of a neighbour entry (R317). -/
def nbrByte37 (e : NbrE) : Nat :=
  b2n e.valid + 2 * b2n e.hit + 4 * b2n e.mark + 8 * b2n e.static + 16 * b2n e.pin + 32 * b2n e.zao + 64 * b2n e.upPending + 128 * b2n e.seqValid
def nbrByte38 (e : NbrE) : Nat := e.upSeq + 16 * e.downSeq

/-- Bytes 38-45 and 48-251 of a neighbour entry (R317). -/
def nbrLink (e : NbrE) : List Byte :=
  le 1 (nbrByte38 e) ++ le 1 (e.xcount + 32 * e.upRate + 128 * b2n e.upValid) ++
    le 1 (e.downRate + 4 * b2n e.downValid + 8 * e.be) ++ le 1 e.backoff ++ leS 2 e.rssiAvg ++ le 1 e.lqiAvg ++
    le 1 (b2n e.dstShort + 2 * b2n e.winEmpty)
def nbrMaps (e : NbrE) : List Byte := packMap e.upMap ++ packMap e.upPrev ++ packMap e.downMap ++ fit 96 (e.snr.map (fun c => BitVec.ofNat 8 c))

/-- The 256 bytes of a neighbour entry, RX_MAP with bit i for H - 1 - i (R317). -/
def nbrBytes (e : NbrE) : List Byte :=
  let a := le 8 e.eui64 ++ le 2 e.short ++ le 2 e.panId ++ le 2 e.keySlot ++ le 2 e.keyGen ++ le 4 e.rxH ++ le 8 e.rxMap ++
    le 4 e.lastHeard ++ le 4 e.seqTime ++ le 1 e.lastSeq ++ le 1 (nbrByte37 e) ++ nbrLink e
  let b := zeros 1 ++ nbrMaps e ++ zeros 4
  let whole := a ++ zeros 1 ++ b
  a ++ le 1 (((List.range 8).map (fun i => 2 ^ i * parity ((whole.drop (32 * i)).take 32))).sum) ++ b

/-- A neighbour entry with bytes 38-251 as another chip sent them (R472). -/
def nbrSetLink (l : List Byte) (e : NbrE) : NbrE :=
  let b := fun i => (nth 0 l (i - 38)).toNat
  { e with
    upSeq := b 38 % 16, downSeq := b 38 / 16, xcount := b 39 % 32, upRate := b 39 / 32 % 4, upValid := bit (b 39) 7,
    downRate := b 40 % 4, downValid := bit (b 40) 2, be := b 40 / 8 % 8, backoff := b 41,
    rssiAvg := if b 43 ≥ 128 then (b 42 + 256 * b 43 : Int) - 65536 else b 42 + 256 * b 43, lqiAvg := b 44, dstShort := bit (b 45) 0,
    upMap := unpackMap ((l.drop 10).take 36), upPrev := unpackMap ((l.drop 46).take 36), downMap := unpackMap ((l.drop 82).take 36),
    snr := ((l.drop 118).take 96).map (·.toNat) }

/-- Bytes 38-251 of a neighbour entry. -/
def nbrTail (e : NbrE) : List Byte := ((nbrBytes e).drop 38).take 214

/-! Keys and the node table (R311, R314, R315). -/

/-- A key in the form of R311. -/
def keyOk (kind panId addr : Nat) : Bool := (kind = 0 && panId = 0xFFFF && addr < 2 ^ 64) || (kind = 1 && addr < 65536 && panId < 0xFFFF)

/-- h1 and h2 (R314). -/
def bucketsOf (s : State) (panId addr : Nat) : Nat × Nat :=
  let c := crcOf 2 s.tbl.hashSeed (le 2 panId ++ le 8 addr)
  let h1 := c % 65536
  let h2 := c / 65536
  (h1, if h2 = h1 then h1 ^^^ 1 else h2)

/-- The eight ways of a key, by position. -/
def waysOf (s : State) (panId addr : Nat) : List Nat :=
  let h := bucketsOf s panId addr
  (List.range 4).map (fun w => 4 * h.1 + w) ++ (List.range 4).map (fun w => 4 * h.2 + w)

/-- The way that holds a key (R315). -/
def findNode (s : State) (kind panId addr : Nat) : Option (Nat × NodeE) :=
  (waysOf s panId addr).findSome? (fun w =>
    match tfind s.tbl.nodes w with
    | some e => if e.kind = kind && e.panId = panId && e.addr = addr then some (w, e) else none
    | none => none)

/-- s with node entry at a position changed. -/
def withNode (pos : Nat) (f : NodeE → NodeE) (s : State) : State :=
  withTbl (fun t => { t with nodes := t.nodes.map (fun e => if e.1 = pos then (e.1, f e.2) else e) }) s

/-- An access of a cache set: the entry comes to the front, and the least recent entry that is not pinned leaves (R315, R319). -/
def cacheTouch (ways : Nat) (pinned : Nat → Bool) (l : List Nat) (x : Nat) : List Nat :=
  let l := x :: l.filter (· ≠ x)
  if l.length ≤ ways then l
  else match l.reverse.find? (fun y => !pinned y && y ≠ x) with
    | some y => l.filter (· ≠ y)
    | none => l.take ways

/-- A parity failure met by a lookup: a miss, counted and reported (R328). -/
def parityMiss (s : State) : State := raise 0xC0 (tblCnt 6 s)

/-- A node lookup of the fast path: both buckets come into the bucket cache, hits and misses are counted, and an entry that
fails its parity check is a miss (R315, R328, R337). -/
def nodeLookup (kind panId addr : Nat) (s : State) : State × Option (Nat × NodeE) :=
  let h := bucketsOf s panId addr
  let s := withTbl (fun t => { t with bucketCache := [h.1, h.2].foldl (fun c b =>
    tput c (b % 4096) (cacheTouch 2 (fun _ => false) (tget [] c (b % 4096)) b)) t.bucketCache }) s
  match findNode s kind panId addr with
  | some (w, e) => if e.bad then (tblCnt 1 (parityMiss s), none) else (tblCnt 0 s, some (w, e))
  | none => (tblCnt 1 s, none)

/-- A neighbour lookup of the fast path: the entry where it is valid (R319, R326, R328). -/
def nbrLookup (n : Nat) (s : State) : State × Option NbrE :=
  let l := tget [] s.tbl.nbrCache (n % 2048)
  let s := tblCnt (if l.contains n then 2 else 3) s
  let s := withTbl (fun t => { t with nbrCache := tput t.nbrCache (n % 2048) (cacheTouch 4 (fun y => (tget {} t.nbrs y).pin) l n) }) s
  let e := nbrOf s n
  if e.valid && e.bad then (parityMiss s, none) else if e.valid then (s, some e) else (s, none)

/-- HIT of a node and of a neighbour entry (R327). -/
def nodeHit (pos : Nat) (s : State) : State := withNode pos (fun e => { e with hit := true }) s
def nbrHit (n : Nat) (s : State) : State := if (nbrOf s n).valid then withNbr n (fun e => { e with hit := true }) s else s

/-! The prefix trie by its prefixes (R322-R325). -/

/-- The leading plen bits of 64. -/
def lead (x plen : Nat) : Nat := x / 2 ^ (64 - plen) * 2 ^ (64 - plen)

/-- The longest prefix installed that matches. -/
def longest (s : State) (dst : Nat) : Option PrefixE :=
  s.tbl.prefixes.foldl (fun b p =>
    if lead dst p.plen = p.pfx then (match b with | some q => if q.plen ≤ p.plen then some p else b | none => some p) else b) none

/-- The trie lookup of the fast path (R325, R328, R337). -/
def trieLookup (dst : Nat) (s : State) : State × Option PrefixE :=
  let s := tblCnt 4 s
  match longest s dst with
  | some p => if p.bad then (tblCnt 5 (parityMiss s), none) else (s, some p)
  | none => (tblCnt 5 s, none)

/-- Nodes used in each stage's pool, stages 2-7 (R324). -/
def poolUse (ps : List PrefixE) : List Nat :=
  (List.range 6).map (fun i => (((ps.filter (fun p => 8 * (i + 2) < p.plen)).map (fun p => p.pfx / 2 ^ (64 - 8 * (i + 2)))).eraseDups).length)

/-- The result word (R323). -/
def resultWord (p : PrefixE) : Nat :=
  let w := p.action + 4 * p.port + 65536 * p.panId + 2 ^ 32 * p.tmProfile + 2 ^ 48 * p.plen
  w + 2 ^ 63 * (popcount w 63 % 2)

/-- The prefixes replaced: pool high marks and EV_TRIE_POOL_LOW follow (R337, R338). -/
def setPrefixes (ps : List PrefixE) (s : State) : State :=
  let was := poolUse s.tbl.prefixes
  let now := poolUse ps
  let low := (List.range 6).any (fun i => nth 0 was i * 100 < s.tbl.nearPct * 896 && s.tbl.nearPct * 896 ≤ nth 0 now i * 100)
  let s := withTbl (fun t => { t with
    prefixes := ps, poolHigh := (List.range 6).foldl (fun h i => tput h i (max (tget 0 h i) (nth 0 now i))) t.poolHigh }) s
  raiseIf low 0xC6 s

/-! Learn records (R333-R336). -/

/-- Records in the learn ring that the host has not read, and the ring is full. -/
def learnUnread (s : State) : Nat := (s.tbl.learnTail + 2 ^ s.tbl.learnLog2 - s.tbl.learnHead) % 2 ^ s.tbl.learnLog2
def learnFull (s : State) : Bool := learnUnread s + 1 ≥ 2 ^ s.tbl.learnLog2

/-- A learn record goes to the ring, byte 0 last; a full ring drops it (R335, R336). -/
def putRecord (kind : Nat) (body : List Byte) (s : State) : State :=
  if !s.tbl.learnEnable then s
  else if learnFull s then raise 0xC2 (tblCnt 9 s)
  else
    let t := s.tbl
    let wrap := t.learnTail + 1 = 2 ^ t.learnLog2
    let rec64 := le 1 (kind + 128 * b2n t.learnPhase) ++ fit 63 body
    let s := hostWrite (t.learnBase + 64 * t.learnTail) rec64 s
    let s := withTbl (fun t => { t with
      learnTail := if wrap then 0 else t.learnTail + 1, learnPhase := if wrap then !t.learnPhase else t.learnPhase }) s
    raise 0xC1 (tblCnt 7 s)

/-- One observation (R335). -/
def obsBytes (o : LearnObs) : List Byte := le 1 o.port ++ le 1 o.lane ++ le 1 o.chain ++ le 1 o.lqi ++ leS 2 o.rssi

/-- A LEARN record (R335). -/
def learnRecord (l : LearnLock) (unmerged : Bool) (s : State) : State :=
  putRecord 1 (le 1 (l.obs.length + 16 * l.extra) ++ le 1 (l.kind + 2 * b2n unmerged + 4 * b2n l.inserted + 8 * b2n l.wasPresent) ++ zeros 1 ++
    le 2 l.panId ++ zeros 2 ++ le 8 l.addr ++ fit 42 (l.obs.flatMap obsBytes) ++ le 4 (l.firstUs % 2 ^ 32)) s

/-- An AGED, EVICTED or PARITY record: kind 2-4, table 0 node, 1 neighbour, 2 trie (R335). -/
def goneRecord (kind table keyKind panId addr index : Nat) (s : State) : State :=
  putRecord kind (zeros 1 ++ le 1 keyKind ++ le 1 table ++ le 2 panId ++ zeros 2 ++ le 8 addr ++ le 4 index ++ le 4 (rawSec s % 2 ^ 32)) s

/-- A lock of this key. -/
def isLock (kind panId addr : Nat) (l : LearnLock) : Bool := l.kind = kind && l.panId = panId && l.addr = addr

/-- A learn observation (R333, R334). -/
def observe (kind panId addr : Nat) (o : LearnObs) (s : State) : State :=
  if !s.tbl.learnEnable then s
  else
    let present := (findNode s kind panId addr).isSome
    let fresh : LearnLock := {
      kind := kind, panId := panId, addr := addr, obs := [o], wasPresent := present, firstUs := rawNs s / 1000,
      dueNs := rawNs s + s.tbl.windowMs * 1000000 }
    match s.tbl.locks.find? (isLock kind panId addr) with
    | some l =>
      if l.holdoff then tblCnt 8 s
      else withTbl (fun t => { t with locks := t.locks.map (fun x => if isLock kind panId addr x then
        (if x.obs.length < 7 then { x with obs := x.obs ++ [o] } else { x with extra := min 15 (x.extra + 1) }) else x) }) s
    | none =>
      if 1024 ≤ s.tbl.locks.length then raise 0xC3 (learnRecord fresh true s)
      else if s.tbl.windowMs = 0 then
        let s := learnRecord fresh false s
        if s.tbl.holdoffMs = 0 then s
        else withTbl (fun t => { t with locks := t.locks ++ [{ fresh with holdoff := true, dueNs := rawNs s + t.holdoffMs * 1000000 }] }) s
      else withTbl (fun t => { t with locks := t.locks ++ [fresh] }) s

/-- LEARN_WINDOW_EXPIRY: the record is written, and the lock held for the holdoff (R334). -/
def learnWindow (kind panId addr : Nat) (s : State) : State :=
  match s.tbl.locks.find? (isLock kind panId addr) with
  | none => s
  | some l =>
    if l.holdoff || rawNs s < l.dueNs then s
    else
      let s := learnRecord l false s
      withTbl (fun t => { t with locks := t.locks.map (fun x => if isLock kind panId addr x then
        { x with holdoff := true, dueNs := rawNs s + t.holdoffMs * 1000000 } else x) }) s
def execLearnWindowExpiry (kind panId addr : Nat) (s : State) : Host.Outcome State Fault Refusal := .next (learnWindow kind panId addr s)

/-- LEARN_HOLDOFF_EXPIRY: the lock is freed (R334). -/
def learnHoldoff (kind panId addr : Nat) (s : State) : State :=
  withTbl (fun t => { t with locks := t.locks.filter (fun x => !(isLock kind panId addr x && x.holdoff && x.dueNs ≤ rawNs s)) }) s
def execLearnHoldoffExpiry (kind panId addr : Nat) (s : State) : Host.Outcome State Fault Refusal := .next (learnHoldoff kind panId addr s)

/-- LEARN_HEAD_WRITE: a value of 2^LOG2 or above is ignored (R337). -/
def learnHeadWrite (value : Nat) (s : State) : State :=
  if pfFrozen s 0 || 2 ^ s.tbl.learnLog2 ≤ value % 65536 then s else withTbl (fun t => { t with learnHead := value % 65536 }) s
def execLearnHeadWrite (value : Nat) (s : State) : Host.Outcome State Fault Refusal := .next (learnHeadWrite value s)

/-- A neighbour entry becomes invalid: its replay window goes with it, and the frames queued to it are dropped (R320, R321). -/
def invalidateNbr (n : Nat) (s : State) : State :=
  if !(nbrOf s n).valid then s
  else dropFrames (fun f => f.neighbour = n) (withTbl (fun t => { t with
      nbrs := tdel t.nbrs n, nbrCache := tput t.nbrCache (n % 2048) ((tget [] t.nbrCache (n % 2048)).filter (· ≠ n)) }) s)

/-! Insertion and eviction (R316, R329, R330). -/

/-- The near-full threshold is reached (R338). -/
def nodeNear (s : State) (before : Nat) : Bool :=
  before * 100 < s.tbl.nearPct * 262144 && s.tbl.nearPct * 262144 ≤ nodeCount s * 100

/-- The displacement search, breadth first: paths with their last way first (R329). -/
def displace (s : State) : Nat → List (List Nat) → Option (List Nat)
  | 0, _ => none
  | _, [] => none
  | k + 1, path :: rest =>
    let w := nth 0 path 0
    match tfind s.tbl.nodes w with
    | none => some path
    | some e =>
      if e.static then displace s k rest
      else
        let h := bucketsOf s e.panId e.addr
        let other := if w / 4 = h.1 then h.2 else h.1
        let more := ((List.range 4).map (fun i => 4 * other + i)).filter (fun q => !path.contains q)
        displace s k (rest ++ more.map (fun q => q :: path))

/-- The entries along a path moved toward its free way, the last first (R316). -/
def moveAlong : List Nat → Tbl NodeE → Tbl NodeE
  | dst :: src :: t, n => moveAlong (src :: t) (match tfind n src with | some e => tdel (tput n dst e) src | none => n)
  | _, n => n

/-- The victim of policy 1 or 2 among candidate ways (R330). -/
def victimOf (s : State) (cand : List (Nat × NodeE)) : Option (Nat × NodeE) :=
  if s.tbl.evictPolicy = 2 then
    cand.foldl (fun b c => match b with
      | none => some c
      | some v => if c.2.learnTime < v.2.learnTime || (c.2.learnTime = v.2.learnTime && c.1 < v.1) then some c else b) none
  else cand[randomBelow s cand.length]?

/-- The entry a TBL_NODE_INSERT writes. -/
def newNode (p : TblNodeInsertP) (s : State) : NodeE :=
  { addr := p.addr, panId := p.panId, kind := p.kind, direct := bit p.flags 0, nhValid := bit p.flags 1, static := bit p.flags 2,
    nextHop := p.nextHop, tmProfile := p.tmProfile, learnTime := rawSec s % 2 ^ 32, hostData := fit 32 p.hostData }

/-- The entry placed at a position: an open lock of its key is marked, and NODE_COUNT compared with near_pct (R334, R338). -/
def placeNode (pos : Nat) (e : NodeE) (s : State) : State :=
  let before := nodeCount s
  let s := withTbl (fun t => { t with
    nodes := tput t.nodes pos e,
    locks := t.locks.map (fun l => if isLock e.kind e.panId e.addr l && !l.holdoff then { l with inserted := true } else l) }) s
  raiseIf (nodeNear s before) 0xC5 s

/-- Reply of TBL_NODE_INSERT. -/
def insertReply (pos moved : Nat) (v : Option NodeE) : List Byte :=
  le 4 pos ++ le 2 moved ++ (match v with | some e => [1, 0] ++ le 8 e.addr ++ le 2 e.panId ++ le 1 e.kind | none => [])

/-- TBL_NODE_INSERT (R329). -/
def tblNodeInsert (_h : Hdr) (p : TblNodeInsertP) (s : State) : Res :=
  if !keyOk p.kind p.panId p.addr || 16 ≤ p.flags || 0x7FFF < p.nextHop then refuse s stBadParam
  else
    let e := newNode p s
    let ways := waysOf s p.panId p.addr
    match findNode s p.kind p.panId p.addr with
    | some (w, _) => if bit p.flags 3 then done (placeNode w e s) (insertReply w 0 none) else refuse s stDuplicate
    | none => match ways.find? (fun w => (tfind s.tbl.nodes w).isNone) with
      | some w => done (placeNode w e s) (insertReply w 0 none)
      | none => match displace s s.tbl.maxKicks (ways.map (fun w => [w])) with
        | some path =>
          let pos := nth 0 path.reverse 0
          done (placeNode pos e (withTbl (fun t => { t with nodes := moveAlong path t.nodes }) s)) (insertReply pos (path.length - 1) none)
        | none =>
          let cand := ways.filterMap (fun w => match tfind s.tbl.nodes w with
            | some e => if e.static then none else some (w, e)
            | none => none)
          if s.tbl.evictPolicy = 0 then refuse s stNoRoom
          else match victimOf s cand with
            | none => refuse s stNoRoom
            | some (w, v) =>
              let s := if s.tbl.evictPolicy = 1 then tick1 s else s
              let s := noteDelta (fun d => { d with nodes := d.nodes ++ [(v.kind, v.panId, v.addr)] }) s
              let s := raise 0xC4 (tblCnt 12 (goneRecord 3 0 v.kind v.panId v.addr w s))
              done (placeNode w e s) (insertReply w 0 (some v))
def execTblNodeInsert (h : Hdr) (p : TblNodeInsertP) (s : State) : Host.Outcome State Fault Refusal :=
  agentRun h (.tblNodeInsert p) (tblNodeInsert h p) s

/-- TBL_NODE_DELETE. -/
def tblNodeDelete (_h : Hdr) (p : TblNodeDeleteP) (s : State) : Res :=
  if !keyOk p.kind p.panId p.addr || 1 < p.force then refuse s stBadParam
  else match findNode s p.kind p.panId p.addr with
    | none => done s [0]
    | some (w, e) =>
      if e.static && p.force = 0 then refuse s stBusy
      else done (withTbl (fun t => { t with nodes := tdel t.nodes w }) s) [1]
def execTblNodeDelete (h : Hdr) (p : TblNodeDeleteP) (s : State) : Host.Outcome State Fault Refusal :=
  agentRun h (.tblNodeDelete p) (tblNodeDelete h p) s

/-- The result entry a new prefix takes: the draw where it is free, else the lowest free one. -/
def takeResult (s : State) : Nat :=
  let d := Config.resultIndex s.free
  let used := s.tbl.prefixes.map (·.result)
  if d < 65536 && !used.contains d then d else ((List.range (used.length + 1)).find? (fun i => !used.contains i)).getD 0

/-- TBL_PREFIX_ADD (R322, R324). -/
def tblPrefixAdd (_h : Hdr) (p : TblPrefixAddP) (s : State) : Res :=
  if 64 < p.plen || lead p.pfx p.plen ≠ p.pfx || 3 < p.action || 7 < p.port || 1 < p.replace then refuse s stBadParam
  else
    let e : PrefixE := { pfx := p.pfx, plen := p.plen, action := p.action, port := p.port, panId := p.panId, tmProfile := p.tmProfile }
    let ps := s.tbl.prefixes
    match ps.find? (fun q => q.pfx = p.pfx && q.plen = p.plen) with
    | some q =>
      if p.replace = 0 then refuse s stDuplicate
      else done (setPrefixes (ps.map (fun x => if x = q then { e with result := q.result } else x)) s) (le 2 q.result ++ zeros 6)
    | none =>
      let r := takeResult s
      let ps' := ps ++ [{ e with result := r }]
      if 65536 ≤ ps.length || (poolUse ps').any (896 < ·) then refuse s stNoRoom
      else
        let was := poolUse ps
        done (tick1 (setPrefixes ps' s)) (le 2 r ++ (List.range 6).flatMap (fun i => le 1 (nth 0 (poolUse ps') i - nth 0 was i)))
def execTblPrefixAdd (h : Hdr) (p : TblPrefixAddP) (s : State) : Host.Outcome State Fault Refusal :=
  agentRun h (.tblPrefixAdd p) (tblPrefixAdd h p) s

/-- TBL_PREFIX_DEL (R324). -/
def tblPrefixDel (_h : Hdr) (p : TblPrefixDelP) (s : State) : Res :=
  if 64 < p.plen then refuse s stBadParam
  else
    let keep := s.tbl.prefixes.filter (fun q => !(q.pfx = p.pfx && q.plen = p.plen))
    if keep.length = s.tbl.prefixes.length then done s [0] else done (setPrefixes keep s) [1]
def execTblPrefixDel (h : Hdr) (p : TblPrefixDelP) (s : State) : Host.Outcome State Fault Refusal :=
  agentRun h (.tblPrefixDel p) (tblPrefixDel h p) s

/-- TBL_AGING_CFG. -/
def tblAgingCfg (_h : Hdr) (p : TblAgingCfgP) (s : State) : Res :=
  if 1 < p.table || !(p.periodS = 0 || (60 ≤ p.periodS && p.periodS ≤ 86400)) then refuse s stBadParam
  else done (withTbl (fun t => if p.table = 0 then { t with ageNode := p.periodS } else { t with ageNbr := p.periodS }) s)
def execTblAgingCfg (h : Hdr) (p : TblAgingCfgP) (s : State) : Host.Outcome State Fault Refusal :=
  agentRun h (.tblAgingCfg p) (tblAgingCfg h p) s

/-- TBL_EVICT_POLICY. -/
def tblEvictPolicy (_h : Hdr) (p : TblEvictPolicyP) (s : State) : Res :=
  if 2 < p.policy || p.maxKicks < 16 || 1024 < p.maxKicks then refuse s stBadParam
  else done (withTbl (fun t => { t with evictPolicy := p.policy, maxKicks := p.maxKicks }) s)
def execTblEvictPolicy (h : Hdr) (p : TblEvictPolicyP) (s : State) : Host.Outcome State Fault Refusal :=
  agentRun h (.tblEvictPolicy p) (tblEvictPolicy h p) s

/-- The ranges of TBL_CFG (R337, R339). -/
def tblCfgOk (p : TblCfgP) : Bool :=
  p.airPanId ≤ 0xFFFE && 50 ≤ p.nearPct && p.nearPct ≤ 100 && (p.unknownRing ≤ 31 || p.unknownRing = 0xFF) && p.learnEnable ≤ 1 &&
    p.learnBase % 64 = 0 && 6 ≤ p.learnLog2 && p.learnLog2 ≤ 16 && p.windowMs ≤ 100 && p.holdoffMs ≤ 60000 && p.peerPorts ≤ 7

/-- TBL_CFG: a learn ring that moves starts again from its first record. -/
def tblCfg (_h : Hdr) (p : TblCfgP) (s : State) : Res :=
  let moved := p.learnBase ≠ s.tbl.learnBase || p.learnLog2 ≠ s.tbl.learnLog2
  if !tblCfgOk p then refuse s stBadParam
  else if (p.hashSeed ≠ s.tbl.hashSeed && nodeCount s ≠ 0) || (moved && s.tbl.learnEnable) then refuse s stBusy
  else done (withTbl (fun t =>
    let t := if moved then { t with learnHead := 0, learnTail := 0, learnPhase := true } else t
    { t with
      hashSeed := p.hashSeed, airPanId := p.airPanId, nearPct := p.nearPct, unknownRing := p.unknownRing, learnEnable := p.learnEnable = 1,
      learnBase := p.learnBase, learnLog2 := p.learnLog2, windowMs := p.windowMs, holdoffMs := p.holdoffMs, peerPorts := p.peerPorts }) s)
def execTblCfg (h : Hdr) (p : TblCfgP) (s : State) : Host.Outcome State Fault Refusal := agentRun h (.tblCfg p) (tblCfg h p) s

/-! The neighbour table (R318-R321). -/

/-- At most 1,024 pins, and 2 per set of the cache (R319). -/
def pinRoom (s : State) (n : Nat) : Bool :=
  let pins := (s.tbl.nbrs.filter (fun e => e.2.valid && e.2.pin && e.1 ≠ n)).map (·.1)
  pins.length < 1024 && (pins.filter (fun j => j % 2048 = n % 2048)).length < 2

/-- Another valid index holds the EUI-64, or the short address in the PAN (R320). -/
def nbrTaken (s : State) (n eui short panId : Nat) : Bool :=
  s.tbl.nbrs.any (fun e => e.1 ≠ n && e.2.valid && (e.2.eui64 = eui || (short ≠ 0xFFFE && e.2.short = short && e.2.panId = panId)))

/-- The replay window of an entry that starts or restarts (R320). -/
def startWindow (gen h : Nat) (e : NbrE) : NbrE := { e with keyGen := gen, rxH := h, rxMap := 0, winEmpty := h = 0 }

/-- reset_link: bytes 38-41 and 48-251 are zeroed (R318). -/
def resetLink (e : NbrE) : NbrE :=
  { e with
    upSeq := 0, downSeq := 0, xcount := 0, upRate := 0, upValid := false, downRate := 0, downValid := false, be := 0, backoff := 0,
    upMap := [], upPrev := [], downMap := [], snr := [] }

/-- The host's fields of an entry (R318). -/
def nbrHost (p : TblNeighbourSetP) (e : NbrE) : NbrE :=
  { e with
    valid := true, eui64 := p.eui64, short := p.short, panId := p.panId, keySlot := p.keySlot, static := bit p.flags 0, pin := bit p.flags 1,
    zao := bit p.flags 2, dstShort := bit p.flags 3, mark := false, bad := false }

/-- TBL_NEIGHBOUR_SET. -/
def tblNeighbourSet (h : Hdr) (p : TblNeighbourSetP) (s : State) : Res :=
  let n := h.flow - 0x8000
  let e := nbrOf s n
  let reply := le 4 e.rxH ++ le 2 e.keyGen
  if 1 < p.op || 64 ≤ p.flags || 0xFFF < p.keySlot then refuse s stBadParam
  else if p.op = 1 then done (invalidateNbr n s) reply
  else if e.valid && !bit p.flags 4 then refuse s stDuplicate
  else if nbrTaken s n p.eui64 p.short p.panId then refuse s stDuplicate
  else if (slotOf s p.keySlot).state = 0 || (slotOf s p.keySlot).state = 4 then refuse s stKeyGone
  else if bit p.flags 1 && !pinRoom s n then refuse s stNoRoom
  else
    let gen := (slotOf s p.keySlot).gen
    let e1 := if !e.valid then startWindow gen p.rxHStart {} else if e.keySlot ≠ p.keySlot then startWindow gen p.rxHStart e else e
    let e2 := if bit p.flags 5 then resetLink e1 else e1
    done (withNbr n (fun _ => nbrHost p e2) s) reply
def execTblNeighbourSet (h : Hdr) (p : TblNeighbourSetP) (s : State) : Host.Outcome State Fault Refusal :=
  agentRun h (.tblNeighbourSet p) (tblNeighbourSet h p) s

/-- TBL_LOOKUP (R340). -/
def tblLookup (h : Hdr) (p : TblLookupP) (s : State) : Res :=
  if 1 < p.setHit then refuse s stBadParam
  else if h.flow = 0 then
    if !keyOk p.kind p.panId p.addr then refuse s stBadParam
    else match findNode s p.kind p.panId p.addr with
      | none => done s [0]
      | some (w, e) =>
        if e.bad then done (parityMiss s) [0]
        else
          let e := { e with hit := e.hit || p.setHit = 1 }
          done (toHost p.bufferAddr (nodeBytes e) (withNode w (fun _ => e) s))
            ([1] ++ le 1 (nodeFlags e) ++ le 2 e.nextHop ++ le 4 w ++ le 4 e.learnTime ++ le 2 e.tmProfile)
  else if h.flow = 1 then
    match longest s p.addr with
    | none => done s [0]
    | some q =>
      if q.bad then done (parityMiss s) [0]
      else done (toHost p.bufferAddr (le 8 (resultWord q)) s) ([1] ++ le 1 q.plen ++ le 2 q.result ++ zeros 4 ++ le 8 (resultWord q))
  else
    let n := h.flow - 0x8000
    let e := nbrOf s n
    if !e.valid then done s [0]
    else if e.bad then done (parityMiss s) [0]
    else
      let e := { e with hit := e.hit || p.setHit = 1 }
      done (toHost p.bufferAddr (nbrBytes e) (withNbr n (fun _ => e) s))
        ([1] ++ le 1 (nbrByte37 e) ++ le 2 e.keySlot ++ le 4 e.rxH ++ le 4 e.lastHeard ++ leS 2 e.rssiAvg ++ le 1 e.lqiAvg ++
          le 1 (nbrByte38 e) ++ le 2 e.short)
def execTblLookup (h : Hdr) (p : TblLookupP) (s : State) : Host.Outcome State Fault Refusal := agentRun h (.tblLookup p) (tblLookup h p) s

/-- TBL_STATUS. -/
def tblStatus (_h : Hdr) (p : TblStatusP) (s : State) : Res :=
  if 1 < p.clear then refuse s stBadParam
  else
    let data := le 4 (nodeCount s) ++ le 2 (nbrCount s) ++ le 4 s.tbl.prefixes.length ++ le 2 (pinCount s) ++ le 2 s.tbl.locks.length ++
      le 2 (learnUnread s)
    let s := toHost p.bufferAddr ((List.range 13).flatMap (fun i => le 4 (tget 0 s.tbl.cnt i))) s
    done (if p.clear = 1 then withTbl (fun t => { t with cnt := [] }) s else s) data
def execTblStatus (h : Hdr) (p : TblStatusP) (s : State) : Host.Outcome State Fault Refusal := agentRun h (.tblStatus p) (tblStatus h p) s

/-! Aging and repair (R328, R331, R332). -/

/-- A node entry leaves. -/
def removeNode (record pos : Nat) (e : NodeE) (s : State) : State :=
  let s := withTbl (fun t => { t with nodes := tdel t.nodes pos }) s
  let s := noteDelta (fun d => { d with nodes := d.nodes ++ [(e.kind, e.panId, e.addr)] }) s
  goneRecord record 0 e.kind e.panId e.addr pos s

/-- A neighbour entry leaves. -/
def removeNbr (record n : Nat) (s : State) : State :=
  let e := nbrOf s n
  goneRecord record 1 0 e.panId e.eui64 n (invalidateNbr n s)

/-- AGING_SWEEP_VISIT: hitNow says that a lookup hits the entry in the cycle of the commit (R331, R332). -/
def agingVisit (table index : Nat) (hitNow : Bool) (s : State) : State :=
  if table = 0 then
    match tfind s.tbl.nodes index with
    | none => s
    | some e =>
      if s.tbl.ageNode = 0 || e.static then s
      else if e.hit then withNode index (fun e => { e with hit := false, mark := false }) s
      else if !e.mark then withNode index (fun e => { e with mark := true }) s
      else if hitNow then tblCnt 11 (nodeHit index s)
      else removeNode 2 index e (tblCnt 10 s)
  else if table = 1 then
    let e := nbrOf s index
    if s.tbl.ageNbr = 0 || !e.valid || e.static || e.pin then s
    else if e.hit then withNbr index (fun e => { e with hit := false, mark := false }) s
    else if !e.mark then withNbr index (fun e => { e with mark := true }) s
    else if hitNow then tblCnt 11 (nbrHit index s)
    else removeNbr 2 index (tblCnt 10 s)
  else s
def execAgingSweepVisit (table index : Nat) (hitNow : Bool) (s : State) : Host.Outcome State Fault Refusal :=
  .next (agingVisit table index hitNow s)

/-- TBL_PARITY_REPAIR: the damage is repaired; where no lookup has met it yet, it is counted and reported now (R328). -/
def parityRepair (table index : Nat) (s : State) : State :=
  if table = 0 then
    match tfind s.tbl.nodes index with
    | none => s
    | some e => removeNode 4 index e (if e.bad then s else parityMiss s)
  else if table = 1 then
    let e := nbrOf s index
    if !e.valid then s else removeNbr 4 index (if e.bad then s else parityMiss s)
  else if table = 2 then
    let s := if s.tbl.prefixes.any (fun p => p.result = index && p.bad) then s else parityMiss s
    withTbl (fun t => { t with prefixes := t.prefixes.map (fun p => if p.result = index then { p with bad := false } else p) }) s
  else s
def execTblParityRepair (table index : Nat) (s : State) : Host.Outcome State Fault Refusal := .next (parityRepair table index s)

/-- The key of an IPv6 IID in a PAN (R311): kind, PAN_ID, ADDR. -/
def iidKey (iid panId : Nat) : Nat × Nat × Nat :=
  if iid / 65536 = 0x000000FFFE00 then (1, panId, iid % 65536) else (0, 0xFFFF, iid ^^^ 0x0200000000000000)

end Sys2Proof.Machine
end

