-- ==== Sys2Proof/Machine/Lane.lean ====
section
/-!
DEFINITION. The receive lanes: assignment, states, preambles, spares, ZAO maps, air records (R179-R215).
-/
namespace Sys2Proof.Machine

/-- A spare pool is exhausted: its event, with the resource in the status word, and the degraded reason (R526). -/
def exhausted (kind : Nat) (s : State) : State := degrade 8 (raiseW 0x161 (Config.resourceWord kind % 2 ^ 32) s)

/-- Counter i of LANE.CNT and the lane's own counter of R215. -/
def countLane (n i : Nat) (s : State) : State :=
  laneCnt i (if i < 8 then withLaneN n (fun l => { l with cnt := bump l.cnt (nth 0 [0, 7, 1, 2, 3, 4, 5, 6] i) }) s else s)

/-- PHY configuration of logical lane n in a mode. -/
def phyCfgOf (s : State) (n m : Nat) : PhyCfg := tget {} (laneOf s n).cfg m

/-- Physical lane p tuned, with the bins of its channel, or to nothing (R180, R212). -/
def tunePhys (p : Nat) (u : Option LaneTune) (s : State) : State :=
  let b := match u with
    | some u => match channelCentre (chainOf s u.chain) u.phy u.channel with
      | some f => binsOf (chainOf s u.chain) u.phy f
      | none => (0, 0)
    | none => (0, 0)
  withPhys p (fun x => { x with tune := u, binFirst := b.1, binCount := b.2 }) s

/-- The lowest-numbered free spare (R196). -/
def freeSpare (s : State) : Option Nat := (List.range 104).find? (fun p => roleOf s p = 1)

/-- The lane spawned from logical lane n (R194). -/
def spawnOf (s : State) (n : Nat) : Option Nat := (List.range 104).find? (fun p => roleOf s p = 2 && logicalOf s p = n)

/-- Physical lane p is a free spare again. -/
def toPool (p : Nat) (s : State) : State :=
  tunePhys p none (withPhys p (fun x => { x with role := some 1, logical := some 0 }) s)

/-- Physical lane p has no frame and is back in SEARCH; a spawned lane returns to the pool (R188, R194). -/
def endFrame (p : Nat) (s : State) : State :=
  let s := withPhys p (fun x => { x with frame := none, state := 0 }) s
  if roleOf s p = 2 then toPool p s else s

/-- A snapshot of lane n that waits for a trigger starts (R214). -/
def trigSnapshot (n trigger : Nat) (s : State) : State :=
  withLaneN n (fun l => { l with snapshot := l.snapshot.map (fun x => if x.trigger = trigger then { x with running := true } else x) }) s

/-- The frame in progress on physical lane p ends in ABORT, counted under a counter of LANE.CNT where one is named: its cells
are released, and a frame that reached PAYLOAD puts its end mark in the stream (R188, R208). The lane itself goes on to a new
frame or to SEARCH. -/
def loseFrame (p : Nat) (cause : Option Nat) (s : State) : State :=
  match (physOf s p).frame with
  | none => s
  | some f =>
    let n := logicalOf s p
    let s := if (physOf s p).state = 3 then chkEnds n f.data true (roleOf s p = 2) s else s
    let s := match cause with
      | some i => countLane n i s
      | none => s
    trigSnapshot n 3 (withPhys p (fun x => { x with frame := none, state := 0 }) s)

/-- ABORT, and back to SEARCH. -/
def abortFrame (p : Nat) (cause : Option Nat) (s : State) : State :=
  if (physOf s p).frame.isSome then endFrame p (loseFrame p cause s) else s

/-! Preambles (R192-R195). -/

/-- The lane enters PREAMBLE on a new frame (R193). -/
def startFrame (p : Nat) (rssi : Int) (captured falseSync : Bool) (s : State) : State :=
  let cfg := match (physOf s p).tune with
    | some u => phyCfgOf s (logicalOf s p) u.phy
    | none => {}
  withPhys p (fun x => { x with
    state := 1, frame := some { rssi := rssi, startNs := rawNs s, captured := captured, falseSync := falseSync, cfg := cfg } }) s

/-- A preamble is valid for a lane: correlator enabled, correlation and power at the lane's thresholds (R192). -/
def validPreamble (s : State) (p corr : Nat) (rssi : Int) : Bool :=
  match (physOf s p).tune with
  | none => false
  | some u =>
    let c := phyCfgOf s (logicalOf s p) u.phy
    listens s p && c.detThreshold ≤ corr && c.edFloor ≤ rssi

/-- A preamble is at or above the capture margin of the frame in progress on p (R193). -/
def captures (s : State) (p : Nat) (rssi : Int) : Bool :=
  match (physOf s p).frame with
  | some f => f.rssi + (laneOf s (logicalOf s p)).captureMargin ≤ rssi
  | none => true

/-- The rows of R193 for a lane that spawns nothing. -/
def takePreamble (p : Nat) (rssi : Int) (s : State) : State :=
  let st := (physOf s p).state
  if st = 1 || st = 2 then startFrame p rssi false true (loseFrame p (some 3) s)
  else if st = 3 then (if captures s p rssi then startFrame p rssi true false (loseFrame p (some 5) s) else s)
  else startFrame p rssi false false s

/-- A spare spawns from logical lane n to receive the new frame (R193, R194). -/
def spawnLane (n p q : Nat) (rssi : Int) (s : State) : State :=
  let s := withPhys q (fun x => { x with role := some 2, logical := some n }) s
  startFrame q rssi false false (tunePhys q (physOf s p).tune (countLane n 4 s))

/-- A valid preamble at the originating lane p: its own rows, or those of its spawned lane for one it ignores (R193, R194). -/
def preamble (p : Nat) (rssi : Int) (s : State) : State :=
  let n := logicalOf s p
  if (physOf s p).state ≠ 3 then takePreamble p rssi s
  else if !captures s p rssi then (match spawnOf s n with
    | some q => takePreamble q rssi s
    | none => s)
  else match (if (laneOf s n).spawnEnable && (spawnOf s n).isNone && s.lane.reserve < sparesFree s then freeSpare s else none) with
    | some q => spawnLane n p q rssi s
    | none => takePreamble p rssi s

/-- PREAMBLE_DETECT: the power is referred to the RX pins less rx_fe_gain (R158, R192, R193). -/
def preambleDetect (p corr : Nat) (rssi : Int) (s : State) : State :=
  match (physOf s p).tune with
  | none => s
  | some u =>
    let r := rssi - (chainOf s u.chain).rxFeGain
    if roleOf s p = 0 && p < 104 && validPreamble s p corr r then preamble p r s else s
def execPreambleDetect (phys corr : Nat) (rssi : Int) (s : State) : Host.Outcome State Fault Refusal := .next (preambleDetect phys corr rssi s)

/-! A frame on its way through the states (R188-R190). -/

/-- SYNC_FIELD_END: TS is taken, and the lane enters HEADER (R188, R210). -/
def syncFieldEnd (p : Nat) (s : State) : State :=
  if (physOf s p).state ≠ 1 then s
  else trigSnapshot (logicalOf s p) 2 (withPhys p (fun x => { x with
    state := 2, frame := x.frame.map (fun f => { f with tsNs := selNs s, asn := s.slot.asn }) }) s)
def execSyncFieldEnd (phys : Nat) (s : State) : Host.Outcome State Fault Refusal := .next (syncFieldEnd phys s)

/-- MAX_PREAMBLE_TIMEOUT: back to SEARCH (R188). -/
def maxPreamble (p : Nat) (s : State) : State := if (physOf s p).state ≠ 1 then s else endFrame p s
def execMaxPreambleTimeout (phys : Nat) (s : State) : Host.Outcome State Fault Refusal := .next (maxPreamble phys s)

/-- The neighbour whose short address a ZAO header's LINK names (R202). -/
def linkNbr (s : State) (link : Nat) : Option (Nat × NbrE) := s.tbl.nbrs.find? (fun e => e.2.valid && e.2.short = link)

/-- The map of a ZAO payload, none where it has none: uniform BPSK or QPSK, or the neighbour's current or held map (R202). -/
def zaoMap (s : State) (h : PhyHdr) : Option (List Nat) :=
  if h.mapSrc = 0 then some (List.replicate 96 1)
  else if h.mapSrc = 2 then some (List.replicate 96 2)
  else match linkNbr s h.link with
    | none => none
    | some (_, e) =>
      if e.upValid && h.mapSeq = e.upSeq then some e.upMap
      else if e.upPending && !e.upPrev.isEmpty && h.mapSeq = (e.upSeq + 15) % 16 then some e.upPrev
      else none

/-- The header check fails, the map apart (R189). -/
def headerBad (c : PhyCfg) (phy : Nat) (h : PhyHdr) : Bool :=
  ((phy = 6 || 8 ≤ phy) && !h.hcsOk) || h.length = 0 || c.maxPsdu < h.length || (phy = 7 && h.length < 5) ||
    (phy ≤ 5 && h.modeSwitch) || (phy = 6 && !bit c.rateMask h.mcs) || (8 ≤ phy && phy ≤ 11 && !bit c.mcsMask h.mcs) ||
    (phy = 12 && (3 ≤ h.rate || 3 ≤ h.mapSrc || h.seed = 0))

/-- The first frame that carries up_seq releases the map before it (R206). -/
def mapTaken (h : PhyHdr) (s : State) : State :=
  match linkNbr s h.link with
  | some (n, e) =>
    if h.mapSrc = 1 && e.upPending && h.mapSeq = e.upSeq then noteNbr n (withNbr n (fun e => { e with upPending := false, upPrev := [] }) s)
    else s
  | none => s

/-- The header check passed: PAYLOAD, with the frame's place in the packet buffer (R188, R190). -/
def toPayload (p : Nat) (h : PhyHdr) (map : List Nat) (s : State) : State :=
  tick1 (withPhys p (fun x => { x with
    state := 3,
    frame := x.frame.map (fun f => { f with hdr := h, map := map, id := s.free, handle := Config.bufferHandle s.free % 2 ^ 32 }) }) s)

/-- HEADER_CHECK (R189, R202, R206). -/
def headerCheck (p : Nat) (h : PhyHdr) (s : State) : State :=
  match (physOf s p).frame, (physOf s p).tune with
  | some f, some u =>
    if (physOf s p).state ≠ 2 then s
    else if headerBad f.cfg u.phy h then abortFrame p (some 2) s
    else if u.phy ≠ 12 then toPayload p h [] s
    else match zaoMap s h with
      | some m => toPayload p h m (mapTaken h s)
      | none => abortFrame p (some 2) (raise 0x045 (laneCnt 8 s))
  | _, _ => s
def execHeaderCheck (phys : Nat) (hdr : PhyHdr) (s : State) : Host.Outcome State Fault Refusal := .next (headerCheck phys hdr s)

/-- The frame ends as a no-buffer abort (R190). -/
def noBuffer (p : Nat) (s : State) : State := raise 0x043 (abortFrame p (some 7) s)

/-- LANE_CELL_ALLOC: PSDU bytes arrive and take cells; while the chain's queue back-pressures, up to 2 KiB stay in the lane's
staging store (R190); while the chain's lane writer is frozen there is no buffer (R520). -/
def cellAlloc (p : Nat) (data : List Byte) (backpressure : Bool) (s : State) : State :=
  match (physOf s p).frame with
  | none => s
  | some f =>
    let need := cellsFor (f.data.length + data.length)
    let frozen := match (physOf s p).tune with
      | some u => s.fwall.frozen.contains (28 + u.chain)
      | none => false
    if (physOf s p).state ≠ 3 then s
    else if frozen || freeCells s + f.cells < need || (backpressure && 2048 < f.staged + data.length) then noBuffer p s
    else reserveFell (freeCells s) (withPhys p (fun x => { x with frame := some { f with
        data := f.data ++ data, cells := need, staged := if backpressure then f.staged + data.length else 0,
        queued := if backpressure then f.queued else f.queued + cdiv data.length 4 } }) s)
def execLaneCellAlloc (phys : Nat) (data : List Byte) (backpressure : Bool) (s : State) : Host.Outcome State Fault Refusal :=
  .next (cellAlloc phys data backpressure s)

/-! ZAO measurement and maps (R203, R204). SNR values in 1/1024. -/

/-- The value of an SNR code (R317). -/
def snrVal (c : Nat) : Nat := (16 + c % 16) * 2 ^ (c / 16)

/-- |a - b|. -/
def gap (a b : Nat) : Nat := max a b - min a b

/-- The code nearest to x / 8; of two as near, the lower. -/
def snrCode (x : Nat) : Nat :=
  (List.range 256).foldl (fun b c => if gap (8 * snrVal c) x < gap (8 * snrVal b) x then c else b) 0

/-- 10 log10(v / 1024) is at least q quarter decibels. -/
def atLeastQ (v q : Nat) : Bool := 10 ^ q * 1024 ^ 40 ≤ v ^ 40

/-- The averages after one more exchange, tone by tone: the first sets them (R203). -/
def averaged (old tone : List Nat) : List Nat :=
  (List.range 96).map (fun k =>
    if old.isEmpty then snrCode (8 * nth 0 tone k) else snrCode (7 * snrVal (nth 0 old k) + nth 0 tone k))

/-- The threshold of a load code, and the load a tone carries (R204). -/
def thrOf (b : LaneBlk) (load : Nat) : Nat := nth 0 b.thr (load - 1)
def loadOf (b : LaneBlk) (code : Nat) : Nat :=
  let ok := fun l => atLeastQ (snrVal code) (b.margin + thrOf b l)
  if ok 4 then 4 else if ok 3 then 3 else if ok 2 then 2 else if ok 1 then 1 else 0

/-- The candidate map: uniform BPSK where fewer than 12 subcarriers carry a load. -/
def candidate (b : LaneBlk) (snr : List Nat) : List Nat :=
  let c := snr.map (loadOf b)
  if (c.filter (· ≠ 0)).length < 12 then List.replicate 96 1 else c

/-- The mean slack over the loaded subcarriers is at least q quarter decibels. -/
def slackAtLeast (b : LaneBlk) (snr map : List Nat) (q : Nat) : Bool :=
  let l := (snr.zip map).filter (fun x => x.2 ≠ 0)
  10 ^ ((l.map (fun x => b.margin + thrOf b x.2)).sum + q * l.length) * 1024 ^ (40 * l.length) ≤ (l.map (fun x => snrVal x.1)).prod ^ 40

/-- The rate recommended with a map (R204). -/
def rateFor (b : LaneBlk) (snr map : List Nat) : Nat :=
  if b.ratePolicy ≠ 0 then b.ratePolicy - 1 else if slackAtLeast b snr map 12 then 2 else if slackAtLeast b snr map 6 then 1 else 0

/-- A candidate replaces the neighbour's uplink map where a load falls or min_change subcarriers differ (R204). -/
def tryMap (b : LaneBlk) (e : NbrE) : NbrE :=
  let c := candidate b e.snr
  let old := fun k => nth 0 e.upMap k
  let diff := ((List.range 96).filter (fun k => nth 0 c k ≠ old k)).length
  if (List.range 96).any (fun k => nth 0 c k < old k) || b.minChange ≤ diff then
    { e with
      upPrev := e.upMap, upMap := c, upSeq := (e.upSeq + 1) % 16, upPending := true, upValid := true, upRate := rateFor b e.snr c, xcount := 0 }
  else e

/-- One measured exchange with the neighbour LINK names (R203, R204). -/
def measure (link : Nat) (tone : List Nat) (s : State) : State :=
  match linkNbr s link with
  | none => s
  | some (n, e) =>
    let e1 := { e with snr := averaged e.snr tone, xcount := min 16 (e.xcount + 1) }
    let e2 := if e1.xcount = 16 then tryMap s.lane e1 else e1
    let s := withNbr n (fun _ => e2) s
    if e2.upSeq = e.upSeq then s else noteNbr n s

/-! The end of a frame (R188, R209, R210). -/

/-- S of the boundary of a slot near the current one: as it was, or as it will be under the FRONT shift in force (R242, R291). -/
def boundaryOf (s : State) (asn : Nat) : Int :=
  let b := s.slot
  let d := fun (a c : Nat) => (((a : Int) - c + 2 ^ 39) % 2 ^ 40) - 2 ^ 39
  let k := d asn b.asn
  let l : Int := 1000 * b.slotLenUs
  if k = 0 then b.boundaryNs else if k = -1 then b.prevNs else if 0 < k then b.startNs + d asn b.asnStart * l + b.frontF else b.boundaryNs + k * l

/-- The air record of a frame that ended in DONE (R210). -/
def airRecord (u : LaneTune) (n : Nat) (spawned : Bool) (f : RxFrame) (snr : Int) : AirRec :=
  let q := clampI (-256) 255 snr
  { ts := f.tsNs, asn := f.asn, chain := u.chain, lane := n, channel := u.channel, phy := u.phy, rssi := clampI (-512) 511 f.rssi,
    snr := q, lqi := (clampI 0 255 (9 * q / 4 + 30)).toNat, captured := f.captured, spareLane := spawned, falseSync := f.falseSync,
    length := f.hdr.length, buffer := f.handle }

/-- End of a received frame's last symbol, from TS and LENGTH (R263). -/
def lastSymbolNs (f : RxFrame) (phy : Nat) : Int :=
  f.tsNs + 1000 * ((airUs 8 phy f.hdr.mcs f.hdr.length f.cfg.fskFec f.hdr.nullPeriod (some (f.map, f.hdr.rate)) : Nat) - (shrUs 8 phy f.hdr.mcs : Nat) : Int)

/-- The acknowledgement that a frame in an ACK-eligible TSCH receive cell, or in a superframe, may get (R252, R263, R264, R272). -/
def noteAckJob (u : LaneTune) (n : Nat) (f : RxFrame) (s : State) : State :=
  match s.slot.plan, (laneOf s n).entry with
  | some pl, some e =>
    let job : AckJob := { buffer := f.handle, chain := u.chain, channel := u.channel, phy := u.phy, coded := f.cfg.fskFec }
    let put := fun (j : AckJob) (s : State) => withSlot (fun b => { b with acks := b.acks ++ [j] }) s
    if pl.asn ≠ f.asn then s
    else match e.super with
      | some i => put { job with
          super := some i, startNs := lastSymbolNs f u.phy + 1000 * (superOf s i).turnaround,
          correctionUs := Config.superCorrection s.free } (tick1 s)
      | none =>
        if pl.acks.any (fun a => a.chain = u.chain && a.lane = n) then
          let t := (sfOf s e.slotframe).tmpl
          let due : Int := 1000 * ((t.txOffset : Int) + shrUs 8 u.phy f.hdr.mcs)
          put { job with
            startNs := lastSymbolNs f u.phy + 1000 * t.ackDelay,
            correctionUs := clampI (-2047) 2047 ((boundaryOf s f.asn + due - f.tsNs) / 1000) } s
        else s
  | _, _ => s

/-- DONE: the record joins the chain's queue, and the frame keeps its cells (R188, R190, R210). -/
def frameDone (p : Nat) (u : LaneTune) (f : RxFrame) (snr : Int) (s : State) : State :=
  let n := logicalOf s p
  let sp := roleOf s p = 2
  let s := countLane n 0 (chkEnds n f.data false sp s)
  let s := noteAckJob u n f s
  let s := withLane (fun b => { b with fabric := b.fabric ++ [(p, f.id, airRecord u n sp f snr)] }) s
  let s := endFrame p s
  withTm (fun t => { t with bufs := t.bufs ++ [{ id := f.id, handle := f.handle, data := f.data, cells := f.cells }] }) s

/-- LANE_FRAME_END (R188, R189, R203, R209). -/
def laneFrameEnd (p : Nat) (fcsOk : Bool) (snr : Int) (tone : List Nat) (s : State) : State :=
  match (physOf s p).frame, (physOf s p).tune with
  | some f, some u =>
    if (physOf s p).state ≠ 3 then s
    else
      let s := if u.phy = 12 then measure f.hdr.link tone s else s
      if fcsOk then frameDone p u f snr s else abortFrame p (some 1) s
  | _, _ => s
def execLaneFrameEnd (phys : Nat) (fcsOk : Bool) (snr : Int) (toneSnr : List Nat) (s : State) : Host.Outcome State Fault Refusal :=
  .next (laneFrameEnd phys fcsOk snr toneSnr s)

/-! Assignment and entries (R184-R187). -/

/-- The assignment a lane has, or takes after its frame in progress. -/
def effAssign (l : LaneSt) : Option LaneTune := l.deferred.getD l.assign

/-- Lane n takes an assignment: a fixed lane tunes at once, a planned lane waits for an entry (R184, R186). -/
def applyAssign (n : Nat) (a : Option LaneTune) (s : State) : State :=
  let s := withLaneN n (fun l => { l with assign := a, deferred := none, entry := none, entryNext := none, window := false }) s
  tunePhys (lanePhys s n) (match a with
    | some u => if u.planned then none else some u
    | none => none) s

/-- A planned lane takes its entry of a slot, or none (R184, R186). -/
def takeEntry (n : Nat) (e : Option LaneEntry) (s : State) : State :=
  let s := withLaneN n (fun l => { l with entry := e, entryNext := none, window := false }) s
  tunePhys (lanePhys s n) (e.map (fun e => { chain := e.chain, planned := true, channel := e.channel, phy := e.phy })) s

/-- At a boundary: the listen window closes, and the entry is taken now, or after the frame in progress (R186). -/
def boundaryEntry (n : Nat) (e : Option LaneEntry) (s : State) : State :=
  if laneBusy s n then withLaneN n (fun l => { l with window := false, entryNext := some e }) s else takeEntry n e s

/-- LISTEN_WINDOW_OPEN and LISTEN_WINDOW_CLOSE (R187). -/
def listenOpen (n : Nat) (s : State) : State :=
  if (laneOf s n).entry.isSome && (laneOf s n).entryNext.isNone then withLaneN n (fun l => { l with window := true }) s else s
def execListenWindowOpen (lane : Nat) (s : State) : Host.Outcome State Fault Refusal := .next (listenOpen lane s)
def listenClose (n : Nat) (s : State) : State := if (laneOf s n).window then withLaneN n (fun l => { l with window := false }) s else s
def execListenWindowClose (lane : Nat) (s : State) : Host.Outcome State Fault Refusal := .next (listenClose lane s)

/-- DEFERRED_CONFIG_APPLY: what waits for the end of a frame takes effect between two frames (R10, R186). -/
def deferredApply (n : Nat) (s : State) : State :=
  if laneBusy s n then s
  else
    let l := laneOf s n
    match l.deferred, l.entryNext with
    | some a, _ => applyAssign n a s
    | none, some e => takeEntry n e s
    | none, none => s
def execDeferredConfigApply (lane : Nat) (s : State) : Host.Outcome State Fault Refusal := .next (deferredApply lane s)

/-- Another fixed lane has the same centre frequency and PHY mode (R185). -/
def fixedTwin (s : State) (n f phy : Nat) : Bool :=
  (List.range 96).any (fun m => m ≠ n && match effAssign (laneOf s m) with
    | some u => !u.planned && u.phy = phy && channelCentre (chainOf s u.chain) u.phy u.channel = some f
    | none => false)

/-- Lane n has no physical lane in service (R185, R197, R198). -/
def laneOut (s : State) (n : Nat) : Bool := (laneOf s n).outOfService || roleOf s (lanePhys s n) = 3

/-- The bins of a LANE_ASSIGN reply. -/
def assignReply (s : State) (n : Nat) (u : Option LaneTune) : List Byte :=
  let b := match u with
    | some u => if u.planned then (0, 0) else match channelCentre (chainOf s u.chain) u.phy u.channel with
      | some f => binsOf (chainOf s u.chain) u.phy f
      | none => (0, 0)
    | none => (0, 0)
  le 2 b.1 ++ le 1 b.2 ++ le 1 (lanePhys s n)

/-- Why a LANE_ASSIGN to a chain is refused, or ST_OK (R140, R185). -/
def assignRefusal (n : Nat) (p : LaneAssignP) (s : State) : Nat :=
  let k := chainOf s p.chain
  if 3 < p.chain || 1 < p.kind then stBadParam
  else if k.service = 2 then stDegraded
  else if k.centre = 0 then stBadParam
  else if p.kind = 0 && !(phyOk p.phyMode && match channelCentre k p.phyMode p.channel with
      | some f => inWindow k p.phyMode f
      | none => false) then stBadParam
  else if k.service = 1 || !k.rxLock then stBusy
  else if p.kind = 0 && match channelCentre k p.phyMode p.channel with
      | some f => fixedTwin s n f p.phyMode
      | none => false then stDuplicate
  else stOk

/-- LANE_ASSIGN: between frames (R10, R184-R186). -/
def laneAssign (h : Hdr) (p : LaneAssignP) (s : State) : Res :=
  let n := h.flow
  let a : Option LaneTune := if p.chain = 0xFF then none
    else some { chain := p.chain, planned := p.kind = 1, channel := if p.kind = 1 then 0 else p.channel, phy := if p.kind = 1 then 0 else p.phyMode }
  let st := if laneOut s n then stDegraded else if p.chain = 0xFF then stOk else assignRefusal n p s
  if st ≠ stOk then refuse s st
  else if laneBusy s n then done (withLaneN n (fun l => { l with deferred := some a }) s) (assignReply s n a)
  else done (applyAssign n a s) (assignReply s n a)
def execLaneAssign (h : Hdr) (p : LaneAssignP) (s : State) : Host.Outcome State Fault Refusal := agentRun h (.laneAssign p) (laneAssign h p) s

/-- The ranges of LANE_PHY_CFG (R214). -/
def phyCfgOk (p : LanePhyCfgP) : Bool :=
  phyOk p.phyMode && 77 ≤ p.detThreshold && p.detThreshold ≤ 243 && -480 ≤ p.edFloor && p.edFloor ≤ -320 && 100 ≤ p.maxPreambleUs &&
    p.maxPreambleUs ≤ 20000 && 16 ≤ p.maxPsdu && p.maxPsdu ≤ 2047 && p.fskFec ≤ 1 && p.fskWhitening ≤ 1 && p.fskSfdSet ≤ 1

/-- LANE_PHY_CFG: from the lane's next frame in that mode. -/
def lanePhyCfg (h : Hdr) (p : LanePhyCfgP) (s : State) : Res :=
  if (laneOf s h.flow).outOfService then refuse s stDegraded
  else if !phyCfgOk p then refuse s stBadParam
  else done (withLaneN h.flow (fun l => { l with cfg := tput l.cfg p.phyMode {
    detThreshold := p.detThreshold, edFloor := p.edFloor, maxPreambleUs := p.maxPreambleUs, maxPsdu := p.maxPsdu, fskFec := p.fskFec = 1,
    fskWhitening := p.fskWhitening = 1, fskSfdSet := p.fskSfdSet, rateMask := p.rateMask, mcsMask := p.mcsMask } }) s)
def execLanePhyCfg (h : Hdr) (p : LanePhyCfgP) (s : State) : Host.Outcome State Fault Refusal := agentRun h (.lanePhyCfg p) (lanePhyCfg h p) s

/-- LANE_CAPTURE_CFG: packet capture, or a sample snapshot (R214). -/
def laneCaptureCfg (h : Hdr) (p : LaneCaptureCfgP) (s : State) : Res :=
  let n := h.flow
  if (laneOf s n).outOfService then refuse s stDegraded
  else if p.op = 0 then
    if p.captureMargin < 12 || 80 < p.captureMargin || 1 < p.spawnEnable then refuse s stBadParam
    else done (withLaneN n (fun l => { l with captureMargin := p.captureMargin, spawnEnable := p.spawnEnable = 1 }) s)
  else if p.op = 1 then
    if 3 < p.trigger || 15 < p.comparator || 1000 < p.preUs || p.samples < 1024 || 65536 < p.samples then refuse s stBadParam
    else if (laneOf s n).snapshot.isSome then refuse s stBusy
    else
      let j := freshJob s
      { st := tick1 (withLaneN n (fun l => { l with snapshot := some {
          job := j, trigger := p.trigger, comparator := p.comparator, preUs := p.preUs, samples := p.samples, buffer := p.bufferAddr,
          running := p.trigger = 0 } }) s),
        status := stPending, info := j }
  else refuse s stBadParam
def execLaneCaptureCfg (h : Hdr) (p : LaneCaptureCfgP) (s : State) : Host.Outcome State Fault Refusal :=
  agentRun h (.laneCaptureCfg p) (laneCaptureCfg h p) s

/-- SNAPSHOT_END: the samples are written, one word per sample and bin (R214; what they are is a free value). -/
def snapshotEnd (n : Nat) (s : State) : State :=
  match (laneOf s n).snapshot with
  | none => s
  | some x =>
    if !x.running then s
    else
      let k := 4 * x.samples * (physOf s (lanePhys s n)).binCount
      let s1 := hostWrite x.buffer ((List.range k).map (Config.sampleByte s.free)) s
      raise 0x044 (tick1 (withLaneN n (fun l => { l with snapshot := none }) s1))
def execSnapshotEnd (lane : Nat) (s : State) : Host.Outcome State Fault Refusal := .next (snapshotEnd lane s)

/-- The reply of LANE_STATUS (R215). -/
def laneStatusReply (s : State) (n : Nat) : List Byte :=
  let l := laneOf s n
  let x := physOf s (lanePhys s n)
  let c := fun i => tget 0 l.cnt i
  le 1 (lanePhys s n) ++
    le 1 (x.state + 8 * roleOf s (lanePhys s n) + 32 * b2n (spawnOf s n).isSome + 64 * b2n l.outOfService) ++
    le 1 (match l.assign with | some u => u.chain | none => 0xFF) ++
    le 1 (match x.tune with | some u => u.phy | none => 0) ++ le 2 (match x.tune with | some u => u.channel | none => 0) ++
    le 4 (c 0) ++ ((List.range 7).map (fun i => le 2 (sat16 (c (i + 1))))).flatten

/-- LANE_STATUS. -/
def laneStatus (h : Hdr) (p : LaneStatusP) (s : State) : Res :=
  if 1 < p.clear then refuse s stBadParam
  else done (if p.clear = 1 then withLaneN h.flow (fun l => { l with cnt := [] }) s else s) (laneStatusReply s h.flow)
def execLaneStatus (h : Hdr) (p : LaneStatusP) (s : State) : Host.Outcome State Fault Refusal := agentRun h (.laneStatus p) (laneStatus h p) s

/-- LANE_FLUSH: the frame of the lane and of the lane spawned from it end with no record (R191). -/
def laneFlush (h : Hdr) (_p : LaneFlushP) (s : State) : Res :=
  let n := h.flow
  if (laneOf s n).outOfService then refuse s stDegraded
  else
    let ps := lanePhys s n :: (spawnOf s n).toList
    let busy := ps.any (fun q => (physOf s q).frame.isSome)
    { st := ps.foldl (fun s q => abortFrame q none s) s, status := if busy then stFlushed else stOk, data := le 1 (b2n busy) }
def execLaneFlush (h : Hdr) (p : LaneFlushP) (s : State) : Host.Outcome State Fault Refusal := agentRun h (.laneFlush p) (laneFlush h p) s

/-- A list rises strictly. -/
def rising : List Nat → Bool
  | a :: b :: t => a < b && rising (b :: t)
  | _ => true

/-- LANE_BITLOAD: set, or read. -/
def laneBitload (_h : Hdr) (p : LaneBitloadP) (s : State) : Res :=
  if p.op = 0 then
    if 48 < p.margin || p.thr.length ≠ 4 || p.thr.any (255 < ·) || !rising p.thr || p.minChange = 0 || 96 < p.minChange || 3 < p.ratePolicy ||
        3 < p.nullPeriod then refuse s stBadParam
    else done (withLane (fun b => { b with
      margin := p.margin, thr := p.thr, minChange := p.minChange, ratePolicy := p.ratePolicy, nullPeriod := p.nullPeriod }) s)
  else if p.op = 1 then
    done s (le 1 s.lane.margin ++ (s.lane.thr.map (le 1)).flatten ++ le 1 s.lane.minChange ++ le 1 s.lane.ratePolicy ++ le 1 s.lane.nullPeriod)
  else refuse s stBadParam
def execLaneBitload (h : Hdr) (p : LaneBitloadP) (s : State) : Host.Outcome State Fault Refusal := agentRun h (.laneBitload p) (laneBitload h p) s

/-! Spare lanes (R196-R198). -/

/-- Logical lane n has lost its physical lane: it waits for a spare, or goes out of service where no spare remains, free or
spawned (R197, R198). -/
def loseLane (n : Nat) (s : State) : State :=
  if (List.range 104).any (fun q => roleOf s q = 1 || roleOf s q = 2) then withLaneN n (fun l => { l with moveDue := true }) s
  else exhausted 1 (degrade 1 (raise 0x042 (withLaneN n (fun l => { l with outOfService := true }) s)))

/-- Physical lane p fails (R197): its frame ends in ABORT, and it takes ROLE 3 for good. -/
def failPhys (p : Nat) (s : State) : State :=
  if 104 ≤ p || roleOf s p = 3 then s
  else
    let r := roleOf s p
    let n := logicalOf s p
    let s := abortFrame p none (raise 0x040 s)
    let s := withPhys p (fun x => { x with role := some 3 }) s
    let s := withFlash (fun f => { f with failedLanes := if f.failedLanes.contains p then f.failedLanes else f.failedLanes ++ [p] }) s
    if r = 0 then loseLane n s else s
def execLaneFail (phys : Nat) (s : State) : Host.Outcome State Fault Refusal := .next (failPhys phys s)

/-- Spare q takes logical lane n (R196, R197). -/
def moveLane (n q : Nat) (s : State) : State :=
  let u := match (laneOf s n).assign with
    | some a => if a.planned then (physOf s (lanePhys s n)).tune else some a
    | none => none
  let s := withPhys q (fun x => { x with role := some 0, logical := some n, frame := none, state := 0 }) s
  let s := withLaneN n (fun l => { l with phys := some q, moveDue := false, outOfService := false }) s
  let s := tunePhys q u s
  if (List.range 96).any (fun m => (laneOf s m).outOfService) then s else undegrade 1 s

/-- LANE_SPARE_MOVE (R197). -/
def laneSpareMove (n : Nat) (s : State) : State :=
  match freeSpare s with
  | some q => if n < 96 && ((laneOf s n).moveDue || (laneOf s n).outOfService) then raise 0x041 (moveLane n q s) else s
  | none => s
def execLaneSpareMove (lane : Nat) (s : State) : Host.Outcome State Fault Refusal := .next (laneSpareMove lane s)

/-- Blanking by a chain begins: lanes it blanks end their frames in ABORT (R170). -/
def blankLanes (s : State) : State :=
  (List.range 104).foldl (fun s p => match (physOf s p).tune with
    | some u => if tuneBlanked s u then abortFrame p (some 6) s else s
    | none => s) s

end Sys2Proof.Machine
end

