-- ==== Sys2Proof/Machine/Radio.lean ====
section
/-!
DEFINITION. The radio chains: configuration, calibration, gain, tuner, blanking map, synthesiser, raw transmissions (R138-R178).
-/
namespace Sys2Proof.Machine

/-- RFFE writes of chain c reach its bus while the gate is held (R162, R166). -/
def rffeSend (c : Nat) (w : List RffeWrite) (s : State) : State :=
  if gateHeld s then withChain c (fun k => { k with rffe := k.rffe ++ w }) s else s

/-- D(t, r) in force: as set, or the default by the bands of the two windows (R169). -/
def blankDist (s : State) (t r : Nat) : Nat :=
  match tfind s.rfc.blankMap (4 * t + r) with
  | some d => d
  | none =>
    let b := fun c => centreBand (chainOf s c).centre
    if t = r then 0xFFFF else if (chainOf s t).centre ≠ 0 && b t = b r && b t < 3 then 200 else 0

/-- The map of chain t toward the four chains. -/
def blankRow (s : State) (t : Nat) : List Nat := (List.range 4).map (blankDist s t)

/-! Calibration (R148-R152). -/

/-- The bands of a chain's bound plans (R148). -/
def planBands (k : ChainSt) : Nat :=
  ([0, 1, 2].filter (fun b => k.plans.any (fun e => match planOf k e.2 with
    | some u => centreBand u.f0 = b
    | none => false))).length

/-- Duration of calibration steps in us (R148). -/
def calUs (k : ChainSt) (steps : List Nat) : Nat :=
  (steps.map (fun i => if i = 4 then 9600 * planBands k else nth 0 [0, 2000, 6000, 200, 0, 8000, 1000] i)).sum

/-- The first slot for which FORECAST has not built a plan (R150, R178, R286). -/
def firstUnbuilt (s : State) : Nat :=
  match s.slot.plans.getLast? with
  | some p => asnAdd p.asn 1
  | none => asnAdd s.slot.asn 1

/-- A calibration asked for, joined to one that waits or runs (R140, R150). -/
def askCal (c : Nat) (steps : List Nat) (job : Nat) (s : State) : State :=
  let k := chainOf s c
  let o := k.cal.getD {}
  let all := [1, 2, 3, 4, 5, 6].filter (fun i => steps.contains i || o.steps.contains i)
  withChain c (fun k => { k with cal := some {
    steps := all, job := if job = 0 then o.job else job, fromAsn := firstUnbuilt s, slots := cdiv (calUs k all) s.slot.slotLenUs,
    running := o.running } }) s

/-- The bits of RAD_CAL as steps. -/
def stepsOf (m : Nat) : List Nat := [1, 2, 3, 4, 5, 6].filter (fun i => bit m (i - 1))

/-- RAD_CAL: every step on a chain out of service (R151). -/
def radCal (h : Hdr) (p : RadCalP) (s : State) : Res :=
  let c := h.flow
  let k := chainOf s c
  if p.steps = 0 || 63 < p.steps then refuse s stBadParam
  else if k.cal.isSome || k.testHold then refuse s stBusy
  else
    let j := freshJob s
    { st := tick1 (askCal c (if k.service = 2 then [1, 2, 3, 4, 5, 6] else stepsOf p.steps) j s), status := stPending, info := j }
def execRadCal (h : Hdr) (p : RadCalP) (s : State) : Host.Outcome State Fault Refusal := agentRun h (.radCal p) (radCal h p) s

/-- The slots asked for have come, or the slot engine is stopped, and no TX window is open (R149, R150). -/
def calDue (s : State) (c : Nat) : Bool :=
  match (chainOf s c).cal with
  | none => false
  | some j => !j.running && !(chainOf s c).testHold && (!s.slot.running || j.fromAsn = s.slot.asn || asnBehind j.fromAsn s.slot.asn) &&
      (chainOf s c).txs.all (fun t => !t.written && t.phase = 0)

/-- CAL_START: the chain neither receives nor transmits while it runs (R148, R150). -/
def calStart (c : Nat) (s : State) : State :=
  if !calDue s c then s
  else
    let s := withChain c (fun k => { k with
      service := 1, rxLock := k.rxLock && !((k.cal.getD {}).steps.contains 3), cal := k.cal.map (fun j => { j with running := true }) }) s
    (List.range 104).foldl (fun s p => match (physOf s p).tune with
      | some u => if u.chain = c then abortFrame p none s else s
      | none => s) s
def execCalStart (chain : Nat) (s : State) : Host.Outcome State Fault Refusal := .next (calStart chain s)

/-- The status word of EV_CAL_DONE (R151). -/
def calWord (failedStep job : Nat) : Nat := (if failedStep = 0 then stOk else stDegraded) + 2 ^ 16 * failedStep + 2 ^ 24 * (job % 256)

/-- CAL_DONE (R140, R151, R166). -/
def calDone (c failedStep : Nat) (degC : Int) (s : State) : State :=
  match (chainOf s c).cal with
  | none => s
  | some j =>
    if !j.running || 6 < failedStep then s
    else
      let s := withChain c (fun k => { k with
        cal := none, service := if failedStep = 0 then 0 else 2, failedStep := failedStep, dieTemp := degC,
        rxLock := if j.steps.contains 3 then failedStep = 0 || 3 < failedStep else k.rxLock,
        lastCalTemp := if j.steps.contains 2 && (failedStep = 0 || 2 < failedStep) then some degC else k.lastCalTemp }) s
      let s := raiseW (0x021 + 8 * c) (calWord failedStep j.job) (rffeSend c (chainOf s c).seqWindow s)
      if failedStep ≠ 0 then degrade 0 (raise (0x027 + 8 * c) s) else if chainsOut s = 0 then undegrade 0 s else s
def execCalDone (chain failedStep : Nat) (degC : Int) (s : State) : Host.Outcome State Fault Refusal := .next (calDone chain failedStep degC s)

/-- AUTO_RECAL_TRIGGER (R152). -/
def autoRecal (c : Nat) (degC : Int) (s : State) : State :=
  let s := if 3 < c then s else withChain c (fun k => { k with dieTemp := degC }) s
  let k := chainOf s c
  match k.lastCalTemp with
  | none => s
  | some t => if k.autoRecal ≠ 0 && k.autoRecal ≤ (degC - t).natAbs && k.cal.isNone && k.service = 0 then askCal c [2, 5] 0 s else s
def execAutoRecalTrigger (chain : Nat) (degC : Int) (s : State) : Host.Outcome State Fault Refusal := .next (autoRecal chain degC s)

/-! Configuration (R139-R142, R160, R168, R169, R177, R568). -/

/-- The user plans after a RAD_CHAIN_CFG. -/
def plansAfter (k : ChainSt) (p : RadChainCfgP) : Tbl UserPlan := p.userPlans.foldl (fun t u => tput t u.plan u) k.userPlans

/-- The bindings after it: the modes of phy_enable (R568). -/
def bindings (p : RadChainCfgP) : Tbl Nat :=
  ((List.range 13).filter (bit p.phyEnable)).map (fun m => (m, nth 0 p.planForPhy m))

/-- The parameters are within R139-R142, R164, R166 and R177. -/
def chainCfgOk (k : ChainSt) (p : RadChainCfgP) : Bool :=
  let k := { k with userPlans := plansAfter k p }
  centreBand p.windowCentre < 3 && p.phyEnable < 2 ^ 13 && p.planForPhy.length = 13 && p.rampForPhy.length = 13 && p.rampForPhy.all (· ≤ 7) &&
    p.userPlans.all userPlanOk &&
    (bindings p).all (fun e => match planOf k e.2 with
      | some u => planCarries u e.1
      | none => false) &&
    p.couplerSrc ≤ 1 && 12 ≤ p.mismatchRl && p.mismatchRl ≤ 80 && p.backoffStep ≤ 20 && p.maxBackoff ≤ 18 &&
    p.txOn.length ≤ 8 && p.txOff.length ≤ 8 && p.rxWindow.length ≤ 8

/-- A fixed lane of chain c, or an enabled superframe on it, uses a mode (R568). -/
def modeUsed (s : State) (c m : Nat) : Bool :=
  (List.range 96).any (fun n => match effAssign (laneOf s n) with
    | some u => u.chain = c && !u.planned && u.phy = m
    | none => false) ||
  (List.range 8).any (fun f => (superOf s f).enabled && (superOf s f).chain = c && (superOf s f).phy = m)

/-- A lane is assigned to chain c (R140). -/
def chainHasLanes (s : State) (c : Nat) : Bool :=
  (List.range 96).any (fun n => match effAssign (laneOf s n) with
    | some u => u.chain = c
    | none => false)

/-- The change would move a window under its lanes, or a binding under its users (R140, R568). -/
def chainCfgBusy (s : State) (c : Nat) (p : RadChainCfgP) : Bool :=
  let k := chainOf s c
  (p.windowCentre ≠ k.centre && chainHasLanes s c) ||
    (List.range 13).any (fun m => modeUsed s c m && tfind k.plans m ≠ tfind (bindings p) m)

/-- RAD_CHAIN_CFG. -/
def radChainCfg (h : Hdr) (p : RadChainCfgP) (s : State) : Res :=
  let c := h.flow
  let k := chainOf s c
  if k.service = 2 then refuse s stDegraded
  else if !chainCfgOk k p then refuse s stBadParam
  else if chainCfgBusy s c p then refuse s stBusy
  else
    let s := withChain c (fun k => { k with
      centre := p.windowCentre, userPlans := plansAfter k p, plans := bindings p, ramps := (List.range 13).map (fun m => (m, nth 0 p.rampForPhy m)),
      rxFeGain := p.rxFeGain, couplerSrc := p.couplerSrc, cplFactor := p.cplFwd, mismatchRl := p.mismatchRl, backoffStep := p.backoffStep,
      maxBackoff := p.maxBackoff, autoRecal := p.autoRecal, seqOn := p.txOn, seqOff := p.txOff, seqWindow := p.rxWindow }) s
    if p.windowCentre = k.centre then done s
    else done (askCal c [2, 3] 0 (rffeSend c p.rxWindow (withChain c (fun k => { k with rxLock := false }) s)))
def execRadChainCfg (h : Hdr) (p : RadChainCfgP) (s : State) : Host.Outcome State Fault Refusal := agentRun h (.radChainCfg p) (radChainCfg h p) s

/-- RAD_COEX_CFG. -/
def radCoexCfg (h : Hdr) (p : RadCoexCfgP) (s : State) : Res :=
  if (chainOf s h.flow).service = 2 then refuse s stDegraded
  else if 1 < p.coexMode || 1 < p.grantPolarity || p.reqLeadUs < 10 || 1000 < p.reqLeadUs || 1 < p.priAck || 1 < p.abortOnRevoke then
    refuse s stBadParam
  else done (withChain h.flow (fun k => { k with
    coexMode := p.coexMode, grantPolarity := p.grantPolarity, reqLeadUs := p.reqLeadUs, priMask := p.priMask, priAck := p.priAck = 1,
    abortOnRevoke := p.abortOnRevoke = 1 }) s)
def execRadCoexCfg (h : Hdr) (p : RadCoexCfgP) (s : State) : Host.Outcome State Fault Refusal := agentRun h (.radCoexCfg p) (radCoexCfg h p) s

/-- RAD_AGC_CFG. -/
def radAgcCfg (h : Hdr) (p : RadAgcCfgP) (s : State) : Res :=
  if (chainOf s h.flow).service = 2 then refuse s stDegraded
  else if 1 < p.agcMode || p.wbTarget < -128 || -40 < p.wbTarget || p.nbTarget < -80 || -24 < p.nbTarget || p.clipCount = 0 || 64 < p.clipCount then
    refuse s stBadParam
  else done (withChain h.flow (fun k => { k with
    agcMode := p.agcMode, wbTarget := p.wbTarget, nbTarget := p.nbTarget, clipCount := p.clipCount }) s)
def execRadAgcCfg (h : Hdr) (p : RadAgcCfgP) (s : State) : Host.Outcome State Fault Refusal := agentRun h (.radAgcCfg p) (radAgcCfg h p) s

/-- The chain is transmitting: its lines are driven (R159). -/
def transmitting (k : ChainSt) : Bool := k.txs.any (fun t => t.phase ≠ 0)

/-- RAD_PA_RAMP: between transmissions (R10, R160). -/
def radPaRamp (h : Hdr) (p : RadPaRampP) (s : State) : Res :=
  let k := chainOf s h.flow
  if k.service = 2 then refuse s stDegraded
  else if 7 < p.profile || p.rampUs < 2 || 32 < p.rampUs || 20 < p.paLeadUs || p.points.length ≠ 16 || p.points.any (1023 < ·) then
    refuse s stBadParam
  else
    let r : RampProfile := { rampUs := p.rampUs, paLeadUs := p.paLeadUs, points := p.points }
    done (withChain h.flow (fun k => if transmitting k then { k with profileNext := tput k.profileNext p.profile r }
      else { k with profiles := tput k.profiles p.profile r }) s)
def execRadPaRamp (h : Hdr) (p : RadPaRampP) (s : State) : Host.Outcome State Fault Refusal := agentRun h (.radPaRamp p) (radPaRamp h p) s

/-- Profiles that waited for the end of the transmission (R10). -/
def takeProfiles (c : Nat) (s : State) : State :=
  withChain c (fun k => { k with profiles := k.profileNext.foldl (fun t e => tput t e.1 e.2) k.profiles, profileNext := [] }) s

/-- RAD_BLANK_MAP: from the first plan built after it (R169, R171). -/
def radBlankMap (h : Hdr) (p : RadBlankMapP) (s : State) : Res :=
  if (chainOf s h.flow).service = 2 then refuse s stDegraded
  else if p.dist.length ≠ 4 || p.dist.any (0xFFFF < ·) then refuse s stBadParam
  else done (withRfc (fun r => { r with
    blankMap := (List.range 4).foldl (fun t i => tput t (4 * h.flow + i) (nth 0 p.dist i)) r.blankMap }) s)
def execRadBlankMap (h : Hdr) (p : RadBlankMapP) (s : State) : Host.Outcome State Fault Refusal := agentRun h (.radBlankMap p) (radBlankMap h p) s

/-! Antenna tuner (R165). -/

/-- The tuner written to a state. -/
def setTuner (c : Nat) (t : TunerState) (s : State) : State :=
  rffeSend c t.writes (withChain c (fun k => { k with tunerState := some t }) s)

/-- RAD_TUNER. -/
def radTuner (h : Hdr) (p : RadTunerP) (s : State) : Res :=
  let c := h.flow
  let k := chainOf s c
  if k.service = 2 then refuse s stDegraded
  else if 2 < p.op || p.states.any (fun t => 4 < t.writes.length) then refuse s stBadParam
  else if p.op = 2 then done (withChain c (fun k => { k with backoff := 0 }) s)
  else if (p.op = 0 && p.states.length ≠ 1) || p.states.length = 0 || 16 < p.states.length then refuse s stBadParam
  else if k.tunerSearch.isSome || k.tunerWait.isSome then refuse s stBusy
  else
    let s1 := setTuner c (nth {} p.states 0) s
    if p.op = 0 then { st := withChain c (fun k => { k with tunerWait := some (h.qp, h.tag) }) s1, wait := true }
    else
      let j := freshJob s
      { st := tick1 (withChain c (fun x => { x with
          tunerSearch := some { job := j, states := p.states, prev := k.tunerState, startedNs := rawNs s } }) s1),
        status := stPending, info := j }
def execRadTuner (h : Hdr) (p : RadTunerP) (s : State) : Host.Outcome State Fault Refusal := agentRun h (.radTuner p) (radTuner h p) s

/-- The candidate with the highest return loss, the first of equals. -/
def bestOf (l : List (Nat × Int)) : Nat × Int :=
  l.foldl (fun b x => if b.2 < x.2 then x else b) (l.headD (0, 0))

/-- A reading of a transmission made under the candidate in force: the next one, or the end of the search (R165). -/
def tunerReading (c : Nat) (rl : Int) (s : State) : State :=
  let k := chainOf s c
  let s := finishWait k.tunerWait stOk (leS 2 rl) (withChain c (fun k => { k with tunerWait := none }) s)
  match k.tunerSearch with
  | none => s
  | some t =>
    let t := { t with tried := t.tried ++ [(t.tried.length, rl)] }
    if t.tried.length < t.states.length then
      setTuner c (nth {} t.states t.tried.length) (withChain c (fun k => { k with tunerSearch := some t }) s)
    else
      let b := bestOf t.tried
      let s := setTuner c (nth {} t.states b.1) (withChain c (fun k => { k with tunerSearch := none, backoff := 0 }) s)
      raiseW (0x026 + 8 * c) (Config.tunerWord stOk b.1 (s2n 16 b.2) % 2 ^ 32) s

/-- TUNER_SEARCH_TIMEOUT (R165). -/
def tunerTimeout (c : Nat) (s : State) : State :=
  match (chainOf s c).tunerSearch with
  | none => s
  | some t =>
    let s := withChain c (fun k => { k with tunerSearch := none }) s
    let s := match t.prev with
      | some x => setTuner c x s
      | none => withChain c (fun k => { k with tunerState := none }) s
    raiseW (0x026 + 8 * c) (Config.tunerWord stTimeout 0 0 % 2 ^ 32) s
def execTunerSearchTimeout (chain : Nat) (s : State) : Host.Outcome State Fault Refusal := .next (tunerTimeout chain s)

/-! Receive gain (R153-R157). Powers in 0.25 dB. -/

/-- Lanes assigned to chain c. -/
def chainLanes (s : State) (c : Nat) : List Nat :=
  (List.range 96).filter (fun n => match (laneOf s n).assign with
    | some u => u.chain = c
    | none => false)

/-- The mode a chain runs in from a boundary on (R153, R154). -/
def wantsWide (s : State) (c : Nat) : Bool := (chainOf s c).agcMode = 1 || 1 < (chainLanes s c).length

/-- Gain index moved by n, within 0-23. -/
def gainBy (n : Int) (i : Nat) : Nat := (clampI 0 23 (i + n)).toNat

/-- The wideband step for window power p measured over us microseconds (R155). -/
def wideStep (target p : Int) (us : Nat) : Int :=
  if us < 100 then 0
  else if 14 < p - target then -(min 4 (cdivI (p - target - 14) 12))
  else if 14 < target - p then min 4 (cdivI (target - p - 14) 12)
  else 0

/-- What a boundary does to the gain of every chain: the mode, then the wideband step (R154, R155). -/
def agcBoundary (power : List (Int × Nat)) (s : State) : State :=
  (List.range 4).foldl (fun s c =>
    let w := wantsWide s c
    let m := nth (0, 0) power c
    withChain c (fun k => { k with
      agcWide := w, gainIndex := if w && k.service = 0 then gainBy (wideStep k.wbTarget m.1 m.2) k.gainIndex else k.gainIndex }) s) s

/-- RAW_SLOT_BOUNDARY: while the slot engine is stopped (R154). -/
def rawSlotBoundary (env : SlotEnv) (s : State) : State := if s.slot.running then s else agcBoundary env.power s
def execRawSlotBoundary (env : SlotEnv) (s : State) : Host.Outcome State Fault Refusal := .next (rawSlotBoundary env s)

/-- NB_AGC_UPDATE: one index toward the target, while the chain's lane searches and listens (R153). -/
def nbAgc (c : Nat) (level : Int) (s : State) : State :=
  let k := chainOf s c
  match chainLanes s c with
  | [n] =>
    let q := lanePhys s n
    if k.agcWide || (physOf s q).state ≠ 0 || !listens s q then s
    else if 6 < level - k.nbTarget then withChain c (fun k => { k with gainIndex := gainBy (-1) k.gainIndex }) s
    else if 6 < k.nbTarget - level then withChain c (fun k => { k with gainIndex := gainBy 1 k.gainIndex }) s
    else s
  | _ => s
def execNbAgcUpdate (chain : Nat) (level : Int) (s : State) : Host.Outcome State Fault Refusal := .next (nbAgc chain level s)

/-- ADC_CLIP (R156). -/
def adcClip (c clipped : Nat) (s : State) : State :=
  let k := chainOf s c
  let free := match k.lastClipNs with
    | some t => t + 20000 ≤ rawNs s
    | none => true
  if 3 < c || clipped < k.clipCount || !free then s
  else raise (0x024 + 8 * c) (withChain c (fun k => { k with
    gainIndex := gainBy (-2) k.gainIndex, lastClipNs := some (rawNs s), cntClip := satInc k.cntClip }) s)
def execAdcClip (chain clipped : Nat) (s : State) : Host.Outcome State Fault Refusal := .next (adcClip chain clipped s)

/-! Synthesiser (R144, R145). -/

/-- The transmission whose frequency is written next: those before it have ended their ramp-down (R145). -/
def toWrite : List TxSeq → Option TxEntry
  | [] => none
  | t :: l => if !t.written then some t.entry else if 7 ≤ t.phase then toWrite l else none

/-- The first transmission not written is written. -/
def markWritten : List TxSeq → List TxSeq
  | [] => []
  | t :: l => if t.written then t :: markWritten l else { t with written := true } :: l

/-- SYNTH_FREQ_WRITE: the driver is muted until lock; a carrier locked already reports lock at once (R144, R145). -/
def synthWrite (c : Nat) (s : State) : State :=
  let k := chainOf s c
  match toWrite k.txs with
  | none => s
  | some e =>
    if k.service ≠ 0 then s
    else withChain c (fun k =>
      let same := k.synthCarrier = some e.carrier && !k.synthUp
      { k with txs := markWritten k.txs, synthCarrier := some e.carrier, synthWriteNs := rawNs s, txLock := same, synthUp := !same }) s
def execSynthFreqWrite (chain : Nat) (s : State) : Host.Outcome State Fault Refusal := .next (synthWrite chain s)

/-- SYNTH_LOCK (R144). -/
def synthLock (c : Nat) (s : State) : State :=
  if (chainOf s c).synthCarrier.isNone then s else withChain c (fun k => { k with txLock := true, synthUp := false }) s
def execSynthLock (chain : Nat) (s : State) : Host.Outcome State Fault Refusal := .next (synthLock chain s)

/-! Raw transmissions (R177, R178). -/

/-- RAD_TX_RAW: it waits for the plan of its slot, one at a time per chain. -/
def radTxRaw (h : Hdr) (p : RadTxRawP) (s : State) : Res :=
  let c := h.flow
  let k := chainOf s c
  if k.service = 2 then refuse s stDegraded
  else if !phyOk p.phyMode || p.powerHdbm < -40 || 20 < p.powerHdbm || 1 < p.kind || 7 < p.cls ||
      (p.kind = 0 && (p.length < 9 || 2047 < p.length)) || (p.kind = 1 && (p.durationUs = 0 || 100000 < p.durationUs)) then refuse s stBadParam
  else if (channelCentre k p.phyMode p.channel).isNone then refuse s stBadParam
  else if k.service = 1 || k.testHold then refuse s stBusy
  else
    { st := withChain c (fun k => { k with raws := k.raws ++ [{
        qp := h.qp, tag := h.tag, p := p, actNs := if hflag h 1 then some h.actTime else none }] }) s, wait := true }
def execRadTxRaw (h : Hdr) (p : RadTxRawP) (s : State) : Host.Outcome State Fault Refusal := agentRun h (.radTxRaw p) (radTxRaw h p) s

end Sys2Proof.Machine
end

