-- ==== Sys2Proof/Machine/Forecast.lean ====
section
/-!
DEFINITION. FORECAST, the lane-plan builder: what fits, where it goes, and the checks before the air (R245-R257, R268-R272,
R278, R299, R303). Times inside a plan are in us from the boundary of its slot.
-/
namespace Sys2Proof.Machine

/-! Frames as they are sent (R27, R207, R246, R247). -/

/-- A frame that the packet engine converts to the mesh's format (R27). -/
def converted (f : QFrame) : Bool := f.frame.ip.isSome

/-- MAC header and payload of a frame toward the air, without FCS (R27; formats: log entry 16). -/
def macParts (f : QFrame) : List Byte × List Byte :=
  if converted f then (Config.toAirHeader f.data f.neighbour, Config.toAir f.data)
  else
    let m := f.data.take (f.data.length - 2)
    (m.take (Config.macHeader f.data), m.drop (Config.macHeader f.data))

/-- PSDU bytes with MIC and FCS. -/
def psduLen (f : QFrame) : Nat := (macParts f).1.length + (macParts f).2.length + micLen f.secLevel + 2

/-- PPDU air time of a PSDU as the part sends it (R246, R247). -/
def airFor (s : State) (phy mcs len : Nat) (zao : Option (List Nat × Nat)) : Nat :=
  airUs s.slot.preBytes phy mcs len (bit s.slot.fskTx 0) s.lane.nullPeriod zao

/-- The map and rate of a ZAO frame: the stored downlink map on attempts 1 and 2, else uniform QPSK at 1/2 (R207). -/
def zaoFor (s : State) (f : QFrame) : Option (List Nat × Nat) :=
  let e := nbrOf s f.neighbour
  if f.attempts < 2 && f.neighbour < 0x8000 && e.valid && e.downValid then some (e.downMap, e.downRate) else none

/-- Air time of a frame. -/
def airOf (s : State) (phy mcs : Nat) (f : QFrame) : Nat := airFor s phy mcs (psduLen f) (zaoFor s f)

/-- Air time of the longest Enh-Ack allowed for (R245, R247). -/
def airMaxAck (s : State) (t : Template) (phy mcs : Nat) : Nat := airFor s phy mcs (maxAck t phy) none

/-- The fit rule (R247). -/
def fits (s : State) (t : Template) (phy mcs : Nat) (f : QFrame) : Bool :=
  t.txOffset + airOf s phy mcs f + (if f.ackReq then t.ackDelay + airMaxAck s t phy mcs else 0) + t.endGuard ≤ s.slot.slotLenUs

/-! Intervals (R169-R171, R252, R253). -/

/-- Slots from a to b, signed. -/
def asnDiff (b a : Nat) : Int := (((b : Int) - a + 2 ^ 39) % 2 ^ 40) - 2 ^ 39

/-- An instant of a transmit entry, in us from the boundary of slot n. -/
def rel (s : State) (n : Nat) (e : TxEntry) (us : Int) : Int := us + asnDiff e.asn n * s.slot.slotLenUs

/-- The transmitter reservation of an entry (R252). -/
def txSpan (s : State) (n : Nat) (e : TxEntry) : Int × Int :=
  (rel s n e ((e.tUs : Int) - e.rampUs - e.paLeadUs - 14), rel s n e (e.eUs + e.rampUs + 2))

/-- When an entry blanks lanes: from TX_EN rising to 5 us after it falls (R170). -/
def blankSpan (s : State) (n : Nat) (e : TxEntry) : Int × Int :=
  (rel s n e ((e.tUs : Int) - e.rampUs - e.paLeadUs - 2), rel s n e (e.eUs + e.rampUs + 7))

/-- Two intervals overlap. -/
def meet (a b : Int × Int) : Bool := a.1 < b.2 && b.1 < a.2

/-- An entry blanks a channel centre f of chain r (R170). -/
def entryBlanks (e : TxEntry) (r f : Nat) : Bool :=
  let d := nth 0 e.blanks r
  d = 0xFFFF || max f e.carrier - min f e.carrier < d

/-! Superframes (R268). -/

/-- A superframe slot, and the beacon interval, in us. -/
def superSlotUs (u : SuperSt) : Nat := baseSlotUs u.phy * 2 ^ u.so
def superBiUs (u : SuperSt) : Nat := 16 * baseSlotUs u.phy * 2 ^ u.bo

/-- The starts of the active periods that touch slot n. -/
def activeStarts (s : State) (u : SuperSt) (n : Nat) : List Int :=
  let act : Int := 16 * superSlotUs u
  let bi : Int := superBiUs u
  let r := asnDiff n u.anchorAsn * s.slot.slotLenUs - u.anchorOffset
  let k0 := max 0 ((r - act) / bi + 1)
  ((List.range (s.slot.slotLenUs / superBiUs u + 2)).map (fun (i : Nat) => (k0 + (i : Int)) * bi - r)).filter (fun x => x < s.slot.slotLenUs)

/-- Chain c is inside a superframe's active period at some time of an interval of slot n (R253). -/
def superBusy (s : State) (n c : Nat) (a : Int × Int) : Bool :=
  (List.range 8).any (fun i => let u := superOf s i
    u.enabled && u.chain = c && (activeStarts s u n).any (fun x => meet a (x, x + 16 * superSlotUs u)))

/-! Chains (R150, R251, R546). -/

/-- Chain c is left out of the plan of slot n: a calibration, a loop-back or a test pattern takes the slot. -/
def excluded (s : State) (c n : Nat) : Bool :=
  let k := chainOf s c
  let inside := fun (a len : Nat) => (n + 2 ^ 40 - a % 2 ^ 40) % 2 ^ 40 < len
  k.testHold || (match k.cal with
    | some j => j.running || inside j.fromAsn j.slots
    | none => false) ||
  (match s.test.run with
    | some r => r.target = c && inside r.fromAsn r.slots
    | none => false)

/-- The carrier of a channel where chain c qualifies for it in slot n (R251). -/
def qualifies (s : State) (c n phy ch : Nat) : Option Nat :=
  let k := chainOf s c
  if k.service ≠ 0 || excluded s c n then none
  else match channelCentre k phy ch with
    | some f => if inWindow k phy f then some f else none
    | none => none

/-- Entries a chain has in a plan. -/
def entriesOn (pl : Plan) (c : Nat) : Nat := (pl.lanes.filter (·.chain = c)).length + (pl.txs.filter (·.chain = c)).length

/-- The chains tried for a cell, in order, with their carriers (R251). -/
def chainsFor (s : State) (pl : Plan) (x : CellW) (ch : Nat) : List (Nat × Nat) :=
  let others := if x.chainAny then isort (fun a b => entriesOn pl a ≤ entriesOn pl b) ([0, 1, 2, 3].filter (· ≠ x.chain)) else []
  (x.chain :: others).filterMap (fun c => (qualifies s c pl.asn x.phy ch).map (fun f => (c, f)))

/-- The channel of a cell in slot n (R251). -/
def hopChannel (s : State) (sf n offset : Nat) : Option Nat :=
  let h := (sfOf s sf).hop
  if h.isEmpty then none else some (nth 0 h ((n + offset) % 2 ^ 40 % h.length))

/-! Lanes of a plan (R185, R255, R303). -/

/-- The lowest-numbered planned lane of chain c in service that the plan does not use yet. -/
def freeLane (s : State) (pl : Plan) (c : Nat) : Option Nat :=
  (List.range 96).find? (fun n => !laneOut s n && !pl.lanes.any (·.lane = n) && match (laneOf s n).assign with
    | some u => u.planned && u.chain = c
    | none => false)

/-- A lane of the part already listens on this centre with this PHY mode in the slot (R185). -/
def centreTaken (s : State) (pl : Plan) (phy f : Nat) : Bool :=
  fixedTwin s 96 f phy || pl.lanes.any (fun e => e.phy = phy && channelCentre (chainOf s e.chain) e.phy e.channel = some f)

/-- A transmission of the plan, or one carried over, blanks a lane that listens so (R303). -/
def laneBlanked (s : State) (pl : Plan) (c f : Nat) (a : Int × Int) : Bool :=
  let carried := (List.range 4).flatMap (fun t => ((chainOf s t).txs.map (·.entry)).filter (·.asn ≠ pl.asn))
  (pl.txs ++ carried).any (fun e => entryBlanks e c f && meet a (blankSpan s pl.asn e))

/-- A transmission would blank a lane entry already in the plan (check 2 of R303). -/
def blanksPlan (s : State) (pl : Plan) (e : TxEntry) : Bool :=
  pl.lanes.any (fun l => match channelCentre (chainOf s l.chain) l.phy l.channel with
    | some f => entryBlanks e l.chain f && meet ((l.listenStart : Int), (l.listenEnd : Int)) (blankSpan s pl.asn e)
    | none => false)

/-- Chain c is free for a transmitter in an interval (check 1 of R303, R253). -/
def txFree (s : State) (pl : Plan) (c : Nat) (a : Int × Int) (inSuper : Bool) : Bool :=
  !(pl.txs.any (fun e => e.chain = c && meet a (txSpan s pl.asn e))) &&
    !((chainOf s c).txs.any (fun t => t.entry.asn ≠ pl.asn && meet a (txSpan s pl.asn t.entry))) &&
    !(pl.acks.any (fun r => r.chain = c && meet a ((r.fromUs : Int), (s.slot.slotLenUs : Int)))) &&
    (inSuper || !superBusy s pl.asn c a)

/-! Transmit entries and the checks at plan time (R299, R303). -/

/-- The ramp profile of a PHY mode on a chain (R160). -/
def profileOf (k : ChainSt) (phy : Nat) : Nat × RampProfile := let i := tget 0 k.ramps phy; (i, tget {} k.profiles i)

/-- An entry with the chain's carrier, ramp profile and blanking row. -/
def onChain (s : State) (pl : Plan) (c carrier : Nat) (e : TxEntry) : TxEntry :=
  let r := profileOf (chainOf s c) e.phy
  { e with
    asn := pl.asn, chain := c, carrier := carrier, profile := r.1, rampUs := r.2.rampUs, paLeadUs := r.2.paLeadUs,
    blanks := (List.range 4).map (fun i => nth 0 pl.dist (4 * c + i)) }

/-- Airtime debited for an entry, and the bucket that contains its T (R297). -/
def debitUs (e : TxEntry) : Nat := e.eUs - e.tUs + 2 * e.rampUs
def bucketOfUs (s : State) (n us : Nat) : Nat := bucketAt s (boundaryOf s n + 1000 * (us : Int))

/-- s with PRECOMMIT_CNT[i] one higher. -/
def preCnt (i : Nat) (s : State) : State := withSlot (fun b => { b with preCnt := bump b.preCnt i }) s

/-- Checks 1 to 3 of R303 for an entry: 0 passed, else the check that failed. A superframe run's airtime is reserved already. -/
def precommit (pl : Plan) (e : TxEntry) (inSuper reserved : Bool) (s : State) : State × Nat :=
  if !txFree s pl e.chain (txSpan s pl.asn e) inSuper then (preCnt 0 s, 1)
  else if blanksPlan s pl e then (preCnt 1 s, 2)
  else if reserved then (s, 0)
  else
    let r := budgetCheck e.carrier e.phy e.chain (debitUs e) (bucketOfUs s pl.asn e.tUs) s
    if r.2 then (r.1, 0) else (preCnt 2 r.1, 3)

/-- a goes out before b. -/
def before2 (a b : TxEntry) : Bool := let d := asnDiff a.asn b.asn
  d < 0 || (d = 0 && a.tUs < b.tUs)

/-- A transmission takes its place among a chain's. -/
def queueTx (t : TxSeq) : List TxSeq → List TxSeq
  | [] => [t]
  | x :: l => if before2 t.entry x.entry && x.phase = 0 then t :: x :: l else x :: queueTx t l

/-- An entry placed: in the plan, and among its chain's transmissions. -/
def placeTx (e : TxEntry) (pl : Plan) (s : State) : State × Plan :=
  (withChain e.chain (fun k => { k with txs := queueTx { entry := e } k.txs }) s, { pl with txs := pl.txs ++ [e] })

/-- The lane entry that hears the ACK of an entry (R258). -/
def ackEntry (s : State) (t : Template) (mcs : Nat) (e : TxEntry) (n : Nat) : LaneEntry :=
  let g := if s.slot.holdover && e.neighbour = s.slot.timeSource then s.slot.guardUs else 0
  { lane := n, chain := e.chain, channel := e.channel, phy := e.phy, listenStart := e.eUs + t.ackDelay - t.ackGuard - g,
    listenEnd := e.eUs + t.ackDelay + shrUs s.slot.preBytes e.phy mcs + t.ackGuard + g, slotframe := e.slotframe, peer := e.neighbour }

/-! Cells (R250, R254, R255, R278). -/

/-- The list and length a slotframe has for slot n (R287). -/
def listFor (s : State) (f n : Nat) : Option (List CellW × Nat) :=
  let x := sfOf s f
  let new := match x.pendAsn with
    | some a => !asnBehind n a
    | none => false
  if new then (if x.pendOff then none else x.staged.map (fun l => (l, x.stagedLen))) else x.active.map (fun l => (l, x.activeLen))

/-- A cell in one of the damaged units of the schedule lists is passed over (R530). -/
def cellDamaged (s : State) (f pos : Nat) : Bool := s.ddr.skipUnits.contains (262144 * f + pos / 4)

/-- The cells of slot n: slotframe, place in its list, cell (R250). -/
def activeCells (s : State) (n : Nat) : List (Nat × Nat × CellW) :=
  (List.range 8).flatMap (fun f => match listFor s f n with
    | some (l, len) => (l.zipIdx.filter (fun x => x.1.slotOffset = n % max 1 len && !cellDamaged s f x.2)).map (fun x => (f, x.2, x.1))
    | none => [])

/-- Priority of a cell (R254): 7 is a shared receive cell. -/
def cellPrio (s : State) (x : CellW) : Nat :=
  if x.adv then 2
  else if x.rx && x.timekeeping && s.slot.follower && x.peer = s.slot.timeSource && !x.tx then 3
  else if x.tx then (if x.shared then 5 else 4)
  else if x.shared then 7 else 6

/-- Cells in order of priority, slotframe and list (R254). -/
def cellLe (s : State) (a b : Nat × Nat × CellW) : Bool :=
  let p := cellPrio s a.2.2
  let q := cellPrio s b.2.2
  p < q || (p = q && (a.1 < b.1 || (a.1 = b.1 && a.2.1 ≤ b.2.1)))
def rxLe (a b : Nat × Nat × CellW) : Bool :=
  let p := b2n a.2.2.shared
  let q := b2n b.2.2.shared
  p < q || (p = q && (a.1 < b.1 || (a.1 = b.1 && a.2.1 ≤ b.2.1)))

/-- The peer has a frame waiting in an AIR queue (R261). -/
def frameWaiting (s : State) (peer : Nat) : Bool :=
  s.tm.queues.any (fun e => e.2.port = 6 && e.2.frames.any (fun f => f.neighbour = peer && !f.bound))

/-- The widening of a receive cell that listens to the time source in holdover (R276). -/
def extraGuard (s : State) (peer : Nat) : Nat := if s.slot.holdover && peer = s.slot.timeSource then s.slot.guardUs else 0

/-- The transmit entry of a frame in a cell. -/
def frameEntry (s : State) (t : Template) (f : Nat) (x : CellW) (ch q : Nat) (fr : QFrame) : TxEntry :=
  { kind := 0, channel := ch, phy := x.phy, mcs := x.mcs, tUs := t.txOffset, eUs := t.txOffset + airOf s x.phy x.mcs fr, power := x.power,
    queue := q, frameId := fr.id, handle := (match s.tm.bufs.find? (·.id = fr.buf) with | some b => b.handle | none => 0),
    neighbour := fr.neighbour, cls := fr.cls, ackReq := fr.ackReq, secLevel := fr.secLevel, keySlot := fr.keySlot.getD 0,
    shared := x.shared, slotframe := f, psdu := psduLen fr }

/-- The Enhanced Beacon of an ADV cell (R267). -/
def beaconEntry (s : State) (t : Template) (f : Nat) (x : CellW) (ch : Nat) : TxEntry :=
  let len := s.slot.ebTemplate.length + micLen s.slot.ebSecLevel
  { kind := 1, channel := ch, phy := x.phy, mcs := x.mcs, tUs := t.txOffset, eUs := t.txOffset + airFor s x.phy x.mcs len none, power := x.power,
    secLevel := s.slot.ebSecLevel, keySlot := s.slot.ebKeySlot, slotframe := f, psdu := len }

/-- An entry tried on the chains that qualify: placed on the first that passes (R278, R303). -/
def tryTx (t : Template) (e : TxEntry) : List (Nat × Nat) → Plan → State → State × Plan × Bool
  | [], pl, s => (s, pl, false)
  | (c, f) :: l, pl, s =>
    let e1 := onChain s pl c f e
    let lane := if e.ackReq then freeLane s pl c else some 0
    match lane with
    | none => tryTx t e l pl s
    | some n =>
      let e2 := if e.ackReq then { e1 with ackLane := some n } else e1
      let r := precommit pl e2 false false s
      if r.2 ≠ 0 then tryTx t e l pl r.1
      else
        let p := placeTx e2 pl r.1
        (p.1, if e.ackReq then { p.2 with lanes := p.2.lanes ++ [ackEntry s t e.mcs e2 n] } else p.2, true)

/-- The ACK reservation of a receive cell, where its interval is free and the budget passes it (R252, R253, R299). -/
def reserveAck (t : Template) (c f : Nat) (x : CellW) (ch lane : Nat) (pl : Plan) (s : State) : State × Plan :=
  let start := t.txOffset + t.ackDelay
  let us := airMaxAck s t x.phy x.mcs
  if pl.txs.any (fun e => e.chain = c && meet ((start : Int), (s.slot.slotLenUs : Int)) (txSpan s pl.asn e)) ||
      superBusy s pl.asn c ((start : Int), (s.slot.slotLenUs : Int)) then (s, pl)
  else
    let b := bucketOfUs s pl.asn start
    let r := budgetCheck f x.phy c us b s
    if r.2 then (r.1, { pl with acks := pl.acks ++ [{
      chain := c, channel := ch, phy := x.phy, fromUs := start, lane := lane, debitUs := us, bucket := b, asn := pl.asn }] })
    else (r.1, pl)

/-- A receive cell tried on the chains that qualify (R255, R278). -/
def tryRx (t : Template) (f : Nat) (x : CellW) (ch : Nat) : List (Nat × Nat) → Plan → State → State × Plan × Bool
  | [], pl, s => (s, pl, false)
  | (c, fr) :: l, pl, s =>
    let g := extraGuard s x.peer
    let a := t.txOffset - t.rxGuard - g
    let b := t.txOffset + t.rxGuard + g
    match freeLane s pl c with
    | none => tryRx t f x ch l pl s
    | some n =>
      if centreTaken s pl x.phy fr || laneBlanked s pl c fr ((a : Int), (b : Int)) || superBusy s pl.asn c ((a : Int), (b : Int)) then
        tryRx t f x ch l pl s
      else
        let e : LaneEntry := { lane := n, chain := c, channel := ch, phy := x.phy, listenStart := a, listenEnd := b, slotframe := f, timekeeping := x.timekeeping, peer := x.peer }
        let r := reserveAck t c fr x ch n { pl with lanes := pl.lanes ++ [e] } s
        (r.1, r.2, true)

/-- The frame a transmit cell takes; a shared cell in backoff only counts down (R255, R261, R276, R278). -/
def chooseFrame (t : Template) (pl : Plan) (x : CellW) (s : State) : State × Option (Nat × QFrame) :=
  if pl.txs.any (fun e => e.kind = 0 && e.neighbour = x.peer) then (s, none)
  else if s.slot.guardLimit && x.peer = s.slot.timeSource then (s, none)
  else if x.shared && x.peer < 0x8000 && (nbrOf s x.peer).backoff ≠ 0 && frameWaiting s x.peer then
    (withNbr x.peer (fun e => { e with backoff := e.backoff - 1 }) s, none)
  else tmNext x.peer x.classMask (fun f => fits s t x.phy x.mcs f &&
    (x.peer < 0x8000 || (queueOf s x.queue).frames.any (·.id = f.id))) s

/-- One cell of priority 2 to 5: the cell comes back where it is to be served as a receive cell (R255, R278). -/
def doCell (x : Nat × Nat × CellW) (pl : Plan) (s : State) : State × Plan × Option (Nat × Nat × CellW) :=
  let f := x.1
  let w := x.2.2
  let t := (sfOf s f).tmpl
  match hopChannel s f pl.asn w.channelOffset with
  | none => (slotCnt 13 s, pl, none)
  | some ch =>
    let cs := chainsFor s pl w ch
    if w.adv then
      if s.slot.ebTemplate.isEmpty then (slotCnt 13 s, pl, none)
      else
        let r := tryTx t (beaconEntry s t f w ch) cs pl s
        (if r.2.2 then r.1 else slotCnt 13 r.1, r.2.1, none)
    else
      let c := if w.tx then chooseFrame t pl w s else (s, none)
      match c.2 with
      | none => (c.1, pl, if w.rx then some x else none)
      | some (q, fr) =>
        let r := tryTx t (frameEntry c.1 t f w ch q fr) cs pl c.1
        if r.2.2 then (r.1, r.2.1, none)
        else
          let s := unbindFrame q fr.id r.1
          if w.rx then (s, r.2.1, some x) else (slotCnt 13 s, r.2.1, none)

/-- One receive cell (R255, R278). -/
def doRx (x : Nat × Nat × CellW) (pl : Plan) (s : State) : State × Plan :=
  let w := x.2.2
  match hopChannel s x.1 pl.asn w.channelOffset with
  | none => (slotCnt 13 s, pl)
  | some ch =>
    let r := tryRx (sfOf s x.1).tmpl x.1 w ch (chainsFor s pl w ch) pl s
    (if r.2.2 then r.1 else slotCnt 14 r.1, r.2.1)

/-- The cells of a slot, the first 2,048: transmitters and beacons in order, then what listens (R254, R255, R278). -/
def doCells (pl : Plan) (s : State) : State × Plan :=
  let all := activeCells s pl.asn
  let s := if all.length ≤ 2048 then s else raise 0x089 ((List.range (all.length - 2048)).foldl (fun s _ => slotCnt 13 s) s)
  let l := isort (cellLe s) (all.take 2048)
  let early := l.filter (fun x => cellPrio s x.2.2 ≤ 5)
  let late := l.filter (fun x => 5 < cellPrio s x.2.2)
  let r := early.foldl (fun (a : State × Plan × List (Nat × Nat × CellW)) x =>
    if cellPrio a.1 x.2.2 = 3 then let y := doRx x a.2.1 a.1; (y.1, y.2, a.2.2)
    else let y := doCell x a.2.1 a.1; (y.1, y.2.1, a.2.2 ++ y.2.2.toList)) (s, pl, [])
  (isort rxLe (r.2.2 ++ late)).foldl (fun (a : State × Plan) x => doRx x a.2 a.1) (r.1, r.2.1)

/-! Superframe events of a slot (R268-R273, R299). -/

/-- N, the assigned slots (R270). -/
def assignedSlots (u : SuperSt) : Nat := (u.descs.map (·.length)).sum

/-- The assigned-slot IE (R271). -/
def gtsIe (u : SuperSt) : List Byte :=
  [0x0A, 0xD9, 0x3C, 0x02] ++ le 1 u.descs.length ++
    u.descs.flatMap (fun d => le 2 d.short ++ le 1 (d.start + 16 * d.length) ++ le 1 (b2n d.rx))

/-- The superframe beacon without its MIC. -/
def superBeaconBytes (u : SuperSt) : List Byte := Config.superBeacon u.template (gtsIe u) (15 - assignedSlots u)

/-- The beacon of an active period that starts in the slot (R268, R273). -/
def doBeacon (i : Nat) (x : Int) (pl : Plan) (s : State) : State × Plan :=
  let u := superOf s i
  match qualifies s u.chain pl.asn u.phy u.channel with
  | none => (raise 0x088 (slotCnt 16 (withSuper i (fun u => { u with lastOk := false }) s)), pl)
  | some f =>
    let len := (superBeaconBytes u).length + micLen s.slot.ebSecLevel
    let t := x.toNat
    let e := onChain s pl u.chain f {
        kind := 2, channel := u.channel, phy := u.phy, tUs := t, eUs := t + airFor s u.phy 0 len none,
        secLevel := s.slot.ebSecLevel, keySlot := s.slot.ebKeySlot, super := some i, psdu := len }
    let r := precommit pl e true false s
    if r.2 = 0 then placeTx e pl r.1
    else (raise 0x088 (slotCnt 16 (withSuper i (fun u => { u with lastOk := false }) r.1)), pl)

/-- The template that a superframe's exchanges follow: sf_ack_turnaround in place of tx_ack_delay (R272). -/
def superTmpl (u : SuperSt) : Template := { ackDelay := u.turnaround }

/-- Frames to one device, one after another while frame, turnaround, acknowledgement and turnaround fit in the run (R272). -/
def fillRun (i peer f : Nat) (stop : Nat) : Nat → Nat → Plan → State → State × Plan
  | 0, _, pl, s => (s, pl)
  | k + 1, t, pl, s =>
    let u := superOf s i
    let need := fun (fr : QFrame) => airOf s u.phy 0 fr + u.turnaround +
      (if fr.ackReq then airFor s u.phy 0 (maxAck (superTmpl u) u.phy) none + u.turnaround else 0)
    let c := tmNext peer 0xFF (fun fr => t + need fr ≤ stop) s
    match c.2 with
    | none => (c.1, pl)
    | some (q, fr) =>
      let lane := if fr.ackReq then (pl.lanes.find? (fun l => l.super = some i)).map (·.lane) else none
      let e := onChain c.1 pl u.chain f { frameEntry c.1 {} 0 { phy := u.phy } u.channel q fr with
        tUs := t, eUs := t + airOf s u.phy 0 fr, super := some i, ackLane := lane }
      let r := precommit pl e true true c.1
      if r.2 ≠ 0 then (unbindFrame q fr.id r.1, pl)
      else
        let p := placeTx e pl r.1
        fillRun i peer f stop k (t + need fr) p.2 p.1

/-- A run of an assigned slot: its airtime reserved, and, toward the device, its frames placed (R272, R299). -/
def doRun (i : Nat) (x : Int) (d : GtsDesc) (pl : Plan) (s : State) : State × Plan :=
  let u := superOf s i
  let a := (x + d.start * superSlotUs u).toNat
  let len := d.length * superSlotUs u
  match qualifies s u.chain pl.asn u.phy u.channel with
  | none => (s, pl)
  | some f =>
    let ack := airFor s u.phy 0 (maxAck (superTmpl u) u.phy) none
    let us := if d.rx then len else ack * (len / max 1 (airFor s u.phy 0 9 none + u.turnaround + ack + u.turnaround))
    let b := bucketOfUs s pl.asn a
    let r := budgetCheck f u.phy u.chain us b s
    if !r.2 then (r.1, pl)
    else
      let s := withSlot (fun z => { z with runs := z.runs ++ [{
        chain := u.chain, channel := u.channel, phy := u.phy, fromUs := a, debitUs := us, bucket := b, asn := pl.asn, super := some i }] }) r.1
      match (if d.rx then s.tbl.nbrs.find? (fun e => e.2.valid && e.2.short = d.short) else none) with
      | some (n, _) => fillRun i n f (a + len) 16 a pl s
      | none => (s, pl)

/-- The lane that listens through the active period, as far as it lies in the slot (R272). -/
def superLane (i : Nat) (x : Int) (pl : Plan) (s : State) : State × Plan :=
  let u := superOf s i
  match (qualifies s u.chain pl.asn u.phy u.channel), freeLane s pl u.chain with
  | some _, some n =>
    (s, { pl with lanes := pl.lanes ++ [{
      lane := n, chain := u.chain, channel := u.channel, phy := u.phy, listenStart := (x + superSlotUs u).toNat,
      listenEnd := min s.slot.slotLenUs (x + 16 * superSlotUs u).toNat, super := some i }] })
  | _, _ => (slotCnt 14 s, pl)

/-- The superframe events of slot n, in index order (R254, R278). -/
def doSuper (i : Nat) (pl : Plan) (s : State) : State × Plan :=
  let u := superOf s i
  if !u.enabled then (s, pl)
  else
    (activeStarts s u pl.asn).foldl (fun (a : State × Plan) x =>
      let r := if 0 ≤ x then doBeacon i x { a.2 with supers := a.2.supers ++ [i] } a.1 else (a.1, a.2)
      let r := superLane i x r.2 r.1
      if 0 ≤ x then u.descs.foldl (fun (b : State × Plan) d => doRun i x d b.2 b.1) r else r) (s, pl)

/-! Raw transmissions (R123, R178, R303). -/

/-- A raw transmission ends with its reply: T, return loss and whether the reading is valid (R177). -/
def endRaw (c status info : Nat) (t rl : Int) (valid : Bool) (s : State) : State :=
  match (chainOf s c).raws with
  | [] => s
  | r :: l =>
    let s := withChain c (fun k => { k with raws := l }) s
    complete (fun f => isTag r.qp r.tag f && f.waiting) { st := s, status := status, info := info, data := leS 8 t ++ leS 2 rl ++ le 1 (b2n valid) }

/-- The flight of a raw transmission still waits for its reply. -/
def rawLive (s : State) (r : RawTx) : Bool := s.hif.flights.any (fun f => isTag r.qp r.tag f && f.waiting)

/-- Where in slot n a raw transmission starts, in ns from the boundary: at act_time, or at a free instant that leaves its lead
inside the slot; none where its slot is another (R178). -/
def rawStart (s : State) (n : Nat) (r : RawTx) (ref : Nat) (lead : Nat) : Option Int :=
  let span := 1000 * s.slot.slotLenUs
  match r.actNs with
  | none => some (1000 * (lead + Config.rawOffset s.free % max 1 (s.slot.slotLenUs - lead) : Nat))
  | some a =>
    let x := (a : Int) - refNs s ref + selNs s - boundaryOf s n
    if x < span then some (max x (1000 * (lead : Int))) else none

/-- How late a TIMED raw transmission starts, in ns (R123). -/
def rawLate (s : State) (n : Nat) (r : RawTx) (ref : Nat) (start : Int) : Nat :=
  match r.actNs with
  | none => 0
  | some a => (boundaryOf s n + start - ((a : Int) - refNs s ref + selNs s)).toNat

/-- The first raw transmission of chain c placed in the plan, or ended by the check that fails (R178, R303). -/
def doRaw (c : Nat) (pl : Plan) (s : State) : State × Plan :=
  let s := withChain c (fun k => { k with raws := k.raws.filter (fun r => r.placedAsn.isSome || rawLive s r) }) s
  match (chainOf s c).raws with
  | [] => (s, pl)
  | r :: l =>
    let t := timedOf s r.qp
    let k := chainOf s c
    let pr := profileOf k r.p.phyMode
    let lead := pr.2.rampUs + pr.2.paLeadUs + 14
    if r.placedAsn.isSome then (s, pl)
    else match rawStart s pl.asn r t.ref lead with
      | none => (s, pl)
      | some x =>
        let late := rawLate s pl.asn r t.ref x
        if 1000 < late && t.lateNs < late then (endRaw c stPastTime 0 0 0 false s, pl)
        else match qualifies s c pl.asn r.p.phyMode r.p.channel with
          | none => (endRaw c stBusy 0 0 0 false s, pl)
          | some f =>
            let us := (x / 1000).toNat
            let dur := if r.p.kind = 1 then r.p.durationUs else airFor s r.p.phyMode 0 r.p.length none
            let e := onChain s pl c f {
                kind := 3, channel := r.p.channel, phy := r.p.phyMode, tUs := us, eUs := us + dur, power := r.p.powerHdbm,
                cls := r.p.cls, handle := r.p.bufferHandle, psdu := if r.p.kind = 1 then 0 else r.p.length }
            let q := precommit pl e false false s
            if q.2 ≠ 0 then (endRaw c (if q.2 = 1 then stBusy else if q.2 = 2 then stBlanked else stBudget) 0 0 0 false q.1, pl)
            else
              let s := tick1 (withChain c (fun k => { k with raws := { r with placedAsn := some pl.asn, late := 1000 < late } :: l }) q.1)
              placeTx e pl s

/-! The plan of a slot (R252, R278). -/

/-- FORECAST builds the plan of slot n. -/
def buildPlan (n : Nat) (s : State) : State :=
  let pl : Plan := { asn := n, dist := (List.range 4).flatMap (blankRow s), tmpls := (List.range 8).map (fun f => (sfOf s f).tmpl) }
  let r := (List.range 8).foldl (fun (a : State × Plan) i => doSuper i a.2 a.1) (s, pl)
  let r := (List.range 4).foldl (fun (a : State × Plan) c => doRaw c a.2 a.1) r
  let r := doCells r.2 r.1
  withSlot (fun b => { b with plans := b.plans ++ [r.2] }) r.1

/-- What was planned for slot n is taken back: its transmissions, and the frames bound for them (R244, R256). -/
def takeBack (n : Nat) (s : State) : State :=
  (List.range 4).foldl (fun s c =>
    let gone := (chainOf s c).txs.filter (fun t => t.entry.asn = n && t.phase = 0 && t.entry.kind ≠ 4)
    let s := withChain c (fun k => { k with txs := k.txs.filter (fun t => !(t.entry.asn = n && t.phase = 0 && t.entry.kind ≠ 4)) }) s
    gone.foldl (fun s t =>
      if t.entry.kind = 0 then unbindFrame t.entry.queue t.entry.frameId s
      else if t.entry.kind = 3 then withChain c (fun k => { k with raws := k.raws.map (fun r => { r with placedAsn := none }) }) s
      else s) s) s

end Sys2Proof.Machine
end

