-- ==== Sys2Proof/Machine/Mac.lean ====
section
/-!
DEFINITION. What the slot engine does with frames and acknowledgements: authentication, the replay window, the end of an attempt,
TX records, and the waits for acknowledgements (R24, R28, R206, R207, R258-R266, R273, R276, R385, R399-R401).
-/
namespace Sys2Proof.Machine

/-! Authentication and replay (R266, R385, R399, R400). -/

/-- A received frame opened under neighbour n's key slot: the current generation first, then a retiring one in its overlap; what it
decrypts to and the generation (R385, R399, R400). -/
def authAir (s : State) (n : Nat) (f : AirFrame) : Option (List Byte × Nat) :=
  let e := nbrOf s n
  let k := slotOf s e.keySlot
  let with1 := fun (m : KeyMat) => ccmOpen m.key e.eui64 f.counter f.secLevel f.header f.payload f.mic
  if f.fcSuppressed then none
  else match with1 k.mat with
    | some p => some (p, k.gen)
    | none =>
      if !overlapRuns s k then none
      else match k.retiring with
        | some (g, m) => (with1 m).map (fun p => (p, g))
        | none => none

/-- The window after an accepted counter above H (R266); bit i of RX_MAP stands for H - 1 - i (log entry 18). -/
def shiftWindow (c : Nat) (e : NbrE) : NbrE :=
  { e with rxH := c, rxMap := (2 * e.rxMap + 1) * 2 ^ (min 64 (c - e.rxH - 1)) % 2 ^ 64, winEmpty := false }

/-- The replay check of counter c under key generation gen: 0 accepted, 1 DUP, 2 REPLAY (R266, R385). -/
def replayCheck (n gen c : Nat) (s : State) : State × Nat :=
  let e := nbrOf s n
  let back := e.rxH - c - 1
  let first := fun (e : NbrE) => { e with keyGen := gen, rxH := c, rxMap := 0, winEmpty := false }
  let r : NbrE × Nat :=
    if gen ≠ e.keyGen then (if gen = (slotOf s e.keySlot).gen then (first e, 0) else (e, 2))
    else if e.winEmpty then (first e, 0)
    else if e.rxH < c then (shiftWindow c e, 0)
    else if c = e.rxH then (e, 1)
    else if 64 ≤ back then (e, 2)
    else if bit e.rxMap back then (e, 1)
    else ({ e with rxMap := setBit e.rxMap back }, 0)
  let s := if r.2 = 0 then noteReplay n (withNbr n (fun _ => r.1) s) else s
  (if r.2 = 1 then slotCnt 10 s else if r.2 = 2 then raise 0x084 (slotCnt 11 s) else s, r.2)

/-- The map of an Enh-Ack stored as the neighbour's downlink map (R207). -/
def storeMap (n : Nat) (z : Option ZaoIe) (s : State) : State :=
  match z with
  | none => s
  | some z => noteNbr n (withNbr n (fun e => { e with downMap := z.map, downSeq := z.seq, downRate := z.rate, downValid := true }) s)

/-- A timekeeping reception from the time source (R274, R276). -/
def heardSource (offset : Int) (s : State) : State := airOffset offset (withSlot (fun b => { b with lastSyncNs := rawNs s }) s)

/-! The end of an attempt (R260-R262, R273). -/

/-- The frame of a transmit entry, in its queue. -/
def frameOf (s : State) (e : TxEntry) : Option QFrame := (queueOf s e.queue).frames.find? (·.id = e.frameId)

/-- T of an entry in S (R242, R248). -/
def entryNs (s : State) (e : TxEntry) (us : Nat) : Int := boundaryOf s e.asn + 1000 * (us : Int)

/-- The TX air record of a frame that completed or was dropped, on its way to tx_report_ring (R262). -/
def txReport (e : TxEntry) (acked : Bool) (rssi snr : Int) (lqi : Nat) (s : State) : State :=
  let r : AirRec := {
    ts := entryNs s e e.tUs, asn := e.asn, chain := e.chain, lane := 127, channel := e.channel, phy := e.phy, rssi := rssi, snr := snr,
    lqi := lqi, dir := true, acked := acked, length := e.psdu, secStatus := b2n (e.secLevel ≠ 0), keySlot := (nbrOf s e.neighbour).keySlot,
    neighbour := e.neighbour, cls := e.cls, queue := e.queue, buffer := e.handle }
  if s.slot.txReportRing < 32 then withPcie (fun p => { p with reports := p.reports ++ [(s.slot.txReportRing, { srcPort := 6, air := some r, cls := e.cls })] }) s else s

/-- Backoff after an attempt: a failed one in a shared cell draws, any other starts afresh; a superframe run is no cell (R261). -/
def settleBackoff (e : TxEntry) (ok : Bool) (s : State) : State :=
  if 0x8000 ≤ e.neighbour || e.super.isSome then s
  else if e.shared && !ok then
    let be := min ((nbrOf s e.neighbour).be + 1) s.slot.maxBe
    noteNbr e.neighbour (tick1 (withNbr e.neighbour (fun x => { x with be := be, backoff := randomBelow s (2 ^ be) }) s))
  else noteNbr e.neighbour (withNbr e.neighbour (fun x => { x with be := s.slot.minBe, backoff := 0 }) s)

/-- A failed attempt: the frame is tried again, or dropped after max_retries + 1 of them (R260). -/
def failFrame (e : TxEntry) (s : State) : State :=
  match frameOf s e with
  | none => s
  | some f =>
    let s := settleBackoff e false (slotCnt 2 (slotCnt 0 s))
    if s.slot.maxRetries ≤ f.attempts then
      raise 0x083 (slotCnt 3 (leaveQueue e.queue e.frameId false (txReport e false 0 0 0 s)))
    else withQueue e.queue (fun q => { q with
      frames := q.frames.map (fun x => if x.id = e.frameId then { x with bound := false, attempts := x.attempts + 1 } else x) }) s

/-- A frame complete, acknowledged or sent without an ACK request (R260-R262, R327). -/
def completeFrame (e : TxEntry) (acked : Bool) (rssi snr : Int) (lqi : Nat) (s : State) : State :=
  let s := settleBackoff e true (slotCnt 0 s)
  let s := if acked then nbrHit e.neighbour (slotCnt 1 s) else if 0x8000 ≤ e.neighbour then slotCnt 4 s else s
  let s := if s.slot.reportAll then txReport e acked rssi snr lqi s else s
  leaveQueue e.queue e.frameId true s

/-- A superframe's beacon ended without being sent (R273). -/
def beaconLost (status i : Nat) (s : State) : State :=
  let s := withSuper i (fun u => { u with lastOk := false }) s
  if status = stStandby then s else raise 0x088 (slotCnt 16 s)

/-- The chain of a test: given back with its spare lane, its test transmissions ended (R544, R546). -/
def freeTestChain (r : TestRun) (s : State) : State :=
  let c := r.target
  let live := match (chainOf s c).txs.head? with
    | some t => t.entry.kind = 5 && 0 < t.phase
    | none => false
  let s := withChain c (fun k => { k with testHold := false, txs := k.txs.filter (fun t => t.entry.kind ≠ 5) }) s
  let s := if live then withChain c (fun k => { k with
      txEn := false, paEn := false, rampOn := false, coexReq := false, coexPri := false, blanking := false }) s else s
  match r.lane with
  | some p => withPhys p (fun x => { x with role := some 1, tune := none }) s
  | none => s

/-- A test ends with its final status: what it held is given back, and a port retrains (R544, R546, R548, R549). -/
def endTest (status : Nat) (s : State) : State :=
  match s.test.run with
  | none => s
  | some r =>
    let s := withTest (fun t => { t with run := none, last := some r, finalStatus := status }) s
    if r.kind = 2 then s
    else if r.target < 4 then freeTestChain r s
    else if r.target < 6 then withEthP (r.target - 4) (fun e => { e with held := false }) s
    else if r.target < 9 then withPort (r.target - 6) (fun q => { q with held := false }) s
    else withPcie (fun p => { p with held := false }) s

/-- An entry that ends with a status before its last symbol (R162, R249, R260, R273); ST_TIMEOUT stands for a frame not secured. -/
def endEntry (status : Nat) (e : TxEntry) (s : State) : State :=
  match e.kind with
  | 5 => raise 0x16C (endTest status s)
  | 0 => if status = stStandby then unbindFrame e.queue e.frameId s else failFrame e s
  | 1 => if status = stStandby then s else slotCnt 13 s
  | 2 => beaconLost status (e.super.getD 0) s
  | 3 => endRaw e.chain status 0 0 0 false s
  | _ => s

/-! Waiting for the acknowledgement (R258, R259). -/

/-- The template an entry's exchange follows (R245, R272). -/
def tmplOf (s : State) (e : TxEntry) : Template :=
  match e.super with
  | some i => superTmpl (superOf s i)
  | none => match s.slot.plan with
    | some p => if p.asn = e.asn then nth {} p.tmpls e.slotframe else (sfOf s e.slotframe).tmpl
    | none => (sfOf s e.slotframe).tmpl

/-- The wait after an entry with ACK request, widened in holdover toward the time source (R258, R276). -/
def ackWait (s : State) (e : TxEntry) (bytes : List Byte) : AckWait :=
  let t := tmplOf s e
  let g := extraGuard s e.neighbour
  { entry := e, openNs := entryNs s e (e.eUs + t.ackDelay) - 1000 * (t.ackGuard + g : Nat),
    endNs := entryNs s e (e.eUs + t.ackDelay + shrUs s.slot.preBytes e.phy e.mcs + t.ackGuard + g), seq := Config.macSeq bytes }

/-- ACK_LISTEN_OPEN. -/
def ackListenOpen (c : Nat) (s : State) : State :=
  match tfind s.slot.waits c with
  | some w => withSlot (fun b => { b with waits := tput b.waits c { w with listening := true } }) s
  | none => s
def execAckListenOpen (chain : Nat) (s : State) : Host.Outcome State Fault Refusal := .next (ackListenOpen chain s)

/-- A frame names neighbour n as its source: by EUI-64, by short address, or by no address (R311). -/
def fromNbr (s : State) (n : Nat) (f : AirFrame) : Bool :=
  let e := nbrOf s n
  e.valid && (if f.srcKind = 0 then f.srcAddr = e.eui64 else if f.srcKind = 1 then f.srcAddr = e.short else true)

/-- An acknowledgement is valid for a wait, with the replay window moved or its failure counted (R258, R259). -/
def ackValid (w : AckWait) (a : AckObs) (s : State) : State × Bool :=
  let n := w.entry.neighbour
  if !w.listening || a.ts < w.openNs || w.endNs < a.ts || a.imm || !a.frame.isAck || !fromNbr s n a.frame ||
      (w.seq.isSome && a.frame.seq ≠ w.seq) then (s, false)
  else if w.entry.secLevel = 0 && a.frame.secLevel = 0 then (s, true)
  else if a.frame.secLevel = 0 || keyStatus s (nbrOf s n).keySlot 0 ≠ stOk then (s, false)
  else match authAir s n a.frame with
    | none => (s, false)
    | some (_, gen) => let r := replayCheck n gen a.frame.counter s; (r.1, r.2 = 0)

/-- ACK_WAIT_END: the attempt ends (R258-R261, R274, R276). -/
def ackWaitEnd (c : Nat) (ack : Option AckObs) (s : State) : State :=
  match tfind s.slot.waits c with
  | none => s
  | some w =>
    let s := withSlot (fun b => { b with waits := tdel b.waits c }) s
    match ack with
    | none => failFrame w.entry s
    | some a =>
      let r := ackValid w a s
      if !r.2 then failFrame w.entry r.1
      else
        let n := w.entry.neighbour
        let s := storeMap n a.frame.zao r.1
        let s := match a.frame.timeCorr with
          | some x => if s.slot.follower && n = s.slot.timeSource then heardSource (1000 * x) s else s
          | none => s
        if a.nack then failFrame w.entry s else completeFrame w.entry true a.rssi a.snr a.lqi s
def execAckWaitEnd (chain : Nat) (ack : Option AckObs) (s : State) : Host.Outcome State Fault Refusal := .next (ackWaitEnd chain ack s)

/-! What a transmission carries (R27, R28, R264, R267, R271, R401). -/

/-- The Enhanced Beacon of a slot: the template with the ASN and the join metric written in, less its FCS (R267). -/
def ebBytes (s : State) (asn : Nat) : List Byte :=
  let o := s.slot.ebAsnOffset
  let t := s.slot.ebTemplate
  ((t.take o ++ le 5 asn ++ le 1 (Config.joinMetric asn) ++ t.drop (o + 6)).take (t.length - 2))

/-- MAC header and payload of an entry's frame, before it is secured. -/
def plainOf (s : State) (e : TxEntry) : List Byte × List Byte :=
  let cut := fun (m : List Byte) => (m.take (Config.macHeader m), m.drop (Config.macHeader m))
  match e.kind with
  | 0 => match frameOf s e with
    | some f => macParts f
    | none => ([], [])
  | 1 => cut (ebBytes s e.asn)
  | 2 => let m := superBeaconBytes (superOf s (e.super.getD 0)); cut (m.take (m.length - 2))
  | _ => ([], [])

/-- The key slot that secures an entry, read again at transmission (R23, R326). -/
def keySlotOf (s : State) (e : TxEntry) : Nat :=
  if e.kind = 0 && e.neighbour < 0x8000 then (nbrOf s e.neighbour).keySlot else e.keySlot

/-- A MAC frame secured under a key and counter: header, payload and MIC (R399, R401). -/
def sealAir (m : KeyMat) (counter level : Nat) (p : List Byte × List Byte) : List Byte :=
  let h := Config.fillAux p.1 counter
  let x := ccmSeal m.key Config.eui64 counter level h p.2
  h ++ x.1 ++ x.2

/-- The urgency of an entry's message at the CCM* engine (R414). -/
def urgencyOf (e : TxEntry) : Nat := if e.kind = 0 && e.cls ≠ 0 then 1 else 0

end Sys2Proof.Machine
end

