-- ==== Sys2Proof/Machine/Tx.lean ====
section
/-!
DEFINITION. The transmit sequence of a chain, from securing the frame to the fall of TX_EN (R144-R147, R159-R168, R170, R248, R249,
R263, R264, R303).
-/
namespace Sys2Proof.Machine

/-- The first transmission of a chain changed. -/
def modHead (c : Nat) (f : TxSeq → TxSeq) (s : State) : State :=
  withChain c (fun k => { k with txs := match k.txs with
    | t :: l => f t :: l
    | [] => [] })  s

/-- The transmission chain c makes, or makes next. -/
def headTx (s : State) (c : Nat) : Option TxSeq := (chainOf s c).txs.head?

/-- The first transmission leaves the chain. -/
def popTx (c : Nat) (s : State) : State := withChain c (fun k => { k with txs := k.txs.drop 1 }) s

/-- COEX_REQ and COEX_PRI low (R159, R167). -/
def dropCoex (c : Nat) (s : State) : State :=
  withChain c (fun k => if k.coexReq then { k with coexReq := false, coexPri := false, coexLowNs := rawNs s } else k) s

/-- TX_EN, PA_EN and the ramp low: blanking runs 5 us more, tx_off is sent, and profiles that waited are taken (R10, R159, R166,
R170). -/
def releaseTx (c : Nat) (s : State) : State :=
  let s := withChain c (fun k => { k with
    txEn := false, paEn := false, rampOn := false, blankUntilNs := if k.blanking then some (rawNs s + 5000) else k.blankUntilNs }) s
  takeProfiles c (popTx c (rffeSend c (chainOf s c).seqOff (dropCoex c s)))

/-- A transmission abandoned before TX_EN rises (R162, R168, R249). -/
def abandonTx (c status : Nat) (e : TxEntry) (s : State) : State := endEntry status e (popTx c (dropCoex c s))

/-! Securing (R28, R248, R249, R303, R383, R414). -/

/-- A frame or beacon whose transmission has not begun. -/
def beforeTx (t : TxSeq) : Bool := t.entry.kind ≤ 2 && t.phase ≤ 1

/-- The first transmission that satisfies p changed. -/
def modFirstTx (p : TxSeq → Bool) (f : TxSeq → TxSeq) : List TxSeq → List TxSeq
  | [] => []
  | t :: l => if p t then f t :: l else t :: modFirstTx p f l

/-- s with the function applied to the first transmission of chain c that satisfies p. -/
def modTx (c : Nat) (p : TxSeq → Bool) (f : TxSeq → TxSeq) (s : State) : State :=
  withChain c (fun k => { k with txs := modFirstTx p f k.txs }) s

/-- SECURE_START: an unsecured frame goes as it is; a secured one draws its counter, holds its key and enters the engine. A use that
is refused leaves it unsecured (R28, R248, R267, R383). -/
def secureStart (c : Nat) (s : State) : State :=
  let p := fun (t : TxSeq) => beforeTx t && !t.secured && t.keyRef.isNone
  match (chainOf s c).txs.find? p with
  | none => s
  | some t =>
    let e := t.entry
    let m := plainOf s e
    if e.secLevel = 0 then modTx c p (fun t => { t with secured := true, bytes := m.1 ++ m.2 }) s
    else
      let slot := keySlotOf s e
      if keyStatus s slot 0 = stOk && !drawReady s slot then (stall s).st else
      let u := useKey slot 0 s
      if u.status ≠ stOk then u.st
      else
        let id := u.st.free
        let s := arriveMsg 0 { id := id, urgency := urgencyOf e, slot := slot, gen := u.gen } (holdKey slot (tick1 u.st))
        modTx c p (fun t => { t with counter := u.counter, keyRef := some (slot, u.gen), bytes := sealAir u.mat u.counter e.secLevel m }) s
def execSecureStart (chain : Nat) (s : State) : Host.Outcome State Fault Refusal := .next (secureStart chain s)

/-- The first frame or beacon of a chain whose transmission has not begun leaves it. -/
def dropFirst (p : TxSeq → Bool) : List TxSeq → List TxSeq
  | [] => []
  | t :: l => if p t then l else t :: dropFirst p l

/-- SECURE_DEADLINE: a frame not secured is abandoned (R249, R303). -/
def secureDeadline (c : Nat) (s : State) : State :=
  match (chainOf s c).txs.find? beforeTx with
  | none => s
  | some t =>
    if t.secured then s
    else
      let s := if t.phase = 1 then dropCoex c s else s
      endEntry stTimeout t.entry (withChain c (fun k => { k with txs := dropFirst beforeTx k.txs }) s)
def execSecureDeadline (chain : Nat) (s : State) : Host.Outcome State Fault Refusal := .next (secureDeadline chain s)

/-! The lines (R159, R162, R167, R168). -/

/-- COEX_PRI of an entry (R167, R178). -/
def coexPriOf (k : ChainSt) (e : TxEntry) : Bool :=
  if e.kind = 0 || e.kind = 3 then bit k.priMask e.cls else (e.kind = 1 || e.kind = 4) && k.priAck

/-- TX_COEX_REQ: COEX_REQ rises, 2 us after the previous release at the earliest; with coex_mode 0 or without the gate the lines
stay low (R159, R162, R167, R168). -/
def txCoexReq (c : Nat) (s : State) : State :=
  match headTx s c with
  | none => s
  | some t =>
    let k := chainOf s c
    let lines := k.coexMode = 1 && gateHeld s
    if t.phase ≠ 0 || (lines && k.coexLowNs ≠ 0 && rawNs s < k.coexLowNs + 2000) then s
    else
      let s := modHead c (fun t => { t with phase := 1 }) s
      if lines then withChain c (fun k => { k with coexReq := true, coexPri := coexPriOf k t.entry }) s else s
def execTxCoexReq (chain : Nat) (s : State) : Host.Outcome State Fault Refusal := .next (txCoexReq chain s)

/-- TX_RFFE_SEQ_ON: tx_on runs for a frame that is secured (R159, R166). -/
def txRffeOn (c : Nat) (s : State) : State :=
  match headTx s c with
  | none => s
  | some t =>
    if t.phase ≠ 1 || (t.entry.kind ≤ 2 && !t.secured) then s
    else rffeSend c (chainOf s c).seqOn (modHead c (fun t => { t with phase := 2 }) s)
def execTxRffeSeqOn (chain : Nat) (s : State) : Host.Outcome State Fault Refusal := .next (txRffeOn chain s)

/-- GRANT_DEADLINE: without the gate ST_STANDBY, without the grant ST_BLANKED, else TX_EN rises and blanking begins (R162, R168,
R170, R303). -/
def grantDeadline (c : Nat) (level : Bool) (s : State) : State :=
  match headTx s c with
  | none => s
  | some t =>
    if t.phase ≠ 2 then s
    else
      let k := chainOf s c
      let grant := level = (k.grantPolarity = 0)
      let s := withChain c (fun k => { k with coexGrant := grant }) s
      if !gateHeld s then abandonTx c stStandby t.entry (withChain c (fun k => { k with cntStandby := satInc k.cntStandby }) s)
      else if k.coexMode = 1 && !grant then
        raise (0x025 + 8 * c) (abandonTx c stBlanked t.entry (withChain c (fun k => { k with cntBlanked := satInc k.cntBlanked }) s))
      else
        blankLanes (withChain c (fun k => { k with
          txEn := true, blanking := true, blankUntilNs := none, blankCarrier := t.entry.carrier, blankDist := t.entry.blanks })
          (modHead c (fun t => { t with phase := 3 }) s))
def execGrantDeadline (chain : Nat) (level : Bool) (s : State) : Host.Outcome State Fault Refusal := .next (grantDeadline chain level s)

/-- TX_PA_ENABLE. -/
def txPaEnable (c : Nat) (s : State) : State :=
  match headTx s c with
  | none => s
  | some t => if t.phase ≠ 3 then s else withChain c (fun k => { k with paEn := true }) (modHead c (fun t => { t with phase := 4 }) s)
def execTxPaEnable (chain : Nat) (s : State) : Host.Outcome State Fault Refusal := .next (txPaEnable chain s)

/-- LOCK_DEADLINE: without lock the transmission is abandoned with ST_SYNTH_LATE and its lines fall at once; else the up-ramp starts
(R146, R159, R176). -/
def lockDeadline (c : Nat) (s : State) : State :=
  match headTx s c with
  | none => s
  | some t =>
    if t.phase ≠ 4 then s
    else if (chainOf s c).txLock then withChain c (fun k => { k with rampOn := true }) (modHead c (fun t => { t with phase := 5 }) s)
    else raise (0x023 + 8 * c) (endEntry stSynthLate t.entry (releaseTx c (withChain c (fun k => { k with cntLate := satInc k.cntLate }) s)))
def execLockDeadline (chain : Nat) (s : State) : Host.Outcome State Fault Refusal := .next (lockDeadline chain s)

/-- The power of an entry at the TX pin, in 0.5 dB: less the back-off, no lower than -20 dBm (R161). -/
def powerOf (k : ChainSt) (e : TxEntry) : Int := max (-40) (e.power - k.backoff)

/-- The PSDU bytes an entry sends, less the FCS (R178). -/
def bytesOf (s : State) (t : TxSeq) : List Byte :=
  if t.entry.kind = 3 then
    match s.tm.bufs.find? (·.handle = t.entry.handle) with
    | some b => b.data.take t.entry.psdu
    | none => []
  else t.bytes

/-- TX_MODULATION_START: T (R27, R159, R161). -/
def txModulation (c : Nat) (s : State) : State :=
  match headTx s c with
  | none => s
  | some t =>
    if t.phase ≠ 5 then s
    else withRfc (fun r => { r with sent := r.sent ++ [(c, powerOf (chainOf s c) t.entry, bytesOf s t)] }) (modHead c (fun t => { t with phase := 6 }) s)
def execTxModulationStart (chain : Nat) (s : State) : Host.Outcome State Fault Refusal := .next (txModulation chain s)

/-! The end of a transmission (R159, R163-R165, R260). -/

/-- Airtime of an entry added to the reservation it was sent under (R299). -/
def addSent (e : TxEntry) (s : State) : State :=
  let hit := fun (r : AckRes) => r.chain = e.chain && r.asn = e.asn && r.super = e.super && r.fromUs ≤ e.tUs
  let last := fun (l : List AckRes) (r : AckRes) => hit r && !l.any (fun q => hit q && r.fromUs < q.fromUs)
  let add := fun (l : List AckRes) => l.map (fun r => if last l r then { r with sentUs := r.sentUs + debitUs e } else r)
  if e.super.isSome then (if e.kind = 2 then s else withSlot (fun b => { b with runs := add b.runs }) s)
  else if e.kind = 4 then withSlot (fun b => { b with plan := b.plan.map (fun p => { p with acks := add p.acks }) }) s
  else s

/-- What the end of its last symbol does for an entry (R260, R267, R273). -/
def finishEntry (t : TxSeq) (rl : Int) (valid : Bool) (s : State) : State :=
  let e := t.entry
  match e.kind with
  | 0 => if e.ackReq then withSlot (fun b => { b with waits := tput b.waits e.chain (ackWait s e t.bytes) }) s else completeFrame e false 0 0 0 s
  | 1 => slotCnt 5 s
  | 2 => withSuper (e.super.getD 0) (fun u => { u with lastOk := true }) s
  | 3 =>
    match (chainOf s e.chain).raws with
    | r :: _ =>
      let x := entryNs s e e.tUs
      let late := match r.actNs with
        | some a => sat16 ((x - ((a : Int) - refNs s (timedOf s r.qp).ref + selNs s)) / 1000).toNat
        | none => 0
      if r.late then endRaw e.chain stLateApplied late x rl valid s else endRaw e.chain stOk 0 x rl valid s
    | [] => s
  | 4 => slotCnt 7 s
  | 5 => if valid then withTest (fun t => { t with lastRl := rl }) s else s
  | _ => s

/-- The coupler reading of a transmission: forward and return loss in 0.25 dB (R163, R164). -/
def coupler (c : Nat) (fwd rev : Int) (s : State) : State :=
  let k := chainOf s c
  let f := if k.couplerSrc = 1 then fwd + k.cplFactor else fwd
  let rl := f - rev
  let s := withChain c (fun k => { k with cplFwd := clampI (-512) 511 f, cplRl := clampI (-512) 511 rl, cplValid := true }) s
  let s := if rl < k.mismatchRl then
      raise (0x020 + 8 * c) (withChain c (fun k => { k with
        backoff := min k.maxBackoff (k.backoff + k.backoffStep), cntMismatch := satInc k.cntMismatch }) s)
    else s
  tunerReading c rl s

/-- TX_LAST_SYMBOL: the down-ramp starts, the coupler is read, and the attempt goes on or ends (R159, R163, R164, R260). -/
def txLastSymbol (c : Nat) (fwd rev : Int) (inputOk : Bool) (s : State) : State :=
  match headTx s c with
  | none => s
  | some t =>
    if t.phase ≠ 6 then s
    else
      let reads := inputOk && t.entry.tUs + 100 ≤ t.entry.eUs
      let s := modHead c (fun t => { t with phase := 7 }) (withChain c (fun k => { k with rampOn := false, cntDone := satInc k.cntDone, cplValid := false }) s)
      let s := if reads then coupler c fwd rev s else s
      finishEntry t (if reads then (chainOf s c).cplRl else 0) reads (addSent t.entry s)
def execTxLastSymbol (chain : Nat) (fwd rev : Int) (inputOk : Bool) (s : State) : Host.Outcome State Fault Refusal :=
  .next (txLastSymbol chain fwd rev inputOk s)

/-- TX_PA_DISABLE. -/
def txPaDisable (c : Nat) (s : State) : State :=
  match headTx s c with
  | none => s
  | some t => if t.phase ≠ 7 then s else withChain c (fun k => { k with paEn := false }) (modHead c (fun t => { t with phase := 8 }) s)
def execTxPaDisable (chain : Nat) (s : State) : Host.Outcome State Fault Refusal := .next (txPaDisable chain s)

/-- TX_EN_RELEASE: TX_EN and COEX_REQ fall and tx_off starts (R159). -/
def txEnRelease (c : Nat) (s : State) : State :=
  match headTx s c with
  | none => s
  | some t => if t.phase ≠ 8 then s else releaseTx c s
def execTxEnRelease (chain : Nat) (s : State) : Host.Outcome State Fault Refusal := .next (txEnRelease chain s)

/-- BLANK_END: 5 us after TX_EN fell, unless the chain transmits again (R170). -/
def blankEnd (c : Nat) (s : State) : State :=
  let k := chainOf s c
  if k.txEn || k.blankUntilNs.isNone then s else withChain c (fun k => { k with blanking := false, blankUntilNs := none }) s
def execBlankEnd (chain : Nat) (s : State) : Host.Outcome State Fault Refusal := .next (blankEnd chain s)

/-- A transmission stopped with a ramp-down (R147, R168). -/
def stopTx (c status : Nat) (t : TxSeq) (s : State) : State :=
  endEntry status t.entry (modHead c (fun t => { t with phase := 7 }) (withChain c (fun k => { k with rampOn := false }) s))

/-- COEX_GRANT_REVOKE: with abort_on_revoke a transmission stops with ST_BLANKED (R168). -/
def grantRevoke (c : Nat) (s : State) : State :=
  if 3 < c then s
  else
    let s := withChain c (fun k => { k with coexGrant := false }) s
    let k := chainOf s c
    match headTx s c with
    | none => s
    | some t =>
      if k.coexMode = 1 && k.abortOnRevoke && 3 ≤ t.phase && t.phase ≤ 6 then
        stopTx c stBlanked t (withChain c (fun k => { k with cntBlanked := satInc k.cntBlanked }) s)
      else s
def execCoexGrantRevoke (chain : Nat) (s : State) : Host.Outcome State Fault Refusal := .next (grantRevoke chain s)

/-- SYNTH_UNLOCK: after its lock deadline a transmission stops with ST_SYNTH_LATE (R147). -/
def synthUnlock (c : Nat) (s : State) : State :=
  if 3 < c then s
  else
    let s := withChain c (fun k => { k with txLock := false, synthUp := true }) s
    match headTx s c with
    | none => s
    | some t =>
      if t.phase = 5 || t.phase = 6 then
        raise (0x022 + 8 * c) (stopTx c stSynthLate t (withChain c (fun k => { k with cntLate := satInc k.cntLate }) s))
      else s
def execSynthUnlock (chain : Nat) (s : State) : Host.Outcome State Fault Refusal := .next (synthUnlock chain s)

/-! Acknowledgements (R205, R206, R263, R264, R272). -/

/-- The map information element an Enh-Ack to neighbour n carries while UP_PENDING is set (R206). -/
def mapIe (s : State) (n : Nat) : Option (Nat × Nat × List Nat) :=
  let e := nbrOf s n
  if e.upPending then some (e.upSeq, e.upRate, e.upMap) else none

/-- The transmit entry of an acknowledgement that starts at an instant of S (R264). -/
def ackTx (s : State) (asn chain channel phy : Nat) (startNs : Int) (psdu : Nat) (coded : Bool) (super : Option Nat) : TxEntry :=
  let k := chainOf s chain
  let r := profileOf k phy
  let t := ((startNs - boundaryOf s asn) / 1000).toNat
  { kind := 4, asn := asn, chain := chain, channel := channel, phy := phy, tUs := t, eUs := t + airUs s.slot.preBytes phy 0 psdu coded s.lane.nullPeriod none,
    carrier := (channelCentre k phy channel).getD 0, profile := r.1, rampUs := r.2.rampUs, paLeadUs := r.2.paLeadUs,
    blanks := (List.range 4).map (fun i => match s.slot.plan with
      | some p => nth 0 p.dist (4 * chain + i)
      | none => blankDist s chain i),
    psdu := psdu, super := super }

/-- An Enh-Ack on a chain that a new one's transmitter interval would overlap (R263). -/
def ackCollides (s : State) (e : TxEntry) : Bool :=
  (chainOf s e.chain).txs.any (fun t => t.entry.kind = 4 && meet (txSpan s e.asn e) (txSpan s e.asn t.entry))

/-- A frame in PAYLOAD, on a lane that the ACK would blank, is predicted to end after the ACK's interval begins (R170, R263). -/
def ackCutsFrame (s : State) (e : TxEntry) : Bool :=
  (List.range 104).any (fun p => match (physOf s p).frame, (physOf s p).tune with
    | some f, some u =>
      (physOf s p).state = 3 && (match channelCentre (chainOf s u.chain) u.phy u.channel with
        | some x => entryBlanks e u.chain x
        | none => false) && entryNs s e 0 + 1000 * (txSpan s e.asn e).1 < lastSymbolNs f u.phy
    | _, _ => false)

/-- An acknowledgement secured and put among its chain's transmissions: its counter drawn under the neighbour's key slot (R264, R383,
R414). A use that is refused sends none; with whether one is sent. -/
def sendAck (e : TxEntry) (n level : Nat) (frame : List Byte) (s : State) : State × Bool :=
  let put := fun (t : TxSeq) (s : State) => (withChain e.chain (fun k => { k with txs := queueTx t k.txs }) s, true)
  if level = 0 then put { entry := e, secured := true, bytes := frame } s
  else
    let slot := (nbrOf s n).keySlot
    if keyStatus s slot 0 = stOk && !drawReady s slot then ((stall s).st, false) else
    let u := useKey slot 0 s
    if u.status ≠ stOk then (u.st, false)
    else
      let s := arriveMsg 0 { id := u.st.free, urgency := 0, slot := slot, gen := u.gen } (holdKey slot (tick1 u.st))
      put { entry := { e with secLevel := level, keySlot := slot }, secured := true, counter := u.counter, bytes := sealAir u.mat u.counter level (frame, []) } s

/-- The air record of the frame with that buffer handle says that the part sent an Enh-Ack for it (R209). -/
def markAcked (handle : Nat) (s : State) : State :=
  let mark := fun (f : QFrame) => match f.frame.air with
    | some r => if r.buffer = handle then { f with frame := { f.frame with air := some { r with acked := true } } } else f
    | none => f
  withTm (fun t => { t with
    arriving := t.arriving.map (fun x => (x.1, mark x.2)),
    queues := t.queues.map (fun x => (x.1, { x.2 with frames := x.2.frames.map mark })) }) s

/-- ENH_ACK_COMMIT: the first row of R263 that applies. -/
def enhAckCommit (buffer : Nat) (s : State) : State :=
  match s.slot.acks.find? (·.buffer = buffer) with
  | none => s
  | some j =>
    let s := withSlot (fun b => { b with acks := b.acks.eraseP (·.buffer = buffer) }) s
    if !j.done then slotCnt 9 s
    else if !j.ackReq then s
    else if j.status = 2 || j.status = 3 || j.status = 5 then s
    else if j.status = 4 && !(j.secLevel = 0 && s.slot.ackUnknown) then s
    else
      let known := j.status ≠ 4
      let level := if known then j.secLevel else 0
      let frame := Config.ackFrame j.seq j.correctionUs (if known then mapIe s j.neighbour else none) level j.neighbour false
      let e := ackTx s s.slot.asn j.chain j.channel j.phy j.startNs (frame.length + micLen level + 2) j.coded none
      if ackCollides s e || ackCutsFrame s e then slotCnt 8 s
      else
        let r := sendAck e j.neighbour level frame s
        if r.2 then markAcked buffer r.1 else r.1
def execEnhAckCommit (buffer : Nat) (s : State) : Host.Outcome State Fault Refusal := .next (enhAckCommit buffer s)

end Sys2Proof.Machine
end

