-- ==== Sys2Proof/Machine/Slot.lean ====
section
/-!
DEFINITION. The slot engine: its commands, schedule lists, FRONT shifts, superframe events, holdover, and what a boundary does
(R242-R245, R252, R256, R268-R277, R281-R294, R299, R305, R308).
-/
namespace Sys2Proof.Machine

/-! SLOT_CFG (R243-R246, R281, R293). -/

/-- Comparator 0 armed for a boundary, in the selected reading (R242, R291). -/
def armBoundary (ns : Int) (s : State) : State :=
  withCmp 0 (fun c => { c with armed := true, ref := 3, target := ns.toNat, period := 0, actions := 0 }) s

/-- The ranges of the block settings of SLOT_CFG. -/
def slotSetOk (h : Hdr) (p : SlotCfgP) : Bool :=
  2000 ≤ p.slotLenUs && p.slotLenUs ≤ 40000 && p.maxRetries ≤ 7 && p.minBe ≤ 7 && p.minBe ≤ p.maxBe && p.maxBe ≤ 7 && 4 ≤ p.preBytes &&
    p.preBytes ≤ 32 && p.fskTx ≤ 7 && p.ackUnknown ≤ 1 && p.dupWindowMs ≤ 10000 && (p.txReportRing ≤ 31 || p.txReportRing = 0xFF) &&
    p.reportAll ≤ 1 && (!hflag h 2 || (p.ebTemplate.length ≤ 127 && p.ebSecLevel ≤ 3 && p.ebKeySlot < 4096))

/-- SLOT_CFG set: the beacon's fields come behind PTR_PARAMS. -/
def slotSet (h : Hdr) (p : SlotCfgP) (s : State) : Res :=
  if !slotSetOk h p then refuse s stBadParam
  else if s.slot.running && p.slotLenUs ≠ s.slot.slotLenUs then refuse s stBusy
  else
    let s := withSlot (fun b => { b with
      slotLenUs := p.slotLenUs, maxRetries := p.maxRetries, minBe := p.minBe, maxBe := p.maxBe, preBytes := p.preBytes, fskTx := p.fskTx,
      ackUnknown := p.ackUnknown = 1, dupWindowMs := p.dupWindowMs, txReportRing := p.txReportRing, reportAll := p.reportAll = 1 }) s
    done (if hflag h 2 then withSlot (fun b => { b with
        ebTemplate := p.ebTemplate, ebAsnOffset := p.ebAsnOffset, ebSecLevel := p.ebSecLevel, ebKeySlot := p.ebKeySlot }) s else s)

/-- SLOT_CFG START: the rows of R243; F and P start at 0 (R292). -/
def slotStart (p : SlotCfgP) (s : State) : Res :=
  if 2 ^ 40 ≤ p.asnStart then refuse s stBadParam
  else if !refTracked s 3 then refuse s stBusy
  else if (p.startTimeNs : Int) < selNs s + 2000 * (s.slot.slotLenUs : Int) then refuse s stPastTime
  else if s.slot.running then refuse s stBusy
  else
    let s := withSlot (fun b => { b with
      running := true, started := false, asnStart := p.asnStart, startNs := p.startTimeNs, asn := (p.asnStart + 2 ^ 40 - 1) % 2 ^ 40,
      boundaryNs := (p.startTimeNs : Int) - 1000 * b.slotLenUs, prevNs := (p.startTimeNs : Int) - 2000 * b.slotLenUs, frontF := 0, frontP := 0, plan := none, plans := [] }) s
    done (buildPlan (asnAdd p.asnStart 1) (buildPlan p.asnStart (armBoundary p.startTimeNs s)))

/-- SLOT_CFG STOP: at the end of the current slot; pending activations are cancelled (R244, R288). -/
def slotStop (s : State) : Res :=
  if !s.slot.running then done s
  else done (withSlot (fun b => { b with
    stopPending := true, sfs := b.sfs.map (fun e => (e.1, { e.2 with pendAsn := none, pendOff := false })) }) s)

/-- A timeslot template in its ranges and inside the slot (R245, R293). -/
def tmplOk (s : State) (t : Template) : Bool :=
  1000 ≤ t.txOffset && t.txOffset ≤ 20000 && 100 ≤ t.rxGuard && t.rxGuard ≤ 5000 && 500 ≤ t.ackDelay && t.ackDelay ≤ 5000 &&
    50 ≤ t.ackGuard && t.ackGuard ≤ 2000 && t.endGuard ≤ 1000 &&
    (match t.maxAckPsdu with
      | some n => 9 ≤ n && n ≤ 127
      | none => true) &&
    500 + t.rxGuard ≤ t.txOffset && t.txOffset + t.rxGuard < s.slot.slotLenUs &&
    (s.slot.frontSrc = 0 || s.slot.frontMaxShift + 3 ≤ t.endGuard)

/-- SLOT_CFG of a slotframe: its template, and its hopping sequence behind PTR_PARAMS. -/
def slotTemplate (h : Hdr) (p : SlotCfgP) (s : State) : Res :=
  let hop := hflag h 2
  if !tmplOk s p.tmpl || (hop && (p.hopLen = 0 || 256 < p.hopLen || p.channels.length ≠ p.hopLen || p.channels.any (0xFFFF < ·))) then
    refuse s stBadParam
  else done (withSf (h.flow - 0x100) (fun f => { f with tmpl := p.tmpl, hop := if hop then p.channels else f.hop }) s)

/-- SLOT_CFG. -/
def slotCfg (h : Hdr) (p : SlotCfgP) (s : State) : Res :=
  if h.flow ≠ 0 then slotTemplate h p s
  else if p.op = 0 then slotSet h p s
  else if p.op = 1 then slotStart p s
  else if p.op = 2 then slotStop s
  else refuse s stBadParam
def execSlotCfg (h : Hdr) (p : SlotCfgP) (s : State) : Host.Outcome State Fault Refusal := agentRun h (.slotCfg p) (slotCfg h p) s

/-! Schedule lists (R283-R288). -/

/-- A cell breaks a rule of R284, the last cell staged being at slot offset prev. -/
def badCell (sf sfLen prev : Nat) (x : CellW) : Bool :=
  x.reserved || (0x8000 ≤ x.peer && x.peer ≠ 0xFFFF) || !phyOk x.phy || (x.adv && !x.tx) || !(x.tx || x.rx) || x.slotframe ≠ sf ||
    sfLen ≤ x.slotOffset || x.slotOffset < prev

/-- The index of the first bad cell. -/
def firstBad (sf sfLen : Nat) : Nat → Nat → List CellW → Option Nat
  | _, _, [] => none
  | i, prev, x :: l => if badCell sf sfLen prev x then some i else firstBad sf sfLen (i + 1) x.slotOffset l

/-- Cells staged in all slotframes. -/
def stagedTotal (s : State) : Nat := ((List.range 8).map (fun f => ((sfOf s f).staged.getD []).length)).sum

/-- Cells in the active lists of all slotframes but f. -/
def activeOthers (s : State) (f : Nat) : Nat :=
  ((List.range 8).map (fun g => if g = f then 0 else ((sfOf s g).active.getD []).length)).sum

/-- The reply of SLOT_LIST_LOAD. -/
def loadReply (s : State) (f bad : Nat) : List Byte := le 4 ((sfOf s f).staged.getD []).length ++ le 4 bad

/-- SLOT_LIST_LOAD: begin, append or end (R284). -/
def slotListLoad (h : Hdr) (p : SlotListLoadP) (s : State) : Res :=
  let f := h.flow - 0x100
  let x := sfOf s f
  let no := fun (st bad : Nat) => ({ st := s, status := st, data := loadReply s f bad } : Res)
  if x.pendAsn.isSome then no stBusy 0xFFFFFFFF
  else if p.op = 0 then
    if p.sfLen = 0 || 0xFFFF < p.sfLen then no stBadParam 0xFFFFFFFF
    else
      let s := withSf f (fun x => { x with staged := some [], stagedLen := p.sfLen, staging := true, stagedReady := false }) s
      done s (loadReply s f 0xFFFFFFFF)
  else if p.op = 1 then
    if !x.staging then no stBusy 0xFFFFFFFF
    else if p.hostAddr % 16 ≠ 0 || p.cells.length = 0 || 1048576 < p.cells.length then no stBadParam 0xFFFFFFFF
    else match firstBad f x.stagedLen 0 (match (x.staged.getD []).getLast? with | some c => c.slotOffset | none => 0) p.cells with
      | some i => no stBadParam i
      | none =>
        if 1048576 < stagedTotal s + p.cells.length then no stNoRoom 0xFFFFFFFF
        else
          let s := withSf f (fun x => { x with staged := some (x.staged.getD [] ++ p.cells) }) s
          done s (loadReply s f 0xFFFFFFFF)
  else if p.op = 2 then
    if !x.staging then no stBusy 0xFFFFFFFF
    else
      let s := withSf f (fun x => { x with staging := false, stagedReady := true }) s
      done s (loadReply s f 0xFFFFFFFF)
  else no stBadParam 0xFFFFFFFF
def execSlotListLoad (h : Hdr) (p : SlotListLoadP) (s : State) : Host.Outcome State Fault Refusal := agentRun h (.slotListLoad p) (slotListLoad h p) s

/-- The staged list becomes active, or the slotframe is left without one (R286, R287). -/
def applyList (off : Bool) (f : Nat) (s : State) : State :=
  raise 0x090 (noteDelta (fun d => { d with lists := d.lists ++ [f] }) (withSf f (fun x =>
    if off then { x with active := none, activeLen := 0, pendAsn := none, pendOff := false }
    else { x with
      active := x.staged, activeLen := x.stagedLen, staged := none, stagedLen := 0, stagedReady := false, pendAsn := none, pendOff := false }) s))

/-- SLOT_LIST_ACTIVATE op 0 and op 1: the first row of R286 that holds. -/
def activateList (off : Bool) (f a : Nat) (s : State) : Res :=
  let x := sfOf s f
  let u := firstUnbuilt s
  let len := max 1 (if off then x.activeLen else x.stagedLen)
  let d := (u + 2 ^ 40 - a) % 2 ^ 40
  let pend := fun (t : Nat) => withSf f (fun x => { x with pendAsn := some t, pendOff := off }) s
  if (if off then x.active.isNone else !x.stagedReady) || x.pendAsn.isSome then refuse s stBusy
  else if !off && 1048576 < activeOthers s f + (x.staged.getD []).length then refuse s stNoRoom
  else if !s.slot.running then done (applyList off f s) (le 5 (2 ^ 40 - 1))
  else if !asnBehind a u then done (pend a) (le 5 a)
  else if d < len then
    let t := cdiv u len * len % 2 ^ 40
    { st := pend t, status := stLateApplied, data := le 5 t }
  else refuse s stPastTime

/-- SLOT_LIST_ACTIVATE (R286, R288): a cancel replies the ASN it cancels, all ones where nothing is pending. -/
def slotListActivate (h : Hdr) (p : SlotListActivateP) (s : State) : Res :=
  let f := h.flow - 0x100
  if 2 < p.op || 2 ^ 40 ≤ p.asn then refuse s stBadParam
  else if p.op < 2 then activateList (p.op = 1) f p.asn s
  else match (sfOf s f).pendAsn with
    | none => done s (le 5 (2 ^ 40 - 1))
    | some a =>
      if asnBehind a (firstUnbuilt s) then refuse s stBusy
      else done (withSf f (fun x => { x with pendAsn := none, pendOff := false }) s) (le 5 a)
def execSlotListActivate (h : Hdr) (p : SlotListActivateP) (s : State) : Host.Outcome State Fault Refusal :=
  agentRun h (.slotListActivate p) (slotListActivate h p) s

/-! Superframes (R268-R273). -/

/-- The descriptors tile slots 16 - N to 15 (R270). -/
def descsOk (l : List GtsDesc) : Bool :=
  let n := (l.map (·.length)).sum
  l.length ≤ 15 && l.all (fun d => d.short < 65536 && 1 ≤ d.start && d.start ≤ 15 && 1 ≤ d.length && d.length ≤ 15) && n ≤ 15 &&
    isort (fun a b => a ≤ b) (l.flatMap (fun d => (List.range d.length).map (· + d.start))) = (List.range n).map (· + (16 - n))

/-- The parameters of an enabled superframe are within R268-R270 on its chain. -/
def superOk (s : State) (p : SlotSuperframeCfgP) : Bool :=
  let k := chainOf s p.chain
  p.chain ≤ 3 && phyOk p.phyMode && p.phyMode ≠ 6 && p.bo ≤ 14 && p.so ≤ p.bo && p.anchorAsn < 2 ^ 40 && p.anchorOffsetUs < s.slot.slotLenUs &&
    500 ≤ p.ackTurnaroundUs && p.ackTurnaroundUs ≤ 5000 && p.template.length ≤ 127 && descsOk p.descs &&
    16 * (baseSlotUs p.phyMode * 2 ^ p.so) + 1000 ≤ s.slot.slotLenUs &&
    (match channelCentre k p.phyMode p.channel with
      | some f => inWindow k p.phyMode f
      | none => false)

/-- Another enabled superframe has the same centre frequency (R269). -/
def superTwin (s : State) (n f : Nat) : Bool :=
  (List.range 8).any (fun m => m ≠ n && let u := superOf s m
    u.enabled && channelCentre (chainOf s u.chain) u.phy u.channel = some f)

/-- SLOT_SUPERFRAME_CFG. -/
def slotSuperframeCfg (h : Hdr) (p : SlotSuperframeCfgP) (s : State) : Res :=
  let n := h.flow - 0x200
  if p.op = 0 then done (withSuper n (fun u => { u with enabled := false, phase := 0 }) s)
  else if p.op ≠ 1 || 3 < p.chain then refuse s stBadParam
  else if (chainOf s p.chain).service = 2 then refuse s stDegraded
  else if !superOk s p then refuse s stBadParam
  else if superTwin s n ((channelCentre (chainOf s p.chain) p.phyMode p.channel).getD 0) then refuse s stDuplicate
  else done (withSuper n (fun u => { u with
    enabled := true, chain := p.chain, channel := p.channel, phy := p.phyMode, bo := p.bo, so := p.so, anchorAsn := p.anchorAsn,
    anchorOffset := p.anchorOffsetUs, turnaround := p.ackTurnaroundUs, template := p.template, descs := p.descs, phase := 0 }) s)
def execSlotSuperframeCfg (h : Hdr) (p : SlotSuperframeCfgP) (s : State) : Host.Outcome State Fault Refusal :=
  agentRun h (.slotSuperframeCfg p) (slotSuperframeCfg h p) s

/-- A reservation ends: its debit becomes the airtime sent (R299). -/
def settleRes (r : AckRes) (s : State) : State :=
  match channelCentre (chainOf s r.chain) r.phy r.channel with
  | some f => settleDebit f r.phy r.chain r.bucket r.debitUs r.sentUs s
  | none => s

/-- The runs of superframe n that have begun are settled (R299). -/
def settleRuns (n : Nat) (s : State) : State :=
  let gone := fun (r : AckRes) => r.super = some n && boundaryOf s r.asn + 1000 * (r.fromUs : Int) ≤ selNs s
  let l := s.slot.runs.filter gone
  l.foldl (fun s r => settleRes r s) (withSlot (fun b => { b with runs := b.runs.filter (fun r => !gone r) }) s)

/-- SUPERFRAME_EVENT: comparator 1 marks the beacon (0), the CAP (1), the runs (2) or the end of the active period (3) (R242, R268,
R272). -/
def superframeEvent (n kind : Nat) (s : State) : State :=
  if 7 < n || !(superOf s n).enabled || !s.slot.running || 3 < kind then s
  else
    let s := if kind = 0 || kind = 3 then settleRuns n s else s
    withSuper n (fun u => { u with phase := (kind + 1) % 4 }) s
def execSuperframeEvent (sf kind : Nat) (s : State) : Host.Outcome State Fault Refusal := .next (superframeEvent sf kind s)

/-! SLOT_TX and SLOT_STATUS (R281, R282). -/

/-! Class-0 substitution (R257). -/

/-- A transmission that a class-0 frame f of queue q may take over: a frame bound to a dedicated cell of the same neighbour in a frozen
plan, before T - 300, not taken over before, for which f is no longer on air and fits (R247, R257). Only a frame of another class gives
way. -/
def replaceable (s : State) (f : QFrame) (t : TxSeq) : Bool :=
  let e := t.entry
  e.kind = 0 && e.neighbour = f.neighbour && !e.shared && e.super.isNone && e.cls ≠ 0 && !e.swapped && t.phase ≤ 1 && !t.secured &&
    t.keyRef.isNone && asnDiff e.asn s.slot.asn ≤ 1 && selNs s < entryNs s e e.tUs - 300000 &&
    airOf s e.phy e.mcs f ≤ e.eUs - e.tUs && fits s (tmplOf s e) e.phy e.mcs f && (!f.ackReq || e.ackLane.isSome)

/-- An entry with frame f of queue q in the place of its own. -/
def takenOver (s : State) (q : Nat) (f : QFrame) (e : TxEntry) : TxEntry :=
  { e with
    queue := q, frameId := f.id, handle := (match s.tm.bufs.find? (·.id = f.buf) with | some b => b.handle | none => 0), cls := f.cls,
    ackReq := f.ackReq, secLevel := f.secLevel, eUs := e.tUs + airOf s e.phy e.mcs f, psdu := psduLen f, swapped := true }

/-- The plan of a slot with an entry replaced, and its ACK lane window at the new E. -/
def swapInPlan (s : State) (old new : TxEntry) (p : Plan) : Plan :=
  if p.asn ≠ old.asn then p
  else { p with
    txs := p.txs.map (fun e => if e = old then new else e),
    lanes := p.lanes.map (fun l => if some l.lane = old.ackLane && l.chain = old.chain && l.peer = old.neighbour then
      ackEntry s (tmplOf s old) old.mcs new l.lane else l) }

/-- Frame id of queue q takes the place of a bound frame where R257 lets it; the displaced frame returns to its place. -/
def substitute (q id : Nat) (s : State) : State :=
  match (queueOf s q).frames.find? (·.id = id) with
  | none => s
  | some f =>
    if f.cls ≠ 0 || (queueOf s q).port ≠ 6 || !eligible s q f || (airHead (queueOf s q) f.neighbour).map (·.id) ≠ some id then s
    else match (List.range 4).findSome? (fun c => (chainOf s c).txs.find? (replaceable s f)) with
      | none => s
      | some t =>
        let old := t.entry
        let new := takenOver s q f old
        let s := bindFrame q id (unbindFrame old.queue old.frameId s)
        let s := modTx old.chain (fun x => x.entry = old) (fun x => { x with entry := new }) s
        let s := preCnt 3 s
        let lane := swapInPlan s old new
        let s := match old.ackLane, s.slot.plan with
          | some n, some p => if p.asn = old.asn then
              withLaneN n (fun l => { l with entry := l.entry.map (fun x =>
                if x.peer = old.neighbour && x.chain = old.chain then ackEntry s (tmplOf s old) old.mcs new n else x) }) s
            else s
          | _, _ => s
        withSlot (fun b => { b with plan := b.plan.map lane, plans := b.plans.map lane }) s

/-- SLOT_TX: the frame is copied into cells and placed in its queue before the reply. -/
def slotTx (_h : Hdr) (p : SlotTxP) (s : State) : Res :=
  let e := nbrOf s p.neighbour
  if (0x8000 ≤ p.neighbour && p.neighbour ≠ 0xFFFF) || p.data.length < 9 || 2047 < p.data.length || 7 < p.cls || !isAirQueue s p.queue ||
      1 < p.ackReq || 7 < p.secLevel then refuse s stBadParam
  else if !s.slot.running then refuse s stBusy
  else if p.secLevel ≠ 0 && !(p.neighbour < 0x8000 && e.valid && keyStatus s e.keySlot 0 = stOk) then refuse s stKeyGone
  else match allocBuf p.data s with
    | none => refuse s stNoRoom
    | some (s1, id, handle) =>
      let f : QFrame := {
        id := id, buf := id, data := p.data, cls := p.cls, neighbour := p.neighbour, ackReq := p.ackReq = 1, secLevel := p.secLevel,
        frame := { data := p.data, srcPort := 5, cls := p.cls } }
      if admission s1 p.queue f 0 ≠ 0 then refuse s stNoRoom
      else { st := substitute p.queue id (admitFrame p.queue f 0 (tick1 s1)).1, info := freshJob s1, data := le 4 handle }
def execSlotTx (h : Hdr) (p : SlotTxP) (s : State) : Host.Outcome State Fault Refusal := agentRun h (.slotTx p) (slotTx h p) s

/-- SLOT_STATUS. -/
def slotStatus (_h : Hdr) (p : SlotStatusP) (s : State) : Res :=
  let b := s.slot
  if p.op = 0 then
    done s (le 5 b.asn ++ le 1 (slotStatusWord s) ++ le 2 b.guardUs ++ le 2 b.timeSource ++ le 1 (min b.misses 255) ++ zeros 1 ++
      leS 8 b.boundaryNs)
  else if p.op = 1 && p.clear ≤ 1 then
    let s1 := toHost p.bufferAddr ((List.range 17).flatMap (fun i => le 4 (tget 0 b.cnt i))) s
    done (if p.clear = 1 then withSlot (fun b => { b with cnt := [] }) s1 else s1)
  else refuse s stBadParam
def execSlotStatus (h : Hdr) (p : SlotStatusP) (s : State) : Host.Outcome State Fault Refusal := agentRun h (.slotStatus p) (slotStatus h p) s

/-! FRONT (R289-R294). -/

/-- The pending shift set; EV_FRONT_SLEW_DONE where it reaches 0 (R291, R307). -/
def setShift (p : Int) (s : State) : State :=
  raiseIf (s.slot.frontP ≠ 0 && p = 0) 0x094 (withSlot (fun b => { b with frontP := p }) s)

/-- The smallest end guard of the slotframes' templates (R293). -/
def leastGuard (s : State) : Nat := ((List.range 8).map (fun f => (sfOf s f).tmpl.endGuard)).foldl min 1000

/-- SLOT_FRONT_CFG: source off clears P and keeps F (R289-R293). -/
def slotFrontCfg (_h : Hdr) (p : SlotFrontCfgP) (s : State) : Res :=
  if 2 < p.src then refuse s stBadParam
  else if s.slot.follower then refuse s stBusy
  else if p.src = 0 then done (setShift 0 (withSlot (fun b => { b with frontSrc := 0, frontLocked := false, frontGood := 0, frontBad := 0 }) s))
  else if (p.src = 2 && 2 < p.port) || (p.src = 1 && p.edge ≠ 1 && p.edge ≠ 2) || p.periodSlots = 0 || 0xFFFF < p.periodSlots ||
      2 ^ 40 ≤ p.anchorAsn || 500 * s.slot.slotLenUs < p.offsetNs.natAbs || p.windowUs = 0 || 5000 < p.windowUs || 500 < p.maxShiftUs ||
      p.lossCount = 0 || 255 < p.lossCount || leastGuard s < p.maxShiftUs + 3 || p.periodSlots * s.slot.slotLenUs ≤ 2 * p.windowUs then
    refuse s stBadParam
  else done (withSlot (fun b => { b with
    frontSrc := p.src, frontPort := p.port, frontEdge := p.edge, frontPeriod := p.periodSlots, frontAnchor := p.anchorAsn,
    frontOffset := p.offsetNs, frontWindow := p.windowUs, frontMaxShift := p.maxShiftUs, frontLockNs := p.lockNs,
    frontLossCount := p.lossCount, frontLocked := false, frontGood := 0, frontBad := 0 }) s)
def execSlotFrontCfg (h : Hdr) (p : SlotFrontCfgP) (s : State) : Host.Outcome State Fault Refusal := agentRun h (.slotFrontCfg p) (slotFrontCfg h p) s

/-- A rejected or missing position: LOCKED clears, and loss_count of them in a row lose the reference (R290). -/
def frontBadPos (s : State) : State :=
  let n := s.slot.frontBad + 1
  let s := withSlot (fun b => { b with frontLocked := false, frontGood := 0, frontBad := min n 255 }) s
  if n ≥ s.slot.frontLossCount && !s.slot.frontLost then
    setShift 0 (raise 0x092 (withSlot (fun b => { b with frontLost := true }) s))
  else s

/-- The error of an edge or report: accepted within window_us, else rejected (R290, R291). -/
def frontError (e : Int) (s : State) : State :=
  if 1000 * s.slot.frontWindow < e.natAbs then
    frontBadPos (raise 0x093 (withSlot (fun b => { b with frontCnt := bump b.frontCnt 1 }) s))
  else
    let good := if e.natAbs ≤ s.slot.frontLockNs then min 4 (s.slot.frontGood + 1) else 0
    let lock := good = 4 && !s.slot.frontLocked
    let s := withSlot (fun b => { b with
      frontErr := e, frontLost := false, frontBad := 0, frontGood := good, frontLocked := b.frontLocked || lock, frontCnt := bump b.frontCnt 0 }) s
    setShift e (raiseIf lock 0x091 s)

/-- The error of an edge now, against the nearest expected position (R289). -/
def edgeError (s : State) : Int :=
  let l : Int := 1000 * s.slot.slotLenUs
  let p : Int := max 1 s.slot.frontPeriod
  let x := selNs s - s.slot.boundaryNs - s.slot.frontOffset - (asnDiff s.slot.frontAnchor s.slot.asn % p) * l
  x - (x + p * l / 2) / (p * l) * (p * l)

/-- FRONT_IN_EDGE: captured on input 4 whatever the slot engine does with it (R233, R289, R290). -/
def frontInEdge (falling : Bool) (s : State) : State :=
  let s := captureEdge 4 falling s
  if s.slot.running && s.slot.frontSrc = 1 && s.slot.frontEdge = (if falling then 2 else 1) then frontError (edgeError s) s else s
def execFrontInEdge (falling : Bool) (s : State) : Host.Outcome State Fault Refusal := .next (frontInEdge falling s)

/-- FRONT_POSITION_MISSING (R290). -/
def frontMissing (s : State) : State :=
  if !s.slot.running || s.slot.frontSrc = 0 then s
  else frontBadPos (withSlot (fun b => { b with frontCnt := bump b.frontCnt 2 }) s)
def execFrontPositionMissing (s : State) : Host.Outcome State Fault Refusal := .next (frontMissing s)

/-- A peer's boundary report on a Dalhiuf port (R289, R290). -/
def frontReport (port asn : Nat) (boundary : Int) (s : State) : State :=
  if !s.slot.running || s.slot.frontSrc ≠ 2 || s.slot.frontPort ≠ port then s
  else if 1 < (asnDiff asn s.slot.asn).natAbs then
    frontBadPos (raise 0x093 (withSlot (fun b => { b with frontCnt := bump b.frontCnt 1 }) s))
  else frontError (boundary - boundaryOf s asn) s

/-! Follower mode (R274-R277, R281, R292). -/

/-- SLOT_FOLLOW_CFG. -/
def slotFollowCfg (_h : Hdr) (p : SlotFollowCfgP) (s : State) : Res :=
  if 1 < p.enable || 0x7FFF < p.timeSource || p.ebPeriodSlots = 0 || 0xFFFF < p.ebPeriodSlots || 20000 < p.driftPpb || 2000 < p.maxExtraGuardUs then
    refuse s stBadParam
  else if p.enable = 1 && (s.slot.frontSrc ≠ 0 || !(s.time.domA.src = 2 || s.time.domB.src = 2)) then refuse s stBusy
  else done (withSlot (fun b => { b with
    follower := p.enable = 1, timeSource := p.timeSource, ebPeriod := p.ebPeriodSlots, driftPpb := p.driftPpb,
    maxExtraGuard := p.maxExtraGuardUs, holdover := p.enable = 1 && b.holdover, guardLimit := p.enable = 1 && b.guardLimit,
    guardUs := if p.enable = 1 then b.guardUs else 0, misses := if p.enable = 1 then b.misses else 0,
    lastSyncNs := if b.follower then b.lastSyncNs else rawNs s }) s)
def execSlotFollowCfg (h : Hdr) (p : SlotFollowCfgP) (s : State) : Host.Outcome State Fault Refusal := agentRun h (.slotFollowCfg p) (slotFollowCfg h p) s

/-- BEACON_PERIOD_MISS: the third miss in a row enters holdover; on a standby it only raises the event (R275, R277). -/
def beaconMiss (s : State) : State :=
  if !s.slot.running || !(s.slot.follower || isStandby s) then s
  else
    let n := s.slot.misses + 1
    let s := slotCnt 15 (withSlot (fun b => { b with misses := min n 0xFFFF }) s)
    if n ≠ 3 then s else raise 0x085 (if s.slot.follower then withSlot (fun b => { b with holdover := true }) s else s)
def execBeaconPeriodMiss (s : State) : Host.Outcome State Fault Refusal := .next (beaconMiss s)

/-- GUARD_LIMIT_REACHED (R276). -/
def guardReached (s : State) : State :=
  if !s.slot.holdover || s.slot.guardLimit then s
  else raise 0x087 (withSlot (fun b => { b with guardLimit := true, guardUs := b.maxExtraGuard }) s)
def execGuardLimitReached (s : State) : Host.Outcome State Fault Refusal := .next (guardReached s)

/-- g at a boundary (R276). -/
def guardNow (s : State) : State :=
  if s.slot.holdover then
    withSlot (fun b => { b with guardUs := min b.maxExtraGuard (cdiv (2 * b.driftPpb * (rawNs s - b.lastSyncNs)) 1000000000000) }) s
  else s

/-- A valid Enhanced Beacon from the time source (R274, R276). -/
def beaconHeard (offset : Int) (s : State) : State :=
  let was := s.slot.holdover
  let s := withSlot (fun b => { b with misses := 0, holdover := false, guardLimit := false, guardUs := 0 }) s
  raiseIf was 0x086 (heardSource offset s)

/-! The boundary (R242, R243, R252, R256, R287, R291, R299). -/

/-- The slot that ends: its ACK reservations are settled (R299). -/
def endSlot (s : State) : State :=
  match s.slot.plan with
  | none => s
  | some p => p.acks.foldl (fun s r => settleRes r s) s

/-- ASN, boundary and EV_SLOT_STARTED (R242, R243). -/
def nextSlot (s : State) : State :=
  let n := asnAdd s.slot.asn 1
  let first := !s.slot.started
  raiseIf first 0x080 (withSlot (fun b => { b with
    asn := n, started := true, prevNs := b.boundaryNs, boundaryNs := b.startNs + asnDiff n b.asnStart * (1000 * b.slotLenUs) + b.frontF }) s)

/-- The share of the pending shift this boundary takes, and comparator 0 for the next (R291). -/
def frontStep (s : State) : State :=
  let m : Int := 1000 * s.slot.frontMaxShift
  let d := clampI (-m) m s.slot.frontP
  let s := setShift (s.slot.frontP - d) (withSlot (fun b => { b with frontF := b.frontF + d }) s)
  armBoundary (s.slot.boundaryNs + 1000 * s.slot.slotLenUs + d) s

/-- A plan not frozen in time: the slot runs on a fallback plan (R256, R273). -/
def fallback (p : Plan) (s : State) : State :=
  let s := raise 0x082 (slotCnt 12 (takeBack p.asn s))
  p.supers.foldl (fun s i => beaconLost stBlanked i s) s

/-- The plans move on: the new slot's is taken, and the next is frozen or late (R252, R256). -/
def freezePlans (late : Bool) (s : State) : State :=
  match s.slot.plans with
  | [] => withSlot (fun b => { b with plan := none }) s
  | p :: q :: l =>
    if late then withSlot (fun b => { b with plan := some p, plans := { q with lanes := [], txs := [], fallback := true } :: l }) (fallback q s)
    else withSlot (fun b => { b with plan := some p, plans := q :: l }) s
  | [p] => withSlot (fun b => { b with plan := some p, plans := [] }) s

/-- Planned lanes take their entries of the slot (R184, R186). -/
def takeEntries (s : State) : State :=
  let es := match s.slot.plan with
    | some p => p.lanes
    | none => []
  (List.range 96).foldl (fun s n => match (laneOf s n).assign with
    | some u => if u.planned then boundaryEntry n (es.find? (·.lane = n)) s else s
    | none => s) s

/-- List activations whose slot has come (R287). -/
def activations (s : State) : State :=
  (List.range 8).foldl (fun s f => match (sfOf s f).pendAsn with
    | some a => if a = s.slot.asn then applyList (sfOf s f).pendOff f s else s
    | none => s) s

/-- A stop takes effect at the end of the slot: later plans are discarded (R244). -/
def stopEffect (s : State) : State :=
  let s := (s.slot.plans.map (·.asn)).foldl (fun s n => takeBack n s) (endSlot s)
  raise 0x081 (disarm 0 (takeEntries (withSlot (fun b => { b with running := false, stopPending := false, plan := none, plans := [] }) s)))

/-- SLOT_STOP_EFFECT. -/
def slotStopEffect (s : State) : State := if s.slot.running && s.slot.stopPending then stopEffect s else s
def execSlotStopEffect (s : State) : Host.Outcome State Fault Refusal := .next (slotStopEffect s)

/-- What the boundary of a slot does in the slot engine and the radio: the twin's part stands in Boundary.lean. -/
def boundaryCore (env : SlotEnv) (s : State) : State :=
  let s := frontStep (nextSlot (endSlot s))
  let s := activations (takeEntries (freezePlans env.planLate s))
  let s := guardNow (agcBoundary env.power s)
  buildPlan (asnAdd s.slot.asn 2) s

end Sys2Proof.Machine
end

