-- ==== Sys2Proof/Machine/Link.lean ====
section
/-!
DEFINITION. Link frames on their way out of a Dalhiuf port: sequence numbers, the GCM seal, routes, broadcasts, and the messages the part
originates (R458, R459, R463, R464, R468, R478).
-/
namespace Sys2Proof.Machine

/-! One frame on one port (R458, R459). -/

/-- The GCM additional data of a link frame: bytes 0-7 and 20-23 of its header. -/
def linkAad (f : LinkFrame) (len : Nat) : List Byte :=
  le 2 f.src ++ le 2 f.dst ++ le 2 f.hops ++ le 1 f.kind ++ le 1 (b2n f.enc) ++ le 2 len ++ le 2 f.seq

/-- The 12-byte IV: the fixed part and NC, most significant byte first (R402). -/
def linkIv (fixed nc : Nat) : List Byte := be 4 fixed ++ be 8 nc

/-- The 24-byte header of a link frame (R458). -/
def linkHead (f : LinkFrame) (len : Nat) : List Byte :=
  le 2 f.src ++ le 2 f.dst ++ le 2 f.hops ++ le 1 f.kind ++ le 1 (b2n f.enc) ++ (if f.enc then linkIv f.ivFixed f.nc else zeros 12) ++
    le 2 len ++ le 2 f.seq

/-- A frame leaves on port p (R483). -/
def putOnWire (p : Nat) (f : LinkFrame) (s : State) : State :=
  let s := portCnt p 0 (withLnk (fun l => { l with out := l.out ++ [(p, f)] }) s)
  if f.aborted then portCnt p 5 s else s

/-- A frame sealed under the port's tx slot, with a freshly drawn IV, and sent; a use that is refused sends none (R402, R409, R459). -/
def sealLink (p : Nat) (f : LinkFrame) (s : State) : State :=
  let slot := (portOf s p).txSlot
  if keyStatus s slot 1 = stOk && (slotOf s slot).mat.nc = 2 ^ 64 - 1 then (keyRefuse slot stKeyExhausted s).st
  else
    let u := useKey slot 1 s
    if u.status ≠ stOk then u.st
    else
      let m := u.mat
      let f := { f with enc := true, ivFixed := m.nonceFixed, nc := m.nc }
      let aad := linkAad f f.body.length
      let r := gcmSeal m.key (linkIv m.nonceFixed m.nc) aad f.body
      putOnWire p { f with aad := aad, body := r.1, tag := r.2 } (withKey slot (fun k => { k with mat := drawNonce k.mat }) u.st)

/-- The tx slot of a port can draw now (R411, R413, R473). -/
def linkReady (s : State) (p : Nat) : Bool :=
  let slot := (portOf s p).txSlot
  keyStatus s slot 1 ≠ stOk || (nonceReady s (slotOf s slot).mat && drawReady s slot)

/-- A frame goes out on an UP port. While the gates are disabled DL0 and DL1 discard it, counted as a no-route drop (R478); TIME goes
unsealed; a frame whose nonce draw waits is held, and those after it (R411). -/
def transmit (p : Nat) (f : LinkFrame) (s : State) : State :=
  if (portOf s p).state ≠ 2 then s
  else if p < 2 && gated s then portCnt p 6 s
  else if f.vl = 0 then putOnWire p { f with enc := false } s
  else
    let s := commitAtLimit (portOf s p).txSlot s
    if s.lnk.waiting.any (·.1 = p) || !linkReady s p then
      raise 0xE0 (cryCnt 5 (withLnk (fun l => { l with waiting := l.waiting ++ [(p, f)] }) s))
    else sealLink p f s

/-- The frames that waited for a draw are taken up again (R411). -/
def flushLinks (s : State) : State :=
  s.lnk.waiting.foldl (fun s x => transmit x.1 x.2 s) (withLnk (fun l => { l with waiting := [] }) s)

/-- JOURNAL_ENTRY_DURABLE also lets the link frames go that waited for it. -/
def execJournalEntryDurable (slot : Nat) (s : State) : Host.Outcome State Fault Refusal := .next (flushLinks (journalEntryDurable slot s))

/-! Ports and routes (R461-R464). -/

/-- Port p is an UP member port. -/
def memberUp (s : State) (p : Nat) : Bool := (portOf s p).enable && (portOf s p).role = 0 && (portOf s p).state = 2

/-- Hops to a member through a port, by its route entry. -/
def hopsVia (s : State) (m p : Nat) : Option Nat :=
  match s.lnk.routes.find? (·.member = m) with
  | some r => if r.primary = p then some r.hopsPrimary else if r.alternate = p then some r.hopsAlternate else none
  | none => if m = s.lnk.memberId then some 0 else none

/-- The path to a route's member through its primary port crosses the ring link that member d reported DOWN at its port q: d lies before
the link when q points the way of the path, behind it otherwise (R464). -/
def crosses (s : State) (r : Route) (d q : Nat) : Bool :=
  match hopsVia s d r.primary with
  | none => false
  | some k => if q = r.primary then k < r.hopsPrimary else k ≤ r.hopsPrimary && k ≠ 0

/-- The port a unicast frame for member m leaves by (R463, R464). -/
def egressPort (s : State) (m : Nat) : Option Nat :=
  match s.lnk.routes.find? (·.member = m) with
  | none => none
  | some r =>
    let away := s.lnk.kind = 1 && s.lnk.downReports.any (fun d => crosses s r d.1 d.2)
    let alt := r.alternate < 3 && memberUp s r.alternate
    if away && alt then some r.alternate else if memberUp s r.primary then some r.primary else if alt then some r.alternate else none

/-- A broadcast by (SRC, VL, SEQ) remembered: the last 64 of each source and lane (R464). -/
def remember (src vl seq : Nat) (s : State) : State :=
  withLnk (fun l =>
    let same := fun (x : Nat × Nat × Nat) => x.1 = src && x.2.1 = vl
    { l with seen := (src, vl, seq) :: (l.seen.filter same).take 63 ++ l.seen.filter (fun x => !same x) }) s

/-- The UP ports a broadcast of the part itself goes out on (R464). -/
def sourcePorts (s : State) : List Nat := if s.lnk.kind = 1 then [0, 1].filter (memberUp s) else [0, 1, 2].filter (memberUp s)

/-- The UP ports a broadcast that came in on port p with hops is forwarded on (R464). -/
def forwardPorts (s : State) (p hops : Nat) : List Nat :=
  if s.lnk.kind = 0 then [0, 1, 2].filter (fun q => q ≠ p && memberUp s q)
  else
    let q := 1 - p
    let far := if q = 0 then cdiv (s.lnk.members - 1) 2 else (s.lnk.members - 1) / 2
    if 2 ≤ p || !memberUp s q then [] else if s.lnk.ringBroken || hops < far then [q] else []

/-! Frames the part originates (R468). -/

/-- A fresh frame of the part on a lane, with its next SEQ (R458). -/
def newFrame (vl kind dst : Nat) (body : List Byte) (msg : LinkMsg) (s : State) : State × LinkFrame :=
  let q := tget 0 s.lnk.seqs vl
  (withLnk (fun l => { l with seqs := tput l.seqs vl ((q + 1) % 65536) }) s,
    { vl := vl, src := s.lnk.memberId, dst := dst, hops := 1, kind := kind, seq := q, body := body, msg := msg })

/-- A message to the adjacent peer of one port. -/
def toPeer (p vl kind : Nat) (body : List Byte) (msg : LinkMsg) (s : State) : State :=
  let r := newFrame vl kind 0xFFFE body msg s
  transmit p r.2 r.1

/-- A broadcast of the part. -/
def broadcast (vl kind : Nat) (body : List Byte) (msg : LinkMsg) (s : State) : State :=
  let r := newFrame vl kind 0xFFFF body msg s
  (sourcePorts s).foldl (fun s p => transmit p r.2 s) (remember s.lnk.memberId vl r.2.seq r.1)

/-- A ring port reported: the ring is broken while some member reports one DOWN (R464). -/
def noteRing (member port : Nat) (up : Bool) (s : State) : State :=
  let s := withLnk (fun l => { l with
    downReports := l.downReports.filter (· ≠ (member, port)) ++ (if up || 2 ≤ port then [] else [(member, port)]) }) s
  let broken := s.lnk.kind = 1 && s.lnk.downReports ≠ []
  if broken = s.lnk.ringBroken then s
  else raise (if broken then 0x116 else 0x117) (withLnk (fun l => { l with ringBroken := broken }) s)

/-- LINK_STATE of a port change of the part's own. -/
def linkState (p : Nat) (up : Bool) (s : State) : State :=
  let s := noteRing s.lnk.memberId p up s
  broadcast 1 2 (le 2 s.lnk.memberId ++ le 1 p ++ le 1 (if up then 2 else 0)) (.linkState s.lnk.memberId p (if up then 2 else 0)) s

/-- OBSERVE: a learn observation of the part's own air told to the peers on ports with handover_out. -/
def handOver (kind panId addr : Nat) (o : LearnObs) (ts : Int) (s : State) : State :=
  let body := le 1 kind ++ le 2 panId ++ le 8 addr ++ leS 2 o.rssi ++ le 1 o.lqi ++ le 1 o.chain ++ le 1 o.lane ++ leS 8 ts
  ([0, 1, 2].filter (fun p => memberUp s p && (portOf s p).handoverOut)).foldl (fun s p => toPeer p 3 1 body (.observe kind panId addr o) s) s

/-- BOUNDARY: each boundary told on ports with boundary_out. -/
def tellBoundary (s : State) : State :=
  let b := s.slot
  let body := le 5 b.asn ++ zeros 3 ++ leS 8 b.boundaryNs ++ le 2 b.slotLenUs
  ([0, 1, 2].filter (fun p => memberUp s p && (portOf s p).boundaryOut)).foldl
    (fun s p => toPeer p 1 1 body (.boundary b.asn b.boundaryNs b.slotLenUs) s) s

/-- A body delivered to the data ring link_ring, its 24-byte header in front. -/
def toLinkRing (p : Nat) (f : LinkFrame) (body : List Byte) (s : State) : State :=
  withPcie (fun x => { x with reports := x.reports ++ [(s.lnk.linkRing, { data := linkHead f body.length ++ body, srcPort := 2 + p })] }) s

end Sys2Proof.Machine
end

