-- ==== Sys2Proof/Machine/Packet.lean ====
section
/-!
DEFINITION. The packet engine: the uplink path of a received frame, the lookups toward a port, the arrival at the traffic manager
and class-0 substitution (R23-R29, R257, R263-R266, R272, R274, R311, R326, R327, R333, R342, R351).
-/
namespace Sys2Proof.Machine

/-! Toward the traffic manager (R326, R342). -/

/-- A frame comes to the classifier with its TM_PROFILE (R342). -/
def arrive (profile : Nat) (x : QFrame) (s : State) : State := withTm (fun t => { t with arriving := t.arriving ++ [(profile, x)] }) s

/-- A frame goes to port 7, the firmware receive queue; its class is that of profile 0, and a datagram to intake_port gives the UPD agent
its drops (R8, R326, R342, R433). -/
def toFw (x : QFrame) (s : State) : State :=
  let f := { x.frame with cls := classOf s (tget 0 s.tm.profiles 0) x.frame }
  let drops := if s.upd.fw.intakePort ≠ 0 && f.ip.bind (·.udp) = some s.upd.fw.intakePort then f.drops.map (fun r => (2, r)) else []
  freeBuf x.buf (withUpd (fun u => { u with intake := u.intake ++ drops }) (withTm (fun t => { t with fwRx := t.fwRx ++ [f] }) s))

/-- Steps 4 to 6 of R326 for a frame with an IPv6 header; one without goes to port 7. -/
def route (x : QFrame) (s : State) : State :=
  match x.frame.ip with
  | none => toFw x s
  | some ip =>
    let r := trieLookup ip.dstHi s
    match r.2 with
    | none => toFw x r.1
    | some p =>
      if p.action = 1 then arrive p.tmProfile x r.1
      else if p.action = 2 then freeBuf x.buf (withTbl (fun t => { t with dropAction := satInc t.dropAction }) r.1)
      else if p.action ≠ 0 then toFw x r.1
      else
        let k := iidKey ip.dstLo p.panId
        let a := nodeLookup k.1 k.2.1 k.2.2 r.1
        match a.2 with
        | none => toFw x a.1
        | some (w, e) =>
          if !e.nhValid then toFw x a.1
          else
            let b := nbrLookup e.nextHop (nodeHit w a.1)
            match b.2 with
            | none => toFw x b.1
            | some _ => arrive e.tmProfile { x with
                neighbour := e.nextHop, ackReq := Config.downAck e.nextHop, secLevel := Config.downLevel e.nextHop % 8 } b.1

/-- A frame from a port, in cells of its own, on its way through R27; false where no cell is free. -/
def downlink (f : PktFrame) (s : State) : State × Bool :=
  match allocBuf f.data s with
  | none => (s, false)
  | some (s, id, _) => (route { id := id, buf := id, data := f.data, frame := f } s, true)

/-- TM_ENQUEUE: the frame that came first is classified, metered and admitted or dropped, and a class-0 frame may take the place of a
bound one (R257, R342-R351). -/
def tmEnqueue (s : State) : State :=
  match s.tm.arriving with
  | [] => s
  | (profile, x) :: t =>
    let r := classifyAdmit profile x.frame x (withTm (fun b => { b with arriving := t }) s)
    if r.2.2.2 then substitute r.2.2.1 x.id r.1 else r.1
def execTmEnqueue (s : State) : Host.Outcome State Fault Refusal := .next (tmEnqueue s)

/-! The uplink path (R23-R26). -/

/-- The node-table key of a frame's source (R311); none where it carries no source address. -/
def sourceKey (s : State) (f : AirFrame) : Option (Nat × Nat × Nat) :=
  if f.srcKind = 0 then some (0, 0xFFFF, f.srcAddr)
  else if f.srcKind = 1 then some (1, ((f.srcPan.or f.dstPan).getD s.tbl.airPanId), f.srcAddr)
  else none

/-- Steps 1 and 2 of R326: the neighbour the source names, with the node entry that named it. -/
def sourceLookup (f : AirFrame) (s : State) : State × Option (Nat × Nat) :=
  match sourceKey s f with
  | none => (s, none)
  | some (kind, pan, addr) =>
    let a := nodeLookup kind pan addr s
    match a.2 with
    | none => (a.1, none)
    | some (w, e) =>
      if !(e.direct && e.nhValid) then (a.1, none)
      else
        let b := nbrLookup e.nextHop a.1
        (b.1, b.2.map (fun _ => (w, e.nextHop)))

/-- What the packet engine tells of a frame whose acknowledgement is to be decided (R263, R272). -/
def noteStatus (handle status n : Nat) (f : AirFrame) (s : State) : State :=
  withSlot (fun b => { b with acks := b.acks.map (fun j => if j.buffer = handle then
    { j with done := true, status := status, ackReq := f.ackReq, neighbour := n, secLevel := f.secLevel, seq := f.seq } else j) }) s

/-- A frame of a superframe is acknowledged at once where R263 would: Imm-Ack for versions 0 and 1, Enh-Ack for version 2 (R272); with whether
it is. -/
def superAck (handle : Nat) (f : AirFrame) (s : State) : State × Bool :=
  match s.slot.acks.find? (fun j => j.buffer = handle && j.super.isSome) with
  | none => (s, false)
  | some j =>
    let s := withSlot (fun b => { b with acks := b.acks.eraseP (fun j => j.buffer = handle && j.super.isSome) }) s
    if !j.ackReq || j.status = 2 || j.status = 3 || j.status = 5 || (j.status = 4 && !(j.secLevel = 0 && s.slot.ackUnknown)) then (s, false)
    else
      let known := j.status ≠ 4
      let imm := f.version < 2
      let level := if known && !imm then j.secLevel else 0
      let frame := Config.ackFrame j.seq j.correctionUs (if known && !imm then mapIe s j.neighbour else none) level j.neighbour imm
      let e := ackTx s s.slot.asn j.chain j.channel j.phy j.startNs (frame.length + micLen level + 2) j.coded j.super
      if ackCollides s e || ackCutsFrame s e then (slotCnt 8 s, false) else sendAck e j.neighbour level frame s

/-- The outcome of R23 steps 2 to 4, on its way to the acknowledgement; with whether a superframe's acknowledgement is sent. -/
def judged (handle status n : Nat) (f : AirFrame) (s : State) : State × Bool := superAck handle f (noteStatus handle status n f s)

/-- The raw time in ms, mod 2^32 (R317). -/
def rawMs (s : State) : Nat := rawNs s / 1000000 % 2 ^ 32

/-- A frame at security level 0 repeats the last one of its source within dup_window_ms (R266). -/
def seqDup (s : State) (n : Nat) (f : AirFrame) : Bool :=
  let e := nbrOf s n
  match f.seq with
  | none => false
  | some q => e.seqValid && e.lastSeq = q && (rawMs s + 2 ^ 32 - e.seqTime) % 2 ^ 32 ≤ s.slot.dupWindowMs

/-- What an accepted frame leaves in its neighbour entry: LAST_HEARD, the averages, and at security level 0 its sequence number
(R266, R317). -/
def heardFrom (n : Nat) (r : AirRec) (f : AirFrame) (s : State) : State :=
  let now := rawMs s
  let s := withNbr n (fun e => { e with
    lastHeard := now, rssiAvg := (7 * e.rssiAvg + r.rssi) / 8, lqiAvg := (7 * e.lqiAvg + r.lqi) / 8 }) s
  let s := if f.secLevel ≠ 0 then s
    else match f.seq with
      | some q => withNbr n (fun e => { e with seqTime := now, lastSeq := q, seqValid := true }) s
      | none => s
  noteReplay n (noteNbr n s)

/-- An Enhanced Beacon accepted from the time source: its offset, and the end of holdover; inside a listen window of a TIMEKEEPING
cell toward the source it also ends a run of misses (R274-R276). -/
def beaconFrom (n : Nat) (r : AirRec) (f : AirFrame) (s : State) : State :=
  if !(s.slot.follower && f.isBeacon && n = s.slot.timeSource) then s
  else match (laneOf s r.lane).entry with
    | none => s
    | some e =>
      if e.super.isSome then s
      else
        let b := boundaryOf s r.asn
        let offset := r.ts - (b + 1000 * (((sfOf s e.slotframe).tmpl.txOffset : Int) + shrUs 8 r.phy 0))
        let inside := b + 1000 * (e.listenStart : Int) ≤ r.ts && r.ts ≤ b + 1000 * (e.listenEnd : Int)
        let misses := s.slot.misses
        let s := beaconHeard offset s
        if e.timekeeping && e.peer = s.slot.timeSource && inside then s else withSlot (fun b => { b with misses := misses }) s

/-- A frame leaves the fast path: its cells are freed (R24, R25). -/
def discard (id : Nat) (s : State) : State := freeBuf id s

/-- What is delivered of a frame: the decompressed packet, or the MAC frame where it carries no IPv6 packet (R23). -/
def delivered (f : AirFrame) (plain : List Byte) : List Byte := if f.ip.isSome then Config.fromAir plain else f.header ++ plain

/-- A frame whose source is not a neighbour: a learn observation, and the data ring for unknown sources where there is one (R26, R333,
R345). -/
def unknownSource (id : Nat) (r : AirRec) (f : AirFrame) (s : State) : State :=
  let j := judged r.buffer 4 0xFFFF f s
  let s := j.1
  let s := match sourceKey s f with
    | some (kind, pan, addr) =>
      let o : LearnObs := { port := 6, lane := r.lane, chain := r.chain, lqi := r.lqi, rssi := r.rssi }
      handOver kind pan addr o r.ts (observe kind pan addr o s)
    | none => s
  if s.tbl.unknownRing = 0xFF then discard id s
  else
    let r := { r with acked := j.2, secStatus := 4, neighbour := 0xFFFF }
    let data := f.header ++ f.payload ++ f.mic
    let p : PktFrame := { data := data, ip := if f.secLevel = 0 then f.ip else none, srcPort := 6, air := some r, unknown := true }
    arrive 0 { id := id, buf := id, data := data, frame := p } s

/-- Steps 3 and 4 of R23: SEC_STATUS, DUP, and what the frame decrypts to (R24, R25, R265, R266). -/
def checkFrame (n : Nat) (f : AirFrame) (s : State) : State × Nat × Bool × List Byte :=
  if f.secLevel = 0 then
    let d := seqDup s n f
    (if d then slotCnt 10 s else s, 0, d, f.payload)
  else
    let u := requestKey (nbrOf s n).keySlot 0 s
    if u.status ≠ stOk then (u.st, 5, false, [])
    else match authAir u.st n f with
      | none => (u.st, 2, false, [])
      | some (plain, gen) =>
        let c := replayCheck n gen f.counter u.st
        if c.2 = 2 then (c.1, 3, false, []) else (c.1, 1, c.2 = 1, plain)

/-- A frame of a neighbour (R23 steps 3-5, R24, R25, R327). -/
def knownSource (id w n : Nat) (r : AirRec) (f : AirFrame) (s : State) : State :=
  let c := checkFrame n f s
  let st := c.2.1
  let j := judged r.buffer st n f c.1
  let s := j.1
  if 2 ≤ st then discard id s
  else
    let s := nodeHit w (nbrHit n s)
    if c.2.2.1 then discard id s
    else
      let r := { r with
        acked := j.2, secStatus := st, neighbour := n, keySlot := if f.secLevel = 0 then 0 else (nbrOf s n).keySlot }
      let data := delivered f c.2.2.2
      let p : PktFrame := { data := data, ip := f.ip, srcPort := 6, air := some r, drops := f.drops }
      route { id := id, buf := id, data := data, frame := p } (beaconFrom n r f (heardFrom n r f (slotCnt 6 s)))

/-- AIR_RECORD_PROCESS: the oldest record of physical lane p; acknowledgements are the slot engine's (R23, R258). -/
def airRecordProcess (p : Nat) (f : AirFrame) (s : State) : State :=
  match s.lane.fabric.find? (·.1 = p) with
  | none => s
  | some (_, id, r) =>
    let s := withLane (fun b => { b with fabric := b.fabric.eraseP (·.1 = p) }) s
    if f.isAck then discard id (withSlot (fun b => { b with acks := b.acks.filter (·.buffer ≠ r.buffer) }) s)
    else
      let l := sourceLookup f s
      match l.2 with
      | none => unknownSource id r f l.1
      | some (w, n) => knownSource id w n r f l.1
def execAirRecordProcess (phys : Nat) (frame : AirFrame) (s : State) : Host.Outcome State Fault Refusal :=
  .next (airRecordProcess phys frame s)

end Sys2Proof.Machine
end

