-- ==== Sys2Proof/Machine/Lnk.lean ====
section
/-!
DEFINITION. The Dalhiuf links: LNK commands, training, and a link frame as it comes in on a port (R457-R468, R478, R483, R486).
-/
namespace Sys2Proof.Machine

/-! Port state (R461, R466). -/

/-- Port p becomes UP or DOWN: the events, the DOWN count and LINK_STATE (R461, R464, R483). -/
def portUp (p : Nat) (s : State) : State := linkState p true (raise 0x110 (withPort p (fun q => { q with state := 2 }) s))
def portDown (p : Nat) (s : State) : State :=
  let was := (portOf s p).state
  let s := withPort p (fun q => { q with state := 0, lock := false, matched := false }) s
  if was ≠ 2 then s else linkState p false (raise 0x111 (portCnt p 7 s))

/-- The followers with source LINK on port p move to port q (R466). -/
def moveFollowers (p q : Nat) (s : State) : State :=
  [0, 1].foldl (fun s i =>
    if (domOf s.time i).src = 3 && (domOf s.time i).port = 2 + p then
      loseSource i (withTime (setDom i { domOf s.time i with port := 2 + q }) s)
    else s) s

/-- The up-port went DOWN: the followers and the LNK clock go to the alternate of the route to the root where there is one (R466, R467). -/
def upPortLost (p : Nat) (s : State) : State :=
  if p ≠ s.lnk.upPort then s
  else match s.lnk.routes.find? (·.member = s.lnk.timeRoot) with
    | some r =>
      let q := if p = r.primary then r.alternate else r.primary
      if 2 < q || q = p then s else moveFollowers p q (withLnk (fun l => { l with upPort := q }) s)
    | none => s

/-- A port leaves UP or TRAINING. -/
def takeDown (p : Nat) (s : State) : State :=
  let up := (portOf s p).state = 2
  let s := portDown p s
  if up then upPortLost p s else s

/-! Commands (R486). -/

/-- Why LNK_PORT_CFG is refused, or 0. -/
def portCfgRefusal (f : Nat) (p : LnkPortCfgP) (s : State) : Nat :=
  if 1 < p.enable || 1 < p.role || (p.role = 1 && f ≠ 2) || 4095 < p.expectedPeer || 4095 < p.txSlot || 4095 < p.rxSlot ||
      p.linkDownUs < 20 || 10000 < p.linkDownUs || 1 < p.boundaryOut || 1 < p.handoverOut then stBadParam
  else if s.twin.configured && f = 2 && p.role ≠ (portOf s f).role then stBusy
  else
    let a := keyStatus s p.txSlot 1
    let b := keyStatus s p.rxSlot 1
    if a = stOk && b = stOk then 0 else if a = stKeyDenied || (a = stOk && b = stKeyDenied) then stKeyDenied else stKeyGone

/-- LNK_PORT_CFG: a port that is enabled with block lock trains again; one that is disabled goes DOWN. -/
def lnkPortCfg (h : Hdr) (p : LnkPortCfgP) (s : State) : Res :=
  let f := h.flow
  let st := portCfgRefusal f p s
  if st ≠ 0 then refuse s st
  else
    let s := withPort f (fun q => { q with
      enable := p.enable = 1, role := p.role, expectedPeer := p.expectedPeer, txSlot := p.txSlot, rxSlot := p.rxSlot,
      linkDownUs := p.linkDownUs, boundaryOut := p.boundaryOut = 1, handoverOut := p.handoverOut = 1, mismatchSeen := false }) s
    let q := portOf s f
    done (if p.enable = 0 then (let t := takeDown f s
        withPort f (fun x => { x with lock := q.lock }) t)
      else if q.state = 0 && q.lock && !q.held && !s.fwall.frozen.contains (33 + f) then withPort f (fun x => { x with state := 1 }) s else s)
def execLnkPortCfg (h : Hdr) (p : LnkPortCfgP) (s : State) : Host.Outcome State Fault Refusal := agentRun h (.lnkPortCfg p) (lnkPortCfg h p) s

/-- h_max of R465. -/
def hMaxOf (p : LnkTopologyP) : Nat := min ((p.coordBudgetUs - 20) * 10 / 9) ((p.timeGuardNs - p.rootErrNs) / 4)

/-- The longest route of a route table. -/
def longestRoute (l : List Route) : Nat := l.foldl (fun n r => max n (max r.hopsPrimary (if r.alternate = 0xFF then 0 else r.hopsAlternate))) 0

/-- The parameters are in range: one route entry for every other member. -/
def topologyRange (s : State) (p : LnkTopologyP) : Bool :=
  p.memberId ≤ 4095 && p.kind ≤ 1 && 1 ≤ p.members && p.members ≤ 4096 && p.timeRoot ≤ 4095 && 100 ≤ p.coordBudgetUs &&
    p.coordBudgetUs ≤ 20000 && p.coordBudgetUs < s.slot.slotLenUs && 1 ≤ p.hopLimit && p.hopLimit ≤ 4095 && p.linkRing ≤ 31 &&
    p.routes.length + 1 = p.members &&
    p.routes.all (fun r => r.member ≤ 4095 && r.primary ≤ 2 && (r.alternate ≤ 2 || r.alternate = 0xFF))

/-- Two paths to one member by different ports: a cycle of an acyclic set (R462). -/
def cyclic (r : Route) : Bool := r.alternate ≠ 0xFF && r.alternate ≠ r.primary

/-- Kind 0 has no cycle and kind 1 uses no DL2 member port; both meet the length limit (R462, R465). -/
def topologyOk (s : State) (p : LnkTopologyP) : Bool :=
  p.rootErrNs ≤ p.timeGuardNs &&
    (if p.kind = 0 then !p.routes.any cyclic && longestRoute p.routes ≤ hMaxOf p
     else !p.routes.any (fun r => r.primary = 2 || r.alternate = 2) && !((portOf s 2).enable && (portOf s 2).role = 0) &&
      p.members - 1 ≤ hMaxOf p)

/-- LNK_TOPOLOGY. -/
def lnkTopology (_h : Hdr) (p : LnkTopologyP) (s : State) : Res :=
  if !(topologyRange s p && topologyOk s p) then refuse s stBadParam
  else
    let up := match p.routes.find? (·.member = p.timeRoot) with
      | some r => r.primary
      | none => 0
    done (withLnk (fun l => { l with
      setId := p.setId, memberId := p.memberId, kind := p.kind, members := p.members, timeRoot := p.timeRoot, hopLimit := p.hopLimit,
      linkRing := p.linkRing, routes := p.routes, hMax := hMaxOf p, upPort := up, downReports := [], ringBroken := false, seen := [] }) s)
      (le 2 (hMaxOf p) ++ le 2 (longestRoute p.routes))
def execLnkTopology (h : Hdr) (p : LnkTopologyP) (s : State) : Host.Outcome State Fault Refusal :=
  agentRun h (.lnkTopology p) (lnkTopology h p) s

/-- LNK_STATUS: a port on FLOW 0-2, the topology on FLOW 0x0100. -/
def lnkStatus (h : Hdr) (p : LnkStatusP) (s : State) : Res :=
  if 1 < p.clear then refuse s stBadParam
  else if h.flow < 3 then
    let q := portOf s h.flow
    done (if p.clear = 1 then withPort h.flow (fun x => { x with cnt := [] }) s else s)
      (le 1 q.state ++ zeros 1 ++ le 2 q.peer ++ (List.range 8).flatMap (fun i => le 2 (sat16 (tget 0 q.cnt i))))
  else done s (le 4 (topoWord s) ++ le 2 s.lnk.hMax)
def execLnkStatus (h : Hdr) (p : LnkStatusP) (s : State) : Host.Outcome State Fault Refusal := agentRun h (.lnkStatus p) (lnkStatus h p) s

/-- Drop records one after another (R430); none where a length does not fit. -/
def parseDrops : Nat → List Byte → Option (List DropRec)
  | 0, l => if l = [] then some [] else none
  | n + 1, l =>
    if l = [] then some []
    else
      let len := ofLe ((l.drop 12).take 2)
      if l.length < 20 + len then none
      else (parseDrops n (l.drop (20 + len))).map (fun t =>
        { tag := l.take 8, index := ofLe ((l.drop 8).take 4), data := (l.drop 16).take len, crc := ofLe ((l.drop (16 + len)).take 4) } :: t)

/-- What LNK_SEND may carry (R468): the message, none where the kind or the length is wrong. -/
def sendMsg (p : LnkSendP) : Option LinkMsg :=
  if p.vl = 1 then (if p.kind = 3 && p.body.length ≤ 1024 then some (.host p.body) else none)
  else if p.vl = 3 then (if p.kind = 2 && p.body.length ≤ 4096 && p.dst ≠ 0xFFFF then some (.host p.body) else none)
  else if p.vl ≠ 4 || 16384 < p.body.length then none
  else if p.kind = 2 then some (.host p.body)
  else if p.kind = 1 then
    match parseDrops 15 p.body with
    | some [] => none
    | some l => some (.drops l)
    | none => none
  else none

/-- LNK_SEND. -/
def lnkSend (_h : Hdr) (p : LnkSendP) (s : State) : Res :=
  if 4095 < p.dst && p.dst ≠ 0xFFFF then refuse s stBadParam
  else match sendMsg p with
    | none => refuse s stBadParam
    | some m =>
      if gated s then refuse s stStandby
      else if p.dst = 0xFFFF then
        if sourcePorts s = [] then refuse s stBusy else done (broadcast p.vl p.kind p.body m s)
      else match egressPort s p.dst with
        | none => refuse s stBusy
        | some q =>
          let r := newFrame p.vl p.kind p.dst p.body m s
          done (transmit q r.2 r.1)
def execLnkSend (h : Hdr) (p : LnkSendP) (s : State) : Host.Outcome State Fault Refusal := agentRun h (.lnkSend p) (lnkSend h p) s

/-! Training (R461, R467). -/

/-- DL_BLOCK_LOCK: an enabled port leaves DOWN for TRAINING. -/
def dlBlockLock (p : Nat) (s : State) : State :=
  let q := portOf s p
  if 2 < p then s
  else withPort p (fun x => { x with lock := true, state := if q.enable && q.state = 0 && !q.held && !s.fwall.frozen.contains (33 + p) then 1 else x.state }) s
def execDlBlockLock (port : Nat) (s : State) : Host.Outcome State Fault Refusal := .next (dlBlockLock port s)

/-- DL_HELLO_TX: an enabled port sends a hello; DL0 and DL1 of a gated twin send none (R461, R478). -/
def dlHelloTx (p : Nat) (s : State) : State :=
  if 2 < p || !(portOf s p).enable || (portOf s p).held || (p < 2 && gated s) then s else withPort p (fun q => { q with hellos := satInc q.hellos }) s
def execDlHelloTx (port : Nat) (s : State) : Host.Outcome State Fault Refusal := .next (dlHelloTx port s)

/-- DL_HELLO_RX: equal set_id, the expected member and equal roles match (R461, R469). -/
def dlHelloRx (p setId member : Nat) (twin : Bool) (chip : Nat) (s : State) : State :=
  let q := portOf s p
  if 2 < p || !q.enable then s
  else
    let ok := setId = s.lnk.setId && member = q.expectedPeer && b2n twin = q.role
    let s := withPort p (fun x => { x with peer := member % 4096, peerChip := chip, matched := ok, lastMs := rawNs s / 1000000 }) s
    if !ok && q.state = 1 && !q.mismatchSeen then raise 0x114 (withPort p (fun x => { x with mismatchSeen := true }) s) else s
def execDlHelloRx (port setId memberId : Nat) (twin : Bool) (chipId : Nat) (s : State) : Host.Outcome State Fault Refusal :=
  .next (dlHelloRx port setId memberId twin chipId s)

/-- DL_TRAINING_UP: 100 us of block lock and matching hellos. -/
def dlTrainingUp (p : Nat) (s : State) : State :=
  let q := portOf s p
  if 2 < p || q.state ≠ 1 || !q.lock || !q.matched then s else portUp p s
def execDlTrainingUp (port : Nat) (s : State) : Host.Outcome State Fault Refusal := .next (dlTrainingUp port s)

/-- DL_LINK_DOWN_TIMEOUT: an UP port without block lock or hellos for link_down_us goes DOWN. -/
def dlDownTimeout (p : Nat) (s : State) : State := if 2 < p || (portOf s p).state ≠ 2 then s else takeDown p s
def execDlLinkDownTimeout (port : Nat) (s : State) : Host.Outcome State Fault Refusal := .next (dlDownTimeout port s)

/-- DL_ELASTIC_OVERFLOW: a receive elastic buffer takes its port DOWN; it retrains (R467). -/
def dlOverflow (p : Nat) (s : State) : State := if 2 < p || (portOf s p).state ≠ 2 then s else takeDown p s
def execDlElasticOverflow (port : Nat) (s : State) : Host.Outcome State Fault Refusal := .next (dlOverflow port s)

/-! A frame comes in (R457-R459, R463, R464, R468). -/

/-- Where a frame that came in on port p goes on, by its header: none for one that ends here or repeats a broadcast. -/
def onwardPorts (s : State) (p : Nat) (f : LinkFrame) : List Nat :=
  if f.vl ≠ 1 && f.vl ≠ 3 && f.vl ≠ 4 then []
  else if f.dst = 0xFFFE || f.dst = s.lnk.memberId then []
  else if f.dst = 0xFFFF then (if s.lnk.seen.contains (f.src, f.vl, f.seq) then [] else forwardPorts s p f.hops)
  else (egressPort s f.dst).toList

/-- A frame goes on with HOPS one higher; one whose HOPS would exceed hop_limit is dropped (R463). -/
def forward (p : Nat) (qs : List Nat) (f : LinkFrame) (s : State) : State :=
  if qs = [] then s
  else if s.lnk.hopLimit < f.hops + 1 then raise 0x115 (portCnt p 6 s)
  else qs.foldl (fun s q => transmit q { f with hops := f.hops + 1 } s) s

/-- A hand-over report of a peer: a learn observation on the ports of peer_ports for a key that the node table lacks or holds without
DIRECT (R333). -/
def peerReport (p kind panId addr : Nat) (o : LearnObs) (s : State) : State :=
  let direct := match findNode s kind panId addr with
    | some (_, e) => e.direct
    | none => false
  if !bit s.tbl.peerPorts p || direct then s else observe kind panId addr { o with port := 2 + p } s

/-- An ACK of the standby: the draw limits move to the counters of the record acknowledged, and a TWIN_SWITCH that waited for it begins
to yield (R413, R473, R480). -/
def deltaAcked (seq : Nat) (s : State) : State :=
  if !s.twin.configured || seq ≠ s.twin.deltaSeq || seq = s.twin.lastAcked then s
  else
    let s := withTwin (fun t => { t with
      lastAcked := seq, ackLatencyUs := sat16 ((rawNs s - t.deltaSentNs) / 1000), yielding := t.yielding || t.switchWait.isSome }) s
    let s := withSec (fun b => { b with slots := b.slots.map (fun e => match tfind s.twin.counters e.1 with
      | some c => (e.1, { e.2 with mat := { e.2.mat with copiedUse := c.1, copiedNc := c.2 } })
      | none => e) }) s
    flushLinks s

/-- A heartbeat of the peer (R476): its claim, and whether it is SYNCED. -/
def peerBeat (claim : Nat) (s : State) : State :=
  withTwin (fun t => { t with peerAlive := true, missedBeats := 0, tieCheck := true, claimPeer := claim % 65536, peerSynced := bit claim 13 }) s

/-- What a message does at the member it is for (R468, R479). -/
def deliver (p : Nat) (f : LinkFrame) (body : List Byte) (s : State) : State :=
  match f.msg with
  | .ptp m => if f.vl = 0 && f.kind = 1 then ptpEventRx (2 + p) m s else s
  | .boundary asn b _ => if f.vl = 1 && f.kind = 1 then frontReport p asn b s else s
  | .linkState m q st => if f.vl = 1 && f.kind = 2 then toLinkRing p f body (noteRing m q (st = 2) s) else s
  | .host _ => if (f.vl = 1 && f.kind = 3) || ((f.vl = 3 || f.vl = 4) && f.kind = 2) then toLinkRing p f body s else s
  | .observe k pan a o => if f.vl = 3 && f.kind = 1 then peerReport p k pan a o s else s
  | .drops l => if f.vl = 4 && f.kind = 1 then withUpd (fun u => { u with intake := u.intake ++ l.map (fun r => (1, r)) }) s else s
  | .packet x => if f.vl = 5 && f.kind = 1 then (downlink { x with srcPort := 2 + p, ts := rawNs s } s).1 else s
  | .ack q => if f.vl = 2 && f.kind = 2 then deltaAcked q s else s
  | .beat c _ _ => if f.vl = 2 && f.kind = 3 && s.twin.configured then peerBeat c s else s
  | .switchReq => s

/-- A whole, authentic frame that passed the replay check: counted, delivered where it is for this member, and sent on (R463, R464). -/
def acceptFrame (p : Nat) (f : LinkFrame) (body : List Byte) (s : State) : State :=
  let s := portCnt p 1 s
  let plain := { f with body := body, tag := [] }
  let far := f.vl = 1 || f.vl = 3 || f.vl = 4
  if !far || f.dst = 0xFFFE || f.dst = s.lnk.memberId then deliver p f body s
  else if f.dst = 0xFFFF then
    if s.lnk.seen.contains (f.src, f.vl, f.seq) then s
    else
      let qs := forwardPorts s p f.hops
      deliver p f body (forward p qs plain (remember f.src f.vl f.seq s))
  else match egressPort s f.dst with
    | none => portCnt p 6 s
    | some q => forward p [q] plain s

/-- The ingress tag fails: the copies already going out end with ABORT (R459). -/
def authFailed (p : Nat) (f : LinkFrame) (s : State) : State :=
  raise 0x112 (portCnt p 2 (forward p (onwardPorts s p f) { f with aborted := true, tag := [] } s))

/-- The lane may be used on this port (R460): TWIN on DL2 in twin role only. -/
def laneOk (s : State) (p vl : Nat) : Bool := vl ≤ 5 && (vl ≠ 2 || (p = 2 && (portOf s p).role = 1))

/-- The replay floor holds a frame back: the last NC accepted under this generation of the rx slot is no lower (R459). -/
def replayed (s : State) (p gen nc : Nat) : Bool :=
  match (portOf s p).floor with
  | some (g, last) => g = gen && nc ≤ last
  | none => false

/-- DL_FRAME_RX. -/
def dlFrameRx (p : Nat) (f : LinkFrame) (s : State) : State :=
  if 2 < p || (portOf s p).state ≠ 2 || !laneOk s p f.vl then s
  else if f.aborted then portCnt p 5 s
  else if !f.crcOk then portCnt p 4 s
  else if f.vl = 0 then deliver p f f.body (portCnt p 1 s)
  else if !f.enc then portCnt p 2 s
  else
    let u := requestKey (portOf s p).rxSlot 1 s
    if u.status ≠ stOk then raise 0x112 (portCnt p 2 u.st)
    else match gcmOpen u.mat.key (linkIv f.ivFixed f.nc) (linkAad f f.body.length) f.body f.tag with
      | none => authFailed p f u.st
      | some body =>
        if replayed u.st p u.gen f.nc then raise 0x113 (portCnt p 3 u.st)
        else acceptFrame p f body (withPort p (fun q => { q with floor := some (u.gen, f.nc) }) u.st)
def execDlFrameRx (port : Nat) (frame : LinkFrame) (s : State) : Host.Outcome State Fault Refusal := .next (dlFrameRx port frame s)

end Sys2Proof.Machine
end

