-- ==== Sys2Proof/Machine/Twin.lean ====
section
/-!
DEFINITION. The hot twin: TWIN commands, claim arbitration, output gates, delta records and saved state (R469-R482, R484, R486).
-/
namespace Sys2Proof.Machine

/-! Commands (R469, R486). -/

/-- Why TWIN_CFG enable is refused, or 0 (R469). -/
def twinEnableRefusal (p : TwinCfgP) (s : State) : Nat :=
  if 1 < p.chipId || p.claimOffsetUs < 1000 || s.slot.slotLenUs < p.claimOffsetUs + 25 || p.deltaAckUs < 500 || 9000 < p.deltaAckUs ||
      !bit s.sys.strap 3 then stBadParam
  else if (portOf s 2).state ≠ 2 || (portOf s 2).role ≠ 1 then stBusy
  else if (portOf s 2).peerChip = p.chipId then stDuplicate
  else 0

/-- TWIN_CFG; a disabled twin's gates are disabled at the next boundary (R477). -/
def twinCfg (_h : Hdr) (p : TwinCfgP) (s : State) : Res :=
  if 1 < p.op then refuse s stBadParam
  else if p.op = 1 then done (withTwin (fun t => { t with configured := false, disableDue := t.gates, enableIn := none, preparing := false }) s)
  else
    let st := twinEnableRefusal p s
    if st ≠ 0 then refuse s st
    else done (withTwin (fun t => { t with configured := true, chipId := p.chipId, claimOffset := p.claimOffsetUs, deltaAck := p.deltaAckUs }) s)
def execTwinCfg (h : Hdr) (p : TwinCfgP) (s : State) : Host.Outcome State Fault Refusal := agentRun h (.twinCfg p) (twinCfg h p) s

/-- TWIN_CLAIM. -/
def twinClaim (_h : Hdr) (p : TwinClaimP) (s : State) : Res :=
  if 1 < p.op || (p.op = 1 && 63 < p.priority) then refuse s stBadParam
  else done (if p.op = 1 then withTwin (fun t => { t with priority := p.priority }) s else s)
    (le 2 s.twin.claimOwn ++ le 2 s.twin.claimPeer ++ le 2 s.twin.claimWinner)
def execTwinClaim (h : Hdr) (p : TwinClaimP) (s : State) : Host.Outcome State Fault Refusal := agentRun h (.twinClaim p) (twinClaim h p) s

/-- TWIN_SWITCH: the reply waits for the standby's win; yielding begins once the current delta is acknowledged (R480). -/
def twinSwitch (h : Hdr) (_p : TwinSwitchP) (s : State) : Res :=
  if isStandby s then refuse s stStandby
  else if !s.twin.configured || !s.twin.peerAlive || !s.twin.peerSynced || s.twin.switchWait.isSome then refuse s stBusy
  else { st := withTwin (fun t => { t with
      switchWait := some (h.qp, h.tag), yielding := t.yielding || t.lastAcked = t.deltaSeq }) s, wait := true }
def execTwinSwitch (h : Hdr) (p : TwinSwitchP) (s : State) : Host.Outcome State Fault Refusal := agentRun h (.twinSwitch p) (twinSwitch h p) s

/-- TWIN_STATUS. -/
def twinStatus (_h : Hdr) (p : TwinStatusP) (s : State) : Res :=
  let t := s.twin
  if 1 < p.clear then refuse s stBadParam
  else done (if p.clear = 1 then withTwin (fun t => { t with cnt := [] }) s else s)
    (le 4 (twinStatusWord s) ++ le 2 t.claimOwn ++ le 2 t.claimWinner ++ le 2 t.claimPeer ++ le 4 t.deltaSeq ++ le 2 (sat16 t.ackLatencyUs) ++
      le 4 (tget 0 t.cnt 5))
def execTwinStatus (h : Hdr) (p : TwinStatusP) (s : State) : Host.Outcome State Fault Refusal := agentRun h (.twinStatus p) (twinStatus h p) s

/-! Saved state (R481, R482). -/

/-- A snapshot of the state the BULK sections carry; slots 0x000-0x002 are the part's own. -/
def capture (s : State) : SavedState :=
  { salt := s.aon.salt, slots := s.sec.slots.filter (fun e => 3 ≤ e.1 && (e.2.state = 1 || e.2.state = 2 || e.2.state = 3)),
    tblB := s.tbl, slotB := s.slot, budgB := s.budg, rfcB := s.rfc, laneB := s.lane, tmB := s.tm }

/-- The settings of a chain over what it is doing (R481). -/
def chainSettings (a k : ChainSt) : ChainSt :=
  { k with
    plans := a.plans, ramps := a.ramps, userPlans := a.userPlans, rxFeGain := a.rxFeGain, couplerSrc := a.couplerSrc,
    cplFactor := a.cplFactor, mismatchRl := a.mismatchRl, backoffStep := a.backoffStep, maxBackoff := a.maxBackoff, autoRecal := a.autoRecal,
    seqOn := a.seqOn, seqOff := a.seqOff, seqWindow := a.seqWindow, coexMode := a.coexMode, grantPolarity := a.grantPolarity,
    reqLeadUs := a.reqLeadUs, priMask := a.priMask, priAck := a.priAck, abortOnRevoke := a.abortOnRevoke, agcMode := a.agcMode,
    wbTarget := a.wbTarget, nbTarget := a.nbTarget, clipCount := a.clipCount, profiles := a.profiles, tunerState := a.tunerState,
    centre := a.centre }

/-- The settings of a lane over what it is doing. -/
def laneSettings (a l : LaneSt) : LaneSt := { l with cfg := a.cfg, captureMargin := a.captureMargin, spawnEnable := a.spawnEnable }

/-- The settings of a queue over the frames it holds. -/
def queueSettings (a q : QueueSt) : QueueSt :=
  { q with
    port := a.port, cls := a.cls, ring := a.ring, quantum := a.quantum, maxBytes := a.maxBytes, maxFrames := a.maxFrames,
    yellowPct := a.yellowPct, shaper := a.shaper, nbCap := a.nbCap }

/-- The traffic manager's settings over what it holds. -/
def tmSettings (a t : TmSt) : TmSt :=
  { t with
    queues := a.queues.foldl (fun qs e => tmod {} qs e.1 (queueSettings e.2)) t.queues, meters := a.meters, shapers := a.shapers,
    profiles := a.profiles, dscpClass := a.dscpClass, dscpColour := a.dscpColour, portTable := a.portTable, unknownQueue := a.unknownQueue,
    reserve := a.reserve }

/-- The slot engine's settings and lists, stopped. -/
def slotSettings (a b : SlotSt) : SlotSt :=
  { a with
    running := false, started := false, stopPending := false, plan := none, plans := [], acks := [], runs := [], waits := [],
    asn := b.asn, boundaryNs := b.boundaryNs, prevNs := b.prevNs, startNs := b.startNs, asnStart := b.asnStart, cnt := b.cnt,
    sfs := a.sfs.map (fun e => (e.1, { e.2 with pendAsn := none, pendOff := false })),
    supers := a.supers.map (fun e => (e.1, { e.2 with phase := 0, lastOk := false })) }

/-- A key of the snapshot comes back, its USAGE_COUNT stepped where the engine draws it from the key, and NC under R411 (R482). -/
def restoreKey (step : Nat → Nat) (k : KeySlotSt) (s : State) : KeySlotSt :=
  let m := k.mat
  let use := if bit m.engines 0 || bit m.engines 1 then step m.usageCount else m.usageCount
  { state := k.state, gen := k.gen, mat := startNonce s { m with usageCount := use, copiedUse := use } }

/-- The region table of a snapshot over the counters of the part (R302). -/
def budgSettings (a b : BudgSt) : BudgSt := { a with debits := b.debits, refused := b.refused, near := b.near, nearSeen := b.nearSeen, cnt := b.cnt }

/-- A snapshot restored; the air budget's counters come back from LULL only (R91, R302, R482). -/
def restore (step : Nat → Nat) (budget : BudgSt → BudgSt → BudgSt) (v : SavedState) (s : State) : State :=
  let keys := v.slots.map (fun e => (e.1, restoreKey step e.2 s))
  let s := withSec (fun b => { b with slots := keys.foldl (fun t e => tput t e.1 e.2) (b.slots.filter (·.1 < 3)) }) s
  let s := withBudg (budget v.budgB) (withTbl (fun _ => v.tblB) (withSlot (slotSettings v.slotB) (withTm (tmSettings v.tmB) s)))
  let s := v.rfcB.chains.foldl (fun s e => withChain e.1 (chainSettings e.2) s) (withRfc (fun r => { r with blankMap := v.rfcB.blankMap }) s)
  let s := withLane (fun b => { b with
    reserve := v.laneB.reserve, margin := v.laneB.margin, thr := v.laneB.thr, minChange := v.laneB.minChange,
    ratePolicy := v.laneB.ratePolicy, nullPeriod := v.laneB.nullPeriod }) s
  v.laneB.lanes.foldl (fun s e => applyAssign e.1 (effAssign e.2) (withLaneN e.1 (laneSettings e.2) s)) s

/-- TWIN_SAVE_STATE. -/
def twinSaveState (_h : Hdr) (p : TwinSaveStateP) (s : State) : Res :=
  if 2 < p.op then refuse s stBadParam
  else if p.op = 2 then done (withFlash (fun f => { f with saved := none }) s)
  else if s.twin.saving.isSome then refuse s stBusy
  else if p.op = 0 then
    if 96 * 2 ^ 20 < Config.savedBytes s.free then refuse s stNoRoom
    else { st := tick1 (withTwin (fun t => { t with saving := some (0, freshJob s), snapshot := none }) s), status := stPending, info := freshJob s }
  else if s.slot.running then refuse s stBusy
  else if (match s.flash.saved with
      | some v => decide (v.salt ≠ s.aon.salt)
      | none => true) then refuse s stAuthFail
  else
    { st := tick1 (withTwin (fun t => { t with saving := some (1, freshJob s), usageFloor := p.usageFloor }) s), status := stPending,
      info := freshJob s }
def execTwinSaveState (h : Hdr) (p : TwinSaveStateP) (s : State) : Host.Outcome State Fault Refusal :=
  agentRun h (.twinSaveState p) (twinSaveState h p) s

/-- The snapshot of a save in progress is taken at a boundary (R481). -/
def takeSnapshot (s : State) : State :=
  match s.twin.saving with
  | some (0, _) => if s.twin.snapshot.isSome then s else withTwin (fun t => { t with snapshot := some (capture s) }) s
  | _ => s

/-- TWIN_SAVE_DONE: the snapshot is durable, or restored; one that fails its tag restores nothing (R481, R482). -/
def twinSaveDone (isRestore authOk : Bool) (s : State) : State :=
  match s.twin.saving with
  | none => s
  | some (op, _) =>
    if (op = 1) ≠ isRestore then s
    else
      let s1 := withTwin (fun t => { t with saving := none, snapshot := none }) s
      raise 0x127 (if op = 0 then withFlash (fun f => { f with saved := some (s.twin.snapshot.getD (capture s)) }) s1
        else match s.flash.saved with
          | some v => if authOk then restore (fun n => max (n + 2 ^ 20) s.twin.usageFloor) budgSettings v s1 else s1
          | none => s1)
def execTwinSaveDone (isRestore authOk : Bool) (s : State) : Host.Outcome State Fault Refusal := .next (twinSaveDone isRestore authOk s)

/-! Output gates (R12, R162, R476, R477, R479). -/

/-- The transmission of a chain ends with its gate: silent at once, ST_STANDBY where it had not ended (R12, R162). -/
def silence (c : Nat) (s : State) : State :=
  match headTx s c with
  | none => s
  | some t =>
    if t.phase = 0 then s
    else
      let s := withChain c (fun k => { k with
        txEn := false, paEn := false, rampOn := false, blankUntilNs := if k.blanking then some (rawNs s + 5000) else k.blankUntilNs,
        cntStandby := if t.phase < 7 then satInc k.cntStandby else k.cntStandby }) (dropCoex c s)
      takeProfiles c (if t.phase < 7 then endEntry stStandby t.entry (popTx c s) else popTx c s)

/-- The gates disabled, all together. -/
def gatesOff (s : State) : State :=
  if !s.twin.gates then withTwin (fun t => { t with enableIn := none, preparing := false, disableDue := false }) s
  else
    let s := withTwin (fun t => { t with gates := false, enableIn := none, preparing := false, disableDue := false }) s
    if bit s.sys.strap 3 then [0, 1, 2, 3].foldl (fun s c => silence c s) s else s

/-- A chip that clears LIVE because of a fatal error, tamper or watchdog expiry disables its gates at once (R477). -/
def notLive (s : State) : State := gatesOff (withTwin (fun t => { t with live := false }) s)

/-- TWIN_WATCHDOG_EXPIRY. -/
def twinWatchdog (s : State) : State := if s.twin.configured then notLive s else s
def execTwinWatchdogExpiry (s : State) : Host.Outcome State Fault Refusal := .next (twinWatchdog s)

/-- The counters of a new active in its preparation slot: USAGE_COUNT 65,536 beyond the copied value, and NC under R413 (R473, R479). -/
def stepCounters (s : State) : State :=
  withSec (fun b => { b with slots := b.slots.map (fun e =>
    let m := e.2.mat
    if e.2.state = 1 && (bit m.engines 0 || bit m.engines 1) then
      let m := { m with usageCount := max m.usageCount (m.copiedUse + 65536) }
      let n := startNonce s m
      let nc := max n.nc (max m.nc (m.copiedNc + 65536))
      (e.1, { e.2 with mat := if drawsNonces m then { n with nc := nc, hWriting := some nc } else m })
    else e) }) s

/-- The gates switch, and the preparation slot begins, at a boundary (R476, R477, R479). -/
def gateSwitch (s : State) : State :=
  if s.twin.disableDue then gatesOff s
  else match s.twin.enableIn with
    | none => s
    | some n =>
      if n ≤ 1 then withTwin (fun t => { t with gates := true, preparing := false, enableIn := none, pendingDelta := {}, counters := [] }) s
      else stepCounters (withTwin (fun t => { t with enableIn := some (n - 1), preparing := true }) s)

/-! Arbitration (R474-R476, R480). -/

/-- Lost, void or a tie: gates go at the next boundary, and a TWIN_SWITCH is answered (R476, R480). -/
def claimLost (s : State) : State :=
  let held := s.twin.gates
  let who := if s.twin.yielding then s.twin.switchWait else none
  let s := twinCnt 1 (withTwin (fun t => { t with
    incumbent := false, enableIn := none, preparing := false, disableDue := t.disableDue || held, yielding := false,
    switchWait := if t.yielding then none else t.switchWait }) s)
  raiseIf held 0x121 (finishWait who stOk (le 5 s.slot.asn) s)

/-- Won: an incumbent keeps its gates, another takes over from the second boundary (R476); while REF_ETH is lost the gates stay
disabled (R55). -/
def claimWon (s : State) : State :=
  let was := s.twin.incumbent
  if bit s.sys.refLost 3 then twinCnt 0 s else
  let s := twinCnt 0 (withTwin (fun t => { t with incumbent := true }) s)
  if was then s else raise 0x120 (twinCnt 5 (withTwin (fun t => { t with enableIn := some 2 }) s))

/-- CLAIM_ARBITRATION: the peer's claim on the bus, none where it is absent, and whether the bus worked (R474-R476). -/
def claimArbitration (peer : Option Nat) (busOk : Bool) (s : State) : State :=
  if !s.twin.configured then s
  else
    let own := claimWord s
    let win := match peer with
      | some p => p % 65536 ≤ own
      | none => true
    let tie := busOk && win && own = s.twin.claimPeer && s.twin.tieCheck
    let s := withTwin (fun t => { t with
      claimOwn := own, void := !busOk, tie := tie,
      claimWinner := if !busOk || tie then t.claimWinner else if win then own else (peer.getD 0) % 65536 }) s
    if !busOk then claimLost (raise 0x125 (twinCnt 2 s))
    else if tie then claimLost (raise 0x124 s)
    else if win then claimWon s
    else claimLost s
def execClaimArbitration (peer : Option Nat) (busOk : Bool) (s : State) : Host.Outcome State Fault Refusal := .next (claimArbitration peer busOk s)

/-- HEARTBEAT_TX: the watchdog that clears LIVE also stops it (R474, R476). -/
def heartbeatTx (s : State) : State :=
  if !s.twin.configured || !s.twin.live then s
  else
    let seq := if s.twin.gates then s.twin.lastAcked else s.twin.deltaSeq
    let claim := claimWord s
    let st := twinStatusWord s % 256
    toPeer 2 2 3 (Config.beatBody claim st seq) (.beat claim st seq) (withTwin (fun t => { t with beats := satInc t.beats }) s)
def execHeartbeatTx (s : State) : Host.Outcome State Fault Refusal := .next (heartbeatTx s)

/-- HEARTBEAT_MISSING: the third in a row loses the peer (R476). -/
def heartbeatMissing (s : State) : State :=
  if !s.twin.configured then s
  else
    let n := min 3 (s.twin.missedBeats + 1)
    let third := n = 3 && s.twin.missedBeats ≠ 3
    let s := withTwin (fun t => { t with missedBeats := n }) s
    if third then
      raise 0x122 (withTwin (fun t => { t with peerAlive := false, tieCheck := false, peerSynced := false, bulkDone := false }) s)
    else s
def execHeartbeatMissing (s : State) : Host.Outcome State Fault Refusal := .next (heartbeatMissing s)

/-! Delta records, sent (R471-R473). -/

/-- A KEY entry: the key as a transport blob under slot 0x003, absent for an empty slot (R386, R472). -/
def keyEntry (d : KeyDelta) (s : State) : State × KeyDelta :=
  let k := slotOf s d.slot
  let m := k.mat
  let w := slotOf s 3
  let r := if k.state = 0 || k.state = 4 || w.state ≠ 1 then (s, []) else wrapKey w.mat.key 0xFFFFFFFF m s
  (r.1, {
    slot := d.slot, state := k.state, gen := k.gen, parent := m.parent, usageCount := m.usageCount, ktype := m.ktype,
    engines := m.engines, nonceMode := m.nonceMode, depth := m.depth, blob := r.2 })

/-- The COUNTER entries: the slots whose USAGE_COUNT or NC moved since the last record. -/
def counterEntries (s : State) : List (Nat × Nat × Nat) :=
  (s.sec.slots.filter (fun e => e.2.state = 1 && (bit e.2.mat.engines 0 || bit e.2.mat.engines 1) &&
    tfind s.twin.counters e.1 ≠ some (e.2.mat.usageCount, e.2.mat.nc))).map (fun e => (e.1, e.2.mat.usageCount, e.2.mat.nc))

/-- The record of the slot that ends, its entries filled in from the state. -/
def deltaOf (s : State) : State × DeltaRec :=
  let d := s.twin.pendingDelta
  let k := d.keys.foldl (fun (a : State × List KeyDelta) x => let r := keyEntry x a.1
    (r.1, a.2 ++ [r.2])) (s, [])
  (k.1, { d with
    seq := (s.twin.deltaSeq + 1) % 2 ^ 32, asn := s.slot.asn, boundary := s.slot.boundaryNs, keys := k.2, counters := counterEntries s,
    replay := d.replay.map (fun r => let e := nbrOf s r.nbr
      { r with
        keyGen := e.keyGen, rxH := e.rxH, rxMap := e.rxMap, winEmpty := e.winEmpty, lastHeard := e.lastHeard, seqTime := e.seqTime,
        lastSeq := e.lastSeq }),
    nbrs := d.nbrs.map (fun x => (x.1, nbrTail (nbrOf s x.1))), frontF := s.slot.frontF, frontP := s.slot.frontP, guardUs := s.slot.guardUs,
    misses := s.slot.misses })

/-- Sections that a record carries: those with entries, and SLOT. -/
def sectionCount (d : DeltaRec) : Nat :=
  1 + b2n (d.cmds ≠ []) + b2n (d.keys ≠ []) + b2n (d.counters ≠ []) + b2n (d.replay ≠ []) + b2n (d.nbrs ≠ []) + b2n (d.nodes ≠ []) +
    b2n (d.queues ≠ []) + b2n (d.camps ≠ [])

/-- A delta record or BULK copy as it travels: the 32-byte header and the sections (R472). -/
def deltaBytes (d : DeltaRec) (body : List Byte) : List Byte :=
  ascii "ZBDR" ++ le 4 d.seq ++ le 5 d.asn ++ zeros 1 ++ le 2 (sectionCount d) ++ le 4 (32 + body.length) ++ leS 8 d.boundary ++ zeros 4 ++ body

/-- Bytes sent on the TWIN lane in frames of at most 16,384 bytes (R458, R471). -/
def sendTwin (kind : Nat) (l : List Byte) (s : State) : State := (chunk 16384 l).foldl (fun s b => toPeer 2 2 kind b (.host b) s) s

/-- The active sends the record of the slot that ends, before the boundary's own changes; a peer it has not served yet gets a BULK
copy (R471). -/
def sendDelta (s : State) : State :=
  if !(s.twin.configured && s.twin.gates) then s
  else
    let r := deltaOf s
    let d := r.2
    let s := withTwin (fun t => { t with
      deltaSeq := d.seq, deltaSentNs := rawNs s, pendingDelta := {}, out := t.out ++ [d],
      counters := d.counters.foldl (fun c x => tput c x.1 x.2) t.counters }) r.1
    let s := sendTwin 1 (deltaBytes d (Config.deltaBody d.seq)) (twinCnt 3 s)
    if s.twin.peerAlive && !s.twin.bulkDone then
      sendTwin 4 (deltaBytes d (Config.deltaBody (2 ^ 32 + d.seq))) (withTwin (fun t => { t with bulkDone := true }) s)
    else s

/-- DELTA_ACK_TIMEOUT: the ACK is late; it carries on (R471). -/
def deltaAckTimeout (s : State) : State :=
  if !s.twin.configured || !s.twin.gates || s.twin.lastAcked = s.twin.deltaSeq then s else raise 0x126 (twinCnt 4 s)
def execDeltaAckTimeout (s : State) : Host.Outcome State Fault Refusal := .next (deltaAckTimeout s)

/-! Delta records, applied in type order (R386, R471-R473). -/

/-- A KEY entry: the slot takes the active's state, GEN and key. -/
def applyKey (d : KeyDelta) (s : State) : State :=
  if d.state = 0 || d.state = 4 then withKey d.slot (fun k => { gen := d.gen, waiter := k.waiter, aborted := k.aborted }) s
  else
    let w := slotOf s 3
    match (if w.state = 1 then unwrapKey w.mat.key 0xFFFFFFFF d.blob else none) with
    | none => withKey d.slot (fun k => { k with state := d.state, gen := d.gen }) s
    | some m =>
      let old := slotOf s d.slot
      let m := { old.mat with
        ktype := m.ktype, engines := m.engines, key := m.key, nonceMode := m.nonceMode, parent := d.parent, depth := d.depth,
        usageCount := d.usageCount, copiedUse := d.usageCount }
      let m := if old.gen = d.gen && old.state ≠ 0 then m else startNonce s m
      withKey d.slot (fun k => { k with state := d.state, gen := d.gen, mat := m, staged := none }) s

/-- A COUNTER entry. -/
def applyCounter (x : Nat × Nat × Nat) (s : State) : State :=
  withKey x.1 (fun k => { k with mat := { k.mat with usageCount := x.2.1, copiedUse := x.2.1, copiedNc := x.2.2 } }) s

/-- A REPLAY entry. -/
def applyReplay (r : ReplayDelta) (s : State) : State :=
  if !(nbrOf s r.nbr).valid then s
  else withNbr r.nbr (fun e => { e with
    keyGen := r.keyGen, rxH := r.rxH, rxMap := r.rxMap, winEmpty := r.winEmpty, lastHeard := r.lastHeard, seqTime := r.seqTime,
    lastSeq := r.lastSeq }) s

/-- A NODE entry: the removal of the active's own. -/
def applyNode (x : Nat × Nat × Nat) (s : State) : State :=
  match findNode s x.1 x.2.1 x.2.2 with
  | some (pos, _) => withTbl (fun t => { t with nodes := tdel t.nodes pos }) s
  | none => s

/-- A QUEUE entry: the frames that left the active's queue leave the standby's. -/
def applyQueue (x : Nat × List Nat) (s : State) : State :=
  x.2.foldl (fun s c => match (queueOf s x.1).frames.find? (fun f => crc32c f.data = c) with
    | some f => leaveQueue x.1 f.id true s
    | none => s) s

/-- A CAMPAIGN entry: a member's state and changed bitmap bytes (R452). -/
def applyCamp (x : Nat × Nat × Nat × List (Nat × Byte)) (s : State) : State :=
  withCamp x.1 (fun c => { c with members := match tfind c.members x.2.1 with
    | none => c.members
    | some m => tput c.members x.2.1 { m with
        state := x.2.2.1, bitmap := x.2.2.2.foldl (fun b y => (fit (max b.length (y.1 + 1)) b).set y.1 y.2) m.bitmap } }) s

/-- The sections after CMD. -/
def applySections (d : DeltaRec) (s : State) : State :=
  let s := d.keys.foldl (fun s x => applyKey x s) s
  let s := d.counters.foldl (fun s x => applyCounter x s) s
  let s := d.replay.foldl (fun s x => applyReplay x s) s
  let s := d.nbrs.foldl (fun s x => if (nbrOf s x.1).valid then withNbr x.1 (nbrSetLink x.2) s else s) s
  let s := d.nodes.foldl (fun s x => applyNode x s) s
  let s := d.queues.foldl (fun s x => applyQueue x s) s
  let s := d.lists.foldl (fun s f => if (sfOf s f).pendAsn.isSome then applyList (sfOf s f).pendOff f s else s) s
  let s := withSlot (fun b => { b with frontF := d.frontF, frontP := d.frontP, guardUs := d.guardUs, misses := d.misses }) s
  d.camps.foldl (fun s x => applyCamp x s) s

/-- The standby's ACK of a record (R471). -/
def sendAckOf (seq : Nat) (s : State) : State := toPeer 2 2 2 (le 4 seq) (.ack seq) s

end Sys2Proof.Machine
end

