-- ==== Sys2Proof/Machine/Eth.lean ====
section
/-!
DEFINITION. The Ethernet ports with MACsec, the egress of every port served by readiness, and PCIe with its data rings (R8, R129, R341,
R352, R494-R505, R513, R514, R520).
-/
namespace Sys2Proof.Machine

/-! SYS_ETH_CFG and SYS_MACSEC_SA (R496, R498, R499, R514). -/

/-- SYS_ETH_CFG: a change of mode drops the link. -/
def sysEthCfg (_h : Hdr) (p : SysEthCfgP) (s : State) : Res :=
  if 1 < p.port || 3 < p.mode || 1 < p.autoneg || p.maxFrame < 1518 || 9216 < p.maxFrame || 1 < p.pauseRx || 2 ^ 48 ≤ p.macAddr ||
      1 < p.macsec || 31 < p.eapolRing then refuse s stBadParam
  else
    let drop := p.mode ≠ (ethOf s p.port).mode && (ethOf s p.port).link
    let s := withEthP p.port (fun e => { e with
      mode := p.mode, link := e.link && !drop, autoneg := p.autoneg = 1, maxFrame := p.maxFrame, pauseRx := p.pauseRx = 1, mac := p.macAddr,
      macsec := p.macsec = 1, eapolRing := p.eapolRing }) s
    let s := raiseIf drop (0x128 + p.port) s
    done s (le 4 (ethStatusWord s p.port))
def execSysEthCfg (h : Hdr) (p : SysEthCfgP) (s : State) : Host.Outcome State Fault Refusal := agentRun h (.sysEthCfg p) (sysEthCfg h p) s

/-- The SA a request installs. -/
def newSa (p : SysMacsecSaP) : MacsecSa :=
  { slot := p.slot, nextPn := p.nextPn, ssci := p.ssci, salt := p.salt, encrypt := p.encrypt = 1, replayWindow := p.replayWindow,
    pnWarn := p.pnWarn }

/-- The receive SA of an SCI and AN. -/
def rxSa (e : EthPort) (sci an : Nat) : Option MacsecSa := (e.rxSas.find? (fun x => x.1 = sci && x.2.1 = an)).map (·.2.2)

/-- Receive SAs without the one of an SCI and AN. -/
def rxWithout (e : EthPort) (sci an : Nat) : List (Nat × Nat × MacsecSa) := e.rxSas.filter (fun x => !(x.1 = sci && x.2.1 = an))

/-- Ops 0 and 1: an SA installed, four receive channels at most. -/
def installSa (p : SysMacsecSaP) (s : State) : Res :=
  let st := keyStatus s p.slot 2
  let e := ethOf s p.port
  let chans := ((rxWithout e p.sci p.an).map (·.1)).eraseDups
  if st ≠ stOk then refuse s (if st = stKeyDenied then stKeyDenied else stKeyGone)
  else if p.op = 0 then
    if 4 ≤ chans.length && !chans.contains p.sci then refuse s stNoRoom
    else done (withEthP p.port (fun e => { e with rxSas := rxWithout e p.sci p.an ++ [(p.sci, p.an, newSa p)] }) s) (le 8 p.nextPn)
  else if s.twin.configured && p.sci % 2 ≠ s.twin.chipId then refuse s stBadParam
  else done (withEthP p.port (fun e => { e with
      txSci := p.sci, txSas := tput (if e.txSci = p.sci then e.txSas else []) p.an (newSa p),
      txAnSet := e.txAnSet && e.txSci = p.sci }) s) (le 8 p.nextPn)

/-- Op 2: the transmit AN activated; the port sends again. -/
def activateAn (p : SysMacsecSaP) (s : State) : Res :=
  match tfind (ethOf s p.port).txSas p.an with
  | none => refuse s stBadParam
  | some a => done (withEthP p.port (fun e => { e with txAn := p.an, txAnSet := true, txStopped := false }) s) (le 8 a.nextPn)

/-- Op 3: an SA removed, unless it is the transmit AN in use. -/
def removeSa (p : SysMacsecSaP) (s : State) : Res :=
  let e := ethOf s p.port
  match (if e.txSci = p.sci then tfind e.txSas p.an else none) with
  | some a =>
    if e.txAnSet && e.txAn = p.an then refuse s stBusy
    else done (withEthP p.port (fun e => { e with txSas := tdel e.txSas p.an }) s) (le 8 a.nextPn)
  | none => match rxSa e p.sci p.an with
    | some a => done (withEthP p.port (fun e => { e with rxSas := rxWithout e p.sci p.an }) s) (le 8 a.nextPn)
    | none => refuse s stBadParam

/-- SYS_MACSEC_SA. -/
def sysMacsecSa (_h : Hdr) (p : SysMacsecSaP) (s : State) : Res :=
  if 1 < p.port || 3 < p.op || 3 < p.an || (p.op < 2 && (4095 < p.slot || 1 < p.encrypt || 2 ^ 64 ≤ p.nextPn || 2 ^ 96 ≤ p.salt)) then
    refuse s stBadParam
  else if p.op < 2 then installSa p s
  else if p.op = 2 then activateAn p s
  else removeSa p s
def execSysMacsecSa (h : Hdr) (p : SysMacsecSaP) (s : State) : Host.Outcome State Fault Refusal :=
  agentRun h (.sysMacsecSa p) (sysMacsecSa h p) s

/-! Reception (R27, R495, R497). -/

/-- The IV of an XPN frame: (SSCI || PN) XOR salt (R402). -/
def xpnIv (a : MacsecSa) (pn : Nat) : List Byte := xorB (be 4 a.ssci ++ be 8 pn) (be 12 a.salt)

/-- A frame that found no cell or a full queue (R495). -/
def rxDrop (e : Nat) (s : State) : State :=
  let s := ethCnt e 3 s
  if (ethOf s e).dropSec = some (rawSec s) then s
  else raise 0x12B (withEthP e (fun p => { p with dropSec := some (rawSec s) }) s)

/-- An ICV failure, with its event once per 1 s (R497). -/
def icvFail (e : Nat) (s : State) : State :=
  let s := ethCnt e 6 s
  if (ethOf s e).icvSec = some (rawSec s) then s
  else raise 0x12C (withEthP e (fun p => { p with icvSec := some (rawSec s) }) s)

/-- A received frame on its way through R27. -/
def ethDeliver (e : Nat) (f : EthFrame) (data : List Byte) (s : State) : State :=
  if f.queueFull then rxDrop e s
  else
    let r := downlink { data := data, ip := f.ip, srcPort := e, ts := rawNs s, drops := f.drops } s
    if r.2 then r.1 else rxDrop e r.1

/-- Strict validation: the plaintext of a frame that is accepted (R497). -/
def macsecValidate (e : Nat) (f : EthFrame) (s : State) : State × Option (List Byte) :=
  match (if f.tagged then rxSa (ethOf s e) f.sci f.an else none) with
  | none => (ethCnt e 5 s, none)
  | some a =>
    let u := requestKey a.slot 2 s
    let plain := if u.status ≠ stOk then none
      else if a.encrypt then gcmOpen u.mat.key (xpnIv a f.pn) f.aad f.bytes f.icv
      else (gcmOpen u.mat.key (xpnIv a f.pn) (f.aad ++ f.bytes) [] f.icv).map (fun _ => f.bytes)
    match plain with
    | none => (icvFail e u.st, none)
    | some d =>
      if f.pn < a.nextPn - a.replayWindow then (ethCnt e 7 u.st, none)
      else (withEthP e (fun p => { p with rxSas := p.rxSas.map (fun x => if x.1 = f.sci && x.2.1 = f.an then
        (x.1, x.2.1, { x.2.2 with nextPn := max x.2.2.nextPn (f.pn + 1) }) else x) }) u.st, some d)

/-- Bits per us of a port's speed code. -/
def ethMbps (speed : Nat) : Nat := if speed = 0 then 10 else if speed = 1 then 100 else if speed = 2 then 1000 else 10000

/-- ETH_FRAME_RX: bytes are the frame without its FCS, or the secured data of a MACsec frame whose header and SecTAG are aad. -/
def ethFrameRx (e : Nat) (f : EthFrame) (s : State) : State :=
  let p := ethOf s e
  let len := f.aad.length + f.bytes.length + f.icv.length + 4
  if 1 < e || p.mode = 0 || !p.link || p.held then s
  else if !f.fcsOk then ethCnt e 2 s
  else if p.maxFrame < len then ethCnt e 9 s
  else if len < 64 then s
  else
    let s := ethCnt e 0 s
    match f.pause with
    | some q =>
      let s := ethCnt e 4 s
      if p.pauseRx then withTm (fun t => { t with pauseNs := tput t.pauseNs e (rawNs s + q * 512000 / ethMbps p.speed) }) s else s
    | none =>
      if !p.macsec then ethDeliver e f f.bytes s
      else if f.eapol then
        withPcie (fun x => { x with reports := x.reports ++ [(p.eapolRing, { data := f.bytes, srcPort := e, ts := rawNs s })] }) (ethCnt e 8 s)
      else
        let r := macsecValidate e f s
        match r.2 with
        | none => r.1
        | some d => ethDeliver e f (f.aad.take 12 ++ d) r.1
def execEthFrameRx (port : Nat) (frame : EthFrame) (s : State) : Host.Outcome State Fault Refusal := .next (ethFrameRx port frame s)

/-- ETH_PAUSE_EXPIRY. -/
def pauseExpiry (e : Nat) (s : State) : State := withTm (fun t => { t with pauseNs := tdel t.pauseNs e }) s
def execEthPauseExpiry (port : Nat) (s : State) : Host.Outcome State Fault Refusal := .next (pauseExpiry port s)

/-- ETH_LINK_CHANGE. -/
def ethLink (e : Nat) (up : Bool) (speed : Nat) (s : State) : State :=
  let p := ethOf s e
  if 1 < e || p.mode = 0 || (up && p.held) || p.link = up then s
  else raise (0x128 + e) (withEthP e (fun p => { p with link := up, speed := if up then speed % 4 else p.speed }) s)
def execEthLinkChange (port : Nat) (up : Bool) (speed : Nat) (s : State) : Host.Outcome State Fault Refusal := .next (ethLink port up speed s)

/-- ETH_PHY_INT. -/
def execEthPhyInt (s : State) : Host.Outcome State Fault Refusal := .next (raise 0x12A s)

/-! Egress (R8, R12, R352, R478, R495, R498). -/

/-- A frame on the wire (R494). -/
def ethSend (e : Nat) (f : PktFrame) (s : State) : State := ethCnt e 1 (withEthP e (fun p => { p with out := p.out ++ [f] }) s)

/-- The SecTAG of a frame: EtherType, TCI and AN, SL, PN[31:0] and SCI (IEEE 802.1AE). -/
def secTag (a : MacsecSa) (sci an len : Nat) : List Byte :=
  be 2 0x88E5 ++ be 1 (0x20 + (if a.encrypt then 0x0C else 0) + an) ++ be 1 (if len < 48 then len else 0) ++ be 4 (a.nextPn % 2 ^ 32) ++ be 8 sci

/-- Egress of an Ethernet port stops until the host activates another AN (R498). -/
def stopEth (e : Nat) (s : State) : State := raise 0x12E (withEthP e (fun p => { p with txStopped := true }) s)

/-- A frame secured under the SA in use (R402, R498). -/
def secured (a : MacsecSa) (sci an : Nat) (m : KeyMat) (l : List Byte) : List Byte :=
  let body := l.drop 12
  let aad := l.take 12 ++ secTag a sci an body.length
  let r := if a.encrypt then gcmSeal m.key (xpnIv a a.nextPn) aad body
    else (body, (gcmSeal m.key (xpnIv a a.nextPn) (aad ++ body) []).2)
  aad ++ r.1 ++ r.2

/-- The SA after one frame, with EV_MACSEC_PN_NEAR (R498). -/
def drawPn (e an : Nat) (a : MacsecSa) (s : State) : State :=
  let near := !a.warned && a.pnWarn ≤ a.nextPn + 1
  raiseIf near 0x12D (withEthP e (fun p => { p with txSas := tput p.txSas an { a with nextPn := a.nextPn + 1, warned := a.warned || near } }) s)

/-- An Ethernet port sends its next frame. -/
def serveEth (e : Nat) (s : State) : State :=
  let p := ethOf s e
  let held := (match tfind s.tm.pauseNs e with
    | some t => decide (rawNs s < t)
    | none => false)
  if p.mode = 0 || !p.link || p.held || gated s || held || (p.macsec && (p.txStopped || !p.txAnSet)) then s
  else
    let r := nextFrame e (fun _ => false) s
    match r.2 with
    | none => r.1
    | some (q, f) =>
      let l := Config.ethHeader f.data ++ f.data
      if !p.macsec then ethSend e { f.frame with data := l } (sendFrame q f r.1)
      else match tfind p.txSas p.txAn with
        | none => s
        | some a =>
          if a.nextPn = 2 ^ 64 - 1 then stopEth e s
          else
            let u := useKey a.slot 2 s
            if u.status ≠ stOk then stopEth e u.st
            else
              let t := sendFrame q f (nextFrame e (fun _ => false) u.st).1
              drawPn e p.txAn a (ethSend e { f.frame with data := secured a p.txSci p.txAn u.mat l } t)

/-- A Dalhiuf port sends its next frame on the DATA lane. -/
def serveDl (p : Nat) (s : State) : State :=
  if !memberUp s p || (p < 2 && gated s) || s.lnk.waiting.any (·.1 = p) || !linkReady s p then s
  else
    let r := nextFrame (2 + p) (fun _ => false) s
    match r.2 with
    | none => r.1
    | some (q, f) => toPeer p 5 1 f.data (.packet f.frame) (sendFrame q f r.1)

/-- Firmware takes the next frame of port 7. -/
def serveFw (s : State) : State :=
  let r := nextFrame 7 (fun _ => false) s
  match r.2 with
  | none => r.1
  | some (q, f) =>
    let drops := if s.upd.fw.intakePort ≠ 0 && f.frame.ip.bind (·.udp) = some s.upd.fw.intakePort then f.frame.drops.map (fun x => (2, x)) else []
    withUpd (fun u => { u with intake := u.intake ++ drops }) (withTm (fun t => { t with fwRx := t.fwRx ++ [f.frame] }) (sendFrame q f r.1))

/-- PORT_SERVE: a port that can take a frame. Ports 5 and 6 are served by TH_FRAME_DELIVER and by cell (R354, R502). -/
def portServe (p : Nat) (s : State) : State :=
  if p < 2 then serveEth p s else if p < 5 then serveDl (p - 2) s else if p = 7 then serveFw s else s
def execPortServe (port : Nat) (s : State) : Host.Outcome State Fault Refusal := .next (portServe port s)

/-! Data rings (R501-R505). -/

/-- TH ring r, and FH ring r. -/
def thOf (s : State) (r : Nat) : DataRing := tget {} s.pcie.th r
def fhOf (s : State) (r : Nat) : DataRing := tget {} s.pcie.fh r
def withTh (r : Nat) (f : DataRing → DataRing) (s : State) : State := withPcie (fun p => { p with th := tmod {} p.th r f }) s
def withFh (r : Nat) (f : DataRing → DataRing) (s : State) : State := withPcie (fun p => { p with fh := tmod {} p.fh r f }) s

/-- Entries between HEAD and TAIL: what the host has posted and the part has not used. -/
def ringPosted (x : DataRing) : Nat := (x.tail + 2 ^ x.log2 - x.head) % 2 ^ x.log2

/-- A doorbell within the ring: an entry the host posts again is consumed (R129, R501). -/
def ringTail (value : Nat) (x : DataRing) : DataRing :=
  let y := { x with tail := value }
  let n := min y.unread (2 ^ y.log2 - 1 - ringPosted y)
  { y with unread := n, unsignalled := min y.unsignalled n, noBuffer := y.noBuffer && ringPosted y = 0 }

/-- A finished entry: HEAD, PHASE and the signalling of COAL_COUNT and COAL_TIME (R501, R502, R505). -/
def ringNext (now : Bool) (x : DataRing) : DataRing :=
  let wrap := x.head + 1 = 2 ^ x.log2
  let signal := now || x.coalCount ≤ 1 || x.coalTime = 0 || x.coalCount ≤ x.unsignalled + 1
  { x with
    head := if wrap then 0 else x.head + 1, phase := if wrap then !x.phase else x.phase, unread := x.unread + 1,
    unsignalled := if signal then 0 else x.unsignalled + 1 }

/-- A TAIL of 2^LOG2 or above (R134, R501). -/
def badTail (fh : Bool) (r : Nat) (s : State) : State :=
  let f := fun (x : DataRing) => { x with fetchError := true }
  raise 0x010 (if fh then withFh r f s else withTh r f s)

/-- TH_DOORBELL_WRITE. -/
def thDoorbell (r value : Nat) (s : State) : State :=
  if 31 < r || pfFrozen s 0 then s
  else if 2 ^ (thOf s r).log2 ≤ value % 4096 then badTail false r s
  else
    let was := vecPending s (64 + r)
    settle (64 + r) was true (withTh r (ringTail (value % 4096)) s)
def execThDoorbellWrite (ring value : Nat) (s : State) : Host.Outcome State Fault Refusal := .next (thDoorbell ring value s)

/-- FH_DOORBELL_WRITE. -/
def fhDoorbell (r value : Nat) (s : State) : State :=
  if 31 < r || pfFrozen s 0 then s
  else if 2 ^ (fhOf s r).log2 ≤ value % 4096 then badTail true r s
  else
    let was := vecPending s (96 + r)
    settle (96 + r) was true (withFh r (ringTail (value % 4096)) s)
def execFhDoorbellWrite (ring value : Nat) (s : State) : Host.Outcome State Fault Refusal := .next (fhDoorbell ring value s)

/-- The 32-byte air record: eight little-endian words (R209). -/
def airBytes (r : AirRec) : List Byte :=
  leS 8 r.ts ++ le 4 (r.asn % 2 ^ 32) ++
    le 4 (r.asn / 2 ^ 32 % 2 ^ 8 + r.chain % 4 * 2 ^ 8 + r.lane % 128 * 2 ^ 10 + r.channel % 1024 * 2 ^ 17 + r.phy % 32 * 2 ^ 27) ++
    le 4 (s2n 10 r.rssi + s2n 9 r.snr * 2 ^ 10 + r.lqi % 256 * 2 ^ 19 + b2n r.dir * 2 ^ 27 + b2n r.acked * 2 ^ 28 + b2n r.captured * 2 ^ 29 +
      b2n r.spareLane * 2 ^ 30 + b2n r.falseSync * 2 ^ 31) ++
    le 4 (r.length % 2048 + r.secStatus % 16 * 2 ^ 11 + b2n r.dup * 2 ^ 15 + r.keySlot % 4096 * 2 ^ 16) ++
    le 4 (r.neighbour % 2 ^ 15 + r.cls % 8 * 2 ^ 15 + r.queue % 2 ^ 14 * 2 ^ 18) ++ le 4 (r.buffer % 2 ^ 32)

/-- The part of an entry that the part fills, from byte 12 (R502). -/
def thEntry (f : PktFrame) (cls len : Nat) (first last phase : Bool) : List Byte × Nat × List Byte :=
  let hasRec := first && f.air.isSome
  (le 2 len ++ le 1 f.srcPort, b2n first + 2 * b2n last + 4 * b2n hasRec + 8 * cls + 128 * b2n phase,
    le 8 (if f.air.isSome then 0 else f.ts) ++ zeros 8 ++ (match f.air with
      | some r => if hasRec then airBytes r else zeros 32
      | none => zeros 32))

/-- The buffers a frame of n bytes takes, none where they do not suffice. -/
def takeBufs : Nat → List HostBuf → Option (List HostBuf)
  | _, [] => none
  | n, b :: t => if n ≤ b.len then some [b] else (takeBufs (n - b.len) t).map (b :: ·)

/-- A frame placed in posted buffers, entry by entry. -/
def placeTh (r : Nat) (f : PktFrame) (cls : Nat) : Bool → List Byte → List HostBuf → State → State
  | _, _, [], s => s
  | first, l, b :: t, s =>
    let x := thOf s r
    let d := l.take b.len
    let e := thEntry f cls d.length first t.isEmpty x.phase
    let a := x.base + 64 * x.head
    let s := hostWrite (a + 15) (le 1 e.2.1) (hostWrite (a + 16) e.2.2 (hostWrite (a + 12) e.1 (hostWrite b.addr d s)))
    placeTh r f cls false (l.drop b.len) t (withTh r (ringNext (cls = 0)) s)

/-- No buffer for the frame at the head: NO_BUFFER, and the event once per 1 s (R503). -/
def thNoBuffer (r : Nat) (s : State) : State :=
  let s := withTh r (fun x => { x with noBuffer := true }) s
  if s.pcie.noBufSec = some (rawSec s) then s else raise 0x142 (withPcie (fun p => { p with noBufSec := some (rawSec s) }) s)

/-- What waits for TH ring r: a report, a link message or an EAPOL frame first, else the next frame of its queues; with the state
once it is taken. -/
def thNext (r : Nat) (s : State) : State × Option (PktFrame × Nat × List Byte × State) :=
  match s.pcie.reports.find? (·.1 = r) with
  | some (_, f) => (s, some (f, f.cls, f.data, withPcie (fun p => { p with reports := p.reports.eraseP (·.1 = r) }) s))
  | none =>
    let x := nextFrame 5 (fun q => (queueOf s q).ring ≠ r) s
    match x.2 with
    | none => (x.1, none)
    | some (q, f) =>
      (x.1, some ({ f.frame with air := f.frame.air.map (fun a => { a with cls := f.cls, queue := q }) }, f.cls, f.data, sendFrame q f x.1))

/-- TH_FRAME_DELIVER: bufs are the buffers of the posted entries, from HEAD on (R502-R505). -/
def thDeliver (r : Nat) (bufs : List HostBuf) (s : State) : State :=
  if 31 < r || !(thOf s r).enable || !s.pcie.up || dmaFrozen s r then s
  else
    let n := thNext r s
    match n.2 with
    | none => n.1
    | some (f, cls, data, t) =>
      match takeBufs data.length (bufs.take (ringPosted (thOf s r))) with
      | none => thNoBuffer r n.1
      | some l =>
        let was := vecPending s (64 + r)
        settle (64 + r) was false (placeTh r f cls true data l (withTh r (fun x => { x with noBuffer := false }) t))
def execThFrameDeliver (ring : Nat) (bufs : List HostBuf) (s : State) : Host.Outcome State Fault Refusal := .next (thDeliver ring bufs s)

/-- Fields of an FH entry out of range (R504). -/
def fhBad (s : State) (e : FhEntry) : Bool :=
  !e.fetchOk || e.reserved || e.frame.length < 9 || 9216 < e.frame.length || 4095 < e.queue || 7 < e.cls || 7 < e.secLevel ||
    (isAirQueue s e.queue && 0x8000 ≤ e.neighbour && e.neighbour ≠ 0xFFFF)

/-- The frame of an FH entry enters its queue: the status it ends with (R504). -/
def fhFrame (e : FhEntry) (s : State) : State × Nat :=
  let air := isAirQueue s e.queue
  if fhBad s e then (s, stBadParam)
  else if air && e.secLevel ≠ 0 && !(e.neighbour < 0x8000 && (nbrOf s e.neighbour).valid && keyStatus s (nbrOf s e.neighbour).keySlot 0 = stOk) then
    (s, stKeyGone)
  else match allocBuf e.frame s with
    | none => (s, stNoRoom)
    | some (t, id, _) =>
      let f : QFrame := {
        id := id, buf := id, data := e.frame, cls := e.cls, neighbour := if air then e.neighbour else 0xFFFF, ackReq := air && e.ackReq,
        secLevel := if air then e.secLevel else 0, frame := { data := e.frame, srcPort := 5, cls := e.cls } }
      let r := admitFrame e.queue f 0 t
      if r.2 then (substitute e.queue id r.1, stOk) else (r.1, stNoRoom)

/-- FH_ENTRY_FETCH: the next posted entry of FH ring r (R504). -/
def fhFetch (r : Nat) (e : FhEntry) (s : State) : State :=
  let x := fhOf s r
  if 31 < r || !x.enable || !s.pcie.up || dmaFrozen s r || ringPosted x = 0 then s
  else
    let was := vecPending s (96 + r)
    let t := fhFrame e s
    let s := if e.fetchOk then t.1 else raise 0x010 (withFh r (fun x => { x with fetchError := true }) t.1)
    let s := hostWrite (x.base + 64 * x.head + 32) (le 2 t.2 ++ le 1 (b2n x.phase)) s
    let s := withFh r (fun x => ringNext false (if t.2 = stOk then x else { x with drops := satInc x.drops })) s
    settle (96 + r) was false s
def execFhEntryFetch (ring : Nat) (entry : FhEntry) (s : State) : Host.Outcome State Fault Refusal := .next (fhFetch ring entry s)

/-! PCIe (R500, R513, R520, R532). -/

/-- PCIE_LINK_UP: a link below x4 or 8 GT/s is degraded. -/
def pcieLinkUp (width speed : Nat) (s : State) : State :=
  if s.pcie.held || !(width = 1 || width = 2 || width = 4) || speed = 0 || 3 < speed then s
  else
    let s := withHif (fun h => { h with pcieUp := true }) (withPcie (fun p => { p with width := width, speed := speed, up := true, training := false }) s)
    if width < 4 || speed < 3 then degrade 4 (raise 0x140 s) else undegrade 4 s
def execPcieLinkUp (width speed : Nat) (s : State) : Host.Outcome State Fault Refusal := .next (pcieLinkUp width speed s)

/-- PF1_WRITE_DROP: a PF1 write outside its allowance. -/
def execPf1WriteDrop (_addr : Nat) (s : State) : Host.Outcome State Fault Refusal := .next (pf1Drop s)

/-- PCIE_AER_ERROR: 0 correctable, 1 uncorrectable, 2 completion timeout. -/
def aerError (kind : Nat) (s : State) : State := if 2 < kind then s else raise 0x141 (withPcie (fun p => { p with cnt := bump p.cnt kind }) s)
def execPcieAerError (kind : Nat) (s : State) : Host.Outcome State Fault Refusal := .next (aerError kind s)

/-- PCIE_FLR: the host's reset of the function as a master (R520). -/
def pcieFlr (func : Nat) (s : State) : State :=
  let m := 26 + func
  if 1 < func || !s.fwall.frozen.contains m || s.fwall.ownerReset.contains m then s
  else withFwall (fun f => { f with ownerReset := f.ownerReset ++ [m] }) s
def execPcieFlr (func : Nat) (s : State) : Host.Outcome State Fault Refusal := .next (pcieFlr func s)

end Sys2Proof.Machine
end

