-- ==== Sys2Proof/Machine/Wear.lean ====
section
/-!
DEFINITION. What wears and is replaced: OTP counter banks and flash blocks (R391, R440, R442, R525, R526, R529, R531).
-/
namespace Sys2Proof.Machine

/-- A retirement trigger met (R525, R540). -/
def hlthCnt (i : Nat) (s : State) : State := withHlth (fun h => { h with cnt := bump h.cnt i }) s

/-! OTP counter banks (R529). Counter 0 is the security version, 1 the tamper-clear counter. -/

/-- The banks a counter burns, in order: a spare that serves it, then its own. -/
def counterBanks (s : State) (c : Nat) : List Nat :=
  (s.otp.owner.filter (·.2 = c)).map (·.1) ++ (if c = 0 then List.range 8 else [8, 9])

/-- The bank whose next fuse is burnt. -/
def openBank (s : State) (c : Nat) : Option Nat := (counterBanks s c).find? (fun b => !bit s.otp.dead b && tget 0 s.otp.banks b < 128)

/-- A spare bank that serves no counter and is not dead. -/
def spareBank (s : State) : Option Nat := [10, 11, 12, 13, 14, 15].find? (fun b => (tfind s.otp.owner b).isNone && !bit s.otp.dead b)

/-- A bank whose burn does not read back: dead, and a spare for its counter (R525, R526, R529). -/
def retireBank (b c : Nat) (s : State) : State :=
  let s := hlthCnt 3 (raise 0x15F (withOtp (fun o => { o with dead := setBit o.dead b }) s))
  match spareBank s with
  | some x => withOtp (fun o => { o with owner := tput o.owner x c }) s
  | none => exhausted 6 s

/-- One step of a counter: the fuse burnt and read back, on a spare bank where it fails; n banks may fail. -/
def burnStep (c : Nat) : Nat → State → State
  | 0, s => s
  | n + 1, s =>
    match openBank s c with
    | none => s
    | some b =>
      let ok := Config.burnOk s.free
      let s := tick1 s
      if ok then
        withOtp (fun o => { o with
          banks := tput o.banks b (tget 0 o.banks b + 1), svBurnt := if c = 0 then o.svBurnt + 1 else o.svBurnt,
          clearBurnt := if c = 0 then o.clearBurnt else o.clearBurnt + 1 }) s
      else burnStep c n (retireBank b c s)

/-- The security-version counter advanced to v, one step at a time (R440, R442). -/
def burnTo (v : Nat) (s : State) : State :=
  let s := (List.range (v - s.otp.svBurnt)).foldl (fun s _ => burnStep 0 16 s) s
  withFw (fun f => { f with burnPending := s.otp.svBurnt < v }) s

/-! Flash blocks of 64 KiB (R525, R531). -/

/-- A flash block replaced by a spare: never one of the boot area; true where a spare took over. -/
def remapBlock (b : Nat) (s : State) : State × Bool :=
  let s := hlthCnt 3 s
  if b < 16 then (s, false)
  else if 496 ≤ s.flash.flashRemaps.length then (exhausted 3 s, false)
  else (raise 0x15E (withFlash (fun f => { f with flashRemaps := f.flashRemaps ++ [b] }) s), true)

/-- The flash block that holds byte o of a slot (R509). -/
def slotBlock (slot o : Nat) : Nat := ((if slot = 0 then 1 else 53) * 1048576 + o) / 65536

end Sys2Proof.Machine
end

