-- ==== Sys2Proof/Machine/Upd.lean ====
section
/-!
DEFINITION. Image updates: manifests and drops, own firmware with its journal and boot record, and the node image campaigns
(R427-R456, R509, R510).
-/
namespace Sys2Proof.Machine

/-! Manifests (R427-R429). -/

/-- The k-byte little-endian field at byte o. -/
def fieldAt (k o : Nat) (l : List Byte) : Nat := ofLe ((l.drop o).take k)

/-- Header fields. -/
def mfSegs (m : List Byte) : Nat := fieldAt 1 7 m
def mfSv (m : List Byte) : Nat := fieldAt 4 12 m
def mfVersion (m : List Byte) : Nat := fieldAt 4 16 m
def mfImageLen (m : List Byte) : Nat := fieldAt 4 20 m
def mfDropSize (m : List Byte) : Nat := fieldAt 2 24 m
def mfDrops (m : List Byte) : Nat := fieldAt 4 28 m
def mfHash (m : List Byte) : List Byte := (m.drop 32).take 32
def mfTarget (m : List Byte) : List Byte := (m.drop 64).take 8
def mfExponent (m : List Byte) : Nat := fieldAt 4 72 m
def mfModulus (m : List Byte) : List Byte := (m.drop (128 + 48 * mfSegs m)).take 384

/-- The image tag: bytes 0-7 of SHA-256 over the manifest (R428). -/
def tagOf (m : List Byte) : List Byte := (sha256 m).take 8

/-- SHA-256 of the modulus and the exponent (R428). -/
def signerKey (m : List Byte) : List Byte := sha256 (mfModulus m ++ be 4 (mfExponent m))

/-- The signature over every manifest byte before it (R407, R428). -/
def sigGood (m : List Byte) : Bool :=
  rsaVerify (mfModulus m) (mfExponent m) (sha256 (m.take (m.length - 384))) (m.drop (m.length - 384))

/-- A segment entry: OFFSET, LENGTH, DEST, FLAGS and HASH (R429). -/
def segOf (m : List Byte) (i : Nat) : Nat × Nat × Nat × Nat × List Byte :=
  let e := (m.drop (128 + 48 * i)).take 48
  (fieldAt 4 0 e, fieldAt 4 4 e, fieldAt 4 8 e, fieldAt 4 12 e, e.drop 16)

/-- The segments in ascending OFFSET order, without overlap, covering the image; segment 0 alone INIT and 2 MiB at most (R429). -/
def segsGood (m : List Byte) : Bool :=
  let n := mfSegs m
  (List.range n).all (fun i =>
    let g := segOf m i
    g.1 = (if i = 0 then 0 else (segOf m (i - 1)).1 + (segOf m (i - 1)).2.1) && g.2.2.2.1 = (if i = 0 then 1 else 0) &&
      (i ≠ 0 || g.2.1 ≤ 2097152)) &&
    (segOf m (n - 1)).1 + (segOf m (n - 1)).2.1 = mfImageLen m

/-- MAGIC, FORMAT, KIND, the lengths and the limits of R427. -/
def mfGood (kind : Nat) (m : List Byte) : Bool :=
  128 ≤ m.length && m.length ≤ 3968 && m.take 4 = ascii "ZBMF" && fieldAt 2 4 m = 1 && fieldAt 1 6 m = kind &&
    (if kind = 0 then 1 ≤ mfSegs m && mfSegs m ≤ 64 else mfSegs m = 0) && fieldAt 4 8 m = 128 + 48 * mfSegs m + 768 &&
    m.length = fieldAt 4 8 m && mfImageLen m ≤ (if kind = 0 then 50331648 else 4194304) && 64 ≤ mfDropSize m && mfDropSize m ≤ 1024 &&
    mfDropSize m % 16 = 0 && mfDrops m = cdiv (mfImageLen m) (mfDropSize m) && mfDrops m ≤ (if kind = 0 then 65536 else 4096) &&
    fieldAt 2 26 m = 0 && (m.drop 76).take 52 = zeros 52 && (mfExponent m = 3 || mfExponent m = 65537) && (kind ≠ 0 || segsGood m)

/-- Own firmware names this part (R428). -/
def ownTarget (m : List Byte) : Bool := mfTarget m = ascii "ZB9640" ++ zeros 2

/-! Drops (R430, R431). -/

/-- The bytes of a drop record before its CRC. -/
def dropHead (d : DropRec) : List Byte := d.tag ++ le 4 d.index ++ le 2 d.data.length ++ zeros 2 ++ d.data

/-- A drop record of an image. -/
def dropBytes (d : DropRec) : List Byte := dropHead d ++ le 4 d.crc
def makeDrop (tag : List Byte) (index : Nat) (data : List Byte) : DropRec :=
  let d : DropRec := { tag := tag, index := index, data := data }
  { d with crc := crc32c (dropHead d) }

/-- Bytes of image drop i, and of manifest drop k. -/
def dropLen (total size i : Nat) : Nat := min size (total - i * size)

/-- INDEX beyond the image and the manifest, or LEN wrong for it. -/
def dropMisfit (m : List Byte) (d : DropRec) : Bool :=
  let z := mfDropSize m
  if 0x80000000 ≤ d.index then
    cdiv m.length z ≤ d.index - 0x80000000 || d.data.length ≠ dropLen m.length z (d.index - 0x80000000)
  else mfDrops m ≤ d.index || d.data.length ≠ dropLen (mfImageLen m) z d.index

/-- The outcome of a drop on a flow, ST_OK where it is to be written (R431): opened says that an image is open. -/
def dropCheck (opened : Bool) (m : List Byte) (held : Nat → Bool) (d : DropRec) : Nat :=
  if crc32c (dropHead d) ≠ d.crc then stCheckFail
  else if !opened || d.tag ≠ tagOf m || dropMisfit m d then stBadParam
  else if 0x80000000 ≤ d.index || held d.index then stDuplicate
  else stOk

/-- CNT of an outcome (R453). -/
def countDrop (st : Nat) (s : State) : State :=
  updCnt (if st = stOk then 0 else if st = stDuplicate then 1 else if st = stCheckFail then 2 else 3) s

/-- Bytes of an image held in drops. -/
def imageOf (m : List Byte) (drops : Tbl (List Byte)) : List Byte :=
  (List.range (mfDrops m)).flatMap (fun i => fit (dropLen (mfImageLen m) (mfDropSize m) i) (tget [] drops i))

/-- A bitmap of n bits in bytes, bit i of byte j for 8j + i. -/
def bitmapOf (n : Nat) (held : Nat → Bool) : List Byte :=
  (List.range (cdiv n 8)).map (fun j => BitVec.ofNat 8 (((List.range 8).map (fun i => if held (8 * j + i) then 2 ^ i else 0)).sum))

/-- Bit n of a bitmap; past its end 0. -/
def mapBit (l : List Byte) (n : Nat) : Bool := (nth 0 l (n / 8)).getLsbD (n % 8)

/-! The journal of a slot (R435, R436). -/

/-- A journal entry. -/
def jEntry (kind seq : Nat) (arg : List Byte) : List Byte :=
  let b := le 1 kind ++ zeros 1 ++ le 2 seq ++ fit 8 arg ++ zeros 2
  b ++ le 2 (crcOf 0 (crcInit 0) b)

/-- Entry appended to the journal of a slot; a full half starts the other with OPEN, SNAPSHOT and the bitmap of drops held. -/
def journal (slot kind : Nat) (arg : List Byte) (s : State) : State :=
  let l := tget [] s.flash.journal slot
  let seq := (match l.getLast? with | some e => fieldAt 2 2 e | none => 0) + 1
  let m := bitmapOf (mfDrops s.upd.fw.manifest) (fun i => s.upd.fw.journaled.contains i)
  if l.length < 65536 then updCnt 4 (withFlash (fun f => { f with journal := tput f.journal slot (l ++ [jEntry kind seq arg]) }) s)
  else
    let other := [jEntry 1 seq (tagOf s.upd.fw.manifest), jEntry 8 (seq + 1) (le 4 m.length), m, jEntry kind (seq + 2) arg]
    updCnt 4 (updCnt 4 (updCnt 4 (withFlash (fun f => { f with journal := tput f.journal slot other }) s)))

/-- Runs of consecutive numbers of a sorted list, as first and count. -/
def runsOf : List Nat → List (Nat × Nat)
  | [] => []
  | x :: t => match runsOf t with
    | (a, n) :: r => if a = x + 1 then (x, n + 1) :: r else (x, 1) :: (a, n) :: r
    | [] => [(x, 1)]

/-- Each run of drops made durable and not entered yet goes into one HELD entry. -/
def flushHeld (s : State) : State :=
  let f := s.upd.fw
  let new := isort (fun a b => decide (a ≤ b)) (f.held.filter (fun i => !f.journaled.contains i))
  let s := (runsOf new).foldl (fun s r => journal (targetSlot s) 2 (le 4 r.1 ++ le 4 r.2) s) s
  withFw (fun f => { f with journaled := f.journaled ++ new }) s

/-- A range of drops spoiled: no longer held (R434, R437). -/
def spoil (first count : Nat) (s : State) : State :=
  let out := fun (i : Nat) => first ≤ i && i < first + count
  let s := journal (targetSlot s) 3 (le 4 first ++ le 4 count) (flushHeld s)
  let s := withFw (fun f => { f with held := f.held.filter (!out ·), journaled := f.journaled.filter (!out ·) }) s
  withFlash (fun f => { f with slotImage := tput f.slotImage (targetSlot s) ((tget [] f.slotImage (targetSlot s)).filter (!out ·.1)) }) s

/-- What a replay of journal entries gives: state of FW_STATUS, and the drops held (R436). -/
def replayEntry (r : Nat × List Nat × Bool) (e : List Byte) : Nat × List Nat × Bool :=
  let k := fieldAt 1 0 e
  if r.2.2 then (r.1, ((List.range (8 * e.length)).filter (mapBit e)), false)
  else if k = 1 then (1, [], false)
  else if k = 2 then (r.1, r.2.1 ++ (List.range (fieldAt 4 8 e)).map (fieldAt 4 4 e + ·), false)
  else if k = 3 then (1, r.2.1.filter (fun i => !(fieldAt 4 4 e ≤ i && i < fieldAt 4 4 e + fieldAt 4 8 e)), false)
  else if k = 4 then (3, r.2.1, false)
  else if k = 5 then (4, r.2.1, false)
  else if k = 8 then (r.1, [], true)
  else (0, [], false)

/-- The journal of the target slot replayed at INIT (R436, R437): a part of it that cannot be read leaves the image closed. -/
def fwReplay (readable : Bool) (s : State) : State :=
  if !readable then raise 0x0F2 (withFw (fun f => { f with journalOk := false }) s)
  else
    let r := (tget [] s.flash.journal (targetSlot s)).foldl replayEntry (0, [], false)
    let m := if r.1 = 0 then [] else tget [] s.flash.slotManifest (targetSlot s)
    let full := r.1 = 1 && r.2.1.length = mfDrops m
    withFw (fun f => { f with
      journalOk := true, manifest := m, state := if full then 2 else r.1, held := r.2.1, journaled := r.2.1, acceptMask := 0, intakePort := 0,
      autoVerify := true }) s

/-! Opening an image (R432, R443, R445, R510). -/

/-- ROM or recovery init stage: a recovery image is taken in (R84, R443). -/
def recoveryOpen (s : State) : Bool := s.sys.devState = .fwVerify && s.boot.waitingImage
def recoveryInit (s : State) : Bool := s.sys.devState = .init && s.sys.recovery

/-- Checks 1 to 5 of R432. -/
def fwManifest (s : State) (m : List Byte) : Nat :=
  if !mfGood 0 m || !ownTarget m then stBadParam
  else if signerKey m ≠ Config.otpKeyHash then stSigFail
  else if !sigGood m then stSigFail
  else if mfSv m < s.otp.svBurnt then stRollback
  else if 1023 < mfSv m then stBadParam
  else stOk

/-- Reply of UPD_OPEN. -/
def openReply (n : Nat) (m : List Byte) : List Byte := le 4 n ++ tagOf m

/-- UPD_OPEN of own firmware. -/
def openFw (p : UpdOpenP) (s : State) : Res :=
  let st := fwManifest s p.manifest
  let f := s.upd.fw
  if 1 < p.replace || 7 < p.acceptMask || 1 < p.autoVerify then refuse s stBadParam
  else if st ≠ stOk then refuse s st
  else if recoveryOpen s then
    done (withFw (fun f => { f with state := 1, manifest := p.manifest, ramDrops := [], held := [] }) s) (openReply 0 p.manifest)
  else if s.sys.devState ≠ .run || s.sys.trial then refuse s stBusy
  else if f.state ≠ 0 && f.manifest = p.manifest then done s (openReply f.held.length p.manifest)
  else if f.state ≠ 0 && p.replace ≠ 1 then refuse s stBusy
  else
    let x := targetSlot s
    let s := if f.state ≠ 0 then journal x 7 [] s else s
    let s := withFlash (fun f => { f with slotManifest := tput f.slotManifest x p.manifest, slotImage := tput f.slotImage x [] }) s
    let s := withFw (fun f => { f with
      state := 1, manifest := p.manifest, held := [], journaled := [], pendingDrops := [], acceptMask := p.acceptMask,
      intakePort := p.intakePort, autoVerify := p.autoVerify = 1 }) s
    done (journal x 1 (tagOf p.manifest) s) (openReply 0 p.manifest)

/-- A campaign's image is complete: its hash is checked, READY and the library copy, or every drop discarded (R445, R510). -/
def campCheck (c : Nat) (s : State) : State :=
  let k := campOf s c
  if k.state ≠ 2 || k.drops.length < mfDrops k.manifest then s
  else
    let image := imageOf k.manifest k.drops
    if sha256 image = mfHash k.manifest then
      raiseW 0x0F3 (Config.outcomeWord 0x0F3 stOk c % 2 ^ 32) (withFlash (fun f => { f with
        library := tput f.library c image, libManifest := tput f.libManifest c k.manifest }) (withCamp c (fun k => { k with state := 3 }) s))
    else raiseW 0x0F3 (Config.outcomeWord 0x0F3 stCheckFail c % 2 ^ 32) (withCamp c (fun k => { k with drops := [] }) s)

/-- Drops of an image in bytes. -/
def dropsOf (m image : List Byte) : Tbl (List Byte) :=
  (chunk (mfDropSize m) image).zipIdx.map (fun x => (x.2, x.1))

/-- A library entry with the manifest's tag (R510). -/
def fromLibrary (c : Nat) (m : List Byte) (s : State) : State :=
  match s.flash.libManifest.find? (fun e => tagOf e.2 = tagOf m) with
  | none => s
  | some (i, _) =>
    let image := tget [] s.flash.library i
    if sha256 image = mfHash m then withCamp c (fun k => { k with drops := dropsOf m image }) s
    else withFlash (fun f => { f with library := tdel f.library i, libManifest := tdel f.libManifest i }) s

/-- UPD_OPEN of a campaign image. -/
def openCamp (c : Nat) (p : UpdOpenP) (s : State) : Res :=
  let k := campOf s c
  let m := p.manifest
  if 1 < p.replace then refuse s stBadParam
  else if k.state ≠ 1 then refuse s stBusy
  else if !mfGood 1 m || mfTarget m ≠ k.cfg.nodeModel then refuse s stBadParam
  else if signerKey m ≠ k.cfg.keyHash || !sigGood m then refuse s stSigFail
  else if mfSv m < k.cfg.svFloor then refuse s stRollback
  else
    let s := fromLibrary c m (withCamp c (fun k => { k with state := 2, manifest := m, drops := [] }) s)
    done (campCheck c s) (openReply (campOf s c).drops.length m)

/-- UPD_OPEN. -/
def updOpen (h : Hdr) (p : UpdOpenP) (s : State) : Res :=
  if h.flow = 0 then openFw p s else if s.sys.devState ≠ .run then refuse s stBusy else openCamp (h.flow - 0x100) p s
def execUpdOpen (h : Hdr) (p : UpdOpenP) (s : State) : Host.Outcome State Fault Refusal := agentRun h (.updOpen p) (updOpen h p) s

/-! Receiving drops (R431, R433, R434, R443, R445). -/

/-- A drop of own firmware is checked, and programmed where it is to be written: durable once it reads back. -/
def fwDrop (d : DropRec) (s : State) : State × Nat :=
  let f := s.upd.fw
  let st := dropCheck (f.state ≠ 0) f.manifest (fun i => f.held.contains i || (tfind f.pendingDrops i).isSome) d
  if st ≠ stOk then (countDrop st s, st)
  else (countDrop st (withFw (fun f => { f with pendingDrops := tput f.pendingDrops d.index d.data }) s), st)

/-- A drop of a campaign image. -/
def campDrop (c : Nat) (d : DropRec) (s : State) : State × Nat :=
  let k := campOf s c
  let st := dropCheck (2 ≤ k.state) k.manifest (fun i => (tfind k.drops i).isSome) d
  if st ≠ stOk then (countDrop st s, st)
  else (campCheck c (countDrop st (withCamp c (fun k => { k with drops := tput k.drops d.index d.data }) s)), st)

/-- Every drop of segment i held, and its hash. -/
def segHeld (m : List Byte) (drops : Tbl (List Byte)) (i : Nat) : Bool :=
  let g := segOf m i
  let z := mfDropSize m
  (List.range (mfDrops m)).all (fun d => !(d * z < g.1 + g.2.1 && g.1 < (d + 1) * z) || (tfind drops d).isSome)
def segHashGood (m : List Byte) (drops : Tbl (List Byte)) (i : Nat) : Bool :=
  let g := segOf m i
  sha256 (((imageOf m drops).drop g.1).take g.2.1) = g.2.2.2.2

/-- Drops without those that overlap segment i. -/
def withoutSeg (m : List Byte) (i : Nat) (drops : Tbl (List Byte)) : Tbl (List Byte) :=
  let g := segOf m i
  let z := mfDropSize m
  drops.filter (fun e => !(e.1 * z < g.1 + g.2.1 && g.1 < (e.1 + 1) * z))

/-- A drop of a recovery image: before INIT inside segment 0 only, in INIT the others, each segment checked once it is complete (R443). -/
def recoveryDrop (d : DropRec) (s : State) : State × Nat :=
  let f := s.upd.fw
  let m := f.manifest
  let st := dropCheck (f.state = 1) m (fun i => (tfind f.ramDrops i).isSome) d
  let st := if st = stOk && recoveryOpen s && (segOf m 0).2.1 ≤ d.index * mfDropSize m then stBadParam else st
  if st ≠ stOk then (countDrop st s, st)
  else
    let drops := tput f.ramDrops d.index d.data
    let bad := (List.range (mfSegs m)).filter (fun i => recoveryInit s && segHeld m drops i && !segHashGood m drops i)
    let kept := bad.foldl (fun l i => withoutSeg m i l) drops
    (countDrop st (withFw (fun f => { f with ramDrops := kept, ready := kept.length = mfDrops m }) s), st)

/-- Records one by one: the first status that is not ST_OK, and the bits of the records written. -/
def takeDrops (f : DropRec → State → State × Nat) : Nat → List DropRec → State × Nat × Nat → State × Nat × Nat
  | _, [], r => r
  | n, d :: t, r =>
    let x := f d r.1
    takeDrops f (n + 1) t (x.1, (if r.2.1 = stOk then x.2 else r.2.1), if x.2 = stOk then setBit r.2.2 n else r.2.2)

/-- Reply of UPD_BLOCK. -/
def blockReply (mask held : Nat) : List Byte := le 2 mask ++ le 4 held

/-- UPD_BLOCK of own firmware: the reply waits until every drop written is durable. -/
def blockFw (h : Hdr) (p : UpdBlockP) (s : State) : Res :=
  if s.upd.fw.state = 2 then refuse s stBusy
  else if h.qp = 65 && !bit s.upd.fw.acceptMask 0 then
    { st := withFw (fun f => { f with ignored := f.ignored + p.records.length }) s, status := stBadParam, data := blockReply 0 s.upd.fw.held.length }
  else
    let r := takeDrops fwDrop 0 p.records (s, stOk, 0)
    { st := r.1, status := r.2.1, data := blockReply r.2.2 s.upd.fw.held.length, wait := r.2.2 ≠ 0 }

/-- UPD_BLOCK. -/
def updBlock (h : Hdr) (p : UpdBlockP) (s : State) : Res :=
  if p.records.length = 0 || 15 < p.records.length then refuse s stBadParam
  else if h.flow = 0 && (recoveryOpen s || recoveryInit s) then
    let r := takeDrops recoveryDrop 0 p.records (s, stOk, 0)
    { st := r.1, status := r.2.1, data := blockReply r.2.2 r.1.upd.fw.ramDrops.length }
  else if s.sys.devState ≠ .run then refuse s stBusy
  else if h.flow = 0 then blockFw h p s
  else
    let r := takeDrops (campDrop (h.flow - 0x100)) 0 p.records (s, stOk, 0)
    { st := r.1, status := r.2.1, data := blockReply r.2.2 (campOf r.1 (h.flow - 0x100)).drops.length }
def execUpdBlock (h : Hdr) (p : UpdBlockP) (s : State) : Host.Outcome State Fault Refusal := agentRun h (.updBlock p) (updBlock h p) s

/-- DROP_INTAKE: the oldest drop that came by Dalhiuf (path 1) or as a datagram (path 2). -/
def dropIntake (s : State) : State :=
  match s.upd.intake with
  | [] => s
  | (path, d) :: t =>
    let s := withUpd (fun u => { u with intake := t }) s
    match (if path = 1 then s.upd.camps.find? (fun e => 2 ≤ e.2.state && d.tag = tagOf e.2.manifest) else none) with
    | some (c, _) => (campDrop c d s).1
    | none =>
      if !bit s.upd.fw.acceptMask path then withFw (fun f => { f with ignored := f.ignored + 1 }) s
      else (fwDrop d s).1
def execDropIntake (s : State) : Host.Outcome State Fault Refusal := .next (dropIntake s)

/-- The UPD_BLOCK replies whose drops are all settled (R431). -/
def settleBlocks (bad : Nat) (s : State) : State :=
  let pend := s.upd.fw.pendingDrops
  withHif (fun h => { h with flights := h.flights.map (fun f => match f.cmd with
    | some (.updBlock p) =>
      if !f.waiting || f.hdr.flow ≠ 0 then f
      else
        let mine := p.records.zipIdx.filter (fun r => bit (ofLe (f.data.take 2)) r.2)
        let lost := mine.filter (fun r => r.1.index = bad)
        let mask := lost.foldl (fun m r => clrBit m r.2) (ofLe (f.data.take 2))
        let f := { f with
          status := if lost.isEmpty then f.status else stCheckFail, data := blockReply mask s.upd.fw.held.length }
        if mine.any (fun r => r.1.index ≠ bad && (tfind pend r.1.index).isSome) then f
        else { f with done := true, waiting := false, doneTick := fwTick s }
    | _ => f) }) s

/-- Verification starts: a job, answered by FW_VERIFY_DONE (R437). -/
def startVerify (job : Nat) (s : State) : State := withFw (fun f => { f with state := 2, job := job }) (tick1 s)

/-- A drop durable: held, entered in the journal every 64 drops, and the last one starts the verification (R434, R436, R437). -/
def dropHeld (i : Nat) (data : List Byte) (s : State) : State :=
  let x := targetSlot s
  let s := withFlash (fun f => { f with slotImage := tput f.slotImage x (tput (tget [] f.slotImage x) i data) }) s
  let s := withFw (fun f => { f with held := f.held ++ [i] }) s
  let f := s.upd.fw
  let full := f.held.length = mfDrops f.manifest
  let s := if full || 64 ≤ f.held.length - f.journaled.length then flushHeld s else s
  let s := raiseIf full 0x0F7 s
  if full && f.autoVerify then startVerify 0 s else s

/-- A drop whose rewrite failed too: its flash block is replaced and every drop held in it spoiled (R434). -/
def dropSpoilt (i : Nat) (s : State) : State :=
  let x := targetSlot s
  let z := mfDropSize s.upd.fw.manifest
  let b := slotBlock x (4096 + i * z)
  let inBlock := fun (d : Nat) => slotBlock x (4096 + d * z) = b || slotBlock x (4096 + d * z + z - 1) = b
  let s := (remapBlock b s).1
  raise 0x0F2 ((runsOf (isort (fun a b => decide (a ≤ b)) (s.upd.fw.held.filter inBlock))).foldl (fun s r => spoil r.1 r.2 s) s)

/-- DROP_DURABLE: a programmed drop is read back. -/
def dropDurable (i : Nat) (readBackOk rewriteOk : Bool) (s : State) : State :=
  match tfind s.upd.fw.pendingDrops i with
  | none => s
  | some data =>
    let s := withFw (fun f => { f with pendingDrops := tdel f.pendingDrops i }) s
    if readBackOk || rewriteOk then settleBlocks 0xFFFFFFFF (dropHeld i data s) else settleBlocks i (dropSpoilt i s)
def execDropDurable (index : Nat) (readBackOk rewriteOk : Bool) (s : State) : Host.Outcome State Fault Refusal :=
  .next (dropDurable index readBackOk rewriteOk s)

/-- JOURNAL_HELD_FLUSH. -/
def execJournalHeldFlush (s : State) : Host.Outcome State Fault Refusal :=
  .next (if s.upd.fw.held.length = s.upd.fw.journaled.length then s else flushHeld s)

/-- UPD_STATUS (R456). -/
def updStatus (h : Hdr) (p : UpdStatusP) (s : State) : Res :=
  let clear := fun (s : State) => if p.clear = 1 then withUpd (fun u => { u with cnt := [] }) s else s
  if 1 < p.clear then refuse s stBadParam
  else if h.flow = 0 then
    let f := s.upd.fw
    done (clear (toHost p.bufferAddr (bitmapOf (mfDrops f.manifest) f.held.contains) s))
      (le 1 (fwStatusWord s) ++ zeros 3 ++ le 4 f.held.length ++ le 4 (mfDrops f.manifest) ++ le 4 (mfSv f.manifest) ++ le 4 s.otp.svBurnt ++
        le 4 f.imageVersion)
  else
    let k := campOf s (h.flow - 0x100)
    let missing := fun (i : Nat) => (k.members.filter (fun m => m.2.state = 0 && !mapBit m.2.bitmap i)).length
    done (clear (toHost p.bufferAddr ((List.range 4096).flatMap (fun i => le 4 (missing i))) s))
      (le 1 k.state ++ le 1 k.round ++ zeros 2 ++ le 4 k.members.length ++ le 4 (membersIn k 0) ++ le 4 (membersIn k 1) ++
        le 4 (membersIn k 2 + membersIn k 3) ++ le 4 (membersIn k 4))
def execUpdStatus (h : Hdr) (p : UpdStatusP) (s : State) : Host.Outcome State Fault Refusal := agentRun h (.updStatus p) (updStatus h p) s

/-- UPD_VERIFY: refused while drops are missing (R437). -/
def updVerify (_h : Hdr) (_p : UpdVerifyP) (s : State) : Res :=
  let f := s.upd.fw
  if f.state = 0 || f.state = 2 || f.held.length < mfDrops f.manifest then refuse s stBusy
  else { st := startVerify (freshJob s) s, status := stPending, info := freshJob s }
def execUpdVerify (h : Hdr) (p : UpdVerifyP) (s : State) : Host.Outcome State Fault Refusal := agentRun h (.updVerify p) (updVerify h p) s

/-- FW_VERIFY_DONE: failedSegment and imageOk are what the flash read shows beside what it holds (R437). -/
def fwVerifyDone (failed : Option Nat) (imageOk : Bool) (s : State) : State :=
  let f := s.upd.fw
  if f.state ≠ 2 then s
  else
    let m := f.manifest
    let drops := tget [] s.flash.slotImage (targetSlot s)
    let bad := (List.range (mfSegs m)).filter (fun i => failed = some i || !segHashGood m drops i)
    match bad.head? with
    | some i =>
      let z := mfDropSize m
      let s := bad.foldl (fun s b =>
        let g := segOf m b
        if g.2.1 = 0 then s else spoil (g.1 / z) ((g.1 + g.2.1 - 1) / z + 1 - g.1 / z) s) s
      raiseW 0x0F0 (Config.outcomeWord 0x0F0 stCheckFail i % 2 ^ 32) (withFw (fun f => { f with state := 1 }) s)
    | none =>
      if imageOk && sha256 (imageOf m drops) = mfHash m then
        raiseW 0x0F0 (Config.outcomeWord 0x0F0 stOk 0 % 2 ^ 32) (journal (targetSlot s) 4 [] (withFw (fun f => { f with state := 3 }) s))
      else raiseW 0x0F0 (Config.outcomeWord 0x0F0 stCheckFail (mfSegs m) % 2 ^ 32) (withFw (fun f => { f with state := 1 }) s)
def execFwVerifyDone (failedSegment : Option Nat) (imageOk : Bool) (s : State) : Host.Outcome State Fault Refusal :=
  .next (fwVerifyDone failedSegment imageOk s)

/-! Boot record, trial, commit and revert (R438-R443). -/

/-- A boot record written over the older copy. -/
def writeBoot (f : BootRec → BootRec) (s : State) : State :=
  withFlash (fun x => { x with bootRec := { f x.bootRec with valid := true, seq := (x.bootRec.seq + 1) % 2 ^ 32 } }) s

/-- Reply of UPD_ACTIVATE. -/
def activateReply (s : State) : List Byte := le 4 s.flash.bootRec.seq ++ le 2 s.otp.svBurnt

/-- Op 0: the verified slot on trial. -/
def trialSlot (p : UpdActivateP) (s : State) : Res :=
  let m := s.upd.fw.manifest
  if s.upd.fw.state ≠ 3 && s.upd.fw.state ≠ 4 then refuse s stBusy
  else
    let s := writeBoot (fun b => { b with preferred := targetSlot s, trial := true, trialSv := mfSv m, trialTag := tagOf m }) s
    let s := journal (targetSlot s) 5 [] (withFw (fun f => { f with state := 4, commitAfterS := p.commitAfterS }) s)
    done (if p.restart = 1 then withSys (fun x => { x with resetNext := some .warm }) s else s) (activateReply s)

/-- The three steps of a commit (R440). -/
def commitSlot (s : State) : State :=
  let s := writeBoot (fun b => { b with trial := false, committed := s.sys.bootSlot }) s
  let s := burnTo s.flash.bootRec.trialSv (withSys (fun x => { x with trial := false }) s)
  journal s.sys.bootSlot 6 [] s

/-- Op 0 on a recovery image: steps 7 and 8 of R76 on segment 0, and INIT (R84, R443). -/
def startRecovery (h : Hdr) (s : State) : Res :=
  let f := s.upd.fw
  let m := f.manifest
  if f.state ≠ 1 || !segHeld m f.ramDrops 0 then refuse s stBusy
  else if mfSv m < s.otp.svBurnt || !segHashGood m f.ramDrops 0 then
    { st := withFw (fun f => { f with ramDrops := withoutSeg m 0 f.ramDrops }) s, status := stBusy }
  else
    let s := withFw (fun f => { f with
      imageVersion := mfVersion m, runTag := tagOf m, runSv := mfSv m, runManifest := m, ready := f.ramDrops.length = mfDrops m }) s
    let s := withBoot (fun b => { b with step := 9, waitingImage := false, bootSource := if h.qp = 64 then 1 else 2 }) s
    done (withSys (fun x => { x with devState := .init, recovery := true, bootSlot := 0, trial := false }) s) (activateReply s)

/-- UPD_ACTIVATE. -/
def updActivate (h : Hdr) (p : UpdActivateP) (s : State) : Res :=
  if 2 < p.op || 1 < p.restart then refuse s stBadParam
  else if recoveryOpen s then (if p.op = 0 then startRecovery h s else refuse s stBusy)
  else if s.sys.devState ≠ .run then refuse s stBusy
  else if p.op = 0 then trialSlot p s
  else if !s.sys.trial then refuse s stBusy
  else if p.op = 1 then let s := commitSlot s; done s (activateReply s)
  else
    let s := writeBoot (fun b => { b with preferred := b.committed, trial := false }) s
    done (withSys (fun x => { x with resetNext := some .warm }) s) (activateReply s)
def execUpdActivate (h : Hdr) (p : UpdActivateP) (s : State) : Host.Outcome State Fault Refusal := agentRun h (.updActivate p) (updActivate h p) s

/-- AUTO_COMMIT_TIMER: the trial slot ran commit_after_s in RUN without EV_DEGRADED (R441). -/
def autoCommit (s : State) : State :=
  if s.sys.devState ≠ .run || !s.sys.trial || s.upd.fw.commitAfterS = 0 || s.hlth.degraded ≠ 0 then s else commitSlot s
def execAutoCommitTimer (s : State) : Host.Outcome State Fault Refusal := .next (autoCommit s)

end Sys2Proof.Machine
end

