-- ==== Sys2Proof/Machine/Camp.lean ====
section
/-!
DEFINITION. Node image campaigns: members and reports, multicast windows and rounds, repair and completion (R444-R452).
-/
namespace Sys2Proof.Machine

/-! Frames of a campaign in the AIR queues (R448, R450). -/

/-- Frames not bound that satisfy p leave queue q without having been sent. -/
def withdraw (q : Nat) (p : QFrame → Bool) (s : State) : State :=
  let out := (queueOf s q).frames.filter (fun f => p f && !f.bound)
  let s := withQueue q (fun x => { x with frames := x.frames.filter (fun f => !(p f && !f.bound)) }) s
  offerQueue q (out.foldl (fun s f => freeBuf f.buf s) s)

/-- A multicast frame of campaign c, and a repair frame of it. -/
def isMulticast (c : Nat) (f : QFrame) : Bool := f.camp = some (c, none)
def isRepair (c : Nat) (f : QFrame) : Bool := match f.camp with | some (x, some _) => x = c | _ => false
def isRepairOf (c m : Nat) (f : QFrame) : Bool := f.camp = some (c, some m)

/-- Drops of the manifest, and INDEX and data of drop k of a round: the manifest drops, then the image drops. -/
def manifestDrops (k : CampSt) : Nat := cdiv k.manifest.length (mfDropSize k.manifest)
def roundDrop (k : CampSt) (p : Nat) : DropRec :=
  let z := mfDropSize k.manifest
  let n := manifestDrops k
  if p < n then makeDrop (tagOf k.manifest) (0x80000000 + p) ((k.manifest.drop (p * z)).take z)
  else makeDrop (tagOf k.manifest) (p - n) (tget [] k.drops (p - n))

/-- Where a drop stands in a round. -/
def roundPlace (k : CampSt) (index : Nat) : Nat := if 0x80000000 ≤ index then index - 0x80000000 else manifestDrops k + index

/-- PENDING members that lack a drop, and that lack the manifest (R449). -/
def missingDrop (k : CampSt) (i : Nat) : Nat := (k.members.filter (fun m => m.2.state = 0 && !mapBit m.2.bitmap i)).length
def missingManifest (k : CampSt) : Nat := (k.members.filter (fun m => m.2.state = 0 && !m.2.manifestHeld)).length

/-- The drop at place p belongs to the round (R449). -/
def inRound (k : CampSt) (p : Nat) : Bool :=
  k.round = 1 || k.cfg.mcMinMissing ≤ (if p < manifestDrops k then missingManifest k else missingDrop k (p - manifestDrops k))

/-- Places of a round, and the next one to send. -/
def roundEnd (k : CampSt) : Nat := manifestDrops k + mfDrops k.manifest
def nextPlace (k : CampSt) : Option Nat := (List.range (roundEnd k)).find? (fun p => k.position ≤ p && inRound k p)

/-- The IPv6 header of a datagram to an address and port. -/
def datagramIp (addr port : Nat) : IpHdr := { dstHi := addr / 2 ^ 64, dstLo := addr % 2 ^ 64, udp := some port }

/-- A drop frame on its way to a queue; none where no cell is free or the queue would refuse it. -/
def putDrop (q : Nat) (d : DropRec) (addr port : Nat) (x : QFrame) (s : State) : Option State :=
  let data := Config.datagram addr port (dropBytes d)
  match allocBuf data s with
  | none => none
  | some (t, id, _) =>
    let f := { x with id := id, buf := id, data := data, frame := { data := data, ip := some (datagramIp addr port), srcPort := 7, drops := [d] } }
    if admission t q f 0 ≠ 0 then none else some (admitFrame q f 0 t).1

/-- The window's frames: mc_queue filled up to fill_frames in round order (R448). -/
def fillWindow (c : Nat) : Nat → State → State
  | 0, s => s
  | n + 1, s =>
    let k := campOf s c
    let q := k.cfg.mcQueue
    if k.cfg.fillFrames ≤ ((queueOf s q).frames.filter (isMulticast c)).length then s
    else match nextPlace k with
      | none => withCamp c (fun k => { k with position := roundEnd k }) s
      | some p =>
        let x : QFrame := { cls := (queueOf s q).cls, secLevel := k.cfg.mcSecLevel, keySlot := some k.cfg.mcKeySlot, camp := some (c, none) }
        match putDrop q (roundDrop k p) k.cfg.mcGroup k.cfg.udpPort x s with
        | none => s
        | some t => fillWindow c n (withCamp c (fun k => { k with position := p + 1, roundSent := k.roundSent + 1 }) t)

/-- Multicast frames not bound leave mc_queue; the round goes on from the first of them (R448, R449). -/
def takeBackRound (c : Nat) (s : State) : State :=
  let k := campOf s c
  let out := (queueOf s k.cfg.mcQueue).frames.filter (fun f => isMulticast c f && !f.bound)
  let place := (out.flatMap (fun f => f.frame.drops.map (fun d => roundPlace k d.index))).foldl min k.position
  withdraw k.cfg.mcQueue (isMulticast c) (withCamp c (fun k => { k with position := place, roundSent := k.roundSent - out.length }) s)

/-- A round whose last drop has been sent: EV_UPD_ROUND_END, and the wait for reports (R449). -/
def endRound (c : Nat) (s : State) : State :=
  let k := campOf s c
  if k.waitingReports || (nextPlace k).isSome || (queueOf s k.cfg.mcQueue).frames.any (isMulticast c) then s
  else raise 0x0F4 (withCamp c (fun k => { k with waitingReports := true }) s)

/-! Repair (R450, R451). -/

/-- EV_UPD_MEMBER_FAIL, at most once per second for each campaign. -/
def memberFail (c : Nat) (s : State) : State :=
  if (campOf s c).lastFailS = some (rawSec s) then s else raise 0x0F5 (withCamp c (fun k => { k with lastFailS := some (rawSec s) }) s)

/-- A member's change, carried by the next delta record (R452). -/
def putMember (c i : Nat) (m : MemberSt) (s : State) : State :=
  let old := (tget {} (campOf s c).members i).bitmap
  let changed := (List.range m.bitmap.length).filterMap (fun j => if nth 0 m.bitmap j = nth 0 old j then none else some (j, nth 0 m.bitmap j))
  noteDelta (fun d => { d with camps := d.camps ++ [(c, i, m.state, changed)] }) (withCamp c (fun k => { k with members := tput k.members i m }) s)

/-- A member's visit ends: what is not bound of it leaves the queue. -/
def endVisit (c i : Nat) (s : State) : State :=
  withdraw (campOf s c).cfg.repairQueue (isRepairOf c i) (withCamp c (fun k => { k with members := tmod {} k.members i (fun m => { m with visiting := false }) }) s)

/-- A pass of a member is over: FAILED after repair_passes of them. -/
def passDone (c i : Nat) (s : State) : State :=
  let k := campOf s c
  let m := tget {} k.members i
  let m := { m with pass := m.pass + 1, nextDrop := 0 }
  if m.state = 0 && k.cfg.repairPasses ≤ m.pass then memberFail c (putMember c i { m with state := 4 } s)
  else withCamp c (fun k => { k with members := tput k.members i m }) s

/-- Places a visit of a member sends: the manifest where it lacks it, then the image drops it lacks. -/
def visitPlace (k : CampSt) (m : MemberSt) : Option Nat :=
  (List.range (roundEnd k)).find? (fun p => m.nextDrop ≤ p && (if p < manifestDrops k then !m.manifestHeld else !mapBit m.bitmap (p - manifestDrops k)))

/-- Steps 2 to 4 of R27 for a repair datagram: the next-hop neighbour, its class and its meter; none where the address misses. -/
def repairRoute (addr port : Nat) (s : State) : State × Option (Nat × Nat × Nat) :=
  let r := trieLookup (addr / 2 ^ 64) s
  match r.2 with
  | none => (r.1, none)
  | some p =>
    if p.action ≠ 0 then (r.1, none)
    else
      let k := iidKey (addr % 2 ^ 64) p.panId
      let a := nodeLookup k.1 k.2.1 k.2.2 r.1
      match a.2 with
      | none => (a.1, none)
      | some (w, e) =>
        if !e.nhValid then (a.1, none)
        else
          let b := nbrLookup e.nextHop (nodeHit w a.1)
          let cls := classOf b.1 (tget 0 b.1.tm.profiles (e.tmProfile % 4096)) { ip := some (datagramIp addr port) }
          (b.1, b.2.map (fun _ => (e.nextHop, cls, e.tmProfile)))

/-- The repair frames of a member under its visit: at most repair_inflight outstanding. -/
def fillVisit (c i : Nat) : Nat → State → State
  | 0, s => s
  | n + 1, s =>
    let k := campOf s c
    let m := tget {} k.members i
    let q := k.cfg.repairQueue
    if k.cfg.repairInflight ≤ ((queueOf s q).frames.filter (isRepairOf c i)).length then s
    else match visitPlace k m with
      | none => s
      | some p =>
        let r := repairRoute m.address k.cfg.udpPort s
        match r.2 with
        | none => passDone c i (endVisit c i (withCamp c (fun k => { k with skipped := k.skipped + 1 }) r.1))
        | some (nbr, cls, _) =>
          let x : QFrame := {
            cls := cls, neighbour := nbr, ackReq := Config.downAck nbr, secLevel := Config.downLevel nbr % 8, camp := some (c, some i) }
          match putDrop q (roundDrop k p) m.address k.cfg.udpPort x r.1 with
          | none => r.1
          | some t => fillVisit c i n (withCamp c (fun k => { k with members := tput k.members i { m with nextDrop := p + 1 } }) t)

/-- A visit opens to a PENDING member of the pass, in index order, where fewer than repair_parallel are visited. -/
def openVisits (c : Nat) (s : State) : State :=
  let k := campOf s c
  let open' := (k.members.filter (·.2.visiting)).length
  let next := ((k.members.filter (fun m => m.2.state = 0 && !m.2.visiting && m.2.pass ≤ k.pass)).take (k.cfg.repairParallel - open')).map (·.1)
  let k := { k with members := k.members.map (fun m => if next.contains m.1 then (m.1, { m.2 with visiting := true, nextDrop := 0 }) else m) }
  let passEnds := k.members.all (fun m => m.2.state ≠ 0 || (!m.2.visiting && k.pass < m.2.pass))
  withCamp c (fun _ => if passEnds && membersIn k 0 ≠ 0 then { k with pass := k.pass + 1 } else k) s

/-- A campaign served: its window filled and its round ended, or its repair visits opened and filled. A standby enqueues nothing, nor
does a frozen DRIZZLE (R448-R450, R452, R520). -/
def serveCamp (c : Nat) (s : State) : State :=
  let k := campOf s c
  if isStandby s || s.fwall.frozen.contains 32 then s
  else if k.state = 4 && !k.waitingReports then endRound c (if k.inWindow then fillWindow c 64 s else s)
  else if k.state = 5 then
    let s := openVisits c s
    ((campOf s c).members.filter (·.2.visiting)).foldl (fun s m => fillVisit c m.1 16 s) s
  else s

/-- Every campaign, at a boundary. -/
def serveCamps (s : State) : State := s.upd.camps.foldl (fun s e => serveCamp e.1 s) s

/-! States (R444). -/

/-- A campaign in MULTICAST or REPAIR pauses: its unbound frames leave both queues (R444, R451, R520, R523). -/
def pauseCamp (c : Nat) (s : State) : State :=
  let k := campOf s c
  if k.state ≠ 4 && k.state ≠ 5 then s
  else
    let s := withdraw k.cfg.repairQueue (isRepair c) (takeBackRound c s)
    withCamp c (fun k => { k with
      state := 6, pausedFrom := k.state, inWindow := false,
      members := k.members.map (fun m => (m.1, { m.2 with visiting := false, nextDrop := 0 })) }) s

/-- Cancel: the image area and the members are free (R444). -/
def cancelCamp (c : Nat) (s : State) : State :=
  let k := campOf s c
  let s := withdraw k.cfg.repairQueue (isRepair c) (withdraw k.cfg.mcQueue (isMulticast c) s)
  withCamp c (fun _ => {}) s

/-- REPAIR entered: its first pass (R449, R450). -/
def startRepair (c : Nat) (s : State) : State :=
  serveCamp c (withCamp c (fun k => { k with
    state := 5, inWindow := false, waitingReports := false, pass := 0,
    members := k.members.map (fun m => (m.1, { m.2 with visiting := false, pass := 0, nextDrop := 0 })) }) s)

/-! Members and reports (R446, R447). -/

/-- Some campaign has a member of this index. -/
def memberTaken (s : State) (i : Nat) : Bool := s.upd.camps.any (fun e => (tfind e.2.members i).isSome)

/-- Op 0 of UPD_CAMPAIGN_CFG. -/
def campCfgOk (s : State) (g : CampCfg) : Bool :=
  g.keyHash.length = 32 && g.nodeModel.length = 8 && isAirQueue s g.mcQueue && isAirQueue s g.repairQueue && g.mcSecLevel ≤ 7 &&
    g.mcKeySlot < 4096 && g.windowAsn < 2 ^ 40 && 1 ≤ g.windowLen && g.windowLen ≤ 65535 && g.windowLen ≤ g.windowPeriod && 1 ≤ g.fillFrames &&
    g.fillFrames ≤ 64 && 1 ≤ g.maxRounds && g.maxRounds ≤ 16 && 1 ≤ g.mcMinMissing && g.mcMinMissing ≤ 262144 && 10 ≤ g.reportWaitS &&
    1 ≤ g.repairPasses && g.repairPasses ≤ 16 && 1 ≤ g.repairParallel && g.repairParallel ≤ 4096 && 1 ≤ g.repairInflight &&
    g.repairInflight ≤ 16 && g.reportWaitS ≤ 86400

/-- Members added, with their bitmaps cleared (R446, R451). -/
def addMembers (c : Nat) (l : List MemberRef) (s : State) : Res :=
  let k := campOf s c
  if k.state = 0 then refuse s stBusy
  else if l.any (fun m => 262144 ≤ m.member || 2 ^ 128 ≤ m.address) then refuse s stBadParam
  else if l.any (fun m => memberTaken s m.member) || (l.map (·.member)).eraseDups.length ≠ l.length then refuse s stDuplicate
  else
    let s := withCamp c (fun k => { k with
      members := l.foldl (fun t m => tput t m.member { address := m.address, bitmap := zeros 512, pass := k.pass }) k.members }) s
    let s := if k.state = 7 && l ≠ [] then withCamp c (fun k => { k with state := 5, pass := 0, members := k.members.map (fun m => (m.1, { m.2 with pass := 0 })) }) s else s
    done s (le 4 (campOf s c).members.length)

/-- Members removed: their unbound drop frames leave the queues (R446). -/
def removeMembers (c : Nat) (l : List MemberRef) (s : State) : Res :=
  let k := campOf s c
  if k.state = 0 then refuse s stBusy
  else if l.any (fun m => (tfind k.members m.member).isNone) then refuse s stBadParam
  else
    let s := l.foldl (fun s m => withdraw k.cfg.repairQueue (isRepairOf c m.member) s) s
    let s := withCamp c (fun k => { k with members := l.foldl (fun t m => tdel t m.member) k.members }) s
    done s (le 4 (campOf s c).members.length)

/-- UPD_CAMPAIGN_CFG. -/
def updCampaignCfg (h : Hdr) (p : UpdCampaignCfgP) (s : State) : Res :=
  let c := h.flow - 0x100
  if 2 < p.op then refuse s stBadParam
  else if p.op = 1 then addMembers c p.members s
  else if p.op = 2 then removeMembers c p.members s
  else if 1 < (campOf s c).state then refuse s stBusy
  else if !campCfgOk s p.cfg then refuse s stBadParam
  else if p.cfg.mcSecLevel ≠ 0 && keyStatus s p.cfg.mcKeySlot 0 ≠ stOk then refuse s stKeyGone
  else done (withCamp c (fun k => { k with state := 1, cfg := p.cfg }) s)
def execUpdCampaignCfg (h : Hdr) (p : UpdCampaignCfgP) (s : State) : Host.Outcome State Fault Refusal :=
  agentRun h (.updCampaignCfg p) (updCampaignCfg h p) s

/-- A report within its ranges (R447). -/
def reportOk (r : NodeReport) : Bool := r.tag.length = 8 && r.kind ≤ 3 && !r.reserved && r.offset + r.slice.length ≤ 512 && r.offset ≤ 511

/-- The bitmap with a slice ORed in. -/
def orSlice (r : NodeReport) (b : List Byte) : List Byte :=
  (fit 512 b).zipIdx.map (fun x => if r.offset ≤ x.2 then x.1 ||| nth 0 r.slice (x.2 - r.offset) else x.1)

/-- A member after a report: never a bit cleared, and NODE_OK, INSTALLED and FAILED left only as R447 says. -/
def applyReport (k : CampSt) (r : NodeReport) (m : MemberSt) : MemberSt :=
  let b := orSlice r m.bitmap
  let held := m.manifestHeld || r.manifestHeld
  let all := held && (List.range (mfDrops k.manifest)).all (mapBit b)
  let st := if m.state = 3 || m.state = 4 then m.state
    else if r.kind = 2 then 3 else if r.kind = 3 then 4 else if r.kind = 1 || m.state = 2 then 2
    else if all then 1 else m.state
  { m with bitmap := b, manifestHeld := held, state := st }

/-- A report for member i of campaign c; a visit it completes ends (R447, R450). -/
def report (c i : Nat) (r : NodeReport) (s : State) : State :=
  let k := campOf s c
  let m := applyReport k r (tget {} k.members i)
  let s := updCnt 5 (putMember c i m s)
  if m.visiting && m.state ≠ 0 then endVisit c i s else s

/-- The member a report comes from: the campaign's with its TAG, accepted from READY to DONE. -/
def reporter (k : CampSt) (addr : Nat) (r : NodeReport) : Option Nat :=
  if k.state < 3 || !reportOk r || r.tag ≠ tagOf k.manifest then none else (k.members.find? (·.2.address = addr)).map (·.1)

/-- NODE_REPORT_RX. -/
def nodeReport (addr : Nat) (r : NodeReport) (s : State) : State :=
  match s.upd.camps.findSome? (fun e => (reporter e.2 addr r).map (fun i => (e.1, i))) with
  | some (c, i) => report c i r s
  | none => updCnt 6 s
def execNodeReportRx (source : Nat) (r : NodeReport) (s : State) : Host.Outcome State Fault Refusal := .next (nodeReport source r s)

/-- UPD_CAMPAIGN_CTRL. -/
def updCampaignCtrl (h : Hdr) (p : UpdCampaignCtrlP) (s : State) : Res :=
  let c := h.flow - 0x100
  let k := campOf s c
  if 5 < p.op then refuse s stBadParam
  else if s.fwall.frozen.contains 32 && (p.op = 0 || p.op = 2) then refuse s stFrozen
  else if p.op = 0 then
    if k.state ≠ 3 then refuse s stBusy
    else done (withCamp c (fun k => { k with state := 4, round := 1, position := 0, roundSent := 0, waitingReports := false }) s)
  else if p.op = 1 then (if k.state = 4 || k.state = 5 then done (pauseCamp c s) else refuse s stBusy)
  else if p.op = 2 then (if k.state = 6 then done (withCamp c (fun k => { k with state := k.pausedFrom }) s) else refuse s stBusy)
  else if p.op = 3 then done (cancelCamp c s)
  else if p.op = 4 then
    if k.state < 3 then refuse s stBusy
    else match reporter k p.address p.report with
      | some i => done (report c i p.report s)
      | none => { st := updCnt 6 s, status := stBadParam }
  else match tfind k.members p.member with
    | none => refuse s stBadParam
    | some m => done (toHost p.bufferAddr (fit 512 m.bitmap) s)
        (le 1 m.state ++ zeros 3 ++ le 4 ((List.range (mfDrops k.manifest)).filter (mapBit m.bitmap)).length)
def execUpdCampaignCtrl (h : Hdr) (p : UpdCampaignCtrlP) (s : State) : Host.Outcome State Fault Refusal :=
  agentRun h (.updCampaignCtrl p) (updCampaignCtrl h p) s

/-! Windows and waits (R448-R451). -/

/-- The current ASN lies in a window of the campaign. -/
def windowNow (s : State) (g : CampCfg) : Bool :=
  let d := (s.slot.asn + 2 ^ 40 - g.windowAsn) % 2 ^ 40
  d < 2 ^ 39 && d % max 1 g.windowPeriod < g.windowLen

/-- CAMPAIGN_WINDOW_START. -/
def windowStart (c : Nat) (s : State) : State :=
  let k := campOf s c
  if k.state ≠ 4 || !windowNow s k.cfg then s else serveCamp c (withCamp c (fun k => { k with inWindow := true }) s)
def execCampaignWindowStart (c : Nat) (s : State) : Host.Outcome State Fault Refusal := .next (windowStart c s)

/-- CAMPAIGN_WINDOW_END: the window's last slot. -/
def windowEnd (c : Nat) (s : State) : State :=
  if !(campOf s c).inWindow then s else takeBackRound c (withCamp c (fun k => { k with inWindow := false }) s)
def execCampaignWindowEnd (c : Nat) (s : State) : Host.Outcome State Fault Refusal := .next (windowEnd c s)

/-- REPORT_WAIT_EXPIRY: the next round, or REPAIR where it would send nothing or max_rounds has ended (R449). -/
def reportWait (c : Nat) (s : State) : State :=
  let k := campOf s c
  if k.state ≠ 4 || !k.waitingReports then s
  else
    let k := { k with round := k.round + 1, position := 0, roundSent := 0, waitingReports := false }
    if k.cfg.maxRounds < k.round || (nextPlace k).isNone then startRepair c s else serveCamp c (withCamp c (fun _ => k) s)
def execReportWaitExpiry (c : Nat) (s : State) : Host.Outcome State Fault Refusal := .next (reportWait c s)

/-- REPAIR_VISIT_TIMEOUT: report_wait_s after what a visit sends has been sent (R450). -/
def visitTimeout (c i : Nat) (s : State) : State :=
  let k := campOf s c
  if k.state ≠ 5 || !(tget {} k.members i).visiting then s else serveCamp c (passDone c i (endVisit c i s))
def execRepairVisitTimeout (c member : Nat) (s : State) : Host.Outcome State Fault Refusal := .next (visitTimeout c member s)

/-- CAMPAIGN_DONE_WAIT_EXPIRY (R451). -/
def doneWait (c : Nat) (s : State) : State :=
  let k := campOf s c
  if k.state ≠ 5 || membersIn k 0 ≠ 0 then s else raise 0x0F6 (withCamp c (fun k => { k with state := 7 }) s)
def execCampaignDoneWaitExpiry (c : Nat) (s : State) : Host.Outcome State Fault Refusal := .next (doneWait c s)

end Sys2Proof.Machine
end

