-- ==== Sys2Proof/Machine/Boundary.lean ====
section
/-!
DEFINITION. Loop-backs, self-tests and test patterns, the TAP, queue flushes, and the slot boundary as a whole (R242-R244, R448, R471, R477,
R491, R492, R543-R558).
-/
namespace Sys2Proof.Machine

/-! The radio side of a test (R545-R547, R553). -/

/-- Frames of a test in its duration: air time and 100 us gaps. -/
def testFrames (air durationUs : Nat) : Nat := (durationUs + 100) / (max 1 air + 100)

/-- The plan under which a test transmission passes its checks: the slot's, or none. -/
def testPlan (s : State) : Plan :=
  match s.slot.plan with
  | some p => if p.asn = s.slot.asn then p else { asn := s.slot.asn, dist := (List.range 4).flatMap (blankRow s) }
  | none => { asn := s.slot.asn, dist := (List.range 4).flatMap (blankRow s) }

/-- One test transmission after the other passes the checks of R303 and takes its place, or ends the test with the check's status. -/
def placeTests (r : TestRun) (carrier air gap : Nat) (bytes : List Byte) : Nat → Nat → Plan → State → State
  | 0, _, _, s => s
  | n + 1, t, pl, s =>
    let e := onChain s pl r.target carrier {
        kind := 5, channel := r.channel, phy := r.phy, tUs := t, eUs := t + air, power := r.power, psdu := bytes.length + 2 }
    let q := precommit pl e false false s
    if q.2 ≠ 0 then raise 0x16C (endTest (if q.2 = 1 then stBusy else if q.2 = 2 then stBlanked else stBudget) q.1)
    else
      let s := withChain r.target (fun k => { k with txs := queueTx { entry := e, secured := true, bytes := bytes } k.txs }) q.1
      placeTests r carrier air gap bytes n (t + air + gap) { pl with txs := pl.txs ++ [e] } s

/-- The chain is held, its frames are lost uncounted, and a test that radiates plans its transmissions. -/
def beginTest (s : State) : State :=
  match s.test.run with
  | none => s
  | some r =>
    let c := r.target
    let s := withChain c (fun k => { k with testHold := true }) (withTest (fun t => { t with run := some { r with started := true } }) s)
    let s := (List.range 104).foldl (fun s p => match (physOf s p).tune with
      | some u => if u.chain = c then abortFrame p none s else s
      | none => s) s
    match channelCentre (chainOf s c) r.phy r.channel with
    | none => s
    | some f =>
      let lead := (profileOf (chainOf s c) r.phy).2.rampUs + (profileOf (chainOf s c) r.phy).2.paLeadUs + 214
      let t := ((selNs s - boundaryOf s s.slot.asn) / 1000).toNat + lead
      if r.kind = 3 then placeTests r f (1000 * r.durationMs) 0 [] 1 t (testPlan s) s
      else if r.depth = 2 then
        let air := airFor s r.phy 0 r.frameLen none
        let bytes := if r.pattern = 0 then (List.range (r.frameLen - 2)).map (BitVec.ofNat 8) else []
        if r.pattern = 0 then placeTests r f air 100 bytes (testFrames air (1000 * r.durationMs)) t (testPlan s) s
        else placeTests r f (1000 * r.durationMs) 0 [] 1 t (testPlan s) s
      else s

/-- The first slot of a chain's test has come (R546). -/
def testBoundary (s : State) : State :=
  match s.test.run with
  | some r => if !r.started && r.kind ≠ 2 && r.target < 4 && (r.fromAsn = s.slot.asn || asnBehind r.fromAsn s.slot.asn) then beginTest s else s
  | none => s

/-! Commands (R543-R553, R558). -/

/-- A test accepted: its job, and the test whose result was kept before it gone. -/
def startTest (r : TestRun) (s : State) : Res :=
  let j := freshJob s
  let s := withTest (fun t => { t with
    run := some { r with job := j }, last := none, sent := 0, received := 0, errors := 0, bistFail := 0, engFail := 0, finalStatus := stPending, lastRl := 0 }) (tick1 s)
  { st := s, status := stPending, info := j }

/-- A port taken DOWN for a test: ETH0-ETH1, DL0-DL2, PCIe (R548, R549). -/
def holdPort (target : Nat) (s : State) : State :=
  if target < 6 then
    let e := target - 4
    raiseIf (ethOf s e).link (0x128 + e) (withEthP e (fun p => { p with link := false, held := true }) s)
  else if target < 9 then withPort (target - 6) (fun q => { q with held := true }) (takeDown (target - 6) s)
  else withHif (fun h => { h with pcieUp := false }) (withPcie (fun p => { p with up := false, held := true }) s)

/-- Why a test of a chain is refused, or 0. -/
def chainRefusal (s : State) (c phy channel : Nat) : Nat :=
  let k := chainOf s c
  if (channelCentre k phy channel).isNone then stBadParam
  else if k.service = 2 then stDegraded
  else if k.service = 1 || k.cal.isSome then stBusy
  else stOk

/-- The slots a chain's test takes. -/
def testSlots (s : State) (ms : Nat) : Nat := if s.slot.running then cdiv (1000 * ms) s.slot.slotLenUs else 0

/-- A test of a chain, at once while the slot engine is stopped (R546). -/
def startChain (r : TestRun) (s : State) : Res :=
  let s := match r.lane with
    | some p => withPhys p (fun x => { x with role := some 2, logical := some 0 }) s
    | none => s
  let x := startTest { r with fromAsn := firstUnbuilt s, slots := testSlots s r.durationMs } s
  if s.slot.running then x else { x with st := beginTest x.st }

/-- Depths the table of R545 gives a target. -/
def depthOk (target depth : Nat) : Bool :=
  if target < 4 then depth ≤ 2 else if target < 6 then depth ≤ 3 else if target < 9 then 1 ≤ depth && depth ≤ 3 else target = 9 && depth = 2

/-- A chip of a configured twin that does not hold the gates (R549, R553). -/
def isIdleTwin (s : State) : Bool := s.twin.configured && !gateHeld s

/-- TEST_LOOPBACK. -/
def testLoopback (h : Hdr) (p : TestLoopbackP) (s : State) : Res :=
  let r : TestRun := {
    kind := 1, target := p.target, depth := p.depth, pattern := p.pattern, frameLen := p.frameLen, durationMs := p.durationMs, channel := p.channel,
    phy := p.phyMode, power := p.powerHdbm, started := 4 ≤ p.target }
  let c := chainRefusal s p.target p.phyMode p.channel
  if s.test.run.isSome then refuse s stBusy
  else if 9 < p.target || !depthOk p.target p.depth || 2 < p.pattern || p.frameLen < 16 || 2047 < p.frameLen || p.durationMs = 0 ||
      60000 < p.durationMs then refuse s stBadParam
  else if (p.depth = 3 || (p.target < 4 && p.depth = 2)) && isIdleTwin s then refuse s stStandby
  else if p.target < 4 then
    if c ≠ stOk then refuse s c
    else match (List.range 104).find? (fun q => roleOf s q = 1) with
      | none => refuse s stBusy
      | some q => startChain { r with lane := some q } s
  else if p.target = 8 && (portOf s 2).role = 1 then refuse s stBusy
  else if p.target = 9 && h.qp < 64 then refuse s stBusy
  else startTest r (holdPort p.target s)
def execTestLoopback (h : Hdr) (p : TestLoopbackP) (s : State) : Host.Outcome State Fault Refusal := agentRun h (.testLoopback p) (testLoopback h p) s

/-- TEST_PATTERN. -/
def testPattern (_h : Hdr) (p : TestPatternP) (s : State) : Res :=
  let r : TestRun := {
    kind := 3, target := p.target, pattern := p.pattern, durationMs := p.durationMs, channel := p.channel, phy := p.phyMode, power := p.powerHdbm,
    started := 4 ≤ p.target }
  let c := chainRefusal s p.target p.phyMode p.channel
  if s.test.run.isSome then refuse s stBusy
  else if 8 < p.target || 4 < p.pattern || (p.target < 4 && 2 < p.pattern) || (4 ≤ p.target && p.pattern < 3) || p.durationMs = 0 ||
      60000 < p.durationMs || (p.pattern = 2 && (p.toneKhz < 10 || 500 < p.toneKhz)) then refuse s stBadParam
  else if isIdleTwin s then refuse s stStandby
  else if p.target < 4 then (if c ≠ stOk then refuse s c else startChain r s)
  else if p.target = 8 && (portOf s 2).role = 1 then refuse s stBusy
  else startTest r (holdPort p.target s)
def execTestPattern (h : Hdr) (p : TestPatternP) (s : State) : Host.Outcome State Fault Refusal := agentRun h (.testPattern p) (testPattern h p) s

/-- Two ranges of bytes overlap. -/
def rangesMeet (a n b m : Nat) : Bool := a < b + m && b < a + n

/-- Bytes of a firewall region: PAGES 0 stands for 16 GiB (R539). -/
def regionBytes (r : FwRegion) : Nat := 4096 * (if r.pages = 0 then 4194304 else r.pages)

/-- The range target 10 may test (R552): above the fixed regions of R19. -/
def bistRangeOk (p : TestBistP) (s : State) : Bool :=
  p.rangeBase % 4096 = 0 && p.rangeLen % 4096 = 0 && p.rangeLen ≠ 0 && 656 * 1048576 ≤ p.rangeBase &&
    p.rangeBase + p.rangeLen ≤ s.sys.dramMib * 1048576 &&
    s.cry.regions.all (fun e => !e.2.enable || !rangesMeet p.rangeBase p.rangeLen e.2.base (4096 * e.2.pages)) &&
    s.fwall.regions.all (fun e => !e.2.enable || (e.2.read % 4 = 0 && e.2.write % 4 = 0) || !rangesMeet p.rangeBase p.rangeLen e.2.base (regionBytes e.2))

/-- Targets allowed in the present state (R551). -/
def bistAllowed (s : State) (i : Nat) : Bool := if s.sys.devState = .run then 6 ≤ i else i < 6

/-- TEST_BIST. -/
def testBist (_h : Hdr) (p : TestBistP) (s : State) : Res :=
  if s.test.run.isSome then refuse s stBusy
  else if p.mask = 0 || 2047 < p.mask then refuse s stBadParam
  else if (List.range 11).any (fun i => bit p.mask i && !bistAllowed s i) then refuse s stBusy
  else if bit p.mask 10 && !bistRangeOk p s then refuse s stBadParam
  else startTest { kind := 2, mask := p.mask, started := true, fromAsn := p.rangeBase / 4096, depth := p.rangeLen / 4096 } s
def execTestBist (h : Hdr) (p : TestBistP) (s : State) : Host.Outcome State Fault Refusal := agentRun h (.testBist p) (testBist h p) s

/-- Reply of TEST_STATUS. -/
def testReply (s : State) : List Byte :=
  le 4 (testStatusWord s) ++ le 4 s.test.sent ++ le 4 s.test.received ++ le 4 s.test.errors ++ le 4 (bistFailWord s) ++ le 2 s.test.finalStatus ++
    leS 2 s.test.lastRl

/-- TEST_STATUS: op 1 aborts the test that runs (R544). -/
def testStatus (_h : Hdr) (p : TestStatusP) (s : State) : Res :=
  if 1 < p.op then refuse s stBadParam
  else
    let s := if p.op = 1 && s.test.run.isSome then raise 0x16E (endTest stFlushed s) else s
    done s (testReply s)
def execTestStatus (h : Hdr) (p : TestStatusP) (s : State) : Host.Outcome State Fault Refusal := agentRun h (.testStatus p) (testStatus h p) s

/-- What the failures of a self-test lead to: a repair of the macro of bits 0-5, and a candidate page of the range of bit 10; cores and
lanes that fail come as their own rows (R551). -/
def bistOutcome (r : TestRun) (fail : Nat) (s : State) : State :=
  let n := popcount (fail % 64) 6
  let s := if n = 0 then s else raise 0x15C (withHlth (fun h => { h with sramPending := h.sramPending + n }) s)
  let s := raiseIf (fail % 2048 ≠ 0) 0x16D s
  if bit fail 10 && r.depth ≠ 0 then
    let page := r.fromAsn + randomBelow s r.depth
    withDdr (fun d => { d with candidates := if d.candidates.contains page then d.candidates else d.candidates ++ [page] }) (tick1 s)
  else s

/-- TEST_COMPLETE: the test that runs ends with what it counted (R544, R551). -/
def testComplete (sent received errors fail engines : Nat) (s : State) : State :=
  match s.test.run with
  | none => s
  | some r =>
    if !r.started then s
    else
      let fail := if r.kind = 2 then maskOf ((List.range 11).filter (fun i => bit fail i && bit r.mask i)) else 0
      let s := withTest (fun t => { t with
        sent := sent, received := received, errors := errors, bistFail := fail, engFail := if bit fail 8 then engines % 32 else 0 }) (endTest stOk s)
      raise 0x16C (bistOutcome r fail s)
def execTestComplete (sent received errors bistFail engines : Nat) (s : State) : Host.Outcome State Fault Refusal :=
  .next (testComplete sent received errors bistFail engines s)

/-- JTAG_INSTRUCTION: what the TAP answers (R555). -/
def tapInstruction (s : State) (ir : Nat) : Nat :=
  if ir = 0x02 then 0x02
  else if s.sys.testMode && s.sys.devState ≠ .tamperHold && (ir = 0 || ir = 1 || ir = 3 || ir = 4 || ir = 0x10 || ir = 0x11) then ir
  else 0xFF
def execJtagInstruction (ir : Nat) (s : State) : Host.Outcome State Fault Refusal :=
  .next (withSys (fun x => { x with jtagIr := some (tapInstruction s ir) }) s)

/-- QUEUE_FLUSH_WRITER: the writer side has seen a flush: what it discards is counted, and the tail of an item that was not whole is
discarded up to its end mark (R491, R492, R556). -/
def queueFlush (queue tag : Nat) (lastWasEnd : Bool) (words items : Nat) (s : State) : State :=
  if 93 < queue || 127 < tag then s
  else
    let k := 128 * queue + tag
    let add := fun (t : Tbl Nat) (n : Nat) => tput t k (min 0xFFFFFFFF (tget 0 t k + n))
    withTest (fun t => { t with
      flushWords := add t.flushWords words, flushItems := add t.flushItems (items + b2n (!lastWasEnd)) }) s
def execQueueFlushWriter (queue tag : Nat) (lastWasEnd : Bool) (words items : Nat) (s : State) : Host.Outcome State Fault Refusal :=
  .next (queueFlush queue tag lastWasEnd words items s)

/-! The slot boundary (R242, R244, R289, R448, R471, R477, R479). -/

/-- SLOT_BOUNDARY: the delta record of the slot that ended goes out, a stop takes effect or the plans move on, the gates switch, tests
begin and campaigns are served. -/
def slotBoundary (env : SlotEnv) (s : State) : State :=
  if !s.slot.running || s.sys.devState ≠ .run then s
  else
    let s := sendDelta s
    let s := if s.slot.stopPending then stopEffect s else boundaryCore env s
    let s := withTwin (fun t => { t with live := true, synced := false }) (gateSwitch s)
    serveCamps (testBoundary (tellBoundary (takeSnapshot s)))
def execSlotBoundary (env : SlotEnv) (s : State) : Host.Outcome State Fault Refusal := .next (slotBoundary env s)

end Sys2Proof.Machine
end

