-- ==== Sys2Proof/Machine/Reset.lean ====
section
/-!
DEFINITION. The resets and what each clears and keeps, tamper and FROST, supplies and references (R41-R55, R64-R71, R75, R77, R95, R97, R217,
R300, R387-R391, R444, R567).
-/
namespace Sys2Proof.Machine

/-! Reset kinds (R68). -/

/-- SRAM repairs entered in the log are in force from the next reset of any kind (R525). -/
def commitRepairs (s : State) : State :=
  withHlth (fun h => { h with sramPending := 0 }) (withFlash (fun f => { f with sramRepairs := min 65535 (f.sramRepairs + s.hlth.sramPending) }) s)

/-- The 8 lowest-numbered cores that the log does not mark failed (R527). -/
def bootCores (failed : Nat) : Nat := maskOf (((List.range 10).filter (fun c => !bit failed c)).take 8)

/-- The time block after a WARM reset: the counter, the domains and the selection kept, comparators disarmed, capture queues empty, followers
restarted (R217). -/
def warmTime (t : TimeSt) : TimeSt :=
  let fresh := fun (d : DomSt) => { d with locked := false, good := 0, lastOffset := 0 }
  { t with
    domA := fresh t.domA, domB := fresh t.domB, timeOut := 0, pulseEnd := [], cmps := t.cmps.map (fun e => (e.1, { e.2 with armed := false, skipped := 0 })),
    caps := t.caps.map (fun e => (e.1, { e.2 with queue := [] })), transit := [], ptpOut := [] }

/-- Everything a POWER_ON or FULL reset leaves: the AON well, the fuses, the flash and the pins, and after FULL the DRAM dump region (R68). -/
def clearFull (k : ResetKind) (cause : Nat) (s : State) : State :=
  { pending := s.pending, free := s.free, hostMem := s.hostMem, aon := s.aon, otp := s.otp, flash := s.flash,
    sys := {
      devState := .reset, resetCause := cause, strap := s.sys.strap, strapPins := s.sys.strapPins, resetKind := some k,
      slotFailed := s.sys.slotFailed, testMode := s.sys.testMode, wakeGpio := s.sys.wakeGpio, wakeTimerS := s.sys.wakeTimerS,
      refLost := s.sys.refLost, tempNow := s.sys.tempNow, jtagIr := s.sys.jtagIr },
    pcie := { perst := s.pcie.perst }, hlth := { coresActive := bootCores s.flash.failedCores },
    upd := { fw := { commitAfterS := s.upd.fw.commitAfterS } },
    dump := if k = .full then { dram := s.dump.dram, cause := s.dump.cause, length := s.dump.length } else {} }

/-- What a WARM reset leaves (R68, R104, R132, R217, R302, R364, R444, R544, R567). -/
def clearWarm (s : State) : State :=
  { pending := s.pending, free := s.free, hostMem := s.hostMem, aon := s.aon, otp := s.otp, flash := s.flash,
    sys := {
      devState := .fwVerify, resetCause := 4, strap := s.sys.strap, strapPins := s.sys.strapPins, resetKind := some .warm,
      slotFailed := s.sys.slotFailed, testMode := s.sys.testMode, wakeGpio := s.sys.wakeGpio, wakeTimerS := s.sys.wakeTimerS,
      refLost := s.sys.refLost, tempNow := s.sys.tempNow, jtagIr := s.sys.jtagIr, avsMv := s.sys.avsMv, avsFault := s.sys.avsFault,
      dramMib := s.sys.dramMib },
    boot := { step := 5, pufAttempts := s.boot.pufAttempts }, hif := { pcieUp := s.hif.pcieUp },
    evt := { srcCfg := s.evt.srcCfg, irqSel := s.evt.irqSel, unmasked := s.evt.unmasked, msix := s.evt.msix, msgs := s.evt.msgs },
    budg := {
      loaded := s.budg.loaded, regionId := s.budg.regionId, windowS := s.budg.windowS, warnPct := s.budg.warnPct, bands := s.budg.bands,
      debits := s.budg.debits },
    sec := { s.sec with slots := [] }, time := warmTime s.time,
    upd := { fw := { commitAfterS := s.upd.fw.commitAfterS }, camps := s.upd.camps },
    pcie := { s.pcie with th := [], fh := [], reports := [], noBufSec := none, held := false },
    ddr := { s.ddr with skipUnits := [], selfRefresh := false }, dump := { s.dump with writing := false },
    hlth := { coresActive := bootCores s.flash.failedCores },
    test := { qselQueue := s.test.qselQueue, qselTag := s.test.qselTag, flushWords := s.test.flushWords, flushItems := s.test.flushItems } }

/-- A reset is taken. One in progress gives way to a wider one only (R69). -/
def takeReset (k : ResetKind) (cause : Nat) (s : State) : State :=
  match k with
  | .powerOn => clearFull .powerOn cause (commitRepairs s)
  | .full => if s.sys.devState = .reset && s.sys.resetKind = some .powerOn then s else clearFull .full cause (commitRepairs s)
  | .warm =>
    if s.sys.devState = .reset then s
    else clearWarm (commitRepairs (s.upd.camps.foldl (fun s e => pauseCamp e.1 s) s))

/-- SYS.RESET_CTRL written with a KIND (R75): it reaches the part while the PCIe link is up; without a root in the island KIND 0 acts as
KIND 1. -/
def resetCtrl (full : Bool) (key : Nat) (s : State) : State :=
  if key % 65536 ≠ 0xC1EA || !s.hif.pcieUp then s
  else match s.sys.devState with
    | .off | .reset | .lull => s
    | .bootRom | .pufRegen | .tamperHold | .halted => takeReset .full 4 s
    | .fwVerify | .init | .run => takeReset (if full then .full else .warm) 4 s
def execResetCtrlWarm (key : Nat) (s : State) : Host.Outcome State Fault Refusal := .next (resetCtrl false key s)
def execResetCtrlFull (key : Nat) (s : State) : Host.Outcome State Fault Refusal := .next (resetCtrl true key s)

/-- POR_N low: POWER_ON. While VDD_CORE is below its brown-out threshold it is a power cycle (R97); a part without VDD_CORE stays OFF. -/
def powerOn (coreLow : Bool) (s : State) : State :=
  let s := withAon (fun a => { a with cycled := a.cycled || (coreLow && a.latch) }) s
  if s.sys.devState = .off && coreLow then s else takeReset .powerOn 0 s
def execPowerOnReset (coreLow : Bool) (s : State) : Host.Outcome State Fault Refusal := .next (powerOn coreLow s)

/-- SYS_RESET_N low: pulses below 1 us are ignored (R59). -/
def pinReset (lowNs : Nat) (s : State) : State := if lowNs < 1000 || s.sys.devState = .off then s else takeReset .full 1 s
def execSysResetNLow (lowNs : Nat) (s : State) : Host.Outcome State Fault Refusal := .next (pinReset lowNs s)

/-- The boot watchdog runs: it is suspended while a recovery image is awaited (R65). -/
def watchdogRuns (s : State) : Bool :=
  s.sys.bootWatchdog && !s.boot.waitingImage &&
    match s.sys.devState with
    | .bootRom | .pufRegen | .fwVerify | .init => true
    | _ => false

/-- A slot on trial is marked at the next boot where the watchdog resets the part (R81). -/
def markTrial (s : State) : State :=
  if s.flash.bootRec.valid && s.flash.bootRec.trial then withSys (fun x => { x with slotFailed := some s.flash.bootRec.preferred }) s else s

/-- BOOT_WATCHDOG_EXPIRY: FULL, cause WATCHDOG (R65). -/
def bootExpiry (s : State) : State := if watchdogRuns s then takeReset .full 5 (markTrial s) else s
def execBootWatchdogExpiry (s : State) : Host.Outcome State Fault Refusal := .next (bootExpiry s)

/-- PERST_N rises: link training starts, at the later of this and step 3 (R77). -/
def perstRise (s : State) : State :=
  withPcie (fun p => { p with perst := true, training := !p.up && (3 ≤ s.boot.step || s.sys.devState = .run || s.sys.devState = .init) }) s
def execPerstNRise (s : State) : Host.Outcome State Fault Refusal := .next (perstRise s)

/-- SYS_RESET: the reset starts after the reply is released (R87). -/
def sysReset (_h : Hdr) (p : SysResetP) (s : State) : Res :=
  if 1 < p.kind then refuse s stBadParam
  else done (withSys (fun x => { x with resetNext := some (if p.kind = 0 then .warm else .full) }) s)
def execSysReset (h : Hdr) (p : SysResetP) (s : State) : Host.Outcome State Fault Refusal := agentRun h (.sysReset p) (sysReset h p) s

/-! Tamper (R95, R387-R391). -/

/-- FROST (R95, R389): the salt, the root, every key and boot_nonce are zeroised; keyed operations abort with their outputs dropped. -/
def frost (s : State) : State :=
  let s := withAon (fun a => { a with salt := [], saltValid := false }) s
  let s := withSec (fun b => { b with slots := [], root := [], rootReady := false, bootNonce := [] }) s
  withCry (fun c => { c with msgs := [], hashes := [] }) s

/-- Every transmission stops, with its lines low (R67, R389, R534). -/
def silenceAll (s : State) : State :=
  withRfc (fun r => { r with chains := r.chains.map (fun e => (e.1, { e.2 with
    txs := [], raws := [], txEn := false, paEn := false, rampOn := false, coexReq := false, coexPri := false, blanking := false })) }) s

/-- The data path stops: gates disabled, no slot runs, no test runs, the boot watchdog stands (R65, R389, R477, R534). -/
def stopAll (s : State) : State :=
  let s := silenceAll (notLive s)
  let s := withSlot (fun b => { b with running := false, stopPending := false, plan := none, plans := [], acks := [], waits := [] }) s
  let s := withTime (fun t => { t with timeOut := 0, pulseEnd := [] }) s
  withSys (fun x => { x with bootWatchdog := false, lullArmed := false, resetNext := none }) s

/-- TAMPER_HOLD: commands in flight end with ST_TAMPER (R389). -/
def enterHold (s : State) : State :=
  let s := endFlights stTamper (fun _ => true) (stopAll (endTest stTamper s))
  withBoot (fun b => { b with waitingImage := false }) (withSys (fun x => { x with devState := .tamperHold, resetKind := none }) s)

/-- A sensor alarms: latch and cause, FROST, and the outcome of the state it fires in (R95, R389, R390). -/
def tamper (b : Nat) (s : State) : State :=
  let s := withAon (fun a => { a with
    latch := true, cycled := a.cycled && a.latch, cause := setBit a.cause b, causeState := if a.latch then a.causeState else devCode s.sys.devState }) s
  let s := frost (if b < 2 then s else withSec (fun x => { x with tamperLive := setBit x.tamperLive b }) s)
  match s.sys.devState with
  | .off | .reset => s
  | .bootRom => if s.boot.step < 3 then s else enterHold s
  | .lull => enterHold (withSys (fun x => { x with aonPwrEn := true, lullExit := true }) s)
  | .tamperHold => s
  | _ => enterHold s

/-- TAMPER_ALARM: the sensors of R387 by the bits of TAMPER_CAUSE; a loop alarms while it is armed, the clock from RESET on. -/
def tamperAlarm (sensor : Nat) (s : State) : State :=
  if 8 < sensor || (4 ≤ sensor && sensor < 8 && !bit s.aon.loopEn (sensor - 4)) || (sensor = 1 && s.sys.devState = .off) then s
  else tamper sensor s
def execTamperAlarm (sensor : Nat) (s : State) : Host.Outcome State Fault Refusal := .next (tamperAlarm sensor s)

/-- TAMPER_LOOP_SAMPLE: two consecutive mismatched bits of an armed loop are an alarm (R388). -/
def loopSample (i : Nat) (mismatch : Bool) (s : State) : State :=
  if 3 < i || !bit s.aon.loopEn i then s
  else if !mismatch then
    withSec (fun x => { x with tamperLive := clrBit x.tamperLive (4 + i) }) (withAon (fun a => { a with loopMiss := tdel a.loopMiss i }) s)
  else
    let n := min 2 (tget 0 s.aon.loopMiss i + 1)
    let s := withAon (fun a => { a with loopMiss := tput a.loopMiss i n }) s
    if n = 2 then tamper (4 + i) s else s
def execTamperLoopSample (loop : Nat) (mismatch : Bool) (s : State) : Host.Outcome State Fault Refusal := .next (loopSample loop mismatch s)

/-- VBAT_LOSS without main power: the salt goes as by FROST, and the loops are disarmed (R50, R388). -/
def vbatLoss (s : State) : State :=
  if s.sys.devState = .off then
    withAon (fun a => { a with salt := [], saltValid := false, loopEn := 0, loopMiss := [], vbatEvent := true }) s
  else s
def execVbatLoss (s : State) : Host.Outcome State Fault Refusal := .next (vbatLoss s)

/-! Supplies (R48, R49). -/

/-- SUPPLY_EXCURSION (R48): rails 0 VDD_CORE, 1 VDD_SRAM, 2 VDD_IO18, 3 VBAT_AON; extremes in per mille of the reference level. The first row
that fits decides; VBAT_AON has no brown-out and is watched for glitches in OFF only, and in OFF no other rail is present (R387). -/
def excursion (rail : Nat) (lowPm highPm : Int) (stillLow throughHigh : Bool) (durPs : Nat) (s : State) : State :=
  if 3 < rail || (rail = 3) ≠ (s.sys.devState = .off) then s
  else if durPs < 2000 || (-70 ≤ lowPm && highPm ≤ 70) then s
  else if 120 < highPm then tamper 0 s
  else if throughHigh then s
  else if stillLow then (if rail = 3 then s else takeReset .full 2 s)
  else if lowPm < -120 then tamper 0 s
  else s
def execSupplyExcursion (rail : Nat) (lowPm highPm : Int) (stillLow _throughLow throughHigh : Bool) (durPs : Nat) (s : State) :
    Host.Outcome State Fault Refusal := .next (excursion rail lowPm highPm stillLow throughHigh durPs s)

/-- MAIN_POWER_REMOVAL: POR_N is low before the rails go, so it is a power cycle; the AON well alone keeps its state (R47, R49, R97). -/
def powerOff (s : State) : State :=
  withSys (fun x => { x with devState := .off, resetKind := none }) (powerOn true (withSys (fun x => { x with devState := .reset }) s))
def execMainPowerRemoval (s : State) : Host.Outcome State Fault Refusal := .next (powerOff s)

/-- MAIN_POWER_RESTORE: the rails are back with POR_N low (R46, R49). -/
def powerBack (s : State) : State := if s.sys.devState = .off then takeReset .powerOn 0 s else s
def execMainPowerRestore (s : State) : Host.Outcome State Fault Refusal := .next (powerBack s)

/-! AVS (R41-R43). -/

/-- AVS_EVALUATE: a setpoint of 0.72-0.88 V in 5 mV steps; after three attempts without an acknowledgement the last one stays, and the part
runs degraded. -/
def avsSet (targetMv attempts : Nat) (s : State) : State :=
  if 3 ≤ attempts then degrade 7 (raise 0x159 (withSys (fun x => { x with avsFault := true }) s))
  else undegrade 7 (withSys (fun x => { x with avsFault := false, avsMv := max 720 (min 880 (targetMv / 5 * 5)) }) s)
def avsEvaluate (targetMv attempts : Nat) (s : State) : State :=
  if s.sys.devState = .run || s.sys.devState = .init then avsSet targetMv attempts s else s
def execAvsEvaluate (targetMv attempts : Nat) (s : State) : Host.Outcome State Fault Refusal := .next (avsEvaluate targetMv attempts s)

/-! References (R55): 0 REF_SYS, 1 REF_RF, 2 REF_TIME, 3 REF_ETH, 4 REF_PCIE, 5 XTAL_AON. -/

/-- Firmware reports events. -/
def reporting (s : State) : Bool := s.sys.devState = .run || s.sys.devState = .init

/-- Every transmission of a chain that is pending or under way ends with ST_SYNTH_LATE; n bounds their number. -/
def dropTxs (c : Nat) : Nat → State → State
  | 0, s => s
  | n + 1, s =>
    match headTx s c with
    | none => s
    | some t =>
      dropTxs c n (if t.phase < 4 then abandonTx c stSynthLate t.entry s
        else if t.phase < 7 then endEntry stSynthLate t.entry (releaseTx c s) else releaseTx c s)

/-- The raw transmissions of a chain that wait end with ST_SYNTH_LATE. -/
def dropRaws (c : Nat) (s : State) : State := (chainOf s c).raws.foldl (fun s _ => endRaw c stSynthLate 0 0 0 false s) s

/-- REF_RF lost. -/
def rfLost (s : State) : State :=
  let s := [0, 1, 2, 3].foldl (fun s c => dropRaws c (dropTxs c (chainOf s c).txs.length s)) s
  let s := (List.range 104).foldl (fun s p => abortFrame p none s) s
  [0, 1, 2, 3].foldl (fun s c => withChain c (fun k => { k with rxLock := false, txLock := false, synthUp := true }) s) s

/-- REF_ETH lost: both Ethernet ports and the Dalhiuf ports go down, and a twin's gates are disabled. -/
def ethRefLost (s : State) : State :=
  let s := [0, 1].foldl (fun s e => raiseIf (ethOf s e).link (0x128 + e) (withEthP e (fun p => { p with link := false }) s)) s
  let s := [0, 1, 2].foldl (fun s p => if (portOf s p).state = 0 then s else takeDown p s) s
  if s.twin.configured then gatesOff (withTwin (fun t => { t with incumbent := false }) s) else s

/-- REF_LOSS. -/
def refLoss (r : Nat) (s : State) : State :=
  if 5 < r then s
  else
    let s := withSys (fun x => { x with refLost := setBit x.refLost r }) s
    if r = 5 then
      let s := withAon (fun a => { a with rcOsc := true }) s
      if reporting s then raise 0x002 s else withAon (fun a => { a with xtalEvent := true }) s
    else if s.sys.devState = .off then s
    else if r = 0 then takeReset .full 3 s
    else
      let s := if r = 1 then rfLost s
        else if r = 2 then withTime (fun t => { t with pllPull := false }) s
        else if r = 3 then ethRefLost s
        else withHif (fun h => { h with pcieUp := false }) (withPcie (fun p => { p with up := false, training := false }) s)
      raiseIf (reporting s) 0x002 s
def execRefLoss (ref : Nat) (s : State) : Host.Outcome State Fault Refusal := .next (refLoss ref s)

/-- REF_RETURN: after REF_RF each chain in service recalibrates by steps 2, 3 and 5; after REF_TIME the PLL pulls in; after REF_PCIE the link
trains. -/
def refReturn (r : Nat) (s : State) : State :=
  if 5 < r || !bit s.sys.refLost r then s
  else
    let s := withSys (fun x => { x with refLost := clrBit x.refLost r }) s
    if r = 1 && reporting s then [0, 1, 2, 3].foldl (fun s c => if (chainOf s c).service = 0 then askCal c [2, 3, 5] 0 s else s) s
    else if r = 2 then withTime (fun t => { t with pllPull := true }) s
    else if r = 4 then withPcie (fun p => { p with training := p.perst && !p.up }) s
    else if r = 5 then withAon (fun a => { a with rcOsc := false }) s
    else s
def execRefReturn (ref : Nat) (s : State) : Host.Outcome State Fault Refusal := .next (refReturn ref s)

end Sys2Proof.Machine
end

