-- ==== Sys2Proof/Machine/Regs.lean ====
section
/-!
DEFINITION. The register map of BAR0 (R7): what every register reads, the counters that clear on a read, and the writes of the registers that
have no row of their own (R73-R75, R98-R100, R118, R131, R175, R212, R238, R279, R305, R306, R337, R359, R394, R422, R423, R453, R483, R484,
R500, R501, R511, R512, R539, R540, R556).
-/
namespace Sys2Proof.Machine

/-- Low and high words of a 64-bit value. -/
def lo32 (n : Nat) : Nat := n % 2 ^ 32
def hi32 (n : Nat) : Nat := n / 2 ^ 32 % 2 ^ 32

/-- A signed value in a 32-bit register, as it is or saturating. -/
def s32 (x : Int) : Nat := s2n 32 x
def sat32 (x : Int) : Nat := s2n 32 (clampI (-(2 ^ 31 - 1)) (2 ^ 31 - 1) x)

/-- Numbers 0 to n-1 as registers from base up, step bytes apart. -/
def regRow (base step n : Nat) (f : Nat → Nat) : List (Nat × Nat) := (List.range n).map (fun i => (base + step * i, f i))

/-! Counters that clear on a read: offset, value, and the state with the counter cleared. -/

/-- The counters of a table. -/
def rcRow (base n : Nat) (t : Tbl Nat) (put : Tbl Nat → State → State) : List (Nat × Nat × (State → State)) :=
  (List.range n).map (fun i => (base + 4 * i, tget 0 t i, put (tdel t i)))

/-- The six counters of chain c (R175). -/
def chainCounters (c : Nat) (s : State) : List (Nat × Nat × (State → State)) :=
  let k := chainOf s c
  let b := 0x40000 + 0x1000 * c
  [(b + 0x10, k.cntDone, withChain c (fun k => { k with cntDone := 0 })), (b + 0x14, k.cntLate, withChain c (fun k => { k with cntLate := 0 })),
    (b + 0x18, k.cntBlanked, withChain c (fun k => { k with cntBlanked := 0 })),
    (b + 0x1C, k.cntStandby, withChain c (fun k => { k with cntStandby := 0 })), (b + 0x20, k.cntClip, withChain c (fun k => { k with cntClip := 0 })),
    (b + 0x24, k.cntMismatch, withChain c (fun k => { k with cntMismatch := 0 }))]

/-- The counters of check-value unit u (R423). -/
def chkCounters (u : Nat) (s : State) : List (Nat × Nat × (State → State)) :=
  let k := chkOf s u
  let b := 0x170000 + 0x100 * u
  [(b + 0x1C, k.frames, withChkU u (fun k => { k with frames := 0 })), (b + 0x20, k.mismatch, withChkU u (fun k => { k with mismatch := 0 })),
    (b + 0x24, k.skipped, withChkU u (fun k => { k with skipped := 0 }))]

/-- The queue and tag that QSEL selects (R556). -/
def flushKey (s : State) : Nat := 128 * s.test.qselQueue + s.test.qselTag

/-- The RC counters of block b. -/
def rcRegs (b : Nat) (s : State) : List (Nat × Nat × (State → State)) :=
  match b with
  | 0x02 => (List.range 32).flatMap (fun r =>
      [(0x22010 + 0x20 * r, (tget {} s.pcie.th r).drops, withTh r (fun x => { x with drops := 0 })),
        (0x22410 + 0x20 * r, (tget {} s.pcie.fh r).drops, withFh r (fun x => { x with drops := 0 }))])
  | 0x04 => (List.range 4).flatMap (fun c => chainCounters c s)
  | 0x05 => rcRow 0x50810 9 s.lane.cnt (fun t => withLane (fun x => { x with cnt := t }))
  | 0x06 => rcRow 0x60100 17 s.slot.cnt (fun t => withSlot (fun x => { x with cnt := t })) ++
      rcRow 0x60410 3 s.slot.frontCnt (fun t => withSlot (fun x => { x with frontCnt := t })) ++
      rcRow 0x60500 4 s.slot.preCnt (fun t => withSlot (fun x => { x with preCnt := t }))
  | 0x07 => rcRow 0x70010 4 s.budg.cnt (fun t => withBudg (fun x => { x with cnt := t }))
  | 0x08 => rcRow 0x80100 11 s.tm.cnt (fun t => withTm (fun x => { x with cnt := t }))
  | 0x09 => rcRow 0x90100 13 s.tbl.cnt (fun t => withTbl (fun x => { x with cnt := t }))
  | 0x0A => rcRow 0xA0100 8 s.sec.cnt (fun t => withSec (fun x => { x with cnt := t }))
  | 0x0B => rcRow 0xB0100 10 s.cry.cnt (fun t => withCry (fun x => { x with cnt := t }))
  | 0x0C => rcRow 0xC0200 9 s.upd.cnt (fun t => withUpd (fun x => { x with cnt := t }))
  | 0x0E => (List.range 3).flatMap (fun p => rcRow (0xE0010 + 0x100 * p) 8 (portOf s p).cnt (fun t => withPort p (fun x => { x with cnt := t })))
  | 0x0F => rcRow 0xF0100 6 s.twin.cnt (fun t => withTwin (fun x => { x with cnt := t }))
  | 0x10 => (List.range 2).flatMap (fun e => rcRow (0x100010 + 0x100 * e) 10 (ethOf s e).cnt (fun t => withEthP e (fun x => { x with cnt := t })))
  | 0x11 => rcRow 0x110010 4 s.pcie.cnt (fun t => withPcie (fun x => { x with cnt := t }))
  | 0x12 => rcRow 0x120010 4 s.ddr.cnt (fun t => withDdr (fun x => { x with cnt := t }))
  | 0x13 => [(0x13001C, s.fwall.violations, withFwall (fun x => { x with violations := 0 }))]
  | 0x14 => rcRow 0x140100 4 s.hlth.cnt (fun t => withHlth (fun x => { x with cnt := t }))
  | 0x16 => [(0x160024, tget 0 s.test.flushWords (flushKey s), withTest (fun t => { t with flushWords := tdel t.flushWords (flushKey s) })),
      (0x160028, tget 0 s.test.flushItems (flushKey s), withTest (fun t => { t with flushItems := tdel t.flushItems (flushKey s) }))]
  | 0x17 => (List.range 8).flatMap (fun u => chkCounters u s)
  | _ => []

/-! Every other register. -/

/-- HIF: doorbells, queue pairs, data rings (R98, R99, R501). -/
def qpCtrlWord (q : QpSt) : Nat :=
  b2n q.enable + 2 * q.func + 4 * q.sqLog2 + 64 * q.cqLog2 + 1024 * q.prio + 65536 * q.coalCount + 2 ^ 24 * q.coalTime
def qpStatusWord (s : State) (n : Nat) : Nat :=
  let q := qpOf s n
  inFlight s n + 256 * b2n q.enabled + 512 * b2n q.configError + 1024 * b2n q.fetchError + 2048 * b2n q.cqFull
def qpRegs (s : State) (n : Nat) : List (Nat × Nat) :=
  let q := qpOf s n
  regRow (0x21000 + 0x40 * n) 4 7 (nth 0 [lo32 q.sqBase, hi32 q.sqBase, lo32 q.cqBase, hi32 q.cqBase, qpCtrlWord q, qpStatusWord s n,
    q.sqHead + 65536 * q.cqTail])
def ringRegs (b : Nat) (r : DataRing) : List (Nat × Nat) :=
  regRow b 4 4 (nth 0 [lo32 r.base, hi32 r.base, b2n r.enable + 2 * r.log2 + 256 * r.coalCount + 65536 * r.coalTime,
    r.head + 4096 * b2n r.fetchError + 8192 * b2n r.noBuffer])
def hifRegs (s : State) : List (Nat × Nat) :=
  regRow 0x20000 4 128 (fun _ => 0) ++ regRow 0x20200 4 64 (fun _ => 0) ++ (List.range 64).flatMap (qpRegs s) ++
    (List.range 32).flatMap (fun r => ringRegs (0x22000 + 0x20 * r) (tget {} s.pcie.th r) ++ ringRegs (0x22400 + 0x20 * r) (tget {} s.pcie.fh r))

/-- EVT (R131). -/
def causeWord (s : State) (k : Nat) : Nat := s.evt.cause / 2 ^ (32 * k) % 2 ^ 32
def summaryWord (s : State) : Nat :=
  maskOf ((List.range 12).filter (fun k => (List.range 32).any (fun b => s.evt.cause.testBit (32 * k + b) && (srcCfgOf s (32 * k + b)).enable)))
def srcCfgWord (c : SrcCfg) : Nat := c.vector + 128 * b2n c.toPf1 + 256 * b2n c.enable
def evtRegs (s : State) : List (Nat × Nat) :=
  [(0x30000, summaryWord s)] ++ regRow 0x30100 4 12 (causeWord s) ++ regRow 0x30200 4 8 (tget 0 s.evt.irqSel) ++
    regRow 0x31000 4 384 (fun n => srcCfgWord (srcCfgOf s n))

/-- IRQ_N[i] is driven low: it mirrors the vector its IRQ_SEL names (R129, R131); in LULL it is released (R52). -/
def irqLow (s : State) (i : Nat) : Bool :=
  let w := tget 0 s.evt.irqSel i
  bit w 9 && w % 512 < 264 && s.sys.devState ≠ .lull && vecPending s (w % 512)

/-- Bits of a signed field. -/
def sField (w at_ : Nat) (x : Int) : Nat := 2 ^ at_ * s2n w x

/-- RFC (R175). -/
def rfcRegs (s : State) : List (Nat × Nat) := (List.range 4).flatMap (fun c =>
  let k := chainOf s c
  let b := 0x40000 + 0x1000 * c
  [(b, chainStatusWord s c), (b + 4, sField 10 0 k.cplFwd + sField 10 10 k.cplRl + 2 ^ 20 * b2n k.cplValid), (b + 8, k.centre)])

/-- LANE (R212). -/
def laneRegs (s : State) : List (Nat × Nat) :=
  regRow 0x50000 4 96 (lmapWord s) ++ regRow 0x50400 4 104 (pstatusWord s) ++ [(0x50800, spareWord s)]

/-- SLOT (R279, R305). -/
def listRegs (s : State) (f : Nat) : List (Nat × Nat) :=
  let x := sfOf s f
  regRow (0x60300 + 0x10 * f) 4 4 (nth 0 [listStatusWord s f, (x.active.getD []).length, (x.staged.getD []).length, lo32 (x.pendAsn.getD 0)])
def slotRegs (s : State) : List (Nat × Nat) :=
  regRow 0x60000 4 5 (nth 0 [slotStatusWord s, lo32 s.slot.asn, s.slot.asnLatched, s.slot.slotLenUs, s.slot.guardUs + 65536 * s.slot.misses]) ++
    regRow 0x60200 4 8 (sfStatusWord s) ++ (List.range 8).flatMap (listRegs s) ++
    regRow 0x60400 4 4 (nth 0 [frontStatusWord s, sat32 s.slot.frontF, s32 s.slot.frontP, s32 s.slot.frontErr])

/-- BUDG (R306). -/
def limitMs (s : State) (j scope : Nat) : Nat := limitOf s j scope / 1000
def budgRegs (s : State) : List (Nat × Nat) :=
  [(0x70000, budgStatusWord s), (0x70004, s.budg.windowS)] ++ (List.range 32).flatMap (fun j =>
    regRow (0x70100 + 0x20 * j) 4 7 (nth 0 ([usageMs s j 4] ++ (List.range 4).map (usageMs s j) ++ [limitMs s j 4, limitMs s j 0])))

/-- TM (R359). -/
def tmRegs (s : State) : List (Nat × Nat) :=
  let n := s.tm.qsel
  let q := queueOf s n
  let waits := match tfind s.tm.shapers q.shaper with
    | some h => h.wheel.isSome
    | none => false
  [(0x80000, tmStatusWord s), (0x80004, s.tm.reserve), (0x80010, n), (0x80014, queueBytes q),
    (0x80018, min 65535 q.frames.length + 2 ^ 16 * b2n waits + 2 ^ 17 * b2n ((tget [] s.tm.active q.port).contains n) + 2 ^ 18 * q.cls + 2 ^ 21 * q.port),
    (0x80020, s.tm.finePos + 4096 * s.tm.coarsePos)]

/-- TBL (R337). -/
def tblRegs (s : State) : List (Nat × Nat) :=
  let used := poolUse s.tbl.prefixes
  regRow 0x90000 4 4 (nth 0 [tblStatusWord s, nodeCount s, nbrCount s + 65536 * pinCount s, s.tbl.prefixes.length]) ++
    regRow 0x90010 4 6 (fun i => nth 0 used i + 65536 * tget 0 s.tbl.poolHigh i) ++ [(0x90030, s.tbl.hashSeed), (0x90034, s.tbl.locks.length)] ++
    regRow 0x90040 4 5 (nth 0 [lo32 s.tbl.learnBase, hi32 s.tbl.learnBase, b2n s.tbl.learnEnable + 2 * s.tbl.learnLog2, s.tbl.learnHead, s.tbl.learnTail])

/-- SEC (R394). -/
def secRegs (s : State) : List (Nat × Nat) :=
  regRow 0xA0000 4 8 (nth 0 [secStatusWord s, tamperCauseWord s, s.aon.loopEn, s.sec.tamperLive, s.sec.pufErrors, secSlotsWord s, secSlots2Word s,
    s.sec.lastEvent])

/-- CRY (R422). -/
def xtsRegs (s : State) (r : Nat) : List (Nat × Nat) :=
  let x := tget {} s.cry.regions r
  regRow (0xB0400 + 0x10 * r) 4 4 (nth 0 [lo32 x.base, hi32 x.base, x.pages, b2n x.enable + 2 * x.slot + 2 ^ 13 * b2n (r < 16)])
def cryRegs (s : State) : List (Nat × Nat) :=
  regRow 0xB0000 4 5 (nth 0 [cryStatusWord s, ccmCtxWord s, s.flash.nonce.length, lo32 s.flash.nonceFloor, hi32 s.flash.nonceFloor]) ++
    (List.range 64).flatMap (xtsRegs s)

/-- UPD (R453). -/
def updRegs (s : State) : List (Nat × Nat) :=
  regRow 0xC0000 4 4 (nth 0 [fwStatusWord s, s.upd.fw.held.length, if s.upd.fw.state = 0 then 0 else mfDrops s.upd.fw.manifest, s.otp.svBurnt]) ++
    (List.range 16).flatMap (fun c =>
      let k := campOf s c
      regRow (0xC0100 + 0x10 * c) 4 4 (nth 0 [campStatusWord s c, k.members.length, membersIn k 0, membersIn k 4]))

/-- TIME (R238). -/
def capRegs (s : State) (i : Nat) : List (Nat × Nat) :=
  let c := tget {} s.time.caps i
  let l := c.latched.getD {}
  let word := fun (x : Int) => s2n 64 x
  regRow (0xD0200 + 0x20 * i) 4 7 (nth 0 [match c.queue.head? with | some e => lo32 (word e.raw) | none => 0, hi32 (word l.raw), lo32 (word l.a),
    hi32 (word l.a), lo32 (word l.b), hi32 (word l.b), capStatusWord s i])
def timeRegs (s : State) : List (Nat × Nat) :=
  regRow 0xD0000 4 12 (nth 0 ([lo32 (rawNs s)] ++ s.time.snap.drop 1 ++ [timeStatusWord s, sat32 (residual s.time / 65536), s32 s.time.domA.r,
    s32 s.time.domB.r])) ++
    (List.range 16).flatMap (fun n =>
      let c := cmpOf s n
      regRow (0xD0100 + 0x10 * n) 4 4 (nth 0 [lo32 c.target, hi32 c.target, cmpCtrlWord s n, c.period])) ++ (List.range 5).flatMap (capRegs s)

/-- LNK and TWIN (R483, R484). -/
def lnkRegs (s : State) : List (Nat × Nat) :=
  regRow 0xE0000 0x100 3 (portStatusWord s) ++ [(0xE0400, topoWord s), (0xE0404, s.lnk.hMax)]
def twinRegs (s : State) : List (Nat × Nat) :=
  regRow 0xF0000 4 4 (nth 0 [twinStatusWord s, s.twin.claimOwn + 65536 * s.twin.claimWinner, s.twin.claimPeer, s.twin.deltaSeq])

/-- FWALL (R539). -/
def fwallRegs (s : State) : List (Nat × Nat) :=
  let first := match s.fwall.records with
    | r :: _ => r.addr
    | [] => 0
  let held := match s.fwall.latched with
    | some r => r.addr
    | none => 0
  regRow 0x130000 4 3 (nth 0 [s.fwall.records.length, lo32 (frozenMask s), hi32 (frozenMask s)]) ++
    regRow 0x130010 4 3 (nth 0 [lo32 first, hi32 held, recInfoWord s]) ++ (List.range 64).flatMap (fun r =>
      let x := tget {} s.fwall.regions r
      regRow (0x130100 + 0x10 * r) 4 4 (nth 0 [lo32 x.base, hi32 x.base, x.pages,
        x.read + 256 * x.write + 65536 * b2n x.enable + 131072 * b2n (r < 16)]))

/-- Words in the queue that QSEL selects: the lane-to-fabric queues hold words between steps, every other queue of R556 is empty then. -/
def qflagWords (s : State) : Nat :=
  if s.test.qselQueue < 4 then
    ((s.lane.phys.map (fun e => match e.2.tune, e.2.frame with
      | some u, some f => if u.chain = s.test.qselQueue then f.queued else 0
      | _, _ => 0)).sum)
  else 0
def qflagsWord (s : State) : Nat := let n := qflagWords s; b2n (512 ≤ n) + 2 * b2n (n = 0) + 4 * min 1023 n

/-- HLTH, DUMP, TEST (R540, R556). -/
def hlthRegs (s : State) : List (Nat × Nat) :=
  regRow 0x140000 4 6 (nth 0 [s.hlth.degraded, hlthCoresWord s, s.flash.sramRepairs + 65536 * s.hlth.sramPending, s.flash.retiredPages.length,
    s.flash.flashRemaps.length, hlthOtpWord s])
def testRegs (s : State) : List (Nat × Nat) :=
  regRow 0x160000 4 5 (nth 0 [testStatusWord s, s.test.sent, s.test.received, s.test.errors, bistFailWord s]) ++
    [(0x160020, s.test.qselQueue + 128 * s.test.qselTag), (0x16002C, qflagsWord s)]

/-- CHK (R423). -/
def chkRegs (s : State) (u : Nat) : List (Nat × Nat) :=
  let c := chkOf s u
  let info := match c.results with
    | r :: _ => r.length + 2048 * b2n r.abort + 4096 * b2n r.spawned + 8192 * b2n r.isMatch
    | [] => 0
  regRow (0x170000 + 0x100 * u) 4 7 (nth 0 [b2n c.pause, chkStatusWord s u, c.value, c.init, c.expect, info + 16384 * b2n c.latched.isSome,
    match c.latched with | some r => r.value | none => 0])

/-- The registers of block b that are not RC counters: a write-only register reads 0. -/
def roRegs (b : Nat) (s : State) : List (Nat × Nat) :=
  match b with
  | 0x00 => [(0x10, sysStateWord s), (0x14, 0), (0x18, fwTick s)]
  | 0x01 => [(0x10000, bootStatusWord s)]
  | 0x02 => hifRegs s
  | 0x03 => evtRegs s
  | 0x04 => rfcRegs s
  | 0x05 => laneRegs s
  | 0x06 => slotRegs s
  | 0x07 => budgRegs s
  | 0x08 => tmRegs s
  | 0x09 => tblRegs s
  | 0x0A => secRegs s
  | 0x0B => cryRegs s
  | 0x0C => updRegs s
  | 0x0D => timeRegs s
  | 0x0E => lnkRegs s
  | 0x0F => twinRegs s
  | 0x10 => regRow 0x100000 0x100 2 (ethStatusWord s)
  | 0x11 => [(0x110000, pcieLinkWord s)]
  | 0x12 => [(0x120000, ddrStatusWord s), (0x120020, s.ddr.lastCe), (0x120024, s.ddr.lastUe)]
  | 0x13 => fwallRegs s
  | 0x14 => hlthRegs s
  | 0x15 => regRow 0x150000 4 3 (nth 0 [dumpStatusWord s, s.dump.length, s.flash.dumpSeq])
  | 0x16 => testRegs s
  | 0x17 => (List.range 8).flatMap (chkRegs s)
  | _ => []

/-- Every register of block b with its value, in the order of its offsets within each kind. -/
def blockRegs (b : Nat) (s : State) : List (Nat × Nat) := roRegs b s ++ (rcRegs b s).map (fun x => (x.1, x.2.1))

/-- A word of an MSI-X table or pending-bit array (R129, R500). -/
def msixWord (s : State) (a : Nat) : Option Nat :=
  let table := fun (base n v0 : Nat) =>
    if base ≤ a && a < base + 16 * n then
      let v := v0 + (a - base) / 16
      some (if a % 16 = 12 then b2n (!s.evt.unmasked.contains v) else tget 0 s.evt.msix (a / 4 * 4))
    else none
  let pba := fun (base n v0 : Nat) =>
    if base ≤ a && a < base + cdiv n 8 then some (maskOf ((List.range 32).filter (fun i => s.evt.held.contains (v0 + 8 * (a - base) + i)))) else none
  (table 0x118000 256 0).orElse fun _ => (pba 0x119000 256 0).orElse fun _ => (table 0x11A000 8 256).orElse fun _ => pba 0x11A800 8 256

/-- What a read of BAR0 offset a returns before its side effects: an offset with no register reads 0 (R5). -/
def regRead (s : State) (a : Nat) : Nat :=
  match (blockRegs (a / 0x10000) s).find? (·.1 = a) with
  | some x => x.2
  | none => (msixWord s a).getD 0

/-- RC_COUNTER_READ: the value read, and the counter cleared. -/
def rcRead (a : Nat) (s : State) : State :=
  let v := regRead s a
  let s := match (rcRegs (a / 0x10000) s).find? (·.1 = a) with
    | some x => x.2.2 s
    | none => s
  withHif (fun h => { h with readData := v }) s
def execRcCounterRead (addr : Nat) (s : State) : Host.Outcome State Fault Refusal := .next (rcRead addr s)

/-- ASN_LATCH_READ: ASN_LO read, ASN_HI latched (R279). -/
def asnRead (s : State) : State :=
  withHif (fun h => { h with readData := lo32 s.slot.asn }) (withSlot (fun b => { b with asnLatched := b.asn / 2 ^ 32 }) s)
def execAsnLatchRead (s : State) : Host.Outcome State Fault Refusal := .next (asnRead s)

/-- FWALL_RECORD_READ: REC_ADDR_LO read; the oldest record leaves the queue and is latched (R539). -/
def recordRead (s : State) : State :=
  let v := match s.fwall.records with
    | r :: _ => lo32 r.addr
    | [] => 0
  withHif (fun h => { h with readData := v }) (withFwall (fun f => { f with latched := f.records.head?, records := f.records.drop 1 }) s)
def execFwallRecordRead (s : State) : Host.Outcome State Fault Refusal := .next (recordRead s)

/-! REGISTER_WRITE. -/

/-- A write of a queue pair's registers: bases only while it is not ENABLED, errors clear on a 1 (R99, R100). -/
def writeQp (func q off v : Nat) (s : State) : State :=
  let base := fun (f : QpSt → QpSt) => if (qpOf s q).enabled then s else withQp q f s
  match off with
  | 0x00 => base (fun x => { x with sqBase := hi32 x.sqBase * 2 ^ 32 + v / 64 * 64 })
  | 0x04 => base (fun x => { x with sqBase := lo32 x.sqBase + 2 ^ 32 * v })
  | 0x08 => base (fun x => { x with cqBase := hi32 x.cqBase * 2 ^ 32 + v / 32 * 32 })
  | 0x0C => base (fun x => { x with cqBase := lo32 x.cqBase + 2 ^ 32 * v })
  | 0x10 => if bit v 0 then qpOn func q v s else qpOff func q v s
  | 0x14 => withQp q (fun x => { x with configError := x.configError && !bit v 9, fetchError := x.fetchError && !bit v 10 }) s
  | _ => s

/-- A write of a data ring's registers: BASE and LOG2 only while ENABLE is 0 (R501). -/
def writeRing (off v : Nat) (x : DataRing) : DataRing :=
  match off with
  | 0x00 => if x.enable then x else { x with base := hi32 x.base * 2 ^ 32 + v / 64 * 64 }
  | 0x04 => if x.enable then x else { x with base := lo32 x.base + 2 ^ 32 * v }
  | 0x08 => { x with
      enable := bit v 0, log2 := if x.enable then x.log2 else bits v 4 1, coalCount := bits v 15 8, coalTime := bits v 23 16 }
  | 0x0C => { x with fetchError := x.fetchError && !bit v 12 }
  | _ => x

/-- EVT.SRC_CFG[n]: the vectors the source leaves and takes are settled (R129, R131). -/
def writeSrcCfg (n v : Nat) (s : State) : State :=
  let old := vecOfSrc (srcCfgOf s n)
  let c : SrcCfg := { vector := v % 128, toPf1 := bit v 7, enable := bit v 8 }
  let new := vecOfSrc c
  let wasOld := vecPending s old
  let wasNew := vecPending s new
  let s := withEvt (fun e => { e with srcCfg := tput e.srcCfg n c }) s
  settle new wasNew false (if old = new then s else settle old wasOld false s)

/-- A word of an MSI-X table: the mask bit, or the message's address and data (R129, R500). -/
def writeMsix (v0 off a v : Nat) (s : State) : State :=
  let vec := v0 + off / 16
  if off % 16 ≠ 12 then withEvt (fun e => { e with msix := tput e.msix (a / 4 * 4) v }) s
  else if bit v 0 then withEvt (fun e => { e with unmasked := e.unmasked.filter (· ≠ vec) }) s
  else if vec < 256 then msixUnmask 0 vec s else msixUnmask 1 (vec - 256) s

/-- A write of BAR0 offset a by PF0, or by PF1 within its allowance. A register with a row of its own takes the write as that row does. -/
def writeReg (func a v : Nat) (s : State) : State :=
  if a = 0x14 then (if bits v 17 16 < 2 then resetCtrl (bits v 17 16 = 1) (v % 65536) s else s)
  else if 0x20000 ≤ a && a < 0x20200 then
    let q := (a - 0x20000) / 8
    if a % 8 = 0 then sqDoorbell q v s else cqDoorbell q v s
  else if 0x20200 ≤ a && a < 0x20280 then thDoorbell ((a - 0x20200) / 4) v s
  else if 0x20280 ≤ a && a < 0x20300 then fhDoorbell ((a - 0x20280) / 4) v s
  else if 0x21000 ≤ a && a < 0x22000 then writeQp func ((a - 0x21000) / 0x40) (a % 0x40) v s
  else if 0x22000 ≤ a && a < 0x22400 then withTh ((a - 0x22000) / 0x20) (writeRing (a % 0x20) v) s
  else if 0x22400 ≤ a && a < 0x22800 then withFh ((a - 0x22400) / 0x20) (writeRing (a % 0x20) v) s
  else if 0x30100 ≤ a && a < 0x30130 then evtClear ((a - 0x30100) / 4) v s
  else if 0x30200 ≤ a && a < 0x30220 then withEvt (fun e => { e with irqSel := tput e.irqSel ((a - 0x30200) / 4) (v % 1024) }) s
  else if 0x31000 ≤ a && a < 0x31600 then writeSrcCfg ((a - 0x31000) / 4) v s
  else if a = 0x80010 then withTm (fun t => { t with qsel := v % 4096 }) s
  else if a = 0x9004C then learnHeadWrite v s
  else if 0xD0200 ≤ a && a < 0xD02A0 && a % 0x20 = 0x18 then
    withCap ((a - 0xD0200) / 0x20) (fun c => { c with ovf := c.ovf && !bit v 7 }) s
  else if 0x118000 ≤ a && a < 0x119000 then writeMsix 0 (a - 0x118000) a v s
  else if 0x11A000 ≤ a && a < 0x11A080 then writeMsix 256 (a - 0x11A000) a v s
  else if a = 0x160020 then withTest (fun t => { t with qselQueue := v % 128, qselTag := bits v 13 7 }) s
  else if 0x170000 ≤ a && a < 0x170800 then
    let u := (a - 0x170000) / 0x100
    match a % 0x100 with
    | 0x00 => chkPauseWrite u v s
    | 0x04 => withChkU u (fun c => { c with ovf := c.ovf && !bit v 18, writeIgnored := c.writeIgnored && !bit v 19 }) s
    | 0x08 => chkValueWrite u v s
    | _ => s
  else s

/-- PF1 may write doorbells and configuration of queue pairs with FUNC 1, and SYS.RESET_CTRL (R500). -/
def pf1May (s : State) (a : Nat) : Bool :=
  a = 0x14 || (0x20000 ≤ a && a < 0x20200 && (qpOf s ((a - 0x20000) / 8)).func = 1) ||
    (0x21000 ≤ a && a < 0x22000 && (qpOf s ((a - 0x21000) / 0x40)).func = 1)

/-- REGISTER_WRITE: dropped while the function is frozen (R520), and counted where PF1 may not write (R500). -/
def registerWrite (func a v : Nat) (s : State) : State :=
  if 1 < func || a % 4 ≠ 0 || pfFrozen s func then s
  else if func = 1 && !pf1May s a then pf1Drop s
  else writeReg func a (v % 2 ^ 32) s
def execRegisterWrite (func addr value : Nat) (s : State) : Host.Outcome State Fault Refusal := .next (registerWrite func addr value s)

end Sys2Proof.Machine
end

