-- ==== Sys2Proof/Machine/Health.lean ====
section
/-!
DEFINITION. Dumps and the fatal path, the firewall, memory errors, spares, temperature, and the HLTH and DIAG commands (R63, R506-R508,
R515-R542).
-/
namespace Sys2Proof.Machine

/-! Dumps (R534-R538). -/

/-- The registers of a block as a section: offset and value, read without side effects. -/
def regSection (s : State) (b : Nat) : Nat × Nat × List Byte := (1, b, (blockRegs b s).flatMap (fun x => le 4 x.1 ++ le 4 x.2))

/-- A section whose layout the spec leaves open (log entry 21). -/
def openSection (s : State) (t i : Nat) : Nat × Nat × List Byte := (t, i, Config.dumpSection t i s.free)

/-- The sections of a dump, as TYPE, INSTANCE and bytes, in the order of the flash slot (R536, R537). -/
def dumpSections (s : State) : List (Nat × Nat × List Byte) :=
  [openSection s 7 0] ++ (List.range 10).map (openSection s 2) ++ (List.range 25).map (regSection s) ++
    [openSection s 4 0, (6, 0, (List.range 4096).flatMap (fun n => (descWords (slotOf s n)).flatMap (le 4))), openSection s 5 0,
      (8, 0, (List.range 12).flatMap (fun k => le 4 (causeWord s k)) ++ (List.range 384).flatMap (fun n => le 4 (srcCfgWord (srcCfgOf s n)))),
      openSection s 3 0, openSection s 10 0, openSection s 11 0, openSection s 9 0]

/-- The sections the ROM handler writes (R534). -/
def romSections (s : State) : List (Nat × Nat × List Byte) := [0, 1, 0x0A, 0x14, 0x15].map (regSection s)

/-- The section table from offset o. -/
def sectionTable : Nat → List (Nat × Nat × List Byte) → List Byte
  | _, [] => []
  | o, (t, i, l) :: r => le 2 t ++ le 2 i ++ le 4 o ++ le 4 l.length ++ le 4 (crc32c l) ++ sectionTable (o + l.length) r

/-- The header (R535). -/
def dumpHeader (s : State) (cause flags core count total seq : Nat) : List Byte :=
  let h := ascii "ZBDP" ++ le 2 1 ++ le 1 cause ++ le 1 flags ++ le 4 (sysStateWord s) ++ le 4 (bootStatusWord s) ++ le 8 (rawNs s) ++
    le 5 s.slot.asn ++ zeros 3 ++ fit 8 s.upd.fw.runTag ++ le 4 s.upd.fw.runSv ++ fit 8 Config.serial ++ le 2 core ++ le 2 count ++ le 4 total ++
    le 4 seq ++ fit 64 (Config.dumpSection 0 cause s.free) ++ zeros 124
  h ++ le 4 (crc32c h)

/-- A whole dump, cut at a limit with TRUNCATED set (R537). -/
def dumpOf (s : State) (cause flags core limit : Nat) (secs : List (Nat × Nat × List Byte)) (seq : Nat) : DumpRec :=
  let body := sectionTable (256 + 16 * secs.length) secs ++ secs.flatMap (fun x => x.2.2)
  let total := 256 + body.length
  let f := if limit < total then flags + 16 else flags
  { cause := cause, flags := f, length := min total limit, seq := seq, bytes := (dumpHeader s cause f core secs.length total seq ++ body).take limit }

/-- The flash dump slot that holds no unreleased dump. -/
def freeDumpSlot (s : State) : Option Nat := [0, 1].find? (fun i => (tfind s.flash.dumps i).isNone)

/-- The dump of a fatal error: to DRAM, and to a free flash slot; by the ROM handler to flash only (R534, R537). -/
def writeDump (rom : Bool) (cause core : Nat) (s : State) : State :=
  let seq := (s.flash.dumpSeq + 1) % 2 ^ 32
  let secs := if rom then romSections s else dumpSections s
  let d := dumpOf s cause (if rom then 5 else 1) core (2 ^ 26) secs seq
  let f := dumpOf s cause (if rom then 5 else 1) core (2 ^ 25) secs seq
  let t := withDump (fun x => { x with
    writing := false, dram := if rom then x.dram else some d, skipped := (freeDumpSlot s).isNone, cause := cause, length := d.length }) s
  tick1 (withFlash (fun x => { x with
    dumpSeq := seq, dumps := match freeDumpSlot s with
      | some i => tput x.dumps i f
      | none => x.dumps }) t)

/-- The ROM runs, so that only its handler can write a dump. -/
def romRuns (s : State) : Bool :=
  match s.sys.devState with
  | .bootRom | .pufRegen | .fwVerify => true
  | _ => false

/-- A fatal error (R533, R534): the data path stops, the dump is written, the keys and the root are zeroised with the salt kept, and every
core stops. -/
def fatal (cause core : Nat) (s : State) : State :=
  match s.sys.devState with
  | .off | .reset | .tamperHold | .halted => s
  | _ =>
    let s := writeDump (romRuns s || cause = 7 || cause = 8) cause core s
    let s := stopAll (withTest (fun t => { t with run := none, last := none }) s)
    let s := withHif (fun h => { h with flights := [], delayList := [] }) s
    let s := withSec (fun b => { b with slots := [], root := [], rootReady := false }) s
    withSys (fun x => { x with devState := .halted, haltCause := some cause, resetKind := none }) s

/-- FATAL_ERROR: a core that takes an uncorrectable error is excluded at the next boot (R527, R533). -/
def fatalError (cause core : Nat) (s : State) : State :=
  if cause = 0 || 0xB < cause then s
  else
    let mark := cause = 0xA && core < 10 && (reporting s || romRuns s)
    fatal cause core (if mark then withFlash (fun f => { f with failedCores := setBit f.failedCores core }) s else s)
def execFatalError (cause core : Nat) (s : State) : Host.Outcome State Fault Refusal := .next (fatalError cause core s)

/-! Temperature (R63, R387). -/

/-- Warning, trip and tamper thresholds by grade. -/
def hotLimits : Int × Int × Int := if Config.grade = 0 then (105, 120, 135) else (120, 135, 150)

/-- TEMPERATURE_SAMPLE: the trip is fatal, ten consecutive samples beyond the tamper thresholds are an alarm, and the warning comes again
with each further 2 degrees. -/
def temperature (degC : Int) (s : State) : State :=
  let s := withSys (fun x => { x with tempNow := degC }) s
  let l := hotLimits
  let n := if l.2.2 ≤ degC || degC ≤ -50 then min 10 (s.sec.tempHot + 1) else 0
  let s := withSec (fun x => { x with tempHot := n, tamperLive := if n = 0 then clrBit x.tamperLive 2 else x.tamperLive }) s
  let s := if l.2.1 ≤ degC then fatal 6 0xFFFF s else s
  let s := if n = 10 && s.sec.tamperLive.testBit 2 = false then tamper 2 s else s
  if degC < l.1 then withSys (fun x => { x with thermalLast := none }) s
  else
    let again := match s.sys.thermalLast with
      | some t => t + 2 ≤ degC
      | none => true
    if again && reporting s then raise 0x15A (withSys (fun x => { x with thermalLast := some degC }) s) else s
def execTemperatureSample (degC : Int) (s : State) : Host.Outcome State Fault Refusal := .next (temperature degC s)

/-! The firewall (R515-R521). -/

/-- The group of a master (R515). -/
def masterGroup (m : Nat) : Nat :=
  if m < 10 then 0 else if m < 18 then 1 else if m < 26 then 2 else if m = 26 then 3 else if m = 27 then 4 else if m < 32 then 5
  else if m = 32 then 6 else 7

/-- The region that decides for a page: the lowest-numbered enabled region that contains it (R516). -/
def decidingRegion (s : State) (a : Nat) : Option (Nat × FwRegion) :=
  let p := a / 4096 * 4096
  (List.range 64).findSome? (fun i =>
    let r := tget {} s.fwall.regions i
    if r.enable && r.base ≤ p && p < r.base + regionBytes r then some (i, r) else none)

/-- An access of a master is allowed. -/
def fwallAllows (s : State) (m a : Nat) (isWrite : Bool) : Bool :=
  match decidingRegion s a with
  | some (_, r) => bit (if isWrite then r.write else r.read) (masterGroup m)
  | none => false

/-- What a frozen master leaves undone (R520). -/
def freezeEffect (m : Nat) (s : State) : State :=
  if m < 10 then endFlights stFrozen (fun f => Config.onThread s.free f.qp f.hdr.tag) (tick1 s)
  else if m < 18 then endFlights stFrozen (fun f => f.qp < 64 && f.qp % 8 = m - 10) s
  else if m < 28 then s
  else if m < 32 then
    (List.range 104).foldl (fun s p => match (physOf s p).tune with
      | some u => if u.chain = m - 28 then (if (physOf s p).frame.isSome then noBuffer p s else s) else s
      | none => s) s
  else if m = 32 then s.upd.camps.foldl (fun s e => pauseCamp e.1 s) s
  else if (portOf s (m - 33)).state = 0 then s else takeDown (m - 33) s

/-- A record for the violation queue; one that meets a full queue is dropped (R519). -/
def pushRecord (r : FwRec) (s : State) : State :=
  if 8 ≤ s.fwall.records.length then raise 0x151 s else withFwall (fun f => { f with records := f.records ++ [r] }) s

/-- FWALL_VIOLATION: the access is not performed; the master is frozen and recorded. The recovery core's is fatal (R519, R520). -/
def violation (m a : Nat) (isWrite : Bool) (s : State) : State :=
  if 35 < m || s.fwall.frozen.contains m || fwallAllows s m a isWrite then s
  else
    let rec0 : FwRec := {
      master := m, addr := a % 2 ^ 48, isWrite := isWrite,
      region := match decidingRegion s a with
        | some (i, _) => i
        | none => 127 }
    let s := withFwall (fun f => { f with
      frozen := f.frozen ++ [m], ownerReset := f.ownerReset.filter (· ≠ m), violations := satInc f.violations }) s
    let s := freezeEffect m (raise 0x150 (pushRecord rec0 s))
    if m = recoveryCore s then fatal 2 m s else s
def execFwallViolation (master addr : Nat) (write : Bool) (s : State) : Host.Outcome State Fault Refusal := .next (violation master addr write s)

/-- MASTER_OWNER_RESET. -/
def ownerReset (m : Nat) (s : State) : State :=
  if !s.fwall.frozen.contains m || s.fwall.ownerReset.contains m then s else withFwall (fun f => { f with ownerReset := f.ownerReset ++ [m] }) s
def execMasterOwnerReset (master : Nat) (s : State) : Host.Outcome State Fault Refusal := .next (ownerReset master s)

/-- DIAG_UNFREEZE (R521); a Dalhiuf port retrains on release (R520). -/
def diagUnfreeze (h : Hdr) (_p : DiagUnfreezeP) (s : State) : Res :=
  let m := h.flow - 0x100
  if !s.fwall.frozen.contains m then done s (le 1 0)
  else if !s.fwall.ownerReset.contains m then refuse s stBusy
  else
    let s := withFwall (fun f => { f with frozen := f.frozen.filter (· ≠ m), ownerReset := f.ownerReset.filter (· ≠ m) }) s
    let q := portOf s (m - 33)
    done (if 33 ≤ m && q.enable && q.lock && !q.held && q.state = 0 then withPort (m - 33) (fun x => { x with state := 1 }) s else s) (le 1 1)
def execDiagUnfreeze (h : Hdr) (p : DiagUnfreezeP) (s : State) : Host.Outcome State Fault Refusal := agentRun h (.diagUnfreeze p) (diagUnfreeze h p) s

/-- DIAG_FW_REGION (R516, R542). -/
def diagFwRegion (_h : Hdr) (p : DiagFwRegionP) (s : State) : Res :=
  let put := fun (r : FwRegion) => done (withFwall (fun f => { f with regions := tput f.regions p.region r }) s)
  if p.region < 16 || 63 < p.region || 1 < p.op then refuse s stBadParam
  else if p.op = 0 then put { tget {} s.fwall.regions p.region with enable := false }
  else if p.base % 4096 ≠ 0 || 2 ^ 48 ≤ p.base || p.size % 4096 ≠ 0 || p.size < 4096 || 2 ^ 34 < p.size then refuse s stBadParam
  else put { base := p.base, pages := p.size / 4096, read := p.readGroups, write := p.writeGroups, enable := true }
def execDiagFwRegion (h : Hdr) (p : DiagFwRegionP) (s : State) : Host.Outcome State Fault Refusal :=
  agentRun h (.diagFwRegion p) (diagFwRegion h p) s

/-- A dump by its source: DRAM, or a flash slot (R542). -/
def dumpAt (s : State) (src : Nat) : Option DumpRec := if src = 0 then s.dump.dram else tfind s.flash.dumps (src - 1)

/-- DIAG_DUMP_READ; before INIT the ROM serves flash only (R538, R542). -/
def diagDumpRead (_h : Hdr) (p : DiagDumpReadP) (s : State) : Res :=
  if 1 < p.op || 2 < p.src || 16384 < p.len then refuse s stBadParam
  else if p.src = 0 && !reporting s then refuse s stBusy
  else if p.op = 1 then
    done (if p.src = 0 then withDump (fun d => { d with dram := none }) s
      else withFlash (fun f => { f with dumps := tdel f.dumps (p.src - 1) }) s) (zeros 8)
  else match dumpAt s p.src with
    | none => done s (zeros 8)
    | some d =>
      let l := ((d.bytes.take d.length).drop p.offset).take p.len
      done (toHost p.bufferAddr l s) (le 4 l.length ++ le 4 d.length)
def execDiagDumpRead (h : Hdr) (p : DiagDumpReadP) (s : State) : Host.Outcome State Fault Refusal :=
  agentRun h (.diagDumpRead p) (diagDumpRead h p) s

/-! DRAM (R506-R508, R523, R525, R530). -/

/-- A mebibyte. -/
def mib : Nat := 1048576

/-- The page that page p stands for: a page of the retirement pool holds the data of the page it replaced. -/
def originalPage (s : State) (p : Nat) : Nat := s.flash.retiredPages.reverse.foldl (fun p e => if p = e.2 then e.1 else p) p

/-- A page becomes a retirement pageCandidate, once (R525, R530). -/
def pageCandidate (page : Nat) (s : State) : State :=
  if s.ddr.candidates.contains page || s.flash.retiredPages.any (·.1 = page) then s
  else hlthCnt 3 (withDdr (fun d => { d with candidates := d.candidates ++ [page] }) s)

/-- The times within 24 h, with one more. -/
def within24h (s : State) (l : List Nat) : List Nat := l.filter (fun t => rawSec s < t + 86400) ++ [rawSec s]

/-- DRAM_CE: corrected and counted, the event at most once per second; the 16th in a page within 24 h makes it a pageCandidate. -/
def dramCe (a : Nat) (s : State) : State :=
  let page := a / 4096
  let l := within24h s (tget [] s.ddr.pageErrs page)
  let new := s.ddr.ceSec ≠ some (rawSec s)
  let s := withDdr (fun d => { d with
    cnt := bump d.cnt 0, lastCe := a / 64 % 2 ^ 32, ceSec := some (rawSec s), pageErrs := tput d.pageErrs page l }) s
  let s := raiseIf new 0x148 s
  if 16 ≤ l.length then pageCandidate page s else s
def execDramCe (addr : Nat) (s : State) : Host.Outcome State Fault Refusal := .next (dramCe addr s)

/-- Bytes of a list replaced from place o. -/
def patchAt (o : Nat) (v l : List Byte) : List Byte := l.take o ++ v ++ l.drop (o + v.length)

/-- The sections of a dump that overlap the 64 bytes at o keep their entries with CRC 0xFFFF_FFFF (R523, R536). -/
def damageDump (o : Nat) (d : DumpRec) : DumpRec :=
  { d with bytes := (List.range (fieldAt 2 54 d.bytes)).foldl (fun l i =>
      let at_ := fieldAt 4 (260 + 16 * i) l
      let len := fieldAt 4 (264 + 16 * i) l
      if at_ < o + 64 && o < at_ + len then patchAt (268 + 16 * i) (le 4 0xFFFFFFFF) l else l) d.bytes }

/-- Every counter of a unit of the air budget window reads 1,000,000 us (R523). -/
def damageBudget (u : Nat) (s : State) : State :=
  let now := rawSec s
  let hit := (List.range (min (now + 1) 7200)).flatMap (fun k => (List.range 32).flatMap (fun j => (List.range 5).filterMap (fun c =>
    if Config.budgetUnit (now - k) j c = u then some ({ bucket := now - k, band := j, scope := c, us := 1000000 } : Debit) else none)))
  withBudg (fun b => { b with
    debits := b.debits.filter (fun d => Config.budgetUnit d.bucket d.band d.scope ≠ u) ++ hit }) s

/-- A unit of a campaign's image is lost: the campaign enters PAUSED (R523). -/
def damageImage (c : Nat) (s : State) : State :=
  let k := campOf s c
  if k.state = 2 || k.state = 3 then withCamp c (fun k => { k with state := 6, pausedFrom := k.state }) s else pauseCamp c s

/-- The 64 bytes at o of a member's bitmap are cleared (R523). -/
def damageBitmap (i o : Nat) (s : State) : State :=
  s.upd.camps.foldl (fun s e => match tfind e.2.members i with
    | some m => withCamp e.1 (fun k => { k with
        members := tput k.members i { m with bitmap := patchAt o (zeros (min 64 (m.bitmap.length - o))) m.bitmap } }) s
    | none => s) s

/-- What an uncorrectable error of the unit at byte o of the fixed regions leads to (R19, R523). -/
def regionDamage (a : Nat) (s : State) : State :=
  if a < 256 * mib then fatal 3 0xFFFF s
  else if a < 272 * mib then
    let n := (a - 256 * mib) / 64
    withTbl (fun t => { t with nodes := t.nodes.map (fun e => if e.1 = n then (e.1, { e.2 with bad := true }) else e) }) s
  else if a < 280 * mib then
    let n := (a - 272 * mib) / 256
    withTbl (fun t => { t with nbrs := t.nbrs.map (fun e => if e.1 = n then (e.1, { e.2 with bad := true }) else e) }) s
  else if a < 296 * mib then withSec (fun b => { b with records := tdel b.records ((a - 280 * mib) / 64) }) s
  else if a < 328 * mib then
    let u := Config.listUnit ((a - 296 * mib) / 64)
    withDdr (fun d => { d with skipUnits := if d.skipUnits.contains u then d.skipUnits else d.skipUnits ++ [u] }) s
  else if a < 336 * mib then damageBudget ((a - 328 * mib) / 64) s
  else if a < 400 * mib then damageImage ((a - 336 * mib) / (4 * mib)) s
  else if a < 528 * mib then damageBitmap ((a - 400 * mib) / 512) ((a - 400 * mib) % 512 / 64 * 64) s
  else if a < 592 * mib then withDump (fun d => { d with dram := d.dram.map (damageDump ((a - 528 * mib) / 64 * 64)) }) s
  else s

/-- DRAM_UE: counted, poisoned, the page a pageCandidate, and the outcome of its region (R507, R523). -/
def dramUe (a : Nat) (s : State) : State :=
  let u := a / 64
  let s := withDdr (fun d => { d with
    cnt := bump d.cnt 1, lastUe := u % 2 ^ 32, poisoned := if d.poisoned.contains u then d.poisoned else d.poisoned ++ [u] }) s
  regionDamage (originalPage s (a / 4096) * 4096 + a % 4096) (pageCandidate (a / 4096) (raise 0x149 s))
def execDramUe (addr : Nat) (s : State) : Host.Outcome State Fault Refusal := .next (dramUe addr s)

/-- DDR_CA_ALERT: retried once; a second alert raises EV_DDR_CA_FAULT and the access is an uncorrectable error (R506). -/
def caAlert (a : Nat) (again : Bool) (s : State) : State :=
  let s := withDdr (fun d => { d with cnt := bump d.cnt 2 }) s
  if again then dramUe a (raise 0x14B (withDdr (fun d => { d with cnt := bump d.cnt 2 }) s)) else s
def execDdrCaAlert (addr : Nat) (again : Bool) (s : State) : Host.Outcome State Fault Refusal := .next (caAlert addr again s)

/-- PATROL_SCRUB: a pass that has come round is counted (R507, R512). -/
def patrolScrub (wrapped : Bool) (s : State) : State := if wrapped then withDdr (fun d => { d with cnt := bump d.cnt 3 }) s else s
def execPatrolScrub (wrapped : Bool) (s : State) : Host.Outcome State Fault Refusal := .next (patrolScrub wrapped s)

/-- DDR_TEMP_POLL (R508). -/
def ddrTemp (degC : Int) (s : State) : State :=
  if 85 ≤ degC then (if s.ddr.refresh2x then s else raise 0x14A (withDdr (fun d => { d with refresh2x := true }) s))
  else if degC < 80 then withDdr (fun d => { d with refresh2x := false }) s
  else s
def execDdrTempPoll (degC : Int) (s : State) : Host.Outcome State Fault Refusal := .next (ddrTemp degC s)

/-- PAGE_RETIRE_DONE: the next page of the pool takes a pageCandidate's place (R526, R530). -/
def retireDone (page : Nat) (s : State) : State :=
  if !s.ddr.candidates.contains page then s
  else
    let n := s.flash.retiredPages.length
    let s := withDdr (fun d => { d with candidates := d.candidates.filter (· ≠ page) }) s
    if 16384 ≤ n then exhausted 2 s
    else raise 0x15D (withFlash (fun f => { f with retiredPages := f.retiredPages ++ [(page, 592 * 256 + n)] }) s)
def execPageRetireDone (page : Nat) (s : State) : Host.Outcome State Fault Refusal := .next (retireDone page s)

/-- FLASH_BLOCK_FAIL (R525, R531). -/
def flashFail (block : Nat) (s : State) : State := if 8192 ≤ block then s else (remapBlock block s).1
def execFlashBlockFail (block : Nat) (s : State) : Host.Outcome State Fault Refusal := .next (flashFail block s)

/-! SRAM (R522, R525): 0 packet buffer, 1 core L2, 2 schedule cache, 3 security island, 4 trie, 5 hash cache, 6 neighbour cache. -/

/-- A corrected error of a row; the 8th within 24 h enters a soft repair in the log. -/
def rowError (mem row : Nat) (s : State) : State :=
  let k := 2 ^ 32 * mem + row % 2 ^ 32
  let old := tget [] s.hlth.rowErrs k
  if 8 ≤ old.length then s
  else
    let l := within24h s old
    let s := withHlth (fun h => { h with rowErrs := tput h.rowErrs k l }) s
    if l.length < 8 then s else raise 0x15C (hlthCnt 3 (withHlth (fun h => { h with sramPending := h.sramPending + 1 }) s))

/-- A frame of queue q loses a cell: it is dropped and counted; on port AIR its attempt fails (R522). -/
def loseQueued (q : Nat) (f : QFrame) (s : State) : State :=
  if (queueOf s q).port ≠ 6 then leaveQueue q f.id false s
  else match (List.range 4).findSome? (fun c => ((chainOf s c).txs.find? (fun t =>
      t.entry.kind = 0 && t.entry.queue = q && t.entry.frameId = f.id && t.phase ≤ 1)).map (fun t => (c, t))) with
    | some (c, t) => endEntry stTimeout t.entry (withChain c (fun k => { k with txs := k.txs.filter (· ≠ t) }) s)
    | none => failFrame { kind := 0, queue := q, frameId := f.id, neighbour := f.neighbour } s

/-- The frames that hold a cell of a row of the packet buffer: those of the queues, and those a lane receives (R522). -/
def loseRow (row : Nat) (s : State) : State :=
  let held := s.tm.bufs.filter (fun b => Config.rowHolds b.handle row)
  let s := (s.tm.queues.flatMap (fun e => (e.2.frames.filter (fun f => held.any (·.id = f.buf))).map (fun f => (e.1, f)))).foldl
    (fun s x => loseQueued x.1 x.2 s) s
  (List.range 104).foldl (fun s p => match (physOf s p).frame with
    | some f => if Config.rowHolds f.handle row then abortFrame p none s else s
    | none => s) s

/-- SRAM_ECC_ERROR. -/
def sramError (mem : Nat) (uncorrectable dirty : Bool) (row : Nat) (s : State) : State :=
  if 6 < mem then s
  else if mem < 4 && !uncorrectable then rowError mem row (hlthCnt 0 s)
  else
    let s := hlthCnt 1 s
    if mem = 1 && dirty then fatal 4 0xFFFF s
    else if mem = 3 then fatal 9 0xFFFF s
    else if 4 ≤ mem then parityMiss (raise 0x162 s)
    else raise 0x162 (if mem = 0 then loseRow row s else s)
def execSramEccError (mem : Nat) (uncorrectable dirty : Bool) (row : Nat) (s : State) : Host.Outcome State Fault Refusal :=
  .next (sramError mem uncorrectable dirty row s)

/-! Cores (R525-R527). -/

/-- The spare core that takes over next. -/
def spareCore (s : State) : Option Nat := (List.range 10).find? (fun c => !bit s.hlth.coresActive c && !bit s.flash.failedCores c)

/-- A core found failing is marked failed; an active one is drained, and the lowest-numbered spare joins. Fewer than 6 are fatal. -/
def drainCore (c : Nat) (s : State) : State :=
  let was := bit s.hlth.coresActive c
  let s := hlthCnt 3 (withFlash (fun f => { f with failedCores := setBit f.failedCores c }) s)
  if !was then s
  else
    let s := withHlth (fun h => { h with coresActive := clrBit h.coresActive c }) s
    match spareCore s with
    | some q => raise 0x15B (withHlth (fun h => { h with coresActive := setBit h.coresActive q }) s)
    | none =>
      let s := degrade 2 (exhausted 0 s)
      if coresActive s < 6 then fatal 5 c s else s

/-- CORE_FAIL: the idle self-test of a core fails. -/
def coreFail (c : Nat) (s : State) : State := if 9 < c || bit s.flash.failedCores c then s else drainCore c (hlthCnt 2 s)
def execCoreFail (core : Nat) (s : State) : Host.Outcome State Fault Refusal := .next (coreFail core s)

/-- CORE_WATCHDOG_EXPIRY: the third within 24 h is a failure. -/
def coreWatchdog (c : Nat) (s : State) : State :=
  if 9 < c || !bit s.hlth.coresActive c then s
  else
    let l := within24h s (tget [] s.hlth.watchdogs c)
    let s := withHlth (fun h => { h with watchdogs := tput h.watchdogs c l }) s
    if 3 ≤ l.length then drainCore c s else s
def execCoreWatchdogExpiry (core : Nat) (s : State) : Host.Outcome State Fault Refusal := .next (coreWatchdog core s)

/-! Commands (R542). -/

/-- HLTH_STATUS. -/
def hlthStatus (_h : Hdr) (p : HlthStatusP) (s : State) : Res :=
  if 1 < p.clear then refuse s stBadParam
  else done (if p.clear = 1 then withHlth (fun h => { h with cnt := [] }) s else s)
    (le 4 s.hlth.degraded ++ le 1 (coresActive s) ++ le 1 (coresSpare s) ++ le 1 (sparesFree s) ++ le 1 s.otp.enrolled ++
      le 2 s.flash.retiredPages.length ++ le 2 s.flash.flashRemaps.length ++ le 2 (popcount s.otp.dead 16) ++ le 2 s.otp.svBurnt ++
      le 2 s.otp.clearBurnt ++ le 2 s.sec.pufErrors)
def execHlthStatus (h : Hdr) (p : HlthStatusP) (s : State) : Host.Outcome State Fault Refusal := agentRun h (.hlthStatus p) (hlthStatus h p) s

/-- HLTH_SPARE_MAP: the maps of R540, and LANE.LMAP. -/
def hlthSpareMap (_h : Hdr) (p : HlthSpareMapP) (s : State) : Res :=
  if 1 < p.op || (p.op = 1 && 8 < p.reserve) then refuse s stBadParam
  else
    let s := if p.op = 1 then withLane (fun b => { b with reserve := p.reserve }) s else s
    done (toHost p.bufferAddr ((hlthRegs s).flatMap (fun x => le 4 x.2) ++ (List.range 96).flatMap (fun n => le 4 (lmapWord s n))) s)
      (le 1 s.lane.reserve)
def execHlthSpareMap (h : Hdr) (p : HlthSpareMapP) (s : State) : Host.Outcome State Fault Refusal :=
  agentRun h (.hlthSpareMap p) (hlthSpareMap h p) s

/-- A resource retired by the host: taken over by a spare, or retired without one. -/
def retired (spare : Bool) (s : State) : Res := { st := s, status := if spare then stOk else stDegraded, data := le 1 (b2n spare) }

/-- HLTH_RETIRE. -/
def hlthRetire (_h : Hdr) (p : HlthRetireP) (s : State) : Res :=
  let i := p.index
  match p.kind with
  | 0 =>
    if 9 < i || i = recoveryCore s then refuse s stBadParam
    else if bit s.hlth.coresActive i then retired (spareCore s).isSome (drainCore i s)
    else done (if bit s.flash.failedCores i then s else drainCore i s) (le 1 0)
  | 1 =>
    if 103 < i then refuse s stBadParam
    else if roleOf s i = 0 then
      retired ((List.range 104).any (fun q => roleOf s q = 1 || roleOf s q = 2)) (failPhys i s)
    else done (failPhys i s) (le 1 0)
  | 2 =>
    if 256 * s.sys.dramMib ≤ i then refuse s stBadParam
    else if 16384 ≤ s.flash.retiredPages.length then refuse (exhausted 2 s) stNoRoom
    else done (pageCandidate i s) (le 1 1)
  | 3 =>
    if i < 16 || 8192 ≤ i then refuse s stBadParam
    else if 496 ≤ s.flash.flashRemaps.length then refuse (exhausted 3 s) stNoRoom
    else done (remapBlock i s).1 (le 1 1)
  | 4 =>
    if 2 < i || i = s.otp.pufArray then refuse s stBadParam
    else done (withOtp (fun o => { o with pufBad := setBit o.pufBad i }) s) (le 1 0)
  | _ => refuse s stBadParam
def execHlthRetire (h : Hdr) (p : HlthRetireP) (s : State) : Host.Outcome State Fault Refusal := agentRun h (.hlthRetire p) (hlthRetire h p) s

end Sys2Proof.Machine
end

