-- ==== Sys2Proof/Machine/Boot.lean ====
section
/-!
DEFINITION. The boot ROM, INIT, LULL, and the SYS commands that do not end in a reset of their own (R19, R64-R94, R97, R137, R196, R363-R369,
R404, R436-R443, R509, R516, R524-R528, R538, R554).
-/
namespace Sys2Proof.Machine

/-! The boot ROM (R76-R84). -/

/-- The manifest a slot holds: as this part loaded it, or as it was programmed before (log entry 5). -/
def slotMf (s : State) (f : Nat) : List Byte := (tfind s.flash.slotManifest f).getD (Config.factoryManifest f)

/-- The security version of a slot. -/
def slotSv (p : BootProbe) (f : Nat) (s : State) : Nat :=
  match tfind s.flash.slotManifest f with
  | some m => mfSv m
  | none => if f = 0 then p.svA else p.svB

/-- The init stage of a slot this part has loaded holds what its manifest names (R76 step 8). -/
def slotStageOk (s : State) (f : Nat) : Bool :=
  match tfind s.flash.slotManifest f with
  | some m => segHeld m (tget [] s.flash.slotImage f) 0 && segHashGood m (tget [] s.flash.slotImage f) 0
  | none => true

/-- SLOT_x_RESULT of steps 6 to 8 (R74, R80): the probe shows what the flash and the signature check show. -/
def slotResult (p : BootProbe) (f : Nat) (s : State) : Nat :=
  let r := if f = 0 then p.resultA else p.resultB
  if 2 ≤ r && r ≤ 4 then r else if slotSv p f s < s.otp.svBurnt then 5 else if r = 6 || !slotStageOk s f then 6 else 1

/-- STEP after a slot with this result. -/
def resultStep (r : Nat) : Nat := if r = 1 then 9 else if r = 5 then 6 else if r = 6 then 7 else 5

/-- The result of a slot entered in BOOT.STATUS. -/
def setResult (f r : Nat) (s : State) : State :=
  withBoot (fun b => if f = 0 then { b with slotA := r } else { b with slotB := r }) s

/-- INIT on a slot: its init stage runs. -/
def enterInit (p : BootProbe) (f : Nat) (s : State) : State :=
  let m := slotMf s f
  let sv := slotSv p f s
  let b := s.flash.bootRec
  let s := withFw (fun x => { x with imageVersion := mfVersion m, runTag := tagOf m, runSv := sv, runManifest := m }) s
  withSys (fun x => { x with devState := .init, bootSlot := f, trial := b.valid && b.trial && b.preferred = f, recovery := false }) s

/-- FW_VERIFY waits for a recovery image (R84). -/
def waitImage (s : State) : State := withBoot (fun b => { b with waitingImage := true, bootSource := s.sys.strap % 4 }) s

/-- The slots in order, those already marked left out; where none verifies, the wait (R80, R84). -/
def trySlots (p : BootProbe) : List Nat → State → State
  | [], s => waitImage s
  | f :: l, s =>
    let r := slotResult p f s
    let s := setResult f r (withBoot (fun b => { b with step := max b.step (resultStep r) }) s)
    if r = 1 then enterInit p f s else trySlots p l s

/-- The slot that failed in INIT or on trial gets result 7, and a trial one loses its preference (R81). -/
def markFailed (f : Nat) (s : State) : State :=
  let b := s.flash.bootRec
  let s := setResult f 7 (withSys (fun x => { x with slotFailed := none }) s)
  if b.valid && b.trial && b.preferred = f then writeBoot (fun b => { b with preferred := b.committed, trial := false }) s else s

/-- FW_VERIFY (R80, R81, R84, R509). -/
def verifySlots (p : BootProbe) (s : State) : State :=
  let failed := s.sys.slotFailed
  let s := withSys (fun x => { x with devState := .fwVerify }) s
  let s := match failed with
    | some f => markFailed f s
    | none => s
  if p.flashSmall then waitImage (setResult 0 3 (setResult 1 3 s))
  else if s.sys.strap % 4 ≠ 0 then waitImage s
  else
    let first := if s.flash.bootRec.valid then s.flash.bootRec.preferred % 2 else 0
    trySlots p ([first, 1 - first].filter (fun f => failed ≠ some f)) s

/-- The root is in the island: boot_nonce is drawn, the reading logged (R76 step 5, R369, R524). -/
def rootUp (root : List Byte) (errors attempts : Nat) (s : State) : State :=
  let s := withAon (fun a => { a with pufFailed := false }) s
  let s := tick1 (withSec (fun b => { b with root := fit 32 root, rootReady := true, pufErrors := errors, bootNonce := randomBytes s 16 }) s)
  withBoot (fun b => { b with pufAttempts := attempts, step := 5 }) (withFlash (fun f => { f with pufReadings := f.pufReadings ++ [errors] }) s)

/-- Regeneration from the array a, up to three attempts (R78); burnt as active where it was not (R366). -/
def regenerate (p : BootProbe) (a : Nat) (s : State) : State :=
  match (List.range 3).find? (fun i => (nth (some 0) p.pufRuns i).isSome) with
  | some i =>
    let s := rootUp p.root ((nth (some 0) p.pufRuns i).getD 0) (i + 1) s
    verifySlots p (if a = s.otp.pufArray then s
      else withSys (fun x => { x with startEvents := x.startEvents ++ [0xD9] }) (withOtp (fun o => { o with pufArray := a }) s))
  | none =>
    fatal 7 0xFFFF (withBoot (fun b => { b with pufAttempts := 3 }) (withAon (fun x => { x with pufFailed := true })
      (withOtp (fun o => { o with pufBad := setBit o.pufBad a }) s)))

/-- A fresh epoch salt from the random source (R366, R367). -/
def freshSalt (s : State) : State := tick1 (withAon (fun a => { a with salt := randomBytes s 32, saltValid := true }) s)

/-- An array neither ENROLLED nor failed is enrolled with a fresh root: the second row of R366. -/
def reEnrol (p : BootProbe) (a : Nat) (s : State) : State :=
  let s := withOtp (fun o => { o with pufArray := a, enrolled := setBit o.enrolled a }) s
  let s := freshSalt (withFlash (fun f => { f with identity := false }) s)
  let s := withSec (fun b => { b with keysLost := true }) (withSys (fun x => { x with startEvents := x.startEvents ++ [0xDA] }) s)
  verifySlots p (rootUp (randomBytes s 32) 0 0 (tick1 s))

/-- PUF_REGEN: after a boot that failed, by the first row of R366 that applies. -/
def pufStep (p : BootProbe) (s : State) : State :=
  let s := withSys (fun x => { x with devState := .pufRegen }) s
  let o := s.otp
  if !s.aon.pufFailed then regenerate p o.pufArray s
  else match [0, 1, 2].find? (fun a => a ≠ o.pufArray && bit o.enrolled a && !bit o.pufBad a) with
    | some a => regenerate p a s
    | none => match [0, 1, 2].find? (fun a => !bit o.enrolled a && !bit o.pufBad a) with
      | some a => reEnrol p a s
      | none => fatal 7 0xFFFF s

/-- Steps 1 to 4, and the stops after step 3: tamper, test mode and the reserved strap (R72, R95, R96, R554). -/
def romBoot (p : BootProbe) (s : State) : State :=
  let kind := s.sys.resetKind.getD .powerOn
  let edge := s.sys.resetCause ≤ 1
  let s := withSys (fun x => { x with
    strap := if edge then p.straps % 16 else x.strap, strapPins := if edge then p.straps % 16 else x.strapPins,
    testMode := if kind = .powerOn then p.testEn else x.testMode, devState := .bootRom, resetKind := none, bootWatchdog := true }) s
  let s := withBoot (fun b => { b with step := 3 }) (withPcie (fun x => { x with training := x.perst && !x.up }) s)
  let stop := fun (n : Nat) => withBoot (fun b => { b with step := n }) (withSys (fun x => { x with bootWatchdog := false }) s)
  if s.aon.latch then enterHold s
  else if s.sys.testMode then stop 0xE
  else if s.sys.strap % 4 = 3 then stop 0xF
  else pufStep p (withBoot (fun b => { b with step := 4 }) s)

/-- RESET_END: once the supplies, REF_SYS and its PLLs are good the ROM runs its steps; a WARM reset begins at FW_VERIFY (R46, R64, R68). -/
def resetEnd (p : BootProbe) (s : State) : State :=
  if s.sys.devState = .fwVerify && s.sys.resetKind = some .warm then verifySlots p (withSys (fun x => { x with resetKind := none }) s)
  else if !(s.sys.devState = .reset || s.sys.devState = .off || (s.sys.devState = .bootRom && s.boot.step = 0)) then s
  else if !p.supplyOk || !p.pllOk || bit s.sys.refLost 0 then s
  else romBoot p (if s.sys.devState = .off then takeReset .powerOn 0 s else s)
def execResetEnd (probe : BootProbe) (s : State) : Host.Outcome State Fault Refusal := .next (resetEnd probe s)

/-! INIT (R82, R83, R85). -/

/-- The salt: written afresh where it is invalid, with KEYS_LOST and EV_VBAT_LOST, and the saved state discarded (R50, R367, R368). -/
def initSalt (s : State) : State :=
  let lost := s.aon.vbatEvent || !s.aon.saltValid
  let s := if s.aon.saltValid then s
    else freshSalt (withSec (fun b => { b with keysLost := true }) (withFlash (fun f => { f with saved := none }) s))
  raiseIf lost 0xD8 (withAon (fun a => { a with vbatEvent := false }) s)

/-- The part's own keys (R369): slots 0x000 DRAM XTS, 0x001 flash XTS and 0x002 the identity. -/
def partKeys (s : State) : State :=
  let xts := fun (label : String) (ctx : List Byte) =>
    ({ state := 1, gen := 1, mat := { ktype := 3, engines := 8, key := kdf s.sec.root (ascii label) ctx 32 } } : KeySlotSt)
  withSec (fun b => { b with
    slots := let t := tput (tput b.slots 0 (xts "ZB-XTSD" (s.aon.salt ++ b.bootNonce))) 1 (xts "ZB-XTSF" s.aon.salt)
      if s.flash.identity then tput t 2 { state := 1, gen := 1, mat := { ktype := 4, engines := 64 } } else t }) s

/-- The XTS regions of R19 (R404): firmware, neighbour table and wrapped key store under slot 0x000. -/
def initRegions (s : State) : State :=
  let r := fun (base size : Nat) => ({ base := base * mib, pages := size * 256, enable := true, slot := 0 } : XtsRegion)
  withCry (fun c => { c with regions := tput (tput (tput c.regions 0 (r 0 256)) 1 (r 272 8)) 2 (r 280 16) }) s

/-- The firewall regions 0-15 (R516, log entry 25). -/
def initFirewall (s : State) : State :=
  withFwall (fun f => { f with regions := (List.range 16).foldl (fun t i =>
    let c := Config.fwRegion i
    tput t i { base := c.1, pages := c.2.1, read := c.2.2.1 % 256, write := c.2.2.2.1 % 256, enable := c.2.2.2.2 }) f.regions }) s

/-- Failed lanes of the health log: each takes ROLE 3, and the logical numbers move to spares or out of service (R196). -/
def initLanes (s : State) : State :=
  let l := isort (fun a b => decide (a ≤ b)) (s.flash.failedLanes.filter (· < 104))
  let s := l.foldl (fun s p => withPhys p (fun x => { x with role := some 3 }) s) s
  (l.filter (· < 96)).foldl (fun s p => match freeSpare s with
    | some q => raise 0x041 (moveLane p q s)
    | none => loseLane p s) s

/-- A lane that fails its self-test at INIT is replaced by a spare (R85). -/
def initLaneFail (p : Nat) (s : State) : State :=
  let n := logicalOf s p
  if 104 ≤ p then s
  else if roleOf s p = 0 then laneSpareMove n (failPhys p s)
  else failPhys p s

/-- A chain after its start-up calibration: in service, or out with the step that failed (R85, R88). -/
def initChain (p : InitProbe) (s : State) (c : Nat) : State :=
  let f := nth 0 p.chainFail c % 8
  let s := withChain c (fun k => { k with service := if f = 0 then 0 else 2, failedStep := f, dieTemp := s.sys.tempNow, cal := none }) s
  if f = 0 then s else degrade 0 (raise (0x027 + 8 * c) s)

/-- The calibrations of R85 whose failure is a reason of R532, an event or a repair. -/
def initCals (p : InitProbe) (s : State) : State :=
  let s := [0, 1, 2, 3].foldl (initChain p) s
  let s := if p.ethFail = [] then s else degrade 5 s
  let s := if p.dlFail = [] then s else degrade 6 s
  let s := if p.timeLock then s else raise 0x002 (withSys (fun x => { x with refLost := setBit x.refLost 2 }) s)
  let f := p.bistFail &&& 0x20F
  let n := popcount f 4
  let s := if n = 0 then s else raise 0x15C (withHlth (fun h => { h with sramPending := h.sramPending + n }) s)
  let s := if f = 0 then s else raise 0x16D (withTest (fun t => { t with bistFail := f }) s)
  p.laneFail.foldl (fun s q => initLaneFail q s) s

/-- The PUF array wears (R525, R528): a spare is enrolled, or an enrolled one becomes active. -/
def pufWear (s : State) : State :=
  let e := s.sec.pufErrors
  if e < 1311 && s.boot.pufAttempts < 2 then s
  else
    let s := hlthCnt 3 (raise 0x160 s)
    let spare := [0, 1, 2].find? (fun a => a ≠ s.otp.pufArray && bit s.otp.enrolled a && !bit s.otp.pufBad a)
    match (if 1966 ≤ e then spare else none) with
    | some a => withOtp (fun o => { o with pufArray := a }) s
    | none =>
      let fresh := [0, 1, 2].any (fun a => !bit s.otp.enrolled a && !bit s.otp.pufBad a)
      withHlth (fun h => { h with enrolDue := fresh && (spare.isNone || 1966 ≤ e) }) s

/-- The agents start: what INIT found is reported, and the part runs (R64, R77, R83, R85, R439, R440, R538). -/
def startAgents (p : InitProbe) (warm : Bool) (s : State) : State :=
  let s := fwReplay p.fwJournalOk (withFw (fun f => { f with ramDrops := [], ready := false }) s)
  let b := s.flash.bootRec
  let due := !s.sys.recovery && !s.sys.trial && b.valid && b.committed = s.sys.bootSlot && s.otp.svBurnt < s.upd.fw.runSv
  let s := if due then burnTo s.upd.fw.runSv s else s
  let s := s.sys.startEvents.foldl (fun s n => raise n s) s
  let s := raiseIf (s.sys.recovery || s.sys.bootSlot ≠ (if b.valid then b.preferred % 2 else 0)) 0x000 s
  let s := raiseIf s.aon.xtalEvent 0x002 (withAon (fun a => { a with xtalEvent := false }) s)
  let s := raiseIf (s.flash.dumps ≠ [] || s.dump.dram.isSome) 0x168 (raiseIf s.sys.trial 0x0F1 s)
  let s := if warm then s else pufWear s
  let s := if p.journalOk then withCry (fun c => { c with journalOk := true }) s
    else raise 0xE1 (cryCnt 7 (withCry (fun c => { c with journalOk := false }) s))
  withSys (fun x => { x with devState := .run, bootWatchdog := false, resetKind := none, slotFailed := none, startEvents := [] }) s

/-- A failure of the running slot (R81, R82): the ROM marks it at the next boot, after a FULL reset with cause WATCHDOG. -/
def slotFault (s : State) : State :=
  takeReset .full 5 (if s.sys.recovery then s else withSys (fun x => { x with slotFailed := some x.bootSlot }) s)

/-- INIT once DRAM is trained and the image is whole. -/
def initRest (p : InitProbe) (warm : Bool) (s : State) : State :=
  let s := initFirewall (initRegions (partKeys (initSalt s)))
  let s := withHlth (fun h => { h with coresActive := bootCores s.flash.failedCores }) s
  if coresActive s < 6 then fatal 5 0xFFFF s
  else
    let s := if coresActive s < 8 then degrade 2 s else s
    let s := avsSet p.avsMv (if p.avsAck then 1 else 3) (initCals p (initLanes s))
    startAgents p warm s

/-- INIT_DONE: DDR training, the segments of the image, and the rest; DRAM stays trained over a WARM reset (R68, R82, R85). -/
def initDone (p : InitProbe) (s : State) : State :=
  if s.sys.devState ≠ .init || (s.sys.recovery && !s.upd.fw.ready) then s
  else
    let warm := s.ddr.trained
    let lost := p.rank1Fitted && !p.rank1Ok
    let gib := if p.rank1Fitted && p.rank1Ok then p.gib0 + p.gib1 else p.gib0
    if !warm && (!p.rank0Ok || (lost && p.gib0 < 4)) then fatal 8 0xFFFF s
    else
      let s := if warm then s
        else withSys (fun x => { x with dramMib := 1024 * gib })
          (withDdr (fun d => { d with trained := true, rank1 := p.rank1Fitted && p.rank1Ok, sizeGib := gib }) s)
      let s := if !warm && lost then degrade 3 s else s
      if !p.segmentsOk then slotFault s else initRest p warm s
def execInitDone (probe : InitProbe) (s : State) : Host.Outcome State Fault Refusal := .next (initDone probe s)

/-! LULL (R90-R94, R218). -/

/-- Every frame being received is lost. -/
def loseAllFrames (s : State) : State := (List.range 104).foldl (fun s p => abortFrame p none s) s

/-- The links whose rails go with AON_PWR_EN are down. -/
def linksDown (s : State) : State :=
  let s := [0, 1].foldl (fun s e => raiseIf (ethOf s e).link (0x128 + e) (withEthP e (fun p => { p with link := false }) s)) s
  let s := [0, 1, 2].foldl (fun s p => if (portOf s p).state = 0 then s else takeDown p s) s
  withHif (fun h => { h with pcieUp := false }) (withPcie (fun p => { p with up := false, training := false }) s)

/-- The wake that ends LULL: AON_PWR_EN high, and PWR_GOOD is awaited (R93). -/
def wakeUp (source : Nat) (s : State) : State :=
  withSys (fun x => { x with lullSource := source, lullExit := true, aonPwrEn := true }) s

/-- LULL_WAKE: source 0 the wake timer, 1 an edge selected in wake_gpio, 2 chip select of the management SPI (R87, R92). -/
def lullWake (source gpio : Nat) (s : State) : State :=
  if 2 < source || (source = 0 && s.sys.wakeTimerS = 0) || (source = 1 && (3 < gpio || !bit s.sys.wakeGpio gpio)) then s
  else if s.sys.lullArmed && s.sys.wakeLatched.isNone then withSys (fun x => { x with wakeLatched := some source }) s
  else if s.sys.devState = .lull && !s.sys.lullExit then wakeUp source s
  else s
def execLullWake (source gpio : Nat) (s : State) : Host.Outcome State Fault Refusal := .next (lullWake source gpio s)

/-- The tables, the lists and the air budget that DRAM held, emptied. -/
def lostDram (s : State) : State :=
  let s := withSlot (fun b => { b with sfs := b.sfs.map (fun e => (e.1, { e.2 with
    activeLen := 0, active := none, staging := false, staged := none, stagedReady := false, pendAsn := none })) }) s
  withBudg (fun _ => {}) (withTbl (fun b => { b with nodes := [], nbrs := [], bucketCache := [], nbrCache := [] }) s)

/-- What LULL in RELEASE mode took with DRAM comes back from the saved state, or is empty (R91, R93, R302, R368, R482). -/
def releaseExit (savedOk : Bool) (s : State) : State :=
  let s := withDump (fun d => { d with dram := none }) (withSec (fun b => { b with records := [] }) s)
  match s.flash.saved with
  | some v =>
    if savedOk && v.salt = s.aon.salt then restore (· + 65536) (fun a _ => a) v s
    else lostDram s
  | none => lostDram s

/-- The counter after LULL: 15,258.789 ticks for each XTAL_AON cycle (R218). -/
def lullCounter (saved cycles : Nat) : Nat := saved + cycles * 15258789 / 1000

/-- The exit from LULL (R93, R94). -/
def lullLeave (cycles : Nat) (segmentsOk savedOk : Bool) (s : State) : State :=
  let s := withTime (fun t => { t with
    c := lullCounter s.aon.savedC cycles, domA := { t.domA with tracked := false, locked := false, good := 0 },
    domB := { t.domB with tracked := false, locked := false, good := 0 } }) s
  let s := withSys (fun x => { x with lullSeconds := cycles / 32768 % 2 ^ 32 }) s
  if !segmentsOk then (if s.sys.lullRelease || s.sys.trial then slotFault s else takeReset .full 5 s)
  else
    let s := if s.sys.lullRelease then releaseExit savedOk s else withDdr (fun d => { d with selfRefresh := false }) s
    let s := [0, 1, 2, 3].foldl (fun s c => withChain c (fun k => { k with
      service := if k.service = 1 then 0 else k.service, rxLock := k.service ≠ 2 && k.centre ≠ 0 }) s) s
    let s := withPcie (fun x => { x with training := x.perst && !x.up }) s
    raiseW 0x001 s.sys.lullSource (withSys (fun x => { x with devState := .run, lullExit := false, wakeLatched := none }) s)

/-- PWR_GOOD_RISE: a tamper in LULL then shows on FAULT_N, and a wake ends in RUN (R93, R95). -/
def pwrGood (cycles : Nat) (segmentsOk savedOk : Bool) (s : State) : State :=
  if s.sys.devState = .tamperHold then withSys (fun x => { x with lullExit := false }) s
  else if s.sys.devState = .lull && s.sys.lullExit then lullLeave cycles segmentsOk savedOk s
  else s
def execPwrGoodRise (lullCycles : Nat) (segmentsOk savedOk : Bool) (s : State) : Host.Outcome State Fault Refusal :=
  .next (pwrGood lullCycles segmentsOk savedOk s)

/-! SYS commands (R87, R88, R97, R137). -/

/-- Sizes of the fixed regions in MiB, in the row order of R19, and their bases. -/
def fixedSizes : List Nat := [256, 16, 8, 16, 32, 8, 64, 128, 64, 64]
def fixedMap : List Byte := (List.range 10).flatMap (fun i => le 8 ((fixedSizes.take i).sum * mib) ++ le 8 (nth 0 fixedSizes i * mib))

/-- SYS_INFO (R88). -/
def sysInfo (_h : Hdr) (p : SysInfoP) (s : State) : Res :=
  if 2 < p.op then refuse s stBadParam
  else if p.op = 0 then
    done s (fit 8 Config.serial ++ le 8 Config.eui64 ++ le 1 Config.grade ++ le 1 (coresActive s) ++ zeros 2 ++
      le 4 (if s.sys.devState = .run then s.upd.fw.imageVersion else 0))
  else if s.sys.devState ≠ .run && s.sys.devState ≠ .init then refuse s stBusy
  else if p.op = 1 then done (toHost p.bufferAddr fixedMap s) (le 4 s.sys.dramMib ++ le 4 (s.sys.dramMib - 656))
  else done s ([0, 1, 2, 3].flatMap (fun c => let k := chainOf s c
    le 1 k.service ++ le 1 k.failedStep ++ le 2 k.centre))
def execSysInfo (h : Hdr) (p : SysInfoP) (s : State) : Host.Outcome State Fault Refusal := agentRun h (.sysInfo p) (sysInfo h p) s

/-- The reply data of SYS_STATE. -/
def stateReply (s : State) : List Byte :=
  le 4 (sysStateWord s) ++ le 4 (bootStatusWord s) ++ le 4 s.sys.lullSeconds ++ le 4 s.sys.lullSource ++ zeros 8

/-- ENTER_LULL is refused: outside RUN, by the active twin, in a multicast window, while a test runs (R90, R543). -/
def lullRefused (s : State) : Bool :=
  s.sys.devState ≠ .run || (s.twin.configured && s.twin.gates) || s.upd.camps.any (fun e => e.2.inWindow) || s.test.run.isSome || s.sys.lullArmed

/-- An accepted CLEAR_TAMPER: a fresh salt, the latch and the loops cleared, one step of the tamper-clear counter, and a FULL reset to come
(R97, R388, R390, R391). -/
def clearTamper (s : State) : State :=
  let s := withAon (fun a => { a with latch := false, cycled := false, cause := 0, causeState := 0, loopEn := 0, loopMiss := [] }) (freshSalt s)
  withSys (fun x => { x with resetNext := some .full }) (burnStep 1 16 s)

/-- SYS_STATE. -/
def sysState (_h : Hdr) (p : SysStateP) (s : State) : Res :=
  if 2 < p.op then refuse s stBadParam
  else if p.op = 0 then done s (stateReply s)
  else if p.op = 1 then
    if 1 < p.lullDram || 15 < p.wakeGpio then refuse s stBadParam
    else if lullRefused s then refuse s stBusy
    else
      let s := withSys (fun x => { x with
        lullArmed := true, lullRelease := p.lullDram = 1, wakeGpio := p.wakeGpio, wakeTimerS := p.wakeTimerS, wakeLatched := none }) s
      done s (stateReply s)
  else if !s.aon.cycled || s.sec.tamperLive ≠ 0 then refuse s stTamper
  else let s := clearTamper s; done s (stateReply s)
def execSysState (h : Hdr) (p : SysStateP) (s : State) : Host.Outcome State Fault Refusal := agentRun h (.sysState p) (sysState h p) s

/-- SYS_EVENT_MAP: as writes to EVT.SRC_CFG (R137). -/
def sysEventMap (_h : Hdr) (p : SysEventMapP) (s : State) : Res :=
  if p.count = 0 || 384 < p.firstSrc + p.count || 127 < p.vector || 1 < p.toPf1 || 1 < p.enable then refuse s stBadParam
  else done ((List.range p.count).foldl (fun s i => writeSrcCfg (p.firstSrc + i) (p.vector + 128 * p.toPf1 + 256 * p.enable) s) s)
def execSysEventMap (h : Hdr) (p : SysEventMapP) (s : State) : Host.Outcome State Fault Refusal := agentRun h (.sysEventMap p) (sysEventMap h p) s

/-- SYS_TIMED (R137). -/
def sysTimed (_h : Hdr) (p : SysTimedP) (s : State) : Res :=
  if 65 < p.queue || 3 < p.timeRef || p.maxAheadS = 0 || 86400 < p.maxAheadS then refuse s stBadParam
  else done (withSys (fun x => { x with timed := tput x.timed p.queue { ref := p.timeRef, lateNs := p.lateNs, maxAheadS := p.maxAheadS } }) s)
def execSysTimed (h : Hdr) (p : SysTimedP) (s : State) : Host.Outcome State Fault Refusal := agentRun h (.sysTimed p) (sysTimed h p) s

/-- SYS_MGMT_CFG (R137). -/
def sysMgmtCfg (_h : Hdr) (p : SysMgmtCfgP) (s : State) : Res :=
  if 1 < p.enable || 3 < p.portMask || p.vlanId = 0 || 4094 < p.vlanId then refuse s stBadParam
  else done (withSys (fun x => { x with mgmtEnable := p.enable = 1, mgmtPorts := p.portMask, mgmtVlan := p.vlanId }) s)
def execSysMgmtCfg (h : Hdr) (p : SysMgmtCfgP) (s : State) : Host.Outcome State Fault Refusal := agentRun h (.sysMgmtCfg p) (sysMgmtCfg h p) s

end Sys2Proof.Machine
end

