-- ==== Sys2Proof/Machine/Run.lean ====
section
/-!
DEFINITION. What runs any command: the release of replies, TIMED commands that fall due, comparators, and the delta records of a twin (R79,
R103, R112-R116, R122-R125, R229-R232, R386, R470-R472).
-/
namespace Sys2Proof.Machine

/-- The meaning of each command, by its opcode. -/
def runCmd (h : Hdr) (c : Cmd) (s : State) : Res :=
  match c with
  | .sysInfo p => sysInfo h p s
  | .sysReset p => sysReset h p s
  | .sysState p => sysState h p s
  | .sysEventMap p => sysEventMap h p s
  | .sysTimed p => sysTimed h p s
  | .sysMgmtCfg p => sysMgmtCfg h p s
  | .sysEthCfg p => sysEthCfg h p s
  | .sysMacsecSa p => sysMacsecSa h p s
  | .radChainCfg p => radChainCfg h p s
  | .radCal p => radCal h p s
  | .radTuner p => radTuner h p s
  | .radCoexCfg p => radCoexCfg h p s
  | .radAgcCfg p => radAgcCfg h p s
  | .radPaRamp p => radPaRamp h p s
  | .radTxRaw p => radTxRaw h p s
  | .radBlankMap p => radBlankMap h p s
  | .laneAssign p => laneAssign h p s
  | .lanePhyCfg p => lanePhyCfg h p s
  | .laneCaptureCfg p => laneCaptureCfg h p s
  | .laneStatus p => laneStatus h p s
  | .laneFlush p => laneFlush h p s
  | .laneBitload p => laneBitload h p s
  | .slotCfg p => slotCfg h p s
  | .slotListLoad p => slotListLoad h p s
  | .slotListActivate p => slotListActivate h p s
  | .slotSuperframeCfg p => slotSuperframeCfg h p s
  | .slotTx p => slotTx h p s
  | .slotFrontCfg p => slotFrontCfg h p s
  | .slotStatus p => slotStatus h p s
  | .slotFollowCfg p => slotFollowCfg h p s
  | .budgRegionLoad p => budgRegionLoad h p s
  | .budgStatus p => budgStatus h p s
  | .tmQueueCfg p => tmQueueCfg h p s
  | .tmMeterCfg p => tmMeterCfg h p s
  | .tmShaperCfg p => tmShaperCfg h p s
  | .tmClassMap p => tmClassMap h p s
  | .tmStats p => tmStats h p s
  | .tblNodeInsert p => tblNodeInsert h p s
  | .tblNodeDelete p => tblNodeDelete h p s
  | .tblPrefixAdd p => tblPrefixAdd h p s
  | .tblPrefixDel p => tblPrefixDel h p s
  | .tblAgingCfg p => tblAgingCfg h p s
  | .tblLookup p => tblLookup h p s
  | .tblEvictPolicy p => tblEvictPolicy h p s
  | .tblCfg p => tblCfg h p s
  | .tblNeighbourSet p => tblNeighbourSet h p s
  | .tblStatus p => tblStatus h p s
  | .keyImport p => keyImport h p s
  | .keyDerive p => keyDerive h p s
  | .keyStage p => keyStage h p s
  | .keyCommit p => keyCommit h p s
  | .keyErase p => keyErase h p s
  | .keyInfo p => keyInfo h p s
  | .keyInvalidate p => keyInvalidate h p s
  | .keyAttest p => keyAttest h p s
  | .keyStoreCfg p => keyStoreCfg h p s
  | .cryOp p => cryOp h p s
  | .crySign p => crySign h p s
  | .cryVerify p => cryVerify h p s
  | .cryHash p => cryHash h p s
  | .cryXtsRegion p => cryXtsRegion h p s
  | .cryChkCfg p => cryChkCfg h p s
  | .cryStatus p => cryStatus h p s
  | .updOpen p => updOpen h p s
  | .updBlock p => updBlock h p s
  | .updStatus p => updStatus h p s
  | .updVerify p => updVerify h p s
  | .updActivate p => updActivate h p s
  | .updCampaignCfg p => updCampaignCfg h p s
  | .updCampaignCtrl p => updCampaignCtrl h p s
  | .timeStep p => timeStep h p s
  | .timeRate p => timeRate h p s
  | .timeSelect p => timeSelect h p s
  | .timeTrigger p => timeTrigger h p s
  | .timeCaptureCfg p => timeCaptureCfg h p s
  | .timePtpPortCfg p => timePtpPortCfg h p s
  | .timeDomainCfg p => timeDomainCfg h p s
  | .timeStatus p => timeStatus h p s
  | .lnkPortCfg p => lnkPortCfg h p s
  | .lnkTopology p => lnkTopology h p s
  | .lnkStatus p => lnkStatus h p s
  | .lnkSend p => lnkSend h p s
  | .twinCfg p => twinCfg h p s
  | .twinClaim p => twinClaim h p s
  | .twinSwitch p => twinSwitch h p s
  | .twinStatus p => twinStatus h p s
  | .twinSaveState p => twinSaveState h p s
  | .hlthStatus p => hlthStatus h p s
  | .hlthSpareMap p => hlthSpareMap h p s
  | .hlthRetire p => hlthRetire h p s
  | .diagDumpRead p => diagDumpRead h p s
  | .diagUnfreeze p => diagUnfreeze h p s
  | .diagFwRegion p => diagFwRegion h p s
  | .testLoopback p => testLoopback h p s
  | .testBist p => testBist h p s
  | .testPattern p => testPattern h p s
  | .testStatus p => testStatus h p s

/-! TIMED commands that fall due (R122-R125). -/

/-- Why a TIMED command that falls due has no side effect, or the status it is applied with (R123, R124). -/
def dueStatus (d : Delayed) (s : State) : Nat :=
  let late := refNs s d.ref - (d.actNs : Int)
  if !refTracked s d.ref then stBusy
  else if late ≤ 1000 then stOk
  else if late ≤ (d.lateNs : Int) then stLateApplied
  else stPastTime

/-- INFO: the lateness in us (R122). -/
def lateness (d : Delayed) (s : State) : Nat := min 0xFFFF (max 0 ((refNs s d.ref - (d.actNs : Int)) / 1000)).toNat

/-- The staged command is applied, or refused by R123. -/
def dueRun (d : Delayed) (c : Cmd) (s : State) : Res :=
  let st := dueStatus d s
  if st = stOk || st = stLateApplied then
    let r := unlessJob d.hdr c (runCmd d.hdr c) s
    { r with status := if r.status = stOk then st else r.status, info := lateness d s }
  else { st := s, status := st, info := lateness d s }

/-- The delay-list entry of a queue pair and TAG leaves the list. -/
def undelay (d : Delayed) (s : State) : State :=
  withHif (fun h => { h with delayList := h.delayList.filter (fun x => !(x.qp = d.qp && x.hdr.tag = d.hdr.tag)) }) s

/-- The comparator of a TIMED command fires: its side effects apply unless the order of its flow holds them (R114, R124). -/
def timedDue (d : Delayed) (s : State) : State :=
  let p := fun (f : Flight) => isTag d.qp d.hdr.tag f && f.delayed
  match s.hif.flights.find? p, d.cmd with
  | some f, some c =>
    if heldBack s (before p s.hif.flights) f then
      withHif (fun h => { h with flights := modFirst p (fun x => { x with staged := true, delayed := false, doneTick := fwTick s }) h.flights }) s
    else complete p (dueRun d c (undelay d s))
  | _, _ => undelay d s

/-! Release (R103, R112-R116). -/

/-- A flight whose work has ended. -/
def isEnded (qp tag : Nat) (f : Flight) : Bool := isTag qp tag f && (f.done || f.staged)

/-- The held side effects of a staged flight apply, now that the earlier commands of its flow are released (R114). -/
def runStaged (f : Flight) (s : State) : State :=
  let p := fun (x : Flight) => isTag f.qp f.hdr.tag x && x.staged
  match f.cmd with
  | none => s
  | some c =>
    match s.hif.delayList.find? (fun d => d.qp = f.qp && d.hdr.tag = f.hdr.tag) with
    | some d => complete p (dueRun d c (undelay d s))
    | none => complete p (unlessJob f.hdr c (runCmd f.hdr c) s)

/-- A released command of a family of R470 goes into the delta record of the slot (R472). -/
def noteRelease (f : Flight) (s : State) : State :=
  match f.cmd with
  | some c => if standbyRefuses c f.hdr.flow then noteDelta (fun d => { d with cmds := d.cmds ++ [{ hdr := f.hdr, cmd := some c }] }) s else s
  | none => s

/-- The command whose reply is released before its reset starts (R87, R97, R439, R441). -/
def startsReset (f : Flight) : Bool :=
  f.status = stOk && match f.cmd with
    | some (.sysReset _) | some (.sysState _) | some (.updActivate _) => true
    | _ => false

/-- The reset that an accepted command asked for starts. -/
def resetAfter (f : Flight) (s : State) : State :=
  match s.sys.resetNext with
  | some k =>
    if startsReset f then
      takeReset k (if s.sys.devState = .tamperHold then 6 else 4) (withSys (fun x => { x with resetNext := none }) s)
    else s
  | none => s

/-- A completed flight leaves. -/
def releaseNow (qp tag : Nat) (s : State) : State :=
  match s.hif.flights.find? (fun f => isTag qp tag f && f.done) with
  | none => s
  | some f => resetAfter f (noteRelease f (releaseFlight f s))

/-- The reply needs an entry that its ring does not have (R103, R116). -/
def waitsForRing (s : State) (f : Flight) : Bool := replyFull s f.qp && !(hflag f.hdr 3 && f.done && f.status = stOk)

/-- COMMAND_RELEASE: in flow order, with room in the reply ring. A part on which no agent and no ROM runs releases nothing. -/
def commandRelease (qp tag : Nat) (s : State) : State :=
  match s.hif.flights.find? (isEnded qp tag) with
  | none => s
  | some f =>
    if !answers s || (before (isEnded qp tag) s.hif.flights).any (fun x => flowKey x = flowKey f) then s
    else if waitsForRing s f then (if qp < 64 then withQp qp (fun x => { x with cqFull := true }) s else s)
    else releaseNow qp tag (if f.staged then runStaged f s else s)
def execCommandRelease (qp tag : Nat) (s : State) : Host.Outcome State Fault Refusal := .next (commandRelease qp tag s)

/-! Entry into LULL (R90-R92). -/

/-- LULL_ENTRY: the steps of R91 after an accepted ENTER_LULL: commands whose work has ended are completed, the others end with
ST_BUSY; a wake source latched meanwhile begins the exit at once (R92). -/
def lullEntry (s : State) : State :=
  if !s.sys.lullArmed || s.sys.devState ≠ .run then s
  else
    let release := s.sys.lullRelease
    let s := gatesOff (if s.slot.running then stopEffect s else s)
    let s := silenceAll (endFlights stBusy (fun _ => true) (s.hif.flights.foldl (fun s f => if f.staged then runStaged f s else s) s))
    let s := s.hif.flights.foldl (fun s f => if replyFull s f.qp then s else releaseNow f.qp f.hdr.tag s) s
    let s := s.upd.camps.foldl (fun s e => if release then cancelCamp e.1 s else pauseCamp e.1 s) s
    let s := if release then withFlash (fun f => { f with saved := some (capture s) }) s
      else withDdr (fun d => { d with selfRefresh := true }) s
    let s := [0, 1, 2, 3].foldl (fun s c => withChain c (fun k => { k with
      rxLock := false, txLock := false, synthUp := true, cal := k.cal.map (fun j => { j with running := false }) }) s) (loseAllFrames s)
    let s := withTime (fun t => { t with timeOut := 0, pulseEnd := [] }) (withAon (fun a => { a with savedC := s.time.c }) (linksDown s))
    let wake := s.sys.wakeLatched
    let s := withSys (fun x => { x with devState := .lull, lullArmed := false, lullExit := false, aonPwrEn := false, wakeLatched := none }) s
    match wake with
    | some w => wakeUp w s
    | none => s
def execLullEntry (s : State) : Host.Outcome State Fault Refusal := .next (lullEntry s)

/-! Comparators (R229-R232). -/

/-- The sample snapshots armed on comparator n start (R214, R232). -/
def snapAt (n : Nat) (s : State) : State :=
  withLane (fun b => { b with lanes := b.lanes.map (fun e => (e.1, { e.2 with
    snapshot := e.2.snapshot.map (fun x => if x.trigger = 1 && x.comparator = n then { x with running := true } else x) })) }) s

/-- The actions of a host comparator. -/
def cmpActions (n : Nat) (c : CmpSt) (s : State) : State :=
  let s := raiseIf (bit c.actions 0) (0x0F6 + n) s
  let s := if bit c.actions 1 then drivePin c s else s
  if bit c.actions 2 then snapAt n s else s

/-- COMPARATOR_FIRE: the reference reads at or above the target. Comparators 0 and 1 are the slot engine's, whose firing is SLOT_BOUNDARY;
12-15 fall due for a TIMED command, and are armed again for the next one (R124). -/
def comparatorFire (n : Nat) (s : State) : State :=
  let c := cmpOf s n
  if n < 2 || 15 < n || !c.armed || refNs s c.ref < (c.target : Int) || !answers s then s
  else
    let s1 := withCmp n (rearm (refNs s c.ref)) s
    if n < 12 then cmpActions n c s1
    else match s.hif.delayList.find? (fun d => d.cmp = some n && s.hif.flights.any (fun f => isTag d.qp d.hdr.tag f && f.delayed)) with
      | some d => delayListWalk (timedDue d s1)
      | none => s1
def execComparatorFire (n : Nat) (s : State) : Host.Outcome State Fault Refusal := .next (comparatorFire n s)

/-! Delta records received (R470-R472). -/

/-- The sections of a record in type order, commands first. -/
def applyDelta (d : DeltaRec) (s : State) : State :=
  applySections d (d.cmds.foldl (fun s e => match e.cmd with
    | some c => (runCmd e.hdr c s).st
    | none => s) s)

/-- The chip is the standby of a configured twin, in RUN. -/
def standbyRuns (s : State) : Bool := s.sys.devState = .run && s.twin.configured && !s.twin.gates

/-- DELTA_RX: applied, acknowledged, and SYNCED where it is the record of the slot before (R471, R474). -/
def deltaRx (d : DeltaRec) (s : State) : State :=
  if !standbyRuns s then s
  else
    let s := applyDelta d s
    sendAckOf d.seq (twinCnt 3 (withTwin (fun t => { t with deltaSeq := d.seq, synced := asnAdd d.asn 1 = s.slot.asn }) s))
def execDeltaRx (delta : DeltaRec) (s : State) : Host.Outcome State Fault Refusal := .next (deltaRx delta s)

/-- TWIN_BULK_RX: the same sections in full; the last part of the copy raises EV_TWIN_SYNCED (R471). -/
def bulkRx (d : DeltaRec) (s : State) : State :=
  if !standbyRuns s then s
  else
    let s := applyDelta d s
    if d.last then raise 0x123 (withTwin (fun t => { t with bulkDone := true }) s) else s
def execTwinBulkRx (delta : DeltaRec) (s : State) : Host.Outcome State Fault Refusal := .next (bulkRx delta s)

end Sys2Proof.Machine
end

