-- ==== Sys2Proof/Machine/Dispatch.lean ====
section
/-!
DEFINITION. Which meaning each command has: one arm per constructor of Instr.
-/
namespace Sys2Proof.Machine

/-- The effect of one command on everything but the queue. -/
def exec (i : Instr) (s : State) : Host.Outcome State Fault Refusal :=
  match i with
  | .sysInfo h p => Sys2Proof.Machine.execSysInfo h p s
  | .sysReset h p => Sys2Proof.Machine.execSysReset h p s
  | .sysState h p => Sys2Proof.Machine.execSysState h p s
  | .sysEventMap h p => Sys2Proof.Machine.execSysEventMap h p s
  | .sysTimed h p => Sys2Proof.Machine.execSysTimed h p s
  | .sysMgmtCfg h p => Sys2Proof.Machine.execSysMgmtCfg h p s
  | .sysEthCfg h p => Sys2Proof.Machine.execSysEthCfg h p s
  | .sysMacsecSa h p => Sys2Proof.Machine.execSysMacsecSa h p s
  | .radChainCfg h p => Sys2Proof.Machine.execRadChainCfg h p s
  | .radCal h p => Sys2Proof.Machine.execRadCal h p s
  | .radTuner h p => Sys2Proof.Machine.execRadTuner h p s
  | .radCoexCfg h p => Sys2Proof.Machine.execRadCoexCfg h p s
  | .radAgcCfg h p => Sys2Proof.Machine.execRadAgcCfg h p s
  | .radPaRamp h p => Sys2Proof.Machine.execRadPaRamp h p s
  | .radTxRaw h p => Sys2Proof.Machine.execRadTxRaw h p s
  | .radBlankMap h p => Sys2Proof.Machine.execRadBlankMap h p s
  | .laneAssign h p => Sys2Proof.Machine.execLaneAssign h p s
  | .lanePhyCfg h p => Sys2Proof.Machine.execLanePhyCfg h p s
  | .laneCaptureCfg h p => Sys2Proof.Machine.execLaneCaptureCfg h p s
  | .laneStatus h p => Sys2Proof.Machine.execLaneStatus h p s
  | .laneFlush h p => Sys2Proof.Machine.execLaneFlush h p s
  | .laneBitload h p => Sys2Proof.Machine.execLaneBitload h p s
  | .slotCfg h p => Sys2Proof.Machine.execSlotCfg h p s
  | .slotListLoad h p => Sys2Proof.Machine.execSlotListLoad h p s
  | .slotListActivate h p => Sys2Proof.Machine.execSlotListActivate h p s
  | .slotSuperframeCfg h p => Sys2Proof.Machine.execSlotSuperframeCfg h p s
  | .slotTx h p => Sys2Proof.Machine.execSlotTx h p s
  | .slotFrontCfg h p => Sys2Proof.Machine.execSlotFrontCfg h p s
  | .slotStatus h p => Sys2Proof.Machine.execSlotStatus h p s
  | .slotFollowCfg h p => Sys2Proof.Machine.execSlotFollowCfg h p s
  | .budgRegionLoad h p => Sys2Proof.Machine.execBudgRegionLoad h p s
  | .budgStatus h p => Sys2Proof.Machine.execBudgStatus h p s
  | .tmQueueCfg h p => Sys2Proof.Machine.execTmQueueCfg h p s
  | .tmMeterCfg h p => Sys2Proof.Machine.execTmMeterCfg h p s
  | .tmShaperCfg h p => Sys2Proof.Machine.execTmShaperCfg h p s
  | .tmClassMap h p => Sys2Proof.Machine.execTmClassMap h p s
  | .tmStats h p => Sys2Proof.Machine.execTmStats h p s
  | .tblNodeInsert h p => Sys2Proof.Machine.execTblNodeInsert h p s
  | .tblNodeDelete h p => Sys2Proof.Machine.execTblNodeDelete h p s
  | .tblPrefixAdd h p => Sys2Proof.Machine.execTblPrefixAdd h p s
  | .tblPrefixDel h p => Sys2Proof.Machine.execTblPrefixDel h p s
  | .tblAgingCfg h p => Sys2Proof.Machine.execTblAgingCfg h p s
  | .tblLookup h p => Sys2Proof.Machine.execTblLookup h p s
  | .tblEvictPolicy h p => Sys2Proof.Machine.execTblEvictPolicy h p s
  | .tblCfg h p => Sys2Proof.Machine.execTblCfg h p s
  | .tblNeighbourSet h p => Sys2Proof.Machine.execTblNeighbourSet h p s
  | .tblStatus h p => Sys2Proof.Machine.execTblStatus h p s
  | .keyImport h p => Sys2Proof.Machine.execKeyImport h p s
  | .keyDerive h p => Sys2Proof.Machine.execKeyDerive h p s
  | .keyStage h p => Sys2Proof.Machine.execKeyStage h p s
  | .keyCommit h p => Sys2Proof.Machine.execKeyCommit h p s
  | .keyErase h p => Sys2Proof.Machine.execKeyErase h p s
  | .keyInfo h p => Sys2Proof.Machine.execKeyInfo h p s
  | .keyInvalidate h p => Sys2Proof.Machine.execKeyInvalidate h p s
  | .keyAttest h p => Sys2Proof.Machine.execKeyAttest h p s
  | .keyStoreCfg h p => Sys2Proof.Machine.execKeyStoreCfg h p s
  | .cryOp h p => Sys2Proof.Machine.execCryOp h p s
  | .crySign h p => Sys2Proof.Machine.execCrySign h p s
  | .cryVerify h p => Sys2Proof.Machine.execCryVerify h p s
  | .cryHash h p => Sys2Proof.Machine.execCryHash h p s
  | .cryXtsRegion h p => Sys2Proof.Machine.execCryXtsRegion h p s
  | .cryChkCfg h p => Sys2Proof.Machine.execCryChkCfg h p s
  | .cryStatus h p => Sys2Proof.Machine.execCryStatus h p s
  | .updOpen h p => Sys2Proof.Machine.execUpdOpen h p s
  | .updBlock h p => Sys2Proof.Machine.execUpdBlock h p s
  | .updStatus h p => Sys2Proof.Machine.execUpdStatus h p s
  | .updVerify h p => Sys2Proof.Machine.execUpdVerify h p s
  | .updActivate h p => Sys2Proof.Machine.execUpdActivate h p s
  | .updCampaignCfg h p => Sys2Proof.Machine.execUpdCampaignCfg h p s
  | .updCampaignCtrl h p => Sys2Proof.Machine.execUpdCampaignCtrl h p s
  | .timeStep h p => Sys2Proof.Machine.execTimeStep h p s
  | .timeRate h p => Sys2Proof.Machine.execTimeRate h p s
  | .timeSelect h p => Sys2Proof.Machine.execTimeSelect h p s
  | .timeTrigger h p => Sys2Proof.Machine.execTimeTrigger h p s
  | .timeCaptureCfg h p => Sys2Proof.Machine.execTimeCaptureCfg h p s
  | .timePtpPortCfg h p => Sys2Proof.Machine.execTimePtpPortCfg h p s
  | .timeDomainCfg h p => Sys2Proof.Machine.execTimeDomainCfg h p s
  | .timeStatus h p => Sys2Proof.Machine.execTimeStatus h p s
  | .lnkPortCfg h p => Sys2Proof.Machine.execLnkPortCfg h p s
  | .lnkTopology h p => Sys2Proof.Machine.execLnkTopology h p s
  | .lnkStatus h p => Sys2Proof.Machine.execLnkStatus h p s
  | .lnkSend h p => Sys2Proof.Machine.execLnkSend h p s
  | .twinCfg h p => Sys2Proof.Machine.execTwinCfg h p s
  | .twinClaim h p => Sys2Proof.Machine.execTwinClaim h p s
  | .twinSwitch h p => Sys2Proof.Machine.execTwinSwitch h p s
  | .twinStatus h p => Sys2Proof.Machine.execTwinStatus h p s
  | .twinSaveState h p => Sys2Proof.Machine.execTwinSaveState h p s
  | .hlthStatus h p => Sys2Proof.Machine.execHlthStatus h p s
  | .hlthSpareMap h p => Sys2Proof.Machine.execHlthSpareMap h p s
  | .hlthRetire h p => Sys2Proof.Machine.execHlthRetire h p s
  | .diagDumpRead h p => Sys2Proof.Machine.execDiagDumpRead h p s
  | .diagUnfreeze h p => Sys2Proof.Machine.execDiagUnfreeze h p s
  | .diagFwRegion h p => Sys2Proof.Machine.execDiagFwRegion h p s
  | .testLoopback h p => Sys2Proof.Machine.execTestLoopback h p s
  | .testBist h p => Sys2Proof.Machine.execTestBist h p s
  | .testPattern h p => Sys2Proof.Machine.execTestPattern h p s
  | .testStatus h p => Sys2Proof.Machine.execTestStatus h p s
  | .sqDoorbellWrite q value => Sys2Proof.Machine.execSqDoorbellWrite q value s
  | .commandFetch e => Sys2Proof.Machine.execCommandFetch e s
  | .commandRelease qp tag => Sys2Proof.Machine.execCommandRelease qp tag s
  | .cqDoorbellWrite q value => Sys2Proof.Machine.execCqDoorbellWrite q value s
  | .qpEnable func q ctrl => Sys2Proof.Machine.execQpEnable func q ctrl s
  | .qpDisable func q ctrl => Sys2Proof.Machine.execQpDisable func q ctrl s
  | .deadlineAbandon qp tag => Sys2Proof.Machine.execDeadlineAbandon qp tag s
  | .delayListWalk => Sys2Proof.Machine.execDelayListWalk s
  | .coalTimeExpiry kind index => Sys2Proof.Machine.execCoalTimeExpiry kind index s
  | .msixUnmask func vector => Sys2Proof.Machine.execMsixUnmask func vector s
  | .evtCauseClear k value => Sys2Proof.Machine.execEvtCauseClear k value s
  | .registerWrite func addr value => Sys2Proof.Machine.execRegisterWrite func addr value s
  | .rcCounterRead addr => Sys2Proof.Machine.execRcCounterRead addr s
  | .resetCtrlWarm key => Sys2Proof.Machine.execResetCtrlWarm key s
  | .resetCtrlFull key => Sys2Proof.Machine.execResetCtrlFull key s
  | .spiSubmit e lengthOk => Sys2Proof.Machine.execSpiSubmit e lengthOk s
  | .spiReadReply => Sys2Proof.Machine.execSpiReadReply s
  | .spiReadStatus => Sys2Proof.Machine.execSpiReadStatus s
  | .mgmtVlanFrame port mac vlan verified seq entries => Sys2Proof.Machine.execMgmtVlanFrame port mac vlan verified seq entries s
  | .powerOnReset coreLow => Sys2Proof.Machine.execPowerOnReset coreLow s
  | .sysResetNLow lowNs => Sys2Proof.Machine.execSysResetNLow lowNs s
  | .resetEnd probe => Sys2Proof.Machine.execResetEnd probe s
  | .initDone probe => Sys2Proof.Machine.execInitDone probe s
  | .bootWatchdogExpiry => Sys2Proof.Machine.execBootWatchdogExpiry s
  | .perstNRise => Sys2Proof.Machine.execPerstNRise s
  | .pcieLinkUp width speed => Sys2Proof.Machine.execPcieLinkUp width speed s
  | .supplyExcursion rail lowPm highPm stillLow throughLow throughHigh durPs => Sys2Proof.Machine.execSupplyExcursion rail lowPm highPm stillLow throughLow throughHigh durPs s
  | .tamperAlarm sensor => Sys2Proof.Machine.execTamperAlarm sensor s
  | .tamperLoopSample loop mismatch => Sys2Proof.Machine.execTamperLoopSample loop mismatch s
  | .temperatureSample degC => Sys2Proof.Machine.execTemperatureSample degC s
  | .vbatLoss => Sys2Proof.Machine.execVbatLoss s
  | .refLoss ref => Sys2Proof.Machine.execRefLoss ref s
  | .refReturn ref => Sys2Proof.Machine.execRefReturn ref s
  | .avsEvaluate targetMv attempts => Sys2Proof.Machine.execAvsEvaluate targetMv attempts s
  | .lullEntry => Sys2Proof.Machine.execLullEntry s
  | .lullWake source gpio => Sys2Proof.Machine.execLullWake source gpio s
  | .pwrGoodRise lullCycles segmentsOk savedOk => Sys2Proof.Machine.execPwrGoodRise lullCycles segmentsOk savedOk s
  | .fatalError cause core => Sys2Proof.Machine.execFatalError cause core s
  | .synthFreqWrite chain => Sys2Proof.Machine.execSynthFreqWrite chain s
  | .synthLock chain => Sys2Proof.Machine.execSynthLock chain s
  | .synthUnlock chain => Sys2Proof.Machine.execSynthUnlock chain s
  | .txCoexReq chain => Sys2Proof.Machine.execTxCoexReq chain s
  | .txRffeSeqOn chain => Sys2Proof.Machine.execTxRffeSeqOn chain s
  | .grantDeadline chain level => Sys2Proof.Machine.execGrantDeadline chain level s
  | .txPaEnable chain => Sys2Proof.Machine.execTxPaEnable chain s
  | .lockDeadline chain => Sys2Proof.Machine.execLockDeadline chain s
  | .txModulationStart chain => Sys2Proof.Machine.execTxModulationStart chain s
  | .txLastSymbol chain fwd rev inputOk => Sys2Proof.Machine.execTxLastSymbol chain fwd rev inputOk s
  | .txPaDisable chain => Sys2Proof.Machine.execTxPaDisable chain s
  | .txEnRelease chain => Sys2Proof.Machine.execTxEnRelease chain s
  | .blankEnd chain => Sys2Proof.Machine.execBlankEnd chain s
  | .coexGrantRevoke chain => Sys2Proof.Machine.execCoexGrantRevoke chain s
  | .tunerSearchTimeout chain => Sys2Proof.Machine.execTunerSearchTimeout chain s
  | .calStart chain => Sys2Proof.Machine.execCalStart chain s
  | .calDone chain failedStep degC => Sys2Proof.Machine.execCalDone chain failedStep degC s
  | .autoRecalTrigger chain degC => Sys2Proof.Machine.execAutoRecalTrigger chain degC s
  | .nbAgcUpdate chain level => Sys2Proof.Machine.execNbAgcUpdate chain level s
  | .adcClip chain clipped => Sys2Proof.Machine.execAdcClip chain clipped s
  | .preambleDetect phys corr rssi => Sys2Proof.Machine.execPreambleDetect phys corr rssi s
  | .syncFieldEnd phys => Sys2Proof.Machine.execSyncFieldEnd phys s
  | .maxPreambleTimeout phys => Sys2Proof.Machine.execMaxPreambleTimeout phys s
  | .headerCheck phys hdr => Sys2Proof.Machine.execHeaderCheck phys hdr s
  | .laneCellAlloc phys data backpressure => Sys2Proof.Machine.execLaneCellAlloc phys data backpressure s
  | .laneFrameEnd phys fcsOk snr toneSnr => Sys2Proof.Machine.execLaneFrameEnd phys fcsOk snr toneSnr s
  | .listenWindowOpen lane => Sys2Proof.Machine.execListenWindowOpen lane s
  | .listenWindowClose lane => Sys2Proof.Machine.execListenWindowClose lane s
  | .deferredConfigApply lane => Sys2Proof.Machine.execDeferredConfigApply lane s
  | .laneFail phys => Sys2Proof.Machine.execLaneFail phys s
  | .laneSpareMove lane => Sys2Proof.Machine.execLaneSpareMove lane s
  | .snapshotEnd lane => Sys2Proof.Machine.execSnapshotEnd lane s
  | .chkPauseWrite u value => Sys2Proof.Machine.execChkPauseWrite u value s
  | .chkPauseEffect u => Sys2Proof.Machine.execChkPauseEffect u s
  | .chkValueWrite u value => Sys2Proof.Machine.execChkValueWrite u value s
  | .chkResultRead u => Sys2Proof.Machine.execChkResultRead u s
  | .comparatorFire n => Sys2Proof.Machine.execComparatorFire n s
  | .timeInEdge input falling => Sys2Proof.Machine.execTimeInEdge input falling s
  | .frontInEdge falling => Sys2Proof.Machine.execFrontInEdge falling s
  | .frontPositionMissing => Sys2Proof.Machine.execFrontPositionMissing s
  | .slewDone => Sys2Proof.Machine.execSlewDone s
  | .holdRelease => Sys2Proof.Machine.execHoldRelease s
  | .rateFold domain => Sys2Proof.Machine.execRateFold domain s
  | .ptpEventRx port msg => Sys2Proof.Machine.execPtpEventRx port msg s
  | .ptpTcEgress port id => Sys2Proof.Machine.execPtpTcEgress port id s
  | .ptpOffsetMeasure domain offsetNs rateCorr => Sys2Proof.Machine.execPtpOffsetMeasure domain offsetNs rateCorr s
  | .ptpAnnounceTimeout domain => Sys2Proof.Machine.execPtpAnnounceTimeout domain s
  | .timeSnapshotRead => Sys2Proof.Machine.execTimeSnapshotRead s
  | .captureEntryRead input => Sys2Proof.Machine.execCaptureEntryRead input s
  | .asnLatchRead => Sys2Proof.Machine.execAsnLatchRead s
  | .slotBoundary env => Sys2Proof.Machine.execSlotBoundary env s
  | .superframeEvent sf kind => Sys2Proof.Machine.execSuperframeEvent sf kind s
  | .slotStopEffect => Sys2Proof.Machine.execSlotStopEffect s
  | .secureStart chain => Sys2Proof.Machine.execSecureStart chain s
  | .secureDeadline chain => Sys2Proof.Machine.execSecureDeadline chain s
  | .ackListenOpen chain => Sys2Proof.Machine.execAckListenOpen chain s
  | .ackWaitEnd chain ack => Sys2Proof.Machine.execAckWaitEnd chain ack s
  | .airRecordProcess phys frame => Sys2Proof.Machine.execAirRecordProcess phys frame s
  | .enhAckCommit buffer => Sys2Proof.Machine.execEnhAckCommit buffer s
  | .beaconPeriodMiss => Sys2Proof.Machine.execBeaconPeriodMiss s
  | .guardLimitReached => Sys2Proof.Machine.execGuardLimitReached s
  | .tmEnqueue => Sys2Proof.Machine.execTmEnqueue s
  | .portServe port => Sys2Proof.Machine.execPortServe port s
  | .wheelFineAdvance => Sys2Proof.Machine.execWheelFineAdvance s
  | .wheelCoarseAdvance => Sys2Proof.Machine.execWheelCoarseAdvance s
  | .learnWindowExpiry kind panId addr => Sys2Proof.Machine.execLearnWindowExpiry kind panId addr s
  | .learnHoldoffExpiry kind panId addr => Sys2Proof.Machine.execLearnHoldoffExpiry kind panId addr s
  | .learnHeadWrite value => Sys2Proof.Machine.execLearnHeadWrite value s
  | .agingSweepVisit table index hitNow => Sys2Proof.Machine.execAgingSweepVisit table index hitNow s
  | .tblParityRepair table index => Sys2Proof.Machine.execTblParityRepair table index s
  | .keyReferenceDrop slot gen => Sys2Proof.Machine.execKeyReferenceDrop slot gen s
  | .keyWaitExpiry slot => Sys2Proof.Machine.execKeyWaitExpiry slot s
  | .rxOverlapExpiry slot => Sys2Proof.Machine.execRxOverlapExpiry slot s
  | .identityGenerated => Sys2Proof.Machine.execIdentityGenerated s
  | .pufSpareEnrol array active => Sys2Proof.Machine.execPufSpareEnrol array active s
  | .engineResume engine => Sys2Proof.Machine.execEngineResume engine s
  | .journalEntryDurable slot => Sys2Proof.Machine.execJournalEntryDurable slot s
  | .journalWriteFail slot => Sys2Proof.Machine.execJournalWriteFail slot s
  | .journalCompactDone => Sys2Proof.Machine.execJournalCompactDone s
  | .dropIntake => Sys2Proof.Machine.execDropIntake s
  | .dropDurable index readBackOk rewriteOk => Sys2Proof.Machine.execDropDurable index readBackOk rewriteOk s
  | .journalHeldFlush => Sys2Proof.Machine.execJournalHeldFlush s
  | .fwVerifyDone failedSegment imageOk => Sys2Proof.Machine.execFwVerifyDone failedSegment imageOk s
  | .autoCommitTimer => Sys2Proof.Machine.execAutoCommitTimer s
  | .nodeReportRx source report => Sys2Proof.Machine.execNodeReportRx source report s
  | .campaignWindowStart c => Sys2Proof.Machine.execCampaignWindowStart c s
  | .campaignWindowEnd c => Sys2Proof.Machine.execCampaignWindowEnd c s
  | .reportWaitExpiry c => Sys2Proof.Machine.execReportWaitExpiry c s
  | .repairVisitTimeout c member => Sys2Proof.Machine.execRepairVisitTimeout c member s
  | .dlBlockLock port => Sys2Proof.Machine.execDlBlockLock port s
  | .dlHelloTx port => Sys2Proof.Machine.execDlHelloTx port s
  | .dlHelloRx port setId memberId twin chipId => Sys2Proof.Machine.execDlHelloRx port setId memberId twin chipId s
  | .dlTrainingUp port => Sys2Proof.Machine.execDlTrainingUp port s
  | .dlLinkDownTimeout port => Sys2Proof.Machine.execDlLinkDownTimeout port s
  | .dlElasticOverflow port => Sys2Proof.Machine.execDlElasticOverflow port s
  | .dlFrameRx port frame => Sys2Proof.Machine.execDlFrameRx port frame s
  | .deltaRx delta => Sys2Proof.Machine.execDeltaRx delta s
  | .deltaAckTimeout => Sys2Proof.Machine.execDeltaAckTimeout s
  | .twinBulkRx delta => Sys2Proof.Machine.execTwinBulkRx delta s
  | .heartbeatTx => Sys2Proof.Machine.execHeartbeatTx s
  | .heartbeatMissing => Sys2Proof.Machine.execHeartbeatMissing s
  | .claimArbitration peer busOk => Sys2Proof.Machine.execClaimArbitration peer busOk s
  | .twinSaveDone restore authOk => Sys2Proof.Machine.execTwinSaveDone restore authOk s
  | .ethFrameRx port frame => Sys2Proof.Machine.execEthFrameRx port frame s
  | .ethPauseExpiry port => Sys2Proof.Machine.execEthPauseExpiry port s
  | .ethLinkChange port up speed => Sys2Proof.Machine.execEthLinkChange port up speed s
  | .ethPhyInt => Sys2Proof.Machine.execEthPhyInt s
  | .thDoorbellWrite ring value => Sys2Proof.Machine.execThDoorbellWrite ring value s
  | .thFrameDeliver ring bufs => Sys2Proof.Machine.execThFrameDeliver ring bufs s
  | .fhDoorbellWrite ring value => Sys2Proof.Machine.execFhDoorbellWrite ring value s
  | .fhEntryFetch ring entry => Sys2Proof.Machine.execFhEntryFetch ring entry s
  | .pf1WriteDrop addr => Sys2Proof.Machine.execPf1WriteDrop addr s
  | .pcieFlr func => Sys2Proof.Machine.execPcieFlr func s
  | .dramCe addr => Sys2Proof.Machine.execDramCe addr s
  | .dramUe addr => Sys2Proof.Machine.execDramUe addr s
  | .ddrCaAlert addr again => Sys2Proof.Machine.execDdrCaAlert addr again s
  | .patrolScrub wrapped => Sys2Proof.Machine.execPatrolScrub wrapped s
  | .ddrTempPoll degC => Sys2Proof.Machine.execDdrTempPoll degC s
  | .pageRetireDone page => Sys2Proof.Machine.execPageRetireDone page s
  | .flashBlockFail block => Sys2Proof.Machine.execFlashBlockFail block s
  | .sramEccError mem uncorrectable dirty row => Sys2Proof.Machine.execSramEccError mem uncorrectable dirty row s
  | .coreWatchdogExpiry core => Sys2Proof.Machine.execCoreWatchdogExpiry core s
  | .coreFail core => Sys2Proof.Machine.execCoreFail core s
  | .fwallViolation master addr write => Sys2Proof.Machine.execFwallViolation master addr write s
  | .masterOwnerReset master => Sys2Proof.Machine.execMasterOwnerReset master s
  | .fwallRecordRead => Sys2Proof.Machine.execFwallRecordRead s
  | .queueFlushWriter queue tag lastWasEnd words items => Sys2Proof.Machine.execQueueFlushWriter queue tag lastWasEnd words items s
  | .testComplete sent received errors bistFail engines => Sys2Proof.Machine.execTestComplete sent received errors bistFail engines s
  | .jtagInstruction ir => Sys2Proof.Machine.execJtagInstruction ir s
  | .rawSlotBoundary env => Sys2Proof.Machine.execRawSlotBoundary env s
  | .mainPowerRemoval => Sys2Proof.Machine.execMainPowerRemoval s
  | .mainPowerRestore => Sys2Proof.Machine.execMainPowerRestore s
  | .twinWatchdogExpiry => Sys2Proof.Machine.execTwinWatchdogExpiry s
  | .campaignDoneWaitExpiry c => Sys2Proof.Machine.execCampaignDoneWaitExpiry c s
  | .budgetBucketExpiry => Sys2Proof.Machine.execBudgetBucketExpiry s
  | .pcieAerError kind => Sys2Proof.Machine.execPcieAerError kind s

end Sys2Proof.Machine
end

