-- ==== Sys2Proof/Machine/Step.lean ====
section
/-!
DEFINITION. One step: the command at the front of the queue has its effect; on an empty queue one TIME cycle passes.
-/
namespace Sys2Proof.Machine

/-- One step. On an empty queue a TIME cycle passes and nothing else happens (R216). DESIGN CHOICE, log entry 12. -/
def step (s : State) : Host.Outcome State Fault Refusal :=
  match s.pending with
  | [] => .next (timeTick s)
  | c :: rest => exec c { s with pending := rest }

/-- s with the command a table word spells put at the front of its queue; no word spells one. -/
def State.withFetchWord (s : State) (nbits w : Nat) : State :=
  match Sys2Proof.decodeTableWord nbits w with
  | none => s
  | some c => { s with pending := c :: s.pending }

end Sys2Proof.Machine
end

