-- ==== Sys2Proof/Safety.lean ====
section
/-!
DEFINITION. The terms in which the statements speak: when an agent may work on a command at once, what a command in flight looks like
once it is answered, which row of the table carries a command, and what a safe run is.
-/
namespace Sys2Proof.Safety
open Machine

/-- The row of the table that carries a command under a header. -/
def rowOf (h : Hdr) : Cmd → Instr
  | .sysInfo p => .sysInfo h p
  | .sysReset p => .sysReset h p
  | .sysState p => .sysState h p
  | .sysEventMap p => .sysEventMap h p
  | .sysTimed p => .sysTimed h p
  | .sysMgmtCfg p => .sysMgmtCfg h p
  | .sysEthCfg p => .sysEthCfg h p
  | .sysMacsecSa p => .sysMacsecSa h p
  | .radChainCfg p => .radChainCfg h p
  | .radCal p => .radCal h p
  | .radTuner p => .radTuner h p
  | .radCoexCfg p => .radCoexCfg h p
  | .radAgcCfg p => .radAgcCfg h p
  | .radPaRamp p => .radPaRamp h p
  | .radTxRaw p => .radTxRaw h p
  | .radBlankMap p => .radBlankMap h p
  | .laneAssign p => .laneAssign h p
  | .lanePhyCfg p => .lanePhyCfg h p
  | .laneCaptureCfg p => .laneCaptureCfg h p
  | .laneStatus p => .laneStatus h p
  | .laneFlush p => .laneFlush h p
  | .laneBitload p => .laneBitload h p
  | .slotCfg p => .slotCfg h p
  | .slotListLoad p => .slotListLoad h p
  | .slotListActivate p => .slotListActivate h p
  | .slotSuperframeCfg p => .slotSuperframeCfg h p
  | .slotTx p => .slotTx h p
  | .slotFrontCfg p => .slotFrontCfg h p
  | .slotStatus p => .slotStatus h p
  | .slotFollowCfg p => .slotFollowCfg h p
  | .budgRegionLoad p => .budgRegionLoad h p
  | .budgStatus p => .budgStatus h p
  | .tmQueueCfg p => .tmQueueCfg h p
  | .tmMeterCfg p => .tmMeterCfg h p
  | .tmShaperCfg p => .tmShaperCfg h p
  | .tmClassMap p => .tmClassMap h p
  | .tmStats p => .tmStats h p
  | .tblNodeInsert p => .tblNodeInsert h p
  | .tblNodeDelete p => .tblNodeDelete h p
  | .tblPrefixAdd p => .tblPrefixAdd h p
  | .tblPrefixDel p => .tblPrefixDel h p
  | .tblAgingCfg p => .tblAgingCfg h p
  | .tblLookup p => .tblLookup h p
  | .tblEvictPolicy p => .tblEvictPolicy h p
  | .tblCfg p => .tblCfg h p
  | .tblNeighbourSet p => .tblNeighbourSet h p
  | .tblStatus p => .tblStatus h p
  | .keyImport p => .keyImport h p
  | .keyDerive p => .keyDerive h p
  | .keyStage p => .keyStage h p
  | .keyCommit p => .keyCommit h p
  | .keyErase p => .keyErase h p
  | .keyInfo p => .keyInfo h p
  | .keyInvalidate p => .keyInvalidate h p
  | .keyAttest p => .keyAttest h p
  | .keyStoreCfg p => .keyStoreCfg h p
  | .cryOp p => .cryOp h p
  | .crySign p => .crySign h p
  | .cryVerify p => .cryVerify h p
  | .cryHash p => .cryHash h p
  | .cryXtsRegion p => .cryXtsRegion h p
  | .cryChkCfg p => .cryChkCfg h p
  | .cryStatus p => .cryStatus h p
  | .updOpen p => .updOpen h p
  | .updBlock p => .updBlock h p
  | .updStatus p => .updStatus h p
  | .updVerify p => .updVerify h p
  | .updActivate p => .updActivate h p
  | .updCampaignCfg p => .updCampaignCfg h p
  | .updCampaignCtrl p => .updCampaignCtrl h p
  | .timeStep p => .timeStep h p
  | .timeRate p => .timeRate h p
  | .timeSelect p => .timeSelect h p
  | .timeTrigger p => .timeTrigger h p
  | .timeCaptureCfg p => .timeCaptureCfg h p
  | .timePtpPortCfg p => .timePtpPortCfg h p
  | .timeDomainCfg p => .timeDomainCfg h p
  | .timeStatus p => .timeStatus h p
  | .lnkPortCfg p => .lnkPortCfg h p
  | .lnkTopology p => .lnkTopology h p
  | .lnkStatus p => .lnkStatus h p
  | .lnkSend p => .lnkSend h p
  | .twinCfg p => .twinCfg h p
  | .twinClaim p => .twinClaim h p
  | .twinSwitch p => .twinSwitch h p
  | .twinStatus p => .twinStatus h p
  | .twinSaveState p => .twinSaveState h p
  | .hlthStatus p => .hlthStatus h p
  | .hlthSpareMap p => .hlthSpareMap h p
  | .hlthRetire p => .hlthRetire h p
  | .diagDumpRead p => .diagDumpRead h p
  | .diagUnfreeze p => .diagUnfreeze h p
  | .diagFwRegion p => .diagFwRegion h p
  | .testLoopback p => .testLoopback h p
  | .testBist p => .testBist h p
  | .testPattern p => .testPattern h p
  | .testStatus p => .testStatus h p

/-- A command just fetched, with nothing yet decided about it (R105, R108). -/
def newFlight (h : Hdr) (c : Cmd) (s : State) : Flight := { qp := h.qp, hdr := h, cmd := some c, fetchTick := fwTick s, doneTick := fwTick s }

/-- A command whose completion record holds a status, INFO and reply data (R111, R120). -/
def doneFlight (h : Hdr) (c : Cmd) (status info : Nat) (data : List Byte) (s : State) : Flight :=
  { newFlight h c s with done := true, status := status, info := info, data := data }

/-- No command of this queue pair and TAG is in flight (R108). -/
def TagFree (h : Hdr) (s : State) : Prop := ∀ f ∈ s.hif.flights, ¬ (f.qp = h.qp ∧ f.hdr.tag = h.tag)

/-- Nothing earlier holds the command: no ORDERED command of its ring, no earlier command of its flow, no full reply ring, and no work that
an earlier command to its instance continues (R103, R114, R115, R117). -/
def Unheld (h : Hdr) (c : Cmd) (s : State) : Prop :=
  (∀ f ∈ s.hif.flights, (f.qp = h.qp → hflag h 0 = false ∧ hflag f.hdr 0 = false) ∧ flowKey f ≠ (opcodeOf c / 256, h.flow)) ∧
    replyFull s h.qp = false ∧ jobBusy c h.flow s = false

/-- The part answers, the entry passes every check of its fetch, and its agent may work on it at once. -/
def Ready (h : Hdr) (c : Cmd) (s : State) : Prop :=
  answers s = true ∧ TagFree h s ∧ entryRefusal h (some c) s = stOk ∧ staysDelayed h c = false ∧ Unheld h c s

/-- HIF once the command has joined the commands in flight, completed with this status, INFO and reply data: nothing else of it changes. -/
def answered (h : Hdr) (c : Cmd) (status info : Nat) (data : List Byte) (s : State) : HifSt :=
  { s.hif with flights := s.hif.flights ++ [doneFlight h c status info data s] }

/-- HIF once the command has joined the commands in flight and its reply waits for an event that its chapter names. -/
def awaiting (h : Hdr) (c : Cmd) (s : State) : HifSt := { s.hif with flights := s.hif.flights ++ [{ newFlight h c s with waiting := true }] }

/-- The cause bits once event source n has been raised (R131, R132): its own bit is set where the source is enabled, no other changes. -/
def causeAfter (n : Nat) (s : State) : Nat := if (srcCfgOf s n).enable then setBit s.evt.cause n else s.evt.cause

/-- The step neither faults nor is refused. -/
def Completes (s : State) : Prop := ∃ t, step s = .next t

/-- A state whose host memory is in canonical form. -/
def MemOk (s : State) : Prop := memWf s.hostMem = true

end Sys2Proof.Safety
end

