-- ==== Sys2Proof/Certificates/Slice0/Obligations.lean ====
section
/-!
DEFINITION. The statements, by family: the machine as a whole, the command path, then the blocks in the order of the command table.
-/
open Sys2Proof Sys2Proof.Machine Sys2Proof.Safety

/-! The machine as a whole. -/

/-- A step with command c at the front of the queue is exec of c with the queue's rest.
Where the rules leave a choice it follows log entry 2. -/
def Obligations.StepRunsFrontCommand : Prop := ∀ (c : Instr) (rest : List Instr) (s : State),
  s.pending = c :: rest → step s = exec c { s with pending := rest }

/-- On an empty queue a step is one TIME cycle (log entry 12): C counts one (R216), a TIME_OUT pulse that has lasted its time falls (R232),
and nothing else changes. -/
def Obligations.IdleStepCountsTime : Prop := ∀ s : State, s.pending = [] →
  ∃ out pulses, step s = .next { s with time := { s.time with c := s.time.c + 1, timeOut := out, pulseEnd := pulses } } ∧
    (∀ e, e ∈ pulses ↔ e ∈ s.time.pulseEnd ∧ 2 * (s.time.c + 1) < e.2) ∧
    (∀ pin, out.testBit pin = (s.time.timeOut.testBit pin && !s.time.pulseEnd.any (fun e => e.1 = pin && decide (e.2 ≤ 2 * (s.time.c + 1)))))

/-- The register values after reset that the summary gives in brackets (R564). -/
def Obligations.ResetRegisterValues : Prop :=
  (∀ q < 64, regRead State.reset (0x21010 + 0x40 * q) = 0x910) ∧
  (∀ r < 32, regRead State.reset (0x22008 + 0x20 * r) = 0xC ∧ regRead State.reset (0x22408 + 0x20 * r) = 0xC) ∧
  (∀ n < 384, regRead State.reset (0x31000 + 4 * n) = 0x100 + defaultVector n) ∧
  (∀ c < 4, regRead State.reset (0x40000 + 0x1000 * c) = 0x1E1) ∧
  (∀ n < 96, regRead State.reset (0x50000 + 4 * n) = n) ∧
  (∀ p < 104, regRead State.reset (0x50400 + 4 * p) = if p < 96 then 0x40 * p else 0x10) ∧
  regRead State.reset 0x50800 = 8 ∧ regRead State.reset 0x6000C = 10000 ∧ regRead State.reset 0x70004 = 3600 ∧
  regRead State.reset 0x80000 = 0x8000 ∧ regRead State.reset 0x80004 = 0x400 ∧ regRead State.reset 0x90030 = 0xFFFFFFFF ∧
  regRead State.reset 0x90048 = 0xC ∧
  (∀ n < 16, regRead State.reset (0xD0108 + 0x10 * n) = if n < 2 ∨ 12 ≤ n then 0x800 else 0) ∧
  (∀ r < 16, regRead State.reset (0xB040C + 0x10 * r) = 0x2000) ∧
  (∀ r < 16, regRead State.reset (0x13010C + 0x10 * r) = 0x20000) ∧ regRead State.reset 0x16002C = 2

/-- Host memory is in canonical form at reset.
Where the rules leave a choice it follows log entries 2 and 9. -/
def Obligations.HostMemoryCanonicalAtReset : Prop := MemOk State.reset

/-- Every step keeps host memory in canonical form: addresses rising and below 2^64, no byte listed that reads as an unlisted one.
Where the rules leave a choice it follows log entries 2 and 9. -/
def Obligations.HostMemoryStaysCanonical : Prop := ∀ s t : State, MemOk s → step s = .next t → MemOk t

/-- No command changes the queue of waiting commands; the burnt security version never falls (R442); the tamper latch, once set, is
cleared by no command before a power cycle (R96, R97).
Where the rules leave a choice it follows log entry 30. -/
def Obligations.FusesAndLatchKept : Prop := ∀ (c : Instr) (s t : State), exec c s = .next t →
  t.pending = s.pending ∧ s.otp.svBurnt ≤ t.otp.svBurnt ∧ (s.aon.latch = true → s.aon.cycled = false → t.aon.latch = true)

/-! Events and the command path (R30, R105-R133). -/

/-- An event source (R129, R131, R132): disabled, or with its cause bit set already, nothing happens; else the bit is set, and where its
vector was not pending before one message goes out, or is held while the vector is masked. -/
def Obligations.EventRaiseSetsCauseOnce : Prop := ∀ (n : Nat) (s : State), n < 384 →
  let v := vecOfSrc (srcCfgOf s n)
  (((srcCfgOf s n).enable = false ∨ s.evt.cause.testBit n = true) → raise n s = s) ∧
  ((srcCfgOf s n).enable = true → s.evt.cause.testBit n = false →
    (∀ k, (raise n s).evt.cause.testBit k = (s.evt.cause.testBit k || decide (k = n))) ∧
    raise n s = { s with evt := { s.evt with
      cause := (raise n s).evt.cause, msgs := (raise n s).evt.msgs, held := (raise n s).evt.held } } ∧
    (vecPending s v = true → (raise n s).evt.msgs = s.evt.msgs ∧ (raise n s).evt.held = s.evt.held) ∧
    (vecPending s v = false → v ∈ s.evt.unmasked → (raise n s).evt.msgs = s.evt.msgs ++ [v] ∧ (raise n s).evt.held = s.evt.held) ∧
    (vecPending s v = false → v ∉ s.evt.unmasked → (raise n s).evt.msgs = s.evt.msgs ∧ v ∈ (raise n s).evt.held))

/-- A command that a check of its fetch refuses is completed with that status and has no side effect, whatever its opcode (R6, R31, R107,
R109, R110); a failed read of its parameters also sets FETCH_ERROR and raises EV_HIF_DOORBELL (R107), but not where the deadline
had passed (R119).
Where the rules leave a choice it follows log entries 10 and 28. -/
def Obligations.RefusedAtFetchHasNoEffect : Prop := ∀ (h : Hdr) (c : Cmd) (s : State),
  answers s = true → TagFree h s → entryRefusal h (some c) s ≠ stOk →
  let u : State := { s with hif := answered h c (entryRefusal h (some c) s) 0 [] s }
  let failed := hflag h 2 = true ∧ h.paramError = true ∧ h.qp < 64 ∧ entryRefusal h (some c) s ≠ stTimeout
  (¬ failed → exec (rowOf h c) s = .next u) ∧
  (failed → exec (rowOf h c) s = .next (raise 0x010 (withQp h.qp (fun q => { q with fetchError := true }) u)))

/-- The serial comparison of deadlines, and a command whose deadline is passed when it is fetched: ST_TIMEOUT and no side effect (R119). -/
def Obligations.PassedDeadlineTimesOut : Prop :=
  (∀ d n : Nat, d < 2 ^ 32 → n < 2 ^ 32 → d ≠ 0 →
    (deadlinePassed d n = true ↔ 1 ≤ ((n : Int) - d) % 2 ^ 32 ∧ ((n : Int) - d) % 2 ^ 32 ≤ 2 ^ 31 - 1)) ∧
  (∀ (h : Hdr) (c : Cmd) (s : State), answers s = true → TagFree h s → deadlinePassed h.deadline (fwTick s) = true →
    exec (rowOf h c) s = .next { s with hif := answered h c stTimeout 0 [] s })

/-- A command whose TAG is that of another in flight on its queue pair is refused with ST_DUPLICATE; the earlier one is unaffected (R108). -/
def Obligations.DuplicateTagRefused : Prop := ∀ (h : Hdr) (c : Cmd) (s : State) (f : Flight),
  answers s = true → f ∈ s.hif.flights → f.qp = h.qp → f.hdr.tag = h.tag →
  (∀ g ∈ s.hif.flights, isFor h c g = false) →
  exec (rowOf h c) s = .next { s with hif := answered h c stDuplicate 0 [] s }

/-- A TIMED command that may start and passes its checks waits on the delay list until act_time, in act_time order, and has no effect
before (R122, R124).
Where the rules leave a choice it follows log entry 28. -/
def Obligations.TimedCommandWaits : Prop := ∀ (h : Hdr) (c : Cmd) (s : State),
  answers s = true → TagFree h s → entryRefusal h (some c) s = stOk → staysDelayed h c = true → Unheld h c s →
  let u : State := { s with hif := { s.hif with flights := s.hif.flights ++ [newFlight h c s] } }
  (runCmd h c u).status = stOk →
  exec (rowOf h c) s = .next { s with hif := { s.hif with
    flights := s.hif.flights ++ [{ newFlight h c s with delayed := true }],
    delayList := delayInsert {
      qp := h.qp, hdr := h, cmd := some c, ref := (timedOf s h.qp).ref, lateNs := (timedOf s h.qp).lateNs, actNs := h.actTime } s.hif.delayList } }

/-- What holds a command back: an earlier one of its flow in flight keeps its side effects staged (R114), an ORDERED one of its ring keeps it
from starting (R115), and work that continues on its instance ends it with ST_BUSY (R117).
Where the rules leave a choice it follows log entry 28. -/
def Obligations.HeldCommandHasNoEffect : Prop := ∀ (h : Hdr) (c : Cmd) (s : State),
  answers s = true → TagFree h s → entryRefusal h (some c) s = stOk → staysDelayed h c = false →
  let ordered := ∃ f ∈ s.hif.flights, f.qp = h.qp ∧ (hflag h 0 = true ∨ hflag f.hdr 0 = true)
  let sameFlow := ∃ f ∈ s.hif.flights, flowKey f = (opcodeOf c / 256, h.flow)
  (ordered → exec (rowOf h c) s = .next { s with hif := { s.hif with flights := s.hif.flights ++ [newFlight h c s] } }) ∧
  (¬ ordered → sameFlow →
    exec (rowOf h c) s = .next { s with hif := { s.hif with flights := s.hif.flights ++ [{ newFlight h c s with staged := true }] } }) ∧
  (¬ ordered → ¬ sameFlow → replyFull s h.qp = false → jobBusy c h.flow s = true →
    exec (rowOf h c) s = .next { s with hif := answered h c stBusy 0 [] s })

/-- The doorbells of queue pair q (R98, R101): a value below the ring's size is taken; one of 2^n or above is ignored, sets FETCH_ERROR and
raises EV_HIF_DOORBELL. A reply doorbell also clears CQ_FULL. Queue pairs 64 and up have none. -/
def Obligations.QueuePairDoorbells : Prop := ∀ (q value : Nat) (s : State),
  let x := qpOf s q
  let v := value % 4096
  (64 ≤ q → exec (.sqDoorbellWrite q value) s = .next s ∧ exec (.cqDoorbellWrite q value) s = .next s) ∧
  (q < 64 → pfFrozen s x.func = false →
    (v < 2 ^ x.sqLog2 → exec (.sqDoorbellWrite q value) s = .next (withQp q (fun y => { y with sqTail := v }) s)) ∧
    (2 ^ x.sqLog2 ≤ v → exec (.sqDoorbellWrite q value) s = .next (raise 0x010 (withQp q (fun y => { y with fetchError := true }) s))) ∧
    (2 ^ x.cqLog2 ≤ v → exec (.cqDoorbellWrite q value) s = .next (raise 0x010 (withQp q (fun y => { y with fetchError := true }) s))) ∧
    (v < 2 ^ x.cqLog2 → ∃ t, exec (.cqDoorbellWrite q value) s = .next t ∧
      t = { s with hif := t.hif, evt := t.evt } ∧ t.hif = { s.hif with qps := t.hif.qps } ∧
      (∀ p, p ≠ q → qpOf t p = qpOf s p) ∧ (qpOf t q).cqHead = v ∧ (qpOf t q).cqFull = false ∧
      (qpOf t q).unsignalled ≤ x.unsignalled ∧ (qpOf t q).unsignalled ≤ unread (qpOf t q) ∧
      t.evt = { s.evt with msgs := t.evt.msgs, held := t.evt.held } ∧
      (vecPending t (replyVector s q) = true → replyVector s q ∈ s.evt.unmasked →
        t.evt.msgs = s.evt.msgs ++ [replyVector s q]))) ∧
  (q < 64 → pfFrozen s x.func = true → exec (.sqDoorbellWrite q value) s = .next s ∧ exec (.cqDoorbellWrite q value) s = .next s)

/-- QP_CTRL of queue pair q (R100, R104): ENABLE 1 is accepted only with both sizes in 4 to 12 and CQ_LOG2 at least SQ_LOG2, else ENABLE stays 0
and CONFIG_ERROR is set; while ENABLED is 1 FUNC and the sizes stay, and so do the base registers; ENABLE 0 leaves ENABLED set until nothing of
the queue pair is in flight. -/
def Obligations.QueuePairEnable : Prop := ∀ (func q ctrl : Nat) (s : State),
  q < 64 → func ≤ 1 → pfFrozen s func = false → (func = 1 → (qpOf s q).func = 1) →
  let x := qpOf s q
  let sq := bits ctrl 5 2
  let cq := bits ctrl 9 6
  let y : QpSt := { x with prio := bits ctrl 11 10, coalCount := bits ctrl 23 16, coalTime := bits ctrl 31 24 }
  let z : QpSt := { y with func := if func = 0 then bits ctrl 1 1 else x.func, sqLog2 := sq, cqLog2 := cq }
  let sizesOk := 4 ≤ sq ∧ sq ≤ 12 ∧ 4 ≤ cq ∧ cq ≤ 12 ∧ sq ≤ cq
  (x.enabled = false → sizesOk → exec (.qpEnable func q ctrl) s = .next (withQp q (fun _ => { z with enable := true, enabled := true }) s)) ∧
  (x.enabled = false → ¬ sizesOk → exec (.qpEnable func q ctrl) s = .next (withQp q (fun _ => { z with enable := false, configError := true }) s)) ∧
  (x.enabled = true → exec (.qpEnable func q ctrl) s = .next (withQp q (fun _ => { y with enable := true }) s)) ∧
  (x.enabled = true → 0 < inFlight s q → exec (.qpDisable func q ctrl) s = .next (withQp q (fun _ => { y with enable := false }) s)) ∧
  (x.enabled = true → inFlight s q = 0 → ∃ t, exec (.qpDisable func q ctrl) s = .next t ∧
    t = { s with hif := { s.hif with qps := t.hif.qps } } ∧ qpOf t q = { y with enable := false, enabled := false } ∧
    ∀ p, p ≠ q → qpOf t p = qpOf s p) ∧
  (x.enabled = false → exec (.qpDisable func q ctrl) s = .next (withQp q (fun _ => { z with enable := false }) s)) ∧
  (∀ off v, off = 0 ∨ off = 4 ∨ off = 8 ∨ off = 12 → func = 0 → x.enabled = true →
    exec (.registerWrite func (0x21000 + 0x40 * q + off) v) s = .next s)

/-- Fetching (R102, R105): an entry joins the commands in flight only where its queue pair is the one HIF serves next, with fewer than 64 of it
in flight and no ring of a higher PRIO waiting; SQ_HEAD passes it.
Where the rules leave a choice it follows log entries 22 and 28. -/
def Obligations.FetchServesRings : Prop := ∀ (e : Entry) (s : State),
  let q := e.hdr.qp
  (q < 64 → s.sys.devState = .run → servedNext s q = true → ∃ t f, exec (.commandFetch e) s = .next t ∧
    t.hif.flights = s.hif.flights ++ [f] ∧ f.qp = q ∧ f.hdr = e.hdr ∧ f.cmd = e.cmd ∧ (f.done = true ↔ f.status ≠ stOk) ∧
    (qpOf t q).sqHead = (qpOf s q).sqHead.succ % 2 ^ (qpOf s q).sqLog2 ∧ (∀ p, p ≠ q → qpOf t p = qpOf s p) ∧
    t = { s with hif := t.hif, evt := t.evt } ∧ t.hif.delayList = s.hif.delayList ∧ inFlight t q ≤ 64) ∧
  (64 ≤ inFlight s q → exec (.commandFetch e) s = .next s) ∧
  (∀ p, p < 64 → fetchable s p = true → (qpOf s p).prio < (qpOf s q).prio → exec (.commandFetch e) s = .next s)

/-- The release of a completed command in the order of its flow (R103, R111, R112, R114, R116): its reply is written at CQ_TAIL with the PHASE
of the pass, and the command leaves; with a full reply ring CQ_FULL is set and nothing else happens; a NO_REPLY command that ended with ST_OK
writes nothing; behind an earlier command of its flow it stays.
Where the rules leave a choice it follows log entry 28. -/
def Obligations.ReleaseWritesReply : Prop := ∀ (qp tag : Nat) (pre post : List Flight) (f : Flight) (s : State),
  answers s = true → qp < 64 → (qpOf s qp).enabled = true → s.sys.resetNext = none →
  s.hif.flights = pre ++ f :: post → f.qp = qp → f.hdr.tag = tag → f.done = true → f.staged = false → (∀ g ∈ pre, ¬ (g.qp = qp ∧ g.hdr.tag = tag)) →
  let x := qpOf s qp
  let silent := hflag f.hdr 3 = true ∧ f.status = stOk
  ((∃ g ∈ pre, flowKey g = flowKey f) → exec (.commandRelease qp tag) s = .next s) ∧
  ((∀ g ∈ pre, flowKey g ≠ flowKey f) → replyFull s qp = true → ¬ silent →
    exec (.commandRelease qp tag) s = .next (withQp qp (fun y => { y with cqFull := true }) s)) ∧
  ((∀ g ∈ pre, flowKey g ≠ flowKey f) → replyFull s qp = false → ¬ silent → ∃ t, exec (.commandRelease qp tag) s = .next t ∧
    t = { s with hif := t.hif, evt := t.evt, twin := t.twin, hostMem := t.hostMem } ∧ t.hif.flights = pre ++ post ∧
    t.hostMem = memWrite s.hostMem (x.cqBase + 32 * x.cqTail) (replyBytes tag f.status f.info x.sqHead x.phase f.data) ∧
    (qpOf t qp).cqTail = (if x.cqTail + 1 = 2 ^ x.cqLog2 then 0 else x.cqTail + 1) ∧
    (qpOf t qp).phase = (if x.cqTail + 1 = 2 ^ x.cqLog2 then !x.phase else x.phase) ∧ ∀ p, p ≠ qp → qpOf t p = qpOf s p) ∧
  ((∀ g ∈ pre, flowKey g ≠ flowKey f) → silent → ∃ t, exec (.commandRelease qp tag) s = .next t ∧
    t = { s with hif := t.hif, twin := t.twin } ∧ t.hif.flights = pre ++ post)

/-- A command whose deadline is passed before its completion record ends with ST_TIMEOUT and INFO 0 (R120, R121); evidence at or before the
deadline stands.
Where the rules leave a choice it follows log entry 28. -/
def Obligations.DeadlineAbandons : Prop := ∀ (qp tag : Nat) (pre post : List Flight) (f : Flight) (s : State),
  s.hif.flights = pre ++ f :: post → f.qp = qp → f.hdr.tag = tag →
  (∀ g ∈ pre ++ post, ¬ (g.qp = qp ∧ g.hdr.tag = tag)) → (∀ d ∈ s.hif.delayList, ¬ (d.qp = qp ∧ d.hdr.tag = tag)) →
  (f.done = true ∨ f.staged = true ∨ deadlinePassed f.hdr.deadline (fwTick s) = false → exec (.deadlineAbandon qp tag) s = .next s) ∧
  (f.done = false → f.staged = false → deadlinePassed f.hdr.deadline (fwTick s) = true →
    exec (.deadlineAbandon qp tag) s = .next { s with hif := { s.hif with flights := pre ++ { f with
      done := true, waiting := false, staged := false, delayed := false, status := stTimeout, info := 0, data := [], doneTick := fwTick s }
      :: post } })

/-- Comparators (R124, R230, R231): the walk of the delay list arms comparator 12 for an entry due within 200 us; a comparator whose reference has not
reached its target does nothing; a host comparator that fires rearms at the first k * period past the reading, or disarms, and raises its event where
its action says so. MSI-X (R126, R129, R131): unmasking a vector sends its held message where it is still pending; a write of 1s to EVT.CAUSE[k]
clears those cause bits of the word alone; an expired COAL_TIME signals the replies held.
Where the rules leave a choice it follows log entries 27 and 36. -/
def Obligations.ComparatorsAndVectors : Prop :=
  (∀ (s : State),
  (∀ d, s.hif.delayList = [d] → d.cmp = none → (cmpOf s 12).armed = false → (d.actNs : Int) ≤ refNs s d.ref + 200000 →
    exec .delayListWalk s = .next { s with
      hif := { s.hif with delayList := [{ d with cmp := some 12 }] },
      time := { s.time with cmps := tput s.time.cmps 12 { cmpOf s 12 with armed := true, ref := d.ref, target := d.actNs, period := 0, actions := 0 } } }) ∧
  (∀ n, refNs s (cmpOf s n).ref < (cmpOf s n).target → exec (.comparatorFire n) s = .next s) ∧
  (∀ n, 2 ≤ n → n < 12 → answers s = true → (cmpOf s n).armed = true → ((cmpOf s n).target : Int) ≤ refNs s (cmpOf s n).ref →
    ∃ t, exec (.comparatorFire n) s = .next t ∧ t = { s with time := t.time, evt := t.evt, lane := t.lane } ∧ t.time.c = s.time.c ∧
      (∀ m, m ≠ n → cmpOf t m = cmpOf s m) ∧
      ((cmpOf s n).period = 0 → (cmpOf t n).armed = false) ∧
      ((cmpOf s n).period ≠ 0 → (cmpOf t n).armed = true ∧ refNs s (cmpOf s n).ref < ((cmpOf t n).target : Int) ∧
        ((cmpOf t n).target : Int) ≤ refNs s (cmpOf s n).ref + (cmpOf s n).period ∧
        (cmpOf s n).period ∣ (cmpOf t n).target - (cmpOf s n).target) ∧
      (bit (cmpOf s n).actions 0 = true → (srcCfgOf s (0x0F6 + n)).enable = true → t.evt.cause.testBit (0x0F6 + n) = true) ∧
      (bit (cmpOf s n).actions 0 = false → t.evt = s.evt) ∧ (bit (cmpOf s n).actions 1 = false → t.time.timeOut = s.time.timeOut) ∧
      (bit (cmpOf s n).actions 2 = false → t.lane = s.lane))) ∧
  (∀ (s : State),
  (∀ func vector, let v := if func = 0 then vector else 256 + vector
    (func = 0 ∧ vector < 256 ∨ func = 1 ∧ vector < 8) → ∃ t, exec (.msixUnmask func vector) s = .next t ∧
      t = { s with evt := { s.evt with unmasked := t.evt.unmasked, held := t.evt.held, msgs := t.evt.msgs } } ∧
      (∀ w, w ∈ t.evt.unmasked ↔ w ∈ s.evt.unmasked ∨ w = v) ∧ (∀ w, w ∈ t.evt.held ↔ w ∈ s.evt.held ∧ w ≠ v) ∧
      t.evt.msgs = (if v ∈ s.evt.held ∧ vecPending s v = true then s.evt.msgs ++ [v] else s.evt.msgs)) ∧
  (∀ k value, k < 12 → pfFrozen s 0 = false → ∃ t, exec (.evtCauseClear k value) s = .next t ∧
    t = { s with evt := { s.evt with cause := t.evt.cause, held := t.evt.held, msgs := t.evt.msgs } } ∧
    ∀ n, t.evt.cause.testBit n = (s.evt.cause.testBit n && !(decide (n / 32 = k) && value.testBit (n % 32)))) ∧
  (∀ q, q < 64 → (qpOf s q).func = 0 → (qpOf s q).unsignalled ≠ 0 → q ∈ s.evt.unmasked → vecPending s q = false → unread (qpOf s q) ≠ 0 →
    ∃ t, exec (.coalTimeExpiry 0 q) s = .next t ∧ (qpOf t q).unsignalled = 0 ∧ (∀ p, p ≠ q → qpOf t p = qpOf s p) ∧
      t = { s with hif := { s.hif with qps := t.hif.qps }, evt := { s.evt with msgs := s.evt.msgs ++ [q] } }) ∧
  (∀ q, q < 64 → (qpOf s q).unsignalled = 0 → exec (.coalTimeExpiry 0 q) s = .next s))

/-- The management SPI (R135): a submission with room and of the right length joins the commands in flight of queue 64, another is ignored and counted; a
read takes the oldest reply behind a valid byte, or 0 where there is none; the status read shows room, a waiting reply and SYS.STATE. The management
VLAN (R136): on a port of its mask with MACsec, an unverified frame or one without 1 to 16 entries raises EV_MGMT_REJECT and does nothing else; a
verified one puts its entries in flight on queue 65; one whose sequence number is among the sender's last 16 executes nothing and sends the stored
replies again.
Where the rules leave a choice it follows log entries 27 and 28. -/
def Obligations.ManagementPaths : Prop :=
  (∀ (s : State),
  (∀ e, answers s = true → inFlight s 64 < 15 → ∃ t f, exec (.spiSubmit e true) s = .next t ∧ t = { s with hif := { s.hif with flights := s.hif.flights ++ [f] } } ∧
    f.qp = 64 ∧ f.hdr = { e.hdr with qp := 64 } ∧ f.cmd = e.cmd ∧ (f.done = true ↔ f.status ≠ stOk)) ∧
  (∀ e ok, answers s = true → 15 ≤ inFlight s 64 →
    exec (.spiSubmit e ok) s = .next { s with sys := { s.sys with spiNoRoom := min (s.sys.spiNoRoom + 1) 0xFFFFFFFF } }) ∧
  (∀ e, answers s = true → inFlight s 64 < 15 →
    exec (.spiSubmit e false) s = .next { s with sys := { s.sys with spiBadLen := min (s.sys.spiBadLen + 1) 0xFFFFFFFF } }) ∧
  (∀ r l, s.sys.spiReplies = r :: l → exec .spiReadReply s = .next { s with sys := { s.sys with spiReplies := l, spiOut := 0xA5#8 :: r } }) ∧
  (s.sys.spiReplies = [] → exec .spiReadReply s = .next { s with sys := { s.sys with spiOut := [0#8] } }) ∧
  (∃ b : Byte, exec .spiReadStatus s = .next { s with sys := { s.sys with spiOut := b :: le 4 (sysStateWord s) } } ∧
    (s.sys.devState = .lull → b = 0#8) ∧
    (s.sys.devState ≠ .lull → (b.toNat % 2 = 1 ↔ inFlight s 64 < 15) ∧ (b.toNat / 2 = 1 ↔ s.sys.spiReplies ≠ [])))) ∧
  (∀ (port mac vlan seq : Nat) (verified : Bool) (entries : List Entry) (s : State),
  s.sys.devState = .run → s.sys.mgmtEnable = true → bit s.sys.mgmtPorts port = true → vlan = s.sys.mgmtVlan → (ethOf s port).macsec = true →
  (verified = false ∨ entries = [] ∨ 16 < entries.length → exec (.mgmtVlanFrame port mac vlan verified seq entries) s = .next (raise 0x12F s)) ∧
  (verified = true → entries ≠ [] → entries.length ≤ 16 →
    (∀ p, s.sys.mgmtPeers.find? (fun x => decide (x.mac = mac)) = some p → seq ∈ p.seqs →
      exec (.mgmtVlanFrame port mac vlan verified seq entries) s = .next { s with sys := { s.sys with
        mgmtReplies := s.sys.mgmtReplies ++ (p.replies.filter (fun r => decide (r.1 = seq))).map (·.2) } }) ∧
    (s.sys.mgmtPeers.find? (fun x => decide (x.mac = mac)) = none → ∃ t fs, exec (.mgmtVlanFrame port mac vlan verified seq entries) s = .next t ∧
      t = { s with hif := { s.hif with flights := s.hif.flights ++ fs }, sys := { s.sys with mgmtPeers := t.sys.mgmtPeers } } ∧
      fs.map (fun f => (f.qp, f.hdr, f.cmd)) = entries.map (fun e => (65, { e.hdr with qp := 65 }, e.cmd)) ∧
      ∃ p ∈ t.sys.mgmtPeers, p.mac = mac ∧ p.seqs = [seq])))

/-- Register access (R5, R98, R132, R500, R501, R520): a write reaches its register as that register's own row does; PF1 outside its allowance is dropped
and counted with EV_PCIE_WRITE_DROPPED; a frozen function's writes are dropped; no register write changes C (R216). Reads with a side effect: an RC
counter returns its value and clears alone (R5); ASN_LO latches ASN_HI (R279); REC_ADDR_LO takes the oldest violation record (R539).
Where the rules leave a choice it follows log entries 8 and 10. -/
def Obligations.RegisterAccess : Prop :=
  (∀ (v : Nat) (s : State), pfFrozen s 0 = false → v < 2 ^ 32 →
  (∀ q < 64, exec (.registerWrite 0 (0x20000 + 8 * q) v) s = exec (.sqDoorbellWrite q v) s ∧
    exec (.registerWrite 0 (0x20004 + 8 * q) v) s = exec (.cqDoorbellWrite q v) s) ∧
  (∀ r < 32, exec (.registerWrite 0 (0x20200 + 4 * r) v) s = exec (.thDoorbellWrite r v) s ∧
    exec (.registerWrite 0 (0x20280 + 4 * r) v) s = exec (.fhDoorbellWrite r v) s) ∧
  (∀ k < 12, exec (.registerWrite 0 (0x30100 + 4 * k) v) s = exec (.evtCauseClear k v) s) ∧
  exec (.registerWrite 0 0x9004C v) s = exec (.learnHeadWrite v) s ∧
  (∀ u < 8, exec (.registerWrite 0 (0x170000 + 0x100 * u) v) s = exec (.chkPauseWrite u v) s ∧
    exec (.registerWrite 0 (0x170008 + 0x100 * u) v) s = exec (.chkValueWrite u v) s) ∧
  exec (.registerWrite 0 0x14 (v % 65536)) s = exec (.resetCtrlWarm (v % 65536)) s ∧
  exec (.registerWrite 0 0x14 (65536 + v % 65536)) s = exec (.resetCtrlFull (v % 65536)) s ∧
  exec (.registerWrite 0 0x80010 v) s = .next { s with tm := { s.tm with qsel := v % 4096 } } ∧
  (∀ a, a % 4 = 0 → pfFrozen s 1 = false → pf1May s a = false → exec (.registerWrite 1 a v) s = exec (.pf1WriteDrop a) s) ∧
  (∀ a, exec (.pf1WriteDrop a) s = .next (raise 0x143 { s with pcie := { s.pcie with cnt := bump s.pcie.cnt 3 } })) ∧
  (∀ a, pfFrozen s 1 = true → exec (.registerWrite 1 a v) s = .next s) ∧
  (∀ a, 0xD0000 ≤ a → a < 0xD0200 → exec (.registerWrite 0 a v) s = .next s) ∧
  (∀ a t, a ≠ 0x14 → exec (.registerWrite 0 a v) s = .next t → t.time.c = s.time.c)) ∧
  (∀ (s : State),
  (∀ i < 9, exec (.rcCounterRead (0x50810 + 4 * i)) s = .next { s with
    lane := { s.lane with cnt := tdel s.lane.cnt i }, hif := { s.hif with readData := tget 0 s.lane.cnt i } }) ∧
  (∀ i < 11, exec (.rcCounterRead (0x80100 + 4 * i)) s = .next { s with
    tm := { s.tm with cnt := tdel s.tm.cnt i }, hif := { s.hif with readData := tget 0 s.tm.cnt i } }) ∧
  (∀ i < 13, exec (.rcCounterRead (0x90100 + 4 * i)) s = .next { s with
    tbl := { s.tbl with cnt := tdel s.tbl.cnt i }, hif := { s.hif with readData := tget 0 s.tbl.cnt i } }) ∧
  (∀ i < 8, exec (.rcCounterRead (0xA0100 + 4 * i)) s = .next { s with
    sec := { s.sec with cnt := tdel s.sec.cnt i }, hif := { s.hif with readData := tget 0 s.sec.cnt i } }) ∧
  (∀ a, 0x18 = a → exec (.rcCounterRead a) s = .next { s with hif := { s.hif with readData := s.time.c / 50000 % 2 ^ 32 } }) ∧
  exec .asnLatchRead s = .next { s with
    slot := { s.slot with asnLatched := s.slot.asn / 2 ^ 32 }, hif := { s.hif with readData := s.slot.asn % 2 ^ 32 } } ∧
  (∀ r l, s.fwall.records = r :: l → exec .fwallRecordRead s = .next { s with
    fwall := { s.fwall with records := l, latched := some r }, hif := { s.hif with readData := r.addr % 2 ^ 32 } }) ∧
  (s.fwall.records = [] → exec .fwallRecordRead s = .next { s with
    fwall := { s.fwall with latched := none }, hif := { s.hif with readData := 0 } }))

/-! SYS. -/

/-- The SYS commands that change settings: SYS_RESET stores the reset that starts after its reply (R87), SYS_TIMED and SYS_MGMT_CFG store their settings
(R137); a value out of range is refused with ST_BAD_PARAM and changes nothing. SYS_INFO, SYS_STATE and SYS_EVENT_MAP (R88, R90, R97, R137, R543,
R560). SYS_INFO and SYS_STATE op 0 only reply; ENTER_LULL is armed, or refused with ST_BUSY where R90 says so; CLEAR_TAMPER before a power cycle or
with a sensor alarming is refused with ST_TAMPER, else clears the latch, writes a fresh salt and asks for a FULL reset; an event map routes the
sources it names alone.
Where the rules leave a choice it follows log entries 10 and 29. -/
def Obligations.SystemCommands : Prop :=
  (∀ (h : Hdr) (s : State),
  (∀ p : SysResetP, Ready h (.sysReset p) s →
    (p.kind ≤ 1 → exec (.sysReset h p) s = .next { s with
      hif := answered h (.sysReset p) stOk 0 [] s, sys := { s.sys with resetNext := some (if p.kind = 0 then .warm else .full) } }) ∧
    (1 < p.kind → exec (.sysReset h p) s = .next { s with hif := answered h (.sysReset p) stBadParam 0 [] s })) ∧
  (∀ p : SysTimedP, Ready h (.sysTimed p) s →
    let ok := p.queue ≤ 65 ∧ p.timeRef ≤ 3 ∧ 1 ≤ p.maxAheadS ∧ p.maxAheadS ≤ 86400
    (ok → exec (.sysTimed h p) s = .next { s with
      hif := answered h (.sysTimed p) stOk 0 [] s,
      sys := { s.sys with timed := tput s.sys.timed p.queue { ref := p.timeRef, lateNs := p.lateNs, maxAheadS := p.maxAheadS } } }) ∧
    (¬ ok → exec (.sysTimed h p) s = .next { s with hif := answered h (.sysTimed p) stBadParam 0 [] s })) ∧
  (∀ p : SysMgmtCfgP, Ready h (.sysMgmtCfg p) s →
    let ok := p.enable ≤ 1 ∧ p.portMask ≤ 3 ∧ 1 ≤ p.vlanId ∧ p.vlanId ≤ 4094
    (ok → exec (.sysMgmtCfg h p) s = .next { s with
      hif := answered h (.sysMgmtCfg p) stOk 0 [] s,
      sys := { s.sys with mgmtEnable := decide (p.enable = 1), mgmtPorts := p.portMask, mgmtVlan := p.vlanId } }) ∧
    (¬ ok → exec (.sysMgmtCfg h p) s = .next { s with hif := answered h (.sysMgmtCfg p) stBadParam 0 [] s }))) ∧
  (∀ (h : Hdr) (s : State),
  (∀ p : SysInfoP, Ready h (.sysInfo p) s → s.sys.devState = .run →
    (p.op = 0 → exec (.sysInfo h p) s = .next { s with hif := answered h (.sysInfo p) stOk 0 (fit 8 Config.serial ++ le 8 Config.eui64 ++
      le 1 Config.grade ++ le 1 (popcount s.hlth.coresActive 10) ++ zeros 2 ++ le 4 s.upd.fw.imageVersion) s }) ∧
    (p.op = 1 → exec (.sysInfo h p) s = .next { s with
      hif := answered h (.sysInfo p) stOk 0 (le 4 s.sys.dramMib ++ le 4 (s.sys.dramMib - 656)) s,
      hostMem := if p.bufferAddr = 0 then s.hostMem else memWrite s.hostMem p.bufferAddr fixedMap }) ∧
    (p.op = 2 → exec (.sysInfo h p) s = .next { s with hif := answered h (.sysInfo p) stOk 0 ([0, 1, 2, 3].flatMap (fun c =>
      le 1 (chainOf s c).service ++ le 1 (chainOf s c).failedStep ++ le 2 (chainOf s c).centre)) s }) ∧
    (2 < p.op → exec (.sysInfo h p) s = .next { s with hif := answered h (.sysInfo p) stBadParam 0 [] s })) ∧
  (∀ p : SysInfoP, Ready h (.sysInfo p) s → s.sys.devState = .fwVerify → p.op = 1 ∨ p.op = 2 →
    exec (.sysInfo h p) s = .next { s with hif := answered h (.sysInfo p) stBusy 0 [] s }) ∧
  (∀ p : SysStateP, Ready h (.sysState p) s →
    (p.op = 0 → exec (.sysState h p) s = .next { s with hif := answered h (.sysState p) stOk 0 (stateReply s) s }) ∧
    (p.op = 1 → p.lullDram ≤ 1 → p.wakeGpio ≤ 15 →
      let busy := s.sys.devState ≠ .run ∨ (s.twin.configured = true ∧ s.twin.gates = true) ∨ (∃ e ∈ s.upd.camps, e.2.inWindow = true) ∨
        s.test.run.isSome = true ∨ s.sys.lullArmed = true
      (busy → exec (.sysState h p) s = .next { s with hif := answered h (.sysState p) stBusy 0 [] s }) ∧
      (¬ busy → exec (.sysState h p) s = .next { s with
        hif := answered h (.sysState p) stOk 0 (stateReply s) s,
        sys := { s.sys with lullArmed := true, lullRelease := decide (p.lullDram = 1), wakeGpio := p.wakeGpio, wakeTimerS := p.wakeTimerS, wakeLatched := none } })) ∧
    (p.op = 2 → s.aon.cycled = false ∨ s.sec.tamperLive ≠ 0 →
      exec (.sysState h p) s = .next { s with hif := answered h (.sysState p) stTamper 0 [] s }) ∧
    (p.op = 2 → s.aon.cycled = true → s.sec.tamperLive = 0 → ∃ t, exec (.sysState h p) s = .next t ∧ t.aon.latch = false ∧ t.aon.cause = 0 ∧
      t.aon.loopEn = 0 ∧ t.aon.saltValid = true ∧ t.aon.salt = randomBytes s 32 ∧ t.sys = { s.sys with resetNext := some .full } ∧
      t.sec.root = s.sec.root ∧ t.otp.svBurnt = s.otp.svBurnt)) ∧
  (∀ p : SysEventMapP, Ready h (.sysEventMap p) s →
    let ok := 1 ≤ p.count ∧ p.firstSrc + p.count ≤ 384 ∧ p.vector ≤ 127 ∧ p.toPf1 ≤ 1 ∧ p.enable ≤ 1
    (¬ ok → exec (.sysEventMap h p) s = .next { s with hif := answered h (.sysEventMap p) stBadParam 0 [] s }) ∧
    (ok → ∃ t, exec (.sysEventMap h p) s = .next t ∧ t = { s with hif := answered h (.sysEventMap p) stOk 0 [] s, evt := t.evt } ∧
      t.evt.cause = s.evt.cause ∧ ∀ n, srcCfgOf t n = if p.firstSrc ≤ n ∧ n < p.firstSrc + p.count
        then { vector := p.vector, toPf1 := decide (p.toPf1 = 1), enable := decide (p.enable = 1) } else srcCfgOf s n)))

/-- SYS_ETH_CFG and SYS_MACSEC_SA (R496, R498, R499, R514): settings are stored, a change of mode drops the link with EV_ETH_LINK; an SA needs a live slot
with the MACSEC bit, a fifth receive channel finds no room, an SCI of a twin ends in its CHIP_ID, activation starts egress again, and the transmit AN
in use cannot be removed. The Ethernet line (R494, R495, R497, R513): a link change raises EV_ETH_LINK; a frame with a bad FCS is counted and dropped,
and so is an oversize one; PAUSE holds egress where it is honoured; with MACsec EAPOL goes to its ring, and a frame without an SA is dropped and
counted.
Where the rules leave a choice it follows log entries 11 and 43. -/
def Obligations.EthernetPorts : Prop :=
  (∀ (h : Hdr) (s : State),
  (∀ p : SysEthCfgP, Ready h (.sysEthCfg p) s →
    let ok := p.port ≤ 1 ∧ p.mode ≤ 3 ∧ p.autoneg ≤ 1 ∧ 1518 ≤ p.maxFrame ∧ p.maxFrame ≤ 9216 ∧ p.pauseRx ≤ 1 ∧ p.macAddr < 2 ^ 48 ∧ p.macsec ≤ 1 ∧
      p.eapolRing ≤ 31
    let e := ethOf s p.port
    let drop := p.mode ≠ e.mode ∧ e.link = true
    (¬ ok → exec (.sysEthCfg h p) s = .next { s with hif := answered h (.sysEthCfg p) stBadParam 0 [] s }) ∧
    (ok → ∃ t, exec (.sysEthCfg h p) s = .next t ∧ (∃ data, t.hif = answered h (.sysEthCfg p) stOk 0 data s) ∧
      t = { s with hif := t.hif, evt := t.evt, eth := t.eth } ∧ (∀ q, q ≠ p.port → ethOf t q = ethOf s q) ∧
      ethOf t p.port = { e with
        mode := p.mode, link := e.link && !decide drop, autoneg := decide (p.autoneg = 1), maxFrame := p.maxFrame, pauseRx := decide (p.pauseRx = 1),
        mac := p.macAddr, macsec := decide (p.macsec = 1), eapolRing := p.eapolRing } ∧
      (¬ drop → t.evt = s.evt) ∧ (drop → (srcCfgOf s (0x128 + p.port)).enable = true → t.evt.cause.testBit (0x128 + p.port) = true))) ∧
  (∀ p : SysMacsecSaP, Ready h (.sysMacsecSa p) s → p.port ≤ 1 → p.an ≤ 3 → p.slot ≤ 4095 → p.encrypt ≤ 1 → p.nextPn < 2 ^ 64 → p.salt < 2 ^ 96 →
    let e := ethOf s p.port
    let chans := (((e.rxSas.filter (fun x => !(decide (x.1 = p.sci) && decide (x.2.1 = p.an)))).map (·.1)).eraseDups)
    let sa : MacsecSa := {
      slot := p.slot, nextPn := p.nextPn, ssci := p.ssci, salt := p.salt, encrypt := decide (p.encrypt = 1), replayWindow := p.replayWindow, pnWarn := p.pnWarn }
    let refused := fun st => exec (.sysMacsecSa h p) s = .next { s with hif := answered h (.sysMacsecSa p) st 0 [] s }
    (p.op ≤ 1 → keyStatus s p.slot 2 = stKeyDenied → refused stKeyDenied) ∧
    (p.op ≤ 1 → (slotOf s p.slot).state = 0 → refused stKeyGone) ∧
    (p.op = 0 → keyStatus s p.slot 2 = stOk → 4 ≤ chans.length → p.sci ∉ chans → refused stNoRoom) ∧
    (p.op = 0 → keyStatus s p.slot 2 = stOk → chans.length < 4 → ∃ t, exec (.sysMacsecSa h p) s = .next t ∧
      t = { s with hif := answered h (.sysMacsecSa p) stOk 0 (le 8 p.nextPn) s, eth := t.eth } ∧
      ethOf t p.port = { e with rxSas := (ethOf t p.port).rxSas } ∧ (p.sci, p.an, sa) ∈ (ethOf t p.port).rxSas) ∧
    (p.op = 1 → keyStatus s p.slot 2 = stOk → s.twin.configured = true → p.sci % 2 ≠ s.twin.chipId → refused stBadParam) ∧
    (p.op = 1 → keyStatus s p.slot 2 = stOk → s.twin.configured = false → ∃ t, exec (.sysMacsecSa h p) s = .next t ∧
      t = { s with hif := answered h (.sysMacsecSa p) stOk 0 (le 8 p.nextPn) s, eth := t.eth } ∧
      (ethOf t p.port).txSci = p.sci ∧ tfind (ethOf t p.port).txSas p.an = some sa) ∧
    (∀ a, p.op = 2 → tfind e.txSas p.an = some a → exec (.sysMacsecSa h p) s = .next { s with
      hif := answered h (.sysMacsecSa p) stOk 0 (le 8 a.nextPn) s,
      eth := tput s.eth p.port { e with txAn := p.an, txAnSet := true, txStopped := false } }) ∧
    (p.op = 3 → e.txSci = p.sci → (tfind e.txSas p.an).isSome = true → e.txAnSet = true → e.txAn = p.an → refused stBusy) ∧
    (∀ a, p.op = 3 → e.txSci = p.sci → tfind e.txSas p.an = some a → e.txAn ≠ p.an → exec (.sysMacsecSa h p) s = .next { s with
      hif := answered h (.sysMacsecSa p) stOk 0 (le 8 a.nextPn) s, eth := tput s.eth p.port { e with txSas := tdel e.txSas p.an } }))) ∧
  (∀ (s : State),
  (∀ e up speed, e ≤ 1 → (ethOf s e).mode ≠ 0 → (ethOf s e).held = false → (ethOf s e).link ≠ up → exec (.ethLinkChange e up speed) s =
    .next (raise (0x128 + e) { s with eth := tput s.eth e { ethOf s e with link := up, speed := if up then speed % 4 else (ethOf s e).speed } })) ∧
  (∀ e up speed, (ethOf s e).link = up ∨ (ethOf s e).mode = 0 ∨ 1 < e → exec (.ethLinkChange e up speed) s = .next s) ∧
  exec .ethPhyInt s = .next (raise 0x12A s) ∧
  (∀ e, exec (.ethPauseExpiry e) s = .next { s with tm := { s.tm with pauseNs := tdel s.tm.pauseNs e } }) ∧
  (∀ e f, e ≤ 1 → (ethOf s e).mode ≠ 0 → (ethOf s e).link = true → (ethOf s e).held = false →
    let p := ethOf s e
    let len := f.aad.length + f.bytes.length + f.icv.length + 4
    let counted := fun (i : Nat) (u : State) => { u with eth := tput u.eth e { ethOf u e with cnt := bump (ethOf u e).cnt i } }
    (f.fcsOk = false → exec (.ethFrameRx e f) s = .next (counted 2 s)) ∧
    (f.fcsOk = true → p.maxFrame < len → exec (.ethFrameRx e f) s = .next (counted 9 s)) ∧
    (∀ q, f.fcsOk = true → len ≤ p.maxFrame → 64 ≤ len → f.pause = some q → ∃ t, exec (.ethFrameRx e f) s = .next t ∧
      t = { counted 4 (counted 0 s) with tm := t.tm } ∧ (p.pauseRx = false → t.tm = s.tm) ∧
      (p.pauseRx = true → p.speed = 3 → t.tm = { s.tm with pauseNs := tput s.tm.pauseNs e (2 * s.time.c + q * 512000 / 10000) })) ∧
    (f.fcsOk = true → len ≤ p.maxFrame → 64 ≤ len → f.pause = none → p.macsec = true →
      (f.eapol = true → exec (.ethFrameRx e f) s = .next { counted 8 (counted 0 s) with pcie := { s.pcie with
        reports := s.pcie.reports ++ [(p.eapolRing, { data := f.bytes, srcPort := e, ts := 2 * s.time.c })] } }) ∧
      (f.eapol = false → f.tagged = false ∨ rxSa p f.sci f.an = none → exec (.ethFrameRx e f) s = .next (counted 5 (counted 0 s)))) ∧
    (f.fcsOk = true → len ≤ p.maxFrame → 64 ≤ len → f.pause = none → p.macsec = false → f.queueFull = true → p.dropSec ≠ some (rawSec s) →
      exec (.ethFrameRx e f) s = .next (raise 0x12B (let u := counted 3 (counted 0 s); { u with eth := tput u.eth e { ethOf u e with dropSec := some (rawSec s) } })))) ∧
  (∀ e f, (ethOf s e).link = false ∨ (ethOf s e).mode = 0 ∨ 1 < e → exec (.ethFrameRx e f) s = .next s))

/-! Resets, boot, supplies, tamper, LULL and the fatal path. -/

/-- The resets (R65, R68-R70, R75, R104, R132, R217, R364): a WARM reset leaves C, the domains and the selection, the salt, the latch, the root and the
event routing, and clears the queue pairs, the commands in flight, the cause bits, the key slots and the captures; a FULL reset or POWER_ON sets C to
0 and clears the root and the routing too. The cause is recorded. SYS_RESET and CLEAR_TAMPER start their reset once the reply is released (R87, R97):
the release of such a command, complete with ST_OK, is followed by the reset it asked for, with cause COMMAND, or TAMPER_CLEAR out of TAMPER_HOLD.
Where the rules leave a choice it follows log entry 29. -/
def Obligations.Resets : Prop :=
  (∀ (s : State),
  let kept := fun (t : State) => t.aon = s.aon ∧ t.otp = s.otp ∧ t.hostMem = s.hostMem ∧ t.flash.saved = s.flash.saved
  let full := fun (k : ResetKind) (cause : Nat) (t : State) => kept t ∧ t.sys.devState = .reset ∧ t.sys.resetKind = some k ∧ t.sys.resetCause = cause ∧
    t.time = {} ∧ t.sec = {} ∧ t.evt = {} ∧ t.hif = {} ∧ t.cry = {} ∧ t.tbl = {} ∧ t.tm = {}
  (∀ key, key % 65536 = 0xC1EA → s.hif.pcieUp = true → s.sys.devState = .run ∨ s.sys.devState = .init ∨ s.sys.devState = .fwVerify →
    (∃ t, exec (.resetCtrlWarm key) s = .next t ∧ kept t ∧ t.sys.devState = .fwVerify ∧ t.sys.resetCause = 4 ∧
      t.hif.qps = [] ∧ t.hif.flights = [] ∧ t.hif.delayList = [] ∧ t.evt.cause = 0 ∧ t.evt.srcCfg = s.evt.srcCfg ∧ t.evt.irqSel = s.evt.irqSel ∧
      t.sec.root = s.sec.root ∧ t.sec.rootReady = s.sec.rootReady ∧ t.sec.slots = [] ∧ t.cry.msgs = [] ∧ t.cry.hashes = [] ∧
      t.time.c = s.time.c ∧ t.time.sel = s.time.sel ∧
      (∀ i, (domOf t.time i).o = (domOf s.time i).o ∧ (domOf t.time i).r = (domOf s.time i).r ∧ (domOf t.time i).k = (domOf s.time i).k ∧
        (domOf t.time i).src = (domOf s.time i).src ∧ (domOf t.time i).tracked = (domOf s.time i).tracked) ∧
      (∀ n, (cmpOf t n).armed = false) ∧ (∀ i, (tget {} t.time.caps i : CapSt).queue = [])) ∧
    (∃ t, exec (.resetCtrlFull key) s = .next t ∧ full .full 4 t)) ∧
  (∀ key, key % 65536 ≠ 0xC1EA ∨ s.hif.pcieUp = false → exec (.resetCtrlWarm key) s = .next s ∧ exec (.resetCtrlFull key) s = .next s) ∧
  (∀ ns, (ns < 1000 → exec (.sysResetNLow ns) s = .next s) ∧
    (1000 ≤ ns → s.sys.devState = .run → ∃ t, exec (.sysResetNLow ns) s = .next t ∧ full .full 1 t)) ∧
  (s.sys.devState = .run → exec .bootWatchdogExpiry s = .next s) ∧
  (s.sys.devState = .init → s.sys.bootWatchdog = true → s.boot.waitingImage = false →
    ∃ t, exec .bootWatchdogExpiry s = .next t ∧ full .full 5 t) ∧
  (∃ t, exec (.powerOnReset false) s = .next t ∧ full .powerOn 0 t ∧ t.dump = {}) ∧
  (s.sys.devState ≠ .off → ∃ t, exec (.powerOnReset true) s = .next t ∧ t.sys.devState = .reset ∧ t.sys.resetCause = 0 ∧ t.time.c = 0 ∧
    t.aon = { s.aon with cycled := s.aon.cycled || s.aon.latch }) ∧
  (∃ t, exec .mainPowerRemoval s = .next t ∧ t.sys.devState = .off ∧ t.time.c = 0 ∧ t.sec = {} ∧ t.aon.salt = s.aon.salt ∧
    t.aon.latch = s.aon.latch ∧ (s.aon.latch = true → t.aon.cycled = true)) ∧
  (s.sys.devState = .off → ∃ t, exec .mainPowerRestore s = .next t ∧ full .powerOn 0 t) ∧
  (s.sys.devState ≠ .off → exec .mainPowerRestore s = .next s)) ∧
  (∀ (h : Hdr) (c : Cmd) (k : ResetKind) (s : State) (f : Flight),
  s.hif.flights = [f] → f.qp = h.qp → f.hdr = h → f.cmd = some c → f.done = true → f.staged = false → f.status = stOk →
  ((∃ p, c = .sysReset p) ∨ ∃ p, c = .sysState p) → s.sys.resetNext = some k → answers s = true → replyFull s h.qp = false →
  ∃ t, exec (.commandRelease h.qp h.tag) s = .next t ∧ t.sys.resetKind = some k ∧
    t.sys.devState = (if k = .warm then .fwVerify else .reset) ∧
    (k ≠ .warm → t.sys.resetCause = if s.sys.devState = .tamperHold then 6 else 4) ∧ t.hif.flights = [] ∧ t.aon = s.aon ∧ t.otp = s.otp)

/-- The boot ROM (R72, R76, R80, R96, R554): nothing runs before the supplies and the references are good; with the tamper latch set the boot ends in
TAMPER_HOLD; in test mode it stops at step 0xE without a root; with the reserved strap at 0xF; else the root is regenerated and INIT is entered on the
preferred slot where that slot verifies. INIT ends in RUN with the boot watchdog stopped and DRAM trained; a segment that fails its hash takes a FULL
reset with cause WATCHDOG and marks the slot (R64, R65, R82, R85).
Where the rules leave a choice it follows log entry 30. -/
def Obligations.BootAndInit : Prop :=
  (∀ (p : BootProbe) (s : State), s.sys.devState = .reset → s.sys.resetKind = some .powerOn → s.sys.resetCause = 0 →
  let good := p.supplyOk = true ∧ p.pllOk = true ∧ bit s.sys.refLost 0 = false
  (¬ good → exec (.resetEnd p) s = .next s) ∧
  (good → s.aon.latch = true → ∃ t, exec (.resetEnd p) s = .next t ∧ t.sys.devState = .tamperHold ∧ t.sec.rootReady = s.sec.rootReady) ∧
  (good → s.aon.latch = false → p.testEn = true → ∃ t, exec (.resetEnd p) s = .next t ∧
    t.sys.devState = .bootRom ∧ t.sys.testMode = true ∧ t.boot.step = 0xE ∧ t.sec = s.sec ∧ t.aon = s.aon ∧ t.sys.bootWatchdog = false) ∧
  (good → s.aon.latch = false → p.testEn = false → p.straps % 4 = 3 → ∃ t, exec (.resetEnd p) s = .next t ∧
    t.sys.devState = .bootRom ∧ t.boot.step = 0xF ∧ t.sec = s.sec) ∧
  (good → s.aon.latch = false → p.testEn = false → p.straps % 4 = 0 → s.aon.pufFailed = false → (∃ n, nth (some 0) p.pufRuns 0 = some n) →
    p.flashSmall = false → s.sys.slotFailed = none → ∀ f, f = (if s.flash.bootRec.valid then s.flash.bootRec.preferred % 2 else 0) →
    slotResult p f s = 1 →
    ∃ t, exec (.resetEnd p) s = .next t ∧ t.sys.devState = .init ∧ t.sys.bootSlot = f ∧ t.sys.strap = p.straps % 16 ∧
      t.sec.rootReady = true ∧ t.sec.root = fit 32 p.root ∧ t.boot.pufAttempts = 1 ∧ t.aon.salt = s.aon.salt ∧ t.otp = s.otp)) ∧
  (∀ (p : InitProbe) (s : State),
  (s.sys.devState ≠ .init → exec (.initDone p) s = .next s) ∧
  (s.sys.devState = .init → s.sys.recovery = false → p.rank0Ok = true → p.rank1Fitted = false →
    (p.segmentsOk = true → 6 ≤ popcount (bootCores s.flash.failedCores) 10 → ∃ t, exec (.initDone p) s = .next t ∧
      t.sys.devState = .run ∧ t.sys.bootWatchdog = false ∧ t.sys.startEvents = [] ∧ t.cry.journalOk = p.journalOk) ∧
    (p.segmentsOk = false → ∃ t, exec (.initDone p) s = .next t ∧ t.sys.devState = .reset ∧ t.sys.resetKind = some .full ∧
      t.sys.resetCause = 5 ∧ t.sys.slotFailed = some s.sys.bootSlot)))

/-- PCIe (R77, R500, R512, R513): PERST_N starts training from step 3 on; a link below x4 or 8 GT/s is degraded, with both events' reason bit;
an FLR completes the owner reset of a frozen function; an AER error is counted and raised.
Where the rules leave a choice it follows log entries 27 and 43. -/
def Obligations.PcieEvents : Prop := ∀ (s : State),
  (3 ≤ s.boot.step → exec .perstNRise s = .next { s with pcie := { s.pcie with perst := true, training := !s.pcie.up } }) ∧
  (s.boot.step < 3 → s.sys.devState = .bootRom → exec .perstNRise s = .next { s with pcie := { s.pcie with perst := true, training := false } }) ∧
  (∀ width speed, width = 1 ∨ width = 2 ∨ width = 4 → 1 ≤ speed → speed ≤ 3 → s.pcie.held = false →
    let u : State := { s with
      hif := { s.hif with pcieUp := true },
      pcie := { s.pcie with width := width, speed := speed, up := true, training := false } }
    exec (.pcieLinkUp width speed) s = .next (if width = 4 ∧ speed = 3 then undegrade 4 u else degrade 4 (raise 0x140 u))) ∧
  (∀ width speed, s.pcie.held = true ∨ width = 0 ∨ 4 < width ∨ speed = 0 ∨ 3 < speed → exec (.pcieLinkUp width speed) s = .next s) ∧
  (∀ func, func ≤ 1 → 26 + func ∈ s.fwall.frozen → 26 + func ∉ s.fwall.ownerReset →
    exec (.pcieFlr func) s = .next { s with fwall := { s.fwall with ownerReset := s.fwall.ownerReset ++ [26 + func] } }) ∧
  (∀ func, 26 + func ∉ s.fwall.frozen → exec (.pcieFlr func) s = .next s) ∧
  (∀ kind, kind ≤ 2 → exec (.pcieAerError kind) s = .next (raise 0x141 { s with pcie := { s.pcie with cnt := bump s.pcie.cnt kind } })) ∧
  (∀ kind, 2 < kind → exec (.pcieAerError kind) s = .next s)

/-- Supplies and references (R41-R43, R48-R50, R55): a short or small excursion does nothing; a lasting low rail is a BROWNOUT reset; beyond 12 % it is a
tamper alarm; the loss of VBAT_AON without main power clears the salt; the loss of REF_SYS is a FULL reset with cause CLOCK_LOSS; three attempts
without an acknowledgement leave VDD_CORE where it was and raise EV_AVS_FAULT. Temperature (R63): below the trip and without a lasting extreme a
sample only records itself, and the warning comes once at the threshold and again with each further 2 degrees; at the trip the part halts.
Where the rules leave a choice it follows log entries 27 and 44. -/
def Obligations.SuppliesAndTemperature : Prop :=
  (∀ (s : State),
  (∀ rail low high still tl th dur, dur < 2000 ∨ (-70 ≤ low ∧ high ≤ 70) → exec (.supplyExcursion rail low high still tl th dur) s = .next s) ∧
  (∀ rail low high tl dur, rail < 3 → s.sys.devState = .run → 2000 ≤ dur → low < -70 → high ≤ 120 →
    ∃ t, exec (.supplyExcursion rail low high true tl false dur) s = .next t ∧ t.sys.devState = .reset ∧ t.sys.resetCause = 2 ∧
      t.aon = s.aon ∧ t.time.c = 0) ∧
  (∀ rail low high still tl th dur, rail < 3 → s.sys.devState = .run → 2000 ≤ dur → 120 < high →
    exec (.supplyExcursion rail low high still tl th dur) s = exec (.tamperAlarm 0) s) ∧
  (s.sys.devState = .off → exec .vbatLoss s = .next { s with aon := { s.aon with
    salt := [], saltValid := false, loopEn := 0, loopMiss := [], vbatEvent := true } }) ∧
  (s.sys.devState ≠ .off → exec .vbatLoss s = .next s) ∧
  (s.sys.devState = .run → ∃ t, exec (.refLoss 0) s = .next t ∧ t.sys.devState = .reset ∧ t.sys.resetKind = some .full ∧ t.sys.resetCause = 3) ∧
  (s.sys.devState = .run → exec (.refLoss 2) s = .next (raise 0x002 { s with
    sys := { s.sys with refLost := setBit s.sys.refLost 2 }, time := { s.time with pllPull := false } })) ∧
  (∀ r, 5 < r → exec (.refLoss r) s = .next s ∧ exec (.refReturn r) s = .next s) ∧
  (bit s.sys.refLost 2 = true → exec (.refReturn 2) s = .next { s with
    sys := { s.sys with refLost := clrBit s.sys.refLost 2 }, time := { s.time with pllPull := true } }) ∧
  (∀ mv n, s.sys.devState = .run → n < 3 → ∃ t, exec (.avsEvaluate mv n) s = .next t ∧ t.sys.avsFault = false ∧
    720 ≤ t.sys.avsMv ∧ t.sys.avsMv ≤ 880 ∧ t.sys.avsMv % 5 = 0 ∧ (720 ≤ mv → mv ≤ 880 → t.sys.avsMv = mv / 5 * 5) ∧
    t = { s with sys := { s.sys with avsFault := false, avsMv := t.sys.avsMv }, hlth := { s.hlth with degraded := clrBit s.hlth.degraded 7 } }) ∧
  (∀ mv n, s.sys.devState = .run → 3 ≤ n →
    exec (.avsEvaluate mv n) s = .next (degrade 7 (raise 0x159 { s with sys := { s.sys with avsFault := true } })))) ∧
  (∀ (degC : Int) (s : State), s.sys.devState = .run →
  let warn : Int := if Config.grade = 0 then 105 else 120
  let trip : Int := if Config.grade = 0 then 120 else 135
  let quiet : State := { s with
    sys := { s.sys with tempNow := degC }, sec := { s.sec with tempHot := 0, tamperLive := clrBit s.sec.tamperLive 2 } }
  (-50 < degC → degC < warn → exec (.temperatureSample degC) s = .next { quiet with sys := { quiet.sys with thermalLast := none } }) ∧
  (warn ≤ degC → degC < trip → (s.sys.thermalLast = none ∨ ∃ d, s.sys.thermalLast = some d ∧ d + 2 ≤ degC) →
    exec (.temperatureSample degC) s = .next (raise 0x15A { quiet with sys := { quiet.sys with thermalLast := some degC } })) ∧
  (warn ≤ degC → degC < trip → (∃ d, s.sys.thermalLast = some d ∧ degC < d + 2) → exec (.temperatureSample degC) s = .next quiet) ∧
  (trip ≤ degC → degC < trip + 15 → ∃ t, exec (.temperatureSample degC) s = .next t ∧ t.sys.devState = .halted ∧ t.sys.haltCause = some 6 ∧
    t.aon = s.aon ∧ t.sec.slots = [] ∧ t.sec.rootReady = false))

/-- Tamper (R95, R387-R391): an alarm in RUN latches its bit and the state it fired in, FROST clears the salt, the root and every key, ends the
commands in flight with ST_TAMPER and stops every transmission in TAMPER_HOLD; with the latch already set it adds its bit and repeats FROST;
an unarmed loop does not alarm; a loop alarms on its second consecutive mismatch.
Where the rules leave a choice it follows log entries 31 and 38. -/
def Obligations.TamperTakesHold : Prop := ∀ (s : State),
  (∀ b, b ≤ 8 → (4 ≤ b → b < 8 → bit s.aon.loopEn (b - 4) = true) → s.sys.devState = .run → ∃ t, exec (.tamperAlarm b) s = .next t ∧
    t.sys.devState = .tamperHold ∧ t.aon.latch = true ∧ t.aon.cause = setBit s.aon.cause b ∧
    (s.aon.latch = false → t.aon.causeState = 6 ∧ t.aon.cycled = false) ∧ (s.aon.latch = true → t.aon.causeState = s.aon.causeState) ∧
    t.aon.salt = [] ∧ t.aon.saltValid = false ∧ t.sec.slots = [] ∧ t.sec.root = [] ∧ t.sec.rootReady = false ∧ t.cry.msgs = [] ∧ t.cry.hashes = [] ∧
    (∀ f ∈ t.hif.flights, f.done = true) ∧
    (∀ c, (chainOf t c).txs = [] ∧ (chainOf t c).txEn = false ∧ (chainOf t c).paEn = false) ∧ t.slot.running = false) ∧
  (∀ b, b ≤ 3 ∨ b = 8 → s.sys.devState = .tamperHold → ∃ t, exec (.tamperAlarm b) s = .next t ∧ t.sys = s.sys ∧ t.hif = s.hif ∧
    t.aon = { s.aon with
      latch := true, cycled := s.aon.cycled && s.aon.latch, cause := setBit s.aon.cause b,
      causeState := if s.aon.latch then s.aon.causeState else 8, salt := [], saltValid := false } ∧ t.sec.slots = [] ∧ t.sec.root = []) ∧
  (∀ b, 4 ≤ b → b < 8 → bit s.aon.loopEn (b - 4) = false → exec (.tamperAlarm b) s = .next s) ∧
  (∀ i m, bit s.aon.loopEn i = false → exec (.tamperLoopSample i m) s = .next s) ∧
  (∀ i, i ≤ 3 → bit s.aon.loopEn i = true → tget 0 s.aon.loopMiss i = 0 →
    exec (.tamperLoopSample i true) s = .next { s with aon := { s.aon with loopMiss := tput s.aon.loopMiss i 1 } }) ∧
  (∀ i, i ≤ 3 → bit s.aon.loopEn i = true → tget 0 s.aon.loopMiss i = 1 → s.sys.devState = .run →
    ∃ t, exec (.tamperLoopSample i true) s = .next t ∧ t.sys.devState = .tamperHold ∧ t.aon.latch = true ∧ t.aon.cause.testBit (4 + i) = true)

/-- LULL (R91-R94, R218): an armed entry ends in LULL with AON_PWR_EN low, or with the exit begun where a wake source was latched; a wake source
selected begins the exit; with PWR_GOOD the part runs again, C advanced by 15,258.789 per XTAL_AON cycle, both domains untracked, and
EV_LULL_EXIT carries the source.
Where the rules leave a choice it follows log entry 31. -/
def Obligations.LullEntryAndExit : Prop := ∀ (s : State),
  (s.sys.lullArmed = false ∨ s.sys.devState ≠ .run → exec .lullEntry s = .next s) ∧
  (s.sys.lullArmed = true → s.sys.devState = .run → ∃ t, exec .lullEntry s = .next t ∧ t.sys.devState = .lull ∧ t.sys.lullArmed = false ∧
    t.sys.aonPwrEn = t.sys.lullExit ∧ t.hif.pcieUp = false ∧ t.time.timeOut = 0) ∧
  (∀ source gpio, s.sys.lullArmed = false → s.sys.devState = .lull → s.sys.lullExit = false →
    (source = 0 ∧ s.sys.wakeTimerS ≠ 0 ∨ source = 1 ∧ gpio ≤ 3 ∧ bit s.sys.wakeGpio gpio = true ∨ source = 2) →
    exec (.lullWake source gpio) s = .next { s with sys := { s.sys with lullSource := source, lullExit := true, aonPwrEn := true } }) ∧
  (∀ source gpio, (source = 0 ∧ s.sys.wakeTimerS = 0 ∨ source = 1 ∧ bit s.sys.wakeGpio gpio = false ∨ 2 < source) →
    exec (.lullWake source gpio) s = .next s) ∧
  (∀ cycles saved, s.sys.devState = .lull → s.sys.lullExit = true → s.sys.lullRelease = false → ∃ t,
    exec (.pwrGoodRise cycles true saved) s = .next t ∧ t.sys.devState = .run ∧ t.sys.lullExit = false ∧
      t.time.c = s.aon.savedC + cycles * 15258789 / 1000 ∧ t.time.domA.tracked = false ∧ t.time.domB.tracked = false ∧
      t.sec = s.sec ∧ tfind t.evt.words 0x001 = some s.sys.lullSource ∧ ((srcCfgOf s 1).enable = true → t.evt.cause.testBit 1 = true) ∧
      t.ddr.selfRefresh = false)

/-- The fatal path and the cores (R525-R527, R533, R534): a fatal error halts the part with its cause, leaves nothing in flight, zeroises the
keys and the root, keeps the salt, and puts a dump in a free flash slot; a failing active core is marked and a spare takes its place; the
third watchdog of a core within 24 h is such a failure.
Where the rules leave a choice it follows log entry 44. -/
def Obligations.FatalErrorsAndCores : Prop := ∀ (s : State), s.sys.devState = .run →
  (∀ cause core, 1 ≤ cause → cause ≤ 0xB → cause ≠ 0xA → ∃ t, exec (.fatalError cause core) s = .next t ∧ t.sys.devState = .halted ∧
    t.sys.haltCause = some cause ∧ t.hif.flights = [] ∧ t.sec.slots = [] ∧ t.sec.root = [] ∧ t.aon = s.aon ∧ t.dump.cause = cause ∧
    (s.flash.dumps = [] → ∃ d, t.flash.dumps = [(0, d)] ∧ d.cause = cause) ∧ t.slot.running = false) ∧
  (∀ cause core, cause = 0 ∨ 0xB < cause → exec (.fatalError cause core) s = .next s) ∧
  (∀ c q, c ≤ 9 → bit s.hlth.coresActive c = true → bit s.flash.failedCores c = false → q ≠ c →
    (∀ m ≤ 9, m < q → bit s.hlth.coresActive m = true ∨ bit s.flash.failedCores m = true) → q ≤ 9 →
    bit s.hlth.coresActive q = false → bit s.flash.failedCores q = false →
    (∃ t, exec (.coreFail c) s = .next t ∧ t.flash.failedCores = setBit s.flash.failedCores c ∧
      t.hlth.coresActive = setBit (clrBit s.hlth.coresActive c) q ∧ ((srcCfgOf s 0x15B).enable = true → t.evt.cause.testBit 0x15B = true) ∧
      t.sys = s.sys) ∧
    ((tget [] s.hlth.watchdogs c).filter (fun x => rawSec s < x + 86400) = [] → ∃ t, exec (.coreWatchdogExpiry c) s = .next t ∧
      t = { s with hlth := { s.hlth with watchdogs := t.hlth.watchdogs } } ∧ tget [] t.hlth.watchdogs c = [rawSec s]) ∧
    (((tget [] s.hlth.watchdogs c).filter (fun x => rawSec s < x + 86400)).length = 2 → ∃ t, exec (.coreWatchdogExpiry c) s = .next t ∧
      t.flash.failedCores = setBit s.flash.failedCores c ∧ t.hlth.coresActive = setBit (clrBit s.hlth.coresActive c) q))

/-! RAD: the chains, their calibration, and transmission. -/

/-- The configuration of a chain (R139-R142, R156, R160, R168, R169, R177, R568): out of service ST_DEGRADED, a value out of range
ST_BAD_PARAM, a move under its users ST_BUSY; else the settings are stored, ramp profiles after a transmission in progress (R10), and a
window that moves has lost lock and waits for its steps 2 and 3 (R140).
Where the rules leave a choice it follows log entries 10 and 32. -/
def Obligations.RadioConfiguration : Prop := ∀ (h : Hdr) (s : State),
  let c := h.flow
  let k := chainOf s c
  let put := fun (x : ChainSt) => ({ s.rfc with chains := tput s.rfc.chains c x } : RfcSt)
  (∀ p : RadChainCfgP, Ready h (.radChainCfg p) s →
    let refused := fun st => exec (.radChainCfg h p) s = .next { s with hif := answered h (.radChainCfg p) st 0 [] s }
    let fields : ChainSt := { k with
      centre := p.windowCentre, userPlans := plansAfter k p, plans := bindings p, ramps := (List.range 13).map (fun m => (m, nth 0 p.rampForPhy m)),
      rxFeGain := p.rxFeGain, couplerSrc := p.couplerSrc, cplFactor := p.cplFwd, mismatchRl := p.mismatchRl, backoffStep := p.backoffStep,
      maxBackoff := p.maxBackoff, autoRecal := p.autoRecal, seqOn := p.txOn, seqOff := p.txOff, seqWindow := p.rxWindow }
    (k.service = 2 → refused stDegraded) ∧
    (k.service ≠ 2 → chainCfgOk k p = false → refused stBadParam) ∧
    (k.service ≠ 2 → chainCfgOk k p = true → chainCfgBusy s c p = true → refused stBusy) ∧
    (k.service ≠ 2 → chainCfgOk k p = true → chainCfgBusy s c p = false → p.windowCentre = k.centre → exec (.radChainCfg h p) s = .next { s with
      hif := answered h (.radChainCfg p) stOk 0 [] s, rfc := put fields }) ∧
    (k.service ≠ 2 → chainCfgOk k p = true → chainCfgBusy s c p = false → p.windowCentre ≠ k.centre → k.cal = none →
      exec (.radChainCfg h p) s = .next { s with
        hif := answered h (.radChainCfg p) stOk 0 [] s,
        rfc := put { fields with
          rxLock := false, rffe := k.rffe ++ (if gateHeld s then p.rxWindow else []),
          cal := some { steps := [2, 3], fromAsn := firstUnbuilt s, slots := cdiv 6200 s.slot.slotLenUs } } })) ∧
  (∀ p : RadCoexCfgP, Ready h (.radCoexCfg p) s →
    let ok := p.coexMode ≤ 1 ∧ p.grantPolarity ≤ 1 ∧ 10 ≤ p.reqLeadUs ∧ p.reqLeadUs ≤ 1000 ∧ p.priAck ≤ 1 ∧ p.abortOnRevoke ≤ 1
    (k.service = 2 → exec (.radCoexCfg h p) s = .next { s with hif := answered h (.radCoexCfg p) stDegraded 0 [] s }) ∧
    (k.service ≠ 2 → ¬ ok → exec (.radCoexCfg h p) s = .next { s with hif := answered h (.radCoexCfg p) stBadParam 0 [] s }) ∧
    (k.service ≠ 2 → ok → exec (.radCoexCfg h p) s = .next { s with
      hif := answered h (.radCoexCfg p) stOk 0 [] s,
      rfc := put { k with
        coexMode := p.coexMode, grantPolarity := p.grantPolarity, reqLeadUs := p.reqLeadUs, priMask := p.priMask, priAck := decide (p.priAck = 1),
        abortOnRevoke := decide (p.abortOnRevoke = 1) } })) ∧
  (∀ p : RadAgcCfgP, Ready h (.radAgcCfg p) s →
    let ok := p.agcMode ≤ 1 ∧ -128 ≤ p.wbTarget ∧ p.wbTarget ≤ -40 ∧ -80 ≤ p.nbTarget ∧ p.nbTarget ≤ -24 ∧ 1 ≤ p.clipCount ∧ p.clipCount ≤ 64
    (k.service = 2 → exec (.radAgcCfg h p) s = .next { s with hif := answered h (.radAgcCfg p) stDegraded 0 [] s }) ∧
    (k.service ≠ 2 → ¬ ok → exec (.radAgcCfg h p) s = .next { s with hif := answered h (.radAgcCfg p) stBadParam 0 [] s }) ∧
    (k.service ≠ 2 → ok → exec (.radAgcCfg h p) s = .next { s with
      hif := answered h (.radAgcCfg p) stOk 0 [] s,
      rfc := put { k with agcMode := p.agcMode, wbTarget := p.wbTarget, nbTarget := p.nbTarget, clipCount := p.clipCount } })) ∧
  (∀ p : RadPaRampP, Ready h (.radPaRamp p) s →
    let ok := p.profile ≤ 7 ∧ 2 ≤ p.rampUs ∧ p.rampUs ≤ 32 ∧ p.paLeadUs ≤ 20 ∧ p.points.length = 16 ∧ ∀ x ∈ p.points, x ≤ 1023
    let r : RampProfile := { rampUs := p.rampUs, paLeadUs := p.paLeadUs, points := p.points }
    (k.service = 2 → exec (.radPaRamp h p) s = .next { s with hif := answered h (.radPaRamp p) stDegraded 0 [] s }) ∧
    (k.service ≠ 2 → ¬ ok → exec (.radPaRamp h p) s = .next { s with hif := answered h (.radPaRamp p) stBadParam 0 [] s }) ∧
    (k.service ≠ 2 → ok → (∀ t ∈ k.txs, t.phase = 0) → exec (.radPaRamp h p) s = .next { s with
      hif := answered h (.radPaRamp p) stOk 0 [] s, rfc := put { k with profiles := tput k.profiles p.profile r } }) ∧
    (k.service ≠ 2 → ok → (∃ t ∈ k.txs, t.phase ≠ 0) → exec (.radPaRamp h p) s = .next { s with
      hif := answered h (.radPaRamp p) stOk 0 [] s, rfc := put { k with profileNext := tput k.profileNext p.profile r } })) ∧
  (∀ p : RadBlankMapP, Ready h (.radBlankMap p) s →
    let ok := p.dist.length = 4 ∧ ∀ x ∈ p.dist, x ≤ 0xFFFF
    (k.service = 2 → exec (.radBlankMap h p) s = .next { s with hif := answered h (.radBlankMap p) stDegraded 0 [] s }) ∧
    (k.service ≠ 2 → ¬ ok → exec (.radBlankMap h p) s = .next { s with hif := answered h (.radBlankMap p) stBadParam 0 [] s }) ∧
    (k.service ≠ 2 → ok → ∃ t, exec (.radBlankMap h p) s = .next t ∧
      t = { s with hif := answered h (.radBlankMap p) stOk 0 [] s, rfc := { s.rfc with blankMap := t.rfc.blankMap } } ∧
      (∀ r < 4, blankDist t c r = nth 0 p.dist r) ∧ ∀ i, (i < 4 * c ∨ 4 * c + 4 ≤ i) → tfind t.rfc.blankMap i = tfind s.rfc.blankMap i))

/-- Calibration and the tuner (R148-R152, R165). RAD_CAL waits for its slots with ST_PENDING, every step on a chain out of service; while it
runs the chain is out of the plans; its end raises EV_CAL_DONE with the outcome. A tuner search that takes too long puts the state before it
back; op 2 ends the back-off.
Where the rules leave a choice it follows log entries 4 and 32. -/
def Obligations.CalibrationAndTuner : Prop := ∀ (h : Hdr) (s : State),
  (∀ p : RadCalP, Ready h (.radCal p) s →
    let k := chainOf s h.flow
    (p.steps = 0 ∨ 63 < p.steps → exec (.radCal h p) s = .next { s with hif := answered h (.radCal p) stBadParam 0 [] s }) ∧
    (p.steps ≠ 0 → p.steps ≤ 63 → k.cal.isSome = true ∨ k.testHold = true →
      exec (.radCal h p) s = .next { s with hif := answered h (.radCal p) stBusy 0 [] s }) ∧
    (p.steps ≠ 0 → p.steps ≤ 63 → k.cal = none → k.testHold = false → ∃ t j, exec (.radCal h p) s = .next t ∧
      1 ≤ j ∧ j ≤ 0xFFFF ∧ t = { s with hif := answered h (.radCal p) stPending j [] s, free := s.free + 1, rfc := t.rfc } ∧
      (∀ d, d ≠ h.flow → chainOf t d = chainOf s d) ∧ ∃ x, chainOf t h.flow = { k with cal := some x } ∧ x.job = j ∧ x.running = false ∧
      ∀ i, i ∈ x.steps ↔ 1 ≤ i ∧ i ≤ 6 ∧ (k.service = 2 ∨ p.steps.testBit (i - 1) = true))) ∧
  (∀ c, calDue s c = true → ∃ t, exec (.calStart c) s = .next t ∧ (chainOf t c).service = 1 ∧
    (chainOf t c).cal = (chainOf s c).cal.map (fun j => { j with running := true }) ∧ t.sys = s.sys ∧ t.tm = s.tm ∧ t.sec = s.sec ∧
    ∀ p < 104, ∀ u, (physOf s p).tune = some u → u.chain = c → (physOf t p).frame = none) ∧
  (∀ c failedStep (degC : Int) j, (chainOf s c).cal = some j → j.running = true → failedStep ≤ 6 →
    ∃ t, exec (.calDone c failedStep degC) s = .next t ∧ t = { s with evt := t.evt, rfc := t.rfc, hlth := t.hlth } ∧
      (∀ d, d ≠ c → chainOf t d = chainOf s d) ∧ (chainOf t c).cal = none ∧ (chainOf t c).dieTemp = degC ∧ (chainOf t c).failedStep = failedStep ∧
      (chainOf t c).service = (if failedStep = 0 then 0 else 2) ∧
      (failedStep = 0 → 3 ∈ j.steps → (chainOf t c).rxLock = true) ∧ (failedStep = 0 → 2 ∈ j.steps → (chainOf t c).lastCalTemp = some degC) ∧
      tfind t.evt.words (0x021 + 8 * c) = some ((if failedStep = 0 then stOk else stDegraded) + 2 ^ 16 * failedStep + 2 ^ 24 * (j.job % 256)) ∧
      ((srcCfgOf s (0x021 + 8 * c)).enable = true → t.evt.cause.testBit (0x021 + 8 * c) = true) ∧
      (failedStep ≠ 0 → bit t.hlth.degraded 0 = true)) ∧
  (∀ c (degC was : Int), c ≤ 3 → (chainOf s c).lastCalTemp = some was → (chainOf s c).autoRecal ≠ 0 → (chainOf s c).cal = none → (chainOf s c).service = 0 →
    let k : ChainSt := { chainOf s c with dieTemp := degC }
    let put := fun (x : ChainSt) => exec (.autoRecalTrigger c degC) s = .next { s with rfc := { s.rfc with chains := tput s.rfc.chains c x } }
    ((degC - was).natAbs < k.autoRecal → put k) ∧
    (k.autoRecal ≤ (degC - was).natAbs →
      put { k with cal := some { steps := [2, 5], fromAsn := firstUnbuilt s, slots := cdiv 14000 s.slot.slotLenUs } })) ∧
  (∀ p : RadTunerP, Ready h (.radTuner p) s → (chainOf s h.flow).service ≠ 2 → (∀ x ∈ p.states, x.writes.length ≤ 4) →
    let k := chainOf s h.flow
    let w := (nth {} p.states 0).writes
    let put := fun (x : ChainSt) => ({ s.rfc with chains := tput s.rfc.chains h.flow x } : RfcSt)
    let set : ChainSt := { k with tunerState := some (nth {} p.states 0), rffe := k.rffe ++ (if gateHeld s then w else []) }
    (2 < p.op → exec (.radTuner h p) s = .next { s with hif := answered h (.radTuner p) stBadParam 0 [] s }) ∧
    (p.op = 2 → exec (.radTuner h p) s = .next { s with hif := answered h (.radTuner p) stOk 0 [] s, rfc := put { k with backoff := 0 } }) ∧
    (p.op = 0 → p.states.length = 1 → k.tunerSearch = none → k.tunerWait = none → exec (.radTuner h p) s =
      .next { s with hif := awaiting h (.radTuner p) s, rfc := put { set with tunerWait := some (h.qp, h.tag) } }) ∧
    (p.op = 1 → 1 ≤ p.states.length → p.states.length ≤ 16 → k.tunerSearch = none → k.tunerWait = none → ∃ j, 1 ≤ j ∧ j ≤ 0xFFFF ∧
      exec (.radTuner h p) s = .next { s with
        hif := answered h (.radTuner p) stPending j [] s, free := s.free + 1,
        rfc := put { set with tunerSearch := some { job := j, states := p.states, prev := k.tunerState, startedNs := 2 * s.time.c } } })) ∧
  (∀ c x, (chainOf s c).tunerSearch = some x → ∃ t, exec (.tunerSearchTimeout c) s = .next t ∧ t = { s with evt := t.evt, rfc := t.rfc } ∧
    (chainOf t c).tunerSearch = none ∧ (chainOf t c).tunerState = x.prev ∧ t.evt.cause = causeAfter (0x026 + 8 * c) s)

/-- Gain, clips and raw transmissions (R153-R156, R177, R178): the narrowband loop moves one index toward its target, a clip lowers it by two at
most once in 20 us, a boundary of a stopped engine takes the wideband step, and RAD_TX_RAW waits for the plan of its slot.
Where the rules leave a choice it follows log entries 15 and 32. -/
def Obligations.GainAndRawTransmissions : Prop := ∀ (h : Hdr) (s : State),
  (∀ p : RadTxRawP, Ready h (.radTxRaw p) s → (chainOf s h.flow).service ≠ 2 →
    let k := chainOf s h.flow
    let ok := phyOk p.phyMode = true ∧ -40 ≤ p.powerHdbm ∧ p.powerHdbm ≤ 20 ∧ p.kind ≤ 1 ∧ p.cls ≤ 7 ∧ (p.kind = 0 → 9 ≤ p.length ∧ p.length ≤ 2047) ∧
      (p.kind = 1 → 1 ≤ p.durationUs ∧ p.durationUs ≤ 100000) ∧ (channelCentre k p.phyMode p.channel).isSome = true
    (¬ ok → exec (.radTxRaw h p) s = .next { s with hif := answered h (.radTxRaw p) stBadParam 0 [] s }) ∧
    (ok → k.service = 1 ∨ k.testHold = true → exec (.radTxRaw h p) s = .next { s with hif := answered h (.radTxRaw p) stBusy 0 [] s }) ∧
    (ok → k.service = 0 → k.testHold = false → exec (.radTxRaw h p) s = .next { s with
      hif := awaiting h (.radTxRaw p) s,
      rfc := { s.rfc with chains := tput s.rfc.chains h.flow { k with raws := k.raws ++ [{
        qp := h.qp, tag := h.tag, p := p, actNs := if hflag h 1 = true then some h.actTime else none }] } } })) ∧
  (∀ env, s.slot.running = true → exec (.rawSlotBoundary env) s = .next s) ∧
  (∀ env, s.slot.running = false → ∃ t, exec (.rawSlotBoundary env) s = .next t ∧ t = { s with rfc := t.rfc } ∧ ∀ c < 4,
    let k := chainOf s c
    let m := nth (0, 0) env.power c
    let wide := decide (k.agcMode = 1) || decide (1 < (chainLanes s c).length)
    chainOf t c = { k with
      agcWide := wide, gainIndex := if wide = true ∧ k.service = 0 then gainBy (wideStep k.wbTarget m.1 m.2) k.gainIndex else k.gainIndex }) ∧
  (∀ (target p : Int) (us : Nat), -4 ≤ wideStep target p us ∧ wideStep target p us ≤ 4 ∧ (us < 100 → wideStep target p us = 0) ∧
    (100 ≤ us → (wideStep target p us < 0 ↔ 14 < p - target) ∧ (0 < wideStep target p us ↔ 14 < target - p))) ∧
  (∀ c n (level : Int), chainLanes s c = [n] → (chainOf s c).agcWide = false → (physOf s (lanePhys s n)).state = 0 → listens s (lanePhys s n) = true →
    let k := chainOf s c
    let moved := fun i => exec (.nbAgcUpdate c level) s = .next { s with rfc := { s.rfc with chains := tput s.rfc.chains c { k with gainIndex := i } } }
    k.gainIndex ≤ 23 →
    (6 < level - k.nbTarget → moved (k.gainIndex - 1)) ∧ (6 < k.nbTarget - level → moved (min 23 (k.gainIndex + 1))) ∧
    ((level - k.nbTarget).natAbs ≤ 6 → exec (.nbAgcUpdate c level) s = .next s)) ∧
  (∀ c clipped, c ≤ 3 → (chainOf s c).gainIndex ≤ 23 →
    let k := chainOf s c
    let soon := ∃ at0, k.lastClipNs = some at0 ∧ 2 * s.time.c < at0 + 20000
    (clipped < k.clipCount ∨ soon → exec (.adcClip c clipped) s = .next s) ∧
    (k.clipCount ≤ clipped → ¬ soon → exec (.adcClip c clipped) s = .next (raise (0x024 + 8 * c) { s with rfc := { s.rfc with
      chains := tput s.rfc.chains c { k with
        gainIndex := k.gainIndex - 2, lastClipNs := some (2 * s.time.c), cntClip := min (k.cntClip + 1) 0xFFFFFFFF } } })))

/-- The synthesiser and the lines of a transmission up to its modulation (R144-R147, R159-R162, R167, R168): each step drives its line once the
one before it has; without the gate the transmission ends before TX_EN as ST_STANDBY, without the grant as ST_BLANKED, and without lock at the
deadline as ST_SYNTH_LATE with its lines low.
Where the rules leave a choice it follows log entry 32. -/
def Obligations.TransmitSteps : Prop := ∀ (c : Nat) (s : State),
  let k := chainOf s c
  let put := fun (x : ChainSt) => ({ s.rfc with chains := tput s.rfc.chains c x } : RfcSt)
  (∀ e, toWrite k.txs = some e → k.service = 0 →
    let same := decide (k.synthCarrier = some e.carrier) && !k.synthUp
    exec (.synthFreqWrite c) s = .next { s with rfc := put { k with
      txs := markWritten k.txs, synthCarrier := some e.carrier, synthWriteNs := 2 * s.time.c, txLock := same, synthUp := !same } }) ∧
  (k.synthCarrier.isSome = true → exec (.synthLock c) s = .next { s with rfc := put { k with txLock := true, synthUp := false } }) ∧
  (c ≤ 3 → (∀ t, k.txs.head? = some t → t.phase ≠ 5 ∧ t.phase ≠ 6) →
    exec (.synthUnlock c) s = .next { s with rfc := put { k with txLock := false, synthUp := true } }) ∧
  (∀ t l, k.txs = t :: l → t.phase = 0 →
    (¬ (k.coexMode = 1 ∧ gateHeld s = true) →
      exec (.txCoexReq c) s = .next { s with rfc := put { k with txs := { t with phase := 1 } :: l } }) ∧
    (k.coexMode = 1 → gateHeld s = true → k.coexLowNs = 0 ∨ k.coexLowNs + 2000 ≤ 2 * s.time.c → ∃ u, exec (.txCoexReq c) s = .next u ∧
      u = { s with rfc := put (chainOf u c) } ∧
      chainOf u c = { k with txs := { t with phase := 1 } :: l, coexReq := true, coexPri := (chainOf u c).coexPri } ∧
      (t.entry.kind = 0 → (chainOf u c).coexPri = k.priMask.testBit t.entry.cls) ∧ (t.entry.kind = 4 → (chainOf u c).coexPri = k.priAck))) ∧
  (∀ t l, k.txs = t :: l → t.phase = 1 →
    (t.entry.kind ≤ 2 → t.secured = false → exec (.txRffeSeqOn c) s = .next s) ∧
    (2 < t.entry.kind ∨ t.secured = true → exec (.txRffeSeqOn c) s = .next { s with rfc := put { k with
      txs := { t with phase := 2 } :: l, rffe := k.rffe ++ (if gateHeld s = true then k.seqOn else []) } })) ∧
  (∀ t l level, k.txs = t :: l → t.phase = 2 →
    let grant : Bool := decide (level = decide (k.grantPolarity = 0))
    (gateHeld s = false → ∃ u, exec (.grantDeadline c level) s = .next u ∧ ((chainOf u c).txEn = true → k.txEn = true) ∧
      (chainOf u c).cntStandby = min (k.cntStandby + 1) 0xFFFFFFFF ∧ (chainOf u c).coexReq = false) ∧
    (gateHeld s = true → k.coexMode = 1 → grant = false → ∃ u, exec (.grantDeadline c level) s = .next u ∧ ((chainOf u c).txEn = true → k.txEn = true) ∧
      (chainOf u c).cntBlanked = min (k.cntBlanked + 1) 0xFFFFFFFF ∧ (chainOf u c).coexReq = false ∧
      ((srcCfgOf s (0x025 + 8 * c)).enable = true → u.evt.cause.testBit (0x025 + 8 * c) = true)) ∧
    (gateHeld s = true → k.coexMode ≠ 1 ∨ grant = true → ∃ u, exec (.grantDeadline c level) s = .next u ∧
      chainOf u c = { k with
        coexGrant := grant, txEn := true, blanking := true, blankUntilNs := none, blankCarrier := t.entry.carrier, blankDist := t.entry.blanks,
        txs := { t with phase := 3 } :: l } ∧ u.tm = s.tm ∧ u.sec = s.sec)) ∧
  (∀ t l, k.txs = t :: l → t.phase = 3 → exec (.txPaEnable c) s = .next { s with rfc := put { k with txs := { t with phase := 4 } :: l, paEn := true } }) ∧
  (∀ t l, k.txs = t :: l → t.phase = 4 →
    (k.txLock = true → exec (.lockDeadline c) s = .next { s with rfc := put { k with txs := { t with phase := 5 } :: l, rampOn := true } }) ∧
    (k.txLock = false → ∃ u, exec (.lockDeadline c) s = .next u ∧ (chainOf u c).txEn = false ∧ (chainOf u c).paEn = false ∧
      (chainOf u c).rampOn = false ∧ (chainOf u c).coexReq = false ∧ (chainOf u c).cntLate = min (k.cntLate + 1) 0xFFFFFFFF ∧
      ((srcCfgOf s (0x023 + 8 * c)).enable = true → u.evt.cause.testBit (0x023 + 8 * c) = true))) ∧
  (∀ t l, k.txs = t :: l → t.phase = 5 → exec (.txModulationStart c) s = .next { s with rfc := { s.rfc with
    chains := tput s.rfc.chains c { k with txs := { t with phase := 6 } :: l },
    sent := s.rfc.sent ++ [(c, max (-40) (t.entry.power - k.backoff), bytesOf s t)] } })

/-- The end of a transmission (R147, R159, R163, R164, R166, R168, R170): the ramp falls at the last symbol and the coupler is read where the frame was
long enough, PA_EN falls, then TX_EN and COEX_REQ with tx_off sent; blanking ends 5 us later; a revoked grant or a lost lock stops it.
Where the rules leave a choice it follows log entry 32. -/
def Obligations.TransmitEnds : Prop := ∀ (c : Nat) (s : State),
  let k := chainOf s c
  let put := fun (x : ChainSt) => ({ s.rfc with chains := tput s.rfc.chains c x } : RfcSt)
  (∀ t l (fwd rev : Int) ok, k.txs = t :: l → t.phase = 6 → ∃ u, exec (.txLastSymbol c fwd rev ok) s = .next u ∧
    (chainOf u c).rampOn = false ∧ (chainOf u c).txEn = k.txEn ∧ (chainOf u c).cntDone = min (k.cntDone + 1) 0xFFFFFFFF ∧
    (chainOf u c).cplValid = (ok && decide (t.entry.tUs + 100 ≤ t.entry.eUs)) ∧
    (ok = true → t.entry.tUs + 100 ≤ t.entry.eUs → k.couplerSrc = 0 →
      (chainOf u c).cplFwd = max (-512) (min 511 fwd) ∧ (chainOf u c).cplRl = max (-512) (min 511 (fwd - rev)))) ∧
  (∀ t l, k.txs = t :: l → t.phase = 7 → exec (.txPaDisable c) s = .next { s with rfc := put { k with txs := { t with phase := 8 } :: l, paEn := false } }) ∧
  (∀ t l, k.txs = t :: l → t.phase = 8 → exec (.txEnRelease c) s = .next { s with rfc := put { k with
    txs := l, txEn := false, paEn := false, rampOn := false, coexReq := false, coexPri := if k.coexReq = true then false else k.coexPri,
    coexLowNs := if k.coexReq = true then 2 * s.time.c else k.coexLowNs,
    blankUntilNs := if k.blanking = true then some (2 * s.time.c + 5000) else k.blankUntilNs, rffe := k.rffe ++ (if gateHeld s = true then k.seqOff else []),
    profiles := k.profileNext.foldl (fun x e => tput x e.1 e.2) k.profiles, profileNext := [] } }) ∧
  (k.txEn = false → k.blankUntilNs.isSome = true →
    exec (.blankEnd c) s = .next { s with rfc := put { k with blanking := false, blankUntilNs := none } }) ∧
  (k.txEn = true ∨ k.blankUntilNs = none → exec (.blankEnd c) s = .next s) ∧
  (c ≤ 3 → k.coexMode ≠ 1 ∨ k.abortOnRevoke = false ∨ k.txs = [] →
    exec (.coexGrantRevoke c) s = .next { s with rfc := put { k with coexGrant := false } }) ∧
  (∀ t l, c ≤ 3 → k.coexMode = 1 → k.abortOnRevoke = true → k.txs = t :: l → 3 ≤ t.phase → t.phase ≤ 6 → ∃ u, exec (.coexGrantRevoke c) s = .next u ∧
    (chainOf u c).coexGrant = false ∧ (chainOf u c).rampOn = false ∧ (chainOf u c).cntBlanked = min (k.cntBlanked + 1) 0xFFFFFFFF) ∧
  (∀ t l, c ≤ 3 → k.txs = t :: l → t.phase = 5 ∨ t.phase = 6 → ∃ u, exec (.synthUnlock c) s = .next u ∧ (chainOf u c).txLock = false ∧
    (chainOf u c).rampOn = false ∧ (chainOf u c).cntLate = min (k.cntLate + 1) 0xFFFFFFFF ∧
    ((srcCfgOf s (0x022 + 8 * c)).enable = true → u.evt.cause.testBit (0x022 + 8 * c) = true))

/-- Securing a frame and the waits for its acknowledgement (R28, R248, R249, R258-R260, R263, R303): a frame at level 0 goes as it is; one that is not secured
by its deadline leaves its chain as a failed attempt; the listen window opens; a wait that ends without an acknowledgement is a failed attempt,
tried again until max_retries + 1 of them drop the frame; an Enh-Ack not decided in time is counted and not sent.
Where the rules leave a choice it follows log entries 16 and 34. -/
def Obligations.SecuringAndAcks : Prop := ∀ (c : Nat) (s : State),
  let k := chainOf s c
  (∀ t l, k.txs = t :: l → t.entry.kind ≤ 2 → t.phase ≤ 1 → t.secured = false → t.keyRef = none → t.entry.secLevel = 0 →
    exec (.secureStart c) s = .next { s with rfc := { s.rfc with chains := tput s.rfc.chains c { k with
      txs := { t with secured := true, bytes := (plainOf s t.entry).1 ++ (plainOf s t.entry).2 } :: l } } }) ∧
  (∀ t l, k.txs = t :: l → t.entry.kind ≤ 2 → t.phase ≤ 1 →
    (t.secured = true → exec (.secureDeadline c) s = .next s) ∧
    (t.secured = false → t.phase = 0 → t.entry.kind = 1 → exec (.secureDeadline c) s = .next { s with
      rfc := { s.rfc with chains := tput s.rfc.chains c { k with txs := l } }, slot := { s.slot with cnt := bump s.slot.cnt 13 } })) ∧
  (∀ w, tfind s.slot.waits c = some w → exec (.ackListenOpen c) s = .next { s with slot := { s.slot with waits := tput s.slot.waits c { w with listening := true } } }) ∧
  (∀ w f, tfind s.slot.waits c = some w → frameOf s w.entry = some f → f.attempts < s.slot.maxRetries → ∃ t, exec (.ackWaitEnd c none) s = .next t ∧
    tfind t.slot.waits c = none ∧ (∃ x, frameOf t w.entry = some x ∧ x.attempts = f.attempts + 1 ∧ x.bound = false ∧ x.data = f.data) ∧
    t.rfc = s.rfc ∧ t.evt = s.evt ∧ t.sec = s.sec) ∧
  (∀ w f, tfind s.slot.waits c = some w → frameOf s w.entry = some f → s.slot.maxRetries ≤ f.attempts → ∃ t, exec (.ackWaitEnd c none) s = .next t ∧
    tfind t.slot.waits c = none ∧
    (queueOf t w.entry.queue).frames = (queueOf s w.entry.queue).frames.eraseP (fun x => decide (x.id = w.entry.frameId)) ∧
    tget 0 t.slot.cnt 3 = min (tget 0 s.slot.cnt 3 + 1) 0xFFFFFFFF ∧ t.evt.cause = causeAfter 0x083 s ∧ t.rfc = s.rfc ∧ t.sec = s.sec) ∧
  (∀ w a, tfind s.slot.waits c = some w → (ackValid w a (withSlot (fun b => { b with waits := tdel b.waits c }) s)).2 = false →
    w.entry.secLevel = 0 → a.frame.secLevel = 0 → exec (.ackWaitEnd c (some a)) s = exec (.ackWaitEnd c none) s) ∧
  (∀ b j, s.slot.acks.find? (fun x => decide (x.buffer = b)) = some j →
    (j.done = false → exec (.enhAckCommit b) s = .next { s with slot := { s.slot with
      acks := s.slot.acks.eraseP (fun x => decide (x.buffer = b)), cnt := bump s.slot.cnt 9 } }) ∧
    (j.done = true → j.ackReq = false ∨ j.status = 2 ∨ j.status = 3 ∨ j.status = 5 → exec (.enhAckCommit b) s = .next { s with slot := { s.slot with
      acks := s.slot.acks.eraseP (fun x => decide (x.buffer = b)) } }))

/-! LANE: reception and the lanes' commands. -/

/-- A frame on its way through a physical lane (R188-R190, R192, R193, R208-R210): a valid preamble starts one; TS is taken at the end of the SYNC
field; the header check leads on to PAYLOAD or to ABORT; bytes take cells or end it as a no-buffer abort; its end leaves a record in the
chain's queue and its cells in the buffer, or none where the FCS fails.
Where the rules leave a choice it follows log entry 33. -/
def Obligations.LaneReception : Prop := ∀ (p : Nat) (s : State),
  let x := physOf s p
  let n := logicalOf s p
  let put := fun (y : PhysSt) => ({ s.lane with phys := tput s.lane.phys p y } : LaneBlk)
  (∀ corr (rssi : Int) u, p < 104 → roleOf s p = 0 → x.tune = some u →
    let r := rssi - (chainOf s u.chain).rxFeGain
    let cfg := phyCfgOf s n u.phy
    (listens s p = false ∨ corr < cfg.detThreshold ∨ r < cfg.edFloor → exec (.preambleDetect p corr rssi) s = .next s) ∧
    (listens s p = true → cfg.detThreshold ≤ corr → cfg.edFloor ≤ r → x.state = 0 → exec (.preambleDetect p corr rssi) s = .next { s with
      lane := put { x with state := 1, frame := some { rssi := r, startNs := 2 * s.time.c, cfg := cfg } } }) ∧
    (∀ f, x.frame = some f → x.state = 3 → r < f.rssi + (laneOf s n).captureMargin → spawnOf s n = none →
      exec (.preambleDetect p corr rssi) s = .next s)) ∧
  (∀ f, x.state = 1 → x.frame = some f → ∃ t, exec (.syncFieldEnd p) s = .next t ∧ t = { s with lane := t.lane } ∧
    physOf t p = { x with state := 2, frame := some { f with tsNs := selNs s, asn := s.slot.asn } } ∧ ∀ q, q ≠ p → physOf t q = physOf s q) ∧
  (x.state = 1 → roleOf s p ≠ 2 → exec (.maxPreambleTimeout p) s = .next { s with lane := put { x with state := 0, frame := none } }) ∧
  (∀ f u hd, x.state = 2 → x.frame = some f → x.tune = some u →
    (headerBad f.cfg u.phy hd = true → ∃ t, exec (.headerCheck p hd) s = .next t ∧ t = { s with lane := t.lane } ∧
      (physOf t p).frame = none ∧ (physOf t p).state = 0 ∧ tget 0 t.lane.cnt 2 = min (tget 0 s.lane.cnt 2 + 1) 0xFFFFFFFF) ∧
    (headerBad f.cfg u.phy hd = false → u.phy ≠ 12 → exec (.headerCheck p hd) s = .next { s with
      free := s.free + 1,
      lane := put { x with
        state := 3, frame := some { f with hdr := hd, map := [], id := s.free, handle := Config.bufferHandle s.free % 2 ^ 32 } } }) ∧
    (headerBad f.cfg u.phy hd = false → u.phy = 12 → zaoMap s hd = none → ∃ t, exec (.headerCheck p hd) s = .next t ∧
      (physOf t p).frame = none ∧ (physOf t p).state = 0 ∧ t.evt.cause = causeAfter 0x045 s)) ∧
  (∀ f u data, x.state = 3 → x.frame = some f → x.tune = some u → s.fwall.frozen.contains (28 + u.chain) = false →
    let need := cellsFor (f.data.length + data.length)
    (need ≤ freeCells s + f.cells → ∃ t, exec (.laneCellAlloc p data false) s = .next t ∧ t = { s with lane := t.lane, evt := t.evt } ∧
      t.lane = put { x with frame := some { f with data := f.data ++ data, cells := need, staged := 0, queued := f.queued + cdiv data.length 4 } }) ∧
    (freeCells s + f.cells < need → ∃ t, exec (.laneCellAlloc p data false) s = .next t ∧ (physOf t p).frame = none ∧
      tget 0 t.lane.cnt 7 = min (tget 0 s.lane.cnt 7 + 1) 0xFFFFFFFF ∧ ((srcCfgOf s 0x043).enable = true → t.evt.cause.testBit 0x043 = true))) ∧
  (∀ f u (snr : Int) tone, x.state = 3 → x.frame = some f → x.tune = some u → u.phy ≠ 12 →
    (∃ t, exec (.laneFrameEnd p true snr tone) s = .next t ∧ (physOf t p).frame = none ∧ (physOf t p).state = 0 ∧
      t.lane.fabric = s.lane.fabric ++ [(p, f.id, airRecord u n (decide (roleOf s p = 2)) f snr)] ∧
      t.tm.bufs = s.tm.bufs ++ [{ id := f.id, handle := f.handle, data := f.data, cells := f.cells }] ∧
      tget 0 t.lane.cnt 0 = min (tget 0 s.lane.cnt 0 + 1) 0xFFFFFFFF) ∧
    (∃ t, exec (.laneFrameEnd p false snr tone) s = .next t ∧ (physOf t p).frame = none ∧ (physOf t p).state = 0 ∧
      t.lane.fabric = s.lane.fabric ∧ t.tm = s.tm ∧ tget 0 t.lane.cnt 1 = min (tget 0 s.lane.cnt 1 + 1) 0xFFFFFFFF))

/-- The commands of a logical lane (R10, R140, R184-R186, R191, R214, R215): LANE_ASSIGN tunes a fixed lane, leaves a planned one to its entries, frees
the lane for chain 0xFF, and waits for a frame in progress; an assignment that another fixed lane holds is ST_DUPLICATE; LANE_FLUSH ends a frame
with no record and says so.
Where the rules leave a choice it follows log entries 4 and 33. -/
def Obligations.LaneCommands : Prop := ∀ (h : Hdr) (s : State),
  let n := h.flow
  let l := laneOf s n
  let q := lanePhys s n
  let put := fun (y : LaneSt) => ({ s.lane with lanes := tput s.lane.lanes n y } : LaneBlk)
  (∀ p : LaneAssignP, Ready h (.laneAssign p) s →
    let refused := fun st => exec (.laneAssign h p) s = .next { s with hif := answered h (.laneAssign p) st 0 [] s }
    let a : Option LaneTune := if p.chain = 0xFF then none else some {
      chain := p.chain, planned := decide (p.kind = 1), channel := if p.kind = 1 then 0 else p.channel, phy := if p.kind = 1 then 0 else p.phyMode }
    (laneOut s n = true → refused stDegraded) ∧
    (laneOut s n = false → 3 < p.chain → p.chain ≠ 0xFF → refused stBadParam) ∧
    (laneOut s n = false → p.chain ≠ 0xFF → assignRefusal n p s ≠ stOk → refused (assignRefusal n p s)) ∧
    (∀ f, p.chain ≤ 3 → p.kind = 0 → (chainOf s p.chain).centre ≠ 0 → (chainOf s p.chain).service = 0 → (chainOf s p.chain).rxLock = true →
      phyOk p.phyMode = true → channelCentre (chainOf s p.chain) p.phyMode p.channel = some f → inWindow (chainOf s p.chain) p.phyMode f = true →
      fixedTwin s n f p.phyMode = true → assignRefusal n p s = stDuplicate) ∧
    (laneOut s n = false → p.chain = 0xFF ∨ assignRefusal n p s = stOk → laneBusy s n = true → exec (.laneAssign h p) s = .next { s with
      hif := answered h (.laneAssign p) stOk 0 (assignReply s n a) s, lane := put { l with deferred := some a } }) ∧
    (laneOut s n = false → p.chain = 0xFF ∨ assignRefusal n p s = stOk → laneBusy s n = false → ∃ t, exec (.laneAssign h p) s = .next t ∧
      t = { s with hif := answered h (.laneAssign p) stOk 0 (assignReply s n a) s, lane := t.lane } ∧
      laneOf t n = { l with assign := a, deferred := none, entry := none, entryNext := none, window := false } ∧
      (∀ m, m ≠ n → laneOf t m = laneOf s m) ∧ (∀ m, m ≠ q → physOf t m = physOf s m) ∧
      (physOf t q).tune = (if p.chain = 0xFF ∨ p.kind = 1 then none else a))) ∧
  (∀ p : LanePhyCfgP, Ready h (.lanePhyCfg p) s →
    (l.outOfService = true → exec (.lanePhyCfg h p) s = .next { s with hif := answered h (.lanePhyCfg p) stDegraded 0 [] s }) ∧
    (l.outOfService = false → phyCfgOk p = false → exec (.lanePhyCfg h p) s = .next { s with hif := answered h (.lanePhyCfg p) stBadParam 0 [] s }) ∧
    (l.outOfService = false → phyCfgOk p = true → exec (.lanePhyCfg h p) s = .next { s with
      hif := answered h (.lanePhyCfg p) stOk 0 [] s,
      lane := put { l with cfg := tput l.cfg p.phyMode {
        detThreshold := p.detThreshold, edFloor := p.edFloor, maxPreambleUs := p.maxPreambleUs, maxPsdu := p.maxPsdu, fskFec := decide (p.fskFec = 1),
        fskWhitening := decide (p.fskWhitening = 1), fskSfdSet := p.fskSfdSet, rateMask := p.rateMask, mcsMask := p.mcsMask } } })) ∧
  (∀ p : LaneCaptureCfgP, Ready h (.laneCaptureCfg p) s → l.outOfService = false →
    let bad := exec (.laneCaptureCfg h p) s = .next { s with hif := answered h (.laneCaptureCfg p) stBadParam 0 [] s }
    let ok0 := 12 ≤ p.captureMargin ∧ p.captureMargin ≤ 80 ∧ p.spawnEnable ≤ 1
    let ok1 := p.trigger ≤ 3 ∧ p.comparator ≤ 15 ∧ p.preUs ≤ 1000 ∧ 1024 ≤ p.samples ∧ p.samples ≤ 65536
    (1 < p.op → bad) ∧ (p.op = 0 → ¬ ok0 → bad) ∧ (p.op = 1 → ¬ ok1 → bad) ∧
    (p.op = 0 → ok0 → exec (.laneCaptureCfg h p) s = .next { s with
      hif := answered h (.laneCaptureCfg p) stOk 0 [] s,
      lane := put { l with captureMargin := p.captureMargin, spawnEnable := decide (p.spawnEnable = 1) } }) ∧
    (p.op = 1 → ok1 → l.snapshot = none → ∃ j, 1 ≤ j ∧ j ≤ 0xFFFF ∧ exec (.laneCaptureCfg h p) s = .next { s with
      hif := answered h (.laneCaptureCfg p) stPending j [] s, free := s.free + 1,
      lane := put { l with snapshot := some {
        job := j, trigger := p.trigger, comparator := p.comparator, preUs := p.preUs, samples := p.samples, buffer := p.bufferAddr,
        running := decide (p.trigger = 0) } } })) ∧
  (∀ p : LaneStatusP, Ready h (.laneStatus p) s →
    (1 < p.clear → exec (.laneStatus h p) s = .next { s with hif := answered h (.laneStatus p) stBadParam 0 [] s }) ∧
    (p.clear = 0 → exec (.laneStatus h p) s = .next { s with hif := answered h (.laneStatus p) stOk 0 (laneStatusReply s n) s }) ∧
    (p.clear = 1 → exec (.laneStatus h p) s = .next { s with
      hif := answered h (.laneStatus p) stOk 0 (laneStatusReply s n) s, lane := put { l with cnt := [] } })) ∧
  (∀ p : LaneFlushP, Ready h (.laneFlush p) s →
    (l.outOfService = true → exec (.laneFlush h p) s = .next { s with hif := answered h (.laneFlush p) stDegraded 0 [] s }) ∧
    (l.outOfService = false → (physOf s q).frame = none → (∀ r, spawnOf s n = some r → (physOf s r).frame = none) →
      exec (.laneFlush h p) s = .next { s with hif := answered h (.laneFlush p) stOk 0 [0] s }) ∧
    (l.outOfService = false → (physOf s q).frame.isSome = true → ∃ t, exec (.laneFlush h p) s = .next t ∧
      t.hif = answered h (.laneFlush p) stFlushed 0 [1] s ∧ (physOf t q).frame = none ∧
      t.lane.fabric = s.lane.fabric ∧ t.tm = s.tm)) ∧
  (∀ p : LaneBitloadP, Ready h (.laneBitload p) s →
    let bad := exec (.laneBitload h p) s = .next { s with hif := answered h (.laneBitload p) stBadParam 0 [] s }
    let ok := p.margin ≤ 48 ∧ p.thr.length = 4 ∧ (∀ x ∈ p.thr, x ≤ 255) ∧ p.thr.Pairwise (· < ·) ∧ 1 ≤ p.minChange ∧ p.minChange ≤ 96 ∧
      p.ratePolicy ≤ 3 ∧ p.nullPeriod ≤ 3
    (1 < p.op → bad) ∧ (p.op = 0 → ¬ ok → bad) ∧
    (p.op = 0 → ok → exec (.laneBitload h p) s = .next { s with
      hif := answered h (.laneBitload p) stOk 0 [] s,
      lane := { s.lane with
        margin := p.margin, thr := p.thr, minChange := p.minChange, ratePolicy := p.ratePolicy, nullPeriod := p.nullPeriod } }) ∧
    (p.op = 1 → exec (.laneBitload h p) s = .next { s with
      hif := answered h (.laneBitload p) stOk 0 (le 1 s.lane.margin ++ (s.lane.thr.map (le 1)).flatten ++ le 1 s.lane.minChange ++
        le 1 s.lane.ratePolicy ++ le 1 s.lane.nullPeriod) s }))

/-- What happens to a lane by itself (R10, R186, R187, R196-R198, R214): its listen window opens on an entry and closes; what waited for the end of a
frame takes effect between frames; a physical lane that fails ends its frame and keeps ROLE 3, and its logical lane moves to a free spare;
a snapshot that ends is in host memory.
Where the rules leave a choice it follows log entry 33. -/
def Obligations.LaneEvents : Prop := ∀ (n : Nat) (s : State),
  let l := laneOf s n
  let put := fun (y : LaneSt) => ({ s.lane with lanes := tput s.lane.lanes n y } : LaneBlk)
  (l.entry.isSome = true → l.entryNext = none → exec (.listenWindowOpen n) s = .next { s with lane := put { l with window := true } }) ∧
  (l.entry = none ∨ l.entryNext.isSome = true → exec (.listenWindowOpen n) s = .next s) ∧
  (l.window = true → exec (.listenWindowClose n) s = .next { s with lane := put { l with window := false } }) ∧
  (laneBusy s n = true → exec (.deferredConfigApply n) s = .next s) ∧
  (∀ a, laneBusy s n = false → l.deferred = some a → ∃ t, exec (.deferredConfigApply n) s = .next t ∧ t = { s with lane := t.lane } ∧
    laneOf t n = { l with assign := a, deferred := none, entry := none, entryNext := none, window := false }) ∧
  (∀ p, p < 104 → roleOf s p ≠ 3 → ∃ t, exec (.laneFail p) s = .next t ∧ roleOf t p = 3 ∧ p ∈ t.flash.failedLanes ∧ (physOf t p).frame = none ∧
    t.tm = s.tm ∧ t.sec = s.sec ∧ ((srcCfgOf s 0x040).enable = true → t.evt.cause.testBit 0x040 = true)) ∧
  (∀ q, n < 96 → l.moveDue = true → freeSpare s = some q → ∃ t, exec (.laneSpareMove n) s = .next t ∧
    t = { s with lane := t.lane, hlth := t.hlth, evt := t.evt } ∧ lanePhys t n = q ∧ roleOf t q = 0 ∧ logicalOf t q = n ∧
    (laneOf t n).moveDue = false ∧ (laneOf t n).outOfService = false ∧ (∀ m, m ≠ n → laneOf t m = laneOf s m) ∧ t.evt.cause = causeAfter 0x041 s) ∧
  (freeSpare s = none → exec (.laneSpareMove n) s = .next s) ∧
  (∀ x, l.snapshot = some x → x.running = true → ∃ t, exec (.snapshotEnd n) s = .next t ∧
    t = { s with free := s.free + 1, lane := put { l with snapshot := none }, evt := t.evt, hostMem := t.hostMem } ∧
    t.hostMem = memWrite s.hostMem x.buffer ((List.range (4 * x.samples * (physOf s (lanePhys s n)).binCount)).map (Config.sampleByte s.free)) ∧
    t.evt.cause = causeAfter 0x044 s)

/-! TIME. -/

/-- The accepted rates (R221): TIME_RATE outside ±1,759,218,604 is refused with ST_BAD_PARAM and changes nothing, one inside replaces the rate of a
domain that no source steers. -/
def Obligations.RateRange : Prop := ∀ (h : Hdr) (p : TimeRateP) (s : State), Ready h (.timeRate p) s →
  (p.rate < -1759218604 ∨ 1759218604 < p.rate → exec (.timeRate h p) s = .next { s with hif := answered h (.timeRate p) stBadParam 0 [] s }) ∧
  (-1759218604 ≤ p.rate → p.rate ≤ 1759218604 → (domOf s.time h.flow).src = 0 → ∃ t data, exec (.timeRate h p) s = .next t ∧
    t = { s with hif := answered h (.timeRate p) stOk 0 data s, time := t.time } ∧ (domOf t.time h.flow).r = p.rate ∧ t.time.c = s.time.c ∧
    domOf t.time (1 - h.flow) = domOf s.time (1 - h.flow) ∧
    domAt (domOf t.time h.flow) s.time.c = domAt (domOf s.time h.flow) s.time.c)

/-- Steering a domain and the selected reading (R220, R223-R228, R240, R241). TIME_STEP adds its increment to the offset; the reading of the selected
domain that a step changes never goes back, unless the domain is not tracked and the slot engine is stopped; TIME_SELECT of another domain
raises EV_TIME_SELECTED; a fold leaves the reading where it is; a slew that has reached 0 ends with its event.
Where the rules leave a choice it follows log entries 14 and 36. -/
def Obligations.TimeSteering : Prop := ∀ (h : Hdr) (s : State),
  (∀ p : TimeStepP, Ready h (.timeStep p) s →
    let d := domOf s.time h.flow
    let inc := p.stepNs * 65536 + (p.stepFrac : Int)
    (2 < p.markTracked → exec (.timeStep h p) s = .next { s with hif := answered h (.timeStep p) stBadParam 0 [] s }) ∧
    (p.markTracked ≤ 2 → d.src ≠ 0 → exec (.timeStep h p) s = .next { s with hif := answered h (.timeStep p) stBusy 0 [] s }) ∧
    (p.markTracked ≤ 2 → d.src = 0 → ∃ t, exec (.timeStep h p) s = .next t ∧
      t = { s with
        hif := answered h (.timeStep p) stOk 0 (leS 8 (domAt (domOf t.time h.flow) s.time.c / 65536) ++ le 8 (2 * s.time.c)) s, time := t.time } ∧
      domOf t.time h.flow = { d with
        o := d.o + inc, tracked := if p.markTracked = 1 then true else if p.markTracked = 2 then false else d.tracked } ∧
      domOf t.time (1 - h.flow) = domOf s.time (1 - h.flow) ∧ t.time.c = s.time.c ∧
      (h.flow = s.time.sel → d.tracked = true ∨ s.slot.running = true → selAt s.time ≤ selAt t.time))) ∧
  (∀ p : TimeSelectP, Ready h (.timeSelect p) s →
    let bad := exec (.timeSelect h p) s = .next { s with hif := answered h (.timeSelect p) stBadParam 0 [] s }
    let busy := exec (.timeSelect h p) s = .next { s with hif := answered h (.timeSelect p) stBusy 0 [] s }
    let ok := p.domain ≤ 1 ∧ p.stepThresholdNs ≤ 1000 ∧ 1 ≤ p.slewPpm ∧ p.slewPpm ≤ 50 ∧ p.force ≤ 1
    let tracked := (domOf s.time p.domain).tracked
    (¬ ok → bad) ∧
    (ok → p.domain ≠ s.time.sel → p.force = 1 → s.slot.running = true → busy) ∧
    (ok → p.domain ≠ s.time.sel → tracked = false → s.time.domA.tracked = true ∨ s.time.domB.tracked = true → busy) ∧
    (ok → p.domain = s.time.sel → ∃ t mode, exec (.timeSelect h p) s = .next t ∧
      t = { s with hif := answered h (.timeSelect p) stOk 0 (zeros 8 ++ le 1 mode) s, time := t.time } ∧
      t.time = { s.time with e0 := residual s.time, e0C := s.time.c, threshold := p.stepThresholdNs, slewPpm := p.slewPpm } ∧
      selAt t.time = selAt s.time) ∧
    (ok → p.domain ≠ s.time.sel → p.force = 0 ∨ s.slot.running = false → tracked = true ∨ (s.time.domA.tracked = false ∧ s.time.domB.tracked = false) →
      ∃ t data, exec (.timeSelect h p) s = .next t ∧ t = { s with hif := answered h (.timeSelect p) stOk 0 data s, time := t.time, evt := t.evt } ∧
        t.time.sel = p.domain ∧ t.time.domA = s.time.domA ∧ t.time.domB = s.time.domB ∧ t.time.threshold = p.stepThresholdNs ∧
        t.time.slewPpm = p.slewPpm ∧ t.evt.cause = causeAfter 0x104 s ∧ (tracked = true → p.force = 0 → selAt s.time ≤ selAt t.time))) ∧
  (∀ p : TimeStatusP, Ready h (.timeStatus p) s →
    (h.flow = 2 → exec (.timeStatus h p) s = .next { s with
      hif := answered h (.timeStatus p) stOk 0 (leS 8 (selNs s) ++ le 8 (2 * s.time.c) ++ leS 4 (clampI (-2147483647) 2147483647 (residual s.time / 65536)) ++
        le 1 (timeStatusWord s % 256)) s }) ∧
    (h.flow ≠ 2 →
      let d := domOf s.time h.flow
      exec (.timeStatus h p) s = .next { s with
        hif := answered h (.timeStatus p) stOk 0 (leS 8 (domAt d s.time.c / 65536) ++ le 8 (2 * s.time.c) ++ leS 4 d.r ++
          leS 4 (if d.src = 0 then 0 else d.lastOffset)) s })) ∧
  (s.time.slewing = true → residual s.time = 0 → exec .slewDone s = .next (raise 0x105 { s with time := { s.time with slewing := false, e0 := 0 } })) ∧
  (s.time.slewing = false ∨ residual s.time ≠ 0 → exec .slewDone s = .next s) ∧
  (s.time.holding = true → s.time.holdS ≤ domAt (selDom s.time) s.time.c → exec .holdRelease s = .next { s with time := { s.time with holding := false } }) ∧
  (s.time.holding = false ∨ domAt (selDom s.time) s.time.c < s.time.holdS → exec .holdRelease s = .next s) ∧
  (∀ d ≤ 1, ∃ t, exec (.rateFold d) s = .next t ∧ t = { s with time := t.time } ∧ (domOf t.time d).r = (domOf s.time d).r ∧
    (domOf t.time d).k = s.time.c ∧ domAt (domOf t.time d) s.time.c = domAt (domOf s.time d) s.time.c ∧ t.time.c = s.time.c)

/-- Comparators and captures (R229-R233, R238, R240): six comparators are not the host's and answer ST_BUSY; an arm checks its ranges, its reference and
its pin, a one-shot in the past is ST_PAST_TIME and leaves it disarmed; an edge is captured, or sets OVF and raises its event where sixteen wait.
Where the rules leave a choice it follows log entry 36. -/
def Obligations.ComparatorsAndCaptures : Prop := ∀ (h : Hdr) (s : State),
  (∀ p : TimeTriggerP, Ready h (.timeTrigger p) s →
    let n := h.flow - 0x100
    let now := refNs s p.ref
    let answer := fun st data => answered h (.timeTrigger p) st 0 data s
    let put := fun (c : CmpSt) => ({ s.time with cmps := tput s.time.cmps n c } : TimeSt)
    let mine := p.op = 0 ∧ 2 ≤ n ∧ n ≤ 11 ∧ triggerOk p = true
    let free := p.actions.testBit 1 = false ∨ pinTaken s n p.pin = false
    (1 < p.op → exec (.timeTrigger h p) s = .next { s with hif := answer stBadParam [] }) ∧
    (p.op ≤ 1 → n < 2 ∨ 12 ≤ n → exec (.timeTrigger h p) s = .next { s with hif := answer stBusy [] }) ∧
    (p.op = 1 → 2 ≤ n → n ≤ 11 → exec (.timeTrigger h p) s = .next { s with hif := answer stOk [], time := put { cmpOf s n with armed := false } }) ∧
    (p.op = 0 → 2 ≤ n → n ≤ 11 → triggerOk p = false → exec (.timeTrigger h p) s = .next { s with hif := answer stBadParam [] }) ∧
    (mine → refTracked s p.ref = false → exec (.timeTrigger h p) s = .next { s with hif := answer stBusy [] }) ∧
    (mine → refTracked s p.ref = true → free → p.periodNs = 0 → (p.targetNs : Int) ≤ now → exec (.timeTrigger h p) s = .next { s with
      hif := answer stPastTime [], time := put { cmpOf s n with armed := false } }) ∧
    (mine → refTracked s p.ref = true → free → p.periodNs ≠ 0 ∨ now < (p.targetNs : Int) → ∃ t target, exec (.timeTrigger h p) s = .next t ∧
      t = { s with hif := answer stOk (le 8 target), time := put { cmpOf s n with
        armed := true, ref := p.ref, target := target, period := p.periodNs, actions := p.actions, pin := p.pin, pinMode := p.pinMode,
        pulseNs := p.pulseNs, skipped := 0 } } ∧
      now < (target : Int) ∧ (now < (p.targetNs : Int) → target = p.targetNs) ∧ ∃ k, target = p.targetNs + k * p.periodNs)) ∧
  (∀ p : TimeCaptureCfgP, Ready h (.timeCaptureCfg p) s →
    let ok := p.input ≤ 4 ∧ p.edge ≤ 3 ∧ p.clear ≤ 1
    let c := tget {} s.time.caps p.input
    (¬ ok → exec (.timeCaptureCfg h p) s = .next { s with hif := answered h (.timeCaptureCfg p) stBadParam 0 [] s }) ∧
    (ok → exec (.timeCaptureCfg h p) s = .next { s with
      hif := answered h (.timeCaptureCfg p) stOk 0 [] s,
      time := { s.time with
        caps := tput s.time.caps p.input (if p.clear = 1 then { c with edgeSel := p.edge, queue := [], ovf := false } else { c with edgeSel := p.edge }) } })) ∧
  (∀ i falling, i < 4 →
    let c := tget {} s.time.caps i
    let put := fun (x : CapSt) => ({ s with time := { s.time with caps := tput s.time.caps i x } } : State)
    let e : CapEntry := { raw := rawNs s, a := refNs s 1, b := refNs s 2, falling := falling }
    (c.edgeSel.testBit (if falling then 1 else 0) = false → exec (.timeInEdge i falling) s = .next s) ∧
    (c.edgeSel.testBit (if falling then 1 else 0) = true → 16 ≤ c.queue.length →
      exec (.timeInEdge i falling) s = .next (raise 0x103 (put { c with ovf := true }))) ∧
    (c.edgeSel.testBit (if falling then 1 else 0) = true → c.queue = [] →
      exec (.timeInEdge i falling) s = .next (raise 0x102 (put { c with queue := [e] }))) ∧
    (c.edgeSel.testBit (if falling then 1 else 0) = true → c.queue ≠ [] → c.queue.length < 16 →
      exec (.timeInEdge i falling) s = .next (put { c with queue := c.queue ++ [e] }))) ∧
  (∀ i < 5,
    let c := tget {} s.time.caps i
    exec (.captureEntryRead i) s = .next { s with
      time := { s.time with caps := tput s.time.caps i { c with latched := c.queue.head?, queue := c.queue.tail } },
      hif := { s.hif with readData := match c.queue with | e :: _ => s2n 32 e.raw | [] => 0 } }) ∧
  (∃ t, exec .timeSnapshotRead s = .next t ∧
    t = { s with time := { s.time with snap := t.time.snap }, hif := { s.hif with readData := s2n 64 (refNs s 0) % 2 ^ 32 } } ∧
    ∀ r < 4, nth 0 t.time.snap (2 * r) + 2 ^ 32 * nth 0 t.time.snap (2 * r + 1) = s2n 64 (refNs s r))

/-- PTP (R234-R236, R240): the settings of a port and of a domain's source; a message is stamped where its port and transport have PTP and leaves with
its residence added where both ports are transparent clocks; an offset above step_limit steps the domain, and sixteen within lock_ns lock it;
a source that falls silent leaves it in holdover.
Where the rules leave a choice it follows log entries 17 and 36. -/
def Obligations.PtpFollowers : Prop := ∀ (h : Hdr) (s : State),
  (∀ p : TimePtpPortCfgP, Ready h (.timePtpPortCfg p) s →
    let ok := p.enable ≤ 1 ∧ p.tcEnable ≤ 1 ∧ p.transports ≤ 7
    (¬ ok → exec (.timePtpPortCfg h p) s = .next { s with hif := answered h (.timePtpPortCfg p) stBadParam 0 [] s }) ∧
    (ok → exec (.timePtpPortCfg h p) s = .next { s with
      hif := answered h (.timePtpPortCfg p) stOk 0 [] s,
      time := { s.time with ptp := tput s.time.ptp (h.flow - 0x200) {
        enable := decide (p.enable = 1), tcEnable := decide (p.tcEnable = 1), transports := p.transports, mapA := p.mapA, mapB := p.mapB,
        asymmetry := p.asymmetryNs } } })) ∧
  (∀ p : TimeDomainCfgP, Ready h (.timeDomainCfg p) s →
    let o := domOf s.time (1 - h.flow)
    let d := domOf s.time h.flow
    let ok := p.src ≤ 3 ∧ (p.src = 1 ∨ p.src = 3 → p.port ≤ 4) ∧ 2 ≤ p.announceTimeout ∧ p.announceTimeout ≤ 10
    let taken := p.src = 1 ∧ o.src = 1 ∧ o.port = p.port ∧ o.domainNumber = p.domainNumber
    (¬ ok → exec (.timeDomainCfg h p) s = .next { s with hif := answered h (.timeDomainCfg p) stBadParam 0 [] s }) ∧
    (ok → taken → exec (.timeDomainCfg h p) s = .next { s with hif := answered h (.timeDomainCfg p) stDuplicate 0 [] s }) ∧
    (ok → ¬ taken → ∃ t, exec (.timeDomainCfg h p) s = .next t ∧
      t = { s with hif := answered h (.timeDomainCfg p) stOk 0 [] s, time := t.time } ∧ domOf t.time (1 - h.flow) = o ∧
      selAt t.time = selAt s.time ∧
      let x := domOf t.time h.flow
      x = { d with
        src := p.src, port := p.port, domainNumber := p.domainNumber, stepLimit := p.stepLimitNs, lockNs := p.lockNs, annTimeout := p.announceTimeout,
        locked := x.locked, good := x.good, lastOffset := x.lastOffset } ∧
      (d.src ≠ p.src ∨ d.port ≠ p.port ∨ d.domainNumber ≠ p.domainNumber → x.locked = false))) ∧
  (∀ port msg,
    let c := ptpOf s port
    (4 < port ∨ c.enable = false ∨ (port < 2 ∧ c.transports.testBit msg.transport = false) → exec (.ptpEventRx port msg) s = .next s) ∧
    (port ≤ 4 → c.enable = true → 2 ≤ port ∨ c.transports.testBit msg.transport = true → exec (.ptpEventRx port msg) s = .next { s with
      time := { s.time with transit := s.time.transit ++ [{ id := msg.id, msg := msg, inPort := port, inC := s.time.c }] } })) ∧
  (∀ port id x, s.time.transit.find? (fun y => decide (y.id = id)) = some x → gated s = false →
    let on := port ≤ 4 ∧ x.inPort ≠ port ∧ (ptpOf s x.inPort).tcEnable = true ∧ (ptpOf s port).tcEnable = true
    let rate := mappedRate s x.inPort x.msg.domainNumber
    let add : Int := 131072 * ((s.time.c - x.inC : Nat) : Int) + rate * 2 * ((s.time.c - x.inC : Nat) : Int) / 2 ^ 28
    let left := s.time.transit.eraseP (fun y => decide (y.id = id))
    (on → exec (.ptpTcEgress port id) s = .next { s with time := { s.time with
      transit := left, ptpOut := s.time.ptpOut ++ [{ x.msg with correction := x.msg.correction + add, outPort := port }] } }) ∧
    (¬ on → exec (.ptpTcEgress port id) s = .next { s with time := { s.time with
      transit := left, ptpOut := s.time.ptpOut ++ [{ x.msg with outPort := port }] } })) ∧
  (∀ i (offset rateCorr : Int), i ≤ 1 →
    let d := domOf s.time i
    (d.src = 0 ∨ d.src = 2 → exec (.ptpOffsetMeasure i offset rateCorr) s = .next s) ∧
    (d.src = 1 ∨ d.src = 3 → ∃ t, exec (.ptpOffsetMeasure i offset rateCorr) s = .next t ∧ t = { s with time := t.time, evt := t.evt } ∧
      (domOf t.time i).lastOffset = clampI (-2147483648) 2147483647 offset ∧
      (domOf t.time i).good = (if offset.natAbs ≤ d.lockNs then min 16 (d.good + 1) else 0) ∧
      (d.stepLimit < offset.natAbs → (domOf t.time i).o = d.o - offset * 65536 ∧ (domOf t.time i).r = d.r) ∧
      (offset.natAbs ≤ d.stepLimit → (domOf t.time i).r = clampI (-1759218604) 1759218604 (d.r + rateCorr)) ∧
      (offset.natAbs ≤ d.lockNs → 15 ≤ d.good → d.locked = false →
        (domOf t.time i).locked = true ∧ (domOf t.time i).tracked = true ∧ t.evt.cause = causeAfter 0x106 s))) ∧
  (∀ i ≤ 1, (domOf s.time i).src = 1 → ∃ t, exec (.ptpAnnounceTimeout i) s = .next t ∧ t = { s with time := t.time, evt := t.evt } ∧
    domOf t.time i = { domOf s.time i with locked := false, good := 0 } ∧ t.evt.cause = causeAfter 0x107 s) ∧
  (∀ i, 1 < i ∨ (domOf s.time i).src ≠ 1 → exec (.ptpAnnounceTimeout i) s = .next s)

/-! SLOT. -/

/-- SLOT_CFG, the schedule lists, SLOT_STATUS and SLOT_TX (R243-R246, R281, R282, R284-R288). A value out of range is ST_BAD_PARAM; START arms the first
boundary, STOP waits for the end of the slot and cancels activations; a list is staged, then becomes active at once while the engine is
stopped, at its ASN while that is not behind, at its next start where that was missed, else never; a frame of SLOT_TX is in its queue.
Where the rules leave a choice it follows log entry 34. -/
def Obligations.SlotCommands : Prop := ∀ (h : Hdr) (s : State),
  (∀ p : SlotCfgP, Ready h (.slotCfg p) s →
    let answer := fun st => exec (.slotCfg h p) s = .next { s with hif := answered h (.slotCfg p) st 0 [] s }
    let f := h.flow - 0x100
    let b := s.slot
    let starts := h.flow = 0 ∧ p.op = 1 ∧ p.asnStart < 2 ^ 40 ∧ refTracked s 3 = true
    (h.flow = 0 → 2 < p.op → answer stBadParam) ∧
    (h.flow ≠ 0 → tmplOk s p.tmpl = false → answer stBadParam) ∧
    (h.flow ≠ 0 → tmplOk s p.tmpl = true → hflag h 2 = false → exec (.slotCfg h p) s = .next { s with
      hif := answered h (.slotCfg p) stOk 0 [] s, slot := { b with sfs := tput b.sfs f { sfOf s f with tmpl := p.tmpl } } }) ∧
    (h.flow ≠ 0 → tmplOk s p.tmpl = true → hflag h 2 = true → 1 ≤ p.hopLen → p.hopLen ≤ 256 → p.channels.length = p.hopLen →
      (∀ x ∈ p.channels, x ≤ 0xFFFF) → exec (.slotCfg h p) s = .next { s with
        hif := answered h (.slotCfg p) stOk 0 [] s,
        slot := { b with sfs := tput b.sfs f { sfOf s f with tmpl := p.tmpl, hop := p.channels } } }) ∧
    (h.flow = 0 → p.op = 0 → slotSetOk h p = false → answer stBadParam) ∧
    (h.flow = 0 → p.op = 0 → slotSetOk h p = true → b.running = true → p.slotLenUs ≠ b.slotLenUs → answer stBusy) ∧
    (h.flow = 0 → p.op = 0 → slotSetOk h p = true → b.running = false ∨ p.slotLenUs = b.slotLenUs →
      let set : SlotSt := { b with
        slotLenUs := p.slotLenUs, maxRetries := p.maxRetries, minBe := p.minBe, maxBe := p.maxBe, preBytes := p.preBytes, fskTx := p.fskTx,
        ackUnknown := decide (p.ackUnknown = 1), dupWindowMs := p.dupWindowMs, txReportRing := p.txReportRing,
        reportAll := decide (p.reportAll = 1) }
      exec (.slotCfg h p) s = .next { s with
        hif := answered h (.slotCfg p) stOk 0 [] s,
        slot := if hflag h 2 = true then { set with
          ebTemplate := p.ebTemplate, ebAsnOffset := p.ebAsnOffset, ebSecLevel := p.ebSecLevel, ebKeySlot := p.ebKeySlot } else set }) ∧
    (h.flow = 0 → p.op = 1 → p.asnStart < 2 ^ 40 → refTracked s 3 = false → answer stBusy) ∧
    (starts → (p.startTimeNs : Int) < selNs s + 2000 * (b.slotLenUs : Int) → answer stPastTime) ∧
    (starts → selNs s + 2000 * (b.slotLenUs : Int) ≤ (p.startTimeNs : Int) → b.running = true → answer stBusy) ∧
    (starts → selNs s + 2000 * (b.slotLenUs : Int) ≤ (p.startTimeNs : Int) → b.running = false → ∃ t, exec (.slotCfg h p) s = .next t ∧
      t.slot.running = true ∧ t.slot.started = false ∧ t.slot.asnStart = p.asnStart ∧ t.slot.startNs = p.startTimeNs ∧ t.slot.frontF = 0 ∧
      t.slot.frontP = 0 ∧ asnAdd t.slot.asn 1 = p.asnStart ∧ (cmpOf t 0).armed = true ∧ (cmpOf t 0).ref = 3 ∧ (cmpOf t 0).target = p.startTimeNs) ∧
    (h.flow = 0 → p.op = 2 → b.running = false → answer stOk) ∧
    (h.flow = 0 → p.op = 2 → b.running = true → ∃ t, exec (.slotCfg h p) s = .next t ∧
      t = { s with hif := answered h (.slotCfg p) stOk 0 [] s, slot := { b with stopPending := true, sfs := t.slot.sfs } } ∧
      ∀ g, (sfOf t g).pendAsn = none ∧ (sfOf t g).active = (sfOf s g).active)) ∧
  (∀ p : SlotListLoadP, Ready h (.slotListLoad p) s →
    let f := h.flow - 0x100
    let x := sfOf s f
    let staged := le 4 (x.staged.getD []).length
    let refused := fun st bad => exec (.slotListLoad h p) s = .next { s with hif := answered h (.slotListLoad p) st 0 (staged ++ le 4 bad) s }
    let set := fun (y : SfSt) => exec (.slotListLoad h p) s = .next { s with
      hif := answered h (.slotListLoad p) stOk 0 (le 4 (y.staged.getD []).length ++ le 4 0xFFFFFFFF) s,
      slot := { s.slot with sfs := tput s.slot.sfs f y } }
    let lastOff := match (x.staged.getD []).getLast? with | some c => c.slotOffset | none => 0
    (x.pendAsn.isSome = true → refused stBusy 0xFFFFFFFF) ∧
    (x.pendAsn = none → 2 < p.op → refused stBadParam 0xFFFFFFFF) ∧
    (x.pendAsn = none → p.op = 0 → 1 ≤ p.sfLen → p.sfLen ≤ 0xFFFF →
      set { x with staged := some [], stagedLen := p.sfLen, staging := true, stagedReady := false }) ∧
    (x.pendAsn = none → p.op = 1 ∨ p.op = 2 → x.staging = false → refused stBusy 0xFFFFFFFF) ∧
    (∀ i, x.pendAsn = none → p.op = 1 → x.staging = true → p.hostAddr % 16 = 0 → 1 ≤ p.cells.length → p.cells.length ≤ 1048576 →
      firstBad f x.stagedLen 0 lastOff p.cells = some i → refused stBadParam i) ∧
    (x.pendAsn = none → p.op = 1 → x.staging = true → p.hostAddr % 16 = 0 → 1 ≤ p.cells.length →
      firstBad f x.stagedLen 0 lastOff p.cells = none → stagedTotal s + p.cells.length ≤ 1048576 →
      set { x with staged := some (x.staged.getD [] ++ p.cells) }) ∧
    (x.pendAsn = none → p.op = 2 → x.staging = true → set { x with staging := false, stagedReady := true })) ∧
  (∀ p : SlotListActivateP, Ready h (.slotListActivate p) s →
    let f := h.flow - 0x100
    let x := sfOf s f
    let u := firstUnbuilt s
    let refused := fun st => exec (.slotListActivate h p) s = .next { s with hif := answered h (.slotListActivate p) st 0 [] s }
    let put := fun st asn (y : SfSt) => exec (.slotListActivate h p) s = .next { s with
      hif := answered h (.slotListActivate p) st 0 (le 5 asn) s, slot := { s.slot with sfs := tput s.slot.sfs f y } }
    let ready := p.op = 0 ∧ p.asn < 2 ^ 40 ∧ x.stagedReady = true ∧ x.pendAsn = none ∧ activeOthers s f + (x.staged.getD []).length ≤ 1048576
    (2 < p.op ∨ 2 ^ 40 ≤ p.asn → refused stBadParam) ∧
    (p.op = 0 → p.asn < 2 ^ 40 → x.stagedReady = false ∨ x.pendAsn.isSome = true → refused stBusy) ∧
    (ready → s.slot.running = false → ∃ t, exec (.slotListActivate h p) s = .next t ∧
      t = { s with hif := answered h (.slotListActivate p) stOk 0 (le 5 (2 ^ 40 - 1)) s, slot := t.slot, twin := t.twin, evt := t.evt } ∧
      t.slot = { s.slot with sfs := tput s.slot.sfs f { x with
        active := x.staged, activeLen := x.stagedLen, staged := none, stagedLen := 0, stagedReady := false, pendAsn := none, pendOff := false } } ∧
      t.evt.cause = causeAfter 0x090 s) ∧
    (ready → s.slot.running = true → asnBehind p.asn u = false → put stOk p.asn { x with pendAsn := some p.asn, pendOff := false }) ∧
    (ready → s.slot.running = true → asnBehind p.asn u = true → max 1 x.stagedLen ≤ (u + 2 ^ 40 - p.asn) % 2 ^ 40 → refused stPastTime) ∧
    (ready → s.slot.running = true → asnBehind p.asn u = true → (u + 2 ^ 40 - p.asn) % 2 ^ 40 < max 1 x.stagedLen →
      let len := max 1 x.stagedLen
      put stLateApplied (cdiv u len * len % 2 ^ 40) { x with pendAsn := some (cdiv u len * len % 2 ^ 40), pendOff := false }) ∧
    (p.op = 2 → p.asn < 2 ^ 40 → x.pendAsn = none →
      exec (.slotListActivate h p) s = .next { s with hif := answered h (.slotListActivate p) stOk 0 (le 5 (2 ^ 40 - 1)) s }) ∧
    (∀ a, p.op = 2 → p.asn < 2 ^ 40 → x.pendAsn = some a → asnBehind a u = true → refused stBusy) ∧
    (∀ a, p.op = 2 → p.asn < 2 ^ 40 → x.pendAsn = some a → asnBehind a u = false → put stOk a { x with pendAsn := none, pendOff := false })) ∧
  (∀ p : SlotStatusP, Ready h (.slotStatus p) s →
    let b := s.slot
    (p.op = 0 → exec (.slotStatus h p) s = .next { s with
      hif := answered h (.slotStatus p) stOk 0 (le 5 b.asn ++ le 1 (slotStatusWord s) ++ le 2 b.guardUs ++ le 2 b.timeSource ++ le 1 (min b.misses 255) ++
        zeros 1 ++ leS 8 b.boundaryNs) s }) ∧
    (p.op = 1 → p.clear ≤ 1 → exec (.slotStatus h p) s = .next { s with
      hif := answered h (.slotStatus p) stOk 0 [] s,
      hostMem := if p.bufferAddr = 0 then s.hostMem else memWrite s.hostMem p.bufferAddr ((List.range 17).flatMap (fun i => le 4 (tget 0 b.cnt i))),
      slot := if p.clear = 1 then { b with cnt := [] } else b })) ∧
  (∀ p : SlotTxP, Ready h (.slotTx p) s →
    let refused := fun st => exec (.slotTx h p) s = .next { s with hif := answered h (.slotTx p) st 0 [] s }
    let q := queueOf s p.queue
    let ok := (p.neighbour < 0x8000 ∨ p.neighbour = 0xFFFF) ∧ 9 ≤ p.data.length ∧ p.data.length ≤ 2047 ∧ p.cls ≤ 7 ∧ isAirQueue s p.queue = true ∧
      p.ackReq ≤ 1 ∧ p.secLevel ≤ 7
    (¬ ok → refused stBadParam) ∧
    (ok → s.slot.running = false → refused stBusy) ∧
    (ok → s.slot.running = true → p.secLevel = 0 → cellsFor p.data.length + s.tm.reserve ≤ freeCells s →
      queueBytes q + p.data.length ≤ q.maxBytes → q.frames.length < q.maxFrames →
      (q.frames.filter (fun f => decide (f.neighbour = p.neighbour))).length < q.nbCap → ∃ t, exec (.slotTx h p) s = .next t ∧
        (∃ f ∈ (queueOf t p.queue).frames, f.data = p.data ∧ f.neighbour = p.neighbour ∧ f.cls = p.cls ∧ f.ackReq = decide (p.ackReq = 1)) ∧
        (queueOf t p.queue).frames.length = q.frames.length + 1 ∧ t.sec = s.sec ∧ t.hostMem = s.hostMem))

/-- Boundaries and superframes (R242-R244, R268-R272). A boundary of a running engine is the next slot, one of a stopped engine nothing; a stop that
is due leaves no plan and raises EV_SLOT_STOPPED. A superframe is enabled in its ranges, refused with ST_DUPLICATE on a frequency that another
has, and goes through its four events in turn.
Where the rules leave a choice it follows log entries 34 and 35. -/
def Obligations.SlotBoundariesAndSuperframes : Prop := ∀ (h : Hdr) (s : State),
  (∀ env, s.slot.running = false ∨ s.sys.devState ≠ .run → exec (.slotBoundary env) s = .next s) ∧
  (∀ env, s.slot.running = true → s.sys.devState = .run → s.slot.stopPending = false → ∃ t, exec (.slotBoundary env) s = .next t ∧
    t.slot.running = true ∧ t.slot.asn = (s.slot.asn + 1) % 2 ^ 40 ∧ t.slot.prevNs = s.slot.boundaryNs ∧ t.slot.started = true) ∧
  (∀ env, s.slot.running = true → s.sys.devState = .run → s.slot.stopPending = true → ∃ t, exec (.slotBoundary env) s = .next t ∧
    t.slot.running = false ∧ t.slot.stopPending = false ∧ t.slot.plan = none ∧ t.slot.plans = [] ∧ t.slot.asn = s.slot.asn) ∧
  (s.slot.running = true → s.slot.stopPending = true → ∃ t, exec .slotStopEffect s = .next t ∧
    t.slot.running = false ∧ t.slot.stopPending = false ∧ t.slot.plan = none ∧ t.slot.plans = [] ∧ (cmpOf t 0).armed = false ∧
    t.evt.cause = causeAfter 0x081 s ∧ t.sec = s.sec) ∧
  (s.slot.running = false ∨ s.slot.stopPending = false → exec .slotStopEffect s = .next s) ∧
  (∀ p : SlotSuperframeCfgP, Ready h (.slotSuperframeCfg p) s →
    let n := h.flow - 0x200
    let u := superOf s n
    let f := (channelCentre (chainOf s p.chain) p.phyMode p.channel).getD 0
    let refused := fun st => exec (.slotSuperframeCfg h p) s = .next { s with hif := answered h (.slotSuperframeCfg p) st 0 [] s }
    let put := fun (y : SuperSt) => exec (.slotSuperframeCfg h p) s = .next { s with
      hif := answered h (.slotSuperframeCfg p) stOk 0 [] s, slot := { s.slot with supers := tput s.slot.supers n y } }
    (p.op = 0 → put { u with enabled := false, phase := 0 }) ∧
    (1 < p.op ∨ (p.op = 1 ∧ 3 < p.chain) → refused stBadParam) ∧
    (p.op = 1 → p.chain ≤ 3 → (chainOf s p.chain).service = 2 → refused stDegraded) ∧
    (p.op = 1 → p.chain ≤ 3 → (chainOf s p.chain).service ≠ 2 → superOk s p = false → refused stBadParam) ∧
    (superOk s p = true → p.phyMode ≠ 6 ∧ p.so ≤ p.bo ∧ p.bo ≤ 14 ∧ p.anchorOffsetUs < s.slot.slotLenUs ∧
      16 * (baseSlotUs p.phyMode * 2 ^ p.so) + 1000 ≤ s.slot.slotLenUs) ∧
    (p.op = 1 → p.chain ≤ 3 → (chainOf s p.chain).service ≠ 2 → superOk s p = true → superTwin s n f = true → refused stDuplicate) ∧
    (p.op = 1 → p.chain ≤ 3 → (chainOf s p.chain).service ≠ 2 → superOk s p = true → superTwin s n f = false → put { u with
      enabled := true, chain := p.chain, channel := p.channel, phy := p.phyMode, bo := p.bo, so := p.so, anchorAsn := p.anchorAsn,
      anchorOffset := p.anchorOffsetUs, turnaround := p.ackTurnaroundUs, template := p.template, descs := p.descs, phase := 0 })) ∧
  (∀ n kind, n ≤ 7 → kind ≤ 3 → (superOf s n).enabled = true → s.slot.running = true → ∃ t, exec (.superframeEvent n kind) s = .next t ∧
    superOf t n = { superOf s n with phase := (kind + 1) % 4 } ∧ (∀ m, m ≠ n → superOf t m = superOf s m) ∧
    t = { s with slot := t.slot, budg := t.budg } ∧ (kind = 1 ∨ kind = 2 → t.budg = s.budg)) ∧
  (∀ n kind, (superOf s n).enabled = false ∨ s.slot.running = false → exec (.superframeEvent n kind) s = .next s)

/-- FRONT and follower mode (R275-R277, R289-R293): SLOT_FRONT_CFG in its ranges and none of the follower's; an error within window_us is accepted and
becomes the pending shift, one beyond is rejected; loss_count rejected or missing in a row lose the reference; the third beacon period in a
row without a beacon enters holdover, and the guard limit widens the guard to its maximum.
Where the rules leave a choice it follows log entries 17 and 36. -/
def Obligations.FrontAndFollower : Prop := ∀ (h : Hdr) (s : State),
  (∀ p : SlotFrontCfgP, Ready h (.slotFrontCfg p) s →
    let b := s.slot
    let refused := fun st => exec (.slotFrontCfg h p) s = .next { s with hif := answered h (.slotFrontCfg p) st 0 [] s }
    let ok := (p.src = 2 → p.port ≤ 2) ∧ (p.src = 1 → p.edge = 1 ∨ p.edge = 2) ∧ 1 ≤ p.periodSlots ∧ p.periodSlots ≤ 0xFFFF ∧ p.anchorAsn < 2 ^ 40 ∧
      p.offsetNs.natAbs ≤ 500 * b.slotLenUs ∧ 1 ≤ p.windowUs ∧ p.windowUs ≤ 5000 ∧ p.maxShiftUs ≤ 500 ∧ 1 ≤ p.lossCount ∧ p.lossCount ≤ 255 ∧
      p.maxShiftUs + 3 ≤ leastGuard s ∧ 2 * p.windowUs < p.periodSlots * b.slotLenUs
    (2 < p.src → refused stBadParam) ∧
    (p.src ≤ 2 → b.follower = true → refused stBusy) ∧
    (p.src ≤ 2 → p.src ≠ 0 → b.follower = false → ¬ ok → refused stBadParam) ∧
    (p.src ≤ 2 → p.src ≠ 0 → b.follower = false → ok → exec (.slotFrontCfg h p) s = .next { s with
      hif := answered h (.slotFrontCfg p) stOk 0 [] s,
      slot := { b with
        frontSrc := p.src, frontPort := p.port, frontEdge := p.edge, frontPeriod := p.periodSlots, frontAnchor := p.anchorAsn,
        frontOffset := p.offsetNs, frontWindow := p.windowUs, frontMaxShift := p.maxShiftUs, frontLockNs := p.lockNs,
        frontLossCount := p.lossCount, frontLocked := false, frontGood := 0, frontBad := 0 } }) ∧
    (p.src = 0 → b.follower = false → ∃ t, exec (.slotFrontCfg h p) s = .next t ∧
      t = { s with
        hif := answered h (.slotFrontCfg p) stOk 0 [] s, evt := t.evt,
        slot := { b with frontSrc := 0, frontLocked := false, frontGood := 0, frontBad := 0, frontP := 0 } } ∧
      t.evt.cause = (if b.frontP = 0 then s.evt.cause else causeAfter 0x094 s))) ∧
  (∀ f, (sfOf s f).tmpl.endGuard < leastGuard s → 8 ≤ f) ∧
  (∀ falling, s.slot.running = true → s.slot.frontSrc = 1 → s.slot.frontEdge = (if falling = true then 2 else 1) →
    let e := edgeError s
    (e.natAbs ≤ 1000 * s.slot.frontWindow → ∃ t, exec (.frontInEdge falling) s = .next t ∧ t.slot.frontErr = e ∧ t.slot.frontP = e ∧
      t.slot.frontLost = false ∧ t.slot.frontBad = 0 ∧ tget 0 t.slot.frontCnt 0 = min (tget 0 s.slot.frontCnt 0 + 1) 0xFFFFFFFF) ∧
    (1000 * s.slot.frontWindow < e.natAbs → ∃ t, exec (.frontInEdge falling) s = .next t ∧ t.slot.frontErr = s.slot.frontErr ∧
      t.slot.frontLocked = false ∧ tget 0 t.slot.frontCnt 1 = min (tget 0 s.slot.frontCnt 1 + 1) 0xFFFFFFFF ∧
      ((srcCfgOf s 0x093).enable = true → t.evt.cause.testBit 0x093 = true))) ∧
  (s.slot.running = true → s.slot.frontSrc ≠ 0 → ∃ t, exec .frontPositionMissing s = .next t ∧ t = { s with slot := t.slot, evt := t.evt } ∧
    t.slot.frontLocked = false ∧ tget 0 t.slot.frontCnt 2 = min (tget 0 s.slot.frontCnt 2 + 1) 0xFFFFFFFF ∧
    (s.slot.frontBad + 1 < s.slot.frontLossCount → t.slot.frontLost = s.slot.frontLost ∧ t.slot.frontP = s.slot.frontP) ∧
    (s.slot.frontLossCount ≤ s.slot.frontBad + 1 → s.slot.frontLost = false → t.slot.frontLost = true ∧ t.slot.frontP = 0 ∧
      ((srcCfgOf s 0x092).enable = true → t.evt.cause.testBit 0x092 = true))) ∧
  (s.slot.running = false ∨ s.slot.frontSrc = 0 → exec .frontPositionMissing s = .next s) ∧
  (∀ p : SlotFollowCfgP, Ready h (.slotFollowCfg p) s →
    let b := s.slot
    let ok := p.enable ≤ 1 ∧ p.timeSource ≤ 0x7FFF ∧ 1 ≤ p.ebPeriodSlots ∧ p.ebPeriodSlots ≤ 0xFFFF ∧ p.driftPpb ≤ 20000 ∧ p.maxExtraGuardUs ≤ 2000
    let busy := b.frontSrc ≠ 0 ∨ (s.time.domA.src ≠ 2 ∧ s.time.domB.src ≠ 2)
    (¬ ok → exec (.slotFollowCfg h p) s = .next { s with hif := answered h (.slotFollowCfg p) stBadParam 0 [] s }) ∧
    (ok → p.enable = 1 → busy → exec (.slotFollowCfg h p) s = .next { s with hif := answered h (.slotFollowCfg p) stBusy 0 [] s }) ∧
    (ok → p.enable = 1 → ¬ busy → exec (.slotFollowCfg h p) s = .next { s with
      hif := answered h (.slotFollowCfg p) stOk 0 [] s,
      slot := { b with
        follower := true, timeSource := p.timeSource, ebPeriod := p.ebPeriodSlots, driftPpb := p.driftPpb, maxExtraGuard := p.maxExtraGuardUs,
        lastSyncNs := if b.follower = true then b.lastSyncNs else 2 * s.time.c } }) ∧
    (ok → p.enable = 0 → ∃ t, exec (.slotFollowCfg h p) s = .next t ∧ t = { s with hif := answered h (.slotFollowCfg p) stOk 0 [] s, slot := t.slot } ∧
      t.slot.follower = false ∧ t.slot.holdover = false ∧ t.slot.guardLimit = false ∧ t.slot.guardUs = 0 ∧ t.slot.misses = 0 ∧
      t.slot.running = b.running ∧ t.slot.asn = b.asn)) ∧
  (s.slot.running = true → s.slot.follower = true ∨ isStandby s = true → ∃ t, exec .beaconPeriodMiss s = .next t ∧ t = { s with slot := t.slot, evt := t.evt } ∧
    t.slot.misses = min (s.slot.misses + 1) 0xFFFF ∧ tget 0 t.slot.cnt 15 = min (tget 0 s.slot.cnt 15 + 1) 0xFFFFFFFF ∧
    (s.slot.misses = 2 → t.slot.holdover = (s.slot.holdover || s.slot.follower) ∧ t.evt.cause = causeAfter 0x085 s) ∧
    (s.slot.misses ≠ 2 → t.slot.holdover = s.slot.holdover ∧ t.evt = s.evt)) ∧
  (s.slot.holdover = true → s.slot.guardLimit = false → exec .guardLimitReached s = .next (raise 0x087 { s with slot := { s.slot with
    guardLimit := true, guardUs := s.slot.maxExtraGuard } })) ∧
  (s.slot.holdover = false ∨ s.slot.guardLimit = true → exec .guardLimitReached s = .next s)

/-! BUDG and TM. -/

/-- The air budget (R295, R297, R300-R302, R309): a region in its ranges replaces the sub-bands, and those whose edges stay keep their counters; the
history drops what is 7,200 s old; NEAR clears where every scope is below its warning level. The traffic manager's commands (R343, R349, R350, R357,
R361, R362): each setting in its ranges; a queue that holds frames keeps its port, and the queue for unknown sources stays on port 5 (ST_BUSY); a
meter starts with full buckets, a shaper full or empty as asked; TM_STATS reports and clears.
Where the rules leave a choice it follows log entries 10 and 37. -/
def Obligations.BudgetAndTrafficCommands : Prop :=
  (∀ (h : Hdr) (s : State),
  (∀ p : BudgRegionLoadP, Ready h (.budgRegionLoad p) s →
    let ok := 60 ≤ p.windowS ∧ p.windowS ≤ 7200 ∧ 50 ≤ p.warnPct ∧ p.warnPct ≤ 100 ∧ 1 ≤ p.entries.length ∧ p.entries.length ≤ 32 ∧
      (∀ e ∈ p.entries, e.fLow < e.fHigh ∧ e.chainPpm ≤ 1000000 ∧ e.aggPpm ≤ 1000000) ∧
      p.entries.Pairwise (fun e f => e.fHigh ≤ f.fLow ∨ f.fHigh ≤ e.fLow)
    (¬ ok → exec (.budgRegionLoad h p) s = .next { s with hif := answered h (.budgRegionLoad p) stBadParam 0 [] s }) ∧
    (ok → ∃ t, exec (.budgRegionLoad h p) s = .next t ∧ t = { s with
        hif := answered h (.budgRegionLoad p) stOk 0 [] s,
        budg := { s.budg with
          loaded := true, regionId := p.regionId, windowS := p.windowS, warnPct := p.warnPct, refused := [], nearSeen := [], debits := t.budg.debits,
          bands := p.entries.map (fun e => {
            fLow := e.fLow, fHigh := e.fHigh, chainPpm := e.chainPpm, aggPpm := e.aggPpm, maxOnMs := e.maxOnMs }) } } ∧
      (∀ d ∈ s.budg.debits, ∀ i < p.entries.length, (nth {} p.entries i).fLow = (nth {} s.budg.bands d.band).fLow →
        (nth {} p.entries i).fHigh = (nth {} s.budg.bands d.band).fHigh → { d with band := i } ∈ t.budg.debits) ∧
      t.budg.debits.length ≤ s.budg.debits.length)) ∧
  (∀ p : BudgStatusP, Ready h (.budgStatus p) s →
    let data := le 4 (usageMs s p.subband 4) ++ (List.range 4).flatMap (fun k => le 4 (usageMs s p.subband k)) ++
      le 2 (nth {} s.budg.bands p.subband).fLow ++ le 1 (b2n ((List.range 5).any (fun k => atWarn s p.subband k (rawSec s))))
    (31 < p.subband ∨ 1 < p.clear → exec (.budgStatus h p) s = .next { s with hif := answered h (.budgStatus p) stBadParam 0 [] s }) ∧
    (p.subband ≤ 31 → p.clear ≤ 1 → exec (.budgStatus h p) s = .next { s with
      hif := answered h (.budgStatus p) stOk 0 data s, budg := if p.clear = 1 then { s.budg with cnt := [] } else s.budg })) ∧
  (∃ t, exec .budgetBucketExpiry s = .next t ∧ t = { s with budg := { s.budg with
      debits := s.budg.debits.filter (fun d => decide (rawSec s < d.bucket + 7200)), near := t.budg.near,
      refused := s.budg.refused.filter (fun x => decide (rawSec s ≤ x.2)), nearSeen := s.budg.nearSeen.filter (fun x => decide (rawSec s ≤ x.2)) } } ∧
    ((∀ j < s.budg.bands.length, ∀ k < 5, atWarn t j k (rawSec s) = false) → t.budg.near = false) ∧
    ((∃ j < s.budg.bands.length, ∃ k < 5, atWarn t j k (rawSec s) = true) → t.budg.near = s.budg.near))) ∧
  (∀ (h : Hdr) (s : State),
  (∀ p : TmQueueCfgP, Ready h (.tmQueueCfg p) s →
    let x := queueOf s h.flow
    let busy := (p.port ≠ x.port ∧ x.frames ≠ []) ∨ (h.flow = s.tm.unknownQueue ∧ p.port ≠ 5)
    (queueCfgOk p s = false → exec (.tmQueueCfg h p) s = .next { s with hif := answered h (.tmQueueCfg p) stBadParam 0 [] s }) ∧
    (p.port = 4 → (portOf s 2).role = 1 → queueCfgOk p s = false) ∧
    (queueCfgOk p s = true → busy → exec (.tmQueueCfg h p) s = .next { s with hif := answered h (.tmQueueCfg p) stBusy 0 [] s }) ∧
    (queueCfgOk p s = true → ¬ busy → ∃ t, exec (.tmQueueCfg h p) s = .next t ∧ t = { s with hif := answered h (.tmQueueCfg p) stOk 0 [] s, tm := t.tm } ∧
      queueOf t h.flow = { x with
        port := p.port, cls := p.cls, ring := p.ring, quantum := p.quantum, maxBytes := p.maxBytes, maxFrames := p.maxFrames, yellowPct := p.yellowPct,
        shaper := p.shaper, nbCap := p.nbCap, deficit := (queueOf t h.flow).deficit } ∧
      (x.frames = [] → (queueOf t h.flow).deficit = 0) ∧ ∀ q, q ≠ h.flow → queueOf t q = queueOf s q)) ∧
  (∀ p : TmMeterCfgP, Ready h (.tmMeterCfg p) s →
    let m := meterOf s (h.flow - 0x1000)
    (meterCfgOk p = false → exec (.tmMeterCfg h p) s = .next { s with hif := answered h (.tmMeterCfg p) stBadParam 0 [] s }) ∧
    (meterCfgOk p = true → exec (.tmMeterCfg h p) s = .next { s with
      hif := answered h (.tmMeterCfg p) stOk 0 [] s,
      tm := { s.tm with meters := tput s.tm.meters (h.flow - 0x1000) { m with
        mode := p.mode, aware := decide (p.colourAware = 1), redAction := p.redAction, cirKbps := p.cirKbps, cbs := p.cbs, pirKbps := p.pirKbps,
        pbsEbs := p.pbsEbs, tc := 256 * p.cbs, tp := 256 * p.pbsEbs, lastNs := 2 * s.time.c, cRem := 0, pRem := 0 } } })) ∧
  (∀ p : TmShaperCfgP, Ready h (.tmShaperCfg p) s →
    let k := h.flow - 0x3000
    let ok := 10 ≤ p.rate10bps ∧ p.rate10bps ≤ 4000000000 ∧ 2048 ≤ p.burst ∧ p.burst ≤ 16777216 ∧ p.tokenOnChange ≤ 1
    (¬ ok → exec (.tmShaperCfg h p) s = .next { s with hif := answered h (.tmShaperCfg p) stBadParam 0 [] s }) ∧
    (ok → ∃ t, exec (.tmShaperCfg h p) s = .next t ∧ t = { s with hif := answered h (.tmShaperCfg p) stOk 0 [] s, tm := t.tm } ∧
      (shaperOf t k).rate = p.rate10bps ∧ (shaperOf t k).burst = p.burst ∧ (∀ q, (queueOf t q).frames = (queueOf s q).frames) ∧
      (queuesOfShaper s k = [] → t.tm = { s.tm with shapers := tput s.tm.shapers k { shaperOf s k with
        rate := p.rate10bps, burst := p.burst, t := if p.tokenOnChange = 0 then 256 * (p.burst : Int) else 0, lastNs := 2 * s.time.c, rem := 0,
        wheel := none } }))) ∧
  (∀ p : TmClassMapP, Ready h (.tmClassMap p) s →
    let bad := exec (.tmClassMap h p) s = .next { s with hif := answered h (.tmClassMap p) stBadParam 0 [] s }
    let put := fun (x : TmSt) => exec (.tmClassMap h p) s = .next { s with hif := answered h (.tmClassMap p) stOk 0 [] s, tm := x }
    (4 < p.op → bad) ∧
    (p.op = 0 → 4095 < p.index ∨ profileOk p.entry = false → bad) ∧
    (p.op = 0 → p.index ≤ 4095 → profileOk p.entry = true → put { s.tm with profiles := tput s.tm.profiles p.index p.entry }) ∧
    (p.op = 1 → p.map.length = 64 → (∀ x ∈ p.map, x ≤ 7) → put { s.tm with dscpClass := mapTable p.map }) ∧
    (p.op = 2 → p.map.length = 64 → (∀ x ∈ p.map, x ≤ 2) → put { s.tm with dscpColour := mapTable p.map }) ∧
    (p.op = 3 → p.index ≤ 15 → p.cls ≤ 7 → p.enable = 1 → put { s.tm with portTable := tput s.tm.portTable p.index (p.udpPort, p.cls) }) ∧
    (p.op = 3 → p.index ≤ 15 → p.cls ≤ 7 → p.enable = 0 → put { s.tm with portTable := tdel s.tm.portTable p.index }) ∧
    (p.op = 4 → 4095 < p.unknownQueue ∨ (queueOf s p.unknownQueue).port ≠ 5 ∨ 8192 < p.reserveCells → bad) ∧
    (p.op = 4 → p.unknownQueue ≤ 4095 → (queueOf s p.unknownQueue).port = 5 → p.reserveCells ≤ 8192 →
      put { s.tm with unknownQueue := p.unknownQueue, reserve := p.reserveCells })) ∧
  (∀ p : TmStatsP, Ready h (.tmStats p) s →
    (1 < p.clear → exec (.tmStats h p) s = .next { s with hif := answered h (.tmStats p) stBadParam 0 [] s }) ∧
    (p.clear ≤ 1 → h.flow < 0x1000 →
      let x := queueOf s h.flow
      exec (.tmStats h p) s = .next { s with
        hif := answered h (.tmStats p) stOk 0 (le 4 (queueBytes x) ++ le 2 x.frames.length ++ le 4 x.sent ++ le 4 x.dropped ++ leS 4 x.deficit) s,
        tm := if p.clear = 1 then { s.tm with queues := tput s.tm.queues h.flow { x with sent := 0, dropped := 0 } } else s.tm }) ∧
    (p.clear ≤ 1 → 0x1000 ≤ h.flow → h.flow < 0x3000 →
      let m := meterOf s (h.flow - 0x1000)
      exec (.tmStats h p) s = .next { s with
        hif := answered h (.tmStats p) stOk 0 (le 4 m.green ++ le 4 m.yellow ++ le 4 m.red ++ le 4 (m.tc / 256) ++ le 4 (m.tp / 256)) s,
        tm := if p.clear = 1 then { s.tm with meters := tput s.tm.meters (h.flow - 0x1000) { m with green := 0, yellow := 0, red := 0 } } else s.tm }) ∧
    (p.clear ≤ 1 → 0x3000 ≤ h.flow → ∃ data, exec (.tmStats h p) s = .next { s with
      hif := answered h (.tmStats p) stOk 0 data s,
      tm := if p.clear = 1 then { s.tm with shapers := tput s.tm.shapers (h.flow - 0x3000) { shaperOf s (h.flow - 0x3000) with released := 0 } } else s.tm })))

/-- A frame at the traffic manager (R342, R351, R352, R356): one that came is admitted in its queue or dropped and counted, class 0 of a port goes first, the
wheel moves one bucket, and a shaper that is due comes off it.
Where the rules leave a choice it follows log entry 37. -/
def Obligations.TrafficManagerFlow : Prop := ∀ (s : State),
  (s.tm.arriving = [] → exec .tmEnqueue s = .next s) ∧
  (∀ prof x rest, s.tm.arriving = (prof, x) :: rest → x.frame.unknown = false → prof < 4096 → bit (tget 0 s.tm.profiles prof) 17 = false →
    let pr := tget 0 s.tm.profiles prof
    let cls := classOf s pr x.frame
    let n := pr % 4096 + (if bit pr 12 then cls else 0)
    let q := queueOf s n
    s.tm.reserve ≤ freeCells s →
    (queueBytes q + x.data.length ≤ q.maxBytes → q.frames.length < q.maxFrames →
      (q.port = 6 → (q.frames.filter (fun f => decide (f.neighbour = x.neighbour))).length < q.nbCap) → ∃ t, exec .tmEnqueue s = .next t ∧
        t.tm.arriving = rest ∧ (queueOf t n).frames.length = q.frames.length + 1 ∧
        (∃ y ∈ (queueOf t n).frames, y.id = x.id ∧ y.data = x.data ∧ y.cls = cls ∧ y.neighbour = x.neighbour) ∧ t.hif = s.hif ∧ t.sec = s.sec) ∧
    (q.port ≠ 6 → q.maxFrames ≤ q.frames.length → ∃ t, exec .tmEnqueue s = .next t ∧ t.tm.arriving = rest ∧
      (queueOf t n).frames = q.frames ∧ (queueOf t n).dropped = min (q.dropped + 1) 0xFFFFFFFF ∧
      tget 0 t.tm.cnt 7 = min (tget 0 s.tm.cnt 7 + 1) 0xFFFFFFFF ∧ t.tm.bufs = s.tm.bufs.filter (fun b => decide (b.id ≠ x.buf)))) ∧
  (∀ port q x f, (q, x) ∈ s.tm.queues → queueOf s q = x → x.port = port → x.cls = 0 → x.frames.head? = some f → x.shaper = 0xFFFF →
    ∃ q' x' f', (nextFrame port (fun _ => false) s).2 = some (q', f') ∧ (q', x') ∈ s.tm.queues ∧ x'.port = port ∧ x'.cls = 0 ∧
      x'.frames.head? = some f') ∧
  (let pos := (s.tm.finePos + 1) % 4096;
    ((∀ e ∈ s.tm.shapers, e.2.wheel.isSome = true → e.2.coarse = false → e.2.bucket ≠ pos) →
      exec .wheelFineAdvance s = .next { s with tm := { s.tm with finePos := pos } }) ∧
    (∀ k x te, s.tm.shapers = [(k, x)] → x.wheel = some te → x.coarse = false → x.bucket = pos → 1000 * te ≤ 2 * s.time.c → queuesOfShaper s k = [] →
      ∃ t, exec .wheelFineAdvance s = .next t ∧ t = { s with tm := t.tm, evt := t.evt } ∧ (shaperOf t k).wheel = none ∧ t.tm.finePos = pos)) ∧
  (let pos := (s.tm.coarsePos + 1) % 4096;
    ((∀ e ∈ s.tm.shapers, e.2.wheel.isSome = true → e.2.coarse = true → e.2.bucket ≠ pos) →
      exec .wheelCoarseAdvance s = .next { s with tm := { s.tm with coarsePos := pos } }) ∧
    (∀ k x te, s.tm.shapers = [(k, x)] → x.wheel = some te → x.coarse = true → x.bucket = pos → te < 2 * s.time.c / 1000 + 4096 →
      ∃ t, exec .wheelCoarseAdvance s = .next t ∧ t = { s with tm := t.tm } ∧ (shaperOf t k).coarse = false ∧ t.tm.coarsePos = pos))

/-- The data rings and the ports (R134, R495, R501-R504): a doorbell moves TAIL, or sets FETCH_ERROR where it is beyond the ring; a frame goes to the host in
posted buffers, or stays with NO_BUFFER set; an entry from the host enters its queue, or is finished with its status and counted as a drop; a
port sends the frame that TM chooses.
Where the rules leave a choice it follows log entries 22 and 43. -/
def Obligations.DataRingsAndPorts : Prop := ∀ (s : State),
  (∀ r v, r ≤ 31 → pfFrozen s 0 = false → 2 ^ (thOf s r).log2 ≤ v % 4096 → exec (.thDoorbellWrite r v) s =
    .next (raise 0x010 { s with pcie := { s.pcie with th := tput s.pcie.th r { thOf s r with fetchError := true } } })) ∧
  (∀ r v, r ≤ 31 → pfFrozen s 0 = false → v % 4096 < 2 ^ (thOf s r).log2 → ∃ t, exec (.thDoorbellWrite r v) s = .next t ∧
    t = { s with pcie := t.pcie, evt := t.evt } ∧ (thOf t r).tail = v % 4096 ∧ (thOf t r).head = (thOf s r).head ∧ ∀ q, q ≠ r → thOf t q = thOf s q) ∧
  (∀ r v, r ≤ 31 → pfFrozen s 0 = false → 2 ^ (fhOf s r).log2 ≤ v % 4096 → exec (.fhDoorbellWrite r v) s =
    .next (raise 0x010 { s with pcie := { s.pcie with fh := tput s.pcie.fh r { fhOf s r with fetchError := true } } })) ∧
  (∀ r v, r ≤ 31 → pfFrozen s 0 = false → v % 4096 < 2 ^ (fhOf s r).log2 → ∃ t, exec (.fhDoorbellWrite r v) s = .next t ∧
    t = { s with pcie := t.pcie, evt := t.evt } ∧ (fhOf t r).tail = v % 4096 ∧ (fhOf t r).head = (fhOf s r).head ∧ ∀ q, q ≠ r → fhOf t q = fhOf s q) ∧
  (∀ r f rest, r ≤ 31 → (thOf s r).enable = true → s.pcie.up = true → dmaFrozen s r = false → s.pcie.reports = (r, f) :: rest →
    let x := thOf s r
    (∀ bufs, ringPosted x = 0 → ∃ t, exec (.thFrameDeliver r bufs) s = .next t ∧ t = { s with pcie := t.pcie, evt := t.evt } ∧
      t.pcie.reports = s.pcie.reports ∧ (thOf t r).noBuffer = true ∧ (thOf t r).head = x.head ∧
      (s.pcie.noBufSec = some (rawSec s) → t.evt = s.evt) ∧ (s.pcie.noBufSec ≠ some (rawSec s) → t.evt.cause = causeAfter 0x142 s)) ∧
    (∀ b : HostBuf, 1 ≤ ringPosted x → f.data.length ≤ b.len →
      let e := thEntry f f.cls f.data.length true true x.phase
      let a := x.base + 64 * x.head
      ∃ t, exec (.thFrameDeliver r [b]) s = .next t ∧ t = { s with pcie := t.pcie, evt := t.evt, hostMem := t.hostMem } ∧
        t.hostMem = memWrite (memWrite (memWrite (memWrite s.hostMem b.addr f.data) (a + 12) e.1) (a + 16) e.2.2) (a + 15) (le 1 e.2.1) ∧
        t.pcie.reports = rest ∧ (thOf t r).noBuffer = false ∧ (thOf t r).head = (if x.head + 1 = 2 ^ x.log2 then 0 else x.head + 1) ∧
        (thOf t r).unread = x.unread + 1)) ∧
  (∀ r (e : FhEntry), r ≤ 31 → (fhOf s r).enable = true → s.pcie.up = true → dmaFrozen s r = false → ringPosted (fhOf s r) ≠ 0 →
    let x := fhOf s r
    let q := queueOf s e.queue
    let air := isAirQueue s e.queue
    let ends := fun st (t : State) => t.hostMem = memWrite s.hostMem (x.base + 64 * x.head + 32) (le 2 st ++ le 1 (b2n x.phase)) ∧
      (fhOf t r).head = (if x.head + 1 = 2 ^ x.log2 then 0 else x.head + 1) ∧ t.hif = s.hif ∧ t.sec = s.sec
    (fhBad s e = true → ∃ t, exec (.fhEntryFetch r e) s = .next t ∧ ends stBadParam t ∧ (fhOf t r).drops = min (x.drops + 1) 0xFFFFFFFF ∧ t.tm = s.tm) ∧
    (fhBad s e = false → e.secLevel = 0 → cellsFor e.frame.length + s.tm.reserve ≤ freeCells s → queueBytes q + e.frame.length ≤ q.maxBytes →
      q.frames.length < q.maxFrames →
      (q.port = 6 → (q.frames.filter (fun f => decide (f.neighbour = (if air = true then e.neighbour else 0xFFFF)))).length < q.nbCap) →
      ∃ t, exec (.fhEntryFetch r e) s = .next t ∧ ends stOk t ∧ (fhOf t r).drops = x.drops ∧
        (queueOf t e.queue).frames.length = q.frames.length + 1 ∧ ∃ y ∈ (queueOf t e.queue).frames, y.data = e.frame ∧ y.cls = e.cls)) ∧
  (∀ p, p = 5 ∨ p = 6 ∨ 7 < p → exec (.portServe p) s = .next s) ∧
  (∀ q f, s.upd.fw.intakePort = 0 → (nextFrame 7 (fun _ => false) s).2 = some (q, f) → ∃ t, exec (.portServe 7) s = .next t ∧
    t.tm.fwRx = s.tm.fwRx ++ [f.frame] ∧ t.upd.fw = s.upd.fw ∧ t.hif = s.hif ∧ t.sec = s.sec) ∧
  (∀ e q f, e < 2 → (ethOf s e).mode ≠ 0 → (ethOf s e).link = true → (ethOf s e).held = false → gated s = false → tfind s.tm.pauseNs e = none →
    (ethOf s e).macsec = false → (nextFrame e (fun _ => false) s).2 = some (q, f) → ∃ t, exec (.portServe e) s = .next t ∧
      (ethOf t e).out = (ethOf s e).out ++ [{ f.frame with data := Config.ethHeader f.data ++ f.data }] ∧
      tget 0 (ethOf t e).cnt 1 = min (tget 0 (ethOf s e).cnt 1 + 1) 0xFFFFFFFF ∧ t.sec = s.sec)

/-! TBL. -/

/-- The node and prefix tables and their settings (R311, R316, R322-R325, R329, R337-R340). An insert takes a free way of its key, replaces or refuses
a present key with ST_DUPLICATE; a static node goes by force only; a prefix is found, replaced or refused likewise; a lookup answers one byte
0 where nothing is found.
Where the rules leave a choice it follows log entries 13 and 37. -/
def Obligations.NodeAndPrefixTables : Prop := ∀ (h : Hdr) (s : State),
  (∀ p : TblNodeInsertP, Ready h (.tblNodeInsert p) s →
    let refused := fun st => exec (.tblNodeInsert h p) s = .next { s with hif := answered h (.tblNodeInsert p) st 0 [] s }
    let ok := keyOk p.kind p.panId p.addr = true ∧ p.flags < 16 ∧ p.nextHop ≤ 0x7FFF
    let was := findNode s p.kind p.panId p.addr
    let placed := fun w => ∃ t, exec (.tblNodeInsert h p) s = .next t ∧
      t = { s with hif := answered h (.tblNodeInsert p) stOk 0 (le 4 w ++ le 2 0) s, tbl := t.tbl, evt := t.evt } ∧
      findNode t p.kind p.panId p.addr = some (w, newNode p s) ∧ t.tbl.nodes = tput s.tbl.nodes w (newNode p s)
    (¬ ok → refused stBadParam) ∧
    (ok → was.isSome = true → p.flags.testBit 3 = false → refused stDuplicate) ∧
    (∀ w e, ok → was = some (w, e) → p.flags.testBit 3 = true → placed w) ∧
    (∀ w, ok → was = none → (waysOf s p.panId p.addr).find? (fun w => (tfind s.tbl.nodes w).isNone) = some w → placed w)) ∧
  (∀ p : TblNodeDeleteP, Ready h (.tblNodeDelete p) s →
    let answer := fun st data => exec (.tblNodeDelete h p) s = .next { s with hif := answered h (.tblNodeDelete p) st 0 data s }
    let ok := keyOk p.kind p.panId p.addr = true ∧ p.force ≤ 1
    (¬ ok → answer stBadParam []) ∧
    (ok → findNode s p.kind p.panId p.addr = none → answer stOk [0]) ∧
    (∀ w e, ok → findNode s p.kind p.panId p.addr = some (w, e) →
      (e.static = true → p.force = 0 → answer stBusy []) ∧
      (e.static = false ∨ p.force = 1 → exec (.tblNodeDelete h p) s = .next { s with
        hif := answered h (.tblNodeDelete p) stOk 0 [1] s, tbl := { s.tbl with nodes := tdel s.tbl.nodes w } }))) ∧
  (∀ p : TblPrefixAddP, Ready h (.tblPrefixAdd p) s →
    let refused := fun st => exec (.tblPrefixAdd h p) s = .next { s with hif := answered h (.tblPrefixAdd p) st 0 [] s }
    let ok := p.plen ≤ 64 ∧ lead p.pfx p.plen = p.pfx ∧ p.action ≤ 3 ∧ p.port ≤ 7 ∧ p.replace ≤ 1
    let same := fun (q : PrefixE) => decide (q.pfx = p.pfx) && decide (q.plen = p.plen)
    let e : PrefixE := { pfx := p.pfx, plen := p.plen, action := p.action, port := p.port, panId := p.panId, tmProfile := p.tmProfile }
    (¬ ok → refused stBadParam) ∧
    (∀ q, ok → s.tbl.prefixes.find? same = some q → p.replace = 0 → refused stDuplicate) ∧
    (∀ q, ok → s.tbl.prefixes.find? same = some q → p.replace = 1 → ∃ t, exec (.tblPrefixAdd h p) s = .next t ∧
      t = { s with hif := answered h (.tblPrefixAdd p) stOk 0 (le 2 q.result ++ zeros 6) s, tbl := t.tbl, evt := t.evt } ∧
      t.tbl.prefixes.find? same = some { e with result := q.result }) ∧
    (ok → s.tbl.prefixes.find? same = none → 65536 ≤ s.tbl.prefixes.length → refused stNoRoom) ∧
    (ok → s.tbl.prefixes.find? same = none → s.tbl.prefixes.length < 65536 →
      (∀ r, (poolUse (s.tbl.prefixes ++ [{ e with result := r }])).all (fun n => decide (n ≤ 896)) = true) →
      ∃ t r data, exec (.tblPrefixAdd h p) s = .next t ∧
        t = { s with free := s.free + 1, hif := answered h (.tblPrefixAdd p) stOk 0 data s, tbl := t.tbl, evt := t.evt } ∧
        t.tbl.prefixes = s.tbl.prefixes ++ [{ e with result := r }] ∧ ∀ q ∈ s.tbl.prefixes, q.result ≠ r)) ∧
  (∀ p : TblPrefixDelP, Ready h (.tblPrefixDel p) s →
    let keep := s.tbl.prefixes.filter (fun q => !(decide (q.pfx = p.pfx) && decide (q.plen = p.plen)))
    (64 < p.plen → exec (.tblPrefixDel h p) s = .next { s with hif := answered h (.tblPrefixDel p) stBadParam 0 [] s }) ∧
    (p.plen ≤ 64 → keep = s.tbl.prefixes → exec (.tblPrefixDel h p) s = .next { s with hif := answered h (.tblPrefixDel p) stOk 0 [0] s }) ∧
    (p.plen ≤ 64 → keep ≠ s.tbl.prefixes → ∃ t, exec (.tblPrefixDel h p) s = .next t ∧
      t = { s with hif := answered h (.tblPrefixDel p) stOk 0 [1] s, tbl := t.tbl, evt := t.evt } ∧ t.tbl.prefixes = keep)) ∧
  (∀ p : TblLookupP, Ready h (.tblLookup p) s →
    let zero := exec (.tblLookup h p) s = .next { s with hif := answered h (.tblLookup p) stOk 0 [0] s }
    (1 < p.setHit → exec (.tblLookup h p) s = .next { s with hif := answered h (.tblLookup p) stBadParam 0 [] s }) ∧
    (p.setHit ≤ 1 → h.flow = 0 → keyOk p.kind p.panId p.addr = true → findNode s p.kind p.panId p.addr = none → zero) ∧
    (∀ w e, p.setHit = 0 → h.flow = 0 → keyOk p.kind p.panId p.addr = true → findNode s p.kind p.panId p.addr = some (w, e) → e.bad = false →
      p.bufferAddr = 0 → ∃ t, exec (.tblLookup h p) s = .next t ∧
        t.hif = answered h (.tblLookup p) stOk 0 ([1] ++ le 1 (nodeFlags e) ++ le 2 e.nextHop ++ le 4 w ++ le 4 e.learnTime ++ le 2 e.tmProfile) s ∧
        t.hostMem = s.hostMem ∧ tfind t.tbl.nodes w = some e ∧ t.evt = s.evt) ∧
    (p.setHit ≤ 1 → h.flow = 1 → longest s p.addr = none → zero) ∧
    (p.setHit ≤ 1 → 0x8000 ≤ h.flow → (nbrOf s (h.flow - 0x8000)).valid = false → zero)) ∧
  (∀ p : TblStatusP, Ready h (.tblStatus p) s →
    let data := le 4 (nodeCount s) ++ le 2 (nbrCount s) ++ le 4 s.tbl.prefixes.length ++ le 2 (pinCount s) ++ le 2 s.tbl.locks.length ++
      le 2 (learnUnread s)
    (1 < p.clear → exec (.tblStatus h p) s = .next { s with hif := answered h (.tblStatus p) stBadParam 0 [] s }) ∧
    (p.clear ≤ 1 → exec (.tblStatus h p) s = .next { s with
      hif := answered h (.tblStatus p) stOk 0 data s,
      hostMem := if p.bufferAddr = 0 then s.hostMem else memWrite s.hostMem p.bufferAddr ((List.range 13).flatMap (fun i => le 4 (tget 0 s.tbl.cnt i))),
      tbl := if p.clear = 1 then { s.tbl with cnt := [] } else s.tbl })) ∧
  (∀ p : TblAgingCfgP, Ready h (.tblAgingCfg p) s →
    let ok := p.table ≤ 1 ∧ (p.periodS = 0 ∨ (60 ≤ p.periodS ∧ p.periodS ≤ 86400))
    (¬ ok → exec (.tblAgingCfg h p) s = .next { s with hif := answered h (.tblAgingCfg p) stBadParam 0 [] s }) ∧
    (ok → exec (.tblAgingCfg h p) s = .next { s with
      hif := answered h (.tblAgingCfg p) stOk 0 [] s,
      tbl := if p.table = 0 then { s.tbl with ageNode := p.periodS } else { s.tbl with ageNbr := p.periodS } })) ∧
  (∀ p : TblEvictPolicyP, Ready h (.tblEvictPolicy p) s →
    let ok := p.policy ≤ 2 ∧ 16 ≤ p.maxKicks ∧ p.maxKicks ≤ 1024
    (¬ ok → exec (.tblEvictPolicy h p) s = .next { s with hif := answered h (.tblEvictPolicy p) stBadParam 0 [] s }) ∧
    (ok → exec (.tblEvictPolicy h p) s = .next { s with
      hif := answered h (.tblEvictPolicy p) stOk 0 [] s, tbl := { s.tbl with evictPolicy := p.policy, maxKicks := p.maxKicks } })) ∧
  (∀ p : TblCfgP, Ready h (.tblCfg p) s →
    let moved := p.learnBase ≠ s.tbl.learnBase ∨ p.learnLog2 ≠ s.tbl.learnLog2
    let busy := (p.hashSeed ≠ s.tbl.hashSeed ∧ nodeCount s ≠ 0) ∨ (moved ∧ s.tbl.learnEnable = true)
    (tblCfgOk p = false → exec (.tblCfg h p) s = .next { s with hif := answered h (.tblCfg p) stBadParam 0 [] s }) ∧
    (tblCfgOk p = true → busy → exec (.tblCfg h p) s = .next { s with hif := answered h (.tblCfg p) stBusy 0 [] s }) ∧
    (tblCfgOk p = true → ¬ busy → ∃ t, exec (.tblCfg h p) s = .next t ∧
      t = { s with hif := answered h (.tblCfg p) stOk 0 [] s, tbl := { s.tbl with
        hashSeed := p.hashSeed, airPanId := p.airPanId, nearPct := p.nearPct, unknownRing := p.unknownRing, learnEnable := decide (p.learnEnable = 1),
        learnBase := p.learnBase, learnLog2 := p.learnLog2, windowMs := p.windowMs, holdoffMs := p.holdoffMs, peerPorts := p.peerPorts,
        learnHead := t.tbl.learnHead, learnTail := t.tbl.learnTail, learnPhase := t.tbl.learnPhase } } ∧
      (moved → t.tbl.learnHead = 0 ∧ t.tbl.learnTail = 0 ∧ t.tbl.learnPhase = true) ∧
      (¬ moved → t.tbl.learnHead = s.tbl.learnHead ∧ t.tbl.learnTail = s.tbl.learnTail ∧ t.tbl.learnPhase = s.tbl.learnPhase)))

/-- Neighbours, learning and aging (R318-R321, R328, R331-R334, R336, R337): an EUI-64 or a short address belongs to one index (ST_DUPLICATE), a dead key slot is
ST_KEY_GONE, and a replay window starts afresh with another slot; a learn lock ends in a holdover, then is freed; an entry that is not static ages
by its HIT and MARK bits in turn.
Where the rules leave a choice it follows log entry 37. -/
def Obligations.NeighboursLearningAging : Prop := ∀ (h : Hdr) (s : State),
  (∀ p : TblNeighbourSetP, Ready h (.tblNeighbourSet p) s →
    let n := h.flow - 0x8000
    let e := nbrOf s n
    let k := slotOf s p.keySlot
    let refused := fun st => exec (.tblNeighbourSet h p) s = .next { s with hif := answered h (.tblNeighbourSet p) st 0 [] s }
    let ok := p.op = 0 ∧ p.flags < 64 ∧ p.keySlot ≤ 0xFFF
    let mine := ok ∧ (e.valid = true → p.flags.testBit 4 = true) ∧ nbrTaken s n p.eui64 p.short p.panId = false
    (1 < p.op ∨ 64 ≤ p.flags ∨ 0xFFF < p.keySlot → refused stBadParam) ∧
    (ok → e.valid = true → p.flags.testBit 4 = false → refused stDuplicate) ∧
    (ok → nbrTaken s n p.eui64 p.short p.panId = true → refused stDuplicate) ∧
    (mine → k.state = 0 ∨ k.state = 4 → refused stKeyGone) ∧
    (mine → k.state ≠ 0 → k.state ≠ 4 → p.flags.testBit 1 = true → pinRoom s n = false → refused stNoRoom) ∧
    (mine → k.state ≠ 0 → k.state ≠ 4 → p.flags.testBit 1 = false ∨ pinRoom s n = true → ∃ t, exec (.tblNeighbourSet h p) s = .next t ∧
      t = { s with
        hif := answered h (.tblNeighbourSet p) stOk 0 (le 4 e.rxH ++ le 2 e.keyGen) s, tbl := { s.tbl with nbrs := tput s.tbl.nbrs n (nbrOf t n) } } ∧
      let x := nbrOf t n
      x.valid = true ∧ x.eui64 = p.eui64 ∧ x.short = p.short ∧ x.panId = p.panId ∧ x.keySlot = p.keySlot ∧ x.static = bit p.flags 0 ∧
      x.pin = bit p.flags 1 ∧ x.zao = bit p.flags 2 ∧ x.dstShort = bit p.flags 3 ∧
      (e.valid = false ∨ e.keySlot ≠ p.keySlot → x.keyGen = k.gen ∧ x.rxH = p.rxHStart ∧ x.rxMap = 0) ∧
      (e.valid = true → e.keySlot = p.keySlot → x.keyGen = e.keyGen ∧ x.rxH = e.rxH ∧ x.rxMap = e.rxMap) ∧
      (p.flags.testBit 5 = true → x.upMap = [] ∧ x.downMap = [] ∧ x.be = 0 ∧ x.backoff = 0))) ∧
  (∀ p : TblNeighbourSetP, Ready h (.tblNeighbourSet p) s → p.op = 1 → p.flags < 64 → p.keySlot ≤ 0xFFF → ∃ t, exec (.tblNeighbourSet h p) s = .next t ∧
    ((nbrOf s (h.flow - 0x8000)).valid = true → nbrOf t (h.flow - 0x8000) = {}) ∧ ∀ m, m ≠ h.flow - 0x8000 → nbrOf t m = nbrOf s m) ∧
  (∀ kind pan addr, (∀ l ∈ s.tbl.locks, isLock kind pan addr l = true → l.holdoff = true ∨ 2 * s.time.c < l.dueNs) →
    exec (.learnWindowExpiry kind pan addr) s = .next s) ∧
  (∀ kind pan addr l, s.tbl.locks = [l] → isLock kind pan addr l = true → l.holdoff = false → l.dueNs ≤ 2 * s.time.c → ∃ t,
    exec (.learnWindowExpiry kind pan addr) s = .next t ∧
    t.tbl.locks = [{ l with holdoff := true, dueNs := 2 * s.time.c + s.tbl.holdoffMs * 1000000 }] ∧
    (s.tbl.learnEnable = true → learnFull s = false → tget 0 t.tbl.cnt 7 = min (tget 0 s.tbl.cnt 7 + 1) 0xFFFFFFFF ∧
      t.evt.cause = causeAfter 0xC1 s) ∧
    (s.tbl.learnEnable = true → learnFull s = true → t.hostMem = s.hostMem ∧ tget 0 t.tbl.cnt 9 = min (tget 0 s.tbl.cnt 9 + 1) 0xFFFFFFFF ∧
      t.evt.cause = causeAfter 0xC2 s)) ∧
  (∀ kind pan addr, exec (.learnHoldoffExpiry kind pan addr) s = .next { s with tbl := { s.tbl with
    locks := s.tbl.locks.filter (fun x => !(isLock kind pan addr x && x.holdoff && decide (x.dueNs ≤ 2 * s.time.c))) } }) ∧
  (∀ v, pfFrozen s 0 = false →
    (v % 65536 < 2 ^ s.tbl.learnLog2 → exec (.learnHeadWrite v) s = .next { s with tbl := { s.tbl with learnHead := v % 65536 } }) ∧
    (2 ^ s.tbl.learnLog2 ≤ v % 65536 → exec (.learnHeadWrite v) s = .next s)) ∧
  (∀ i e hit, tfind s.tbl.nodes i = some e →
    (s.tbl.ageNode = 0 ∨ e.static = true → exec (.agingSweepVisit 0 i hit) s = .next s) ∧
    (s.tbl.ageNode ≠ 0 → e.static = false → ∃ t, exec (.agingSweepVisit 0 i hit) s = .next t ∧
      (e.hit = true → tfind t.tbl.nodes i = some { e with hit := false, mark := false }) ∧
      (e.hit = false → e.mark = false → tfind t.tbl.nodes i = some { e with mark := true }) ∧
      (e.hit = false → e.mark = true → hit = true → tfind t.tbl.nodes i = some { e with hit := true }) ∧
      (e.hit = false → e.mark = true → hit = false → tfind t.tbl.nodes i = none ∧ tget 0 t.tbl.cnt 10 = min (tget 0 s.tbl.cnt 10 + 1) 0xFFFFFFFF))) ∧
  (∀ i e, tfind s.tbl.nodes i = some e → ∃ t, exec (.tblParityRepair 0 i) s = .next t ∧ tfind t.tbl.nodes i = none ∧
    (e.bad = true → tget 0 t.tbl.cnt 6 = tget 0 s.tbl.cnt 6) ∧ (e.bad = false → tget 0 t.tbl.cnt 6 = min (tget 0 s.tbl.cnt 6 + 1) 0xFFFFFFFF)) ∧
  (∀ p f, s.lane.fabric.find? (fun x => decide (x.1 = p)) = none → exec (.airRecordProcess p f) s = .next s) ∧
  (∀ p f id r, s.lane.fabric.find? (fun x => decide (x.1 = p)) = some (p, id, r) → f.isAck = true → exec (.airRecordProcess p f) s = .next { s with
    lane := { s.lane with fabric := s.lane.fabric.eraseP (fun x => decide (x.1 = p)) },
    slot := { s.slot with acks := s.slot.acks.filter (fun j => decide (j.buffer ≠ r.buffer)) },
    tm := { s.tm with bufs := s.tm.bufs.filter (fun b => decide (b.id ≠ id)) } })


/-! KEY, CRY and CHK. -/

/-- Where a key comes from and where it goes (R370-R382, R396). A key given in the clear, from a record or by derivation makes the next generation of its
slot; a successor is staged and waits for its commit, which waits in turn while a retiring generation holds references; an erased or invalidated slot
that nothing holds is EMPTY and keeps GEN. What ends a key's references and waits (R365, R379-R381, R385, R392): the last reference of an ERASING slot
empties it; 20 us after an erase what holds it aborts, and after a commit the waiting generation is made; an overlap ends at its time; the identity
and a spare array come once.
Where the rules leave a choice it follows log entries 3, 11 and 38. -/
def Obligations.KeyStore : Prop :=
  (∀ (h : Hdr) (s : State),
  let n := h.flow
  let k := slotOf s n
  let noChild := ∀ e ∈ s.sec.slots, e.2.mat.parent.map Prod.fst ≠ some n
  let usageOk := fun (a : KeyAttr) => a.usageStart < a.usageLimit ∧ a.warnMargin < a.usageLimit
  (∀ p : KeyImportP, Ready h (.keyImport p) s →
    let a := p.attr
    let refused := fun st => exec (.keyImport h p) s = .next { s with hif := answered h (.keyImport p) st 0 [] s }
    let makes := fun (key : List Byte) (ktype engines : Nat) (rec : Option Nat) => ∃ t, exec (.keyImport h p) s = .next t ∧
      (let x := slotOf t n;
      t = { s with
        free := s.free + 1, sec := t.sec, twin := t.twin, evt := t.evt,
        hif := answered h (.keyImport p) stOk 0 (le 2 x.gen ++ le 4 (keyCheck x.mat) ++ le 4 (rec.getD 0xFFFFFFFF)) s } ∧
      x.gen = nextGen k.gen ∧ x.mat.key = key ∧ x.mat.ktype = ktype ∧ x.mat.engines = engines ∧ x.mat.record = rec ∧
      x.mat.usageLimit = a.usageLimit ∧ x.mat.usageCount = a.usageStart ∧ x.staged = none ∧ x.refs = 0 ∧ (noChild → x.state = 1) ∧
      ∀ m, (slotOf t m).refs = if m = n then 0 else (slotOf s m).refs)
    let ok := hostSlot n = true ∧ p.replace ≤ 1 ∧ p.store = 0xFFFFFFFF ∧ (k.state = 0 ∨ p.replace = 1) ∧ k.state ≠ 4
    let free := k.retiring = none ∨ k.oldRefs = 0
    (2 < p.src ∨ hostSlot n = false ∨ 1 < p.replace → refused stBadParam) ∧
    (p.src ≤ 2 → hostSlot n = true → p.replace = 0 → p.store = 0xFFFFFFFF → n ≠ 3 → k.state ≠ 0 → refused stDuplicate) ∧
    (ok → p.src = 0 → s.sec.plainLocked = true → refused stKeyDenied) ∧
    (ok → free → p.src = 0 → s.sec.plainLocked = false → p.key.length = keyLen a.ktype → a.nonceMode ≤ 1 → usageOk a →
      slotTakes n { ktype := a.ktype, engines := a.engines, nonceMode := a.nonceMode } = true → makes p.key a.ktype a.engines none) ∧
    (∀ m, ok → free → n ≠ 3 → p.src = 1 → p.record < 262144 → usageOk a → recordOf s p.record ≠ zeros 64 →
      unwrapKey (recordKey s) p.record (recordOf s p.record) = some m → slotTakes n m = true → makes m.key m.ktype m.engines (some p.record)) ∧
    (ok → n ≠ 3 → p.src = 1 → p.record < 262144 → usageOk a → recordOf s p.record = zeros 64 → refused stKeyGone)) ∧
  (∀ p : KeyDeriveP, Ready h (.keyDerive p) s →
    let a := p.attr
    let q := slotOf s p.parent
    hostSlot n = true → n ≠ 3 → n ≠ p.parent → p.replace ≤ 1 → p.store = 0xFFFFFFFF → k.state = 0 ∨ p.replace = 1 → k.state ≠ 4 →
    k.retiring = none ∨ k.oldRefs = 0 →
    (q.mat.engines.testBit 4 = false → ∃ t, exec (.keyDerive h p) s = .next t ∧
      t.hif = answered h (.keyDerive p) stKeyDenied 0 [] s ∧ t.sec.slots = s.sec.slots) ∧
    (q.mat.engines.testBit 4 = true → q.state = 1 → q.mat.depth ≠ 3 → a.nonceMode ≤ 1 → usageOk a → p.label.length ≠ 0 → p.label.length ≤ 16 →
      p.context.length ≤ 32 → slotTakes n { ktype := a.ktype, engines := a.engines, nonceMode := a.nonceMode } = true →
      q.mat.usageCount < q.mat.usageLimit → ∃ t, exec (.keyDerive h p) s = .next t ∧
        (let x := slotOf t n;
        t.hif = answered h (.keyDerive p) stOk 0 (le 2 x.gen ++ le 4 (keyCheck x.mat) ++ le 4 0xFFFFFFFF) s ∧
        x.gen = nextGen k.gen ∧ x.mat.key = kdf q.mat.key p.label p.context (keyLen a.ktype) ∧ x.mat.parent = some (p.parent, q.gen) ∧
        x.mat.depth = q.mat.depth + 1 ∧ (slotOf t p.parent).mat.usageCount = q.mat.usageCount + 1 ∧ (noChild → x.state = 1) ∧
        t.hostMem = s.hostMem ∧ t.flash = s.flash))) ∧
  (∀ p : KeyStageP, Ready h (.keyStage p) s →
    let a := p.attr
    let m : KeyMat := {
      ktype := a.ktype, engines := a.engines, nonceMode := a.nonceMode, key := p.key, usageLimit := a.usageLimit, usageCount := a.usageStart,
      warnMargin := a.warnMargin }
    let refused := fun st => exec (.keyStage h p) s = .next { s with hif := answered h (.keyStage p) st 0 [] s }
    let ok := hostSlot n = true ∧ p.replace ≤ 1 ∧ p.src = 0 ∧ p.kcvPresent ≤ 1 ∧ p.rxOverlapMs ≤ 60000 ∧ p.store = 0xFFFFFFFF
    let room := (k.staged.isSome = true ∧ p.replace = 1) ∨ (k.staged = none ∧ stagedCount s < 512)
    let given := s.sec.plainLocked = false ∧ p.key.length = keyLen a.ktype ∧ a.nonceMode ≤ 1 ∧ usageOk a ∧ slotTakes n m = true
    (hostSlot n = false ∨ 1 < p.replace ∨ 3 < p.src ∨ 60000 < p.rxOverlapMs → refused stBadParam) ∧
    (ok → k.staged.isSome = true → p.replace = 0 → refused stBusy) ∧
    (ok → k.staged = none → 512 ≤ stagedCount s → refused stNoRoom) ∧
    (ok → room → k.state = 0 ∨ k.state = 4 → refused stKeyGone) ∧
    (ok → room → k.state ≠ 0 → k.state ≠ 4 → given → p.kcvPresent = 1 → keyCheck m ≠ p.kcv → refused stCheckFail) ∧
    (ok → room → k.state ≠ 0 → k.state ≠ 4 → given → p.kcvPresent = 0 ∨ keyCheck m = p.kcv → exec (.keyStage h p) s = .next { s with
      hif := answered h (.keyStage p) stOk 0 (le 1 p.kcvPresent) s,
      sec := { s.sec with slots := tput s.sec.slots n { k with staged := some {
        mat := m, kcv := if p.kcvPresent = 1 then some p.kcv else none, verified := decide (p.kcvPresent = 1), overlapMs := p.rxOverlapMs } } } })) ∧
  (∀ p : KeyCommitP, Ready h (.keyCommit p) s →
    let refused := fun st => exec (.keyCommit h p) s = .next { s with hif := answered h (.keyCommit p) st 0 [] s }
    (hostSlot n = false ∨ k.staged = none → refused stBadParam) ∧
    (∀ x, hostSlot n = true → k.staged = some x → x.verified = false → keyCheck x.mat ≠ p.kcv → refused stCheckFail) ∧
    (∀ x, hostSlot n = true → k.staged = some x → x.verified = true ∨ keyCheck x.mat = p.kcv →
      (k.retiring.isSome = true → k.oldRefs ≠ 0 → ∃ t, exec (.keyCommit h p) s = .next t ∧ t = { s with hif := t.hif, sec := t.sec } ∧
        slotOf t n = { k with waitNext := some { mat := x.mat, overlapMs := x.overlapMs }, waiter := some (h.qp, h.tag) } ∧
        ∀ f ∈ t.hif.flights, f.hdr = h → f.qp = h.qp → f.waiting = true) ∧
      (k.retiring = none ∨ k.oldRefs = 0 → ∃ t, exec (.keyCommit h p) s = .next t ∧
        t.hif = answered h (.keyCommit p) stOk 0 (le 2 (nextGen k.gen)) s ∧ (slotOf t n).gen = nextGen k.gen ∧
        (slotOf t n).mat.key = x.mat.key ∧ (slotOf t n).staged = none ∧ (noChild → x.mat.parent.map Prod.fst ≠ some n → (slotOf t n).state = 1) ∧
        t.hostMem = s.hostMem ∧ t.flash = s.flash))) ∧
  (∀ p : KeyEraseP, Ready h (.keyErase p) s →
    let mine := ∀ e ∈ s.sec.slots, e.2.waiter ≠ some (h.qp, h.tag)
    (n ≠ 0xF000 → hostSlot n = false → exec (.keyErase h p) s = .next { s with hif := answered h (.keyErase p) stBadParam 0 [] s }) ∧
    (hostSlot n = true → mine → k.state ≠ 0 → k.state ≠ 4 → k.refs = 0 → k.oldRefs = 0 → ∃ t, exec (.keyErase h p) s = .next t ∧
      t.hif = answered h (.keyErase p) stOk 0 (le 2 0) s ∧ (slotOf t n).state = 0 ∧ (slotOf t n).gen = k.gen ∧ (slotOf t n).mat = {} ∧
      t.flash = s.flash ∧ ∀ m, m ≠ n → (slotOf t m).mat = (slotOf s m).mat) ∧
    (hostSlot n = true → mine → noChild → k.state ≠ 0 → k.state ≠ 4 → k.refs ≠ 0 ∨ k.oldRefs ≠ 0 → ∃ t, exec (.keyErase h p) s = .next t ∧
      t.hif = awaiting h (.keyErase p) s ∧ (slotOf t n).state = 4 ∧ (slotOf t n).erasing = true ∧ (slotOf t n).refs = k.refs) ∧
    (n = 0xF000 → mine → (∀ e ∈ s.sec.slots, e.2.refs = 0 ∧ e.2.oldRefs = 0 ∧ (e.2.waiter = none ∨ e.2.state ≠ 4)) →
      ∃ t, exec (.keyErase h p) s = .next t ∧ t.hif = answered h (.keyErase p) stOk 0 (le 2 0) s ∧
        ∀ m, hostSlot m = true → (slotOf t m).state = 0)) ∧
  (∀ p : KeyInvalidateP, Ready h (.keyInvalidate p) s →
    let refused := fun st => exec (.keyInvalidate h p) s = .next { s with hif := answered h (.keyInvalidate p) st 0 [] s }
    let host := 0x10 ≤ n ∧ n < 0x1000
    (n = 0xF000 → p.engines = 0 → refused stBadParam) ∧
    (n ≠ 0xF000 → ¬ host → refused stBadParam) ∧
    (host → k.state = 0 ∨ k.state = 4 → refused stKeyGone) ∧
    (host → k.state ≠ 0 → k.state ≠ 4 → noChild → ∃ t, exec (.keyInvalidate h p) s = .next t ∧
      t.hif = answered h (.keyInvalidate p) stOk 0 (le 2 1 ++ le 2 0) s ∧ (slotOf t n).gen = k.gen ∧
      (slotOf t n).state = (if k.refs = 0 ∧ k.oldRefs = 0 then 0 else 4) ∧ ∀ m, m ≠ n → slotOf t m = slotOf s m)) ∧
  (∀ p : KeyInfoP, Ready h (.keyInfo p) s →
    (n ≠ 0xF000 → exec (.keyInfo h p) s = .next { s with
      hif := answered h (.keyInfo p) stOk 0 (((descWords k).flatMap (le 4)).take 24) s,
      hostMem := if p.bufferAddr = 0 then s.hostMem else memWrite s.hostMem p.bufferAddr ((descWords k).flatMap (le 4)) }) ∧
    (n = 0xF000 → exec (.keyInfo h p) s = .next { s with
      hif := answered h (.keyInfo p) stOk 0
        (le 4 (secStatusWord s) ++ le 4 (secSlotsWord s) ++ le 4 (secSlots2Word s) ++ (List.range 3).flatMap (fun i => le 4 (tget 0 s.sec.cnt i))) s,
      hostMem := if p.bufferAddr = 0 then s.hostMem else
        memWrite s.hostMem p.bufferAddr ((List.range 4096).map (fun m => BitVec.ofNat 8 (nth 0 (descWords (slotOf s m)) 0))) })) ∧
  (∀ p : KeyAttestP, Ready h (.keyAttest p) s →
    let ok := p.nonce.length = 32 ∧ p.slotCount ≤ 4096 ∧ p.slotFirst + p.slotCount ≤ 4096
    let refused := fun st => exec (.keyAttest h p) s = .next { s with hif := answered h (.keyAttest p) st 0 [] s }
    (¬ ok → refused stBadParam) ∧
    (ok → s.flash.identity = false → refused stBusy) ∧
    (ok → s.flash.identity = true → ∃ sig, exec (.keyAttest h p) s = .next { s with
      free := s.free + 1, hif := answered h (.keyAttest p) stOk 0 (le 2 640) s,
      hostMem := if p.bufferAddr = 0 then s.hostMem else memWrite s.hostMem p.bufferAddr (attestBody p s ++ sig) })) ∧
  (∀ p : KeyStoreCfgP, Ready h (.keyStoreCfg p) s →
    let refused := fun st => exec (.keyStoreCfg h p) s = .next { s with hif := answered h (.keyStoreCfg p) st 0 [] s }
    (1 < p.lockPlain ∨ 16 ≤ p.loopArm → refused stBadParam) ∧
    (p.lockPlain ≤ 1 → p.loopArm < 16 → (p.loopArm &&& p.loopMismatch) ≠ 0 → refused stBusy) ∧
    (p.lockPlain ≤ 1 → p.loopArm < 16 → (p.loopArm &&& p.loopMismatch) = 0 → ∃ t, exec (.keyStoreCfg h p) s = .next t ∧ t = { s with
      hif := answered h (.keyStoreCfg p) stOk 0 (le 4 (secStatusWord t) ++ le 1 (s.aon.loopEn ||| p.loopArm)) s,
      sec := { s.sec with plainLocked := s.sec.plainLocked || decide (p.lockPlain = 1) }, aon := { s.aon with loopEn := s.aon.loopEn ||| p.loopArm } }))) ∧
  (∀ (n : Nat) (s : State),
  let k := slotOf s n
  (k.refs ≠ 0 → k.state ≠ 4 → ∃ t, exec (.keyReferenceDrop n k.gen) s = .next t ∧ slotOf t n = { k with refs := k.refs - 1 } ∧
    t = { s with sec := t.sec, cry := t.cry, rfc := t.rfc } ∧ ∀ m, m ≠ n → slotOf t m = slotOf s m) ∧
  (k.refs = 1 → k.oldRefs = 0 → k.state = 4 → ∃ t, exec (.keyReferenceDrop n k.gen) s = .next t ∧
    (slotOf t n).state = 0 ∧ (slotOf t n).gen = k.gen ∧ (slotOf t n).mat = {} ∧ t.hostMem = s.hostMem) ∧
  (∀ gen, gen ≠ k.gen → k.retiring = none → exec (.keyReferenceDrop n gen) s = .next s) ∧
  (k.state = 4 → k.erasing = true → k.refs ≠ 0 ∨ k.oldRefs ≠ 0 → ∃ t, exec (.keyWaitExpiry n) s = .next t ∧
    (slotOf t n).state = 0 ∧ (slotOf t n).gen = k.gen ∧ (slotOf t n).mat = {} ∧ t.hostMem = s.hostMem) ∧
  (∀ x, k.state ≠ 4 → k.waitNext = some x → ∃ t, exec (.keyWaitExpiry n) s = .next t ∧ (slotOf t n).gen = nextGen k.gen ∧
    (slotOf t n).mat.key = x.mat.key ∧ (slotOf t n).waitNext = none ∧ t.hostMem = s.hostMem) ∧
  ((k.state = 4 → k.erasing = false) → (k.state ≠ 4 → k.waitNext = none) → exec (.keyWaitExpiry n) s = .next s) ∧
  (∀ e, k.overlapEnds = some e → e ≤ 2 * s.time.c → exec (.rxOverlapExpiry n) s = .next { s with sec := { s.sec with
    slots := tput s.sec.slots n { k with overlapEnds := none, retiring := if k.oldRefs = 0 then none else k.retiring } } }) ∧
  ((∀ e, k.overlapEnds = some e → 2 * s.time.c < e) → exec (.rxOverlapExpiry n) s = .next s) ∧
  (s.sys.devState = .run → s.flash.identity = false → s.sec.rootReady = true → exec .identityGenerated s = .next (raise 0xDB { s with
    flash := { s.flash with identity := true, identityEpoch := s.flash.identityEpoch + 1 } })) ∧
  (s.sys.devState ≠ .run ∨ s.flash.identity = true ∨ s.sec.rootReady = false → exec .identityGenerated s = .next s) ∧
  (∀ array active, s.sec.rootReady = true → s.hlth.enrolDue = true → array < 3 → s.otp.enrolled.testBit array = false →
    ∃ t, exec (.pufSpareEnrol array active) s = .next t ∧ t = { s with
      hlth := { s.hlth with enrolDue := false },
      otp := { s.otp with enrolled := t.otp.enrolled, pufArray := if active = true then array else s.otp.pufArray } } ∧
    ∀ b, t.otp.enrolled.testBit b = (s.otp.enrolled.testBit b || decide (b = array))))


/-- The cipher engines (R399-R412, R415, R425, R426): a seal draws a use, and under NONCE_MODE 1 a nonce, an open does not; a tag that does not match
answers ST_AUTH_FAIL and writes zeros; signing is slot 2's alone; a hash context is started, fed and ended; an XTS region overlaps no other; a
durable journal entry lets its slot draw on.
Where the rules leave a choice it follows log entries 11 and 26. -/
def Obligations.CipherEngines : Prop := ∀ (h : Hdr) (s : State),
  (∀ p : CryOpP, Ready h (.cryOp p) s →
    let k := slotOf s p.slot
    let m := k.mat
    let refused := fun st => exec (.cryOp h p) s = .next { s with hif := answered h (.cryOp p) st 0 [] s }
    let ok := p.op ≤ 1 ∧ p.slot < 4096 ∧ p.aad.length ≤ 4096 ∧ p.input.length ≤ 16384 ∧ p.outAddr % 8 = 0
    let put := fun (b : List Byte) => if p.outAddr = 0 then s.hostMem else memWrite s.hostMem p.outAddr b
    let opens := fun (r : Option (List Byte)) => ∃ t, exec (.cryOp h p) s = .next t ∧
      t = { s with hif := t.hif, hostMem := t.hostMem, cry := t.cry, sec := t.sec } ∧ t.sec.slots = s.sec.slots ∧
      match r with
      | some b => t.hif = answered h (.cryOp p) stOk 0 (le 8 0 ++ le 4 0) s ∧ t.hostMem = put b
      | none => t.hif = answered h (.cryOp p) stAuthFail 0 [] s ∧ t.hostMem = put (List.replicate p.input.length 0)
    let live := k.state = 1 ∧ m.usageCount < m.usageLimit ∧ drawReady s p.slot = true
    let sealed := fun (nc : Nat) (b : List Byte) => ∃ t, exec (.cryOp h p) s = .next t ∧
      t.hif = answered h (.cryOp p) stOk 0 (le 8 nc ++ le 4 m.usageCount) s ∧ t.hostMem = put b ∧ t.flash = s.flash ∧
      (slotOf t p.slot).state = 1 ∧ (slotOf t p.slot).mat.usageCount = m.usageCount + 1 ∧ (slotOf t p.slot).mat.key = m.key ∧
      (slotOf t p.slot).mat.nc = (if h.flow = 1 ∧ m.nonceMode = 1 then m.nc + 1 else m.nc) ∧ ∀ n, n ≠ p.slot → slotOf t n = slotOf s n
    (¬ ok → refused stBadParam) ∧
    (ok → h.flow = 0 → p.secLevel = 0 ∨ 7 < p.secLevel → refused stBadParam) ∧
    (ok → h.flow = 0 → 1 ≤ p.secLevel → p.secLevel ≤ 7 → p.op = 0 → m.engines.testBit 0 = true → live →
      (let r := ccmSeal m.key p.srcAddr m.usageCount p.secLevel p.aad p.input; sealed 0 (r.1 ++ r.2))) ∧
    (ok → h.flow = 0 → 1 ≤ p.secLevel → p.secLevel ≤ 7 → p.op = 1 → k.state = 1 → m.engines.testBit 0 = true →
      opens (ccmOpen m.key p.srcAddr p.frameCounter p.secLevel p.aad p.input p.tag)) ∧
    (ok → h.flow = 1 → p.op = 0 → m.engines.testBit 1 = true → live → m.nonceMode = 0 → p.iv.length = 12 →
      (let r := gcmSeal m.key p.iv p.aad p.input; sealed 0 (r.1 ++ r.2))) ∧
    (ok → h.flow = 1 → p.op = 0 → m.engines.testBit 1 = true → live → m.nonceMode = 1 → m.nc ≠ 2 ^ 64 - 1 → nonceReady s m = true →
      (let r := gcmSeal m.key (be 4 m.nonceFixed ++ be 8 m.nc) p.aad p.input; sealed m.nc (r.1 ++ r.2))) ∧
    (ok → h.flow = 1 → p.op = 1 → p.iv.length = 12 → k.state = 1 → m.engines.testBit 1 = true →
      opens (gcmOpen m.key p.iv p.aad p.input p.tag)) ∧
    (ok → h.flow = 2 → 16 ≤ p.unit → p.unit ≤ 4096 → p.unit % 16 = 0 → p.input.length % p.unit = 0 → k.state = 1 → m.engines.testBit 3 = true →
      opens (some (xtsRun m.key (decide (p.op = 1)) p.tweak p.unit p.input)))) ∧
  (∀ p : CrySignP, Ready h (.crySign p) s →
    let k := slotOf s 2
    let refused := fun st => exec (.crySign h p) s = .next { s with hif := answered h (.crySign p) st 0 [] s }
    let ok := p.digest.length = 32 ∧ p.slot < 4096 ∧ p.sigAddr % 8 = 0
    (¬ ok → refused stBadParam) ∧
    (ok → p.slot ≠ 2 → ∃ t, exec (.crySign h p) s = .next t ∧ t.hif = answered h (.crySign p) stKeyDenied 0 [] s ∧ t.sec.slots = s.sec.slots ∧
      t.hostMem = s.hostMem) ∧
    (ok → p.slot = 2 → s.flash.identity = false → refused stBusy) ∧
    (ok → p.slot = 2 → s.flash.identity = true → k.state = 1 → k.mat.engines.testBit 6 = true → k.mat.usageCount < k.mat.usageLimit →
      ∃ t sig, exec (.crySign h p) s = .next t ∧ t.hif = answered h (.crySign p) stOk 0 [] s ∧
        t.hostMem = (if p.sigAddr = 0 then s.hostMem else memWrite s.hostMem p.sigAddr sig) ∧
        (slotOf t 2).mat.usageCount = k.mat.usageCount + 1)) ∧
  (∀ p : CryVerifyP, Ready h (.cryVerify p) s →
    let answer := fun st => exec (.cryVerify h p) s = .next { s with hif := answered h (.cryVerify p) st 0 [] s }
    let ok := (p.exponent = 3 ∨ p.exponent = 65537) ∧ p.modulus.length = 384 ∧ p.digest.length = 32 ∧ p.signature.length = 384
    (¬ ok → answer stBadParam) ∧
    (ok → rsaVerify p.modulus p.exponent p.digest p.signature = false → answer stSigFail) ∧
    (ok → rsaVerify p.modulus p.exponent p.digest p.signature = true → answer stOk)) ∧
  (∀ p : CryHashP, Ready h (.cryHash p) s →
    let c := tfind s.cry.hashes p.context
    let refused := fun st => exec (.cryHash h p) s = .next { s with hif := answered h (.cryHash p) st 0 [] s }
    let ok := p.op ≤ 3 ∧ p.mode ≤ 1 ∧ p.context < 16 ∧ p.slot < 4096 ∧ p.input.length ≤ 16384 ∧ p.outAddr % 8 = 0
    let gives := fun (d : List Byte) (y : CrySt) => exec (.cryHash h p) s = .next { s with
      hif := answered h (.cryHash p) stOk 0 (d.take 24) s, cry := y,
      hostMem := if p.outAddr = 0 then s.hostMem else memWrite s.hostMem p.outAddr d }
    (¬ ok → refused stBadParam) ∧
    (ok → p.op = 0 → p.mode = 0 → gives (sha256 p.input) s.cry) ∧
    (ok → p.op = 1 → c.isSome = true → refused stBusy) ∧
    (ok → p.op = 1 → p.mode = 0 → c = none → exec (.cryHash h p) s = .next { s with
      hif := answered h (.cryHash p) stOk 0 [] s,
      cry := { s.cry with hashes := tput s.cry.hashes p.context { mode := 0, key := [], data := p.input } } }) ∧
    (ok → 2 ≤ p.op → c = none → refused stBadParam) ∧
    (∀ x, ok → p.op = 2 → c = some x → exec (.cryHash h p) s = .next { s with
      hif := answered h (.cryHash p) stOk 0 [] s,
      cry := { s.cry with hashes := tput s.cry.hashes p.context { x with data := x.data ++ p.input } } }) ∧
    (∀ x, ok → p.op = 3 → c = some x →
      gives (if x.mode = 1 then hmac x.key (x.data ++ p.input) else sha256 (x.data ++ p.input)) { s.cry with hashes := tdel s.cry.hashes p.context })) ∧
  (∀ p : CryXtsRegionP, Ready h (.cryXtsRegion p) s →
    let k := slotOf s p.slot
    let refused := fun st => exec (.cryXtsRegion h p) s = .next { s with hif := answered h (.cryXtsRegion p) st 0 [] s }
    let ok := 16 ≤ p.region ∧ p.region < 64 ∧ p.op = 1 ∧ p.base % 4096 = 0 ∧ p.size % 4096 = 0 ∧ 4096 ≤ p.size ∧ p.size ≤ 2 ^ 34 ∧ p.slot < 4096
    let clash := ∃ e ∈ s.cry.regions, e.1 ≠ p.region ∧ e.2.enable = true ∧ e.2.base < p.base + p.size ∧ p.base < e.2.base + 4096 * e.2.pages
    (p.region < 16 ∨ 64 ≤ p.region ∨ 1 < p.op → refused stBadParam) ∧
    (16 ≤ p.region → p.region < 64 → p.op = 0 → exec (.cryXtsRegion h p) s = .next { s with
      hif := answered h (.cryXtsRegion p) stOk 0 [] s,
      cry := { s.cry with regions := tput s.cry.regions p.region { tget {} s.cry.regions p.region with enable := false, reported := false } } }) ∧
    (ok → clash → refused stBadParam) ∧
    (ok → ¬ clash → k.state = 1 → k.mat.engines.testBit 3 = true → ∃ t, exec (.cryXtsRegion h p) s = .next t ∧ t = { s with
        hif := answered h (.cryXtsRegion p) stOk 0 [] s, sec := { s.sec with cnt := t.sec.cnt },
        cry := { s.cry with regions := tput s.cry.regions p.region {
          base := p.base, pages := p.size / 4096, enable := true, slot := p.slot } } })) ∧
  (∀ p : CryStatusP, Ready h (.cryStatus p) s →
    let ok := p.clear ≤ 1 ∧ p.bufferAddr % 8 = 0
    (¬ ok → exec (.cryStatus h p) s = .next { s with hif := answered h (.cryStatus p) stBadParam 0 [] s }) ∧
    (ok → exec (.cryStatus h p) s = .next { s with
      hif := answered h (.cryStatus p) stOk 0
        (le 4 (cryStatusWord s) ++ le 4 (ccmCtxWord s) ++ le 2 s.flash.nonce.length ++ le 8 s.flash.nonceFloor) s,
      hostMem := if p.bufferAddr = 0 then s.hostMem else
        memWrite s.hostMem p.bufferAddr ((List.range 10).flatMap (fun i => le 4 (tget 0 s.cry.cnt i))),
      cry := if p.clear = 1 then { s.cry with cnt := [] } else s.cry })) ∧
  (∀ e x l, tget [] s.cry.msgs e = x :: l → x.suspended = true → (∀ y ∈ l, y.suspended = false → x.urgency ≤ y.urgency) →
    exec (.engineResume e) s = .next { s with cry := { s.cry with msgs := tput s.cry.msgs e ({ x with suspended := false } :: l) } }) ∧
  (∀ n w, s.lnk.waiting = [] → (slotOf s n).mat.hWriting = some w → ∃ t, exec (.journalEntryDurable n) s = .next t ∧
    (slotOf t n).mat = { (slotOf s n).mat with hDurable := some w, hWriting := none, writeFails := 0 } ∧
    t.flash.nonce.getLast? = some { fp := fingerprint s (slotOf s n).mat, h := w, seq := t.flash.nonceSeq } ∧ s.flash.nonceFloor ≤ t.flash.nonceFloor) ∧
  (∀ n, (slotOf s n).mat.hWriting = none → exec (.journalWriteFail n) s = .next s ∧
    (s.lnk.waiting = [] → exec (.journalEntryDurable n) s = .next s)) ∧
  (∀ n w, (slotOf s n).mat.hWriting = some w → ∃ t, exec (.journalWriteFail n) s = .next t ∧ t.flash = s.flash ∧
    (slotOf t n).mat = { (slotOf s n).mat with writeFails := min 2 ((slotOf s n).mat.writeFails + 1) } ∧
    ((slotOf s n).mat.writeFails = 0 → t.evt = s.evt ∧ t.sys = s.sys) ∧
    ((slotOf s n).mat.writeFails ≠ 0 → (srcCfgOf s 0xE1).enable = true → t.evt.cause.testBit 0xE1 = true)) ∧
  (s.cry.compacting = true → exec .journalCompactDone s = .next { s with
    cry := { s.cry with compacting := false }, flash := { s.flash with nonceLog := s.flash.nonce.length + 1 } }) ∧
  (s.cry.compacting = false → exec .journalCompactDone s = .next s)

/-- The check-value units (R418-R423, R425): attach, detach, save and restore in their ranges; PAUSE takes effect at a frame boundary, VALUE is written only
while paused, and a read of RES_INFO takes the oldest result.
Where the rules leave a choice it follows log entry 26. -/
def Obligations.CheckValueUnits : Prop := ∀ (h : Hdr) (s : State),
  (∀ p : CryChkCfgP, Ready h (.cryChkCfg p) s →
    let u := h.flow - 0x100
    let c := chkOf s u
    let refused := exec (.cryChkCfg h p) s = .next { s with hif := answered h (.cryChkCfg p) stBadParam 0 [] s }
    let put := fun (y : ChkSt) => exec (.cryChkCfg h p) s = .next { s with hif := answered h (.cryChkCfg p) stOk 0 [] s, chk := tput s.chk u y }
    let ok := p.lane ≤ 95 ∧ p.poly ≤ 2 ∧ p.mode ≤ 1 ∧ p.skipAbort ≤ 1 ∧ p.expectEn ≤ 1
    (3 < p.op ∨ (p.op = 0 ∧ ¬ ok) → refused) ∧
    (p.op = 0 → ok → put { c with
      attached := some p.lane, poly := p.poly, mode := p.mode, skipAbort := decide (p.skipAbort = 1), expectEn := decide (p.expectEn = 1),
      init := p.init, expect := p.expect, value := crcStart p.poly p.init }) ∧
    (p.op = 1 → put { c with attached := none }) ∧
    (p.op = 2 → c.paused = true → exec (.cryChkCfg h p) s = .next { s with hif := answered h (.cryChkCfg p) stOk 0 (chkContext c) s }) ∧
    (p.op = 2 → c.paused = false → exec (.cryChkCfg h p) s = .next { s with
      hif := awaiting h (.cryChkCfg p) s, chk := tput s.chk u { c with saveWait := some (h.qp, h.tag) } }) ∧
    (p.op = 3 → p.context.length ≠ 16 → refused) ∧
    (∀ x, p.op = 3 → p.context = chkContext x → x.attached.isSome = true → x.attached.getD 0 ≤ 95 → x.poly ≤ 2 → x.mode ≤ 1 → x.init < 2 ^ 32 →
      x.expect < 2 ^ 32 → x.value < 2 ^ crcWidth x.poly → put { c with
        pause := false, paused := false, attached := x.attached, poly := x.poly, mode := x.mode, skipAbort := x.skipAbort, expectEn := x.expectEn,
        init := x.init, expect := x.expect, value := x.value })) ∧
  (∀ u v, u < 8 → pfFrozen s 0 = false → exec (.chkPauseWrite u v) s = .next { s with chk := tput s.chk u { chkOf s u with pause := v.testBit 0 } }) ∧
  (∀ u, u < 8 → atBoundary s u = true → (chkOf s u).saveWait = none → exec (.chkPauseEffect u) s = .next { s with
    chk := tput s.chk u { chkOf s u with paused := (chkOf s u).pause } }) ∧
  (∀ u, atBoundary s u = false → exec (.chkPauseEffect u) s = .next s) ∧
  (∀ u qp tag, u < 8 → atBoundary s u = true → (chkOf s u).pause = true → (chkOf s u).saveWait = some (qp, tag) →
    ∃ t, exec (.chkPauseEffect u) s = .next t ∧ t = { s with hif := t.hif, chk := t.chk } ∧
      chkOf t u = { chkOf s u with paused := true, saveWait := none }) ∧
  (∀ u v, u < 8 → pfFrozen s 0 = false → exec (.chkValueWrite u v) s = .next { s with chk := tput s.chk u (
    if (chkOf s u).paused = true then { chkOf s u with value := v % 2 ^ crcWidth (chkOf s u).poly } else { chkOf s u with writeIgnored := true }) }) ∧
  (∀ u, u < 8 → ∃ t, exec (.chkResultRead u) s = .next t ∧ t = { s with
      chk := tput s.chk u { chkOf s u with latched := (chkOf s u).results.head?, results := (chkOf s u).results.tail },
      hif := { s.hif with readData := t.hif.readData } } ∧
    t.hif.readData = match (chkOf s u).results.head? with
      | some r => r.length + 2 ^ 11 * b2n r.abort + 2 ^ 12 * b2n r.spawned + 2 ^ 13 * b2n r.isMatch + 2 ^ 14
      | none => 0)

/-! UPD. -/

/-- Own firmware (R431-R441, R456, R510): a manifest that fits, is signed by the fused key and is not older than the fuses opens the image in the slot that
does not run; a drop that checks is programmed, and held once it reads back; a complete image is verified, put on trial, committed or reverted by a
boot record with the next SEQ.
Where the rules leave a choice it follows log entries 11 and 39. -/
def Obligations.FirmwareUpdate : Prop := ∀ (h : Hdr) (s : State),
  let f := s.upd.fw
  let x := targetSlot s
  (∀ p : UpdOpenP, Ready h (.updOpen p) s → h.flow = 0 →
    let m := p.manifest
    let answer := fun st data => exec (.updOpen h p) s = .next { s with hif := answered h (.updOpen p) st 0 data s }
    let ok := p.replace ≤ 1 ∧ p.acceptMask ≤ 7 ∧ p.autoVerify ≤ 1 ∧ mfGood 0 m = true ∧ ownTarget m = true
    let signed := signerKey m = Config.otpKeyHash ∧ sigGood m = true
    let good := ok ∧ signed ∧ s.otp.svBurnt ≤ mfSv m ∧ mfSv m ≤ 1023 ∧ s.sys.devState = .run
    (¬ ok → answer stBadParam []) ∧
    (ok → ¬ signed → answer stSigFail []) ∧
    (ok → signed → mfSv m < s.otp.svBurnt → answer stRollback []) ∧
    (ok → signed → s.otp.svBurnt ≤ mfSv m → 1023 < mfSv m → answer stBadParam []) ∧
    (good → s.sys.trial = true → answer stBusy []) ∧
    (good → s.sys.trial = false → f.state ≠ 0 → f.manifest = m → answer stOk (le 4 f.held.length ++ tagOf m)) ∧
    (good → s.sys.trial = false → f.state ≠ 0 → f.manifest ≠ m → p.replace = 0 → answer stBusy []) ∧
    (good → s.sys.trial = false → f.state = 0 ∨ (f.manifest ≠ m ∧ p.replace = 1) → ∃ t, exec (.updOpen h p) s = .next t ∧
      t = { s with hif := answered h (.updOpen p) stOk 0 (le 4 0 ++ tagOf m) s, upd := t.upd, flash := t.flash } ∧
      t.upd.fw = { f with
        state := 1, manifest := m, held := [], journaled := [], pendingDrops := [], acceptMask := p.acceptMask, intakePort := p.intakePort,
        autoVerify := decide (p.autoVerify = 1) } ∧
      tget [] t.flash.slotManifest x = m ∧ tget [] t.flash.slotImage x = [] ∧ t.upd.camps = s.upd.camps ∧ t.flash.bootRec = s.flash.bootRec)) ∧
  (∀ p : UpdBlockP, Ready h (.updBlock p) s →
    let refused := fun st => exec (.updBlock h p) s = .next { s with hif := answered h (.updBlock p) st 0 [] s }
    (p.records.length = 0 ∨ 15 < p.records.length → refused stBadParam) ∧
    (∀ d, p.records = [d] → s.sys.devState = .run →
      (h.flow = 0 → f.state = 2 → refused stBusy) ∧
      (h.flow = 0 → f.state ≠ 2 → h.qp = 65 → f.acceptMask.testBit 0 = false → exec (.updBlock h p) s = .next { s with
        hif := answered h (.updBlock p) stBadParam 0 (le 2 0 ++ le 4 f.held.length) s,
        upd := { s.upd with fw := { f with ignored := f.ignored + 1 } } }) ∧
      (h.flow = 0 → f.state ≠ 2 → h.qp ≠ 65 ∨ f.acceptMask.testBit 0 = true →
        (crc32c (dropHead d) ≠ d.crc → ∃ t, exec (.updBlock h p) s = .next t ∧
          t = { s with hif := answered h (.updBlock p) stCheckFail 0 (le 2 0 ++ le 4 f.held.length) s, upd := { s.upd with cnt := t.upd.cnt } }) ∧
        (dropCheck (decide (f.state ≠ 0)) f.manifest (fun i => f.held.contains i || (tfind f.pendingDrops i).isSome) d = stOk →
          ∃ t, exec (.updBlock h p) s = .next t ∧ t = { s with hif := t.hif, upd := { s.upd with
              cnt := t.upd.cnt, fw := { f with pendingDrops := tput f.pendingDrops d.index d.data } } } ∧
            ∀ g ∈ t.hif.flights, g.hdr = h → g.qp = h.qp → g.waiting = true)) ∧
      (h.flow ≠ 0 →
        let k := campOf s (h.flow - 0x100)
        2 ≤ k.state → dropCheck true k.manifest (fun i => (tfind k.drops i).isSome) d = stOk → (tput k.drops d.index d.data).length < mfDrops k.manifest →
        ∃ t, exec (.updBlock h p) s = .next t ∧
          t.hif = answered h (.updBlock p) stOk 0 (le 2 1 ++ le 4 (tput k.drops d.index d.data).length) s ∧
          campOf t (h.flow - 0x100) = { k with drops := tput k.drops d.index d.data } ∧ t.upd.fw = f ∧ t.flash = s.flash))) ∧
  (∀ p : UpdStatusP, Ready h (.updStatus p) s →
    let put := fun data (b : List Byte) => exec (.updStatus h p) s = .next { s with
      hif := answered h (.updStatus p) stOk 0 data s, upd := if p.clear = 1 then { s.upd with cnt := [] } else s.upd,
      hostMem := if p.bufferAddr = 0 then s.hostMem else memWrite s.hostMem p.bufferAddr b }
    (1 < p.clear → exec (.updStatus h p) s = .next { s with hif := answered h (.updStatus p) stBadParam 0 [] s }) ∧
    (p.clear ≤ 1 → h.flow = 0 → put (le 1 (fwStatusWord s) ++ zeros 3 ++ le 4 f.held.length ++ le 4 (mfDrops f.manifest) ++ le 4 (mfSv f.manifest) ++
      le 4 s.otp.svBurnt ++ le 4 f.imageVersion) (bitmapOf (mfDrops f.manifest) f.held.contains)) ∧
    (p.clear ≤ 1 → h.flow ≠ 0 →
      let k := campOf s (h.flow - 0x100)
      put (le 1 k.state ++ le 1 k.round ++ zeros 2 ++ le 4 k.members.length ++ le 4 (membersIn k 0) ++ le 4 (membersIn k 1) ++
          le 4 (membersIn k 2 + membersIn k 3) ++ le 4 (membersIn k 4))
        ((List.range 4096).flatMap (fun i =>
          le 4 (k.members.filter (fun m => decide (m.2.state = 0) && !mapBit m.2.bitmap i)).length)))) ∧
  (∀ p : UpdVerifyP, Ready h (.updVerify p) s →
    let busy := f.state = 0 ∨ f.state = 2 ∨ f.held.length < mfDrops f.manifest
    (busy → exec (.updVerify h p) s = .next { s with hif := answered h (.updVerify p) stBusy 0 [] s }) ∧
    (¬ busy → exec (.updVerify h p) s = .next { s with
      free := s.free + 1, hif := answered h (.updVerify p) stPending (freshJob s) [] s,
      upd := { s.upd with fw := { f with state := 2, job := freshJob s } } })) ∧
  (∀ p : UpdActivateP, Ready h (.updActivate p) s →
    let b := s.flash.bootRec
    let refused := fun st => exec (.updActivate h p) s = .next { s with hif := answered h (.updActivate p) st 0 [] s }
    let runs := s.sys.devState = .run ∧ p.op ≤ 2 ∧ p.restart ≤ 1
    let reply := le 4 ((b.seq + 1) % 2 ^ 32)
    (2 < p.op ∨ 1 < p.restart → refused stBadParam) ∧
    (runs → p.op = 0 → f.state ≠ 3 → f.state ≠ 4 → refused stBusy) ∧
    (runs → p.op ≠ 0 → s.sys.trial = false → refused stBusy) ∧
    (runs → p.op = 0 → f.state = 3 ∨ f.state = 4 → ∃ t, exec (.updActivate h p) s = .next t ∧
      t.hif = answered h (.updActivate p) stOk 0 (reply ++ le 2 s.otp.svBurnt) s ∧ t.flash.bootRec = { b with
        valid := true, seq := (b.seq + 1) % 2 ^ 32, preferred := x, trial := true, trialSv := mfSv f.manifest, trialTag := tagOf f.manifest } ∧
      t.upd.fw = { f with state := 4, commitAfterS := p.commitAfterS } ∧ t.otp = s.otp ∧
      t.sys = { s.sys with resetNext := if p.restart = 1 then some .warm else s.sys.resetNext }) ∧
    (runs → p.op = 1 → s.sys.trial = true → ∃ t, exec (.updActivate h p) s = .next t ∧
      t.hif = answered h (.updActivate p) stOk 0 (reply ++ le 2 t.otp.svBurnt) s ∧ t.sys.trial = false ∧ s.otp.svBurnt ≤ t.otp.svBurnt ∧
      t.flash.bootRec = { b with valid := true, seq := (b.seq + 1) % 2 ^ 32, trial := false, committed := s.sys.bootSlot }) ∧
    (runs → p.op = 2 → s.sys.trial = true → exec (.updActivate h p) s = .next { s with
      hif := answered h (.updActivate p) stOk 0 (reply ++ le 2 s.otp.svBurnt) s, sys := { s.sys with resetNext := some .warm },
      flash := { s.flash with bootRec := { b with
        valid := true, seq := (b.seq + 1) % 2 ^ 32, preferred := b.committed, trial := false } } })) ∧
  (s.upd.intake = [] → exec .dropIntake s = .next s) ∧
  (∀ path d l, s.upd.intake = (path, d) :: l → path ≠ 1 →
    (f.acceptMask.testBit path = false → exec .dropIntake s = .next { s with upd := { s.upd with
      intake := l, fw := { f with ignored := f.ignored + 1 } } }) ∧
    (f.acceptMask.testBit path = true →
      dropCheck (decide (f.state ≠ 0)) f.manifest (fun i => f.held.contains i || (tfind f.pendingDrops i).isSome) d = stOk →
      ∃ t, exec .dropIntake s = .next t ∧ t = { s with upd := { s.upd with
        intake := l, cnt := t.upd.cnt, fw := { f with pendingDrops := tput f.pendingDrops d.index d.data } } })) ∧
  (∀ i a b, tfind f.pendingDrops i = none → exec (.dropDurable i a b) s = .next s) ∧
  (∀ i a b data, tfind f.pendingDrops i = some data → ∃ t, exec (.dropDurable i a b) s = .next t ∧
    t.upd.fw.pendingDrops = tdel f.pendingDrops i ∧ t.hostMem = s.hostMem ∧ t.sec = s.sec ∧
    (a = true ∨ b = true → t.upd.fw.held = f.held ++ [i] ∧ tfind (tget [] t.flash.slotImage x) i = some data) ∧
    (a = false → b = false → (∀ j ∈ t.upd.fw.held, j ∈ f.held) ∧ ((srcCfgOf s 0xF2).enable = true → t.evt.cause.testBit 0xF2 = true))) ∧
  (f.held.length = f.journaled.length → exec .journalHeldFlush s = .next s) ∧
  (f.held.length ≠ f.journaled.length → ∃ t, exec .journalHeldFlush s = .next t ∧ t = { s with upd := t.upd, flash := t.flash } ∧
    (∀ i ∈ f.held, i ∈ t.upd.fw.journaled) ∧ t.upd.fw.held = f.held) ∧
  (∀ bad ok, f.state ≠ 2 → exec (.fwVerifyDone bad ok) s = .next s) ∧
  (∀ bad ok, f.state = 2 →
    let m := f.manifest
    let drops := tget [] s.flash.slotImage x
    let whole := bad = none ∧ ok = true ∧ (∀ i < mfSegs m, segHashGood m drops i = true) ∧ sha256 (imageOf m drops) = mfHash m
    ∃ t, exec (.fwVerifyDone bad ok) s = .next t ∧ ((srcCfgOf s 0xF0).enable = true → t.evt.cause.testBit 0xF0 = true) ∧ t.otp = s.otp ∧
      (whole → t.upd.fw = { f with state := 3 } ∧ t.flash.slotImage = s.flash.slotImage) ∧
      ((∃ i < mfSegs m, segHashGood m drops i = false) ∨ ok = false → t.upd.fw.state = 1)) ∧
  (let due := s.sys.devState = .run ∧ s.sys.trial = true ∧ f.commitAfterS ≠ 0 ∧ s.hlth.degraded = 0
  (¬ due → exec .autoCommitTimer s = .next s) ∧
  (due → ∃ t, exec .autoCommitTimer s = .next t ∧ t.sys.trial = false ∧ s.otp.svBurnt ≤ t.otp.svBurnt ∧
    t.flash.bootRec.trial = false ∧ t.flash.bootRec.committed = s.sys.bootSlot))

/-- Node image campaigns (R444-R452, R455, R520): configured, given members, started from READY, paused, resumed and cancelled; a report never clears a
bit of its member's bitmap; a window opens and closes; a round ends in the next one or in REPAIR, and a campaign without PENDING members is DONE.
Where the rules leave a choice it follows log entry 40. -/
def Obligations.NodeCampaigns : Prop := ∀ (h : Hdr) (s : State),
  let c := h.flow - 0x100
  let k := campOf s c
  let put := fun (y : CampSt) => { s.upd with camps := tput s.upd.camps c y }
  (∀ p : UpdCampaignCfgP, Ready h (.updCampaignCfg p) s →
    let refused := fun st => exec (.updCampaignCfg h p) s = .next { s with hif := answered h (.updCampaignCfg p) st 0 [] s }
    let known := fun (r : MemberRef) => r.member < 262144 ∧ r.address < 2 ^ 128
    (2 < p.op → refused stBadParam) ∧
    (p.op = 0 → 1 < k.state → refused stBusy) ∧
    (p.op = 0 → k.state ≤ 1 → campCfgOk s p.cfg = false → refused stBadParam) ∧
    (p.op = 0 → k.state ≤ 1 → campCfgOk s p.cfg = true → p.cfg.mcSecLevel ≠ 0 →
      (slotOf s p.cfg.mcKeySlot).state = 0 ∨ (2 ≤ (slotOf s p.cfg.mcKeySlot).state ∧ (slotOf s p.cfg.mcKeySlot).state ≤ 4) → refused stKeyGone) ∧
    (p.op = 0 → k.state ≤ 1 → campCfgOk s p.cfg = true →
      p.cfg.mcSecLevel = 0 ∨ ((slotOf s p.cfg.mcKeySlot).state = 1 ∧ (slotOf s p.cfg.mcKeySlot).mat.engines.testBit 0 = true) →
      exec (.updCampaignCfg h p) s = .next { s with
        hif := answered h (.updCampaignCfg p) stOk 0 [] s, upd := put { k with state := 1, cfg := p.cfg } }) ∧
    (p.op = 1 ∨ p.op = 2 → k.state = 0 → refused stBusy) ∧
    (p.op = 1 → k.state ≠ 0 → (∃ r ∈ p.members, ¬ known r) → refused stBadParam) ∧
    (p.op = 1 → k.state ≠ 0 → (∀ r ∈ p.members, known r) → (∃ r ∈ p.members, memberTaken s r.member = true) → refused stDuplicate) ∧
    (p.op = 1 → k.state ≠ 0 → (∀ r ∈ p.members, known r ∧ memberTaken s r.member = false) → (p.members.map (·.member)).Nodup →
      ∃ t, exec (.updCampaignCfg h p) s = .next t ∧ t = { s with hif := t.hif, upd := put (campOf t c) } ∧
        (∀ r ∈ p.members, ∃ x, tfind (campOf t c).members r.member = some x ∧ x.address = r.address ∧ x.state = 0 ∧ x.bitmap = zeros 512) ∧
        (k.state ≠ 7 → (campOf t c).state = k.state) ∧ (k.state = 7 → p.members ≠ [] → (campOf t c).state = 5)) ∧
    (p.op = 2 → k.state ≠ 0 → (∃ r ∈ p.members, tfind k.members r.member = none) → refused stBadParam) ∧
    (p.op = 2 → k.state ≠ 0 → (∀ r ∈ p.members, (tfind k.members r.member).isSome = true) → ∃ t, exec (.updCampaignCfg h p) s = .next t ∧
      (∀ i, tfind (campOf t c).members i = if i ∈ p.members.map (·.member) then none else tfind k.members i) ∧ (campOf t c).state = k.state ∧
      t.sec = s.sec ∧ t.flash = s.flash)) ∧
  (∀ p : UpdOpenP, Ready h (.updOpen p) s → h.flow ≠ 0 → s.sys.devState = .run →
    let m := p.manifest
    let refused := fun st => exec (.updOpen h p) s = .next { s with hif := answered h (.updOpen p) st 0 [] s }
    let ok := p.replace ≤ 1 ∧ k.state = 1 ∧ mfGood 1 m = true ∧ mfTarget m = k.cfg.nodeModel
    let signed := signerKey m = k.cfg.keyHash ∧ sigGood m = true
    (p.replace ≤ 1 → k.state ≠ 1 → refused stBusy) ∧
    (ok → ¬ signed → refused stSigFail) ∧
    (ok → signed → mfSv m < k.cfg.svFloor → refused stRollback) ∧
    (ok → signed → k.cfg.svFloor ≤ mfSv m → s.flash.libManifest.find? (fun e => decide (tagOf e.2 = tagOf m)) = none → mfDrops m ≠ 0 →
      exec (.updOpen h p) s = .next { s with
        hif := answered h (.updOpen p) stOk 0 (le 4 0 ++ tagOf m) s, upd := put { k with state := 2, manifest := m, drops := [] } })) ∧
  (∀ p : UpdCampaignCtrlP, Ready h (.updCampaignCtrl p) s →
    let refused := fun st => exec (.updCampaignCtrl h p) s = .next { s with hif := answered h (.updCampaignCtrl p) st 0 [] s }
    let set := fun (y : CampSt) => exec (.updCampaignCtrl h p) s = .next { s with hif := answered h (.updCampaignCtrl p) stOk 0 [] s, upd := put y }
    let stops := fun (y : CampSt → Prop) => ∃ t, exec (.updCampaignCtrl h p) s = .next t ∧ t.hif = answered h (.updCampaignCtrl p) stOk 0 [] s ∧
      y (campOf t c) ∧ t.sec = s.sec ∧ t.flash = s.flash ∧ ∀ d, d ≠ c → campOf t d = campOf s d
    let frozen := s.fwall.frozen.contains 32
    (5 < p.op → refused stBadParam) ∧
    (p.op = 0 ∨ p.op = 2 → frozen = true → refused stFrozen) ∧
    (p.op = 0 → frozen = false → k.state ≠ 3 → refused stBusy) ∧
    (p.op = 0 → frozen = false → k.state = 3 →
      set { k with state := 4, round := 1, position := 0, roundSent := 0, waitingReports := false }) ∧
    (p.op = 1 → k.state ≠ 4 → k.state ≠ 5 → refused stBusy) ∧
    (p.op = 1 → k.state = 4 ∨ k.state = 5 → stops (fun y => y.state = 6 ∧ y.pausedFrom = k.state ∧ y.inWindow = false ∧ y.round = k.round)) ∧
    (p.op = 2 → frozen = false → k.state ≠ 6 → refused stBusy) ∧
    (p.op = 2 → frozen = false → k.state = 6 → set { k with state := k.pausedFrom }) ∧
    (p.op = 3 → stops (fun y => y = {})) ∧
    (p.op = 4 → k.state < 3 → refused stBusy) ∧
    (p.op = 4 → 3 ≤ k.state → reporter k p.address p.report = none → exec (.updCampaignCtrl h p) s = .next { s with
      hif := answered h (.updCampaignCtrl p) stBadParam 0 [] s, upd := { s.upd with cnt := bump s.upd.cnt 6 } }) ∧
    (∀ i, p.op = 4 → 3 ≤ k.state → reporter k p.address p.report = some i → stops (fun y =>
      ∀ j < 4096, mapBit (tget {} k.members i).bitmap j = true → mapBit (tget {} y.members i).bitmap j = true)) ∧
    (p.op = 5 → tfind k.members p.member = none → refused stBadParam) ∧
    (∀ m, p.op = 5 → tfind k.members p.member = some m → exec (.updCampaignCtrl h p) s = .next { s with
      hif := answered h (.updCampaignCtrl p) stOk 0
        (le 1 m.state ++ zeros 3 ++ le 4 ((List.range (mfDrops k.manifest)).filter (mapBit m.bitmap)).length) s,
      hostMem := if p.bufferAddr = 0 then s.hostMem else memWrite s.hostMem p.bufferAddr (fit 512 m.bitmap) })) ∧
  (∀ addr r, (∀ e ∈ s.upd.camps, reporter e.2 addr r = none) →
    exec (.nodeReportRx addr r) s = .next { s with upd := { s.upd with cnt := bump s.upd.cnt 6 } }) ∧
  (∀ addr r i, s.upd.camps = [(c, k)] → reporter k addr r = some i → ∃ t, exec (.nodeReportRx addr r) s = .next t ∧
    tget 0 t.upd.cnt 5 = min (tget 0 s.upd.cnt 5 + 1) 0xFFFFFFFF ∧
    (let m := tget {} k.members i
    let n := tget {} (campOf t c).members i
    n.address = m.address ∧ (∀ j < 4096, mapBit m.bitmap j = true → mapBit n.bitmap j = true) ∧
    (m.state = 3 ∨ m.state = 4 → n.state = m.state) ∧ (m.state < 3 → r.kind = 2 → n.state = 3) ∧ (m.state < 3 → r.kind = 3 → n.state = 4) ∧
    (m.state < 3 → r.kind = 1 → n.state = 2))) ∧
  (k.state ≠ 4 ∨ windowNow s k.cfg = false → exec (.campaignWindowStart c) s = .next s) ∧
  (k.state = 4 → windowNow s k.cfg = true → ∃ t, exec (.campaignWindowStart c) s = .next t ∧ (campOf t c).inWindow = true ∧ (campOf t c).state = 4 ∧
    (campOf t c).round = k.round ∧ t.sec = s.sec) ∧
  (k.inWindow = false → exec (.campaignWindowEnd c) s = .next s) ∧
  (k.inWindow = true → ∃ t, exec (.campaignWindowEnd c) s = .next t ∧ (campOf t c).inWindow = false ∧ (campOf t c).state = k.state ∧
    (campOf t c).position ≤ k.position ∧ t.sec = s.sec) ∧
  (k.state ≠ 4 ∨ k.waitingReports = false → exec (.reportWaitExpiry c) s = .next s) ∧
  (k.state = 4 → k.waitingReports = true → ∃ t, exec (.reportWaitExpiry c) s = .next t ∧
    (k.cfg.maxRounds ≤ k.round → (campOf t c).state = 5) ∧
    (k.round < k.cfg.maxRounds → (nextPlace { k with round := k.round + 1, position := 0 }).isSome = true →
      (campOf t c).state = 4 ∧ (campOf t c).round = k.round + 1)) ∧
  (∀ i, k.state ≠ 5 ∨ (tget {} k.members i).visiting = false → exec (.repairVisitTimeout c i) s = .next s) ∧
  (∀ i, k.state = 5 → (tget {} k.members i).visiting = true → ∃ t, exec (.repairVisitTimeout c i) s = .next t ∧ (campOf t c).state = 5 ∧
    (tget {} k.members i).pass < (tget {} (campOf t c).members i).pass) ∧
  (k.state ≠ 5 ∨ membersIn k 0 ≠ 0 → exec (.campaignDoneWaitExpiry c) s = .next s) ∧
  (k.state = 5 → membersIn k 0 = 0 →
    exec (.campaignDoneWaitExpiry c) s = .next (raise 0xF6 { s with upd := put { k with state := 7 } }))

/-! LNK and TWIN. -/

/-- The Dalhiuf links (R457-R468, R483, R486): a port is configured in its ranges with two live GCM keys and trains or goes DOWN; a topology has no cycle
and keeps its length limit; LNK_SEND puts one sealed frame on the route's port; training, loss and timeouts move the port; a frame that is aborted,
damaged, not authentic or replayed is counted and goes no further here.
Where the rules leave a choice it follows log entry 41. -/
def Obligations.DalhiufLinks : Prop := ∀ (h : Hdr) (s : State),
  let f := h.flow
  let setPort := fun (n : Nat) (y : LnkPort) => { s.lnk with ports := tput s.lnk.ports n y }
  let up := fun (n : Nat) => decide ((portOf s n).state = 2)
  (∀ p : LnkPortCfgP, Ready h (.lnkPortCfg p) s →
    let q := portOf s f
    let refused := fun st => exec (.lnkPortCfg h p) s = .next { s with hif := answered h (.lnkPortCfg p) st 0 [] s }
    let ok := p.enable ≤ 1 ∧ p.role ≤ 1 ∧ (p.role = 1 → f = 2) ∧ p.expectedPeer ≤ 4095 ∧ p.txSlot ≤ 4095 ∧ p.rxSlot ≤ 4095 ∧ 20 ≤ p.linkDownUs ∧
      p.linkDownUs ≤ 10000 ∧ p.boundaryOut ≤ 1 ∧ p.handoverOut ≤ 1
    let change := s.twin.configured = true ∧ f = 2 ∧ p.role ≠ q.role
    let live := fun n => (slotOf s n).state = 1 ∧ (slotOf s n).mat.engines.testBit 1 = true
    let y : LnkPort := { q with
      enable := decide (p.enable = 1), role := p.role, expectedPeer := p.expectedPeer, txSlot := p.txSlot, rxSlot := p.rxSlot,
      linkDownUs := p.linkDownUs, boundaryOut := decide (p.boundaryOut = 1), handoverOut := decide (p.handoverOut = 1), mismatchSeen := false }
    (¬ ok → refused stBadParam) ∧
    (ok → change → refused stBusy) ∧
    (ok → ¬ change → (slotOf s p.txSlot).state = 0 ∨ (2 ≤ (slotOf s p.txSlot).state ∧ (slotOf s p.txSlot).state ≤ 4) → refused stKeyGone) ∧
    (ok → ¬ change → live p.txSlot → live p.rxSlot → p.enable = 1 → exec (.lnkPortCfg h p) s = .next { s with
      hif := answered h (.lnkPortCfg p) stOk 0 [] s,
      lnk := setPort f { y with
        state := if q.state = 0 ∧ q.lock = true ∧ q.held = false ∧ s.fwall.frozen.contains (33 + f) = false then 1 else q.state } }) ∧
    (ok → ¬ change → live p.txSlot → live p.rxSlot → p.enable = 0 → ∃ t, exec (.lnkPortCfg h p) s = .next t ∧
      portOf t f = { y with state := 0, matched := false, cnt := (portOf t f).cnt } ∧ t.hostMem = s.hostMem ∧ t.flash = s.flash)) ∧
  (∀ p : LnkTopologyP, Ready h (.lnkTopology p) s →
    let ok := topologyRange s p = true ∧ topologyOk s p = true
    (ok → p.kind = 0 → ∀ r ∈ p.routes, (r.alternate = 0xFF ∨ r.alternate = r.primary) ∧ r.hopsPrimary ≤ hMaxOf p) ∧
    (¬ ok → exec (.lnkTopology h p) s = .next { s with hif := answered h (.lnkTopology p) stBadParam 0 [] s }) ∧
    (ok → exec (.lnkTopology h p) s = .next { s with
      hif := answered h (.lnkTopology p) stOk 0 (le 2 (hMaxOf p) ++ le 2 (longestRoute p.routes)) s,
      lnk := { s.lnk with
        setId := p.setId, memberId := p.memberId, kind := p.kind, members := p.members, timeRoot := p.timeRoot, hopLimit := p.hopLimit,
        linkRing := p.linkRing, routes := p.routes, hMax := hMaxOf p, downReports := [], ringBroken := false, seen := [],
        upPort := match p.routes.find? (fun r => decide (r.member = p.timeRoot)) with
          | some r => r.primary
          | none => 0 } })) ∧
  (∀ p : LnkStatusP, Ready h (.lnkStatus p) s →
    let q := portOf s f
    (1 < p.clear → exec (.lnkStatus h p) s = .next { s with hif := answered h (.lnkStatus p) stBadParam 0 [] s }) ∧
    (p.clear ≤ 1 → 3 ≤ f → exec (.lnkStatus h p) s = .next { s with
      hif := answered h (.lnkStatus p) stOk 0 (le 4 (topoWord s) ++ le 2 s.lnk.hMax) s }) ∧
    (p.clear ≤ 1 → f < 3 → exec (.lnkStatus h p) s = .next { s with
      hif := answered h (.lnkStatus p) stOk 0
        (le 1 q.state ++ zeros 1 ++ le 2 q.peer ++ (List.range 8).flatMap (fun i => le 2 (sat16 (tget 0 q.cnt i)))) s,
      lnk := if p.clear = 1 then setPort f { q with cnt := [] } else s.lnk })) ∧
  (∀ p : LnkSendP, Ready h (.lnkSend p) s →
    let refused := fun st => exec (.lnkSend h p) s = .next { s with hif := answered h (.lnkSend p) st 0 [] s }
    (4095 < p.dst ∧ p.dst ≠ 0xFFFF ∨ sendMsg p = none → refused stBadParam) ∧
    (∀ m, p.dst = 0xFFFF → sendMsg p = some m →
      (gated s = true → refused stStandby) ∧
      (gated s = false → sourcePorts s = [] → refused stBusy) ∧
      (gated s = false → sourcePorts s ≠ [] → ∃ t, exec (.lnkSend h p) s = .next t ∧ t.hif = answered h (.lnkSend p) stOk 0 [] s ∧
        (s.lnk.memberId, p.vl, tget 0 s.lnk.seqs p.vl) ∈ t.lnk.seen ∧ t.hostMem = s.hostMem ∧
        tget 0 t.lnk.seqs p.vl = (tget 0 s.lnk.seqs p.vl + 1) % 65536)) ∧
    (∀ m, p.dst ≤ 4095 → sendMsg p = some m →
      (gated s = true → refused stStandby) ∧
      (gated s = false → egressPort s p.dst = none → refused stBusy) ∧
      (∀ q, gated s = false → egressPort s p.dst = some q →
        let n := (portOf s q).txSlot
        let k := slotOf s n
        k.state = 1 → k.mat.engines.testBit 1 = true → k.mat.usageCount < k.mat.usageLimit → k.mat.nc ≠ 2 ^ 64 - 1 → nonceReady s k.mat = true →
        drawReady s n = true → (∀ w ∈ s.lnk.waiting, w.1 ≠ q) → ∃ t g, exec (.lnkSend h p) s = .next t ∧
          t.hif = answered h (.lnkSend p) stOk 0 [] s ∧ t.lnk.out = s.lnk.out ++ [(q, g)] ∧ g.vl = p.vl ∧ g.kind = p.kind ∧ g.dst = p.dst ∧
          g.src = s.lnk.memberId ∧ g.hops = 1 ∧ g.enc = true ∧ g.nc = k.mat.nc ∧ g.seq = tget 0 s.lnk.seqs p.vl ∧
          (slotOf t n).mat.nc = k.mat.nc + 1 ∧ (slotOf t n).mat.usageCount = k.mat.usageCount + 1 ∧
          tget 0 t.lnk.seqs p.vl = (tget 0 s.lnk.seqs p.vl + 1) % 65536))) ∧
  (∀ n, n ≤ 2 →
    let q := portOf s n
    exec (.dlBlockLock n) s = .next { s with lnk := setPort n { q with
      lock := true,
      state := if q.enable = true ∧ q.state = 0 ∧ q.held = false ∧ s.fwall.frozen.contains (33 + n) = false then 1 else q.state } } ∧
    (q.enable = true → q.held = false → 2 ≤ n ∨ gated s = false → exec (.dlHelloTx n) s = .next { s with
      lnk := setPort n { q with hellos := min (q.hellos + 1) 0xFFFFFFFF } }) ∧
    (q.enable = false ∨ q.held = true ∨ (n < 2 ∧ gated s = true) → exec (.dlHelloTx n) s = .next s) ∧
    (∀ id m tw chip, q.enable = false → exec (.dlHelloRx n id m tw chip) s = .next s) ∧
    (∀ id m tw chip, q.enable = true →
      let ok := decide (id = s.lnk.setId ∧ m = q.expectedPeer ∧ b2n tw = q.role)
      ∃ t, exec (.dlHelloRx n id m tw chip) s = .next t ∧ t = { s with lnk := t.lnk, evt := t.evt } ∧ (portOf t n).matched = ok ∧
        (portOf t n).peer = m % 4096 ∧ (portOf t n).peerChip = chip ∧
        t.evt.cause = (if ok = false ∧ q.state = 1 ∧ q.mismatchSeen = false then causeAfter 0x114 s else s.evt.cause)) ∧
    (q.state = 1 → q.lock = true → q.matched = true → ∃ t, exec (.dlTrainingUp n) s = .next t ∧ (portOf t n).state = 2 ∧ t.hostMem = s.hostMem ∧
      ((srcCfgOf s 0x110).enable = true → t.evt.cause.testBit 0x110 = true)) ∧
    (q.state ≠ 1 ∨ q.lock = false ∨ q.matched = false → exec (.dlTrainingUp n) s = .next s) ∧
    (up n = true → ∀ e, e = exec (.dlLinkDownTimeout n) s ∨ e = exec (.dlElasticOverflow n) s → ∃ t, e = .next t ∧ (portOf t n).state = 0 ∧
      (portOf t n).lock = false ∧ tget 0 (portOf t n).cnt 7 = min (tget 0 q.cnt 7 + 1) 0xFFFFFFFF ∧ t.hostMem = s.hostMem ∧
      ((srcCfgOf s 0x111).enable = true → t.evt.cause.testBit 0x111 = true)) ∧
    (up n = false → exec (.dlLinkDownTimeout n) s = .next s ∧ exec (.dlElasticOverflow n) s = .next s)) ∧
  (∀ n (g : LinkFrame), n ≤ 2 →
    let q := portOf s n
    let cntd := fun i => { s with lnk := setPort n { q with cnt := bump q.cnt i } }
    let heard := up n = true ∧ laneOk s n g.vl = true
    let whole := heard ∧ g.aborted = false ∧ g.crcOk = true ∧ g.vl ≠ 0 ∧ g.enc = true
    let k := slotOf s q.rxSlot
    let opened := gcmOpen k.mat.key (linkIv g.ivFixed g.nc) (linkAad g g.body.length) g.body g.tag
    (¬ heard → exec (.dlFrameRx n g) s = .next s) ∧
    (heard → g.aborted = true → exec (.dlFrameRx n g) s = .next (cntd 5)) ∧
    (heard → g.aborted = false → g.crcOk = false → exec (.dlFrameRx n g) s = .next (cntd 4)) ∧
    (heard → g.aborted = false → g.crcOk = true → g.vl ≠ 0 → g.enc = false → exec (.dlFrameRx n g) s = .next (cntd 2)) ∧
    (whole → k.state = 1 → k.mat.engines.testBit 1 = true →
      (opened = none → ∃ t, exec (.dlFrameRx n g) s = .next t ∧ (portOf t n).floor = q.floor ∧
        tget 0 (portOf t n).cnt 2 = min (tget 0 q.cnt 2 + 1) 0xFFFFFFFF ∧ t.hostMem = s.hostMem ∧
        ((srcCfgOf s 0x112).enable = true → t.evt.cause.testBit 0x112 = true)) ∧
      (∀ b, opened = some b → replayed s n k.gen g.nc = true → ∃ t, exec (.dlFrameRx n g) s = .next t ∧
        t = { s with sec := { s.sec with cnt := t.sec.cnt }, lnk := setPort n { q with cnt := bump q.cnt 3 }, evt := t.evt } ∧
        t.evt.cause = causeAfter 0x113 s) ∧
      (∀ b, opened = some b → replayed s n k.gen g.nc = false → ∃ t, exec (.dlFrameRx n g) s = .next t ∧
        (portOf t n).floor = some (k.gen, g.nc) ∧ tget 0 (portOf t n).cnt 1 = min (tget 0 q.cnt 1 + 1) 0xFFFFFFFF)))

/-- The hot twin (R469-R484, R55, R479): enabled over an UP twin link to a chip of the other identity; a claim that is no lower than the peer's keeps or takes
the gates, a lost, void or tied one gives them up; the third missing heartbeat loses the peer; a record is applied and acknowledged; a snapshot is saved,
and restored where it authenticates.
Where the rules leave a choice it follows log entries 20 and 42. -/
def Obligations.HotTwin : Prop := ∀ (h : Hdr) (s : State),
  let w := s.twin
  (∀ p : TwinCfgP, Ready h (.twinCfg p) s →
    let refused := fun st => exec (.twinCfg h p) s = .next { s with hif := answered h (.twinCfg p) st 0 [] s }
    let ok := p.op = 0 ∧ p.chipId ≤ 1 ∧ 1000 ≤ p.claimOffsetUs ∧ p.claimOffsetUs + 25 ≤ s.slot.slotLenUs ∧ 500 ≤ p.deltaAckUs ∧ p.deltaAckUs ≤ 9000 ∧
      s.sys.strap.testBit 3 = true
    let linked := (portOf s 2).state = 2 ∧ (portOf s 2).role = 1
    (¬ ok → p.op ≠ 1 → refused stBadParam) ∧
    (p.op = 1 → exec (.twinCfg h p) s = .next { s with
      hif := answered h (.twinCfg p) stOk 0 [] s,
      twin := { w with configured := false, disableDue := w.gates, enableIn := none, preparing := false } }) ∧
    (ok → ¬ linked → refused stBusy) ∧
    (ok → linked → (portOf s 2).peerChip = p.chipId → refused stDuplicate) ∧
    (ok → linked → (portOf s 2).peerChip ≠ p.chipId → exec (.twinCfg h p) s = .next { s with
      hif := answered h (.twinCfg p) stOk 0 [] s,
      twin := { w with configured := true, chipId := p.chipId, claimOffset := p.claimOffsetUs, deltaAck := p.deltaAckUs } })) ∧
  (∀ p : TwinClaimP, Ready h (.twinClaim p) s →
    let ok := p.op = 0 ∨ (p.op = 1 ∧ p.priority ≤ 63)
    (¬ ok → exec (.twinClaim h p) s = .next { s with hif := answered h (.twinClaim p) stBadParam 0 [] s }) ∧
    (ok → exec (.twinClaim h p) s = .next { s with
      hif := answered h (.twinClaim p) stOk 0 (le 2 w.claimOwn ++ le 2 w.claimPeer ++ le 2 w.claimWinner) s,
      twin := if p.op = 1 then { w with priority := p.priority } else w })) ∧
  (∀ p : TwinSwitchP, Ready h (.twinSwitch p) s →
    let refused := fun st => exec (.twinSwitch h p) s = .next { s with hif := answered h (.twinSwitch p) st 0 [] s }
    let able := w.configured = true ∧ w.peerAlive = true ∧ w.peerSynced = true ∧ w.switchWait = none
    (isStandby s = true → refused stStandby) ∧
    (isStandby s = false → ¬ able → refused stBusy) ∧
    (isStandby s = false → able → exec (.twinSwitch h p) s = .next { s with
      hif := awaiting h (.twinSwitch p) s,
      twin := { w with switchWait := some (h.qp, h.tag), yielding := w.yielding || decide (w.lastAcked = w.deltaSeq) } })) ∧
  (∀ p : TwinStatusP, Ready h (.twinStatus p) s →
    (1 < p.clear → exec (.twinStatus h p) s = .next { s with hif := answered h (.twinStatus p) stBadParam 0 [] s }) ∧
    (p.clear ≤ 1 → exec (.twinStatus h p) s = .next { s with
      hif := answered h (.twinStatus p) stOk 0 (le 4 (twinStatusWord s) ++ le 2 w.claimOwn ++ le 2 w.claimWinner ++ le 2 w.claimPeer ++
        le 4 w.deltaSeq ++ le 2 (sat16 w.ackLatencyUs) ++ le 4 (tget 0 w.cnt 5)) s,
      twin := if p.clear = 1 then { w with cnt := [] } else w })) ∧
  (∀ c : Cmd, opcodeOf c / 256 = 0x0D → isStatus c = false → w.saving.isSome = true → answers s = true → s.hif.flights = [] →
    entryRefusal h (some c) s = stOk → staysDelayed h c = false → replyFull s h.qp = false →
    exec (rowOf h c) s = .next { s with hif := answered h c stBusy 0 [] s }) ∧
  (∀ p : TwinSaveStateP, Ready h (.twinSaveState p) s →
    let refused := fun st => exec (.twinSaveState h p) s = .next { s with hif := answered h (.twinSaveState p) st 0 [] s }
    let starts := fun (y : TwinSt) => exec (.twinSaveState h p) s = .next { s with
      free := s.free + 1, hif := answered h (.twinSaveState p) stPending (freshJob s) [] s, twin := y }
    (2 < p.op → refused stBadParam) ∧
    (p.op = 2 → exec (.twinSaveState h p) s = .next { s with
      hif := answered h (.twinSaveState p) stOk 0 [] s, flash := { s.flash with saved := none } }) ∧
    (p.op = 0 → w.saving = none → 96 * 2 ^ 20 < Config.savedBytes s.free → refused stNoRoom) ∧
    (p.op = 0 → w.saving = none → Config.savedBytes s.free ≤ 96 * 2 ^ 20 → starts { w with saving := some (0, freshJob s), snapshot := none }) ∧
    (p.op = 1 → w.saving = none → s.slot.running = true → refused stBusy) ∧
    (p.op = 1 → w.saving = none → s.slot.running = false → (∀ v, s.flash.saved = some v → v.salt ≠ s.aon.salt) → refused stAuthFail) ∧
    (∀ v, p.op = 1 → w.saving = none → s.slot.running = false → s.flash.saved = some v → v.salt = s.aon.salt →
      starts { w with saving := some (1, freshJob s), usageFloor := p.usageFloor })) ∧
  (∀ a b, w.saving = none → exec (.twinSaveDone a b) s = .next s) ∧
  (∀ j b, w.saving = some (0, j) → exec (.twinSaveDone false b) s = .next (raise 0x127 { s with
    twin := { w with saving := none, snapshot := none }, flash := { s.flash with saved := some (w.snapshot.getD (capture s)) } })) ∧
  (∀ j, w.saving = some (1, j) → exec (.twinSaveDone true false) s = .next (raise 0x127 { s with twin := { w with saving := none, snapshot := none } })) ∧
  (∀ j v, w.saving = some (1, j) → s.flash.saved = some v → ∃ t, exec (.twinSaveDone true true) s = .next t ∧ t.tbl = v.tblB ∧
    t.slot.running = false ∧ t.budg.bands = v.budgB.bands ∧ t.budg.debits = s.budg.debits ∧ t.twin.saving = none ∧ t.otp = s.otp) ∧
  (w.configured = false → exec .twinWatchdogExpiry s = .next s ∧ exec .heartbeatTx s = .next s ∧ exec .heartbeatMissing s = .next s ∧
    ∀ peer bus, exec (.claimArbitration peer bus) s = .next s) ∧
  (w.configured = true → ∃ t, exec .twinWatchdogExpiry s = .next t ∧ t.twin.live = false ∧ t.twin.gates = false ∧ t.twin.configured = true ∧
    t.otp = s.otp) ∧
  (∀ peer bus, w.configured = true →
    let own := claimWord s
    let win := ∀ p, peer = some p → p % 65536 ≤ own
    let tie := own = w.claimPeer ∧ w.tieCheck = true
    ∃ t, exec (.claimArbitration peer bus) s = .next t ∧ t.twin.claimOwn = own ∧ t.twin.void = !bus ∧ t.sec = s.sec ∧ t.slot = s.slot ∧
      (bus = true → win → ¬ tie → s.sys.refLost.testBit 3 = false → t.twin.incumbent = true ∧ t.twin.claimWinner = own ∧
        t.twin.gates = w.gates ∧ (w.incumbent = false → t.twin.enableIn = some 2)) ∧
      (bus = false ∨ ¬ win ∨ tie → t.twin.incumbent = false ∧ t.twin.enableIn = none ∧ t.twin.disableDue = (w.disableDue || w.gates)) ∧
      (∀ p, peer = some p → bus = true → ¬ win → t.twin.claimWinner = p % 65536)) ∧
  (w.configured = true → w.live = true → ∃ t, exec .heartbeatTx s = .next t ∧ t.twin.beats = min (w.beats + 1) 0xFFFFFFFF ∧
    tget 0 t.lnk.seqs 2 = (tget 0 s.lnk.seqs 2 + 1) % 65536 ∧ t.hostMem = s.hostMem) ∧
  (w.configured = true → w.live = false → exec .heartbeatTx s = .next s) ∧
  (w.configured = true → w.missedBeats < 2 → exec .heartbeatMissing s = .next { s with twin := { w with missedBeats := w.missedBeats + 1 } }) ∧
  (w.configured = true → w.missedBeats = 2 → exec .heartbeatMissing s = .next (raise 0x122 { s with twin := { w with
    missedBeats := 3, peerAlive := false, tieCheck := false, peerSynced := false, bulkDone := false } })) ∧
  (∀ d, s.sys.devState ≠ .run ∨ w.configured = false ∨ w.gates = true → exec (.deltaRx d) s = .next s ∧ exec (.twinBulkRx d) s = .next s) ∧
  (∀ d, s.sys.devState = .run → w.configured = true → w.gates = false → d.cmds = [] →
    (∃ t, exec (.deltaRx d) s = .next t ∧ t.twin.deltaSeq = d.seq ∧ t.twin.synced = decide ((d.asn + 1) % 2 ^ 40 = s.slot.asn) ∧
      t.slot.frontF = d.frontF ∧ t.slot.frontP = d.frontP ∧ t.slot.guardUs = d.guardUs ∧ t.slot.misses = d.misses) ∧
    (∃ t, exec (.twinBulkRx d) s = .next t ∧ t.slot.guardUs = d.guardUs ∧ t.slot.misses = d.misses ∧
      (d.last = true → t.twin.bulkDone = true ∧ ((srcCfgOf s 0x123).enable = true → t.evt.cause.testBit 0x123 = true)) ∧
      (∀ n u nc, d.keys = [] → d.counters = [(n, u, nc)] →
        (slotOf t n).mat.usageCount = u ∧ (slotOf t n).mat.copiedUse = u ∧ (slotOf t n).mat.copiedNc = nc))) ∧
  (w.configured = true → w.gates = true → w.lastAcked ≠ w.deltaSeq →
    exec .deltaAckTimeout s = .next (raise 0x126 { s with twin := { w with cnt := bump w.cnt 4 } })) ∧
  (w.configured = false ∨ w.gates = false ∨ w.lastAcked = w.deltaSeq → exec .deltaAckTimeout s = .next s)

/-! HLTH, DDR, DIAG and TEST. -/

/-- Health and memory errors (R506-R508, R522-R531, R540, R542): the counts are reported, a resource is retired where there is one to retire; a corrected
error is counted, an uncorrectable one poisons its unit, and in the firmware's region or in a dirty line it is fatal; a candidate page and a failed block are
replaced while spares last.
Where the rules leave a choice it follows log entries 5 and 44. -/
def Obligations.HealthAndMemoryErrors : Prop := ∀ (h : Hdr) (s : State),
  let d := s.ddr
  let set := fun n (t : State) => (srcCfgOf s n).enable = true → t.evt.cause.testBit n = true
  let worn := { s.hlth with cnt := bump s.hlth.cnt 3 }
  (∀ p : HlthStatusP, Ready h (.hlthStatus p) s →
    (1 < p.clear → exec (.hlthStatus h p) s = .next { s with hif := answered h (.hlthStatus p) stBadParam 0 [] s }) ∧
    (p.clear ≤ 1 → exec (.hlthStatus h p) s = .next { s with
      hif := answered h (.hlthStatus p) stOk 0 (le 4 s.hlth.degraded ++ le 1 (coresActive s) ++ le 1 (coresSpare s) ++ le 1 (sparesFree s) ++
        le 1 s.otp.enrolled ++ le 2 s.flash.retiredPages.length ++ le 2 s.flash.flashRemaps.length ++ le 2 (popcount s.otp.dead 16) ++
        le 2 s.otp.svBurnt ++ le 2 s.otp.clearBurnt ++ le 2 s.sec.pufErrors) s,
      hlth := if p.clear = 1 then { s.hlth with cnt := [] } else s.hlth })) ∧
  (∀ p : HlthSpareMapP, Ready h (.hlthSpareMap p) s →
    let ok := p.op = 0 ∨ (p.op = 1 ∧ p.reserve ≤ 8)
    let reserve := if p.op = 1 then p.reserve else s.lane.reserve
    (¬ ok → exec (.hlthSpareMap h p) s = .next { s with hif := answered h (.hlthSpareMap p) stBadParam 0 [] s }) ∧
    (ok → exec (.hlthSpareMap h p) s = .next { s with
      hif := answered h (.hlthSpareMap p) stOk 0 (le 1 reserve) s, lane := { s.lane with reserve := reserve },
      hostMem := if p.bufferAddr = 0 then s.hostMem else
        memWrite s.hostMem p.bufferAddr ((hlthRegs s).flatMap (fun x => le 4 x.2) ++ (List.range 96).flatMap (fun n => le 4 (lmapWord s n))) })) ∧
  (∀ p : HlthRetireP, Ready h (.hlthRetire p) s →
    let i := p.index
    let refused := exec (.hlthRetire h p) s = .next { s with hif := answered h (.hlthRetire p) stBadParam 0 [] s }
    (4 < p.kind → refused) ∧
    (p.kind = 0 → 9 < i ∨ i = recoveryCore s → refused) ∧
    (∀ q, p.kind = 0 → i ≤ 9 → i ≠ recoveryCore s → s.hlth.coresActive.testBit i = true → spareCore s = some q →
      ∃ t, exec (.hlthRetire h p) s = .next t ∧ t.hif = answered h (.hlthRetire p) stOk 0 (le 1 1) s ∧ t.hlth.coresActive.testBit i = false ∧
        t.hlth.coresActive.testBit q = true ∧ t.flash.failedCores.testBit i = true ∧ set 0x15B t) ∧
    (p.kind = 0 → i ≤ 9 → i ≠ recoveryCore s → s.hlth.coresActive.testBit i = false → s.flash.failedCores.testBit i = true →
      exec (.hlthRetire h p) s = .next { s with hif := answered h (.hlthRetire p) stOk 0 (le 1 0) s }) ∧
    (p.kind = 1 → 103 < i → refused) ∧
    (p.kind = 1 → i ≤ 103 → roleOf s i = 1 ∨ roleOf s i = 2 → ∃ t, exec (.hlthRetire h p) s = .next t ∧ roleOf t i = 3 ∧
      i ∈ t.flash.failedLanes ∧ doneFlight h (.hlthRetire p) stOk 0 (le 1 0) s ∈ t.hif.flights) ∧
    (p.kind = 2 → 256 * s.sys.dramMib ≤ i → refused) ∧
    (p.kind = 2 → i < 256 * s.sys.dramMib → s.flash.retiredPages.length < 16384 → ∃ t, exec (.hlthRetire h p) s = .next t ∧
      t = { s with hif := answered h (.hlthRetire p) stOk 0 (le 1 1) s, ddr := { d with candidates := t.ddr.candidates }, hlth := t.hlth } ∧
      (i ∈ t.ddr.candidates ∨ ∃ e ∈ s.flash.retiredPages, e.1 = i)) ∧
    (p.kind = 3 → i < 16 ∨ 8192 ≤ i → refused) ∧
    (p.kind = 3 → 16 ≤ i → i < 8192 → s.flash.flashRemaps.length < 496 → exec (.hlthRetire h p) s = .next (raise 0x15E { s with
      hif := answered h (.hlthRetire p) stOk 0 (le 1 1) s, hlth := worn, flash := { s.flash with flashRemaps := s.flash.flashRemaps ++ [i] } })) ∧
    (p.kind = 4 → 2 < i ∨ i = s.otp.pufArray → refused) ∧
    (p.kind = 4 → i ≤ 2 → i ≠ s.otp.pufArray → ∃ t, exec (.hlthRetire h p) s = .next t ∧
      t = { s with hif := answered h (.hlthRetire p) stOk 0 (le 1 0) s, otp := { s.otp with pufBad := t.otp.pufBad } } ∧
      ∀ b, t.otp.pufBad.testBit b = (s.otp.pufBad.testBit b || decide (b = i)))) ∧
  (∀ a, ∃ t, exec (.dramCe a) s = .next t ∧ t = { s with ddr := t.ddr, hlth := t.hlth, evt := t.evt } ∧
    tget 0 t.ddr.cnt 0 = min (tget 0 d.cnt 0 + 1) 0xFFFFFFFF ∧ t.ddr.lastCe = a / 64 % 2 ^ 32 ∧ t.ddr.poisoned = d.poisoned ∧
    (d.ceSec ≠ some (rawSec s) → set 0x148 t) ∧ (d.ceSec = some (rawSec s) → t.evt = s.evt)) ∧
  (∀ a, ∃ t, exec (.dramUe a) s = .next t ∧ a / 64 ∈ t.ddr.poisoned ∧ t.ddr.lastUe = a / 64 % 2 ^ 32 ∧ set 0x149 t ∧
    tget 0 t.ddr.cnt 1 = min (tget 0 d.cnt 1 + 1) 0xFFFFFFFF ∧
    (s.flash.retiredPages = [] → 592 * 1048576 ≤ a → t = { s with ddr := t.ddr, hlth := t.hlth, evt := t.evt }) ∧
    (s.flash.retiredPages = [] → a < 256 * 1048576 → s.sys.devState = .run → t.sys.devState = .halted ∧ t.sys.haltCause = some 3)) ∧
  (∀ a, exec (.ddrCaAlert a false) s = .next { s with ddr := { d with cnt := bump d.cnt 2 } } ∧
    ∃ t, exec (.ddrCaAlert a true) s = .next t ∧ a / 64 ∈ t.ddr.poisoned ∧ set 0x14B t ∧ set 0x149 t) ∧
  (exec (.patrolScrub false) s = .next s ∧ exec (.patrolScrub true) s = .next { s with ddr := { d with cnt := bump d.cnt 3 } }) ∧
  (∀ c : Int, (85 ≤ c → d.refresh2x = false → exec (.ddrTempPoll c) s = .next (raise 0x14A { s with ddr := { d with refresh2x := true } })) ∧
    (c < 80 → exec (.ddrTempPoll c) s = .next { s with ddr := { d with refresh2x := false } }) ∧
    (80 ≤ c → c < 85 ∨ d.refresh2x = true → exec (.ddrTempPoll c) s = .next s)) ∧
  (∀ p, p ∉ d.candidates → exec (.pageRetireDone p) s = .next s) ∧
  (∀ p, p ∈ d.candidates → s.flash.retiredPages.length < 16384 → exec (.pageRetireDone p) s = .next (raise 0x15D { s with
    ddr := { d with candidates := d.candidates.filter (fun x => decide (x ≠ p)) },
    flash := { s.flash with retiredPages := s.flash.retiredPages ++ [(p, 151552 + s.flash.retiredPages.length)] } })) ∧
  (∀ b, (8192 ≤ b → exec (.flashBlockFail b) s = .next s) ∧
    (b < 16 → exec (.flashBlockFail b) s = .next { s with hlth := worn }) ∧
    (16 ≤ b → b < 8192 → s.flash.flashRemaps.length < 496 → exec (.flashBlockFail b) s = .next (raise 0x15E { s with
      hlth := worn, flash := { s.flash with flashRemaps := s.flash.flashRemaps ++ [b] } }))) ∧
  (∀ m dirty row, (6 < m → ∀ u, exec (.sramEccError m u dirty row) s = .next s) ∧
    (m < 4 → ∃ t, exec (.sramEccError m false dirty row) s = .next t ∧ t = { s with hlth := t.hlth, evt := t.evt } ∧
      tget 0 t.hlth.cnt 0 = min (tget 0 s.hlth.cnt 0 + 1) 0xFFFFFFFF) ∧
    ((m = 1 ∧ dirty = true) ∨ m = 3 → s.sys.devState = .run → ∃ t, exec (.sramEccError m true dirty row) s = .next t ∧
      t.sys.devState = .halted ∧ t.sec.slots = []) ∧
    (m = 2 ∨ (m = 1 ∧ dirty = false) → exec (.sramEccError m true dirty row) s = .next (raise 0x162 { s with
      hlth := { s.hlth with cnt := bump s.hlth.cnt 1 } })) ∧
    (m = 0 → ∃ t, exec (.sramEccError m true dirty row) s = .next t ∧ set 0x162 t) ∧
    (4 ≤ m → m ≤ 6 → ∀ u, ∃ t, exec (.sramEccError m u dirty row) s = .next t ∧ t = { s with hlth := t.hlth, evt := t.evt, tbl := t.tbl } ∧
      tget 0 t.hlth.cnt 1 = min (tget 0 s.hlth.cnt 1 + 1) 0xFFFFFFFF ∧ set 0x162 t ∧ set 0xC0 t))

/-- The firewall and the dumps (R515-R521, R538-R542): a master whose access its deciding region does not allow is frozen and recorded, and the recovery
core's stops the part; a frozen master is released only after its owner reset; a region above the firmware's own is set or disabled; a dump is read or released.
Where the rules leave a choice it follows log entries 24, 25 and 44. -/
def Obligations.FirewallAndDumps : Prop := ∀ (h : Hdr) (s : State),
  let w := s.fwall
  (∀ m a write, 35 < m ∨ w.frozen.contains m = true ∨ fwallAllows s m a write = true → exec (.fwallViolation m a write) s = .next s) ∧
  (∀ m a write, m ≤ 35 → w.frozen.contains m = false → fwallAllows s m a write = false → ∃ t, exec (.fwallViolation m a write) s = .next t ∧
    t.fwall.frozen = w.frozen ++ [m] ∧ m ∉ t.fwall.ownerReset ∧ t.fwall.violations = min (w.violations + 1) 0xFFFFFFFF ∧ t.fwall.regions = w.regions ∧
    ((srcCfgOf s 0x150).enable = true → t.evt.cause.testBit 0x150 = true) ∧
    (w.records.length < 8 → ∃ r, t.fwall.records = w.records ++ [r] ∧ r.master = m ∧ r.addr = a % 2 ^ 48 ∧ r.isWrite = write) ∧
    (8 ≤ w.records.length → t.fwall.records = w.records) ∧
    (m < 10 → m = recoveryCore s → s.sys.devState = .run → t.sys.devState = .halted ∧ t.sys.haltCause = some 2)) ∧
  (∀ m, (w.frozen.contains m = false ∨ w.ownerReset.contains m = true → exec (.masterOwnerReset m) s = .next s) ∧
    (w.frozen.contains m = true → w.ownerReset.contains m = false → exec (.masterOwnerReset m) s = .next { s with
      fwall := { w with ownerReset := w.ownerReset ++ [m] } })) ∧
  (∀ p : DiagUnfreezeP, Ready h (.diagUnfreeze p) s →
    let m := h.flow - 0x100
    (w.frozen.contains m = false → exec (.diagUnfreeze h p) s = .next { s with hif := answered h (.diagUnfreeze p) stOk 0 (le 1 0) s }) ∧
    (w.frozen.contains m = true → w.ownerReset.contains m = false →
      exec (.diagUnfreeze h p) s = .next { s with hif := answered h (.diagUnfreeze p) stBusy 0 [] s }) ∧
    (w.frozen.contains m = true → w.ownerReset.contains m = true → ∃ t, exec (.diagUnfreeze h p) s = .next t ∧
      t = { s with
        hif := answered h (.diagUnfreeze p) stOk 0 (le 1 1) s, lnk := t.lnk,
        fwall := { w with
          frozen := w.frozen.filter (fun x => decide (x ≠ m)), ownerReset := w.ownerReset.filter (fun x => decide (x ≠ m)) } } ∧
      (m < 33 → t.lnk = s.lnk) ∧
      (33 ≤ m → (portOf s (m - 33)).enable = true → (portOf s (m - 33)).lock = true → (portOf s (m - 33)).held = false →
        (portOf s (m - 33)).state = 0 → (portOf t (m - 33)).state = 1))) ∧
  (∀ p : DiagFwRegionP, Ready h (.diagFwRegion p) s →
    let refused := exec (.diagFwRegion h p) s = .next { s with hif := answered h (.diagFwRegion p) stBadParam 0 [] s }
    let put := fun (r : FwRegion) => exec (.diagFwRegion h p) s = .next { s with
      hif := answered h (.diagFwRegion p) stOk 0 [] s, fwall := { w with regions := tput w.regions p.region r } }
    let ok := 16 ≤ p.region ∧ p.region ≤ 63
    let range := p.base % 4096 = 0 ∧ p.base < 2 ^ 48 ∧ p.size % 4096 = 0 ∧ 4096 ≤ p.size ∧ p.size ≤ 2 ^ 34
    (¬ ok ∨ 1 < p.op → refused) ∧
    (ok → p.op = 0 → put { tget {} w.regions p.region with enable := false }) ∧
    (ok → p.op = 1 → ¬ range → refused) ∧
    (ok → p.op = 1 → range → put { base := p.base, pages := p.size / 4096, read := p.readGroups, write := p.writeGroups, enable := true })) ∧
  (∀ p : DiagDumpReadP, Ready h (.diagDumpRead p) s →
    let refused := fun st => exec (.diagDumpRead h p) s = .next { s with hif := answered h (.diagDumpRead p) st 0 [] s }
    let ok := p.op ≤ 1 ∧ p.src ≤ 2 ∧ p.len ≤ 16384 ∧ (p.src = 0 → s.sys.devState = .run ∨ s.sys.devState = .init)
    let from' := if p.src = 0 then s.dump.dram else tfind s.flash.dumps (p.src - 1)
    (1 < p.op ∨ 2 < p.src ∨ 16384 < p.len → refused stBadParam) ∧
    (p.op ≤ 1 → p.src = 0 → p.len ≤ 16384 → s.sys.devState ≠ .run → s.sys.devState ≠ .init → refused stBusy) ∧
    (ok → p.op = 1 → exec (.diagDumpRead h p) s = .next { s with
      hif := answered h (.diagDumpRead p) stOk 0 (zeros 8) s,
      dump := if p.src = 0 then { s.dump with dram := none } else s.dump,
      flash := if p.src = 0 then s.flash else { s.flash with dumps := tdel s.flash.dumps (p.src - 1) } }) ∧
    (ok → p.op = 0 → from' = none → exec (.diagDumpRead h p) s = .next { s with hif := answered h (.diagDumpRead p) stOk 0 (zeros 8) s }) ∧
    (∀ r, ok → p.op = 0 → from' = some r →
      let l := ((r.bytes.take r.length).drop p.offset).take p.len
      exec (.diagDumpRead h p) s = .next { s with
        hif := answered h (.diagDumpRead p) stOk 0 (le 4 l.length ++ le 4 r.length) s,
        hostMem := if p.bufferAddr = 0 then s.hostMem else memWrite s.hostMem p.bufferAddr l }))

/-- Tests and the TAP (R491, R492, R543-R558): one test at a time (ST_BUSY), its parameters in range, ST_STANDBY for what radiates on a chip without the gates;
a test accepted answers ST_PENDING with its job and holds its port; it ends with what it counted, or aborted with ST_FLUSHED; the TAP answers BYPASS outside
test mode.
Where the rules leave a choice it follows log entries 4 and 45. -/
def Obligations.TestsAndTap : Prop := ∀ (h : Hdr) (s : State),
  let w := s.test
  let taken := fun (c : Cmd) (i : Instr) (r : TestRun) => ∃ t j, exec i s = .next t ∧ doneFlight h c stPending j [] s ∈ t.hif.flights ∧
    t.test.run = some { r with job := j } ∧ t.test.last = none ∧ t.test.finalStatus = stPending
  let held := fun (n : Nat) (t : State) => (n = 4 ∨ n = 5 → (ethOf t (n - 4)).held = true ∧ (ethOf t (n - 4)).link = false) ∧
    (6 ≤ n → n ≤ 8 → (portOf t (n - 6)).held = true ∧ (portOf t (n - 6)).state = 0)
  let chainBusy := fun (c phy ch : Nat) => if (channelCentre (chainOf s c) phy ch).isNone then stBadParam else
    if (chainOf s c).service = 2 then stDegraded else if (chainOf s c).service = 1 ∨ (chainOf s c).cal.isSome then stBusy else stOk
  let idle := s.twin.configured = true ∧ gateHeld s = false
  (∀ c : Cmd, opcodeOf c / 256 = 0x10 → isStatus c = false → w.run.isSome = true → answers s = true → s.hif.flights = [] →
    entryRefusal h (some c) s = stOk → staysDelayed h c = false → replyFull s h.qp = false →
    exec (rowOf h c) s = .next { s with hif := answered h c stBusy 0 [] s }) ∧
  (∀ p : TestLoopbackP, Ready h (.testLoopback p) s →
    let refused := fun st => exec (.testLoopback h p) s = .next { s with hif := answered h (.testLoopback p) st 0 [] s }
    let r : TestRun := {
      kind := 1, target := p.target, depth := p.depth, pattern := p.pattern, frameLen := p.frameLen, durationMs := p.durationMs, channel := p.channel,
      phy := p.phyMode, power := p.powerHdbm, started := true }
    let ok := p.target ≤ 9 ∧ depthOk p.target p.depth = true ∧ p.pattern ≤ 2 ∧ 16 ≤ p.frameLen ∧ p.frameLen ≤ 2047 ∧ 1 ≤ p.durationMs ∧ p.durationMs ≤ 60000
    let radiates := p.depth = 3 ∨ (p.target < 4 ∧ p.depth = 2)
    (w.run = none → ¬ ok → refused stBadParam) ∧
    (w.run = none → ok → radiates → idle → refused stStandby) ∧
    (w.run = none → ok → ¬ (radiates ∧ idle) → p.target < 4 → chainBusy p.target p.phyMode p.channel ≠ stOk →
      refused (chainBusy p.target p.phyMode p.channel)) ∧
    (w.run = none → ok → ¬ (radiates ∧ idle) → p.target < 4 → chainBusy p.target p.phyMode p.channel = stOk → (∀ q < 104, roleOf s q ≠ 1) →
      refused stBusy) ∧
    (∀ q, w.run = none → ok → ¬ (radiates ∧ idle) → p.target < 4 → chainBusy p.target p.phyMode p.channel = stOk →
      (List.range 104).find? (fun x => decide (roleOf s x = 1)) = some q → s.slot.running = true → taken (.testLoopback p) (.testLoopback h p) { r with
        started := false, lane := some q, fromAsn := firstUnbuilt s, slots := cdiv (1000 * p.durationMs) s.slot.slotLenUs }) ∧
    (w.run = none → ok → ¬ (radiates ∧ idle) → (p.target = 8 ∧ (portOf s 2).role = 1) ∨ (p.target = 9 ∧ h.qp < 64) → refused stBusy) ∧
    (w.run = none → ok → ¬ (radiates ∧ idle) → 4 ≤ p.target → ¬ (p.target = 8 ∧ (portOf s 2).role = 1) → (p.target = 9 → 64 ≤ h.qp) →
      taken (.testLoopback p) (.testLoopback h p) r ∧ ∀ t, exec (.testLoopback h p) s = .next t → held p.target t ∧ (p.target = 9 → t.pcie.held = true))) ∧
  (∀ p : TestPatternP, Ready h (.testPattern p) s →
    let refused := fun st => exec (.testPattern h p) s = .next { s with hif := answered h (.testPattern p) st 0 [] s }
    let r : TestRun := {
      kind := 3, target := p.target, pattern := p.pattern, durationMs := p.durationMs, channel := p.channel, phy := p.phyMode, power := p.powerHdbm,
      started := true }
    let ok := p.target ≤ 8 ∧ p.pattern ≤ 4 ∧ (p.target < 4 → p.pattern ≤ 2) ∧ (4 ≤ p.target → 3 ≤ p.pattern) ∧ 1 ≤ p.durationMs ∧ p.durationMs ≤ 60000 ∧
      (p.pattern = 2 → 10 ≤ p.toneKhz ∧ p.toneKhz ≤ 500)
    let free := w.run = none ∧ ok ∧ ¬ idle
    (w.run = none → ¬ ok → refused stBadParam) ∧
    (w.run = none → ok → idle → refused stStandby) ∧
    (free → p.target < 4 → chainBusy p.target p.phyMode p.channel ≠ stOk → refused (chainBusy p.target p.phyMode p.channel)) ∧
    (free → p.target < 4 → chainBusy p.target p.phyMode p.channel = stOk → s.slot.running = true → taken (.testPattern p) (.testPattern h p) { r with
      started := false, fromAsn := firstUnbuilt s, slots := cdiv (1000 * p.durationMs) s.slot.slotLenUs }) ∧
    (free → p.target = 8 → (portOf s 2).role = 1 → refused stBusy) ∧
    (free → 4 ≤ p.target → ¬ (p.target = 8 ∧ (portOf s 2).role = 1) → taken (.testPattern p) (.testPattern h p) r ∧
      ∀ t, exec (.testPattern h p) s = .next t → held p.target t)) ∧
  (∀ p : TestBistP, Ready h (.testBist p) s →
    let refused := fun st => exec (.testBist h p) s = .next { s with hif := answered h (.testBist p) st 0 [] s }
    let allowed := ∀ i < 11, p.mask.testBit i = true → (s.sys.devState = .run ↔ 6 ≤ i)
    (w.run = none → p.mask = 0 ∨ 2047 < p.mask → refused stBadParam) ∧
    (w.run = none → p.mask ≠ 0 → p.mask ≤ 2047 → ¬ allowed → refused stBusy) ∧
    (w.run = none → p.mask ≠ 0 → p.mask ≤ 2047 → allowed → p.mask.testBit 10 = true → bistRangeOk p s = false → refused stBadParam) ∧
    (w.run = none → p.mask ≠ 0 → p.mask ≤ 2047 → allowed → p.mask.testBit 10 = false ∨ bistRangeOk p s = true → ∃ t, exec (.testBist h p) s = .next t ∧
      t = { s with free := s.free + 1, hif := answered h (.testBist p) stPending (freshJob s) [] s, test := t.test } ∧
      ∃ r, t.test.run = some r ∧ r.kind = 2 ∧ r.mask = p.mask ∧ r.job = freshJob s ∧ t.test.last = none)) ∧
  (∀ p : TestStatusP, Ready h (.testStatus p) s →
    (1 < p.op → exec (.testStatus h p) s = .next { s with hif := answered h (.testStatus p) stBadParam 0 [] s }) ∧
    (p.op = 0 ∨ (p.op = 1 ∧ w.run = none) → exec (.testStatus h p) s = .next { s with
      hif := answered h (.testStatus p) stOk 0 (le 4 (testStatusWord s) ++ le 4 w.sent ++ le 4 w.received ++ le 4 w.errors ++ le 4 (bistFailWord s) ++
        le 2 w.finalStatus ++ leS 2 w.lastRl) s }) ∧
    (∀ r, p.op = 1 → w.run = some r → ∃ t, exec (.testStatus h p) s = .next t ∧ t.hif = answered h (.testStatus p) stOk 0 (testReply t) s ∧
      t.test = { w with run := none, last := some r, finalStatus := stFlushed } ∧ t.evt.cause = causeAfter 0x16E s)) ∧
  (∀ a b c e f, w.run = none → exec (.testComplete a b c e f) s = .next s) ∧
  (∀ a b c e f r, w.run = some r → r.started = true → ∃ t, exec (.testComplete a b c e f) s = .next t ∧ t.test.run = none ∧ t.test.last = some r ∧
    t.test.sent = a ∧ t.test.received = b ∧ t.test.errors = c ∧ t.test.finalStatus = stOk ∧ t.hostMem = s.hostMem ∧
    ((srcCfgOf s 0x16C).enable = true → t.evt.cause.testBit 0x16C = true) ∧ (r.kind ≠ 2 → t.test.bistFail = 0) ∧
    (r.kind = 2 → ∀ i < 11, t.test.bistFail.testBit i = (e.testBit i && r.mask.testBit i))) ∧
  (∀ ir, exec (.jtagInstruction ir) s = .next { s with sys := { s.sys with jtagIr := some (
    if ir = 2 ∨ (s.sys.testMode = true ∧ s.sys.devState ≠ .tamperHold ∧ (ir ≤ 4 ∨ ir = 0x10 ∨ ir = 0x11)) then ir else 0xFF) } }) ∧
  (∀ q tag fin n items, q ≤ 93 → tag ≤ 127 → exec (.queueFlushWriter q tag fin n items) s = .next { s with test := { w with
    flushWords := tput w.flushWords (128 * q + tag) (min 0xFFFFFFFF (tget 0 w.flushWords (128 * q + tag) + n)),
    flushItems := tput w.flushItems (128 * q + tag)
      (min 0xFFFFFFFF (tget 0 w.flushItems (128 * q + tag) + (items + if fin = true then 0 else 1))) } }) ∧
  (∀ q tag fin n items, 93 < q ∨ 127 < tag → exec (.queueFlushWriter q tag fin n items) s = .next s)
end

