-- ==== Sys2Proof/Laws/State.lean ====
section
/-!
SUPPORT. One lemma per block per block update: true by rfl, so that no later proof unfolds a record update.
-/
namespace Sys2Proof.Machine

@[simp] theorem withPending_pending (f) (s : State) : (withPending f s).pending = f s.pending := rfl
@[simp] theorem withPending_free (f) (s : State) : (withPending f s).free = s.free := rfl
@[simp] theorem withPending_sys (f) (s : State) : (withPending f s).sys = s.sys := rfl
@[simp] theorem withPending_boot (f) (s : State) : (withPending f s).boot = s.boot := rfl
@[simp] theorem withPending_hif (f) (s : State) : (withPending f s).hif = s.hif := rfl
@[simp] theorem withPending_evt (f) (s : State) : (withPending f s).evt = s.evt := rfl
@[simp] theorem withPending_rfc (f) (s : State) : (withPending f s).rfc = s.rfc := rfl
@[simp] theorem withPending_lane (f) (s : State) : (withPending f s).lane = s.lane := rfl
@[simp] theorem withPending_slot (f) (s : State) : (withPending f s).slot = s.slot := rfl
@[simp] theorem withPending_budg (f) (s : State) : (withPending f s).budg = s.budg := rfl
@[simp] theorem withPending_tm (f) (s : State) : (withPending f s).tm = s.tm := rfl
@[simp] theorem withPending_tbl (f) (s : State) : (withPending f s).tbl = s.tbl := rfl
@[simp] theorem withPending_sec (f) (s : State) : (withPending f s).sec = s.sec := rfl
@[simp] theorem withPending_aon (f) (s : State) : (withPending f s).aon = s.aon := rfl
@[simp] theorem withPending_otp (f) (s : State) : (withPending f s).otp = s.otp := rfl
@[simp] theorem withPending_flash (f) (s : State) : (withPending f s).flash = s.flash := rfl
@[simp] theorem withPending_cry (f) (s : State) : (withPending f s).cry = s.cry := rfl
@[simp] theorem withPending_chk (f) (s : State) : (withPending f s).chk = s.chk := rfl
@[simp] theorem withPending_upd (f) (s : State) : (withPending f s).upd = s.upd := rfl
@[simp] theorem withPending_time (f) (s : State) : (withPending f s).time = s.time := rfl
@[simp] theorem withPending_lnk (f) (s : State) : (withPending f s).lnk = s.lnk := rfl
@[simp] theorem withPending_twin (f) (s : State) : (withPending f s).twin = s.twin := rfl
@[simp] theorem withPending_eth (f) (s : State) : (withPending f s).eth = s.eth := rfl
@[simp] theorem withPending_pcie (f) (s : State) : (withPending f s).pcie = s.pcie := rfl
@[simp] theorem withPending_ddr (f) (s : State) : (withPending f s).ddr = s.ddr := rfl
@[simp] theorem withPending_fwall (f) (s : State) : (withPending f s).fwall = s.fwall := rfl
@[simp] theorem withPending_hlth (f) (s : State) : (withPending f s).hlth = s.hlth := rfl
@[simp] theorem withPending_dump (f) (s : State) : (withPending f s).dump = s.dump := rfl
@[simp] theorem withPending_test (f) (s : State) : (withPending f s).test = s.test := rfl
@[simp] theorem withPending_hostMem (f) (s : State) : (withPending f s).hostMem = s.hostMem := rfl
@[simp] theorem withFree_pending (f) (s : State) : (withFree f s).pending = s.pending := rfl
@[simp] theorem withFree_free (f) (s : State) : (withFree f s).free = f s.free := rfl
@[simp] theorem withFree_sys (f) (s : State) : (withFree f s).sys = s.sys := rfl
@[simp] theorem withFree_boot (f) (s : State) : (withFree f s).boot = s.boot := rfl
@[simp] theorem withFree_hif (f) (s : State) : (withFree f s).hif = s.hif := rfl
@[simp] theorem withFree_evt (f) (s : State) : (withFree f s).evt = s.evt := rfl
@[simp] theorem withFree_rfc (f) (s : State) : (withFree f s).rfc = s.rfc := rfl
@[simp] theorem withFree_lane (f) (s : State) : (withFree f s).lane = s.lane := rfl
@[simp] theorem withFree_slot (f) (s : State) : (withFree f s).slot = s.slot := rfl
@[simp] theorem withFree_budg (f) (s : State) : (withFree f s).budg = s.budg := rfl
@[simp] theorem withFree_tm (f) (s : State) : (withFree f s).tm = s.tm := rfl
@[simp] theorem withFree_tbl (f) (s : State) : (withFree f s).tbl = s.tbl := rfl
@[simp] theorem withFree_sec (f) (s : State) : (withFree f s).sec = s.sec := rfl
@[simp] theorem withFree_aon (f) (s : State) : (withFree f s).aon = s.aon := rfl
@[simp] theorem withFree_otp (f) (s : State) : (withFree f s).otp = s.otp := rfl
@[simp] theorem withFree_flash (f) (s : State) : (withFree f s).flash = s.flash := rfl
@[simp] theorem withFree_cry (f) (s : State) : (withFree f s).cry = s.cry := rfl
@[simp] theorem withFree_chk (f) (s : State) : (withFree f s).chk = s.chk := rfl
@[simp] theorem withFree_upd (f) (s : State) : (withFree f s).upd = s.upd := rfl
@[simp] theorem withFree_time (f) (s : State) : (withFree f s).time = s.time := rfl
@[simp] theorem withFree_lnk (f) (s : State) : (withFree f s).lnk = s.lnk := rfl
@[simp] theorem withFree_twin (f) (s : State) : (withFree f s).twin = s.twin := rfl
@[simp] theorem withFree_eth (f) (s : State) : (withFree f s).eth = s.eth := rfl
@[simp] theorem withFree_pcie (f) (s : State) : (withFree f s).pcie = s.pcie := rfl
@[simp] theorem withFree_ddr (f) (s : State) : (withFree f s).ddr = s.ddr := rfl
@[simp] theorem withFree_fwall (f) (s : State) : (withFree f s).fwall = s.fwall := rfl
@[simp] theorem withFree_hlth (f) (s : State) : (withFree f s).hlth = s.hlth := rfl
@[simp] theorem withFree_dump (f) (s : State) : (withFree f s).dump = s.dump := rfl
@[simp] theorem withFree_test (f) (s : State) : (withFree f s).test = s.test := rfl
@[simp] theorem withFree_hostMem (f) (s : State) : (withFree f s).hostMem = s.hostMem := rfl
@[simp] theorem withSys_pending (f) (s : State) : (withSys f s).pending = s.pending := rfl
@[simp] theorem withSys_free (f) (s : State) : (withSys f s).free = s.free := rfl
@[simp] theorem withSys_sys (f) (s : State) : (withSys f s).sys = f s.sys := rfl
@[simp] theorem withSys_boot (f) (s : State) : (withSys f s).boot = s.boot := rfl
@[simp] theorem withSys_hif (f) (s : State) : (withSys f s).hif = s.hif := rfl
@[simp] theorem withSys_evt (f) (s : State) : (withSys f s).evt = s.evt := rfl
@[simp] theorem withSys_rfc (f) (s : State) : (withSys f s).rfc = s.rfc := rfl
@[simp] theorem withSys_lane (f) (s : State) : (withSys f s).lane = s.lane := rfl
@[simp] theorem withSys_slot (f) (s : State) : (withSys f s).slot = s.slot := rfl
@[simp] theorem withSys_budg (f) (s : State) : (withSys f s).budg = s.budg := rfl
@[simp] theorem withSys_tm (f) (s : State) : (withSys f s).tm = s.tm := rfl
@[simp] theorem withSys_tbl (f) (s : State) : (withSys f s).tbl = s.tbl := rfl
@[simp] theorem withSys_sec (f) (s : State) : (withSys f s).sec = s.sec := rfl
@[simp] theorem withSys_aon (f) (s : State) : (withSys f s).aon = s.aon := rfl
@[simp] theorem withSys_otp (f) (s : State) : (withSys f s).otp = s.otp := rfl
@[simp] theorem withSys_flash (f) (s : State) : (withSys f s).flash = s.flash := rfl
@[simp] theorem withSys_cry (f) (s : State) : (withSys f s).cry = s.cry := rfl
@[simp] theorem withSys_chk (f) (s : State) : (withSys f s).chk = s.chk := rfl
@[simp] theorem withSys_upd (f) (s : State) : (withSys f s).upd = s.upd := rfl
@[simp] theorem withSys_time (f) (s : State) : (withSys f s).time = s.time := rfl
@[simp] theorem withSys_lnk (f) (s : State) : (withSys f s).lnk = s.lnk := rfl
@[simp] theorem withSys_twin (f) (s : State) : (withSys f s).twin = s.twin := rfl
@[simp] theorem withSys_eth (f) (s : State) : (withSys f s).eth = s.eth := rfl
@[simp] theorem withSys_pcie (f) (s : State) : (withSys f s).pcie = s.pcie := rfl
@[simp] theorem withSys_ddr (f) (s : State) : (withSys f s).ddr = s.ddr := rfl
@[simp] theorem withSys_fwall (f) (s : State) : (withSys f s).fwall = s.fwall := rfl
@[simp] theorem withSys_hlth (f) (s : State) : (withSys f s).hlth = s.hlth := rfl
@[simp] theorem withSys_dump (f) (s : State) : (withSys f s).dump = s.dump := rfl
@[simp] theorem withSys_test (f) (s : State) : (withSys f s).test = s.test := rfl
@[simp] theorem withSys_hostMem (f) (s : State) : (withSys f s).hostMem = s.hostMem := rfl
@[simp] theorem withBoot_pending (f) (s : State) : (withBoot f s).pending = s.pending := rfl
@[simp] theorem withBoot_free (f) (s : State) : (withBoot f s).free = s.free := rfl
@[simp] theorem withBoot_sys (f) (s : State) : (withBoot f s).sys = s.sys := rfl
@[simp] theorem withBoot_boot (f) (s : State) : (withBoot f s).boot = f s.boot := rfl
@[simp] theorem withBoot_hif (f) (s : State) : (withBoot f s).hif = s.hif := rfl
@[simp] theorem withBoot_evt (f) (s : State) : (withBoot f s).evt = s.evt := rfl
@[simp] theorem withBoot_rfc (f) (s : State) : (withBoot f s).rfc = s.rfc := rfl
@[simp] theorem withBoot_lane (f) (s : State) : (withBoot f s).lane = s.lane := rfl
@[simp] theorem withBoot_slot (f) (s : State) : (withBoot f s).slot = s.slot := rfl
@[simp] theorem withBoot_budg (f) (s : State) : (withBoot f s).budg = s.budg := rfl
@[simp] theorem withBoot_tm (f) (s : State) : (withBoot f s).tm = s.tm := rfl
@[simp] theorem withBoot_tbl (f) (s : State) : (withBoot f s).tbl = s.tbl := rfl
@[simp] theorem withBoot_sec (f) (s : State) : (withBoot f s).sec = s.sec := rfl
@[simp] theorem withBoot_aon (f) (s : State) : (withBoot f s).aon = s.aon := rfl
@[simp] theorem withBoot_otp (f) (s : State) : (withBoot f s).otp = s.otp := rfl
@[simp] theorem withBoot_flash (f) (s : State) : (withBoot f s).flash = s.flash := rfl
@[simp] theorem withBoot_cry (f) (s : State) : (withBoot f s).cry = s.cry := rfl
@[simp] theorem withBoot_chk (f) (s : State) : (withBoot f s).chk = s.chk := rfl
@[simp] theorem withBoot_upd (f) (s : State) : (withBoot f s).upd = s.upd := rfl
@[simp] theorem withBoot_time (f) (s : State) : (withBoot f s).time = s.time := rfl
@[simp] theorem withBoot_lnk (f) (s : State) : (withBoot f s).lnk = s.lnk := rfl
@[simp] theorem withBoot_twin (f) (s : State) : (withBoot f s).twin = s.twin := rfl
@[simp] theorem withBoot_eth (f) (s : State) : (withBoot f s).eth = s.eth := rfl
@[simp] theorem withBoot_pcie (f) (s : State) : (withBoot f s).pcie = s.pcie := rfl
@[simp] theorem withBoot_ddr (f) (s : State) : (withBoot f s).ddr = s.ddr := rfl
@[simp] theorem withBoot_fwall (f) (s : State) : (withBoot f s).fwall = s.fwall := rfl
@[simp] theorem withBoot_hlth (f) (s : State) : (withBoot f s).hlth = s.hlth := rfl
@[simp] theorem withBoot_dump (f) (s : State) : (withBoot f s).dump = s.dump := rfl
@[simp] theorem withBoot_test (f) (s : State) : (withBoot f s).test = s.test := rfl
@[simp] theorem withBoot_hostMem (f) (s : State) : (withBoot f s).hostMem = s.hostMem := rfl
@[simp] theorem withHif_pending (f) (s : State) : (withHif f s).pending = s.pending := rfl
@[simp] theorem withHif_free (f) (s : State) : (withHif f s).free = s.free := rfl
@[simp] theorem withHif_sys (f) (s : State) : (withHif f s).sys = s.sys := rfl
@[simp] theorem withHif_boot (f) (s : State) : (withHif f s).boot = s.boot := rfl
@[simp] theorem withHif_hif (f) (s : State) : (withHif f s).hif = f s.hif := rfl
@[simp] theorem withHif_evt (f) (s : State) : (withHif f s).evt = s.evt := rfl
@[simp] theorem withHif_rfc (f) (s : State) : (withHif f s).rfc = s.rfc := rfl
@[simp] theorem withHif_lane (f) (s : State) : (withHif f s).lane = s.lane := rfl
@[simp] theorem withHif_slot (f) (s : State) : (withHif f s).slot = s.slot := rfl
@[simp] theorem withHif_budg (f) (s : State) : (withHif f s).budg = s.budg := rfl
@[simp] theorem withHif_tm (f) (s : State) : (withHif f s).tm = s.tm := rfl
@[simp] theorem withHif_tbl (f) (s : State) : (withHif f s).tbl = s.tbl := rfl
@[simp] theorem withHif_sec (f) (s : State) : (withHif f s).sec = s.sec := rfl
@[simp] theorem withHif_aon (f) (s : State) : (withHif f s).aon = s.aon := rfl
@[simp] theorem withHif_otp (f) (s : State) : (withHif f s).otp = s.otp := rfl
@[simp] theorem withHif_flash (f) (s : State) : (withHif f s).flash = s.flash := rfl
@[simp] theorem withHif_cry (f) (s : State) : (withHif f s).cry = s.cry := rfl
@[simp] theorem withHif_chk (f) (s : State) : (withHif f s).chk = s.chk := rfl
@[simp] theorem withHif_upd (f) (s : State) : (withHif f s).upd = s.upd := rfl
@[simp] theorem withHif_time (f) (s : State) : (withHif f s).time = s.time := rfl
@[simp] theorem withHif_lnk (f) (s : State) : (withHif f s).lnk = s.lnk := rfl
@[simp] theorem withHif_twin (f) (s : State) : (withHif f s).twin = s.twin := rfl
@[simp] theorem withHif_eth (f) (s : State) : (withHif f s).eth = s.eth := rfl
@[simp] theorem withHif_pcie (f) (s : State) : (withHif f s).pcie = s.pcie := rfl
@[simp] theorem withHif_ddr (f) (s : State) : (withHif f s).ddr = s.ddr := rfl
@[simp] theorem withHif_fwall (f) (s : State) : (withHif f s).fwall = s.fwall := rfl
@[simp] theorem withHif_hlth (f) (s : State) : (withHif f s).hlth = s.hlth := rfl
@[simp] theorem withHif_dump (f) (s : State) : (withHif f s).dump = s.dump := rfl
@[simp] theorem withHif_test (f) (s : State) : (withHif f s).test = s.test := rfl
@[simp] theorem withHif_hostMem (f) (s : State) : (withHif f s).hostMem = s.hostMem := rfl
@[simp] theorem withEvt_pending (f) (s : State) : (withEvt f s).pending = s.pending := rfl
@[simp] theorem withEvt_free (f) (s : State) : (withEvt f s).free = s.free := rfl
@[simp] theorem withEvt_sys (f) (s : State) : (withEvt f s).sys = s.sys := rfl
@[simp] theorem withEvt_boot (f) (s : State) : (withEvt f s).boot = s.boot := rfl
@[simp] theorem withEvt_hif (f) (s : State) : (withEvt f s).hif = s.hif := rfl
@[simp] theorem withEvt_evt (f) (s : State) : (withEvt f s).evt = f s.evt := rfl
@[simp] theorem withEvt_rfc (f) (s : State) : (withEvt f s).rfc = s.rfc := rfl
@[simp] theorem withEvt_lane (f) (s : State) : (withEvt f s).lane = s.lane := rfl
@[simp] theorem withEvt_slot (f) (s : State) : (withEvt f s).slot = s.slot := rfl
@[simp] theorem withEvt_budg (f) (s : State) : (withEvt f s).budg = s.budg := rfl
@[simp] theorem withEvt_tm (f) (s : State) : (withEvt f s).tm = s.tm := rfl
@[simp] theorem withEvt_tbl (f) (s : State) : (withEvt f s).tbl = s.tbl := rfl
@[simp] theorem withEvt_sec (f) (s : State) : (withEvt f s).sec = s.sec := rfl
@[simp] theorem withEvt_aon (f) (s : State) : (withEvt f s).aon = s.aon := rfl
@[simp] theorem withEvt_otp (f) (s : State) : (withEvt f s).otp = s.otp := rfl
@[simp] theorem withEvt_flash (f) (s : State) : (withEvt f s).flash = s.flash := rfl
@[simp] theorem withEvt_cry (f) (s : State) : (withEvt f s).cry = s.cry := rfl
@[simp] theorem withEvt_chk (f) (s : State) : (withEvt f s).chk = s.chk := rfl
@[simp] theorem withEvt_upd (f) (s : State) : (withEvt f s).upd = s.upd := rfl
@[simp] theorem withEvt_time (f) (s : State) : (withEvt f s).time = s.time := rfl
@[simp] theorem withEvt_lnk (f) (s : State) : (withEvt f s).lnk = s.lnk := rfl
@[simp] theorem withEvt_twin (f) (s : State) : (withEvt f s).twin = s.twin := rfl
@[simp] theorem withEvt_eth (f) (s : State) : (withEvt f s).eth = s.eth := rfl
@[simp] theorem withEvt_pcie (f) (s : State) : (withEvt f s).pcie = s.pcie := rfl
@[simp] theorem withEvt_ddr (f) (s : State) : (withEvt f s).ddr = s.ddr := rfl
@[simp] theorem withEvt_fwall (f) (s : State) : (withEvt f s).fwall = s.fwall := rfl
@[simp] theorem withEvt_hlth (f) (s : State) : (withEvt f s).hlth = s.hlth := rfl
@[simp] theorem withEvt_dump (f) (s : State) : (withEvt f s).dump = s.dump := rfl
@[simp] theorem withEvt_test (f) (s : State) : (withEvt f s).test = s.test := rfl
@[simp] theorem withEvt_hostMem (f) (s : State) : (withEvt f s).hostMem = s.hostMem := rfl
@[simp] theorem withRfc_pending (f) (s : State) : (withRfc f s).pending = s.pending := rfl
@[simp] theorem withRfc_free (f) (s : State) : (withRfc f s).free = s.free := rfl
@[simp] theorem withRfc_sys (f) (s : State) : (withRfc f s).sys = s.sys := rfl
@[simp] theorem withRfc_boot (f) (s : State) : (withRfc f s).boot = s.boot := rfl
@[simp] theorem withRfc_hif (f) (s : State) : (withRfc f s).hif = s.hif := rfl
@[simp] theorem withRfc_evt (f) (s : State) : (withRfc f s).evt = s.evt := rfl
@[simp] theorem withRfc_rfc (f) (s : State) : (withRfc f s).rfc = f s.rfc := rfl
@[simp] theorem withRfc_lane (f) (s : State) : (withRfc f s).lane = s.lane := rfl
@[simp] theorem withRfc_slot (f) (s : State) : (withRfc f s).slot = s.slot := rfl
@[simp] theorem withRfc_budg (f) (s : State) : (withRfc f s).budg = s.budg := rfl
@[simp] theorem withRfc_tm (f) (s : State) : (withRfc f s).tm = s.tm := rfl
@[simp] theorem withRfc_tbl (f) (s : State) : (withRfc f s).tbl = s.tbl := rfl
@[simp] theorem withRfc_sec (f) (s : State) : (withRfc f s).sec = s.sec := rfl
@[simp] theorem withRfc_aon (f) (s : State) : (withRfc f s).aon = s.aon := rfl
@[simp] theorem withRfc_otp (f) (s : State) : (withRfc f s).otp = s.otp := rfl
@[simp] theorem withRfc_flash (f) (s : State) : (withRfc f s).flash = s.flash := rfl
@[simp] theorem withRfc_cry (f) (s : State) : (withRfc f s).cry = s.cry := rfl
@[simp] theorem withRfc_chk (f) (s : State) : (withRfc f s).chk = s.chk := rfl
@[simp] theorem withRfc_upd (f) (s : State) : (withRfc f s).upd = s.upd := rfl
@[simp] theorem withRfc_time (f) (s : State) : (withRfc f s).time = s.time := rfl
@[simp] theorem withRfc_lnk (f) (s : State) : (withRfc f s).lnk = s.lnk := rfl
@[simp] theorem withRfc_twin (f) (s : State) : (withRfc f s).twin = s.twin := rfl
@[simp] theorem withRfc_eth (f) (s : State) : (withRfc f s).eth = s.eth := rfl
@[simp] theorem withRfc_pcie (f) (s : State) : (withRfc f s).pcie = s.pcie := rfl
@[simp] theorem withRfc_ddr (f) (s : State) : (withRfc f s).ddr = s.ddr := rfl
@[simp] theorem withRfc_fwall (f) (s : State) : (withRfc f s).fwall = s.fwall := rfl
@[simp] theorem withRfc_hlth (f) (s : State) : (withRfc f s).hlth = s.hlth := rfl
@[simp] theorem withRfc_dump (f) (s : State) : (withRfc f s).dump = s.dump := rfl
@[simp] theorem withRfc_test (f) (s : State) : (withRfc f s).test = s.test := rfl
@[simp] theorem withRfc_hostMem (f) (s : State) : (withRfc f s).hostMem = s.hostMem := rfl
@[simp] theorem withLane_pending (f) (s : State) : (withLane f s).pending = s.pending := rfl
@[simp] theorem withLane_free (f) (s : State) : (withLane f s).free = s.free := rfl
@[simp] theorem withLane_sys (f) (s : State) : (withLane f s).sys = s.sys := rfl
@[simp] theorem withLane_boot (f) (s : State) : (withLane f s).boot = s.boot := rfl
@[simp] theorem withLane_hif (f) (s : State) : (withLane f s).hif = s.hif := rfl
@[simp] theorem withLane_evt (f) (s : State) : (withLane f s).evt = s.evt := rfl
@[simp] theorem withLane_rfc (f) (s : State) : (withLane f s).rfc = s.rfc := rfl
@[simp] theorem withLane_lane (f) (s : State) : (withLane f s).lane = f s.lane := rfl
@[simp] theorem withLane_slot (f) (s : State) : (withLane f s).slot = s.slot := rfl
@[simp] theorem withLane_budg (f) (s : State) : (withLane f s).budg = s.budg := rfl
@[simp] theorem withLane_tm (f) (s : State) : (withLane f s).tm = s.tm := rfl
@[simp] theorem withLane_tbl (f) (s : State) : (withLane f s).tbl = s.tbl := rfl
@[simp] theorem withLane_sec (f) (s : State) : (withLane f s).sec = s.sec := rfl
@[simp] theorem withLane_aon (f) (s : State) : (withLane f s).aon = s.aon := rfl
@[simp] theorem withLane_otp (f) (s : State) : (withLane f s).otp = s.otp := rfl
@[simp] theorem withLane_flash (f) (s : State) : (withLane f s).flash = s.flash := rfl
@[simp] theorem withLane_cry (f) (s : State) : (withLane f s).cry = s.cry := rfl
@[simp] theorem withLane_chk (f) (s : State) : (withLane f s).chk = s.chk := rfl
@[simp] theorem withLane_upd (f) (s : State) : (withLane f s).upd = s.upd := rfl
@[simp] theorem withLane_time (f) (s : State) : (withLane f s).time = s.time := rfl
@[simp] theorem withLane_lnk (f) (s : State) : (withLane f s).lnk = s.lnk := rfl
@[simp] theorem withLane_twin (f) (s : State) : (withLane f s).twin = s.twin := rfl
@[simp] theorem withLane_eth (f) (s : State) : (withLane f s).eth = s.eth := rfl
@[simp] theorem withLane_pcie (f) (s : State) : (withLane f s).pcie = s.pcie := rfl
@[simp] theorem withLane_ddr (f) (s : State) : (withLane f s).ddr = s.ddr := rfl
@[simp] theorem withLane_fwall (f) (s : State) : (withLane f s).fwall = s.fwall := rfl
@[simp] theorem withLane_hlth (f) (s : State) : (withLane f s).hlth = s.hlth := rfl
@[simp] theorem withLane_dump (f) (s : State) : (withLane f s).dump = s.dump := rfl
@[simp] theorem withLane_test (f) (s : State) : (withLane f s).test = s.test := rfl
@[simp] theorem withLane_hostMem (f) (s : State) : (withLane f s).hostMem = s.hostMem := rfl
@[simp] theorem withSlot_pending (f) (s : State) : (withSlot f s).pending = s.pending := rfl
@[simp] theorem withSlot_free (f) (s : State) : (withSlot f s).free = s.free := rfl
@[simp] theorem withSlot_sys (f) (s : State) : (withSlot f s).sys = s.sys := rfl
@[simp] theorem withSlot_boot (f) (s : State) : (withSlot f s).boot = s.boot := rfl
@[simp] theorem withSlot_hif (f) (s : State) : (withSlot f s).hif = s.hif := rfl
@[simp] theorem withSlot_evt (f) (s : State) : (withSlot f s).evt = s.evt := rfl
@[simp] theorem withSlot_rfc (f) (s : State) : (withSlot f s).rfc = s.rfc := rfl
@[simp] theorem withSlot_lane (f) (s : State) : (withSlot f s).lane = s.lane := rfl
@[simp] theorem withSlot_slot (f) (s : State) : (withSlot f s).slot = f s.slot := rfl
@[simp] theorem withSlot_budg (f) (s : State) : (withSlot f s).budg = s.budg := rfl
@[simp] theorem withSlot_tm (f) (s : State) : (withSlot f s).tm = s.tm := rfl
@[simp] theorem withSlot_tbl (f) (s : State) : (withSlot f s).tbl = s.tbl := rfl
@[simp] theorem withSlot_sec (f) (s : State) : (withSlot f s).sec = s.sec := rfl
@[simp] theorem withSlot_aon (f) (s : State) : (withSlot f s).aon = s.aon := rfl
@[simp] theorem withSlot_otp (f) (s : State) : (withSlot f s).otp = s.otp := rfl
@[simp] theorem withSlot_flash (f) (s : State) : (withSlot f s).flash = s.flash := rfl
@[simp] theorem withSlot_cry (f) (s : State) : (withSlot f s).cry = s.cry := rfl
@[simp] theorem withSlot_chk (f) (s : State) : (withSlot f s).chk = s.chk := rfl
@[simp] theorem withSlot_upd (f) (s : State) : (withSlot f s).upd = s.upd := rfl
@[simp] theorem withSlot_time (f) (s : State) : (withSlot f s).time = s.time := rfl
@[simp] theorem withSlot_lnk (f) (s : State) : (withSlot f s).lnk = s.lnk := rfl
@[simp] theorem withSlot_twin (f) (s : State) : (withSlot f s).twin = s.twin := rfl
@[simp] theorem withSlot_eth (f) (s : State) : (withSlot f s).eth = s.eth := rfl
@[simp] theorem withSlot_pcie (f) (s : State) : (withSlot f s).pcie = s.pcie := rfl
@[simp] theorem withSlot_ddr (f) (s : State) : (withSlot f s).ddr = s.ddr := rfl
@[simp] theorem withSlot_fwall (f) (s : State) : (withSlot f s).fwall = s.fwall := rfl
@[simp] theorem withSlot_hlth (f) (s : State) : (withSlot f s).hlth = s.hlth := rfl
@[simp] theorem withSlot_dump (f) (s : State) : (withSlot f s).dump = s.dump := rfl
@[simp] theorem withSlot_test (f) (s : State) : (withSlot f s).test = s.test := rfl
@[simp] theorem withSlot_hostMem (f) (s : State) : (withSlot f s).hostMem = s.hostMem := rfl
@[simp] theorem withBudg_pending (f) (s : State) : (withBudg f s).pending = s.pending := rfl
@[simp] theorem withBudg_free (f) (s : State) : (withBudg f s).free = s.free := rfl
@[simp] theorem withBudg_sys (f) (s : State) : (withBudg f s).sys = s.sys := rfl
@[simp] theorem withBudg_boot (f) (s : State) : (withBudg f s).boot = s.boot := rfl
@[simp] theorem withBudg_hif (f) (s : State) : (withBudg f s).hif = s.hif := rfl
@[simp] theorem withBudg_evt (f) (s : State) : (withBudg f s).evt = s.evt := rfl
@[simp] theorem withBudg_rfc (f) (s : State) : (withBudg f s).rfc = s.rfc := rfl
@[simp] theorem withBudg_lane (f) (s : State) : (withBudg f s).lane = s.lane := rfl
@[simp] theorem withBudg_slot (f) (s : State) : (withBudg f s).slot = s.slot := rfl
@[simp] theorem withBudg_budg (f) (s : State) : (withBudg f s).budg = f s.budg := rfl
@[simp] theorem withBudg_tm (f) (s : State) : (withBudg f s).tm = s.tm := rfl
@[simp] theorem withBudg_tbl (f) (s : State) : (withBudg f s).tbl = s.tbl := rfl
@[simp] theorem withBudg_sec (f) (s : State) : (withBudg f s).sec = s.sec := rfl
@[simp] theorem withBudg_aon (f) (s : State) : (withBudg f s).aon = s.aon := rfl
@[simp] theorem withBudg_otp (f) (s : State) : (withBudg f s).otp = s.otp := rfl
@[simp] theorem withBudg_flash (f) (s : State) : (withBudg f s).flash = s.flash := rfl
@[simp] theorem withBudg_cry (f) (s : State) : (withBudg f s).cry = s.cry := rfl
@[simp] theorem withBudg_chk (f) (s : State) : (withBudg f s).chk = s.chk := rfl
@[simp] theorem withBudg_upd (f) (s : State) : (withBudg f s).upd = s.upd := rfl
@[simp] theorem withBudg_time (f) (s : State) : (withBudg f s).time = s.time := rfl
@[simp] theorem withBudg_lnk (f) (s : State) : (withBudg f s).lnk = s.lnk := rfl
@[simp] theorem withBudg_twin (f) (s : State) : (withBudg f s).twin = s.twin := rfl
@[simp] theorem withBudg_eth (f) (s : State) : (withBudg f s).eth = s.eth := rfl
@[simp] theorem withBudg_pcie (f) (s : State) : (withBudg f s).pcie = s.pcie := rfl
@[simp] theorem withBudg_ddr (f) (s : State) : (withBudg f s).ddr = s.ddr := rfl
@[simp] theorem withBudg_fwall (f) (s : State) : (withBudg f s).fwall = s.fwall := rfl
@[simp] theorem withBudg_hlth (f) (s : State) : (withBudg f s).hlth = s.hlth := rfl
@[simp] theorem withBudg_dump (f) (s : State) : (withBudg f s).dump = s.dump := rfl
@[simp] theorem withBudg_test (f) (s : State) : (withBudg f s).test = s.test := rfl
@[simp] theorem withBudg_hostMem (f) (s : State) : (withBudg f s).hostMem = s.hostMem := rfl
@[simp] theorem withTm_pending (f) (s : State) : (withTm f s).pending = s.pending := rfl
@[simp] theorem withTm_free (f) (s : State) : (withTm f s).free = s.free := rfl
@[simp] theorem withTm_sys (f) (s : State) : (withTm f s).sys = s.sys := rfl
@[simp] theorem withTm_boot (f) (s : State) : (withTm f s).boot = s.boot := rfl
@[simp] theorem withTm_hif (f) (s : State) : (withTm f s).hif = s.hif := rfl
@[simp] theorem withTm_evt (f) (s : State) : (withTm f s).evt = s.evt := rfl
@[simp] theorem withTm_rfc (f) (s : State) : (withTm f s).rfc = s.rfc := rfl
@[simp] theorem withTm_lane (f) (s : State) : (withTm f s).lane = s.lane := rfl
@[simp] theorem withTm_slot (f) (s : State) : (withTm f s).slot = s.slot := rfl
@[simp] theorem withTm_budg (f) (s : State) : (withTm f s).budg = s.budg := rfl
@[simp] theorem withTm_tm (f) (s : State) : (withTm f s).tm = f s.tm := rfl
@[simp] theorem withTm_tbl (f) (s : State) : (withTm f s).tbl = s.tbl := rfl
@[simp] theorem withTm_sec (f) (s : State) : (withTm f s).sec = s.sec := rfl
@[simp] theorem withTm_aon (f) (s : State) : (withTm f s).aon = s.aon := rfl
@[simp] theorem withTm_otp (f) (s : State) : (withTm f s).otp = s.otp := rfl
@[simp] theorem withTm_flash (f) (s : State) : (withTm f s).flash = s.flash := rfl
@[simp] theorem withTm_cry (f) (s : State) : (withTm f s).cry = s.cry := rfl
@[simp] theorem withTm_chk (f) (s : State) : (withTm f s).chk = s.chk := rfl
@[simp] theorem withTm_upd (f) (s : State) : (withTm f s).upd = s.upd := rfl
@[simp] theorem withTm_time (f) (s : State) : (withTm f s).time = s.time := rfl
@[simp] theorem withTm_lnk (f) (s : State) : (withTm f s).lnk = s.lnk := rfl
@[simp] theorem withTm_twin (f) (s : State) : (withTm f s).twin = s.twin := rfl
@[simp] theorem withTm_eth (f) (s : State) : (withTm f s).eth = s.eth := rfl
@[simp] theorem withTm_pcie (f) (s : State) : (withTm f s).pcie = s.pcie := rfl
@[simp] theorem withTm_ddr (f) (s : State) : (withTm f s).ddr = s.ddr := rfl
@[simp] theorem withTm_fwall (f) (s : State) : (withTm f s).fwall = s.fwall := rfl
@[simp] theorem withTm_hlth (f) (s : State) : (withTm f s).hlth = s.hlth := rfl
@[simp] theorem withTm_dump (f) (s : State) : (withTm f s).dump = s.dump := rfl
@[simp] theorem withTm_test (f) (s : State) : (withTm f s).test = s.test := rfl
@[simp] theorem withTm_hostMem (f) (s : State) : (withTm f s).hostMem = s.hostMem := rfl
@[simp] theorem withTbl_pending (f) (s : State) : (withTbl f s).pending = s.pending := rfl
@[simp] theorem withTbl_free (f) (s : State) : (withTbl f s).free = s.free := rfl
@[simp] theorem withTbl_sys (f) (s : State) : (withTbl f s).sys = s.sys := rfl
@[simp] theorem withTbl_boot (f) (s : State) : (withTbl f s).boot = s.boot := rfl
@[simp] theorem withTbl_hif (f) (s : State) : (withTbl f s).hif = s.hif := rfl
@[simp] theorem withTbl_evt (f) (s : State) : (withTbl f s).evt = s.evt := rfl
@[simp] theorem withTbl_rfc (f) (s : State) : (withTbl f s).rfc = s.rfc := rfl
@[simp] theorem withTbl_lane (f) (s : State) : (withTbl f s).lane = s.lane := rfl
@[simp] theorem withTbl_slot (f) (s : State) : (withTbl f s).slot = s.slot := rfl
@[simp] theorem withTbl_budg (f) (s : State) : (withTbl f s).budg = s.budg := rfl
@[simp] theorem withTbl_tm (f) (s : State) : (withTbl f s).tm = s.tm := rfl
@[simp] theorem withTbl_tbl (f) (s : State) : (withTbl f s).tbl = f s.tbl := rfl
@[simp] theorem withTbl_sec (f) (s : State) : (withTbl f s).sec = s.sec := rfl
@[simp] theorem withTbl_aon (f) (s : State) : (withTbl f s).aon = s.aon := rfl
@[simp] theorem withTbl_otp (f) (s : State) : (withTbl f s).otp = s.otp := rfl
@[simp] theorem withTbl_flash (f) (s : State) : (withTbl f s).flash = s.flash := rfl
@[simp] theorem withTbl_cry (f) (s : State) : (withTbl f s).cry = s.cry := rfl
@[simp] theorem withTbl_chk (f) (s : State) : (withTbl f s).chk = s.chk := rfl
@[simp] theorem withTbl_upd (f) (s : State) : (withTbl f s).upd = s.upd := rfl
@[simp] theorem withTbl_time (f) (s : State) : (withTbl f s).time = s.time := rfl
@[simp] theorem withTbl_lnk (f) (s : State) : (withTbl f s).lnk = s.lnk := rfl
@[simp] theorem withTbl_twin (f) (s : State) : (withTbl f s).twin = s.twin := rfl
@[simp] theorem withTbl_eth (f) (s : State) : (withTbl f s).eth = s.eth := rfl
@[simp] theorem withTbl_pcie (f) (s : State) : (withTbl f s).pcie = s.pcie := rfl
@[simp] theorem withTbl_ddr (f) (s : State) : (withTbl f s).ddr = s.ddr := rfl
@[simp] theorem withTbl_fwall (f) (s : State) : (withTbl f s).fwall = s.fwall := rfl
@[simp] theorem withTbl_hlth (f) (s : State) : (withTbl f s).hlth = s.hlth := rfl
@[simp] theorem withTbl_dump (f) (s : State) : (withTbl f s).dump = s.dump := rfl
@[simp] theorem withTbl_test (f) (s : State) : (withTbl f s).test = s.test := rfl
@[simp] theorem withTbl_hostMem (f) (s : State) : (withTbl f s).hostMem = s.hostMem := rfl
@[simp] theorem withSec_pending (f) (s : State) : (withSec f s).pending = s.pending := rfl
@[simp] theorem withSec_free (f) (s : State) : (withSec f s).free = s.free := rfl
@[simp] theorem withSec_sys (f) (s : State) : (withSec f s).sys = s.sys := rfl
@[simp] theorem withSec_boot (f) (s : State) : (withSec f s).boot = s.boot := rfl
@[simp] theorem withSec_hif (f) (s : State) : (withSec f s).hif = s.hif := rfl
@[simp] theorem withSec_evt (f) (s : State) : (withSec f s).evt = s.evt := rfl
@[simp] theorem withSec_rfc (f) (s : State) : (withSec f s).rfc = s.rfc := rfl
@[simp] theorem withSec_lane (f) (s : State) : (withSec f s).lane = s.lane := rfl
@[simp] theorem withSec_slot (f) (s : State) : (withSec f s).slot = s.slot := rfl
@[simp] theorem withSec_budg (f) (s : State) : (withSec f s).budg = s.budg := rfl
@[simp] theorem withSec_tm (f) (s : State) : (withSec f s).tm = s.tm := rfl
@[simp] theorem withSec_tbl (f) (s : State) : (withSec f s).tbl = s.tbl := rfl
@[simp] theorem withSec_sec (f) (s : State) : (withSec f s).sec = f s.sec := rfl
@[simp] theorem withSec_aon (f) (s : State) : (withSec f s).aon = s.aon := rfl
@[simp] theorem withSec_otp (f) (s : State) : (withSec f s).otp = s.otp := rfl
@[simp] theorem withSec_flash (f) (s : State) : (withSec f s).flash = s.flash := rfl
@[simp] theorem withSec_cry (f) (s : State) : (withSec f s).cry = s.cry := rfl
@[simp] theorem withSec_chk (f) (s : State) : (withSec f s).chk = s.chk := rfl
@[simp] theorem withSec_upd (f) (s : State) : (withSec f s).upd = s.upd := rfl
@[simp] theorem withSec_time (f) (s : State) : (withSec f s).time = s.time := rfl
@[simp] theorem withSec_lnk (f) (s : State) : (withSec f s).lnk = s.lnk := rfl
@[simp] theorem withSec_twin (f) (s : State) : (withSec f s).twin = s.twin := rfl
@[simp] theorem withSec_eth (f) (s : State) : (withSec f s).eth = s.eth := rfl
@[simp] theorem withSec_pcie (f) (s : State) : (withSec f s).pcie = s.pcie := rfl
@[simp] theorem withSec_ddr (f) (s : State) : (withSec f s).ddr = s.ddr := rfl
@[simp] theorem withSec_fwall (f) (s : State) : (withSec f s).fwall = s.fwall := rfl
@[simp] theorem withSec_hlth (f) (s : State) : (withSec f s).hlth = s.hlth := rfl
@[simp] theorem withSec_dump (f) (s : State) : (withSec f s).dump = s.dump := rfl
@[simp] theorem withSec_test (f) (s : State) : (withSec f s).test = s.test := rfl
@[simp] theorem withSec_hostMem (f) (s : State) : (withSec f s).hostMem = s.hostMem := rfl
@[simp] theorem withAon_pending (f) (s : State) : (withAon f s).pending = s.pending := rfl
@[simp] theorem withAon_free (f) (s : State) : (withAon f s).free = s.free := rfl
@[simp] theorem withAon_sys (f) (s : State) : (withAon f s).sys = s.sys := rfl
@[simp] theorem withAon_boot (f) (s : State) : (withAon f s).boot = s.boot := rfl
@[simp] theorem withAon_hif (f) (s : State) : (withAon f s).hif = s.hif := rfl
@[simp] theorem withAon_evt (f) (s : State) : (withAon f s).evt = s.evt := rfl
@[simp] theorem withAon_rfc (f) (s : State) : (withAon f s).rfc = s.rfc := rfl
@[simp] theorem withAon_lane (f) (s : State) : (withAon f s).lane = s.lane := rfl
@[simp] theorem withAon_slot (f) (s : State) : (withAon f s).slot = s.slot := rfl
@[simp] theorem withAon_budg (f) (s : State) : (withAon f s).budg = s.budg := rfl
@[simp] theorem withAon_tm (f) (s : State) : (withAon f s).tm = s.tm := rfl
@[simp] theorem withAon_tbl (f) (s : State) : (withAon f s).tbl = s.tbl := rfl
@[simp] theorem withAon_sec (f) (s : State) : (withAon f s).sec = s.sec := rfl
@[simp] theorem withAon_aon (f) (s : State) : (withAon f s).aon = f s.aon := rfl
@[simp] theorem withAon_otp (f) (s : State) : (withAon f s).otp = s.otp := rfl
@[simp] theorem withAon_flash (f) (s : State) : (withAon f s).flash = s.flash := rfl
@[simp] theorem withAon_cry (f) (s : State) : (withAon f s).cry = s.cry := rfl
@[simp] theorem withAon_chk (f) (s : State) : (withAon f s).chk = s.chk := rfl
@[simp] theorem withAon_upd (f) (s : State) : (withAon f s).upd = s.upd := rfl
@[simp] theorem withAon_time (f) (s : State) : (withAon f s).time = s.time := rfl
@[simp] theorem withAon_lnk (f) (s : State) : (withAon f s).lnk = s.lnk := rfl
@[simp] theorem withAon_twin (f) (s : State) : (withAon f s).twin = s.twin := rfl
@[simp] theorem withAon_eth (f) (s : State) : (withAon f s).eth = s.eth := rfl
@[simp] theorem withAon_pcie (f) (s : State) : (withAon f s).pcie = s.pcie := rfl
@[simp] theorem withAon_ddr (f) (s : State) : (withAon f s).ddr = s.ddr := rfl
@[simp] theorem withAon_fwall (f) (s : State) : (withAon f s).fwall = s.fwall := rfl
@[simp] theorem withAon_hlth (f) (s : State) : (withAon f s).hlth = s.hlth := rfl
@[simp] theorem withAon_dump (f) (s : State) : (withAon f s).dump = s.dump := rfl
@[simp] theorem withAon_test (f) (s : State) : (withAon f s).test = s.test := rfl
@[simp] theorem withAon_hostMem (f) (s : State) : (withAon f s).hostMem = s.hostMem := rfl
@[simp] theorem withOtp_pending (f) (s : State) : (withOtp f s).pending = s.pending := rfl
@[simp] theorem withOtp_free (f) (s : State) : (withOtp f s).free = s.free := rfl
@[simp] theorem withOtp_sys (f) (s : State) : (withOtp f s).sys = s.sys := rfl
@[simp] theorem withOtp_boot (f) (s : State) : (withOtp f s).boot = s.boot := rfl
@[simp] theorem withOtp_hif (f) (s : State) : (withOtp f s).hif = s.hif := rfl
@[simp] theorem withOtp_evt (f) (s : State) : (withOtp f s).evt = s.evt := rfl
@[simp] theorem withOtp_rfc (f) (s : State) : (withOtp f s).rfc = s.rfc := rfl
@[simp] theorem withOtp_lane (f) (s : State) : (withOtp f s).lane = s.lane := rfl
@[simp] theorem withOtp_slot (f) (s : State) : (withOtp f s).slot = s.slot := rfl
@[simp] theorem withOtp_budg (f) (s : State) : (withOtp f s).budg = s.budg := rfl
@[simp] theorem withOtp_tm (f) (s : State) : (withOtp f s).tm = s.tm := rfl
@[simp] theorem withOtp_tbl (f) (s : State) : (withOtp f s).tbl = s.tbl := rfl
@[simp] theorem withOtp_sec (f) (s : State) : (withOtp f s).sec = s.sec := rfl
@[simp] theorem withOtp_aon (f) (s : State) : (withOtp f s).aon = s.aon := rfl
@[simp] theorem withOtp_otp (f) (s : State) : (withOtp f s).otp = f s.otp := rfl
@[simp] theorem withOtp_flash (f) (s : State) : (withOtp f s).flash = s.flash := rfl
@[simp] theorem withOtp_cry (f) (s : State) : (withOtp f s).cry = s.cry := rfl
@[simp] theorem withOtp_chk (f) (s : State) : (withOtp f s).chk = s.chk := rfl
@[simp] theorem withOtp_upd (f) (s : State) : (withOtp f s).upd = s.upd := rfl
@[simp] theorem withOtp_time (f) (s : State) : (withOtp f s).time = s.time := rfl
@[simp] theorem withOtp_lnk (f) (s : State) : (withOtp f s).lnk = s.lnk := rfl
@[simp] theorem withOtp_twin (f) (s : State) : (withOtp f s).twin = s.twin := rfl
@[simp] theorem withOtp_eth (f) (s : State) : (withOtp f s).eth = s.eth := rfl
@[simp] theorem withOtp_pcie (f) (s : State) : (withOtp f s).pcie = s.pcie := rfl
@[simp] theorem withOtp_ddr (f) (s : State) : (withOtp f s).ddr = s.ddr := rfl
@[simp] theorem withOtp_fwall (f) (s : State) : (withOtp f s).fwall = s.fwall := rfl
@[simp] theorem withOtp_hlth (f) (s : State) : (withOtp f s).hlth = s.hlth := rfl
@[simp] theorem withOtp_dump (f) (s : State) : (withOtp f s).dump = s.dump := rfl
@[simp] theorem withOtp_test (f) (s : State) : (withOtp f s).test = s.test := rfl
@[simp] theorem withOtp_hostMem (f) (s : State) : (withOtp f s).hostMem = s.hostMem := rfl
@[simp] theorem withFlash_pending (f) (s : State) : (withFlash f s).pending = s.pending := rfl
@[simp] theorem withFlash_free (f) (s : State) : (withFlash f s).free = s.free := rfl
@[simp] theorem withFlash_sys (f) (s : State) : (withFlash f s).sys = s.sys := rfl
@[simp] theorem withFlash_boot (f) (s : State) : (withFlash f s).boot = s.boot := rfl
@[simp] theorem withFlash_hif (f) (s : State) : (withFlash f s).hif = s.hif := rfl
@[simp] theorem withFlash_evt (f) (s : State) : (withFlash f s).evt = s.evt := rfl
@[simp] theorem withFlash_rfc (f) (s : State) : (withFlash f s).rfc = s.rfc := rfl
@[simp] theorem withFlash_lane (f) (s : State) : (withFlash f s).lane = s.lane := rfl
@[simp] theorem withFlash_slot (f) (s : State) : (withFlash f s).slot = s.slot := rfl
@[simp] theorem withFlash_budg (f) (s : State) : (withFlash f s).budg = s.budg := rfl
@[simp] theorem withFlash_tm (f) (s : State) : (withFlash f s).tm = s.tm := rfl
@[simp] theorem withFlash_tbl (f) (s : State) : (withFlash f s).tbl = s.tbl := rfl
@[simp] theorem withFlash_sec (f) (s : State) : (withFlash f s).sec = s.sec := rfl
@[simp] theorem withFlash_aon (f) (s : State) : (withFlash f s).aon = s.aon := rfl
@[simp] theorem withFlash_otp (f) (s : State) : (withFlash f s).otp = s.otp := rfl
@[simp] theorem withFlash_flash (f) (s : State) : (withFlash f s).flash = f s.flash := rfl
@[simp] theorem withFlash_cry (f) (s : State) : (withFlash f s).cry = s.cry := rfl
@[simp] theorem withFlash_chk (f) (s : State) : (withFlash f s).chk = s.chk := rfl
@[simp] theorem withFlash_upd (f) (s : State) : (withFlash f s).upd = s.upd := rfl
@[simp] theorem withFlash_time (f) (s : State) : (withFlash f s).time = s.time := rfl
@[simp] theorem withFlash_lnk (f) (s : State) : (withFlash f s).lnk = s.lnk := rfl
@[simp] theorem withFlash_twin (f) (s : State) : (withFlash f s).twin = s.twin := rfl
@[simp] theorem withFlash_eth (f) (s : State) : (withFlash f s).eth = s.eth := rfl
@[simp] theorem withFlash_pcie (f) (s : State) : (withFlash f s).pcie = s.pcie := rfl
@[simp] theorem withFlash_ddr (f) (s : State) : (withFlash f s).ddr = s.ddr := rfl
@[simp] theorem withFlash_fwall (f) (s : State) : (withFlash f s).fwall = s.fwall := rfl
@[simp] theorem withFlash_hlth (f) (s : State) : (withFlash f s).hlth = s.hlth := rfl
@[simp] theorem withFlash_dump (f) (s : State) : (withFlash f s).dump = s.dump := rfl
@[simp] theorem withFlash_test (f) (s : State) : (withFlash f s).test = s.test := rfl
@[simp] theorem withFlash_hostMem (f) (s : State) : (withFlash f s).hostMem = s.hostMem := rfl
@[simp] theorem withCry_pending (f) (s : State) : (withCry f s).pending = s.pending := rfl
@[simp] theorem withCry_free (f) (s : State) : (withCry f s).free = s.free := rfl
@[simp] theorem withCry_sys (f) (s : State) : (withCry f s).sys = s.sys := rfl
@[simp] theorem withCry_boot (f) (s : State) : (withCry f s).boot = s.boot := rfl
@[simp] theorem withCry_hif (f) (s : State) : (withCry f s).hif = s.hif := rfl
@[simp] theorem withCry_evt (f) (s : State) : (withCry f s).evt = s.evt := rfl
@[simp] theorem withCry_rfc (f) (s : State) : (withCry f s).rfc = s.rfc := rfl
@[simp] theorem withCry_lane (f) (s : State) : (withCry f s).lane = s.lane := rfl
@[simp] theorem withCry_slot (f) (s : State) : (withCry f s).slot = s.slot := rfl
@[simp] theorem withCry_budg (f) (s : State) : (withCry f s).budg = s.budg := rfl
@[simp] theorem withCry_tm (f) (s : State) : (withCry f s).tm = s.tm := rfl
@[simp] theorem withCry_tbl (f) (s : State) : (withCry f s).tbl = s.tbl := rfl
@[simp] theorem withCry_sec (f) (s : State) : (withCry f s).sec = s.sec := rfl
@[simp] theorem withCry_aon (f) (s : State) : (withCry f s).aon = s.aon := rfl
@[simp] theorem withCry_otp (f) (s : State) : (withCry f s).otp = s.otp := rfl
@[simp] theorem withCry_flash (f) (s : State) : (withCry f s).flash = s.flash := rfl
@[simp] theorem withCry_cry (f) (s : State) : (withCry f s).cry = f s.cry := rfl
@[simp] theorem withCry_chk (f) (s : State) : (withCry f s).chk = s.chk := rfl
@[simp] theorem withCry_upd (f) (s : State) : (withCry f s).upd = s.upd := rfl
@[simp] theorem withCry_time (f) (s : State) : (withCry f s).time = s.time := rfl
@[simp] theorem withCry_lnk (f) (s : State) : (withCry f s).lnk = s.lnk := rfl
@[simp] theorem withCry_twin (f) (s : State) : (withCry f s).twin = s.twin := rfl
@[simp] theorem withCry_eth (f) (s : State) : (withCry f s).eth = s.eth := rfl
@[simp] theorem withCry_pcie (f) (s : State) : (withCry f s).pcie = s.pcie := rfl
@[simp] theorem withCry_ddr (f) (s : State) : (withCry f s).ddr = s.ddr := rfl
@[simp] theorem withCry_fwall (f) (s : State) : (withCry f s).fwall = s.fwall := rfl
@[simp] theorem withCry_hlth (f) (s : State) : (withCry f s).hlth = s.hlth := rfl
@[simp] theorem withCry_dump (f) (s : State) : (withCry f s).dump = s.dump := rfl
@[simp] theorem withCry_test (f) (s : State) : (withCry f s).test = s.test := rfl
@[simp] theorem withCry_hostMem (f) (s : State) : (withCry f s).hostMem = s.hostMem := rfl
@[simp] theorem withChk_pending (f) (s : State) : (withChk f s).pending = s.pending := rfl
@[simp] theorem withChk_free (f) (s : State) : (withChk f s).free = s.free := rfl
@[simp] theorem withChk_sys (f) (s : State) : (withChk f s).sys = s.sys := rfl
@[simp] theorem withChk_boot (f) (s : State) : (withChk f s).boot = s.boot := rfl
@[simp] theorem withChk_hif (f) (s : State) : (withChk f s).hif = s.hif := rfl
@[simp] theorem withChk_evt (f) (s : State) : (withChk f s).evt = s.evt := rfl
@[simp] theorem withChk_rfc (f) (s : State) : (withChk f s).rfc = s.rfc := rfl
@[simp] theorem withChk_lane (f) (s : State) : (withChk f s).lane = s.lane := rfl
@[simp] theorem withChk_slot (f) (s : State) : (withChk f s).slot = s.slot := rfl
@[simp] theorem withChk_budg (f) (s : State) : (withChk f s).budg = s.budg := rfl
@[simp] theorem withChk_tm (f) (s : State) : (withChk f s).tm = s.tm := rfl
@[simp] theorem withChk_tbl (f) (s : State) : (withChk f s).tbl = s.tbl := rfl
@[simp] theorem withChk_sec (f) (s : State) : (withChk f s).sec = s.sec := rfl
@[simp] theorem withChk_aon (f) (s : State) : (withChk f s).aon = s.aon := rfl
@[simp] theorem withChk_otp (f) (s : State) : (withChk f s).otp = s.otp := rfl
@[simp] theorem withChk_flash (f) (s : State) : (withChk f s).flash = s.flash := rfl
@[simp] theorem withChk_cry (f) (s : State) : (withChk f s).cry = s.cry := rfl
@[simp] theorem withChk_chk (f) (s : State) : (withChk f s).chk = f s.chk := rfl
@[simp] theorem withChk_upd (f) (s : State) : (withChk f s).upd = s.upd := rfl
@[simp] theorem withChk_time (f) (s : State) : (withChk f s).time = s.time := rfl
@[simp] theorem withChk_lnk (f) (s : State) : (withChk f s).lnk = s.lnk := rfl
@[simp] theorem withChk_twin (f) (s : State) : (withChk f s).twin = s.twin := rfl
@[simp] theorem withChk_eth (f) (s : State) : (withChk f s).eth = s.eth := rfl
@[simp] theorem withChk_pcie (f) (s : State) : (withChk f s).pcie = s.pcie := rfl
@[simp] theorem withChk_ddr (f) (s : State) : (withChk f s).ddr = s.ddr := rfl
@[simp] theorem withChk_fwall (f) (s : State) : (withChk f s).fwall = s.fwall := rfl
@[simp] theorem withChk_hlth (f) (s : State) : (withChk f s).hlth = s.hlth := rfl
@[simp] theorem withChk_dump (f) (s : State) : (withChk f s).dump = s.dump := rfl
@[simp] theorem withChk_test (f) (s : State) : (withChk f s).test = s.test := rfl
@[simp] theorem withChk_hostMem (f) (s : State) : (withChk f s).hostMem = s.hostMem := rfl
@[simp] theorem withUpd_pending (f) (s : State) : (withUpd f s).pending = s.pending := rfl
@[simp] theorem withUpd_free (f) (s : State) : (withUpd f s).free = s.free := rfl
@[simp] theorem withUpd_sys (f) (s : State) : (withUpd f s).sys = s.sys := rfl
@[simp] theorem withUpd_boot (f) (s : State) : (withUpd f s).boot = s.boot := rfl
@[simp] theorem withUpd_hif (f) (s : State) : (withUpd f s).hif = s.hif := rfl
@[simp] theorem withUpd_evt (f) (s : State) : (withUpd f s).evt = s.evt := rfl
@[simp] theorem withUpd_rfc (f) (s : State) : (withUpd f s).rfc = s.rfc := rfl
@[simp] theorem withUpd_lane (f) (s : State) : (withUpd f s).lane = s.lane := rfl
@[simp] theorem withUpd_slot (f) (s : State) : (withUpd f s).slot = s.slot := rfl
@[simp] theorem withUpd_budg (f) (s : State) : (withUpd f s).budg = s.budg := rfl
@[simp] theorem withUpd_tm (f) (s : State) : (withUpd f s).tm = s.tm := rfl
@[simp] theorem withUpd_tbl (f) (s : State) : (withUpd f s).tbl = s.tbl := rfl
@[simp] theorem withUpd_sec (f) (s : State) : (withUpd f s).sec = s.sec := rfl
@[simp] theorem withUpd_aon (f) (s : State) : (withUpd f s).aon = s.aon := rfl
@[simp] theorem withUpd_otp (f) (s : State) : (withUpd f s).otp = s.otp := rfl
@[simp] theorem withUpd_flash (f) (s : State) : (withUpd f s).flash = s.flash := rfl
@[simp] theorem withUpd_cry (f) (s : State) : (withUpd f s).cry = s.cry := rfl
@[simp] theorem withUpd_chk (f) (s : State) : (withUpd f s).chk = s.chk := rfl
@[simp] theorem withUpd_upd (f) (s : State) : (withUpd f s).upd = f s.upd := rfl
@[simp] theorem withUpd_time (f) (s : State) : (withUpd f s).time = s.time := rfl
@[simp] theorem withUpd_lnk (f) (s : State) : (withUpd f s).lnk = s.lnk := rfl
@[simp] theorem withUpd_twin (f) (s : State) : (withUpd f s).twin = s.twin := rfl
@[simp] theorem withUpd_eth (f) (s : State) : (withUpd f s).eth = s.eth := rfl
@[simp] theorem withUpd_pcie (f) (s : State) : (withUpd f s).pcie = s.pcie := rfl
@[simp] theorem withUpd_ddr (f) (s : State) : (withUpd f s).ddr = s.ddr := rfl
@[simp] theorem withUpd_fwall (f) (s : State) : (withUpd f s).fwall = s.fwall := rfl
@[simp] theorem withUpd_hlth (f) (s : State) : (withUpd f s).hlth = s.hlth := rfl
@[simp] theorem withUpd_dump (f) (s : State) : (withUpd f s).dump = s.dump := rfl
@[simp] theorem withUpd_test (f) (s : State) : (withUpd f s).test = s.test := rfl
@[simp] theorem withUpd_hostMem (f) (s : State) : (withUpd f s).hostMem = s.hostMem := rfl
@[simp] theorem withTime_pending (f) (s : State) : (withTime f s).pending = s.pending := rfl
@[simp] theorem withTime_free (f) (s : State) : (withTime f s).free = s.free := rfl
@[simp] theorem withTime_sys (f) (s : State) : (withTime f s).sys = s.sys := rfl
@[simp] theorem withTime_boot (f) (s : State) : (withTime f s).boot = s.boot := rfl
@[simp] theorem withTime_hif (f) (s : State) : (withTime f s).hif = s.hif := rfl
@[simp] theorem withTime_evt (f) (s : State) : (withTime f s).evt = s.evt := rfl
@[simp] theorem withTime_rfc (f) (s : State) : (withTime f s).rfc = s.rfc := rfl
@[simp] theorem withTime_lane (f) (s : State) : (withTime f s).lane = s.lane := rfl
@[simp] theorem withTime_slot (f) (s : State) : (withTime f s).slot = s.slot := rfl
@[simp] theorem withTime_budg (f) (s : State) : (withTime f s).budg = s.budg := rfl
@[simp] theorem withTime_tm (f) (s : State) : (withTime f s).tm = s.tm := rfl
@[simp] theorem withTime_tbl (f) (s : State) : (withTime f s).tbl = s.tbl := rfl
@[simp] theorem withTime_sec (f) (s : State) : (withTime f s).sec = s.sec := rfl
@[simp] theorem withTime_aon (f) (s : State) : (withTime f s).aon = s.aon := rfl
@[simp] theorem withTime_otp (f) (s : State) : (withTime f s).otp = s.otp := rfl
@[simp] theorem withTime_flash (f) (s : State) : (withTime f s).flash = s.flash := rfl
@[simp] theorem withTime_cry (f) (s : State) : (withTime f s).cry = s.cry := rfl
@[simp] theorem withTime_chk (f) (s : State) : (withTime f s).chk = s.chk := rfl
@[simp] theorem withTime_upd (f) (s : State) : (withTime f s).upd = s.upd := rfl
@[simp] theorem withTime_time (f) (s : State) : (withTime f s).time = f s.time := rfl
@[simp] theorem withTime_lnk (f) (s : State) : (withTime f s).lnk = s.lnk := rfl
@[simp] theorem withTime_twin (f) (s : State) : (withTime f s).twin = s.twin := rfl
@[simp] theorem withTime_eth (f) (s : State) : (withTime f s).eth = s.eth := rfl
@[simp] theorem withTime_pcie (f) (s : State) : (withTime f s).pcie = s.pcie := rfl
@[simp] theorem withTime_ddr (f) (s : State) : (withTime f s).ddr = s.ddr := rfl
@[simp] theorem withTime_fwall (f) (s : State) : (withTime f s).fwall = s.fwall := rfl
@[simp] theorem withTime_hlth (f) (s : State) : (withTime f s).hlth = s.hlth := rfl
@[simp] theorem withTime_dump (f) (s : State) : (withTime f s).dump = s.dump := rfl
@[simp] theorem withTime_test (f) (s : State) : (withTime f s).test = s.test := rfl
@[simp] theorem withTime_hostMem (f) (s : State) : (withTime f s).hostMem = s.hostMem := rfl
@[simp] theorem withLnk_pending (f) (s : State) : (withLnk f s).pending = s.pending := rfl
@[simp] theorem withLnk_free (f) (s : State) : (withLnk f s).free = s.free := rfl
@[simp] theorem withLnk_sys (f) (s : State) : (withLnk f s).sys = s.sys := rfl
@[simp] theorem withLnk_boot (f) (s : State) : (withLnk f s).boot = s.boot := rfl
@[simp] theorem withLnk_hif (f) (s : State) : (withLnk f s).hif = s.hif := rfl
@[simp] theorem withLnk_evt (f) (s : State) : (withLnk f s).evt = s.evt := rfl
@[simp] theorem withLnk_rfc (f) (s : State) : (withLnk f s).rfc = s.rfc := rfl
@[simp] theorem withLnk_lane (f) (s : State) : (withLnk f s).lane = s.lane := rfl
@[simp] theorem withLnk_slot (f) (s : State) : (withLnk f s).slot = s.slot := rfl
@[simp] theorem withLnk_budg (f) (s : State) : (withLnk f s).budg = s.budg := rfl
@[simp] theorem withLnk_tm (f) (s : State) : (withLnk f s).tm = s.tm := rfl
@[simp] theorem withLnk_tbl (f) (s : State) : (withLnk f s).tbl = s.tbl := rfl
@[simp] theorem withLnk_sec (f) (s : State) : (withLnk f s).sec = s.sec := rfl
@[simp] theorem withLnk_aon (f) (s : State) : (withLnk f s).aon = s.aon := rfl
@[simp] theorem withLnk_otp (f) (s : State) : (withLnk f s).otp = s.otp := rfl
@[simp] theorem withLnk_flash (f) (s : State) : (withLnk f s).flash = s.flash := rfl
@[simp] theorem withLnk_cry (f) (s : State) : (withLnk f s).cry = s.cry := rfl
@[simp] theorem withLnk_chk (f) (s : State) : (withLnk f s).chk = s.chk := rfl
@[simp] theorem withLnk_upd (f) (s : State) : (withLnk f s).upd = s.upd := rfl
@[simp] theorem withLnk_time (f) (s : State) : (withLnk f s).time = s.time := rfl
@[simp] theorem withLnk_lnk (f) (s : State) : (withLnk f s).lnk = f s.lnk := rfl
@[simp] theorem withLnk_twin (f) (s : State) : (withLnk f s).twin = s.twin := rfl
@[simp] theorem withLnk_eth (f) (s : State) : (withLnk f s).eth = s.eth := rfl
@[simp] theorem withLnk_pcie (f) (s : State) : (withLnk f s).pcie = s.pcie := rfl
@[simp] theorem withLnk_ddr (f) (s : State) : (withLnk f s).ddr = s.ddr := rfl
@[simp] theorem withLnk_fwall (f) (s : State) : (withLnk f s).fwall = s.fwall := rfl
@[simp] theorem withLnk_hlth (f) (s : State) : (withLnk f s).hlth = s.hlth := rfl
@[simp] theorem withLnk_dump (f) (s : State) : (withLnk f s).dump = s.dump := rfl
@[simp] theorem withLnk_test (f) (s : State) : (withLnk f s).test = s.test := rfl
@[simp] theorem withLnk_hostMem (f) (s : State) : (withLnk f s).hostMem = s.hostMem := rfl
@[simp] theorem withTwin_pending (f) (s : State) : (withTwin f s).pending = s.pending := rfl
@[simp] theorem withTwin_free (f) (s : State) : (withTwin f s).free = s.free := rfl
@[simp] theorem withTwin_sys (f) (s : State) : (withTwin f s).sys = s.sys := rfl
@[simp] theorem withTwin_boot (f) (s : State) : (withTwin f s).boot = s.boot := rfl
@[simp] theorem withTwin_hif (f) (s : State) : (withTwin f s).hif = s.hif := rfl
@[simp] theorem withTwin_evt (f) (s : State) : (withTwin f s).evt = s.evt := rfl
@[simp] theorem withTwin_rfc (f) (s : State) : (withTwin f s).rfc = s.rfc := rfl
@[simp] theorem withTwin_lane (f) (s : State) : (withTwin f s).lane = s.lane := rfl
@[simp] theorem withTwin_slot (f) (s : State) : (withTwin f s).slot = s.slot := rfl
@[simp] theorem withTwin_budg (f) (s : State) : (withTwin f s).budg = s.budg := rfl
@[simp] theorem withTwin_tm (f) (s : State) : (withTwin f s).tm = s.tm := rfl
@[simp] theorem withTwin_tbl (f) (s : State) : (withTwin f s).tbl = s.tbl := rfl
@[simp] theorem withTwin_sec (f) (s : State) : (withTwin f s).sec = s.sec := rfl
@[simp] theorem withTwin_aon (f) (s : State) : (withTwin f s).aon = s.aon := rfl
@[simp] theorem withTwin_otp (f) (s : State) : (withTwin f s).otp = s.otp := rfl
@[simp] theorem withTwin_flash (f) (s : State) : (withTwin f s).flash = s.flash := rfl
@[simp] theorem withTwin_cry (f) (s : State) : (withTwin f s).cry = s.cry := rfl
@[simp] theorem withTwin_chk (f) (s : State) : (withTwin f s).chk = s.chk := rfl
@[simp] theorem withTwin_upd (f) (s : State) : (withTwin f s).upd = s.upd := rfl
@[simp] theorem withTwin_time (f) (s : State) : (withTwin f s).time = s.time := rfl
@[simp] theorem withTwin_lnk (f) (s : State) : (withTwin f s).lnk = s.lnk := rfl
@[simp] theorem withTwin_twin (f) (s : State) : (withTwin f s).twin = f s.twin := rfl
@[simp] theorem withTwin_eth (f) (s : State) : (withTwin f s).eth = s.eth := rfl
@[simp] theorem withTwin_pcie (f) (s : State) : (withTwin f s).pcie = s.pcie := rfl
@[simp] theorem withTwin_ddr (f) (s : State) : (withTwin f s).ddr = s.ddr := rfl
@[simp] theorem withTwin_fwall (f) (s : State) : (withTwin f s).fwall = s.fwall := rfl
@[simp] theorem withTwin_hlth (f) (s : State) : (withTwin f s).hlth = s.hlth := rfl
@[simp] theorem withTwin_dump (f) (s : State) : (withTwin f s).dump = s.dump := rfl
@[simp] theorem withTwin_test (f) (s : State) : (withTwin f s).test = s.test := rfl
@[simp] theorem withTwin_hostMem (f) (s : State) : (withTwin f s).hostMem = s.hostMem := rfl
@[simp] theorem withEth_pending (f) (s : State) : (withEth f s).pending = s.pending := rfl
@[simp] theorem withEth_free (f) (s : State) : (withEth f s).free = s.free := rfl
@[simp] theorem withEth_sys (f) (s : State) : (withEth f s).sys = s.sys := rfl
@[simp] theorem withEth_boot (f) (s : State) : (withEth f s).boot = s.boot := rfl
@[simp] theorem withEth_hif (f) (s : State) : (withEth f s).hif = s.hif := rfl
@[simp] theorem withEth_evt (f) (s : State) : (withEth f s).evt = s.evt := rfl
@[simp] theorem withEth_rfc (f) (s : State) : (withEth f s).rfc = s.rfc := rfl
@[simp] theorem withEth_lane (f) (s : State) : (withEth f s).lane = s.lane := rfl
@[simp] theorem withEth_slot (f) (s : State) : (withEth f s).slot = s.slot := rfl
@[simp] theorem withEth_budg (f) (s : State) : (withEth f s).budg = s.budg := rfl
@[simp] theorem withEth_tm (f) (s : State) : (withEth f s).tm = s.tm := rfl
@[simp] theorem withEth_tbl (f) (s : State) : (withEth f s).tbl = s.tbl := rfl
@[simp] theorem withEth_sec (f) (s : State) : (withEth f s).sec = s.sec := rfl
@[simp] theorem withEth_aon (f) (s : State) : (withEth f s).aon = s.aon := rfl
@[simp] theorem withEth_otp (f) (s : State) : (withEth f s).otp = s.otp := rfl
@[simp] theorem withEth_flash (f) (s : State) : (withEth f s).flash = s.flash := rfl
@[simp] theorem withEth_cry (f) (s : State) : (withEth f s).cry = s.cry := rfl
@[simp] theorem withEth_chk (f) (s : State) : (withEth f s).chk = s.chk := rfl
@[simp] theorem withEth_upd (f) (s : State) : (withEth f s).upd = s.upd := rfl
@[simp] theorem withEth_time (f) (s : State) : (withEth f s).time = s.time := rfl
@[simp] theorem withEth_lnk (f) (s : State) : (withEth f s).lnk = s.lnk := rfl
@[simp] theorem withEth_twin (f) (s : State) : (withEth f s).twin = s.twin := rfl
@[simp] theorem withEth_eth (f) (s : State) : (withEth f s).eth = f s.eth := rfl
@[simp] theorem withEth_pcie (f) (s : State) : (withEth f s).pcie = s.pcie := rfl
@[simp] theorem withEth_ddr (f) (s : State) : (withEth f s).ddr = s.ddr := rfl
@[simp] theorem withEth_fwall (f) (s : State) : (withEth f s).fwall = s.fwall := rfl
@[simp] theorem withEth_hlth (f) (s : State) : (withEth f s).hlth = s.hlth := rfl
@[simp] theorem withEth_dump (f) (s : State) : (withEth f s).dump = s.dump := rfl
@[simp] theorem withEth_test (f) (s : State) : (withEth f s).test = s.test := rfl
@[simp] theorem withEth_hostMem (f) (s : State) : (withEth f s).hostMem = s.hostMem := rfl
@[simp] theorem withPcie_pending (f) (s : State) : (withPcie f s).pending = s.pending := rfl
@[simp] theorem withPcie_free (f) (s : State) : (withPcie f s).free = s.free := rfl
@[simp] theorem withPcie_sys (f) (s : State) : (withPcie f s).sys = s.sys := rfl
@[simp] theorem withPcie_boot (f) (s : State) : (withPcie f s).boot = s.boot := rfl
@[simp] theorem withPcie_hif (f) (s : State) : (withPcie f s).hif = s.hif := rfl
@[simp] theorem withPcie_evt (f) (s : State) : (withPcie f s).evt = s.evt := rfl
@[simp] theorem withPcie_rfc (f) (s : State) : (withPcie f s).rfc = s.rfc := rfl
@[simp] theorem withPcie_lane (f) (s : State) : (withPcie f s).lane = s.lane := rfl
@[simp] theorem withPcie_slot (f) (s : State) : (withPcie f s).slot = s.slot := rfl
@[simp] theorem withPcie_budg (f) (s : State) : (withPcie f s).budg = s.budg := rfl
@[simp] theorem withPcie_tm (f) (s : State) : (withPcie f s).tm = s.tm := rfl
@[simp] theorem withPcie_tbl (f) (s : State) : (withPcie f s).tbl = s.tbl := rfl
@[simp] theorem withPcie_sec (f) (s : State) : (withPcie f s).sec = s.sec := rfl
@[simp] theorem withPcie_aon (f) (s : State) : (withPcie f s).aon = s.aon := rfl
@[simp] theorem withPcie_otp (f) (s : State) : (withPcie f s).otp = s.otp := rfl
@[simp] theorem withPcie_flash (f) (s : State) : (withPcie f s).flash = s.flash := rfl
@[simp] theorem withPcie_cry (f) (s : State) : (withPcie f s).cry = s.cry := rfl
@[simp] theorem withPcie_chk (f) (s : State) : (withPcie f s).chk = s.chk := rfl
@[simp] theorem withPcie_upd (f) (s : State) : (withPcie f s).upd = s.upd := rfl
@[simp] theorem withPcie_time (f) (s : State) : (withPcie f s).time = s.time := rfl
@[simp] theorem withPcie_lnk (f) (s : State) : (withPcie f s).lnk = s.lnk := rfl
@[simp] theorem withPcie_twin (f) (s : State) : (withPcie f s).twin = s.twin := rfl
@[simp] theorem withPcie_eth (f) (s : State) : (withPcie f s).eth = s.eth := rfl
@[simp] theorem withPcie_pcie (f) (s : State) : (withPcie f s).pcie = f s.pcie := rfl
@[simp] theorem withPcie_ddr (f) (s : State) : (withPcie f s).ddr = s.ddr := rfl
@[simp] theorem withPcie_fwall (f) (s : State) : (withPcie f s).fwall = s.fwall := rfl
@[simp] theorem withPcie_hlth (f) (s : State) : (withPcie f s).hlth = s.hlth := rfl
@[simp] theorem withPcie_dump (f) (s : State) : (withPcie f s).dump = s.dump := rfl
@[simp] theorem withPcie_test (f) (s : State) : (withPcie f s).test = s.test := rfl
@[simp] theorem withPcie_hostMem (f) (s : State) : (withPcie f s).hostMem = s.hostMem := rfl
@[simp] theorem withDdr_pending (f) (s : State) : (withDdr f s).pending = s.pending := rfl
@[simp] theorem withDdr_free (f) (s : State) : (withDdr f s).free = s.free := rfl
@[simp] theorem withDdr_sys (f) (s : State) : (withDdr f s).sys = s.sys := rfl
@[simp] theorem withDdr_boot (f) (s : State) : (withDdr f s).boot = s.boot := rfl
@[simp] theorem withDdr_hif (f) (s : State) : (withDdr f s).hif = s.hif := rfl
@[simp] theorem withDdr_evt (f) (s : State) : (withDdr f s).evt = s.evt := rfl
@[simp] theorem withDdr_rfc (f) (s : State) : (withDdr f s).rfc = s.rfc := rfl
@[simp] theorem withDdr_lane (f) (s : State) : (withDdr f s).lane = s.lane := rfl
@[simp] theorem withDdr_slot (f) (s : State) : (withDdr f s).slot = s.slot := rfl
@[simp] theorem withDdr_budg (f) (s : State) : (withDdr f s).budg = s.budg := rfl
@[simp] theorem withDdr_tm (f) (s : State) : (withDdr f s).tm = s.tm := rfl
@[simp] theorem withDdr_tbl (f) (s : State) : (withDdr f s).tbl = s.tbl := rfl
@[simp] theorem withDdr_sec (f) (s : State) : (withDdr f s).sec = s.sec := rfl
@[simp] theorem withDdr_aon (f) (s : State) : (withDdr f s).aon = s.aon := rfl
@[simp] theorem withDdr_otp (f) (s : State) : (withDdr f s).otp = s.otp := rfl
@[simp] theorem withDdr_flash (f) (s : State) : (withDdr f s).flash = s.flash := rfl
@[simp] theorem withDdr_cry (f) (s : State) : (withDdr f s).cry = s.cry := rfl
@[simp] theorem withDdr_chk (f) (s : State) : (withDdr f s).chk = s.chk := rfl
@[simp] theorem withDdr_upd (f) (s : State) : (withDdr f s).upd = s.upd := rfl
@[simp] theorem withDdr_time (f) (s : State) : (withDdr f s).time = s.time := rfl
@[simp] theorem withDdr_lnk (f) (s : State) : (withDdr f s).lnk = s.lnk := rfl
@[simp] theorem withDdr_twin (f) (s : State) : (withDdr f s).twin = s.twin := rfl
@[simp] theorem withDdr_eth (f) (s : State) : (withDdr f s).eth = s.eth := rfl
@[simp] theorem withDdr_pcie (f) (s : State) : (withDdr f s).pcie = s.pcie := rfl
@[simp] theorem withDdr_ddr (f) (s : State) : (withDdr f s).ddr = f s.ddr := rfl
@[simp] theorem withDdr_fwall (f) (s : State) : (withDdr f s).fwall = s.fwall := rfl
@[simp] theorem withDdr_hlth (f) (s : State) : (withDdr f s).hlth = s.hlth := rfl
@[simp] theorem withDdr_dump (f) (s : State) : (withDdr f s).dump = s.dump := rfl
@[simp] theorem withDdr_test (f) (s : State) : (withDdr f s).test = s.test := rfl
@[simp] theorem withDdr_hostMem (f) (s : State) : (withDdr f s).hostMem = s.hostMem := rfl
@[simp] theorem withFwall_pending (f) (s : State) : (withFwall f s).pending = s.pending := rfl
@[simp] theorem withFwall_free (f) (s : State) : (withFwall f s).free = s.free := rfl
@[simp] theorem withFwall_sys (f) (s : State) : (withFwall f s).sys = s.sys := rfl
@[simp] theorem withFwall_boot (f) (s : State) : (withFwall f s).boot = s.boot := rfl
@[simp] theorem withFwall_hif (f) (s : State) : (withFwall f s).hif = s.hif := rfl
@[simp] theorem withFwall_evt (f) (s : State) : (withFwall f s).evt = s.evt := rfl
@[simp] theorem withFwall_rfc (f) (s : State) : (withFwall f s).rfc = s.rfc := rfl
@[simp] theorem withFwall_lane (f) (s : State) : (withFwall f s).lane = s.lane := rfl
@[simp] theorem withFwall_slot (f) (s : State) : (withFwall f s).slot = s.slot := rfl
@[simp] theorem withFwall_budg (f) (s : State) : (withFwall f s).budg = s.budg := rfl
@[simp] theorem withFwall_tm (f) (s : State) : (withFwall f s).tm = s.tm := rfl
@[simp] theorem withFwall_tbl (f) (s : State) : (withFwall f s).tbl = s.tbl := rfl
@[simp] theorem withFwall_sec (f) (s : State) : (withFwall f s).sec = s.sec := rfl
@[simp] theorem withFwall_aon (f) (s : State) : (withFwall f s).aon = s.aon := rfl
@[simp] theorem withFwall_otp (f) (s : State) : (withFwall f s).otp = s.otp := rfl
@[simp] theorem withFwall_flash (f) (s : State) : (withFwall f s).flash = s.flash := rfl
@[simp] theorem withFwall_cry (f) (s : State) : (withFwall f s).cry = s.cry := rfl
@[simp] theorem withFwall_chk (f) (s : State) : (withFwall f s).chk = s.chk := rfl
@[simp] theorem withFwall_upd (f) (s : State) : (withFwall f s).upd = s.upd := rfl
@[simp] theorem withFwall_time (f) (s : State) : (withFwall f s).time = s.time := rfl
@[simp] theorem withFwall_lnk (f) (s : State) : (withFwall f s).lnk = s.lnk := rfl
@[simp] theorem withFwall_twin (f) (s : State) : (withFwall f s).twin = s.twin := rfl
@[simp] theorem withFwall_eth (f) (s : State) : (withFwall f s).eth = s.eth := rfl
@[simp] theorem withFwall_pcie (f) (s : State) : (withFwall f s).pcie = s.pcie := rfl
@[simp] theorem withFwall_ddr (f) (s : State) : (withFwall f s).ddr = s.ddr := rfl
@[simp] theorem withFwall_fwall (f) (s : State) : (withFwall f s).fwall = f s.fwall := rfl
@[simp] theorem withFwall_hlth (f) (s : State) : (withFwall f s).hlth = s.hlth := rfl
@[simp] theorem withFwall_dump (f) (s : State) : (withFwall f s).dump = s.dump := rfl
@[simp] theorem withFwall_test (f) (s : State) : (withFwall f s).test = s.test := rfl
@[simp] theorem withFwall_hostMem (f) (s : State) : (withFwall f s).hostMem = s.hostMem := rfl
@[simp] theorem withHlth_pending (f) (s : State) : (withHlth f s).pending = s.pending := rfl
@[simp] theorem withHlth_free (f) (s : State) : (withHlth f s).free = s.free := rfl
@[simp] theorem withHlth_sys (f) (s : State) : (withHlth f s).sys = s.sys := rfl
@[simp] theorem withHlth_boot (f) (s : State) : (withHlth f s).boot = s.boot := rfl
@[simp] theorem withHlth_hif (f) (s : State) : (withHlth f s).hif = s.hif := rfl
@[simp] theorem withHlth_evt (f) (s : State) : (withHlth f s).evt = s.evt := rfl
@[simp] theorem withHlth_rfc (f) (s : State) : (withHlth f s).rfc = s.rfc := rfl
@[simp] theorem withHlth_lane (f) (s : State) : (withHlth f s).lane = s.lane := rfl
@[simp] theorem withHlth_slot (f) (s : State) : (withHlth f s).slot = s.slot := rfl
@[simp] theorem withHlth_budg (f) (s : State) : (withHlth f s).budg = s.budg := rfl
@[simp] theorem withHlth_tm (f) (s : State) : (withHlth f s).tm = s.tm := rfl
@[simp] theorem withHlth_tbl (f) (s : State) : (withHlth f s).tbl = s.tbl := rfl
@[simp] theorem withHlth_sec (f) (s : State) : (withHlth f s).sec = s.sec := rfl
@[simp] theorem withHlth_aon (f) (s : State) : (withHlth f s).aon = s.aon := rfl
@[simp] theorem withHlth_otp (f) (s : State) : (withHlth f s).otp = s.otp := rfl
@[simp] theorem withHlth_flash (f) (s : State) : (withHlth f s).flash = s.flash := rfl
@[simp] theorem withHlth_cry (f) (s : State) : (withHlth f s).cry = s.cry := rfl
@[simp] theorem withHlth_chk (f) (s : State) : (withHlth f s).chk = s.chk := rfl
@[simp] theorem withHlth_upd (f) (s : State) : (withHlth f s).upd = s.upd := rfl
@[simp] theorem withHlth_time (f) (s : State) : (withHlth f s).time = s.time := rfl
@[simp] theorem withHlth_lnk (f) (s : State) : (withHlth f s).lnk = s.lnk := rfl
@[simp] theorem withHlth_twin (f) (s : State) : (withHlth f s).twin = s.twin := rfl
@[simp] theorem withHlth_eth (f) (s : State) : (withHlth f s).eth = s.eth := rfl
@[simp] theorem withHlth_pcie (f) (s : State) : (withHlth f s).pcie = s.pcie := rfl
@[simp] theorem withHlth_ddr (f) (s : State) : (withHlth f s).ddr = s.ddr := rfl
@[simp] theorem withHlth_fwall (f) (s : State) : (withHlth f s).fwall = s.fwall := rfl
@[simp] theorem withHlth_hlth (f) (s : State) : (withHlth f s).hlth = f s.hlth := rfl
@[simp] theorem withHlth_dump (f) (s : State) : (withHlth f s).dump = s.dump := rfl
@[simp] theorem withHlth_test (f) (s : State) : (withHlth f s).test = s.test := rfl
@[simp] theorem withHlth_hostMem (f) (s : State) : (withHlth f s).hostMem = s.hostMem := rfl
@[simp] theorem withDump_pending (f) (s : State) : (withDump f s).pending = s.pending := rfl
@[simp] theorem withDump_free (f) (s : State) : (withDump f s).free = s.free := rfl
@[simp] theorem withDump_sys (f) (s : State) : (withDump f s).sys = s.sys := rfl
@[simp] theorem withDump_boot (f) (s : State) : (withDump f s).boot = s.boot := rfl
@[simp] theorem withDump_hif (f) (s : State) : (withDump f s).hif = s.hif := rfl
@[simp] theorem withDump_evt (f) (s : State) : (withDump f s).evt = s.evt := rfl
@[simp] theorem withDump_rfc (f) (s : State) : (withDump f s).rfc = s.rfc := rfl
@[simp] theorem withDump_lane (f) (s : State) : (withDump f s).lane = s.lane := rfl
@[simp] theorem withDump_slot (f) (s : State) : (withDump f s).slot = s.slot := rfl
@[simp] theorem withDump_budg (f) (s : State) : (withDump f s).budg = s.budg := rfl
@[simp] theorem withDump_tm (f) (s : State) : (withDump f s).tm = s.tm := rfl
@[simp] theorem withDump_tbl (f) (s : State) : (withDump f s).tbl = s.tbl := rfl
@[simp] theorem withDump_sec (f) (s : State) : (withDump f s).sec = s.sec := rfl
@[simp] theorem withDump_aon (f) (s : State) : (withDump f s).aon = s.aon := rfl
@[simp] theorem withDump_otp (f) (s : State) : (withDump f s).otp = s.otp := rfl
@[simp] theorem withDump_flash (f) (s : State) : (withDump f s).flash = s.flash := rfl
@[simp] theorem withDump_cry (f) (s : State) : (withDump f s).cry = s.cry := rfl
@[simp] theorem withDump_chk (f) (s : State) : (withDump f s).chk = s.chk := rfl
@[simp] theorem withDump_upd (f) (s : State) : (withDump f s).upd = s.upd := rfl
@[simp] theorem withDump_time (f) (s : State) : (withDump f s).time = s.time := rfl
@[simp] theorem withDump_lnk (f) (s : State) : (withDump f s).lnk = s.lnk := rfl
@[simp] theorem withDump_twin (f) (s : State) : (withDump f s).twin = s.twin := rfl
@[simp] theorem withDump_eth (f) (s : State) : (withDump f s).eth = s.eth := rfl
@[simp] theorem withDump_pcie (f) (s : State) : (withDump f s).pcie = s.pcie := rfl
@[simp] theorem withDump_ddr (f) (s : State) : (withDump f s).ddr = s.ddr := rfl
@[simp] theorem withDump_fwall (f) (s : State) : (withDump f s).fwall = s.fwall := rfl
@[simp] theorem withDump_hlth (f) (s : State) : (withDump f s).hlth = s.hlth := rfl
@[simp] theorem withDump_dump (f) (s : State) : (withDump f s).dump = f s.dump := rfl
@[simp] theorem withDump_test (f) (s : State) : (withDump f s).test = s.test := rfl
@[simp] theorem withDump_hostMem (f) (s : State) : (withDump f s).hostMem = s.hostMem := rfl
@[simp] theorem withTest_pending (f) (s : State) : (withTest f s).pending = s.pending := rfl
@[simp] theorem withTest_free (f) (s : State) : (withTest f s).free = s.free := rfl
@[simp] theorem withTest_sys (f) (s : State) : (withTest f s).sys = s.sys := rfl
@[simp] theorem withTest_boot (f) (s : State) : (withTest f s).boot = s.boot := rfl
@[simp] theorem withTest_hif (f) (s : State) : (withTest f s).hif = s.hif := rfl
@[simp] theorem withTest_evt (f) (s : State) : (withTest f s).evt = s.evt := rfl
@[simp] theorem withTest_rfc (f) (s : State) : (withTest f s).rfc = s.rfc := rfl
@[simp] theorem withTest_lane (f) (s : State) : (withTest f s).lane = s.lane := rfl
@[simp] theorem withTest_slot (f) (s : State) : (withTest f s).slot = s.slot := rfl
@[simp] theorem withTest_budg (f) (s : State) : (withTest f s).budg = s.budg := rfl
@[simp] theorem withTest_tm (f) (s : State) : (withTest f s).tm = s.tm := rfl
@[simp] theorem withTest_tbl (f) (s : State) : (withTest f s).tbl = s.tbl := rfl
@[simp] theorem withTest_sec (f) (s : State) : (withTest f s).sec = s.sec := rfl
@[simp] theorem withTest_aon (f) (s : State) : (withTest f s).aon = s.aon := rfl
@[simp] theorem withTest_otp (f) (s : State) : (withTest f s).otp = s.otp := rfl
@[simp] theorem withTest_flash (f) (s : State) : (withTest f s).flash = s.flash := rfl
@[simp] theorem withTest_cry (f) (s : State) : (withTest f s).cry = s.cry := rfl
@[simp] theorem withTest_chk (f) (s : State) : (withTest f s).chk = s.chk := rfl
@[simp] theorem withTest_upd (f) (s : State) : (withTest f s).upd = s.upd := rfl
@[simp] theorem withTest_time (f) (s : State) : (withTest f s).time = s.time := rfl
@[simp] theorem withTest_lnk (f) (s : State) : (withTest f s).lnk = s.lnk := rfl
@[simp] theorem withTest_twin (f) (s : State) : (withTest f s).twin = s.twin := rfl
@[simp] theorem withTest_eth (f) (s : State) : (withTest f s).eth = s.eth := rfl
@[simp] theorem withTest_pcie (f) (s : State) : (withTest f s).pcie = s.pcie := rfl
@[simp] theorem withTest_ddr (f) (s : State) : (withTest f s).ddr = s.ddr := rfl
@[simp] theorem withTest_fwall (f) (s : State) : (withTest f s).fwall = s.fwall := rfl
@[simp] theorem withTest_hlth (f) (s : State) : (withTest f s).hlth = s.hlth := rfl
@[simp] theorem withTest_dump (f) (s : State) : (withTest f s).dump = s.dump := rfl
@[simp] theorem withTest_test (f) (s : State) : (withTest f s).test = f s.test := rfl
@[simp] theorem withTest_hostMem (f) (s : State) : (withTest f s).hostMem = s.hostMem := rfl
@[simp] theorem withHostMem_pending (f) (s : State) : (withHostMem f s).pending = s.pending := rfl
@[simp] theorem withHostMem_free (f) (s : State) : (withHostMem f s).free = s.free := rfl
@[simp] theorem withHostMem_sys (f) (s : State) : (withHostMem f s).sys = s.sys := rfl
@[simp] theorem withHostMem_boot (f) (s : State) : (withHostMem f s).boot = s.boot := rfl
@[simp] theorem withHostMem_hif (f) (s : State) : (withHostMem f s).hif = s.hif := rfl
@[simp] theorem withHostMem_evt (f) (s : State) : (withHostMem f s).evt = s.evt := rfl
@[simp] theorem withHostMem_rfc (f) (s : State) : (withHostMem f s).rfc = s.rfc := rfl
@[simp] theorem withHostMem_lane (f) (s : State) : (withHostMem f s).lane = s.lane := rfl
@[simp] theorem withHostMem_slot (f) (s : State) : (withHostMem f s).slot = s.slot := rfl
@[simp] theorem withHostMem_budg (f) (s : State) : (withHostMem f s).budg = s.budg := rfl
@[simp] theorem withHostMem_tm (f) (s : State) : (withHostMem f s).tm = s.tm := rfl
@[simp] theorem withHostMem_tbl (f) (s : State) : (withHostMem f s).tbl = s.tbl := rfl
@[simp] theorem withHostMem_sec (f) (s : State) : (withHostMem f s).sec = s.sec := rfl
@[simp] theorem withHostMem_aon (f) (s : State) : (withHostMem f s).aon = s.aon := rfl
@[simp] theorem withHostMem_otp (f) (s : State) : (withHostMem f s).otp = s.otp := rfl
@[simp] theorem withHostMem_flash (f) (s : State) : (withHostMem f s).flash = s.flash := rfl
@[simp] theorem withHostMem_cry (f) (s : State) : (withHostMem f s).cry = s.cry := rfl
@[simp] theorem withHostMem_chk (f) (s : State) : (withHostMem f s).chk = s.chk := rfl
@[simp] theorem withHostMem_upd (f) (s : State) : (withHostMem f s).upd = s.upd := rfl
@[simp] theorem withHostMem_time (f) (s : State) : (withHostMem f s).time = s.time := rfl
@[simp] theorem withHostMem_lnk (f) (s : State) : (withHostMem f s).lnk = s.lnk := rfl
@[simp] theorem withHostMem_twin (f) (s : State) : (withHostMem f s).twin = s.twin := rfl
@[simp] theorem withHostMem_eth (f) (s : State) : (withHostMem f s).eth = s.eth := rfl
@[simp] theorem withHostMem_pcie (f) (s : State) : (withHostMem f s).pcie = s.pcie := rfl
@[simp] theorem withHostMem_ddr (f) (s : State) : (withHostMem f s).ddr = s.ddr := rfl
@[simp] theorem withHostMem_fwall (f) (s : State) : (withHostMem f s).fwall = s.fwall := rfl
@[simp] theorem withHostMem_hlth (f) (s : State) : (withHostMem f s).hlth = s.hlth := rfl
@[simp] theorem withHostMem_dump (f) (s : State) : (withHostMem f s).dump = s.dump := rfl
@[simp] theorem withHostMem_test (f) (s : State) : (withHostMem f s).test = s.test := rfl
@[simp] theorem withHostMem_hostMem (f) (s : State) : (withHostMem f s).hostMem = f s.hostMem := rfl

end Sys2Proof.Machine
end

