-- ==== Sys2Proof/Laws/Command.lean ====
section
/-!
SUPPORT. What the command path of R30 does, once: a command that is Ready runs its meaning and is answered.
-/
namespace Sys2Proof.Laws
open Machine Safety

/-- The state in which a meaning runs: its command is in flight. -/
def inFlightWith (h : Hdr) (c : Cmd) (s : State) : State :=
  withHif (fun f => { f with flights := f.flights ++ [newFlight h c s] }) s

theorem not_isFor {h : Hdr} {c : Cmd} {s : State} (ht : TagFree h s) : ∀ f ∈ s.hif.flights, isFor h c f = false := by
  intro f hf
  have := ht f hf
  simp only [isFor]
  by_cases hq : f.qp = h.qp
  · have h2 : f.hdr ≠ h := fun e => this ⟨hq, by rw [e]⟩
    simp [h2]
  · simp [hq]

theorem any_isFor {h : Hdr} {c : Cmd} {s : State} (ht : TagFree h s) : s.hif.flights.any (isFor h c) = false := by
  simpa using not_isFor ht

theorem any_isTag {h : Hdr} {s : State} (ht : TagFree h s) : s.hif.flights.any (isTag h.qp h.tag) = false := by
  simp only [List.any_eq_false, isTag]
  intro f hf
  simpa using ht f hf

theorem isFor_new (h : Hdr) (c : Cmd) (s : State) : isFor h c (newFlight h c s) = true := by simp [isFor, newFlight]

theorem find_append_new {p : Flight → Bool} {x : Flight} (l : List Flight) (hl : ∀ f ∈ l, p f = false) (hx : p x = true) :
    (l ++ [x]).find? p = some x := by
  induction l with
  | nil => simp [hx]
  | cons y t ih => simp [hl y (by simp), ih (fun f hf => hl f (by simp [hf]))]

theorem before_append_new {p : Flight → Bool} {x : Flight} (l : List Flight) (hl : ∀ f ∈ l, p f = false) (hx : p x = true) :
    before p (l ++ [x]) = l := by
  induction l with
  | nil => simp [before, hx]
  | cons y t ih =>
    have := ih (fun f hf => hl f (by simp [hf]))
    simp only [before] at this
    simp [before, hl y (by simp), this]

theorem modFirst_append_new {p : Flight → Bool} {x : Flight} (g : Flight → Flight) (l : List Flight) (hl : ∀ f ∈ l, p f = false)
    (hx : p x = true) : modFirst p g (l ++ [x]) = l ++ [g x] := by
  induction l with
  | nil => simp [modFirst, hx]
  | cons y t ih => simp [modFirst, hl y (by simp), ih (fun f hf => hl f (by simp [hf]))]

/-- A fetched command that no check refuses joins the commands in flight. -/
theorem fetchEntry_ok {h : Hdr} {c : Cmd} {s : State} (ht : TagFree h s) (he : entryRefusal h (some c) s = stOk)
    (hp : hflag h 2 = true → h.paramError = false) : fetchEntry h (some c) 0 0 s = inFlightWith h c s := by
  have hb : (hflag h 2 && h.paramError) = false := by
    cases h2 : hflag h 2
    · rfl
    · simp [hp h2]
  simp [fetchEntry, any_isTag ht, he, inFlightWith, newFlight, hb]

/-- An entry that passes the checks was read without a PCIe error (R107). -/
theorem entry_paramOk {h : Hdr} {c : Cmd} {s : State} (he : entryRefusal h (some c) s = stOk) : hflag h 2 = true → h.paramError = false := by
  intro h2
  by_contra hc
  have hc : h.paramError = true := by simpa using hc
  simp only [entryRefusal, h2, hc] at he
  repeat' split at he
  all_goals simp_all

/-- A command that is Ready runs its meaning, and the result is its completion record. -/
theorem agentRun_ready {h : Hdr} {c : Cmd} {run : State → Res} {s : State} (hr : Ready h c s) :
    agentRun h c run s = .next (complete (isFor h c) (run (inFlightWith h c s))) := by
  obtain ⟨ha, ht, he, hd, hu, hf, hj⟩ := hr
  have hn := not_isFor (c := c) ht
  have hx := isFor_new h c s
  have hfl : (inFlightWith h c s).hif.flights = s.hif.flights ++ [newFlight h c s] := rfl
  have hms : mayStart s.hif.flights (newFlight h c s) = true := by
    simp only [mayStart, List.all_eq_true]
    intro f hm
    by_cases hq : f.qp = h.qp
    · have := (hu f hm).1 hq
      simp [newFlight, this.1, this.2]
    · simp [newFlight, hq]
  have hhb : heldBack (inFlightWith h c s) s.hif.flights (newFlight h c s) = false := by
    have hrf : replyFull (inFlightWith h c s) h.qp = replyFull s h.qp := rfl
    simp only [heldBack, Bool.or_eq_false_iff, List.any_eq_false]
    refine ⟨fun f hm => ?_, ?_⟩
    · have := (hu f hm).2
      simpa [flowKey, newFlight] using this
    · simpa [newFlight, hrf] using hf
  have hjb : jobBusy c h.flow (inFlightWith h c s) = false := by
    have : jobBusy c h.flow (inFlightWith h c s) = jobBusy c h.flow s := rfl
    rw [this, hj]
  simp only [agentRun, ha, any_isFor ht, fetchEntry_ok ht he (entry_paramOk he)]
  simp only [workOn, hfl, find_append_new _ hn hx, before_append_new _ hn hx, hms, hhb, hd, unlessJob, hjb]
  simp [newFlight]

/-- The completion record of a meaning that leaves HIF and the time as they were. -/
theorem complete_ready {h : Hdr} {c : Cmd} {r : Res} {s : State} (ht : TagFree h s) (hh : r.st.hif = (inFlightWith h c s).hif)
    (hc : r.st.time.c = s.time.c) (ha : r.again = false) (hw : r.wait = false) :
    complete (isFor h c) r = { r.st with hif := answered h c r.status r.info r.data s } := by
  have hn := not_isFor (c := c) ht
  have hx := isFor_new h c s
  have hfl : r.st.hif.flights = s.hif.flights ++ [newFlight h c s] := by rw [hh]; rfl
  have hh2 : r.st.hif = { s.hif with flights := s.hif.flights ++ [newFlight h c s] } := by rw [hh]; rfl
  simp only [complete, withHif, modFirst_append_new _ _ hn hx, ha, hw, hh2]
  simp [answered, doneFlight, newFlight, fwTick, hc]

/-- A command that is Ready is answered by what its meaning comes to. -/
theorem agentRun_answers {h : Hdr} {c : Cmd} {run : State → Res} {s : State} (hr : Ready h c s) (r : Res)
    (he : run (inFlightWith h c s) = r) (hh : r.st.hif = (inFlightWith h c s).hif) (hc : r.st.time.c = s.time.c)
    (ha : r.again = false) (hw : r.wait = false) :
    agentRun h c run s = .next { r.st with hif := answered h c r.status r.info r.data s } := by
  rw [agentRun_ready hr, he, complete_ready hr.2.1 hh hc ha hw]

/-- The same, with the next state named. -/
theorem agentRun_next {h : Hdr} {c : Cmd} {run : State → Res} {s t : State} (hr : Ready h c s) {r : Res}
    (he : run (inFlightWith h c s) = r) (hh : r.st.hif = (inFlightWith h c s).hif) (hc : r.st.time.c = s.time.c)
    (ha : r.again = false) (hw : r.wait = false) (ht : { r.st with hif := answered h c r.status r.info r.data s } = t) :
    agentRun h c run s = .next t := by
  rw [agentRun_answers hr r he hh hc ha hw, ht]

/-- A command that is Ready and that its meaning refuses changes nothing else. -/
theorem agentRun_refuses {h : Hdr} {c : Cmd} {run : State → Res} {s : State} {st : Nat} (hr : Ready h c s)
    (he : run (inFlightWith h c s) = refuse (inFlightWith h c s) st) :
    agentRun h c run s = .next { s with hif := answered h c st 0 [] s } := by
  rw [agentRun_answers hr _ he rfl rfl rfl rfl]
  rfl

/-- The row of a command is its agent's work on it. -/
theorem exec_rowOf (h : Hdr) (c : Cmd) (s : State) : exec (rowOf h c) s = agentRun h c (runCmd h c) s := by cases c <;> rfl

end Sys2Proof.Laws
end

