-- ==== Sys2Proof/Laws/Table.lean ====
section
/-!
SUPPORT. Tables: what an entry reads as after another entry is put, and what a counter's increment does.
-/
namespace Sys2Proof.Laws
open Machine

/-- An entry put reads as the value put; every other entry reads as before. -/
theorem tget_tput {α : Type} (d : α) (t : Tbl α) (i j : Nat) (v : α) : tget d (tput t i v) j = if i = j then v else tget d t j := by
  induction t with
  | nil => simp [tput, tget]
  | cons e t ih =>
    obtain ⟨k, w⟩ := e
    simp only [tput]
    split
    · simp [tget]
    · split
      · rename_i h; subst h
        simp only [tget]; split <;> rfl
      · simp only [tget, ih]
        by_cases hk : k = j
        · have : i ≠ j := by omega
          simp [hk, this]
        · simp [hk]

@[simp] theorem tget_tput_same {α : Type} (d : α) (t : Tbl α) (i : Nat) (v : α) : tget d (tput t i v) i = v := by simp [tget_tput]

theorem tget_tput_other {α : Type} (d : α) (t : Tbl α) {i j : Nat} (v : α) (h : i ≠ j) : tget d (tput t i v) j = tget d t j := by
  simp [tget_tput, h]

/-- The same for the entry as an option. -/
theorem tfind_tput {α : Type} (t : Tbl α) (i j : Nat) (v : α) : tfind (tput t i v) j = if i = j then some v else tfind t j := by
  induction t with
  | nil => simp [tput, tfind]
  | cons e t ih =>
    obtain ⟨k, w⟩ := e
    simp only [tput]
    split
    · simp [tfind]
    · split
      · rename_i h; subst h
        simp only [tfind]; split <;> rfl
      · simp only [tfind, ih]
        by_cases hk : k = j
        · have : i ≠ j := by omega
          simp [hk, this]
        · simp [hk]

/-- Putting an entry twice is putting it the second time. -/
theorem tput_tput {α : Type} (t : Tbl α) (i : Nat) (v w : α) : tput (tput t i v) i w = tput t i w := by
  induction t with
  | nil => simp [tput]
  | cons e t ih =>
    obtain ⟨k, x⟩ := e
    by_cases h1 : i < k
    · simp [tput, h1]
    · by_cases h2 : k = i
      · simp [tput, h2]
      · simp [tput, h1, h2, ih]

theorem tdel_cons {α : Type} (k : Nat) (w : α) (t : Tbl α) (i : Nat) :
    tdel ((k, w) :: t) i = if k = i then tdel t i else (k, w) :: tdel t i := by
  by_cases h : k = i <;> simp [tdel, h]

/-- A deleted entry is not listed; every other entry is as before. -/
theorem tfind_tdel {α : Type} (t : Tbl α) (i j : Nat) : tfind (tdel t i) j = if i = j then none else tfind t j := by
  induction t with
  | nil => simp [tdel, tfind]
  | cons e t ih =>
    obtain ⟨k, w⟩ := e
    rw [tdel_cons]
    by_cases hk : k = i
    · rw [if_pos hk, ih]
      by_cases hj : i = j
      · simp [hj]
      · have : k ≠ j := by omega
        simp [hj, tfind, this]
    · rw [if_neg hk]
      by_cases hj : k = j
      · have : i ≠ j := by omega
        simp [tfind, hj, this]
      · simp [tfind, hj, ih]

/-- An entry modified reads as the function of what it read as. -/
theorem tget_tmod {α : Type} (d : α) (t : Tbl α) (i j : Nat) (f : α → α) :
    tget d (tmod d t i f) j = if i = j then f (tget d t j) else tget d t j := by
  simp only [tmod, tget_tput]
  split
  · rename_i h; rw [h]
  · rfl

/-- A counter's increment: the one counter, one higher, and saturating. -/
theorem tget_bump (t : Tbl Nat) (i j : Nat) : tget 0 (bump t i) j = if i = j then min (tget 0 t j + 1) 0xFFFFFFFF else tget 0 t j :=
  tget_tmod 0 t i j satInc

theorem satInc_le (n : Nat) : satInc n ≤ 0xFFFFFFFF := Nat.min_le_right _ _

end Sys2Proof.Laws
end

