-- ==== Sys2Proof/Laws/Event.lean ====
section
/-!
SUPPORT. Raising an event source changes nothing but the event block, and of it only the cause bits, the messages and the held bits.
-/
namespace Sys2Proof.Laws
open Machine

theorem notify_only (v : Nat) (s : State) :
    notify v s = { s with evt := { s.evt with msgs := (notify v s).evt.msgs, held := (notify v s).evt.held } } := by
  unfold notify; split <;> rfl

theorem settle_only (v : Nat) (was again : Bool) (s : State) :
    settle v was again s = { s with evt := { s.evt with msgs := (settle v was again s).evt.msgs, held := (settle v was again s).evt.held } } := by
  unfold settle
  split
  · split
    · rfl
    · exact notify_only v s
  · rfl

/-- Raising a source changes only the cause bits, the messages sent and the held bits. -/
theorem raise_only (n : Nat) (s : State) :
    raise n s = { s with evt := { s.evt with cause := (raise n s).evt.cause, msgs := (raise n s).evt.msgs, held := (raise n s).evt.held } } := by
  unfold raise
  dsimp only
  split
  · rfl
  · rw [settle_only]; rfl

/-- A source that is disabled or whose cause bit is set raises nothing (R131, R132). -/
theorem raise_idle {n : Nat} {s : State} (h : (srcCfgOf s n).enable = false ∨ s.evt.cause.testBit n = true) : raise n s = s := by
  unfold raise
  rcases h with h | h <;> simp [h]

/-- The cause bits after a raise. -/
theorem raise_cause (n : Nat) (s : State) :
    (raise n s).evt.cause = if (srcCfgOf s n).enable && !s.evt.cause.testBit n then setBit s.evt.cause n else s.evt.cause := by
  unfold raise
  dsimp only
  by_cases h : (!(srcCfgOf s n).enable || s.evt.cause.testBit n) = true
  · have h2 : ((srcCfgOf s n).enable && !s.evt.cause.testBit n) = false := by
      cases h3 : (srcCfgOf s n).enable <;> cases h4 : s.evt.cause.testBit n <;> simp_all
    rw [if_pos h, h2]; rfl
  · have h2 : ((srcCfgOf s n).enable && !s.evt.cause.testBit n) = true := by
      cases h3 : (srcCfgOf s n).enable <;> cases h4 : s.evt.cause.testBit n <;> simp_all
    rw [if_neg h, if_pos h2, settle_only]; rfl

/-- A raise with a status word: the word is kept whether or not the source raises. -/
theorem raiseW_words (n w : Nat) (s : State) : (raiseW n w s).evt.words = tput s.evt.words n w := by
  unfold raiseW; rw [raise_only]; rfl

/-- A raise with a status word changes the event block only. -/
theorem raiseW_only (n w : Nat) (s : State) : raiseW n w s = { s with evt := (raiseW n w s).evt } := by
  unfold raiseW; rw [raise_only]; rfl

theorem raiseIf_only (b : Bool) (n : Nat) (s : State) : raiseIf b n s = { s with evt := (raiseIf b n s).evt } := by
  unfold raiseIf; split
  · rw [raise_only]
  · rfl

end Sys2Proof.Laws
end

