-- ==== Sys2Proof/Laws/InFlight.lean ====
section
/-!
SUPPORT. What a meaning reads in the state in which it runs: a command just put in flight changes HIF alone, so every other block, and every
accessor that reads no command in flight, reads as before; true by rfl.
-/
namespace Sys2Proof.Laws
open Machine Safety

@[simp] theorem inFlightWith_at_pending (h : Hdr) (c : Cmd) (s : State) : (inFlightWith h c s).pending = s.pending := rfl
@[simp] theorem inFlightWith_at_free (h : Hdr) (c : Cmd) (s : State) : (inFlightWith h c s).free = s.free := rfl
@[simp] theorem inFlightWith_at_sys (h : Hdr) (c : Cmd) (s : State) : (inFlightWith h c s).sys = s.sys := rfl
@[simp] theorem inFlightWith_at_boot (h : Hdr) (c : Cmd) (s : State) : (inFlightWith h c s).boot = s.boot := rfl
@[simp] theorem inFlightWith_at_evt (h : Hdr) (c : Cmd) (s : State) : (inFlightWith h c s).evt = s.evt := rfl
@[simp] theorem inFlightWith_at_rfc (h : Hdr) (c : Cmd) (s : State) : (inFlightWith h c s).rfc = s.rfc := rfl
@[simp] theorem inFlightWith_at_lane (h : Hdr) (c : Cmd) (s : State) : (inFlightWith h c s).lane = s.lane := rfl
@[simp] theorem inFlightWith_at_slot (h : Hdr) (c : Cmd) (s : State) : (inFlightWith h c s).slot = s.slot := rfl
@[simp] theorem inFlightWith_at_budg (h : Hdr) (c : Cmd) (s : State) : (inFlightWith h c s).budg = s.budg := rfl
@[simp] theorem inFlightWith_at_tm (h : Hdr) (c : Cmd) (s : State) : (inFlightWith h c s).tm = s.tm := rfl
@[simp] theorem inFlightWith_at_tbl (h : Hdr) (c : Cmd) (s : State) : (inFlightWith h c s).tbl = s.tbl := rfl
@[simp] theorem inFlightWith_at_sec (h : Hdr) (c : Cmd) (s : State) : (inFlightWith h c s).sec = s.sec := rfl
@[simp] theorem inFlightWith_at_aon (h : Hdr) (c : Cmd) (s : State) : (inFlightWith h c s).aon = s.aon := rfl
@[simp] theorem inFlightWith_at_otp (h : Hdr) (c : Cmd) (s : State) : (inFlightWith h c s).otp = s.otp := rfl
@[simp] theorem inFlightWith_at_flash (h : Hdr) (c : Cmd) (s : State) : (inFlightWith h c s).flash = s.flash := rfl
@[simp] theorem inFlightWith_at_cry (h : Hdr) (c : Cmd) (s : State) : (inFlightWith h c s).cry = s.cry := rfl
@[simp] theorem inFlightWith_at_chk (h : Hdr) (c : Cmd) (s : State) : (inFlightWith h c s).chk = s.chk := rfl
@[simp] theorem inFlightWith_at_upd (h : Hdr) (c : Cmd) (s : State) : (inFlightWith h c s).upd = s.upd := rfl
@[simp] theorem inFlightWith_at_time (h : Hdr) (c : Cmd) (s : State) : (inFlightWith h c s).time = s.time := rfl
@[simp] theorem inFlightWith_at_lnk (h : Hdr) (c : Cmd) (s : State) : (inFlightWith h c s).lnk = s.lnk := rfl
@[simp] theorem inFlightWith_at_twin (h : Hdr) (c : Cmd) (s : State) : (inFlightWith h c s).twin = s.twin := rfl
@[simp] theorem inFlightWith_at_eth (h : Hdr) (c : Cmd) (s : State) : (inFlightWith h c s).eth = s.eth := rfl
@[simp] theorem inFlightWith_at_pcie (h : Hdr) (c : Cmd) (s : State) : (inFlightWith h c s).pcie = s.pcie := rfl
@[simp] theorem inFlightWith_at_ddr (h : Hdr) (c : Cmd) (s : State) : (inFlightWith h c s).ddr = s.ddr := rfl
@[simp] theorem inFlightWith_at_fwall (h : Hdr) (c : Cmd) (s : State) : (inFlightWith h c s).fwall = s.fwall := rfl
@[simp] theorem inFlightWith_at_hlth (h : Hdr) (c : Cmd) (s : State) : (inFlightWith h c s).hlth = s.hlth := rfl
@[simp] theorem inFlightWith_at_dump (h : Hdr) (c : Cmd) (s : State) : (inFlightWith h c s).dump = s.dump := rfl
@[simp] theorem inFlightWith_at_test (h : Hdr) (c : Cmd) (s : State) : (inFlightWith h c s).test = s.test := rfl
@[simp] theorem inFlightWith_at_hostMem (h : Hdr) (c : Cmd) (s : State) : (inFlightWith h c s).hostMem = s.hostMem := rfl
@[simp] theorem inFlightWith_slotMf (h : Hdr) (c : Cmd) (s : State) (f : Nat) : slotMf (inFlightWith h c s) f = slotMf s f := rfl
@[simp] theorem inFlightWith_slotSv (h : Hdr) (c : Cmd) (s : State) (p : BootProbe) (f : Nat) : slotSv p f (inFlightWith h c s) = slotSv p f s := rfl
@[simp] theorem inFlightWith_slotStageOk (h : Hdr) (c : Cmd) (s : State) (f : Nat) : slotStageOk (inFlightWith h c s) f = slotStageOk s f := rfl
@[simp] theorem inFlightWith_slotResult (h : Hdr) (c : Cmd) (s : State) (p : BootProbe) (f : Nat) : slotResult p f (inFlightWith h c s) = slotResult p f s := rfl
@[simp] theorem inFlightWith_stateReply (h : Hdr) (c : Cmd) (s : State) : stateReply (inFlightWith h c s) = stateReply s := rfl
@[simp] theorem inFlightWith_lullRefused (h : Hdr) (c : Cmd) (s : State) : lullRefused (inFlightWith h c s) = lullRefused s := rfl
@[simp] theorem inFlightWith_testPlan (h : Hdr) (c : Cmd) (s : State) : testPlan (inFlightWith h c s) = testPlan s := rfl
@[simp] theorem inFlightWith_chainRefusal (h : Hdr) (c : Cmd) (s : State) (c1 : Nat) (phy : Nat) (channel : Nat) : chainRefusal (inFlightWith h c s) c1 phy channel = chainRefusal s c1 phy channel := rfl
@[simp] theorem inFlightWith_testSlots (h : Hdr) (c : Cmd) (s : State) (ms : Nat) : testSlots (inFlightWith h c s) ms = testSlots s ms := rfl
@[simp] theorem inFlightWith_isIdleTwin (h : Hdr) (c : Cmd) (s : State) : isIdleTwin (inFlightWith h c s) = isIdleTwin s := rfl
@[simp] theorem inFlightWith_bistRangeOk (h : Hdr) (c : Cmd) (s : State) (p : TestBistP) : bistRangeOk p (inFlightWith h c s) = bistRangeOk p s := rfl
@[simp] theorem inFlightWith_bistAllowed (h : Hdr) (c : Cmd) (s : State) (i : Nat) : bistAllowed (inFlightWith h c s) i = bistAllowed s i := rfl
@[simp] theorem inFlightWith_testReply (h : Hdr) (c : Cmd) (s : State) : testReply (inFlightWith h c s) = testReply s := rfl
@[simp] theorem inFlightWith_tapInstruction (h : Hdr) (c : Cmd) (s : State) (ir : Nat) : tapInstruction (inFlightWith h c s) ir = tapInstruction s ir := rfl
@[simp] theorem inFlightWith_chargedBands (h : Hdr) (c : Cmd) (s : State) (carrier : Nat) (phy : Nat) : chargedBands (inFlightWith h c s) carrier phy = chargedBands s carrier phy := rfl
@[simp] theorem inFlightWith_forbidden (h : Hdr) (c : Cmd) (s : State) (carrier : Nat) (phy : Nat) (us : Nat) : forbidden (inFlightWith h c s) carrier phy us = forbidden s carrier phy us := rfl
@[simp] theorem inFlightWith_debitOf (h : Hdr) (c : Cmd) (s : State) (bucket : Nat) (band : Nat) (scope : Nat) : debitOf (inFlightWith h c s) bucket band scope = debitOf s bucket band scope := rfl
@[simp] theorem inFlightWith_usage (h : Hdr) (c : Cmd) (s : State) (band : Nat) (scope : Nat) (b : Nat) : usage (inFlightWith h c s) band scope b = usage s band scope b := rfl
@[simp] theorem inFlightWith_limitOf (h : Hdr) (c : Cmd) (s : State) (band : Nat) (scope : Nat) : limitOf (inFlightWith h c s) band scope = limitOf s band scope := rfl
@[simp] theorem inFlightWith_aboveWarn (h : Hdr) (c : Cmd) (s : State) (band : Nat) (scope : Nat) (b : Nat) : aboveWarn (inFlightWith h c s) band scope b = aboveWarn s band scope b := rfl
@[simp] theorem inFlightWith_atWarn (h : Hdr) (c : Cmd) (s : State) (band : Nat) (scope : Nat) (b : Nat) : atWarn (inFlightWith h c s) band scope b = atWarn s band scope b := rfl
@[simp] theorem inFlightWith_failing (h : Hdr) (c : Cmd) (s : State) (bucket : Nat) (chain : Nat) (us : Nat) (bands : List Nat) : failing (inFlightWith h c s) bucket chain us bands = failing s bucket chain us bands := rfl
@[simp] theorem inFlightWith_bucketAt (h : Hdr) (c : Cmd) (s : State) (sNs : Int) : bucketAt (inFlightWith h c s) sNs = bucketAt s sNs := rfl
@[simp] theorem inFlightWith_usageMs (h : Hdr) (c : Cmd) (s : State) (band : Nat) (scope : Nat) : usageMs (inFlightWith h c s) band scope = usageMs s band scope := rfl
@[simp] theorem inFlightWith_memberTaken (h : Hdr) (c : Cmd) (s : State) (i : Nat) : memberTaken (inFlightWith h c s) i = memberTaken s i := rfl
@[simp] theorem inFlightWith_campCfgOk (h : Hdr) (c : Cmd) (s : State) (g : CampCfg) : campCfgOk (inFlightWith h c s) g = campCfgOk s g := rfl
@[simp] theorem inFlightWith_windowNow (h : Hdr) (c : Cmd) (s : State) (g : CampCfg) : windowNow (inFlightWith h c s) g = windowNow s g := rfl
@[simp] theorem inFlightWith_timedOf (h : Hdr) (c : Cmd) (s : State) (q : Nat) : timedOf (inFlightWith h c s) q = timedOf s q := rfl
@[simp] theorem inFlightWith_answers (h : Hdr) (c : Cmd) (s : State) : answers (inFlightWith h c s) = answers s := rfl
@[simp] theorem inFlightWith_testAgent (h : Hdr) (c : Cmd) (s : State) (h1 : Hdr) (c1 : Cmd) : testAgent (inFlightWith h c s) h1 c1 = testAgent s h1 c1 := rfl
@[simp] theorem inFlightWith_isStandby (h : Hdr) (c : Cmd) (s : State) : isStandby (inFlightWith h c s) = isStandby s := rfl
@[simp] theorem inFlightWith_isMgmt (h : Hdr) (c : Cmd) (s : State) (q : Nat) : isMgmt (inFlightWith h c s) q = isMgmt s q := rfl
@[simp] theorem inFlightWith_pfFrozen (h : Hdr) (c : Cmd) (s : State) (func : Nat) : pfFrozen (inFlightWith h c s) func = pfFrozen s func := rfl
@[simp] theorem inFlightWith_dmaFrozen (h : Hdr) (c : Cmd) (s : State) (q : Nat) : dmaFrozen (inFlightWith h c s) q = dmaFrozen s q := rfl
@[simp] theorem inFlightWith_actTick (h : Hdr) (c : Cmd) (s : State) (ref : Nat) (act : Nat) : actTick (inFlightWith h c s) ref act = actTick s ref act := rfl
@[simp] theorem inFlightWith_timedRefusal (h : Hdr) (c : Cmd) (s : State) (h1 : Hdr) (c1 : Cmd) : timedRefusal h1 c1 (inFlightWith h c s) = timedRefusal h1 c1 s := rfl
@[simp] theorem inFlightWith_entryRefusal (h : Hdr) (c : Cmd) (s : State) (h1 : Hdr) (c1 : Option Cmd) : entryRefusal h1 c1 (inFlightWith h c s) = entryRefusal h1 c1 s := rfl
@[simp] theorem inFlightWith_replyFull (h : Hdr) (c : Cmd) (s : State) (q : Nat) : replyFull (inFlightWith h c s) q = replyFull s q := rfl
@[simp] theorem inFlightWith_heldBack (h : Hdr) (c : Cmd) (s : State) (earlier : List Flight) (f : Flight) : heldBack (inFlightWith h c s) earlier f = heldBack s earlier f := rfl
@[simp] theorem inFlightWith_jobRuns (h : Hdr) (c : Cmd) (s : State) (family : Nat) (flow : Nat) : jobRuns family flow (inFlightWith h c s) = jobRuns family flow s := rfl
@[simp] theorem inFlightWith_jobBusy (h : Hdr) (c : Cmd) (s : State) (c1 : Cmd) (flow : Nat) : jobBusy c1 flow (inFlightWith h c s) = jobBusy c1 flow s := rfl
@[simp] theorem inFlightWith_replyVector (h : Hdr) (c : Cmd) (s : State) (q : Nat) : replyVector (inFlightWith h c s) q = replyVector s q := rfl
@[simp] theorem inFlightWith_causeVectors (h : Hdr) (c : Cmd) (s : State) (k : Nat) (value : Nat) : causeVectors (inFlightWith h c s) k value = causeVectors s k value := rfl
@[simp] theorem inFlightWith_laneBusy (h : Hdr) (c : Cmd) (s : State) (n : Nat) : laneBusy (inFlightWith h c s) n = laneBusy s n := rfl
@[simp] theorem inFlightWith_atBoundary (h : Hdr) (c : Cmd) (s : State) (u : Nat) : atBoundary (inFlightWith h c s) u = atBoundary s u := rfl
@[simp] theorem inFlightWith_chkValueNow (h : Hdr) (c : Cmd) (s : State) (u : Nat) : chkValueNow (inFlightWith h c s) u = chkValueNow s u := rfl
@[simp] theorem inFlightWith_thOf (h : Hdr) (c : Cmd) (s : State) (r : Nat) : thOf (inFlightWith h c s) r = thOf s r := rfl
@[simp] theorem inFlightWith_fhOf (h : Hdr) (c : Cmd) (s : State) (r : Nat) : fhOf (inFlightWith h c s) r = fhOf s r := rfl
@[simp] theorem inFlightWith_fhBad (h : Hdr) (c : Cmd) (s : State) (e : FhEntry) : fhBad (inFlightWith h c s) e = fhBad s e := rfl
@[simp] theorem inFlightWith_sysStateWord (h : Hdr) (c : Cmd) (s : State) : sysStateWord (inFlightWith h c s) = sysStateWord s := rfl
@[simp] theorem inFlightWith_bootStatusWord (h : Hdr) (c : Cmd) (s : State) : bootStatusWord (inFlightWith h c s) = bootStatusWord s := rfl
@[simp] theorem inFlightWith_faultNLow (h : Hdr) (c : Cmd) (s : State) : faultNLow (inFlightWith h c s) = faultNLow s := rfl
@[simp] theorem inFlightWith_chainStatusWord (h : Hdr) (c : Cmd) (s : State) (c1 : Nat) : chainStatusWord (inFlightWith h c s) c1 = chainStatusWord s c1 := rfl
@[simp] theorem inFlightWith_lmapWord (h : Hdr) (c : Cmd) (s : State) (n : Nat) : lmapWord (inFlightWith h c s) n = lmapWord s n := rfl
@[simp] theorem inFlightWith_tuneBlanked (h : Hdr) (c : Cmd) (s : State) (u : LaneTune) : tuneBlanked (inFlightWith h c s) u = tuneBlanked s u := rfl
@[simp] theorem inFlightWith_listens (h : Hdr) (c : Cmd) (s : State) (p : Nat) : listens (inFlightWith h c s) p = listens s p := rfl
@[simp] theorem inFlightWith_pstatusWord (h : Hdr) (c : Cmd) (s : State) (p : Nat) : pstatusWord (inFlightWith h c s) p = pstatusWord s p := rfl
@[simp] theorem inFlightWith_sparesFree (h : Hdr) (c : Cmd) (s : State) : sparesFree (inFlightWith h c s) = sparesFree s := rfl
@[simp] theorem inFlightWith_sparesReplacing (h : Hdr) (c : Cmd) (s : State) : sparesReplacing (inFlightWith h c s) = sparesReplacing s := rfl
@[simp] theorem inFlightWith_sparesSpawned (h : Hdr) (c : Cmd) (s : State) : sparesSpawned (inFlightWith h c s) = sparesSpawned s := rfl
@[simp] theorem inFlightWith_spareWord (h : Hdr) (c : Cmd) (s : State) : spareWord (inFlightWith h c s) = spareWord s := rfl
@[simp] theorem inFlightWith_slotStatusWord (h : Hdr) (c : Cmd) (s : State) : slotStatusWord (inFlightWith h c s) = slotStatusWord s := rfl
@[simp] theorem inFlightWith_sfStatusWord (h : Hdr) (c : Cmd) (s : State) (n : Nat) : sfStatusWord (inFlightWith h c s) n = sfStatusWord s n := rfl
@[simp] theorem inFlightWith_listStatusWord (h : Hdr) (c : Cmd) (s : State) (f : Nat) : listStatusWord (inFlightWith h c s) f = listStatusWord s f := rfl
@[simp] theorem inFlightWith_frontStatusWord (h : Hdr) (c : Cmd) (s : State) : frontStatusWord (inFlightWith h c s) = frontStatusWord s := rfl
@[simp] theorem inFlightWith_budgStatusWord (h : Hdr) (c : Cmd) (s : State) : budgStatusWord (inFlightWith h c s) = budgStatusWord s := rfl
@[simp] theorem inFlightWith_nodeCount (h : Hdr) (c : Cmd) (s : State) : nodeCount (inFlightWith h c s) = nodeCount s := rfl
@[simp] theorem inFlightWith_nbrCount (h : Hdr) (c : Cmd) (s : State) : nbrCount (inFlightWith h c s) = nbrCount s := rfl
@[simp] theorem inFlightWith_pinCount (h : Hdr) (c : Cmd) (s : State) : pinCount (inFlightWith h c s) = pinCount s := rfl
@[simp] theorem inFlightWith_tblStatusWord (h : Hdr) (c : Cmd) (s : State) : tblStatusWord (inFlightWith h c s) = tblStatusWord s := rfl
@[simp] theorem inFlightWith_secStatusWord (h : Hdr) (c : Cmd) (s : State) : secStatusWord (inFlightWith h c s) = secStatusWord s := rfl
@[simp] theorem inFlightWith_slotsIn (h : Hdr) (c : Cmd) (s : State) (st : Nat) : slotsIn (inFlightWith h c s) st = slotsIn s st := rfl
@[simp] theorem inFlightWith_stagedCount (h : Hdr) (c : Cmd) (s : State) : stagedCount (inFlightWith h c s) = stagedCount s := rfl
@[simp] theorem inFlightWith_secSlotsWord (h : Hdr) (c : Cmd) (s : State) : secSlotsWord (inFlightWith h c s) = secSlotsWord s := rfl
@[simp] theorem inFlightWith_secSlots2Word (h : Hdr) (c : Cmd) (s : State) : secSlots2Word (inFlightWith h c s) = secSlots2Word s := rfl
@[simp] theorem inFlightWith_tamperCauseWord (h : Hdr) (c : Cmd) (s : State) : tamperCauseWord (inFlightWith h c s) = tamperCauseWord s := rfl
@[simp] theorem inFlightWith_cryStatusWord (h : Hdr) (c : Cmd) (s : State) : cryStatusWord (inFlightWith h c s) = cryStatusWord s := rfl
@[simp] theorem inFlightWith_ccmCtxWord (h : Hdr) (c : Cmd) (s : State) : ccmCtxWord (inFlightWith h c s) = ccmCtxWord s := rfl
@[simp] theorem inFlightWith_chkStatusWord (h : Hdr) (c : Cmd) (s : State) (u : Nat) : chkStatusWord (inFlightWith h c s) u = chkStatusWord s u := rfl
@[simp] theorem inFlightWith_targetSlot (h : Hdr) (c : Cmd) (s : State) : targetSlot (inFlightWith h c s) = targetSlot s := rfl
@[simp] theorem inFlightWith_fwStatusWord (h : Hdr) (c : Cmd) (s : State) : fwStatusWord (inFlightWith h c s) = fwStatusWord s := rfl
@[simp] theorem inFlightWith_campStatusWord (h : Hdr) (c : Cmd) (s : State) (c1 : Nat) : campStatusWord (inFlightWith h c s) c1 = campStatusWord s c1 := rfl
@[simp] theorem inFlightWith_timeStatusWord (h : Hdr) (c : Cmd) (s : State) : timeStatusWord (inFlightWith h c s) = timeStatusWord s := rfl
@[simp] theorem inFlightWith_cmpCtrlWord (h : Hdr) (c : Cmd) (s : State) (n : Nat) : cmpCtrlWord (inFlightWith h c s) n = cmpCtrlWord s n := rfl
@[simp] theorem inFlightWith_capStatusWord (h : Hdr) (c : Cmd) (s : State) (i : Nat) : capStatusWord (inFlightWith h c s) i = capStatusWord s i := rfl
@[simp] theorem inFlightWith_portStatusWord (h : Hdr) (c : Cmd) (s : State) (p : Nat) : portStatusWord (inFlightWith h c s) p = portStatusWord s p := rfl
@[simp] theorem inFlightWith_topoWord (h : Hdr) (c : Cmd) (s : State) : topoWord (inFlightWith h c s) = topoWord s := rfl
@[simp] theorem inFlightWith_claimSynced (h : Hdr) (c : Cmd) (s : State) : claimSynced (inFlightWith h c s) = claimSynced s := rfl
@[simp] theorem inFlightWith_twinStatusWord (h : Hdr) (c : Cmd) (s : State) : twinStatusWord (inFlightWith h c s) = twinStatusWord s := rfl
@[simp] theorem inFlightWith_chainsOut (h : Hdr) (c : Cmd) (s : State) : chainsOut (inFlightWith h c s) = chainsOut s := rfl
@[simp] theorem inFlightWith_lanesOut (h : Hdr) (c : Cmd) (s : State) : lanesOut (inFlightWith h c s) = lanesOut s := rfl
@[simp] theorem inFlightWith_portsDown (h : Hdr) (c : Cmd) (s : State) : portsDown (inFlightWith h c s) = portsDown s := rfl
@[simp] theorem inFlightWith_health (h : Hdr) (c : Cmd) (s : State) : health (inFlightWith h c s) = health s := rfl
@[simp] theorem inFlightWith_claimWord (h : Hdr) (c : Cmd) (s : State) : claimWord (inFlightWith h c s) = claimWord s := rfl
@[simp] theorem inFlightWith_ethStatusWord (h : Hdr) (c : Cmd) (s : State) (e : Nat) : ethStatusWord (inFlightWith h c s) e = ethStatusWord s e := rfl
@[simp] theorem inFlightWith_pcieLinkWord (h : Hdr) (c : Cmd) (s : State) : pcieLinkWord (inFlightWith h c s) = pcieLinkWord s := rfl
@[simp] theorem inFlightWith_ddrStatusWord (h : Hdr) (c : Cmd) (s : State) : ddrStatusWord (inFlightWith h c s) = ddrStatusWord s := rfl
@[simp] theorem inFlightWith_frozenMask (h : Hdr) (c : Cmd) (s : State) : frozenMask (inFlightWith h c s) = frozenMask s := rfl
@[simp] theorem inFlightWith_recInfoWord (h : Hdr) (c : Cmd) (s : State) : recInfoWord (inFlightWith h c s) = recInfoWord s := rfl
@[simp] theorem inFlightWith_coresActive (h : Hdr) (c : Cmd) (s : State) : coresActive (inFlightWith h c s) = coresActive s := rfl
@[simp] theorem inFlightWith_coresSpare (h : Hdr) (c : Cmd) (s : State) : coresSpare (inFlightWith h c s) = coresSpare s := rfl
@[simp] theorem inFlightWith_recoveryCore (h : Hdr) (c : Cmd) (s : State) : recoveryCore (inFlightWith h c s) = recoveryCore s := rfl
@[simp] theorem inFlightWith_hlthCoresWord (h : Hdr) (c : Cmd) (s : State) : hlthCoresWord (inFlightWith h c s) = hlthCoresWord s := rfl
@[simp] theorem inFlightWith_hlthOtpWord (h : Hdr) (c : Cmd) (s : State) : hlthOtpWord (inFlightWith h c s) = hlthOtpWord s := rfl
@[simp] theorem inFlightWith_dumpStatusWord (h : Hdr) (c : Cmd) (s : State) : dumpStatusWord (inFlightWith h c s) = dumpStatusWord s := rfl
@[simp] theorem inFlightWith_testStatusWord (h : Hdr) (c : Cmd) (s : State) : testStatusWord (inFlightWith h c s) = testStatusWord s := rfl
@[simp] theorem inFlightWith_bistFailWord (h : Hdr) (c : Cmd) (s : State) : bistFailWord (inFlightWith h c s) = bistFailWord s := rfl
@[simp] theorem inFlightWith_tmStatusWord (h : Hdr) (c : Cmd) (s : State) : tmStatusWord (inFlightWith h c s) = tmStatusWord s := rfl
@[simp] theorem inFlightWith_airFor (h : Hdr) (c : Cmd) (s : State) (phy : Nat) (mcs : Nat) (len : Nat) (zao : Option (List Nat × Nat)) : airFor (inFlightWith h c s) phy mcs len zao = airFor s phy mcs len zao := rfl
@[simp] theorem inFlightWith_zaoFor (h : Hdr) (c : Cmd) (s : State) (f : QFrame) : zaoFor (inFlightWith h c s) f = zaoFor s f := rfl
@[simp] theorem inFlightWith_airOf (h : Hdr) (c : Cmd) (s : State) (phy : Nat) (mcs : Nat) (f : QFrame) : airOf (inFlightWith h c s) phy mcs f = airOf s phy mcs f := rfl
@[simp] theorem inFlightWith_airMaxAck (h : Hdr) (c : Cmd) (s : State) (t : Template) (phy : Nat) (mcs : Nat) : airMaxAck (inFlightWith h c s) t phy mcs = airMaxAck s t phy mcs := rfl
@[simp] theorem inFlightWith_fits (h : Hdr) (c : Cmd) (s : State) (t : Template) (phy : Nat) (mcs : Nat) (f : QFrame) : fits (inFlightWith h c s) t phy mcs f = fits s t phy mcs f := rfl
@[simp] theorem inFlightWith_rel (h : Hdr) (c : Cmd) (s : State) (n : Nat) (e : TxEntry) (us : Int) : rel (inFlightWith h c s) n e us = rel s n e us := rfl
@[simp] theorem inFlightWith_txSpan (h : Hdr) (c : Cmd) (s : State) (n : Nat) (e : TxEntry) : txSpan (inFlightWith h c s) n e = txSpan s n e := rfl
@[simp] theorem inFlightWith_blankSpan (h : Hdr) (c : Cmd) (s : State) (n : Nat) (e : TxEntry) : blankSpan (inFlightWith h c s) n e = blankSpan s n e := rfl
@[simp] theorem inFlightWith_activeStarts (h : Hdr) (c : Cmd) (s : State) (u : SuperSt) (n : Nat) : activeStarts (inFlightWith h c s) u n = activeStarts s u n := rfl
@[simp] theorem inFlightWith_superBusy (h : Hdr) (c : Cmd) (s : State) (n : Nat) (c1 : Nat) (a : Int × Int) : superBusy (inFlightWith h c s) n c1 a = superBusy s n c1 a := rfl
@[simp] theorem inFlightWith_excluded (h : Hdr) (c : Cmd) (s : State) (c1 : Nat) (n : Nat) : excluded (inFlightWith h c s) c1 n = excluded s c1 n := rfl
@[simp] theorem inFlightWith_qualifies (h : Hdr) (c : Cmd) (s : State) (c1 : Nat) (n : Nat) (phy : Nat) (ch : Nat) : qualifies (inFlightWith h c s) c1 n phy ch = qualifies s c1 n phy ch := rfl
@[simp] theorem inFlightWith_chainsFor (h : Hdr) (c : Cmd) (s : State) (pl : Plan) (x : CellW) (ch : Nat) : chainsFor (inFlightWith h c s) pl x ch = chainsFor s pl x ch := rfl
@[simp] theorem inFlightWith_hopChannel (h : Hdr) (c : Cmd) (s : State) (sf : Nat) (n : Nat) (offset : Nat) : hopChannel (inFlightWith h c s) sf n offset = hopChannel s sf n offset := rfl
@[simp] theorem inFlightWith_freeLane (h : Hdr) (c : Cmd) (s : State) (pl : Plan) (c1 : Nat) : freeLane (inFlightWith h c s) pl c1 = freeLane s pl c1 := rfl
@[simp] theorem inFlightWith_centreTaken (h : Hdr) (c : Cmd) (s : State) (pl : Plan) (phy : Nat) (f : Nat) : centreTaken (inFlightWith h c s) pl phy f = centreTaken s pl phy f := rfl
@[simp] theorem inFlightWith_laneBlanked (h : Hdr) (c : Cmd) (s : State) (pl : Plan) (c1 : Nat) (f : Nat) (a : Int × Int) : laneBlanked (inFlightWith h c s) pl c1 f a = laneBlanked s pl c1 f a := rfl
@[simp] theorem inFlightWith_blanksPlan (h : Hdr) (c : Cmd) (s : State) (pl : Plan) (e : TxEntry) : blanksPlan (inFlightWith h c s) pl e = blanksPlan s pl e := rfl
@[simp] theorem inFlightWith_txFree (h : Hdr) (c : Cmd) (s : State) (pl : Plan) (c1 : Nat) (a : Int × Int) (inSuper : Bool) : txFree (inFlightWith h c s) pl c1 a inSuper = txFree s pl c1 a inSuper := rfl
@[simp] theorem inFlightWith_onChain (h : Hdr) (c : Cmd) (s : State) (pl : Plan) (c1 : Nat) (carrier : Nat) (e : TxEntry) : onChain (inFlightWith h c s) pl c1 carrier e = onChain s pl c1 carrier e := rfl
@[simp] theorem inFlightWith_bucketOfUs (h : Hdr) (c : Cmd) (s : State) (n : Nat) (us : Nat) : bucketOfUs (inFlightWith h c s) n us = bucketOfUs s n us := rfl
@[simp] theorem inFlightWith_ackEntry (h : Hdr) (c : Cmd) (s : State) (t : Template) (mcs : Nat) (e : TxEntry) (n : Nat) : ackEntry (inFlightWith h c s) t mcs e n = ackEntry s t mcs e n := rfl
@[simp] theorem inFlightWith_listFor (h : Hdr) (c : Cmd) (s : State) (f : Nat) (n : Nat) : listFor (inFlightWith h c s) f n = listFor s f n := rfl
@[simp] theorem inFlightWith_cellDamaged (h : Hdr) (c : Cmd) (s : State) (f : Nat) (pos : Nat) : cellDamaged (inFlightWith h c s) f pos = cellDamaged s f pos := rfl
@[simp] theorem inFlightWith_activeCells (h : Hdr) (c : Cmd) (s : State) (n : Nat) : activeCells (inFlightWith h c s) n = activeCells s n := rfl
@[simp] theorem inFlightWith_cellPrio (h : Hdr) (c : Cmd) (s : State) (x : CellW) : cellPrio (inFlightWith h c s) x = cellPrio s x := rfl
@[simp] theorem inFlightWith_cellLe (h : Hdr) (c : Cmd) (s : State) (a : Nat × Nat × CellW) (b : Nat × Nat × CellW) : cellLe (inFlightWith h c s) a b = cellLe s a b := rfl
@[simp] theorem inFlightWith_frameWaiting (h : Hdr) (c : Cmd) (s : State) (peer : Nat) : frameWaiting (inFlightWith h c s) peer = frameWaiting s peer := rfl
@[simp] theorem inFlightWith_extraGuard (h : Hdr) (c : Cmd) (s : State) (peer : Nat) : extraGuard (inFlightWith h c s) peer = extraGuard s peer := rfl
@[simp] theorem inFlightWith_frameEntry (h : Hdr) (c : Cmd) (s : State) (t : Template) (f : Nat) (x : CellW) (ch : Nat) (q : Nat) (fr : QFrame) : frameEntry (inFlightWith h c s) t f x ch q fr = frameEntry s t f x ch q fr := rfl
@[simp] theorem inFlightWith_beaconEntry (h : Hdr) (c : Cmd) (s : State) (t : Template) (f : Nat) (x : CellW) (ch : Nat) : beaconEntry (inFlightWith h c s) t f x ch = beaconEntry s t f x ch := rfl
@[simp] theorem inFlightWith_rawStart (h : Hdr) (c : Cmd) (s : State) (n : Nat) (r : RawTx) (ref : Nat) (lead : Nat) : rawStart (inFlightWith h c s) n r ref lead = rawStart s n r ref lead := rfl
@[simp] theorem inFlightWith_rawLate (h : Hdr) (c : Cmd) (s : State) (n : Nat) (r : RawTx) (ref : Nat) (start : Int) : rawLate (inFlightWith h c s) n r ref start = rawLate s n r ref start := rfl
@[simp] theorem inFlightWith_openSection (h : Hdr) (c : Cmd) (s : State) (t : Nat) (i : Nat) : openSection (inFlightWith h c s) t i = openSection s t i := rfl
@[simp] theorem inFlightWith_dumpHeader (h : Hdr) (c : Cmd) (s : State) (cause : Nat) (flags : Nat) (core : Nat) (count : Nat) (total : Nat) (seq : Nat) : dumpHeader (inFlightWith h c s) cause flags core count total seq = dumpHeader s cause flags core count total seq := rfl
@[simp] theorem inFlightWith_dumpOf (h : Hdr) (c : Cmd) (s : State) (cause : Nat) (flags : Nat) (core : Nat) (limit : Nat) (secs : List (Nat × Nat × List Byte)) (seq : Nat) : dumpOf (inFlightWith h c s) cause flags core limit secs seq = dumpOf s cause flags core limit secs seq := rfl
@[simp] theorem inFlightWith_freeDumpSlot (h : Hdr) (c : Cmd) (s : State) : freeDumpSlot (inFlightWith h c s) = freeDumpSlot s := rfl
@[simp] theorem inFlightWith_romRuns (h : Hdr) (c : Cmd) (s : State) : romRuns (inFlightWith h c s) = romRuns s := rfl
@[simp] theorem inFlightWith_decidingRegion (h : Hdr) (c : Cmd) (s : State) (a : Nat) : decidingRegion (inFlightWith h c s) a = decidingRegion s a := rfl
@[simp] theorem inFlightWith_fwallAllows (h : Hdr) (c : Cmd) (s : State) (m : Nat) (a : Nat) (isWrite : Bool) : fwallAllows (inFlightWith h c s) m a isWrite = fwallAllows s m a isWrite := rfl
@[simp] theorem inFlightWith_dumpAt (h : Hdr) (c : Cmd) (s : State) (src : Nat) : dumpAt (inFlightWith h c s) src = dumpAt s src := rfl
@[simp] theorem inFlightWith_originalPage (h : Hdr) (c : Cmd) (s : State) (p : Nat) : originalPage (inFlightWith h c s) p = originalPage s p := rfl
@[simp] theorem inFlightWith_within24h (h : Hdr) (c : Cmd) (s : State) (l : List Nat) : within24h (inFlightWith h c s) l = within24h s l := rfl
@[simp] theorem inFlightWith_spareCore (h : Hdr) (c : Cmd) (s : State) : spareCore (inFlightWith h c s) = spareCore s := rfl
@[simp] theorem inFlightWith_journalKey (h : Hdr) (c : Cmd) (s : State) : journalKey (inFlightWith h c s) = journalKey s := rfl
@[simp] theorem inFlightWith_fingerprint (h : Hdr) (c : Cmd) (s : State) (m : KeyMat) : fingerprint (inFlightWith h c s) m = fingerprint s m := rfl
@[simp] theorem inFlightWith_startNonce (h : Hdr) (c : Cmd) (s : State) (m : KeyMat) : startNonce (inFlightWith h c s) m = startNonce s m := rfl
@[simp] theorem inFlightWith_twinLimits (h : Hdr) (c : Cmd) (s : State) : twinLimits (inFlightWith h c s) = twinLimits s := rfl
@[simp] theorem inFlightWith_nonceReady (h : Hdr) (c : Cmd) (s : State) (m : KeyMat) : nonceReady (inFlightWith h c s) m = nonceReady s m := rfl
@[simp] theorem inFlightWith_drawReady (h : Hdr) (c : Cmd) (s : State) (slot : Nat) : drawReady (inFlightWith h c s) slot = drawReady s slot := rfl
@[simp] theorem inFlightWith_childrenOf (h : Hdr) (c : Cmd) (s : State) (p : Nat) (g : Option Nat) : childrenOf (inFlightWith h c s) p g = childrenOf s p g := rfl
@[simp] theorem inFlightWith_overlapRuns (h : Hdr) (c : Cmd) (s : State) (k : KeySlotSt) : overlapRuns (inFlightWith h c s) k = overlapRuns s k := rfl
@[simp] theorem inFlightWith_unsettled (h : Hdr) (c : Cmd) (s : State) (who : Nat × Nat) : unsettled (inFlightWith h c s) who = unsettled s who := rfl
@[simp] theorem inFlightWith_recordKey (h : Hdr) (c : Cmd) (s : State) : recordKey (inFlightWith h c s) = recordKey s := rfl
@[simp] theorem inFlightWith_recordOf (h : Hdr) (c : Cmd) (s : State) (i : Nat) : recordOf (inFlightWith h c s) i = recordOf s i := rfl
@[simp] theorem inFlightWith_heldSlots (h : Hdr) (c : Cmd) (s : State) (p : Nat → Bool) : heldSlots (inFlightWith h c s) p = heldSlots s p := rfl
@[simp] theorem inFlightWith_usedSlots (h : Hdr) (c : Cmd) (s : State) (p : Nat → KeySlotSt → Bool) : usedSlots (inFlightWith h c s) p = usedSlots s p := rfl
@[simp] theorem inFlightWith_descBytes (h : Hdr) (c : Cmd) (s : State) (n : Nat) : descBytes (inFlightWith h c s) n = descBytes s n := rfl
@[simp] theorem inFlightWith_attestBody (h : Hdr) (c : Cmd) (s : State) (p : KeyAttestP) : attestBody p (inFlightWith h c s) = attestBody p s := rfl
@[simp] theorem inFlightWith_phyCfgOf (h : Hdr) (c : Cmd) (s : State) (n : Nat) (m : Nat) : phyCfgOf (inFlightWith h c s) n m = phyCfgOf s n m := rfl
@[simp] theorem inFlightWith_freeSpare (h : Hdr) (c : Cmd) (s : State) : freeSpare (inFlightWith h c s) = freeSpare s := rfl
@[simp] theorem inFlightWith_spawnOf (h : Hdr) (c : Cmd) (s : State) (n : Nat) : spawnOf (inFlightWith h c s) n = spawnOf s n := rfl
@[simp] theorem inFlightWith_validPreamble (h : Hdr) (c : Cmd) (s : State) (p : Nat) (corr : Nat) (rssi : Int) : validPreamble (inFlightWith h c s) p corr rssi = validPreamble s p corr rssi := rfl
@[simp] theorem inFlightWith_captures (h : Hdr) (c : Cmd) (s : State) (p : Nat) (rssi : Int) : captures (inFlightWith h c s) p rssi = captures s p rssi := rfl
@[simp] theorem inFlightWith_linkNbr (h : Hdr) (c : Cmd) (s : State) (link : Nat) : linkNbr (inFlightWith h c s) link = linkNbr s link := rfl
@[simp] theorem inFlightWith_zaoMap (h : Hdr) (c : Cmd) (s : State) (h1 : PhyHdr) : zaoMap (inFlightWith h c s) h1 = zaoMap s h1 := rfl
@[simp] theorem inFlightWith_boundaryOf (h : Hdr) (c : Cmd) (s : State) (asn : Nat) : boundaryOf (inFlightWith h c s) asn = boundaryOf s asn := rfl
@[simp] theorem inFlightWith_fixedTwin (h : Hdr) (c : Cmd) (s : State) (n : Nat) (f : Nat) (phy : Nat) : fixedTwin (inFlightWith h c s) n f phy = fixedTwin s n f phy := rfl
@[simp] theorem inFlightWith_laneOut (h : Hdr) (c : Cmd) (s : State) (n : Nat) : laneOut (inFlightWith h c s) n = laneOut s n := rfl
@[simp] theorem inFlightWith_assignReply (h : Hdr) (c : Cmd) (s : State) (n : Nat) (u : Option LaneTune) : assignReply (inFlightWith h c s) n u = assignReply s n u := rfl
@[simp] theorem inFlightWith_assignRefusal (h : Hdr) (c : Cmd) (s : State) (n : Nat) (p : LaneAssignP) : assignRefusal n p (inFlightWith h c s) = assignRefusal n p s := rfl
@[simp] theorem inFlightWith_laneStatusReply (h : Hdr) (c : Cmd) (s : State) (n : Nat) : laneStatusReply (inFlightWith h c s) n = laneStatusReply s n := rfl
@[simp] theorem inFlightWith_linkReady (h : Hdr) (c : Cmd) (s : State) (p : Nat) : linkReady (inFlightWith h c s) p = linkReady s p := rfl
@[simp] theorem inFlightWith_memberUp (h : Hdr) (c : Cmd) (s : State) (p : Nat) : memberUp (inFlightWith h c s) p = memberUp s p := rfl
@[simp] theorem inFlightWith_hopsVia (h : Hdr) (c : Cmd) (s : State) (m : Nat) (p : Nat) : hopsVia (inFlightWith h c s) m p = hopsVia s m p := rfl
@[simp] theorem inFlightWith_crosses (h : Hdr) (c : Cmd) (s : State) (r : Route) (d : Nat) (q : Nat) : crosses (inFlightWith h c s) r d q = crosses s r d q := rfl
@[simp] theorem inFlightWith_egressPort (h : Hdr) (c : Cmd) (s : State) (m : Nat) : egressPort (inFlightWith h c s) m = egressPort s m := rfl
@[simp] theorem inFlightWith_sourcePorts (h : Hdr) (c : Cmd) (s : State) : sourcePorts (inFlightWith h c s) = sourcePorts s := rfl
@[simp] theorem inFlightWith_forwardPorts (h : Hdr) (c : Cmd) (s : State) (p : Nat) (hops : Nat) : forwardPorts (inFlightWith h c s) p hops = forwardPorts s p hops := rfl
@[simp] theorem inFlightWith_portCfgRefusal (h : Hdr) (c : Cmd) (s : State) (f : Nat) (p : LnkPortCfgP) : portCfgRefusal f p (inFlightWith h c s) = portCfgRefusal f p s := rfl
@[simp] theorem inFlightWith_topologyRange (h : Hdr) (c : Cmd) (s : State) (p : LnkTopologyP) : topologyRange (inFlightWith h c s) p = topologyRange s p := rfl
@[simp] theorem inFlightWith_topologyOk (h : Hdr) (c : Cmd) (s : State) (p : LnkTopologyP) : topologyOk (inFlightWith h c s) p = topologyOk s p := rfl
@[simp] theorem inFlightWith_onwardPorts (h : Hdr) (c : Cmd) (s : State) (p : Nat) (f : LinkFrame) : onwardPorts (inFlightWith h c s) p f = onwardPorts s p f := rfl
@[simp] theorem inFlightWith_laneOk (h : Hdr) (c : Cmd) (s : State) (p : Nat) (vl : Nat) : laneOk (inFlightWith h c s) p vl = laneOk s p vl := rfl
@[simp] theorem inFlightWith_replayed (h : Hdr) (c : Cmd) (s : State) (p : Nat) (gen : Nat) (nc : Nat) : replayed (inFlightWith h c s) p gen nc = replayed s p gen nc := rfl
@[simp] theorem inFlightWith_authAir (h : Hdr) (c : Cmd) (s : State) (n : Nat) (f : AirFrame) : authAir (inFlightWith h c s) n f = authAir s n f := rfl
@[simp] theorem inFlightWith_frameOf (h : Hdr) (c : Cmd) (s : State) (e : TxEntry) : frameOf (inFlightWith h c s) e = frameOf s e := rfl
@[simp] theorem inFlightWith_entryNs (h : Hdr) (c : Cmd) (s : State) (e : TxEntry) (us : Nat) : entryNs (inFlightWith h c s) e us = entryNs s e us := rfl
@[simp] theorem inFlightWith_tmplOf (h : Hdr) (c : Cmd) (s : State) (e : TxEntry) : tmplOf (inFlightWith h c s) e = tmplOf s e := rfl
@[simp] theorem inFlightWith_ackWait (h : Hdr) (c : Cmd) (s : State) (e : TxEntry) (bytes : List Byte) : ackWait (inFlightWith h c s) e bytes = ackWait s e bytes := rfl
@[simp] theorem inFlightWith_fromNbr (h : Hdr) (c : Cmd) (s : State) (n : Nat) (f : AirFrame) : fromNbr (inFlightWith h c s) n f = fromNbr s n f := rfl
@[simp] theorem inFlightWith_ebBytes (h : Hdr) (c : Cmd) (s : State) (asn : Nat) : ebBytes (inFlightWith h c s) asn = ebBytes s asn := rfl
@[simp] theorem inFlightWith_plainOf (h : Hdr) (c : Cmd) (s : State) (e : TxEntry) : plainOf (inFlightWith h c s) e = plainOf s e := rfl
@[simp] theorem inFlightWith_keySlotOf (h : Hdr) (c : Cmd) (s : State) (e : TxEntry) : keySlotOf (inFlightWith h c s) e = keySlotOf s e := rfl
@[simp] theorem inFlightWith_isAirQueue (h : Hdr) (c : Cmd) (s : State) (q : Nat) : isAirQueue (inFlightWith h c s) q = isAirQueue s q := rfl
@[simp] theorem inFlightWith_keyStatus (h : Hdr) (c : Cmd) (s : State) (slot : Nat) (bitNo : Nat) : keyStatus (inFlightWith h c s) slot bitNo = keyStatus s slot bitNo := rfl
@[simp] theorem inFlightWith_randomBytes (h : Hdr) (c : Cmd) (s : State) (k : Nat) : randomBytes (inFlightWith h c s) k = randomBytes s k := rfl
@[simp] theorem inFlightWith_randomBelow (h : Hdr) (c : Cmd) (s : State) (n : Nat) : randomBelow (inFlightWith h c s) n = randomBelow s n := rfl
@[simp] theorem inFlightWith_freshJob (h : Hdr) (c : Cmd) (s : State) : freshJob (inFlightWith h c s) = freshJob s := rfl
@[simp] theorem inFlightWith_rawNs (h : Hdr) (c : Cmd) (s : State) : rawNs (inFlightWith h c s) = rawNs s := rfl
@[simp] theorem inFlightWith_rawSec (h : Hdr) (c : Cmd) (s : State) : rawSec (inFlightWith h c s) = rawSec s := rfl
@[simp] theorem inFlightWith_fwTick (h : Hdr) (c : Cmd) (s : State) : fwTick (inFlightWith h c s) = fwTick s := rfl
@[simp] theorem inFlightWith_selNs (h : Hdr) (c : Cmd) (s : State) : selNs (inFlightWith h c s) = selNs s := rfl
@[simp] theorem inFlightWith_refNs (h : Hdr) (c : Cmd) (s : State) (r : Nat) : refNs (inFlightWith h c s) r = refNs s r := rfl
@[simp] theorem inFlightWith_refTracked (h : Hdr) (c : Cmd) (s : State) (r : Nat) : refTracked (inFlightWith h c s) r = refTracked s r := rfl
@[simp] theorem inFlightWith_srcCfgOf (h : Hdr) (c : Cmd) (s : State) (n : Nat) : srcCfgOf (inFlightWith h c s) n = srcCfgOf s n := rfl
@[simp] theorem inFlightWith_qpOf (h : Hdr) (c : Cmd) (s : State) (q : Nat) : qpOf (inFlightWith h c s) q = qpOf s q := rfl
@[simp] theorem inFlightWith_blockPending (h : Hdr) (c : Cmd) (s : State) (v : Nat) : blockPending (inFlightWith h c s) v = blockPending s v := rfl
@[simp] theorem inFlightWith_vecPending (h : Hdr) (c : Cmd) (s : State) (v : Nat) : vecPending (inFlightWith h c s) v = vecPending s v := rfl
@[simp] theorem inFlightWith_chainOf (h : Hdr) (c : Cmd) (s : State) (c1 : Nat) : chainOf (inFlightWith h c s) c1 = chainOf s c1 := rfl
@[simp] theorem inFlightWith_laneOf (h : Hdr) (c : Cmd) (s : State) (n : Nat) : laneOf (inFlightWith h c s) n = laneOf s n := rfl
@[simp] theorem inFlightWith_physOf (h : Hdr) (c : Cmd) (s : State) (p : Nat) : physOf (inFlightWith h c s) p = physOf s p := rfl
@[simp] theorem inFlightWith_roleOf (h : Hdr) (c : Cmd) (s : State) (p : Nat) : roleOf (inFlightWith h c s) p = roleOf s p := rfl
@[simp] theorem inFlightWith_logicalOf (h : Hdr) (c : Cmd) (s : State) (p : Nat) : logicalOf (inFlightWith h c s) p = logicalOf s p := rfl
@[simp] theorem inFlightWith_lanePhys (h : Hdr) (c : Cmd) (s : State) (n : Nat) : lanePhys (inFlightWith h c s) n = lanePhys s n := rfl
@[simp] theorem inFlightWith_sfOf (h : Hdr) (c : Cmd) (s : State) (f : Nat) : sfOf (inFlightWith h c s) f = sfOf s f := rfl
@[simp] theorem inFlightWith_superOf (h : Hdr) (c : Cmd) (s : State) (n : Nat) : superOf (inFlightWith h c s) n = superOf s n := rfl
@[simp] theorem inFlightWith_nbrOf (h : Hdr) (c : Cmd) (s : State) (n : Nat) : nbrOf (inFlightWith h c s) n = nbrOf s n := rfl
@[simp] theorem inFlightWith_queueOf (h : Hdr) (c : Cmd) (s : State) (q : Nat) : queueOf (inFlightWith h c s) q = queueOf s q := rfl
@[simp] theorem inFlightWith_slotOf (h : Hdr) (c : Cmd) (s : State) (n : Nat) : slotOf (inFlightWith h c s) n = slotOf s n := rfl
@[simp] theorem inFlightWith_campOf (h : Hdr) (c : Cmd) (s : State) (c1 : Nat) : campOf (inFlightWith h c s) c1 = campOf s c1 := rfl
@[simp] theorem inFlightWith_portOf (h : Hdr) (c : Cmd) (s : State) (p : Nat) : portOf (inFlightWith h c s) p = portOf s p := rfl
@[simp] theorem inFlightWith_ethOf (h : Hdr) (c : Cmd) (s : State) (e : Nat) : ethOf (inFlightWith h c s) e = ethOf s e := rfl
@[simp] theorem inFlightWith_chkOf (h : Hdr) (c : Cmd) (s : State) (u : Nat) : chkOf (inFlightWith h c s) u = chkOf s u := rfl
@[simp] theorem inFlightWith_cmpOf (h : Hdr) (c : Cmd) (s : State) (n : Nat) : cmpOf (inFlightWith h c s) n = cmpOf s n := rfl
@[simp] theorem inFlightWith_freeCells (h : Hdr) (c : Cmd) (s : State) : freeCells (inFlightWith h c s) = freeCells s := rfl
@[simp] theorem inFlightWith_bufData (h : Hdr) (c : Cmd) (s : State) (id : Nat) : bufData (inFlightWith h c s) id = bufData s id := rfl
@[simp] theorem inFlightWith_gateHeld (h : Hdr) (c : Cmd) (s : State) : gateHeld (inFlightWith h c s) = gateHeld s := rfl
@[simp] theorem inFlightWith_gated (h : Hdr) (c : Cmd) (s : State) : gated (inFlightWith h c s) = gated s := rfl
@[simp] theorem inFlightWith_sourceKey (h : Hdr) (c : Cmd) (s : State) (f : AirFrame) : sourceKey (inFlightWith h c s) f = sourceKey s f := rfl
@[simp] theorem inFlightWith_rawMs (h : Hdr) (c : Cmd) (s : State) : rawMs (inFlightWith h c s) = rawMs s := rfl
@[simp] theorem inFlightWith_seqDup (h : Hdr) (c : Cmd) (s : State) (n : Nat) (f : AirFrame) : seqDup (inFlightWith h c s) n f = seqDup s n f := rfl
@[simp] theorem inFlightWith_blankDist (h : Hdr) (c : Cmd) (s : State) (t : Nat) (r : Nat) : blankDist (inFlightWith h c s) t r = blankDist s t r := rfl
@[simp] theorem inFlightWith_blankRow (h : Hdr) (c : Cmd) (s : State) (t : Nat) : blankRow (inFlightWith h c s) t = blankRow s t := rfl
@[simp] theorem inFlightWith_firstUnbuilt (h : Hdr) (c : Cmd) (s : State) : firstUnbuilt (inFlightWith h c s) = firstUnbuilt s := rfl
@[simp] theorem inFlightWith_calDue (h : Hdr) (c : Cmd) (s : State) (c1 : Nat) : calDue (inFlightWith h c s) c1 = calDue s c1 := rfl
@[simp] theorem inFlightWith_modeUsed (h : Hdr) (c : Cmd) (s : State) (c1 : Nat) (m : Nat) : modeUsed (inFlightWith h c s) c1 m = modeUsed s c1 m := rfl
@[simp] theorem inFlightWith_chainHasLanes (h : Hdr) (c : Cmd) (s : State) (c1 : Nat) : chainHasLanes (inFlightWith h c s) c1 = chainHasLanes s c1 := rfl
@[simp] theorem inFlightWith_chainCfgBusy (h : Hdr) (c : Cmd) (s : State) (c1 : Nat) (p : RadChainCfgP) : chainCfgBusy (inFlightWith h c s) c1 p = chainCfgBusy s c1 p := rfl
@[simp] theorem inFlightWith_chainLanes (h : Hdr) (c : Cmd) (s : State) (c1 : Nat) : chainLanes (inFlightWith h c s) c1 = chainLanes s c1 := rfl
@[simp] theorem inFlightWith_wantsWide (h : Hdr) (c : Cmd) (s : State) (c1 : Nat) : wantsWide (inFlightWith h c s) c1 = wantsWide s c1 := rfl
@[simp] theorem inFlightWith_flushKey (h : Hdr) (c : Cmd) (s : State) : flushKey (inFlightWith h c s) = flushKey s := rfl
@[simp] theorem inFlightWith_causeWord (h : Hdr) (c : Cmd) (s : State) (k : Nat) : causeWord (inFlightWith h c s) k = causeWord s k := rfl
@[simp] theorem inFlightWith_summaryWord (h : Hdr) (c : Cmd) (s : State) : summaryWord (inFlightWith h c s) = summaryWord s := rfl
@[simp] theorem inFlightWith_evtRegs (h : Hdr) (c : Cmd) (s : State) : evtRegs (inFlightWith h c s) = evtRegs s := rfl
@[simp] theorem inFlightWith_irqLow (h : Hdr) (c : Cmd) (s : State) (i : Nat) : irqLow (inFlightWith h c s) i = irqLow s i := rfl
@[simp] theorem inFlightWith_rfcRegs (h : Hdr) (c : Cmd) (s : State) : rfcRegs (inFlightWith h c s) = rfcRegs s := rfl
@[simp] theorem inFlightWith_laneRegs (h : Hdr) (c : Cmd) (s : State) : laneRegs (inFlightWith h c s) = laneRegs s := rfl
@[simp] theorem inFlightWith_listRegs (h : Hdr) (c : Cmd) (s : State) (f : Nat) : listRegs (inFlightWith h c s) f = listRegs s f := rfl
@[simp] theorem inFlightWith_slotRegs (h : Hdr) (c : Cmd) (s : State) : slotRegs (inFlightWith h c s) = slotRegs s := rfl
@[simp] theorem inFlightWith_limitMs (h : Hdr) (c : Cmd) (s : State) (j : Nat) (scope : Nat) : limitMs (inFlightWith h c s) j scope = limitMs s j scope := rfl
@[simp] theorem inFlightWith_budgRegs (h : Hdr) (c : Cmd) (s : State) : budgRegs (inFlightWith h c s) = budgRegs s := rfl
@[simp] theorem inFlightWith_tmRegs (h : Hdr) (c : Cmd) (s : State) : tmRegs (inFlightWith h c s) = tmRegs s := rfl
@[simp] theorem inFlightWith_tblRegs (h : Hdr) (c : Cmd) (s : State) : tblRegs (inFlightWith h c s) = tblRegs s := rfl
@[simp] theorem inFlightWith_secRegs (h : Hdr) (c : Cmd) (s : State) : secRegs (inFlightWith h c s) = secRegs s := rfl
@[simp] theorem inFlightWith_xtsRegs (h : Hdr) (c : Cmd) (s : State) (r : Nat) : xtsRegs (inFlightWith h c s) r = xtsRegs s r := rfl
@[simp] theorem inFlightWith_cryRegs (h : Hdr) (c : Cmd) (s : State) : cryRegs (inFlightWith h c s) = cryRegs s := rfl
@[simp] theorem inFlightWith_updRegs (h : Hdr) (c : Cmd) (s : State) : updRegs (inFlightWith h c s) = updRegs s := rfl
@[simp] theorem inFlightWith_capRegs (h : Hdr) (c : Cmd) (s : State) (i : Nat) : capRegs (inFlightWith h c s) i = capRegs s i := rfl
@[simp] theorem inFlightWith_timeRegs (h : Hdr) (c : Cmd) (s : State) : timeRegs (inFlightWith h c s) = timeRegs s := rfl
@[simp] theorem inFlightWith_lnkRegs (h : Hdr) (c : Cmd) (s : State) : lnkRegs (inFlightWith h c s) = lnkRegs s := rfl
@[simp] theorem inFlightWith_twinRegs (h : Hdr) (c : Cmd) (s : State) : twinRegs (inFlightWith h c s) = twinRegs s := rfl
@[simp] theorem inFlightWith_fwallRegs (h : Hdr) (c : Cmd) (s : State) : fwallRegs (inFlightWith h c s) = fwallRegs s := rfl
@[simp] theorem inFlightWith_qflagWords (h : Hdr) (c : Cmd) (s : State) : qflagWords (inFlightWith h c s) = qflagWords s := rfl
@[simp] theorem inFlightWith_qflagsWord (h : Hdr) (c : Cmd) (s : State) : qflagsWord (inFlightWith h c s) = qflagsWord s := rfl
@[simp] theorem inFlightWith_hlthRegs (h : Hdr) (c : Cmd) (s : State) : hlthRegs (inFlightWith h c s) = hlthRegs s := rfl
@[simp] theorem inFlightWith_testRegs (h : Hdr) (c : Cmd) (s : State) : testRegs (inFlightWith h c s) = testRegs s := rfl
@[simp] theorem inFlightWith_chkRegs (h : Hdr) (c : Cmd) (s : State) (u : Nat) : chkRegs (inFlightWith h c s) u = chkRegs s u := rfl
@[simp] theorem inFlightWith_msixWord (h : Hdr) (c : Cmd) (s : State) (a : Nat) : msixWord (inFlightWith h c s) a = msixWord s a := rfl
@[simp] theorem inFlightWith_pf1May (h : Hdr) (c : Cmd) (s : State) (a : Nat) : pf1May (inFlightWith h c s) a = pf1May s a := rfl
@[simp] theorem inFlightWith_watchdogRuns (h : Hdr) (c : Cmd) (s : State) : watchdogRuns (inFlightWith h c s) = watchdogRuns s := rfl
@[simp] theorem inFlightWith_reporting (h : Hdr) (c : Cmd) (s : State) : reporting (inFlightWith h c s) = reporting s := rfl
@[simp] theorem inFlightWith_dueStatus (h : Hdr) (c : Cmd) (s : State) (d : Delayed) : dueStatus d (inFlightWith h c s) = dueStatus d s := rfl
@[simp] theorem inFlightWith_lateness (h : Hdr) (c : Cmd) (s : State) (d : Delayed) : lateness d (inFlightWith h c s) = lateness d s := rfl
@[simp] theorem inFlightWith_waitsForRing (h : Hdr) (c : Cmd) (s : State) (f : Flight) : waitsForRing (inFlightWith h c s) f = waitsForRing s f := rfl
@[simp] theorem inFlightWith_standbyRuns (h : Hdr) (c : Cmd) (s : State) : standbyRuns (inFlightWith h c s) = standbyRuns s := rfl
@[simp] theorem inFlightWith_tmplOk (h : Hdr) (c : Cmd) (s : State) (t : Template) : tmplOk (inFlightWith h c s) t = tmplOk s t := rfl
@[simp] theorem inFlightWith_stagedTotal (h : Hdr) (c : Cmd) (s : State) : stagedTotal (inFlightWith h c s) = stagedTotal s := rfl
@[simp] theorem inFlightWith_activeOthers (h : Hdr) (c : Cmd) (s : State) (f : Nat) : activeOthers (inFlightWith h c s) f = activeOthers s f := rfl
@[simp] theorem inFlightWith_loadReply (h : Hdr) (c : Cmd) (s : State) (f : Nat) (bad : Nat) : loadReply (inFlightWith h c s) f bad = loadReply s f bad := rfl
@[simp] theorem inFlightWith_superOk (h : Hdr) (c : Cmd) (s : State) (p : SlotSuperframeCfgP) : superOk (inFlightWith h c s) p = superOk s p := rfl
@[simp] theorem inFlightWith_superTwin (h : Hdr) (c : Cmd) (s : State) (n : Nat) (f : Nat) : superTwin (inFlightWith h c s) n f = superTwin s n f := rfl
@[simp] theorem inFlightWith_replaceable (h : Hdr) (c : Cmd) (s : State) (f : QFrame) (t : TxSeq) : replaceable (inFlightWith h c s) f t = replaceable s f t := rfl
@[simp] theorem inFlightWith_takenOver (h : Hdr) (c : Cmd) (s : State) (q : Nat) (f : QFrame) (e : TxEntry) : takenOver (inFlightWith h c s) q f e = takenOver s q f e := rfl
@[simp] theorem inFlightWith_swapInPlan (h : Hdr) (c : Cmd) (s : State) (old : TxEntry) (new : TxEntry) (p : Plan) : swapInPlan (inFlightWith h c s) old new p = swapInPlan s old new p := rfl
@[simp] theorem inFlightWith_leastGuard (h : Hdr) (c : Cmd) (s : State) : leastGuard (inFlightWith h c s) = leastGuard s := rfl
@[simp] theorem inFlightWith_edgeError (h : Hdr) (c : Cmd) (s : State) : edgeError (inFlightWith h c s) = edgeError s := rfl
@[simp] theorem inFlightWith_bucketsOf (h : Hdr) (c : Cmd) (s : State) (panId : Nat) (addr : Nat) : bucketsOf (inFlightWith h c s) panId addr = bucketsOf s panId addr := rfl
@[simp] theorem inFlightWith_waysOf (h : Hdr) (c : Cmd) (s : State) (panId : Nat) (addr : Nat) : waysOf (inFlightWith h c s) panId addr = waysOf s panId addr := rfl
@[simp] theorem inFlightWith_findNode (h : Hdr) (c : Cmd) (s : State) (kind : Nat) (panId : Nat) (addr : Nat) : findNode (inFlightWith h c s) kind panId addr = findNode s kind panId addr := rfl
@[simp] theorem inFlightWith_longest (h : Hdr) (c : Cmd) (s : State) (dst : Nat) : longest (inFlightWith h c s) dst = longest s dst := rfl
@[simp] theorem inFlightWith_learnUnread (h : Hdr) (c : Cmd) (s : State) : learnUnread (inFlightWith h c s) = learnUnread s := rfl
@[simp] theorem inFlightWith_learnFull (h : Hdr) (c : Cmd) (s : State) : learnFull (inFlightWith h c s) = learnFull s := rfl
@[simp] theorem inFlightWith_nodeNear (h : Hdr) (c : Cmd) (s : State) (before : Nat) : nodeNear (inFlightWith h c s) before = nodeNear s before := rfl
@[simp] theorem inFlightWith_victimOf (h : Hdr) (c : Cmd) (s : State) (cand : List (Nat × NodeE)) : victimOf (inFlightWith h c s) cand = victimOf s cand := rfl
@[simp] theorem inFlightWith_newNode (h : Hdr) (c : Cmd) (s : State) (p : TblNodeInsertP) : newNode p (inFlightWith h c s) = newNode p s := rfl
@[simp] theorem inFlightWith_takeResult (h : Hdr) (c : Cmd) (s : State) : takeResult (inFlightWith h c s) = takeResult s := rfl
@[simp] theorem inFlightWith_pinRoom (h : Hdr) (c : Cmd) (s : State) (n : Nat) : pinRoom (inFlightWith h c s) n = pinRoom s n := rfl
@[simp] theorem inFlightWith_nbrTaken (h : Hdr) (c : Cmd) (s : State) (n : Nat) (eui : Nat) (short : Nat) (panId : Nat) : nbrTaken (inFlightWith h c s) n eui short panId = nbrTaken s n eui short panId := rfl
@[simp] theorem inFlightWith_domReading (h : Hdr) (c : Cmd) (s : State) (i : Nat) : domReading (inFlightWith h c s) i = domReading s i := rfl
@[simp] theorem inFlightWith_rawBytes (h : Hdr) (c : Cmd) (s : State) : rawBytes (inFlightWith h c s) = rawBytes s := rfl
@[simp] theorem inFlightWith_pinTaken (h : Hdr) (c : Cmd) (s : State) (n : Nat) (pin : Nat) : pinTaken (inFlightWith h c s) n pin = pinTaken s n pin := rfl
@[simp] theorem inFlightWith_ptpOf (h : Hdr) (c : Cmd) (s : State) (p : Nat) : ptpOf (inFlightWith h c s) p = ptpOf s p := rfl
@[simp] theorem inFlightWith_mappedRate (h : Hdr) (c : Cmd) (s : State) (port : Nat) (num : Nat) : mappedRate (inFlightWith h c s) port num = mappedRate s port num := rfl
@[simp] theorem inFlightWith_residualNs (h : Hdr) (c : Cmd) (s : State) : residualNs (inFlightWith h c s) = residualNs s := rfl
@[simp] theorem inFlightWith_dscpClassOf (h : Hdr) (c : Cmd) (s : State) (d : Nat) : dscpClassOf (inFlightWith h c s) d = dscpClassOf s d := rfl
@[simp] theorem inFlightWith_dscpColourOf (h : Hdr) (c : Cmd) (s : State) (d : Nat) : dscpColourOf (inFlightWith h c s) d = dscpColourOf s d := rfl
@[simp] theorem inFlightWith_classOf (h : Hdr) (c : Cmd) (s : State) (profile : Nat) (f : PktFrame) : classOf (inFlightWith h c s) profile f = classOf s profile f := rfl
@[simp] theorem inFlightWith_meterOf (h : Hdr) (c : Cmd) (s : State) (m : Nat) : meterOf (inFlightWith h c s) m = meterOf s m := rfl
@[simp] theorem inFlightWith_shaperOf (h : Hdr) (c : Cmd) (s : State) (k : Nat) : shaperOf (inFlightWith h c s) k = shaperOf s k := rfl
@[simp] theorem inFlightWith_placeWheel (h : Hdr) (c : Cmd) (s : State) (te : Nat) (x : ShaperSt) : placeWheel (inFlightWith h c s) te x = placeWheel s te x := rfl
@[simp] theorem inFlightWith_eligible (h : Hdr) (c : Cmd) (s : State) (q : Nat) (f : QFrame) : eligible (inFlightWith h c s) q f = eligible s q f := rfl
@[simp] theorem inFlightWith_queuesOfShaper (h : Hdr) (c : Cmd) (s : State) (k : Nat) : queuesOfShaper (inFlightWith h c s) k = queuesOfShaper s k := rfl
@[simp] theorem inFlightWith_admission (h : Hdr) (c : Cmd) (s : State) (q : Nat) (f : QFrame) (colour : Nat) : admission (inFlightWith h c s) q f colour = admission s q f colour := rfl
@[simp] theorem inFlightWith_nextStrict (h : Hdr) (c : Cmd) (s : State) (port : Nat) (skip : Nat → Bool) : nextStrict (inFlightWith h c s) port skip = nextStrict s port skip := rfl
@[simp] theorem inFlightWith_airCandidates (h : Hdr) (c : Cmd) (s : State) (peer : Nat) (mask : Nat) (fits : QFrame → Bool) : airCandidates (inFlightWith h c s) peer mask fits = airCandidates s peer mask fits := rfl
@[simp] theorem inFlightWith_queueCfgOk (h : Hdr) (c : Cmd) (s : State) (p : TmQueueCfgP) : queueCfgOk p (inFlightWith h c s) = queueCfgOk p s := rfl
@[simp] theorem inFlightWith_shaperHead (h : Hdr) (c : Cmd) (s : State) (k : Nat) : shaperHead (inFlightWith h c s) k = shaperHead s k := rfl
@[simp] theorem inFlightWith_twinEnableRefusal (h : Hdr) (c : Cmd) (s : State) (p : TwinCfgP) : twinEnableRefusal p (inFlightWith h c s) = twinEnableRefusal p s := rfl
@[simp] theorem inFlightWith_restoreKey (h : Hdr) (c : Cmd) (s : State) (step : Nat → Nat) (k : KeySlotSt) : restoreKey step k (inFlightWith h c s) = restoreKey step k s := rfl
@[simp] theorem inFlightWith_counterEntries (h : Hdr) (c : Cmd) (s : State) : counterEntries (inFlightWith h c s) = counterEntries s := rfl
@[simp] theorem inFlightWith_headTx (h : Hdr) (c : Cmd) (s : State) (c1 : Nat) : headTx (inFlightWith h c s) c1 = headTx s c1 := rfl
@[simp] theorem inFlightWith_bytesOf (h : Hdr) (c : Cmd) (s : State) (t : TxSeq) : bytesOf (inFlightWith h c s) t = bytesOf s t := rfl
@[simp] theorem inFlightWith_mapIe (h : Hdr) (c : Cmd) (s : State) (n : Nat) : mapIe (inFlightWith h c s) n = mapIe s n := rfl
@[simp] theorem inFlightWith_ackTx (h : Hdr) (c : Cmd) (s : State) (asn : Nat) (chain : Nat) (channel : Nat) (phy : Nat) (startNs : Int) (psdu : Nat) (coded : Bool) (super : Option Nat) : ackTx (inFlightWith h c s) asn chain channel phy startNs psdu coded super = ackTx s asn chain channel phy startNs psdu coded super := rfl
@[simp] theorem inFlightWith_ackCollides (h : Hdr) (c : Cmd) (s : State) (e : TxEntry) : ackCollides (inFlightWith h c s) e = ackCollides s e := rfl
@[simp] theorem inFlightWith_ackCutsFrame (h : Hdr) (c : Cmd) (s : State) (e : TxEntry) : ackCutsFrame (inFlightWith h c s) e = ackCutsFrame s e := rfl
@[simp] theorem inFlightWith_recoveryOpen (h : Hdr) (c : Cmd) (s : State) : recoveryOpen (inFlightWith h c s) = recoveryOpen s := rfl
@[simp] theorem inFlightWith_recoveryInit (h : Hdr) (c : Cmd) (s : State) : recoveryInit (inFlightWith h c s) = recoveryInit s := rfl
@[simp] theorem inFlightWith_fwManifest (h : Hdr) (c : Cmd) (s : State) (m : List Byte) : fwManifest (inFlightWith h c s) m = fwManifest s m := rfl
@[simp] theorem inFlightWith_activateReply (h : Hdr) (c : Cmd) (s : State) : activateReply (inFlightWith h c s) = activateReply s := rfl
@[simp] theorem inFlightWith_counterBanks (h : Hdr) (c : Cmd) (s : State) (c1 : Nat) : counterBanks (inFlightWith h c s) c1 = counterBanks s c1 := rfl
@[simp] theorem inFlightWith_openBank (h : Hdr) (c : Cmd) (s : State) (c1 : Nat) : openBank (inFlightWith h c s) c1 = openBank s c1 := rfl
@[simp] theorem inFlightWith_spareBank (h : Hdr) (c : Cmd) (s : State) : spareBank (inFlightWith h c s) = spareBank s := rfl

end Sys2Proof.Laws
end

