-- ==== Sys2Proof/Laws/Mem.lean ====
section
/-!
SUPPORT. Host memory: a read after a write gives the value written, a write leaves every other address alone, and every memory operation
keeps the canonical form; what a host buffer write does to the state.
-/
namespace Sys2Proof.Laws
open Machine

/-! One byte. -/

theorem memByte_below {m : List Host.Cell} {lo a : Nat} (h : memSorted lo m = true) (ha : a < lo) : memByte m a = 0 := by
  induction m generalizing lo with
  | nil => rfl
  | cons c t ih =>
    obtain ⟨k, v⟩ := c
    simp only [memSorted, Bool.and_eq_true, decide_eq_true_eq] at h
    have hk : k ≠ a := by omega
    simp [memByte, hk, ih h.2 (by omega)]

theorem memSorted_weaken {m : List Host.Cell} {lo lo' : Nat} (h : memSorted lo m = true) (hl : lo' ≤ lo) : memSorted lo' m = true := by
  cases m with
  | nil => rfl
  | cons c t =>
    obtain ⟨k, v⟩ := c
    simp only [memSorted, Bool.and_eq_true, decide_eq_true_eq] at h ⊢
    exact ⟨⟨⟨by omega, h.1.1.2⟩, h.1.2⟩, h.2⟩

theorem memPut_sorted {m : List Host.Cell} {lo a : Nat} (v : Byte) (h : memSorted lo m = true) (hl : lo ≤ a) (ha : a < 2 ^ 64) :
    memSorted lo (memPut m a v) = true := by
  induction m generalizing lo with
  | nil =>
    by_cases hv : v = 0#8
    · simp [memPut, hv, memSorted]
    · simp [memPut, hv, memSorted, hl]; exact ha
  | cons c t ih =>
    obtain ⟨k, w⟩ := c
    have h0 := h
    simp only [memSorted, Bool.and_eq_true, decide_eq_true_eq] at h
    obtain ⟨⟨⟨hk, hk2⟩, hw⟩, ht⟩ := h
    simp only [memPut]
    split
    · rename_i hak
      split
      · exact h0
      · rename_i hv
        simp only [memSorted, Bool.and_eq_true, decide_eq_true_eq]
        exact ⟨⟨⟨hl, ha⟩, by simpa using hv⟩, ⟨⟨by omega, hk2⟩, hw⟩, ht⟩
    · split
      · split
        · exact memSorted_weaken ht (by omega)
        · rename_i hv
          simp only [memSorted, Bool.and_eq_true, decide_eq_true_eq]
          subst_vars
          exact ⟨⟨⟨hl, ha⟩, by simpa using hv⟩, ht⟩
      · simp only [memSorted, Bool.and_eq_true, decide_eq_true_eq]
        exact ⟨⟨⟨hk, hk2⟩, hw⟩, ih ht (by omega)⟩

/-- Writing one byte keeps the canonical form. -/
theorem memPut_wf {m : List Host.Cell} {a : Nat} (v : Byte) (h : memWf m = true) (ha : a < 2 ^ 64) : memWf (memPut m a v) = true :=
  memPut_sorted v h (Nat.zero_le a) ha

/-- A byte read after a byte write: the value written at its own address, the old value at every other. -/
theorem memByte_memPut {m : List Host.Cell} {lo : Nat} (a : Nat) (v : Byte) (x : Nat) (h : memSorted lo m = true) :
    memByte (memPut m a v) x = if x = a then v else memByte m x := by
  induction m generalizing lo with
  | nil =>
    by_cases hv : v = 0#8
    · simp [memPut, hv, memByte]
    · by_cases hx : x = a
      · simp [memPut, hv, memByte, hx]
      · have hx2 : ¬ a = x := fun e => hx e.symm
        simp [memPut, hv, memByte, hx, hx2]
  | cons c t ih =>
    obtain ⟨k, w⟩ := c
    simp only [memSorted, Bool.and_eq_true, decide_eq_true_eq] at h
    obtain ⟨⟨⟨_, _⟩, _⟩, ht⟩ := h
    simp only [memPut]
    split
    · rename_i hak
      by_cases hv : v = 0#8
      · by_cases hx : x = a
        · subst hx
          have hk : k ≠ x := by omega
          simp [hv, memByte, hk, memByte_below ht (show x < k + 1 by omega)]
        · simp [hv, hx]
      · by_cases hx : x = a
        · simp [hv, hx, memByte]
        · have hx2 : ¬ a = x := fun e => hx e.symm
          simp [hv, hx, hx2, memByte]
    · split
      · rename_i hka
        subst hka
        by_cases hv : v = 0#8
        · by_cases hx : x = k
          · subst hx
            simp [hv, memByte_below ht (show x < x + 1 by omega)]
          · have hx2 : ¬ k = x := fun e => hx e.symm
            simp [hv, hx, hx2, memByte]
        · by_cases hx : x = k
          · simp [hv, hx, memByte]
          · have hx2 : ¬ k = x := fun e => hx e.symm
            simp [hv, hx, hx2, memByte]
      · by_cases hkx : k = x
        · have hx : x ≠ a := by omega
          simp [memByte, hkx, hx]
        · simp [memByte, hkx, ih ht]

/-! Runs of bytes. -/

/-- Writing bytes keeps the canonical form. -/
theorem memWrite_wf (bs : List Byte) : ∀ {m : List Host.Cell} (a : Nat), memWf m = true → memWf (memWrite m a bs) = true := by
  induction bs with
  | nil => intro m a h; exact h
  | cons b t ih => intro m a h; exact ih (a + 1) (memPut_wf b h (Nat.mod_lt _ (by decide)))

/-- A write leaves alone every address outside the bytes written. -/
theorem memByte_memWrite_other (bs : List Byte) : ∀ {m : List Host.Cell} (a x : Nat), memWf m = true →
    (∀ i < bs.length, x ≠ (a + i) % 2 ^ 64) → memByte (memWrite m a bs) x = memByte m x := by
  induction bs with
  | nil => intro m a x _ _; rfl
  | cons b t ih =>
    intro m a x h hx
    have h0 := hx 0 (by simp)
    rw [memWrite, ih (a + 1) x (memPut_wf b h (Nat.mod_lt _ (by decide))) ?_, memByte_memPut _ b x h, if_neg (by simpa using h0)]
    intro i hi
    have := hx (i + 1) (by simpa using hi)
    rwa [show a + 1 + i = a + (i + 1) by omega]

/-- A byte read at an address of a write gives the byte written there. -/
theorem memByte_memWrite_at (bs : List Byte) : ∀ {m : List Host.Cell} (a i : Nat) (hi : i < bs.length), memWf m = true →
    bs.length ≤ 2 ^ 64 → memByte (memWrite m a bs) ((a + i) % 2 ^ 64) = bs[i] := by
  induction bs with
  | nil => intro m a i hi; simp at hi
  | cons b t ih =>
    intro m a i hi h hl
    have hw := memPut_wf b h (Nat.mod_lt a (show 0 < 2 ^ 64 by decide))
    cases i with
    | zero =>
      rw [memWrite, memByte_memWrite_other t (a + 1) _ hw ?_, memByte_memPut _ b _ h]
      · simp
      · intro j hj
        simp only [List.length_cons] at hl
        omega
    | succ j =>
      have := ih (m := memPut m (a % 2 ^ 64) b) (a + 1) j (by simpa using hi) hw (by simp at hl; omega)
      rw [memWrite]
      simpa [show a + 1 + j = a + (j + 1) by omega] using this

/-! Host buffers. -/

/-- A host buffer write changes host memory only. -/
theorem toHost_only (a : Nat) (bs : List Byte) (s : State) : toHost a bs s = { s with hostMem := (toHost a bs s).hostMem } := by
  unfold toHost; split <;> rfl

theorem toHost_hostMem (a : Nat) (bs : List Byte) (s : State) :
    (toHost a bs s).hostMem = if a = 0 then s.hostMem else memWrite s.hostMem a bs := by
  unfold toHost; split <;> rfl

theorem toHost_memOk {a : Nat} {bs : List Byte} {s : State} (h : Safety.MemOk s) : Safety.MemOk (toHost a bs s) := by
  unfold toHost; split
  · exact h
  · exact memWrite_wf bs a h

/-- A write at a host address changes host memory only. -/
theorem hostWrite_only (a : Nat) (bs : List Byte) (s : State) : hostWrite a bs s = { s with hostMem := memWrite s.hostMem a bs } := rfl

theorem hostWrite_memOk {a : Nat} {bs : List Byte} {s : State} (h : Safety.MemOk s) : Safety.MemOk (hostWrite a bs s) := memWrite_wf bs a h

end Sys2Proof.Laws
end

