-- ==== Sys2Proof/Tests/Slice0.lean ====
section
/-!
SUPPORT. Tests: ill-formed terms that WellFormed refuses, a witness for the hypotheses of every statement (one conjunct for each clause, at
values where its ranges end), and single steps whose expected results are the spec's own numbers.
-/
namespace Sys2Proof.Tests
set_option Elab.async false
open Machine Safety

/-- Zero octets. -/
def zeros8 : List Byte := List.replicate 8 0
def zeros32 : List Byte := List.replicate 32 0

/-- The part in RUN, everything else as after reset. -/
def run : State := { State.reset with sys := { State.reset.sys with devState := .run } }

/-- A header that names only its FLOW. -/
def hd (flow : Nat) : Hdr := { flow := flow }

/-- The state an instruction answers, or the state it started from. -/
def after (i : Instr) (s : State) : State := match exec i s with | .next t => t | _ => s

/-- Ready as a check that computes, for a part with nothing in flight. -/
def ready (h : Hdr) (c : Cmd) (s : State) : Bool :=
  answers s && s.hif.flights.isEmpty && decide (entryRefusal h (some c) s = stOk) && !staysDelayed h c && !replyFull s h.qp &&
    !jobBusy c h.flow s

/-- What `ready` computes is Ready. -/
theorem test_ready_is_ready {h : Hdr} {c : Cmd} {s : State} (r : ready h c s = true) : Ready h c s := by
  simp only [ready, Bool.and_eq_true, decide_eq_true_eq, Bool.not_eq_true', List.isEmpty_iff] at r
  obtain ⟨⟨⟨⟨⟨ha, hf⟩, he⟩, hd⟩, hr⟩, hj⟩ := r
  exact ⟨ha, by simp [TagFree, hf], he, hd, by simp [hf], hr, hj⟩

/-! The hypotheses of the statements can be met. -/
theorem test_wf_hdr : ([
    { qp := 66 }, { flags := 256 }, { tag := 65536 }, { flow := 65536 }, { plen := 65536 }, { deadline := 4294967296 },
    { paramAddr := 18446744073709551616 }, { actTime := 18446744073709551616 }] : List Hdr).all (fun x => !x.wf) = true ∧ ([{}] : List Hdr).all (fun x => x.wf) = true := by decide

theorem test_wf_cellW : ([
    { slotOffset := 65536 }, { channelOffset := 65536 }, { peer := 65536 }, { slotframe := 8 }, { phy := 32 }, { classMask := 256 },
    { chain := 4 }, { power := 128 }, { mcs := 16 }, { queue := 16384 }] : List CellW).all (fun x => !x.wf) = true ∧ ([{}] : List CellW).all (fun x => x.wf) = true := by decide

theorem test_wf_userPlan : ([
    { plan := 8 }, { plan := 16 }, { f0 := 65536 }, { spacing := 256 }, { count := 65536 }] : List UserPlan).all (fun x => !x.wf) = true ∧ ([{}] : List UserPlan).all (fun x => x.wf) = true := by decide

theorem test_wf_rffeWrite : ([
    { usid := 256 }, { addr := 65536 }] : List RffeWrite).all (fun x => !x.wf) = true ∧ ([{}] : List RffeWrite).all (fun x => x.wf) = true := by decide

theorem test_wf_tunerState : ([
    { writes := [{ usid := 256 }] }, { writes := [{}, {}, {}, {}, {}] }] : List TunerState).all (fun x => !x.wf) = true ∧ ([{}] : List TunerState).all (fun x => x.wf) = true := by decide

theorem test_wf_subBand : ([
    { fLow := 65536 }, { fHigh := 65536 }, { chainPpm := 4294967296 }, { aggPpm := 4294967296 }, { maxOnMs := 65536 }] : List SubBand).all (fun x => !x.wf) = true ∧ ([{}] : List SubBand).all (fun x => x.wf) = true := by decide

theorem test_wf_gtsDesc : ([
    { short := 65536 }, { start := 16 }, { length := 16 }] : List GtsDesc).all (fun x => !x.wf) = true ∧ ([{}] : List GtsDesc).all (fun x => x.wf) = true := by decide

theorem test_wf_dropRec : ([
    { tag := zeros8, index := 4294967296 }, { tag := zeros8, crc := 4294967296 }, { tag := [0] }] : List DropRec).all (fun x => !x.wf) = true ∧ ([{ tag := zeros8 }] : List DropRec).all (fun x => x.wf) = true := by decide

theorem test_wf_memberRef : ([
    { member := 4294967296 }, { address := 340282366920938463463374607431768211456 }] : List MemberRef).all (fun x => !x.wf) = true ∧ ([{}] : List MemberRef).all (fun x => x.wf) = true := by decide

theorem test_wf_route : ([
    { member := 65536 }, { primary := 256 }, { alternate := 256 }, { hopsPrimary := 65536 }, { hopsAlternate := 65536 }] : List Route).all (fun x => !x.wf) = true ∧ ([{}] : List Route).all (fun x => x.wf) = true := by decide

theorem test_wf_keyAttr : ([
    { ktype := 256 }, { engines := 256 }, { nonceMode := 256 }, { usageLimit := 4294967296 }, { warnMargin := 4294967296 },
    { usageStart := 4294967296 }] : List KeyAttr).all (fun x => !x.wf) = true ∧ ([{}] : List KeyAttr).all (fun x => x.wf) = true := by decide

theorem test_wf_template : ([
    { txOffset := 65536 }, { rxGuard := 65536 }, { ackDelay := 65536 }, { ackGuard := 65536 }, { endGuard := 65536 },
    { maxAckPsdu := some 256 }] : List Template).all (fun x => !x.wf) = true ∧ ([{}] : List Template).all (fun x => x.wf) = true := by decide

theorem test_wf_campCfg : ([
    { keyHash := zeros32, nodeModel := zeros8, svFloor := 4294967296 }, { keyHash := zeros32, nodeModel := zeros8, mcQueue := 65536 },
    { keyHash := zeros32, nodeModel := zeros8, repairQueue := 65536 }, { keyHash := zeros32, nodeModel := zeros8, mcKeySlot := 65536 },
    { keyHash := zeros32, nodeModel := zeros8, mcSecLevel := 256 },
    { keyHash := zeros32, nodeModel := zeros8, mcGroup := 340282366920938463463374607431768211456 },
    { keyHash := zeros32, nodeModel := zeros8, udpPort := 65536 },
    { keyHash := zeros32, nodeModel := zeros8, reportAddr := 340282366920938463463374607431768211456 },
    { keyHash := zeros32, nodeModel := zeros8, reportPort := 65536 },
    { keyHash := zeros32, nodeModel := zeros8, windowAsn := 18446744073709551616 },
    { keyHash := zeros32, nodeModel := zeros8, windowLen := 4294967296 },
    { keyHash := zeros32, nodeModel := zeros8, windowPeriod := 4294967296 },
    { keyHash := zeros32, nodeModel := zeros8, fillFrames := 256 }, { keyHash := zeros32, nodeModel := zeros8, maxRounds := 256 },
    { keyHash := zeros32, nodeModel := zeros8, mcMinMissing := 4294967296 },
    { keyHash := zeros32, nodeModel := zeros8, reportWaitS := 65536 }, { keyHash := zeros32, nodeModel := zeros8, repairPasses := 256 },
    { keyHash := zeros32, nodeModel := zeros8, repairParallel := 65536 },
    { keyHash := zeros32, nodeModel := zeros8, repairInflight := 256 }, { keyHash := zeros8, nodeModel := zeros8 },
    { keyHash := zeros32, nodeModel := zeros32 }] : List CampCfg).all (fun x => !x.wf) = true ∧ ([{ keyHash := zeros32, nodeModel := zeros8 }] : List CampCfg).all (fun x => x.wf) = true := by decide

theorem test_wf_hostBuf : ([
    { addr := 18446744073709551616 }, { len := 65536 }] : List HostBuf).all (fun x => !x.wf) = true ∧ ([{}] : List HostBuf).all (fun x => x.wf) = true := by decide

theorem test_wf_sys_commands : ([
    .sysInfo { op := 256 }, .sysInfo { bufferAddr := 18446744073709551616 }, .sysReset { kind := 256 }, .sysState { op := 256 },
    .sysState { lullDram := 256 }, .sysState { wakeGpio := 256 }, .sysState { wakeTimerS := 4294967296 },
    .sysEventMap { firstSrc := 65536 }, .sysEventMap { count := 65536 }, .sysEventMap { vector := 256 }, .sysEventMap { toPf1 := 256 },
    .sysEventMap { enable := 256 }, .sysTimed { queue := 256 }, .sysTimed { timeRef := 256 }, .sysTimed { lateNs := 4294967296 },
    .sysTimed { maxAheadS := 4294967296 }, .sysMgmtCfg { enable := 256 }, .sysMgmtCfg { portMask := 256 },
    .sysMgmtCfg { vlanId := 65536 }, .sysEthCfg { port := 256 }, .sysEthCfg { mode := 256 }, .sysEthCfg { autoneg := 256 },
    .sysEthCfg { maxFrame := 65536 }, .sysEthCfg { pauseRx := 256 }, .sysEthCfg { macAddr := 281474976710656 },
    .sysEthCfg { macsec := 256 }, .sysEthCfg { eapolRing := 256 }, .sysMacsecSa { port := 256 }, .sysMacsecSa { op := 256 },
    .sysMacsecSa { sci := 18446744073709551616 }, .sysMacsecSa { an := 256 }, .sysMacsecSa { slot := 65536 },
    .sysMacsecSa { nextPn := 18446744073709551616 }, .sysMacsecSa { ssci := 4294967296 },
    .sysMacsecSa { salt := 79228162514264337593543950336 }, .sysMacsecSa { encrypt := 256 }, .sysMacsecSa { replayWindow := 4294967296 },
    .sysMacsecSa { pnWarn := 18446744073709551616 }] : List Cmd).all (fun x => !x.wf) = true ∧ ([.sysInfo {}, .sysReset {}, .sysState {}, .sysEventMap {}, .sysTimed {}, .sysMgmtCfg {}, .sysEthCfg {}, .sysMacsecSa {}] : List Cmd).all (fun x => x.wf) = true := by decide

theorem test_wf_rad_commands : ([
    .radChainCfg { windowCentre := 65536 }, .radChainCfg { phyEnable := 65536 }, .radChainCfg { planForPhy := [16] },
    .radChainCfg { rampForPhy := [16] }, .radChainCfg { rxFeGain := 32768 }, .radChainCfg { couplerSrc := 256 },
    .radChainCfg { cplFwd := 32768 }, .radChainCfg { mismatchRl := 256 }, .radChainCfg { backoffStep := 256 },
    .radChainCfg { maxBackoff := 256 }, .radChainCfg { autoRecal := 256 }, .radChainCfg { userPlans := [{ plan := 8 }] },
    .radChainCfg { txOn := [{ usid := 256 }] }, .radChainCfg { txOff := [{ usid := 256 }] },
    .radChainCfg { rxWindow := [{ usid := 256 }] }, .radCal { steps := 256 }, .radTuner { op := 256 },
    .radTuner { states := [{ writes := [{ usid := 256 }] }] }, .radCoexCfg { coexMode := 256 }, .radCoexCfg { grantPolarity := 256 },
    .radCoexCfg { reqLeadUs := 65536 }, .radCoexCfg { priMask := 256 }, .radCoexCfg { priAck := 256 },
    .radCoexCfg { abortOnRevoke := 256 }, .radAgcCfg { agcMode := 256 }, .radAgcCfg { wbTarget := 32768 },
    .radAgcCfg { nbTarget := 32768 }, .radAgcCfg { clipCount := 256 }, .radPaRamp { profile := 256 }, .radPaRamp { rampUs := 256 },
    .radPaRamp { paLeadUs := 256 }, .radPaRamp { points := [65536] }, .radTxRaw { channel := 65536 }, .radTxRaw { phyMode := 256 },
    .radTxRaw { powerHdbm := 128 }, .radTxRaw { kind := 256 }, .radTxRaw { bufferHandle := 4294967296 }, .radTxRaw { length := 65536 },
    .radTxRaw { cls := 256 }, .radTxRaw { durationUs := 4294967296 }, .radBlankMap { dist := [65536] }] : List Cmd).all (fun x => !x.wf) = true ∧ ([.radChainCfg {}, .radCal {}, .radTuner {}, .radCoexCfg {}, .radAgcCfg {}, .radPaRamp {}, .radTxRaw {}, .radBlankMap {}] : List Cmd).all (fun x => x.wf) = true := by decide

theorem test_wf_lane_commands : ([
    .laneAssign { chain := 256 }, .laneAssign { kind := 256 }, .laneAssign { channel := 65536 }, .laneAssign { phyMode := 256 },
    .lanePhyCfg { phyMode := 256 }, .lanePhyCfg { detThreshold := 256 }, .lanePhyCfg { edFloor := 32768 },
    .lanePhyCfg { maxPreambleUs := 65536 }, .lanePhyCfg { maxPsdu := 65536 }, .lanePhyCfg { fskFec := 256 },
    .lanePhyCfg { fskWhitening := 256 }, .lanePhyCfg { fskSfdSet := 256 }, .lanePhyCfg { rateMask := 256 },
    .lanePhyCfg { mcsMask := 256 }, .laneCaptureCfg { op := 256 }, .laneCaptureCfg { captureMargin := 256 },
    .laneCaptureCfg { spawnEnable := 256 }, .laneCaptureCfg { trigger := 256 }, .laneCaptureCfg { comparator := 256 },
    .laneCaptureCfg { preUs := 65536 }, .laneCaptureCfg { samples := 4294967296 },
    .laneCaptureCfg { bufferAddr := 18446744073709551616 }, .laneStatus { clear := 256 }, .laneBitload { op := 256 },
    .laneBitload { margin := 256 }, .laneBitload { thr := [256] }, .laneBitload { minChange := 256 }, .laneBitload { ratePolicy := 256 },
    .laneBitload { nullPeriod := 256 }] : List Cmd).all (fun x => !x.wf) = true ∧ ([.laneAssign {}, .lanePhyCfg {}, .laneCaptureCfg {}, .laneStatus {}, .laneFlush {}, .laneBitload {}] : List Cmd).all (fun x => x.wf) = true := by decide

theorem test_wf_slot_commands : ([
    .slotCfg { op := 256 }, .slotCfg { slotLenUs := 65536 }, .slotCfg { asnStart := 18446744073709551616 },
    .slotCfg { startTimeNs := 18446744073709551616 }, .slotCfg { maxRetries := 256 }, .slotCfg { minBe := 256 },
    .slotCfg { maxBe := 256 }, .slotCfg { preBytes := 256 }, .slotCfg { fskTx := 256 }, .slotCfg { ackUnknown := 256 },
    .slotCfg { dupWindowMs := 65536 }, .slotCfg { txReportRing := 256 }, .slotCfg { reportAll := 256 }, .slotCfg { ebAsnOffset := 256 },
    .slotCfg { ebSecLevel := 256 }, .slotCfg { ebKeySlot := 65536 }, .slotCfg { tmpl := { txOffset := 65536 } },
    .slotCfg { hopLen := 65536 }, .slotCfg { channels := [65536] }, .slotListLoad { op := 256 }, .slotListLoad { sfLen := 65536 },
    .slotListLoad { hostAddr := 18446744073709551616 }, .slotListLoad { cells := [{ peer := 65536 }] }, .slotListActivate { op := 256 },
    .slotListActivate { asn := 18446744073709551616 }, .slotSuperframeCfg { op := 256 }, .slotSuperframeCfg { chain := 256 },
    .slotSuperframeCfg { channel := 65536 }, .slotSuperframeCfg { phyMode := 256 }, .slotSuperframeCfg { bo := 256 },
    .slotSuperframeCfg { so := 256 }, .slotSuperframeCfg { anchorAsn := 18446744073709551616 },
    .slotSuperframeCfg { anchorOffsetUs := 65536 }, .slotSuperframeCfg { ackTurnaroundUs := 65536 },
    .slotSuperframeCfg { descs := [{ start := 16 }] }, .slotTx { neighbour := 65536 }, .slotTx { hostAddr := 18446744073709551616 },
    .slotTx { cls := 256 }, .slotTx { queue := 65536 }, .slotTx { ackReq := 256 }, .slotTx { secLevel := 256 },
    .slotFrontCfg { src := 256 }, .slotFrontCfg { port := 256 }, .slotFrontCfg { edge := 256 }, .slotFrontCfg { periodSlots := 65536 },
    .slotFrontCfg { anchorAsn := 18446744073709551616 }, .slotFrontCfg { offsetNs := 2147483648 }, .slotFrontCfg { windowUs := 65536 },
    .slotFrontCfg { maxShiftUs := 65536 }, .slotFrontCfg { lockNs := 4294967296 }, .slotFrontCfg { lossCount := 256 },
    .slotStatus { op := 256 }, .slotStatus { bufferAddr := 18446744073709551616 }, .slotStatus { clear := 256 },
    .slotFollowCfg { enable := 256 }, .slotFollowCfg { timeSource := 65536 }, .slotFollowCfg { ebPeriodSlots := 65536 },
    .slotFollowCfg { driftPpb := 65536 }, .slotFollowCfg { maxExtraGuardUs := 65536 }] : List Cmd).all (fun x => !x.wf) = true ∧ ([.slotCfg {}, .slotListLoad {}, .slotListActivate {}, .slotSuperframeCfg {}, .slotTx {}, .slotFrontCfg {}, .slotStatus {}, .slotFollowCfg {}] : List Cmd).all (fun x => x.wf) = true := by decide

theorem test_wf_budg_commands : ([
    .budgRegionLoad { regionId := 65536 }, .budgRegionLoad { windowS := 65536 }, .budgRegionLoad { warnPct := 256 },
    .budgRegionLoad { entries := [{ fLow := 65536 }] }, .budgStatus { subband := 256 }, .budgStatus { clear := 256 }] : List Cmd).all (fun x => !x.wf) = true ∧ ([.budgRegionLoad {}, .budgStatus {}] : List Cmd).all (fun x => x.wf) = true := by decide

theorem test_wf_tm_commands : ([
    .tmQueueCfg { port := 256 }, .tmQueueCfg { cls := 256 }, .tmQueueCfg { ring := 256 }, .tmQueueCfg { quantum := 65536 },
    .tmQueueCfg { maxBytes := 4294967296 }, .tmQueueCfg { maxFrames := 65536 }, .tmQueueCfg { yellowPct := 256 },
    .tmQueueCfg { shaper := 65536 }, .tmQueueCfg { nbCap := 256 }, .tmMeterCfg { mode := 256 }, .tmMeterCfg { colourAware := 256 },
    .tmMeterCfg { redAction := 256 }, .tmMeterCfg { cirKbps := 4294967296 }, .tmMeterCfg { cbs := 4294967296 },
    .tmMeterCfg { pirKbps := 4294967296 }, .tmMeterCfg { pbsEbs := 4294967296 }, .tmShaperCfg { rate10bps := 4294967296 },
    .tmShaperCfg { burst := 4294967296 }, .tmShaperCfg { tokenOnChange := 256 }, .tmClassMap { op := 256 },
    .tmClassMap { index := 65536 }, .tmClassMap { entry := 18446744073709551616 }, .tmClassMap { map := [256] },
    .tmClassMap { enable := 256 }, .tmClassMap { udpPort := 65536 }, .tmClassMap { cls := 256 }, .tmClassMap { unknownQueue := 65536 },
    .tmClassMap { reserveCells := 65536 }, .tmStats { clear := 256 }] : List Cmd).all (fun x => !x.wf) = true ∧ ([.tmQueueCfg {}, .tmMeterCfg {}, .tmShaperCfg {}, .tmClassMap {}, .tmStats {}] : List Cmd).all (fun x => x.wf) = true := by decide

theorem test_wf_tbl_commands : ([
    .tblNodeInsert { kind := 256 }, .tblNodeInsert { flags := 256 }, .tblNodeInsert { panId := 65536 },
    .tblNodeInsert { addr := 18446744073709551616 }, .tblNodeInsert { nextHop := 65536 }, .tblNodeInsert { tmProfile := 65536 },
    .tblNodeDelete { kind := 256 }, .tblNodeDelete { panId := 65536 }, .tblNodeDelete { addr := 18446744073709551616 },
    .tblNodeDelete { force := 256 }, .tblPrefixAdd { pfx := 18446744073709551616 }, .tblPrefixAdd { plen := 256 },
    .tblPrefixAdd { action := 256 }, .tblPrefixAdd { port := 256 }, .tblPrefixAdd { panId := 65536 },
    .tblPrefixAdd { tmProfile := 65536 }, .tblPrefixAdd { replace := 256 }, .tblPrefixDel { pfx := 18446744073709551616 },
    .tblPrefixDel { plen := 256 }, .tblAgingCfg { table := 256 }, .tblAgingCfg { periodS := 4294967296 }, .tblLookup { kind := 256 },
    .tblLookup { panId := 65536 }, .tblLookup { addr := 18446744073709551616 }, .tblLookup { setHit := 256 },
    .tblLookup { bufferAddr := 18446744073709551616 }, .tblEvictPolicy { policy := 256 }, .tblEvictPolicy { maxKicks := 65536 },
    .tblCfg { hashSeed := 4294967296 }, .tblCfg { airPanId := 65536 }, .tblCfg { nearPct := 256 }, .tblCfg { unknownRing := 256 },
    .tblCfg { learnEnable := 256 }, .tblCfg { learnBase := 18446744073709551616 }, .tblCfg { learnLog2 := 256 },
    .tblCfg { windowMs := 65536 }, .tblCfg { holdoffMs := 65536 }, .tblCfg { peerPorts := 256 }, .tblNeighbourSet { op := 256 },
    .tblNeighbourSet { flags := 256 }, .tblNeighbourSet { eui64 := 18446744073709551616 }, .tblNeighbourSet { short := 65536 },
    .tblNeighbourSet { panId := 65536 }, .tblNeighbourSet { keySlot := 65536 }, .tblNeighbourSet { rxHStart := 4294967296 },
    .tblStatus { clear := 256 }, .tblStatus { bufferAddr := 18446744073709551616 }] : List Cmd).all (fun x => !x.wf) = true ∧ ([.tblNodeInsert {}, .tblNodeDelete {}, .tblPrefixAdd {}, .tblPrefixDel {}, .tblAgingCfg {}, .tblLookup {}, .tblEvictPolicy {}, .tblCfg {}, .tblNeighbourSet {}, .tblStatus {}] : List Cmd).all (fun x => x.wf) = true := by decide

theorem test_wf_key_commands : ([
    .keyImport { src := 256 }, .keyImport { replace := 256 }, .keyImport { attr := { ktype := 256 } },
    .keyImport { record := 4294967296 }, .keyImport { parent := 65536 }, .keyImport { store := 4294967296 },
    .keyImport { outAddr := 18446744073709551616 }, .keyDerive { parent := 65536 }, .keyDerive { replace := 256 },
    .keyDerive { attr := { ktype := 256 } }, .keyDerive { store := 4294967296 }, .keyDerive { outAddr := 18446744073709551616 },
    .keyStage { src := 256 }, .keyStage { replace := 256 }, .keyStage { attr := { ktype := 256 } }, .keyStage { record := 4294967296 },
    .keyStage { parent := 65536 }, .keyStage { store := 4294967296 }, .keyStage { outAddr := 18446744073709551616 },
    .keyStage { kcvPresent := 256 }, .keyStage { kcv := 4294967296 }, .keyStage { rxOverlapMs := 65536 },
    .keyCommit { kcv := 4294967296 }, .keyInfo { bufferAddr := 18446744073709551616 }, .keyInvalidate { engines := 256 },
    .keyAttest { slotFirst := 65536 }, .keyAttest { slotCount := 65536 }, .keyAttest { bufferAddr := 18446744073709551616 },
    .keyStoreCfg { lockPlain := 256 }, .keyStoreCfg { loopArm := 256 }, .keyStoreCfg { loopMismatch := 256 }] : List Cmd).all (fun x => !x.wf) = true ∧ ([.keyImport {}, .keyDerive {}, .keyStage {}, .keyCommit {}, .keyErase {}, .keyInfo {}, .keyInvalidate {}, .keyAttest {}, .keyStoreCfg {}] : List Cmd).all (fun x => x.wf) = true := by decide

theorem test_wf_cry_commands : ([
    .cryOp { op := 256 }, .cryOp { slot := 65536 }, .cryOp { srcAddr := 18446744073709551616 }, .cryOp { secLevel := 256 },
    .cryOp { frameCounter := 4294967296 }, .cryOp { tweak := 18446744073709551616 }, .cryOp { unit := 65536 },
    .cryOp { outAddr := 18446744073709551616 }, .crySign { slot := 65536 }, .crySign { sigAddr := 18446744073709551616 },
    .cryVerify { exponent := 4294967296 }, .cryHash { op := 256 }, .cryHash { mode := 256 }, .cryHash { slot := 65536 },
    .cryHash { context := 256 }, .cryHash { outAddr := 18446744073709551616 }, .cryXtsRegion { region := 256 },
    .cryXtsRegion { op := 256 }, .cryXtsRegion { base := 18446744073709551616 }, .cryXtsRegion { size := 18446744073709551616 },
    .cryXtsRegion { slot := 65536 }, .cryChkCfg { op := 256 }, .cryChkCfg { lane := 256 }, .cryChkCfg { poly := 256 },
    .cryChkCfg { mode := 256 }, .cryChkCfg { skipAbort := 256 }, .cryChkCfg { init := 4294967296 }, .cryChkCfg { expectEn := 256 },
    .cryChkCfg { expect := 4294967296 }, .cryStatus { clear := 256 }, .cryStatus { bufferAddr := 18446744073709551616 }] : List Cmd).all (fun x => !x.wf) = true ∧ ([.cryOp {}, .crySign {}, .cryVerify {}, .cryHash {}, .cryXtsRegion {}, .cryChkCfg {}, .cryStatus {}] : List Cmd).all (fun x => x.wf) = true := by decide

theorem test_wf_upd_commands : ([
    .updOpen { replace := 256 }, .updOpen { acceptMask := 256 }, .updOpen { intakePort := 65536 }, .updOpen { autoVerify := 256 },
    .updBlock { records := [{ tag := [0] }] }, .updStatus { bufferAddr := 18446744073709551616 }, .updStatus { clear := 256 },
    .updActivate { op := 256 }, .updActivate { restart := 256 }, .updActivate { commitAfterS := 4294967296 },
    .updCampaignCfg { cfg := { keyHash := zeros32, nodeModel := zeros8 }, op := 256 }, .updCampaignCfg { cfg := {} },
    .updCampaignCfg { cfg := { keyHash := zeros32, nodeModel := zeros8 }, members := [{ member := 4294967296 }] },
    .updCampaignCtrl { op := 256 }, .updCampaignCtrl { address := 340282366920938463463374607431768211456 },
    .updCampaignCtrl { member := 4294967296 }, .updCampaignCtrl { bufferAddr := 18446744073709551616 }] : List Cmd).all (fun x => !x.wf) = true ∧ ([.updOpen {}, .updBlock {}, .updStatus {}, .updVerify {}, .updActivate {}, .updCampaignCfg { cfg := { keyHash := zeros32, nodeModel := zeros8 } }, .updCampaignCtrl {}] : List Cmd).all (fun x => x.wf) = true := by decide

theorem test_wf_time_commands : ([
    .timeStep { stepNs := 9223372036854775808 }, .timeStep { stepFrac := 65536 }, .timeStep { markTracked := 256 },
    .timeRate { rate := 2147483648 }, .timeSelect { domain := 256 }, .timeSelect { stepThresholdNs := 65536 },
    .timeSelect { slewPpm := 256 }, .timeSelect { force := 256 }, .timeTrigger { op := 256 }, .timeTrigger { ref := 256 },
    .timeTrigger { targetNs := 18446744073709551616 }, .timeTrigger { periodNs := 4294967296 }, .timeTrigger { actions := 256 },
    .timeTrigger { pin := 256 }, .timeTrigger { pinMode := 256 }, .timeTrigger { pulseNs := 4294967296 },
    .timeCaptureCfg { input := 256 }, .timeCaptureCfg { edge := 256 }, .timeCaptureCfg { clear := 256 },
    .timePtpPortCfg { enable := 256 }, .timePtpPortCfg { tcEnable := 256 }, .timePtpPortCfg { transports := 256 },
    .timePtpPortCfg { mapA := 256 }, .timePtpPortCfg { mapB := 256 }, .timePtpPortCfg { asymmetryNs := 2147483648 },
    .timeDomainCfg { src := 256 }, .timeDomainCfg { port := 256 }, .timeDomainCfg { domainNumber := 256 },
    .timeDomainCfg { stepLimitNs := 4294967296 }, .timeDomainCfg { lockNs := 4294967296 }, .timeDomainCfg { announceTimeout := 256 }] : List Cmd).all (fun x => !x.wf) = true ∧ ([.timeStep {}, .timeRate {}, .timeSelect {}, .timeTrigger {}, .timeCaptureCfg {}, .timePtpPortCfg {}, .timeDomainCfg {}, .timeStatus {}] : List Cmd).all (fun x => x.wf) = true := by decide

theorem test_wf_lnk_commands : ([
    .lnkPortCfg { enable := 256 }, .lnkPortCfg { role := 256 }, .lnkPortCfg { expectedPeer := 65536 }, .lnkPortCfg { txSlot := 65536 },
    .lnkPortCfg { rxSlot := 65536 }, .lnkPortCfg { linkDownUs := 65536 }, .lnkPortCfg { boundaryOut := 256 },
    .lnkPortCfg { handoverOut := 256 }, .lnkTopology { setId := 4294967296 }, .lnkTopology { memberId := 65536 },
    .lnkTopology { kind := 256 }, .lnkTopology { members := 65536 }, .lnkTopology { timeRoot := 65536 },
    .lnkTopology { coordBudgetUs := 65536 }, .lnkTopology { timeGuardNs := 4294967296 }, .lnkTopology { rootErrNs := 4294967296 },
    .lnkTopology { hopLimit := 65536 }, .lnkTopology { linkRing := 256 }, .lnkTopology { routes := [{ primary := 256 }] },
    .lnkStatus { clear := 256 }, .lnkSend { vl := 256 }, .lnkSend { kind := 256 }, .lnkSend { dst := 65536 }] : List Cmd).all (fun x => !x.wf) = true ∧ ([.lnkPortCfg {}, .lnkTopology {}, .lnkStatus {}, .lnkSend {}] : List Cmd).all (fun x => x.wf) = true := by decide

theorem test_wf_twin_commands : ([
    .twinCfg { op := 256 }, .twinCfg { chipId := 256 }, .twinCfg { claimOffsetUs := 65536 }, .twinCfg { deltaAckUs := 65536 },
    .twinClaim { op := 256 }, .twinClaim { priority := 256 }, .twinStatus { clear := 256 }, .twinSaveState { op := 256 },
    .twinSaveState { usageFloor := 4294967296 }] : List Cmd).all (fun x => !x.wf) = true ∧ ([.twinCfg {}, .twinClaim {}, .twinSwitch {}, .twinStatus {}, .twinSaveState {}] : List Cmd).all (fun x => x.wf) = true := by decide

theorem test_wf_hlth_commands : ([
    .hlthStatus { clear := 256 }, .hlthSpareMap { op := 256 }, .hlthSpareMap { reserve := 256 },
    .hlthSpareMap { bufferAddr := 18446744073709551616 }, .hlthRetire { kind := 256 }, .hlthRetire { index := 4294967296 }] : List Cmd).all (fun x => !x.wf) = true ∧ ([.hlthStatus {}, .hlthSpareMap {}, .hlthRetire {}] : List Cmd).all (fun x => x.wf) = true := by decide

theorem test_wf_diag_commands : ([
    .diagDumpRead { op := 256 }, .diagDumpRead { src := 256 }, .diagDumpRead { offset := 4294967296 },
    .diagDumpRead { len := 4294967296 }, .diagDumpRead { bufferAddr := 18446744073709551616 }, .diagFwRegion { region := 256 },
    .diagFwRegion { op := 256 }, .diagFwRegion { base := 18446744073709551616 }, .diagFwRegion { size := 18446744073709551616 },
    .diagFwRegion { readGroups := 256 }, .diagFwRegion { writeGroups := 256 }] : List Cmd).all (fun x => !x.wf) = true ∧ ([.diagDumpRead {}, .diagUnfreeze {}, .diagFwRegion {}] : List Cmd).all (fun x => x.wf) = true := by decide

theorem test_wf_test_commands : ([
    .testLoopback { target := 256 }, .testLoopback { depth := 256 }, .testLoopback { pattern := 256 },
    .testLoopback { frameLen := 65536 }, .testLoopback { durationMs := 4294967296 }, .testLoopback { channel := 65536 },
    .testLoopback { phyMode := 256 }, .testLoopback { powerHdbm := 128 }, .testBist { mask := 65536 },
    .testBist { rangeBase := 18446744073709551616 }, .testBist { rangeLen := 18446744073709551616 }, .testPattern { target := 256 },
    .testPattern { pattern := 256 }, .testPattern { durationMs := 4294967296 }, .testPattern { channel := 65536 },
    .testPattern { phyMode := 256 }, .testPattern { powerHdbm := 128 }, .testPattern { toneKhz := 65536 }, .testStatus { op := 256 }] : List Cmd).all (fun x => !x.wf) = true ∧ ([.testLoopback {}, .testBist {}, .testPattern {}, .testStatus {}] : List Cmd).all (fun x => x.wf) = true := by decide

theorem test_wf_rows_1 : ([
    .sqDoorbellWrite 256 0, .sqDoorbellWrite 0 4294967296, .commandFetch { hdr := { qp := 66 } },
    .commandFetch { cmd := some (.sysReset { kind := 256 }) }, .commandRelease 256 0, .commandRelease 0 65536, .cqDoorbellWrite 256 0,
    .cqDoorbellWrite 0 4294967296, .qpEnable 256 0 0, .qpEnable 0 256 0, .qpEnable 0 0 4294967296, .qpDisable 256 0 0,
    .qpDisable 0 256 0, .qpDisable 0 0 4294967296, .deadlineAbandon 256 0, .deadlineAbandon 0 65536, .coalTimeExpiry 256 0,
    .coalTimeExpiry 0 256, .msixUnmask 256 0, .msixUnmask 0 256, .evtCauseClear 256 0, .evtCauseClear 0 4294967296,
    .registerWrite 256 0 0, .registerWrite 0 4294967296 0, .registerWrite 0 0 4294967296, .rcCounterRead 4294967296,
    .resetCtrlWarm 65536, .resetCtrlFull 65536, .spiSubmit { hdr := { qp := 66 } } false,
    .spiSubmit { cmd := some (.sysReset { kind := 256 }) } false, .mgmtVlanFrame 256 0 0 false 0 [],
    .mgmtVlanFrame 0 281474976710656 0 false 0 [], .mgmtVlanFrame 0 0 65536 false 0 [], .mgmtVlanFrame 0 0 0 false 65536 [],
    .mgmtVlanFrame 0 0 0 false 0 [{ hdr := { qp := 66 } }], .sysResetNLow 4294967296, .pcieLinkUp 256 0, .pcieLinkUp 0 256,
    .supplyExcursion 256 0 0 false false false 0, .supplyExcursion 0 32768 0 false false false 0,
    .supplyExcursion 0 0 32768 false false false 0, .supplyExcursion 0 0 0 false false false 4294967296, .tamperAlarm 256,
    .tamperLoopSample 256 false, .temperatureSample 32768, .refLoss 256, .refReturn 256, .avsEvaluate 65536 0, .avsEvaluate 0 256,
    .lullWake 256 0, .lullWake 0 256, .pwrGoodRise 18446744073709551616 false false, .fatalError 256 0, .fatalError 0 65536,
    .synthFreqWrite 256, .synthLock 256, .synthUnlock 256, .txCoexReq 256, .txRffeSeqOn 256, .grantDeadline 256 false, .txPaEnable 256] : List Instr).all (fun x => !x.wf) = true ∧ ([.sqDoorbellWrite 0 0, .commandFetch {}, .commandRelease 0 0, .cqDoorbellWrite 0 0, .qpEnable 0 0 0, .qpDisable 0 0 0, .deadlineAbandon 0 0, .delayListWalk, .coalTimeExpiry 0 0, .msixUnmask 0 0, .evtCauseClear 0 0, .registerWrite 0 0 0, .rcCounterRead 0, .resetCtrlWarm 0, .resetCtrlFull 0, .spiSubmit {} false, .spiReadReply, .spiReadStatus, .mgmtVlanFrame 0 0 0 false 0 [], .powerOnReset false, .sysResetNLow 0, .resetEnd {}, .initDone {}, .bootWatchdogExpiry, .perstNRise, .pcieLinkUp 0 0, .supplyExcursion 0 0 0 false false false 0, .tamperAlarm 0, .tamperLoopSample 0 false, .temperatureSample 0, .vbatLoss, .refLoss 0, .refReturn 0, .avsEvaluate 0 0, .lullEntry, .lullWake 0 0, .pwrGoodRise 0 false false, .fatalError 0 0, .synthFreqWrite 0, .synthLock 0, .synthUnlock 0, .txCoexReq 0, .txRffeSeqOn 0, .grantDeadline 0 false, .txPaEnable 0] : List Instr).all (fun x => x.wf) = true := by decide

theorem test_wf_rows_2 : ([
    .lockDeadline 256, .txModulationStart 256, .txLastSymbol 256 0 0 false, .txLastSymbol 0 32768 0 false, .txLastSymbol 0 0 32768 false,
    .txPaDisable 256, .txEnRelease 256, .blankEnd 256, .coexGrantRevoke 256, .tunerSearchTimeout 256, .calStart 256, .calDone 256 0 0,
    .calDone 0 256 0, .calDone 0 0 32768, .autoRecalTrigger 256 0, .autoRecalTrigger 0 32768, .nbAgcUpdate 256 0, .nbAgcUpdate 0 32768,
    .adcClip 256 0, .adcClip 0 65536, .preambleDetect 256 0 0, .preambleDetect 0 65536 0, .preambleDetect 0 0 32768, .syncFieldEnd 256,
    .maxPreambleTimeout 256, .headerCheck 256 {}, .laneCellAlloc 256 [] false, .laneFrameEnd 256 false 0 [],
    .laneFrameEnd 0 false 32768 [], .listenWindowOpen 256, .listenWindowClose 256, .deferredConfigApply 256, .laneFail 256,
    .laneSpareMove 256, .snapshotEnd 256, .chkPauseWrite 256 0, .chkPauseWrite 0 4294967296, .chkPauseEffect 256, .chkValueWrite 256 0,
    .chkValueWrite 0 4294967296, .chkResultRead 256, .comparatorFire 256, .timeInEdge 256 false, .rateFold 256, .ptpEventRx 256 {},
    .ptpTcEgress 256 0, .ptpTcEgress 0 4294967296, .ptpOffsetMeasure 256 0 0, .ptpOffsetMeasure 0 9223372036854775808 0,
    .ptpOffsetMeasure 0 0 2147483648, .ptpAnnounceTimeout 256, .captureEntryRead 256, .superframeEvent 256 0, .superframeEvent 0 256] : List Instr).all (fun x => !x.wf) = true ∧ ([.lockDeadline 0, .txModulationStart 0, .txLastSymbol 0 0 0 false, .txPaDisable 0, .txEnRelease 0, .blankEnd 0, .coexGrantRevoke 0, .tunerSearchTimeout 0, .calStart 0, .calDone 0 0 0, .autoRecalTrigger 0 0, .nbAgcUpdate 0 0, .adcClip 0 0, .preambleDetect 0 0 0, .syncFieldEnd 0, .maxPreambleTimeout 0, .headerCheck 0 {}, .laneCellAlloc 0 [] false, .laneFrameEnd 0 false 0 [], .listenWindowOpen 0, .listenWindowClose 0, .deferredConfigApply 0, .laneFail 0, .laneSpareMove 0, .snapshotEnd 0, .chkPauseWrite 0 0, .chkPauseEffect 0, .chkValueWrite 0 0, .chkResultRead 0, .comparatorFire 0, .timeInEdge 0 false, .frontInEdge false, .frontPositionMissing, .slewDone, .holdRelease, .rateFold 0, .ptpEventRx 0 {}, .ptpTcEgress 0 0, .ptpOffsetMeasure 0 0 0, .ptpAnnounceTimeout 0, .timeSnapshotRead, .captureEntryRead 0, .asnLatchRead, .slotBoundary {}, .superframeEvent 0 0] : List Instr).all (fun x => x.wf) = true := by decide

theorem test_wf_rows_3 : ([
    .secureStart 256, .secureDeadline 256, .ackListenOpen 256, .ackWaitEnd 256 none, .airRecordProcess 256 {}, .enhAckCommit 4294967296,
    .portServe 256, .learnWindowExpiry 256 0 0, .learnWindowExpiry 0 65536 0, .learnWindowExpiry 0 0 18446744073709551616,
    .learnHoldoffExpiry 256 0 0, .learnHoldoffExpiry 0 65536 0, .learnHoldoffExpiry 0 0 18446744073709551616, .learnHeadWrite 4294967296,
    .agingSweepVisit 256 0 false, .agingSweepVisit 0 4294967296 false, .tblParityRepair 256 0, .tblParityRepair 0 4294967296,
    .keyReferenceDrop 65536 0, .keyReferenceDrop 0 65536, .keyWaitExpiry 65536, .rxOverlapExpiry 65536, .pufSpareEnrol 256 false,
    .engineResume 256, .journalEntryDurable 65536, .journalWriteFail 65536, .dropDurable 4294967296 false false,
    .nodeReportRx 340282366920938463463374607431768211456 {}, .campaignWindowStart 256, .campaignWindowEnd 256, .reportWaitExpiry 256,
    .repairVisitTimeout 256 0, .repairVisitTimeout 0 4294967296, .dlBlockLock 256, .dlHelloTx 256, .dlHelloRx 256 0 0 false 0,
    .dlHelloRx 0 4294967296 0 false 0, .dlHelloRx 0 0 65536 false 0, .dlHelloRx 0 0 0 false 256, .dlTrainingUp 256,
    .dlLinkDownTimeout 256, .dlElasticOverflow 256, .dlFrameRx 256 {}] : List Instr).all (fun x => !x.wf) = true ∧ ([.slotStopEffect, .secureStart 0, .secureDeadline 0, .ackListenOpen 0, .ackWaitEnd 0 none, .airRecordProcess 0 {}, .enhAckCommit 0, .beaconPeriodMiss, .guardLimitReached, .tmEnqueue, .portServe 0, .wheelFineAdvance, .wheelCoarseAdvance, .learnWindowExpiry 0 0 0, .learnHoldoffExpiry 0 0 0, .learnHeadWrite 0, .agingSweepVisit 0 0 false, .tblParityRepair 0 0, .keyReferenceDrop 0 0, .keyWaitExpiry 0, .rxOverlapExpiry 0, .identityGenerated, .pufSpareEnrol 0 false, .engineResume 0, .journalEntryDurable 0, .journalWriteFail 0, .journalCompactDone, .dropIntake, .dropDurable 0 false false, .journalHeldFlush, .fwVerifyDone none false, .autoCommitTimer, .nodeReportRx 0 {}, .campaignWindowStart 0, .campaignWindowEnd 0, .reportWaitExpiry 0, .repairVisitTimeout 0 0, .dlBlockLock 0, .dlHelloTx 0, .dlHelloRx 0 0 0 false 0, .dlTrainingUp 0, .dlLinkDownTimeout 0, .dlElasticOverflow 0, .dlFrameRx 0 {}, .deltaRx {}] : List Instr).all (fun x => x.wf) = true := by decide

theorem test_wf_rows_4 : ([
    .ethFrameRx 256 {}, .ethPauseExpiry 256, .ethLinkChange 256 false 0, .ethLinkChange 0 false 256, .thDoorbellWrite 256 0,
    .thDoorbellWrite 0 4294967296, .thFrameDeliver 256 [], .thFrameDeliver 0 [{ addr := 18446744073709551616 }],
    .thFrameDeliver 0 [{ len := 65536 }], .fhDoorbellWrite 256 0, .fhDoorbellWrite 0 4294967296, .fhEntryFetch 256 {},
    .pf1WriteDrop 4294967296, .pcieFlr 256, .dramCe 18446744073709551616, .dramUe 18446744073709551616,
    .ddrCaAlert 18446744073709551616 false, .ddrTempPoll 32768, .pageRetireDone 4294967296, .flashBlockFail 4294967296,
    .sramEccError 256 false false 0, .sramEccError 0 false false 4294967296, .coreWatchdogExpiry 256, .coreFail 256,
    .fwallViolation 256 0 false, .fwallViolation 0 281474976710656 false, .masterOwnerReset 256, .queueFlushWriter 256 0 false 0 0,
    .queueFlushWriter 0 256 false 0 0, .queueFlushWriter 0 0 false 65536 0, .queueFlushWriter 0 0 false 0 65536,
    .testComplete 4294967296 0 0 0 0, .testComplete 0 4294967296 0 0 0, .testComplete 0 0 4294967296 0 0, .testComplete 0 0 0 65536 0,
    .testComplete 0 0 0 0 256, .jtagInstruction 256, .campaignDoneWaitExpiry 256, .pcieAerError 256] : List Instr).all (fun x => !x.wf) = true ∧ ([.deltaAckTimeout, .twinBulkRx {}, .heartbeatTx, .heartbeatMissing, .claimArbitration none false, .twinSaveDone false false, .ethFrameRx 0 {}, .ethPauseExpiry 0, .ethLinkChange 0 false 0, .ethPhyInt, .thDoorbellWrite 0 0, .thFrameDeliver 0 [], .fhDoorbellWrite 0 0, .fhEntryFetch 0 {}, .pf1WriteDrop 0, .pcieFlr 0, .dramCe 0, .dramUe 0, .ddrCaAlert 0 false, .patrolScrub false, .ddrTempPoll 0, .pageRetireDone 0, .flashBlockFail 0, .sramEccError 0 false false 0, .coreWatchdogExpiry 0, .coreFail 0, .fwallViolation 0 0 false, .masterOwnerReset 0, .fwallRecordRead, .queueFlushWriter 0 0 false 0 0, .testComplete 0 0 0 0 0, .jtagInstruction 0, .rawSlotBoundary {}, .mainPowerRemoval, .mainPowerRestore, .twinWatchdogExpiry, .campaignDoneWaitExpiry 0, .budgetBucketExpiry, .pcieAerError 0] : List Instr).all (fun x => x.wf) = true := by decide

theorem test_wf_opcode_rows : (Instr.sysInfo { qp := 66 } {}).wf = false ∧ (Instr.sysInfo {} { op := 256 }).wf = false ∧
    (Instr.testStatus {} {}).wf = true := by decide

theorem test_witness_StepRunsFrontCommand :
    ({ run with pending := [.delayListWalk, .ethPhyInt] } : State).pending = .delayListWalk :: [.ethPhyInt] := rfl

theorem test_witness_IdleStepCountsTime : run.pending = [] := rfl

theorem test_witness_HostMemoryStaysCanonical : ∃ s t : State, MemOk s ∧ s.hostMem ≠ [] ∧ step s = .next t :=
  ⟨{ run with hostMem := [(7, 1)], pending := [.ethPhyInt] }, _, rfl, by decide, rfl⟩

theorem test_witness_FusesAndLatchKept : ∃ t : State, exec .ethPhyInt { run with aon := { run.aon with latch := true } } = .next t ∧
    run.aon.cycled = false := ⟨_, rfl, rfl⟩

/-- A part whose source 5 is disabled and whose source 6 has its cause bit set, with vector 0 unmasked. -/
def evented : State := { run with evt := { run.evt with srcCfg := [(5, { enable := false })], cause := 64, unmasked := [vecOfSrc (srcCfgOf run 383)] } }

theorem test_witness_EventRaiseSetsCauseOnce :
    (srcCfgOf evented 5).enable = false ∧ evented.evt.cause.testBit 6 = true ∧
    ((srcCfgOf run 383).enable = true ∧ run.evt.cause.testBit 383 = false ∧ vecPending run (vecOfSrc (srcCfgOf run 383)) = false ∧
      vecOfSrc (srcCfgOf run 383) ∉ run.evt.unmasked) ∧
    ((srcCfgOf evented 383).enable = true ∧ vecPending evented (vecOfSrc (srcCfgOf evented 383)) = false ∧
      vecOfSrc (srcCfgOf evented 383) ∈ evented.evt.unmasked) ∧
    ((srcCfgOf evented 7).enable = true ∧ evented.evt.cause.testBit 7 = false ∧ vecPending evented (vecOfSrc (srcCfgOf evented 7)) = true) := by
  decide +kernel

theorem test_witness_RefusedAtFetchHasNoEffect :
    (answers run = true ∧ run.hif.flights = [] ∧ entryRefusal { flags := 32 } (some (.timeStatus {})) run ≠ stOk) ∧
    (let h : Hdr := { flags := 4, paramError := true, qp := 63 }
     entryRefusal h (some (.timeStatus {})) run ≠ stOk ∧ hflag h 2 = true ∧ h.qp < 64) := by
  decide +kernel

theorem test_witness_PassedDeadlineTimesOut :
    deadlinePassed 0xFFFFFFFF 0 = true ∧ deadlinePassed 1 0x80000000 = true ∧ deadlinePassed 1 0x80000001 = false ∧
    deadlinePassed 0xFFFFFFFF (fwTick run) = true := by
  decide +kernel

/-- RUN with one command in flight. -/
def flying (f : Flight) : State := { run with hif := { run.hif with flights := [f] } }

theorem test_witness_DuplicateTagRefused :
    let f : Flight := { hdr := { tag := 7 }, cmd := some (.timeStatus {}) }
    answers (flying f) = true ∧ f ∈ (flying f).hif.flights ∧ ∀ g ∈ (flying f).hif.flights, isFor { tag := 7 } (.cryStatus {}) g = false := by
  decide +kernel

theorem test_witness_TimedCommandWaits :
    let h : Hdr := { flags := 2, actTime := 1000000 }
    let c : Cmd := .timeRate {}
    (answers run = true ∧ run.hif.flights = [] ∧ entryRefusal h (some c) run = stOk ∧ staysDelayed h c = true ∧
      replyFull run h.qp = false ∧ jobBusy c h.flow run = false) ∧
    (runCmd h c { run with hif := { run.hif with flights := run.hif.flights ++ [newFlight h c run] } }).status = stOk := by
  decide +kernel

theorem test_witness_HeldCommandHasNoEffect :
    let f : Flight := { hdr := { tag := 7 }, cmd := some (.timeStatus {}) }
    let busy : State := { run with rfc := { run.rfc with chains := [(0, { cal := some { job := 1 } })] } }
    (entryRefusal { flags := 1 } (some (.cryStatus {})) (flying f) = stOk ∧ hflag { flags := 1 } 0 = true) ∧
    (entryRefusal { tag := 1 } (some (.timeStatus {})) (flying f) = stOk ∧ flowKey f = (opcodeOf (.timeStatus {}) / 256, 0)) ∧
    (entryRefusal {} (some (.radAgcCfg {})) busy = stOk ∧ replyFull busy 0 = false ∧ jobBusy (.radAgcCfg {}) 0 busy = true) := by
  decide +kernel

/-- RUN with one queue pair set as given. -/
def withRing (q : Nat) (x : QpSt) : State := { run with hif := { run.hif with qps := [(q, x)] } }

/-- RUN with a list of masters frozen. -/
def freezing (l : List Nat) : State := { run with fwall := { run.fwall with frozen := l } }

theorem test_witness_QueuePairDoorbells :
    (pfFrozen run (qpOf run 63).func = false ∧ 15 % 4096 < 2 ^ (qpOf run 63).sqLog2 ∧ 2 ^ (qpOf run 63).sqLog2 ≤ 16 % 4096 ∧
      2 ^ (qpOf run 63).cqLog2 ≤ 4095 % 4096 ∧ 4096 % 4096 < 2 ^ (qpOf run 63).cqLog2) ∧
    pfFrozen (freezing [26]) (qpOf (freezing [26]) 0).func = true := by
  decide +kernel

theorem test_witness_QueuePairEnable :
    let on (f : List Flight) : State := { run with hif := { run.hif with qps := [(63, { enabled := true })], flights := f } }
    (pfFrozen run 0 = false ∧ (qpOf run 63).enabled = false ∧ bits 0x311 5 2 = 4 ∧ bits 0x311 9 6 = 12 ∧ bits 0x10D 5 2 = 3) ∧
    ((qpOf (withRing 0 { func := 1 }) 0).func = 1 ∧ pfFrozen (withRing 0 { func := 1 }) 1 = false) ∧
    ((qpOf (on []) 63).enabled = true ∧ inFlight (on []) 63 = 0) ∧ 0 < inFlight (on [{ qp := 63 }]) 63 := by
  decide +kernel

theorem test_witness_FetchServesRings :
    let fed : State := { run with hif := { run.hif with qps := [(63, { enable := true, enabled := true, sqTail := 1 })] } }
    let two : State := { run with hif := { run.hif with qps := [(0, { enable := true, enabled := true, sqTail := 1, prio := 1 })] } }
    let full : State := { run with hif := { run.hif with flights := List.replicate 64 {} } }
    (fed.sys.devState = .run ∧ servedNext fed 63 = true) ∧ 64 ≤ inFlight full 0 ∧
    (fetchable two 0 = true ∧ (qpOf two 0).prio < (qpOf two 1).prio) := by
  decide +kernel

theorem test_witness_ReleaseWritesReply :
    let f : Flight := { done := true, hdr := { tag := 5 } }
    let s (pre : List Flight) (x : QpSt) : State := { run with hif := { run.hif with qps := [(0, x)], flights := pre ++ [f] } }
    let g : Flight := { hdr := { tag := 4, flow := 1 } }
    (answers (s [] {}) = true ∧ (qpOf (s [] { enabled := true }) 0).enabled = true ∧ (s [] {}).sys.resetNext = none) ∧
    flowKey ({ hdr := { tag := 4 } } : Flight) = flowKey f ∧ (flowKey g ≠ flowKey f ∧ ¬ (g.qp = 0 ∧ g.hdr.tag = 5)) ∧
    replyFull (s [g] { enabled := true, cqTail := 15 }) 0 = true ∧ replyFull (s [g] { enabled := true, cqTail := 15, cqHead := 1 }) 0 = false ∧
    hflag { flags := 8 } 3 = true := by
  decide +kernel

theorem test_witness_DeadlineAbandons :
    deadlinePassed 0 (fwTick run) = false ∧ deadlinePassed 0x80000001 (fwTick run) = true ∧ deadlinePassed 0x80000000 (fwTick run) = false := by
  decide +kernel

theorem test_witness_ComparatorsAndVectors :
    let at11 (x : CmpSt) : State := { run with time := { run.time with cmps := [(11, x)] } }
    let held : State := { run with evt := { run.evt with held := [263], cause := 1, srcCfg := [(0, { vector := 7, toPf1 := true })] } }
    let coal : State := { run with evt := { run.evt with unmasked := [63] }, hif := { run.hif with qps := [(63, { unsignalled := 1, cqTail := 1 })] } }
    ((cmpOf run 12).armed = false ∧ (200000 : Int) ≤ refNs run 0 + 200000) ∧
    refNs (at11 { target := 1 }) (cmpOf (at11 { target := 1 }) 11).ref < (cmpOf (at11 { target := 1 }) 11).target ∧
    (answers (at11 { armed := true, period := 7, actions := 1 }) = true ∧ (cmpOf (at11 { armed := true, period := 7, actions := 1 }) 11).armed = true ∧
      ((cmpOf (at11 { armed := true, period := 7 }) 11).target : Int) ≤ refNs (at11 { armed := true, period := 7 }) 0 ∧
      (srcCfgOf run (0x0F6 + 11)).enable = true) ∧
    (263 ∈ held.evt.held ∧ vecPending held 263 = true) ∧ pfFrozen run 0 = false ∧
    ((qpOf coal 63).func = 0 ∧ (qpOf coal 63).unsignalled ≠ 0 ∧ 63 ∈ coal.evt.unmasked ∧ vecPending coal 63 = false ∧ unread (qpOf coal 63) ≠ 0) := by
  decide +kernel

theorem test_witness_ManagementPaths :
    let busy (n : Nat) : State := { run with hif := { run.hif with flights := List.replicate n { qp := 64 } } }
    let read : State := { run with sys := { run.sys with spiReplies := [[1]] } }
    let vlan (l : List MgmtPeer) : State := { run with
      sys := { run.sys with mgmtEnable := true, mgmtPorts := 2, mgmtVlan := 4094, mgmtPeers := l }, eth := [(1, { macsec := true })] }
    (answers (busy 14) = true ∧ inFlight (busy 14) 64 < 15) ∧ 15 ≤ inFlight (busy 15) 64 ∧ read.sys.spiReplies = [1] :: [] ∧
    run.sys.spiReplies = [] ∧
    (bit (vlan []).sys.mgmtPorts 1 = true ∧ (ethOf (vlan []) 1).macsec = true ∧
      (vlan []).sys.mgmtPeers.find? (fun x => decide (x.mac = 9)) = none) ∧
    (vlan [{ mac := 9, seqs := [4] }]).sys.mgmtPeers.find? (fun x => decide (x.mac = 9)) = some { mac := 9, seqs := [4] } := by
  decide +kernel

theorem test_witness_RegisterAccess :
    let rec1 : State := { run with fwall := { run.fwall with records := [{ addr := 4 }] } }
    pfFrozen run 0 = false ∧ (pfFrozen run 1 = false ∧ pf1May run 0x80010 = false) ∧ pfFrozen (freezing [27]) 1 = true ∧
    rec1.fwall.records = { addr := 4 } :: [] ∧ run.fwall.records = [] ∧
    (∃ t, exec (.registerWrite 0 0x30000 0xFFFFFFFF) run = .next t) :=
  ⟨by decide, by decide +kernel, by decide, rfl, rfl, _, rfl⟩

/-- RUN with key slots as given. -/
def keyed (l : Tbl KeySlotSt) : State := { run with sec := { run.sec with slots := l } }

theorem test_witness_SystemCommands :
    let at_ (d : DevState) : State := { run with sys := { run.sys with devState := d } }
    let camp : State := { run with upd := { run.upd with camps := [(3, { inWindow := true })] } }
    let cycled (n : Nat) : State := { run with
      sys := { run.sys with devState := .tamperHold }, aon := { run.aon with latch := true, cycled := true }, sec := { run.sec with tamperLive := n } }
    (ready {} (.sysReset { kind := 1 }) run = true ∧ ready {} (.sysReset { kind := 2 }) run = true) ∧
    (ready {} (.sysTimed { queue := 65, timeRef := 3, maxAheadS := 86400 }) run = true ∧ ready {} (.sysTimed { maxAheadS := 86401 }) run = true) ∧
    (ready {} (.sysMgmtCfg { enable := 1, portMask := 3, vlanId := 4094 }) run = true ∧ ready {} (.sysMgmtCfg { vlanId := 4095 }) run = true) ∧
    ((List.range 4).all (fun op => ready {} (.sysInfo { op := op }) run) = true ∧ ready {} (.sysInfo { op := 1, bufferAddr := 8 }) run = true) ∧
    (ready {} (.sysInfo { op := 2 }) (at_ .fwVerify) = true ∧ (at_ .fwVerify).sys.devState = .fwVerify) ∧
    (ready {} (.sysState { op := 1, lullDram := 1, wakeGpio := 15 }) run = true ∧ ready {} (.sysState { op := 1 }) camp = true ∧
      ready {} (.sysState { op := 1 }) (at_ .init) = true) ∧
    (ready {} (.sysState { op := 2 }) run = true ∧ ready {} (.sysState { op := 2 }) (cycled 4) = true ∧ ready {} (.sysState { op := 2 }) (cycled 0) = true) ∧
    (ready {} (.sysEventMap { firstSrc := 383, count := 1, vector := 127, toPf1 := 1, enable := 1 }) run = true ∧
      ready {} (.sysEventMap { firstSrc := 383, count := 2 }) run = true) := by
  decide +kernel

theorem test_witness_EthernetPorts :
    let port (x : EthPort) : State := { run with eth := [(1, x)] }
    let live (x : EthPort) : State := { keyed [(4095, { state := 1, mat := { engines := 4 } })] with eth := [(1, x)] }
    let sa (op : Nat) : Cmd := .sysMacsecSa { port := 1, op := op, sci := 9, an := 3, slot := 4095, encrypt := 1, nextPn := 1 }
    let four : List (Nat × Nat × MacsecSa) := [(1, 0, {}), (2, 0, {}), (3, 0, {}), (4, 0, {})]
    let up : EthPort := { mode := 3, link := true, speed := 3, maxFrame := 1518 }
    let frame (n : Nat) : EthFrame := { bytes := List.replicate n 0 }
    let len (f : EthFrame) := f.aad.length + f.bytes.length + f.icv.length + 4
    (ready {} (.sysEthCfg { port := 1, mode := 3, maxFrame := 9216, eapolRing := 31 }) (port { mode := 2, link := true }) = true ∧
      ready {} (.sysEthCfg { port := 2, maxFrame := 1518 }) run = true) ∧
    (ready {} (sa 1) (live {}) = true ∧ keyStatus (live {}) 4095 2 = stOk ∧ keyStatus (keyed [(4095, { state := 1 })]) 4095 2 = stKeyDenied ∧
      (slotOf run 4095).state = 0) ∧
    (4 ≤ (((ethOf (live { rxSas := four }) 1).rxSas.filter (fun x => !(decide (x.1 = 9) && decide (x.2.1 = 3)))).map (·.1)).eraseDups.length ∧
      9 ∉ four.map (·.1)) ∧
    ({ live {} with twin := { run.twin with configured := true } } : State).twin.chipId = 0 ∧
    (ready {} (sa 2) (live { txSas := [(3, {})] }) = true ∧ tfind (ethOf (live { txSas := [(3, {})] }) 1).txSas 3 = some {}) ∧
    (ready {} (sa 3) (live { txSci := 9, txSas := [(3, {})], txAn := 3, txAnSet := true }) = true ∧
      ready {} (sa 3) (live { txSci := 9, txSas := [(3, {})], txAn := 2, txAnSet := true }) = true) ∧
    ((ethOf (port up) 1).mode ≠ 0 ∧ (ethOf (port up) 1).held = false ∧ (ethOf (port up) 1).link = true ∧ (ethOf run 0).link = false) ∧
    (({ fcsOk := false } : EthFrame).fcsOk = false ∧ 1518 < len (frame 1515) ∧ len (frame 1514) ≤ 1518 ∧ 64 ≤ len (frame 60)) ∧
    (ethOf (port up) 1).dropSec ≠ some (rawSec (port up)) ∧ rxSa up 9 3 = none := by
  decide +kernel

theorem test_witness_Resets :
    let at_ (d : DevState) : State := { run with sys := { run.sys with devState := d }, hif := { run.hif with pcieUp := true } }
    let asked (k : ResetKind) (d : DevState) : State := { run with
      sys := { run.sys with devState := d, resetNext := some k },
      hif := { run.hif with flights := [{ hdr := { tag := 1 }, cmd := some (.sysReset {}), done := true }] } }
    ((0x1C1EA % 65536 = 0xC1EA ∧ (at_ .fwVerify).hif.pcieUp = true ∧ (at_ .fwVerify).sys.devState = .fwVerify) ∧ 0xC1EB % 65536 ≠ 0xC1EA) ∧
    run.sys.devState = .run ∧ ((at_ .init).sys.bootWatchdog = true ∧ (at_ .init).boot.waitingImage = false) ∧
    (at_ .off).sys.devState = .off ∧
    ((asked .warm .run).hif.flights = [{ hdr := { tag := 1 }, cmd := some (.sysReset {}), done := true }] ∧ answers (asked .warm .run) = true ∧
      replyFull (asked .full .tamperHold) 0 = false ∧ answers (asked .full .tamperHold) = true ∧ (asked .full .tamperHold).sys.resetNext = some .full) := by
  decide +kernel

theorem test_witness_BootAndInit :
    let rst (a : AonSt) : State := { run with sys := { run.sys with devState := .reset, resetKind := some .powerOn }, aon := a }
    let img : State := { rst {} with flash := { run.flash with slotManifest := [(0, [0])] } }
    let ini : State := { run with sys := { run.sys with devState := .init } }
    bit (rst {}).sys.refLost 0 = false ∧ (rst { latch := true }).aon.latch = true ∧
    ((rst {}).aon.pufFailed = false ∧ (∃ n, nth (some 0) ({ pufRuns := [some 0] } : BootProbe).pufRuns 0 = some n) ∧ (rst {}).sys.slotFailed = none ∧
      slotResult {} 0 (rst {}) = 1) ∧ img.flash.bootRec.valid = false ∧
    (ini.sys.devState = .init ∧ ini.sys.recovery = false ∧ 6 ≤ popcount (bootCores ini.flash.failedCores) 10) := by
  refine ⟨?_, ?_, ⟨?_, ⟨0, ?_⟩, ?_, ?_⟩, ?_, ?_⟩ <;> decide +kernel

theorem test_witness_PcieEvents :
    let rom (n : Nat) : State := { State.reset with boot := { run.boot with step := n } }
    3 ≤ (rom 3).boot.step ∧ ((rom 2).boot.step < 3 ∧ (rom 2).sys.devState = .bootRom) ∧ run.pcie.held = false ∧
    ({ run with pcie := { run.pcie with held := true } } : State).pcie.held = true ∧
    (26 + 1 ∈ (freezing [27]).fwall.frozen ∧ 26 + 1 ∉ (freezing [27]).fwall.ownerReset) ∧ 26 + 1 ∉ run.fwall.frozen := by
  decide +kernel

theorem test_witness_SuppliesAndTemperature :
    let off : State := { run with sys := { run.sys with devState := .off } }
    let lost : State := { run with sys := { run.sys with refLost := 4 } }
    let hot : State := { run with sys := { run.sys with thermalLast := some 120 } }
    off.sys.devState = .off ∧ run.sys.devState = .run ∧ bit lost.sys.refLost 2 = true ∧ run.sys.thermalLast = none ∧
    (∃ d, hot.sys.thermalLast = some d ∧ d + 2 ≤ 122) ∧ (∃ d, hot.sys.thermalLast = some d ∧ (121 : Int) < d + 2) := by
  exact ⟨rfl, rfl, rfl, rfl, ⟨120, rfl, by decide⟩, ⟨120, rfl, by decide⟩⟩

theorem test_witness_TamperTakesHold :
    let loop (l : Tbl Nat) : State := { run with aon := { run.aon with loopEn := 8, loopMiss := l } }
    let held : State := { run with sys := { run.sys with devState := .tamperHold } }
    (bit (loop []).aon.loopEn (7 - 4) = true ∧ (loop []).sys.devState = .run) ∧ held.sys.devState = .tamperHold ∧
    bit (loop []).aon.loopEn (6 - 4) = false ∧ tget 0 (loop []).aon.loopMiss 3 = 0 ∧ tget 0 (loop [(3, 1)]).aon.loopMiss 3 = 1 := by
  decide +kernel

theorem test_witness_LullEntryAndExit :
    let armed : State := { run with sys := { run.sys with lullArmed := true } }
    let lull (exit_ : Bool) : State := { run with sys := { run.sys with devState := .lull, lullExit := exit_, wakeTimerS := 1, wakeGpio := 8 } }
    run.sys.lullArmed = false ∧ (armed.sys.lullArmed = true ∧ armed.sys.devState = .run) ∧
    ((lull false).sys.devState = .lull ∧ (lull false).sys.wakeTimerS ≠ 0 ∧ bit (lull false).sys.wakeGpio 3 = true) ∧ run.sys.wakeTimerS = 0 ∧
    bit (lull false).sys.wakeGpio 2 = false ∧ ((lull true).sys.lullExit = true ∧ (lull true).sys.lullRelease = false) := by
  decide +kernel

theorem test_witness_FatalErrorsAndCores :
    let dogs (l : List Nat) : State := { run with hlth := { run.hlth with watchdogs := [(7, l)] } }
    run.sys.devState = .run ∧ run.flash.dumps = [] ∧
    (bit run.hlth.coresActive 7 = true ∧ bit run.flash.failedCores 7 = false ∧
      (∀ m ≤ 9, m < 8 → bit run.hlth.coresActive m = true ∨ bit run.flash.failedCores m = true) ∧
      bit run.hlth.coresActive 8 = false ∧ bit run.flash.failedCores 8 = false) ∧
    (tget [] (dogs []).hlth.watchdogs 7).filter (fun x => rawSec (dogs []) < x + 86400) = [] ∧
    ((tget [] (dogs [0, 0]).hlth.watchdogs 7).filter (fun x => rawSec (dogs [0, 0]) < x + 86400)).length = 2 := by
  decide +kernel

/-- RUN with chain 3 as given. -/
def chained (k : ChainSt) : State := { run with rfc := { run.rfc with chains := [(3, k)] } }

/-- RUN with chain 3 in service and one transmission on it. -/
def sending (t : TxSeq) : State := chained { service := 0, txs := [t] }

theorem test_witness_RadioConfiguration :
    let zero13 := List.replicate 13 0
    let p : RadChainCfgP := { windowCentre := 3950, phyEnable := 1, planForPhy := zero13, rampForPhy := zero13, mismatchRl := 80, backoffStep := 20, maxBackoff := 18 }
    let laned : State := { run with lane := { run.lane with lanes := [(95, { assign := some { chain := 3 } })] } }
    let h := hd 3
    (ready h (.radChainCfg p) (chained { service := 2 }) = true ∧ (chainOf (chained { service := 2 }) 3).service = 2) ∧
    (ready h (.radChainCfg p) run = true ∧ (chainOf run 3).service ≠ 2 ∧ chainCfgOk (chainOf run 3) { p with windowCentre := 3949 } = false ∧
      chainCfgOk (chainOf run 3) p = true ∧ chainCfgBusy run 3 p = false ∧ (chainOf run 3).cal = none ∧ p.windowCentre ≠ (chainOf run 3).centre) ∧
    (chainCfgBusy laned 3 p = true ∧ chainCfgBusy (chained { centre := 3950 }) 3 p = false) ∧
    (ready h (.radCoexCfg { coexMode := 1, grantPolarity := 1, reqLeadUs := 1000, priAck := 1, abortOnRevoke := 1 }) run = true ∧
      ready h (.radCoexCfg { reqLeadUs := 9 }) run = true) ∧
    (ready h (.radAgcCfg { agcMode := 1, wbTarget := -128, nbTarget := -24, clipCount := 64 }) run = true ∧ ready h (.radAgcCfg {}) run = true) ∧
    (ready h (.radPaRamp { profile := 7, rampUs := 32, paLeadUs := 20, points := List.replicate 16 1023 }) run = true ∧
      ready h (.radPaRamp { rampUs := 33 }) run = true ∧ (∀ t ∈ (chainOf run 3).txs, t.phase = 0) ∧
      (∃ t ∈ (chainOf (sending { phase := 8 }) 3).txs, t.phase ≠ 0)) ∧
    (ready h (.radBlankMap { dist := [0, 0, 0, 65535] }) run = true ∧ ready h (.radBlankMap {}) run = true) := by
  decide +kernel

theorem test_witness_CalibrationAndTuner :
    let h := hd 3
    let cal (r : Bool) : ChainSt := { cal := some { steps := [3], job := 0, running := r } }
    let recal : ChainSt := { service := 0, lastCalTemp := some 25, autoRecal := 10 }
    let one : RadTunerP := { op := 1, states := List.replicate 16 {} }
    let seek : ChainSt := { tunerSearch := some {} }
    (ready h (.radCal { steps := 63 }) run = true ∧ ready h (.radCal { steps := 64 }) run = true ∧ (chainOf run 3).cal = none ∧
      (chainOf run 3).testHold = false) ∧
    (ready h (.radCal { steps := 1 }) (chained (cal false)) = true ∧ (chainOf (chained (cal false)) 3).cal.isSome = true) ∧
    calDue (chained (cal false)) 3 = true ∧ (chainOf (chained (cal true)) 3).cal = some { steps := [3], job := 0, running := true } ∧
    ((chainOf (chained recal) 3).lastCalTemp = some 25 ∧ (chainOf (chained recal) 3).autoRecal ≠ 0 ∧ (chainOf (chained recal) 3).cal = none ∧
      (chainOf (chained recal) 3).service = 0 ∧ ((34 : Int) - 25).natAbs < 10 ∧ 10 ≤ ((15 : Int) - 25).natAbs) ∧
    ((List.range 4).all (fun op => ready h (.radTuner { one with op := op }) run) = true ∧ ready h (.radTuner { states := [{}] }) run = true ∧
      (∀ x ∈ one.states, x.writes.length ≤ 4) ∧ one.states.length = 16 ∧ (chainOf run 3).service ≠ 2 ∧ (chainOf run 3).tunerSearch = none ∧
      (chainOf run 3).tunerWait = none) ∧
    (chainOf (chained seek) 3).tunerSearch = some {} := by
  decide +kernel

/-- RUN with lane 5 assigned to chain 3, its physical lane tuned, and that lane and the chain as given. -/
def tuned (x : PhysSt) (k : ChainSt) : State := { chained k with
  lane := { run.lane with lanes := [(5, { assign := some { chain := 3 } })], phys := [(5, { x with tune := some { chain := 3 } })] } }

theorem test_witness_GainAndRawTransmissions :
    let h := hd 3
    let k : ChainSt := { service := 0, plans := [(0, 0)] }
    let p : RadTxRawP := { powerHdbm := 20, kind := 1, durationUs := 100000, cls := 7, channel := 498 }
    let s := tuned {} k
    (ready h (.radTxRaw { p with powerHdbm := 21 }) (chained k) = true ∧ (chainOf (chained k) 3).service ≠ 2) ∧
    (ready h (.radTxRaw p) (chained k) = true ∧ phyOk p.phyMode = true ∧ (channelCentre k 0 498).isSome = true ∧ k.testHold = false) ∧
    (ready h (.radTxRaw { p with kind := 0, length := 2047 }) (chained { k with service := 1 }) = true) ∧
    ({ run with slot := { run.slot with running := true } } : State).slot.running = true ∧ run.slot.running = false ∧
    (chainLanes s 3 = [5] ∧ (chainOf s 3).agcWide = false ∧ (physOf s (lanePhys s 5)).state = 0 ∧ listens s (lanePhys s 5) = true ∧
      (chainOf s 3).gainIndex ≤ 23 ∧ (6 : Int) < -41 - (chainOf s 3).nbTarget ∧ (6 : Int) < (chainOf s 3).nbTarget - -55 ∧
      ((-54 : Int) - (chainOf s 3).nbTarget).natAbs ≤ 6) ∧
    (3 < (chainOf s 3).clipCount ∧ (chainOf s 3).lastClipNs = none ∧ (∃ at0 ∈ ({ k with lastClipNs := some 0 } : ChainSt).lastClipNs, 2 * s.time.c < at0 + 20000)) := by
  decide +kernel

theorem test_witness_TransmitSteps :
    let coex : State := chained { service := 0, coexMode := 1, txs := [{}] }
    let off (t : TxSeq) : State := { sending t with sys := { run.sys with strap := 8 } }
    let k (t : TxSeq) : ChainSt := chainOf (sending t) 3
    (toWrite (k {}).txs = some {} ∧ (k {}).service = 0) ∧ (chainOf (chained { synthCarrier := some 7 }) 3).synthCarrier.isSome = true ∧
    ((k { phase := 4 }).txs.head? = some { phase := 4 }) ∧
    ((k {}).txs = {} :: [] ∧ ¬ ((k {}).coexMode = 1) ∧ (chainOf coex 3).coexMode = 1 ∧ gateHeld coex = true ∧ (chainOf coex 3).coexLowNs = 0) ∧
    (k { phase := 1, secured := true }).txs = { phase := 1, secured := true } :: [] ∧
    (k { phase := 1 }).txs = { phase := 1 } :: [] ∧
    (gateHeld (off { phase := 2 }) = false ∧ (chainOf (off { phase := 2 }) 3).txs = { phase := 2 } :: []) ∧ gateHeld (sending { phase := 2 }) = true ∧
    ((srcCfgOf run (0x025 + 8 * 3)).enable = true ∧ (srcCfgOf run (0x023 + 8 * 3)).enable = true) ∧
    ((k { phase := 4 }).txLock = false ∧ (chainOf (chained { txLock := true, txs := [{ phase := 4 }] }) 3).txLock = true) := by
  decide +kernel

theorem test_witness_TransmitEnds :
    let long : TxEntry := { tUs := 100, eUs := 200 }
    let coex (ph : Nat) : ChainSt := chainOf (chained { service := 0, coexMode := 1, abortOnRevoke := true, txs := [{ phase := ph }] }) 3
    ((chainOf (sending { phase := 6, entry := long }) 3).txs = { phase := 6, entry := long } :: [] ∧ long.tUs + 100 ≤ long.eUs ∧
      (chainOf (sending {}) 3).couplerSrc = 0) ∧
    ((chainOf (chained { blankUntilNs := some 0 }) 3).blankUntilNs.isSome = true ∧ (chainOf run 3).txEn = false ∧ (chainOf run 3).blankUntilNs = none) ∧
    ((coex 3).coexMode = 1 ∧ (coex 6).abortOnRevoke = true ∧ (coex 6).txs = { phase := 6 } :: [] ∧ (coex 3).txs = { phase := 3 } :: []) ∧
    (srcCfgOf run (0x022 + 8 * 3)).enable = true := by
  decide +kernel

theorem test_witness_SecuringAndAcks :
    let wait (w : AckWait) (n : Nat) : State := { run with
      slot := { run.slot with waits := [(3, w)], acks := [{ buffer := 4, done := true }, { buffer := 5 }] },
      tm := { run.tm with queues := [(0, { frames := [{ id := 1, attempts := n }] })] } }
    let w : AckWait := { entry := { frameId := 1 } }
    let a : AckObs := { imm := true }
    ((chainOf (sending {}) 3).txs = {} :: [] ∧ ({} : TxSeq).keyRef = none ∧ ({} : TxSeq).entry.secLevel = 0) ∧
    (chainOf (sending { phase := 1, secured := true }) 3).txs = { phase := 1, secured := true } :: [] ∧
    (chainOf (sending { entry := { kind := 1 } }) 3).txs = { entry := { kind := 1 } } :: [] ∧
    (tfind (wait w 2).slot.waits 3 = some w ∧ frameOf (wait w 2) w.entry = some { id := 1, attempts := 2 } ∧ 2 < run.slot.maxRetries) ∧
    (frameOf (wait w 3) w.entry = some { id := 1, attempts := 3 } ∧ run.slot.maxRetries ≤ 3) ∧
    (ackValid w a (withSlot (fun b => { b with waits := tdel b.waits 3 }) (wait w 0))).2 = false ∧
    ((wait w 0).slot.acks.find? (fun x => decide (x.buffer = 5)) = some { buffer := 5 } ∧
      (wait w 0).slot.acks.find? (fun x => decide (x.buffer = 4)) = some { buffer := 4, done := true }) := by
  decide +kernel

theorem test_witness_LaneReception :
    let k : ChainSt := { service := 0 }
    let st (n : Nat) : State := tuned { state := n, frame := some {} } k
    let full : State := { st 3 with tm := { run.tm with bufs := [{ cells := 32768 }] } }
    (roleOf (tuned {} k) 5 = 0 ∧ (physOf (tuned {} k) 5).tune = some { chain := 3 } ∧ listens (tuned {} k) 5 = true ∧ listens (tuned {} { k with service := 1 }) 5 = false ∧
      (phyCfgOf (tuned {} k) 5 0).detThreshold ≤ 141 ∧ (phyCfgOf (tuned {} k) 5 0).edFloor ≤ -440 ∧ (physOf (tuned {} k) 5).state = 0) ∧
    ((physOf (st 3) 5).frame = some {} ∧ (physOf (st 3) 5).state = 3 ∧ spawnOf (st 3) 5 = none ∧ (23 : Int) < 0 + (laneOf (st 3) 5).captureMargin) ∧
    ((physOf (st 1) 5).state = 1 ∧ roleOf (st 1) 5 ≠ 2) ∧
    ((physOf (st 2) 5).state = 2 ∧ headerBad ({} : RxFrame).cfg 0 { hcsOk := false } = true ∧ headerBad ({} : RxFrame).cfg 0 { length := 2047 } = false) ∧
    ((st 3).fwall.frozen.contains (28 + 3) = false ∧ cellsFor (0 + 1) ≤ freeCells (st 3) + 0 ∧ freeCells full + 0 < cellsFor (0 + 1)) := by
  decide +kernel

/-- RUN with physical lane 5 tuned to an OFDM mode 12 and in the given state. -/
def rateLane (n : Nat) : State := { run with lane := { run.lane with phys := [(5, { state := n, frame := some {}, tune := some { phy := 12 } })] } }

theorem test_witness_LaneReceptionRateMode :
    (physOf (rateLane 2) 5).state = 2 ∧ headerBad ({} : RxFrame).cfg 12 { length := 20, mapSrc := 1, link := 65535 } = false ∧
    zaoMap (rateLane 2) { length := 20, mapSrc := 1, link := 65535 } = none := by
  decide +kernel

theorem test_witness_LaneCommands :
    let k : ChainSt := { service := 0, rxLock := true, centre := 4400, plans := [(0, 0)] }
    let s : State := chained k
    let out : State := { run with lane := { run.lane with lanes := [(95, { outOfService := true })] } }
    let busy : State := { s with lane := { run.lane with phys := [(95, { state := 3, frame := some {} })] } }
    let twin : State := { s with lane := { run.lane with lanes := [(4, { assign := some { chain := 3, channel := 149 } })] } }
    let a : LaneAssignP := { chain := 3, channel := 149 }
    let h := hd 95
    (ready h (.laneAssign { chain := 0xFF }) out = true ∧ laneOut out 95 = true ∧ laneOut run 95 = false) ∧
    (ready h (.laneAssign { chain := 4 }) run = true ∧ ready h (.laneAssign a) run = true ∧ assignRefusal 95 a run ≠ stOk) ∧
    ((chainOf twin 3).centre ≠ 0 ∧ channelCentre (chainOf twin 3) 0 149 = some (4101 + 149 * 2) ∧ inWindow (chainOf twin 3) 0 (4101 + 149 * 2) = true ∧
      fixedTwin twin 95 (4101 + 149 * 2) 0 = true) ∧
    (ready h (.laneAssign a) s = true ∧ assignRefusal 95 a s = stOk ∧ laneBusy s 95 = false) ∧
    (ready h (.laneAssign a) busy = true ∧ laneBusy busy 95 = true) ∧
    (phyCfgOk { detThreshold := 243, edFloor := -320, maxPreambleUs := 100, maxPsdu := 16, rateMask := 1, mcsMask := 1 } = true ∧ phyCfgOk {} = false ∧
      ready h (.lanePhyCfg {}) run = true ∧ (laneOf out 95).outOfService = true) ∧
    ((List.range 3).all (fun op => ready h (.laneCaptureCfg { op := op, trigger := 3, comparator := 15, preUs := 1000, samples := 65536 }) run) = true ∧
      ready h (.laneCaptureCfg { captureMargin := 80, spawnEnable := 1 }) run = true ∧ (laneOf run 95).snapshot = none) ∧
    (List.range 3).all (fun n => ready h (.laneStatus { clear := n }) run) = true ∧
    (ready h (.laneFlush {}) run = true ∧ (physOf run (lanePhys run 95)).frame = none ∧ spawnOf run 95 = none) ∧
    (ready h (.laneFlush {}) busy = true ∧ (physOf busy (lanePhys busy 95)).frame.isSome = true) ∧
    (ready {} (.laneBitload { margin := 48, thr := [0, 1, 2, 255], minChange := 96, ratePolicy := 3, nullPeriod := 3 }) run = true ∧
      ready {} (.laneBitload { op := 2 }) run = true ∧ ready {} (.laneBitload { op := 1 }) run = true ∧ [0, 1, 2, 255].Pairwise (· < ·)) := by
  decide +kernel

theorem test_witness_LaneEvents :
    let s (l : LaneSt) : State := { run with lane := { run.lane with lanes := [(95, l)] } }
    let none_ : State := { run with lane := { run.lane with phys := (List.range 8).map (fun i => (96 + i, { role := some 3 })) } }
    ((laneOf (s { entry := some {} }) 95).entry.isSome = true ∧ (laneOf (s { entry := some {} }) 95).entryNext = none) ∧
    (laneOf run 95).entry = none ∧ (laneOf (s { window := true }) 95).window = true ∧
    (laneBusy { run with lane := { run.lane with phys := [(95, { state := 3, frame := some {} })] } } 95 = true) ∧
    (laneBusy (s { deferred := some none }) 95 = false ∧ (laneOf (s { deferred := some none }) 95).deferred = some none) ∧
    roleOf run 103 ≠ 3 ∧
    ((laneOf (s { moveDue := true }) 95).moveDue = true ∧ (freeSpare (s { moveDue := true })).isSome = true) ∧ freeSpare none_ = none ∧
    (laneOf (s { snapshot := some { running := true } }) 95).snapshot = some { running := true } := by
  decide +kernel

/-- RUN with the TIME block as given. -/
def timed (b : TimeSt) : State := { run with time := b }

theorem test_witness_RateRange :
    (ready (hd 1) (.timeRate { rate := 1759218604 }) run = true ∧ (domOf run.time 1).src = 0) ∧ ready (hd 1) (.timeRate { rate := -1759218605 }) run = true := by
  decide +kernel

theorem test_witness_TimeSteering :
    let sel1 : TimeSelectP := { domain := 1, stepThresholdNs := 1000, slewPpm := 50 }
    let on : State := { run with slot := { run.slot with running := true } }
    ((List.range 4).all (fun n => ready (hd 1) (.timeStep { markTracked := n }) run) = true ∧ (domOf run.time 1).src = 0) ∧
    (ready {} (.timeStep {}) (timed { domA := { src := 3 } }) = true ∧ (domOf (timed { domA := { src := 3 } }).time 0).src ≠ 0) ∧
    (ready {} (.timeStep {}) (timed { domA := { tracked := true } }) = true ∧ (timed {}).time.sel = 0) ∧
    (ready (hd 2) (.timeSelect {}) run = true ∧ ready (hd 2) (.timeSelect sel1) run = true ∧ ready (hd 2) (.timeSelect { sel1 with force := 1 }) on = true ∧
      ready (hd 2) (.timeSelect { sel1 with domain := 0 }) run = true) ∧
    (ready (hd 2) (.timeSelect sel1) (timed { domA := { tracked := true } }) = true ∧ ready (hd 2) (.timeSelect sel1) (timed { domB := { tracked := true } }) = true) ∧
    (List.range 3).all (fun n => ready (hd n) (.timeStatus {}) run) = true ∧
    ((timed { slewing := true }).time.slewing = true ∧ residual (timed { slewing := true }).time = 0 ∧ residual (timed { slewing := true, e0 := 65536 }).time ≠ 0) ∧
    (domAt (selDom run.time) run.time.c = 0 ∧ (timed { holding := true, holdS := 1 }).time.holdS = 1) := by
  decide +kernel

theorem test_witness_ComparatorsAndCaptures :
    let cap (c : CapSt) : State := timed { caps := [(3, c)] }
    let p : TimeTriggerP := { targetNs := 10, pulseNs := 1000 }
    ((List.range 3).all (fun n => ready (hd 0x10B) (.timeTrigger { p with op := n }) run) = true ∧ ready (hd 0x10F) (.timeTrigger p) run = true) ∧
    (triggerOk { p with ref := 4 } = false ∧ triggerOk p = true ∧ refTracked run 0 = true ∧ refTracked run 2 = false ∧ p.actions.testBit 1 = false ∧
      refNs run 0 < 10 ∧ (0 : Int) ≤ refNs run 0) ∧ triggerOk { p with ref := 2 } = true ∧ triggerOk { p with targetNs := 0 } = true ∧
    (ready (hd 2) (.timeCaptureCfg { input := 4, edge := 3, clear := 1 }) run = true ∧ ready (hd 2) (.timeCaptureCfg { input := 5 }) run = true) ∧
    ((tget {} (cap { edgeSel := 2 }).time.caps 3).edgeSel.testBit 0 = false ∧ (tget {} (cap { edgeSel := 2 }).time.caps 3).edgeSel.testBit 1 = true ∧
      (tget {} (cap {}).time.caps 3).queue = []) ∧
    (16 ≤ (tget {} (cap { edgeSel := 3, queue := List.replicate 16 {} }).time.caps 3).queue.length ∧
      (tget {} (cap { queue := List.replicate 15 {} }).time.caps 3).queue.length < 16) := by
  decide +kernel

theorem test_witness_PtpFollowers :
    let tc : State := timed { ptp := [(0, { enable := true, tcEnable := true, transports := 4 }), (4, { tcEnable := true, enable := true })], transit := [{ id := 9, inPort := 0 }] }
    let d (x : DomSt) : State := timed { domB := x }
    (ready (hd 0x204) (.timePtpPortCfg { enable := 1, tcEnable := 1, transports := 7 }) run = true ∧ ready (hd 0x204) (.timePtpPortCfg { transports := 8 }) run = true) ∧
    (ready (hd 1) (.timeDomainCfg { src := 3, port := 4, announceTimeout := 10 }) run = true ∧ ready (hd 1) (.timeDomainCfg {}) run = true) ∧
    (ready {} (.timeDomainCfg { src := 1, port := 4, announceTimeout := 2 }) (d { src := 1, port := 4 }) = true ∧
      (domOf (d { src := 1, port := 4 }).time (1 - 0)).port = 4) ∧
    ((ptpOf run 0).enable = false ∧ (ptpOf tc 0).enable = true ∧ (ptpOf tc 0).transports.testBit 1 = false ∧ (ptpOf tc 0).transports.testBit 2 = true) ∧
    (tc.time.transit.find? (fun y => decide (y.id = 9)) = some { id := 9, inPort := 0 } ∧ gated tc = false ∧ (ptpOf tc 4).tcEnable = true ∧ (ptpOf tc 1).tcEnable = false) ∧
    ((domOf run.time 1).src = 0 ∧ (domOf (d { src := 3, good := 15 }).time 1).src = 3 ∧ (domOf (d { src := 3, good := 15 }).time 1).good = 15 ∧
      (domOf (d { src := 3 }).time 1).locked = false ∧ (1000 : Int).natAbs ≤ (domOf run.time 1).stepLimit ∧ (domOf run.time 1).stepLimit < (-1001 : Int).natAbs ∧
      (-100 : Int).natAbs ≤ (domOf run.time 1).lockNs) ∧
    (domOf (d { src := 1 }).time 1).src = 1 := by
  decide +kernel

/-- RUN with the SLOT block as given. -/
def slotted (b : SlotSt) : State := { run with slot := b }

theorem test_witness_SlotCommands :
    let h := hd 0x107
    let hp : Hdr := { flow := 0x107, flags := 4 }
    let sf (x : SfSt) (on : Bool) : State := slotted { sfs := [(7, x)], running := on, asn := 100 }
    let cfg : SlotCfgP := { slotLenUs := 10000, maxRetries := 3, minBe := 1, maxBe := 7, preBytes := 8, dupWindowMs := 1000, txReportRing := 255 }
    let start : SlotCfgP := { op := 1, asnStart := 2 ^ 40 - 1, startTimeNs := 20000000 }
    let ref3 (b : SlotSt) : State := { slotted b with time := { domA := { tracked := true } } }
    let list : SlotListLoadP := { op := 1, cells := [{ tx := true, classMask := 1, slotframe := 7 }] }
    let ready9 : SfSt := { stagedReady := true, staged := some [{}], stagedLen := 9 }
    let u := firstUnbuilt (sf {} true)
    let tx : SlotTxP := { data := List.replicate 9 0, cls := 7, queue := 1, neighbour := 0x7FFF, ackReq := 1 }
    let air : State := { slotted { running := true } with tm := { run.tm with queues := [(1, { port := 6 })] } }
    (ready {} (.slotCfg { op := 3 }) run = true ∧ ready h (.slotCfg {}) run = true ∧ tmplOk run { txOffset := 10001 } = false ∧ tmplOk run {} = true ∧ hflag h 2 = false) ∧
    (ready hp (.slotCfg { hopLen := 256, channels := List.replicate 256 65535 }) run = true ∧ hflag hp 2 = true) ∧
    (ready {} (.slotCfg {}) run = true ∧ slotSetOk {} {} = false ∧ slotSetOk {} cfg = true ∧ ready {} (.slotCfg { cfg with slotLenUs := 5000 }) (slotted { running := true }) = true ∧
      slotSetOk {} { cfg with slotLenUs := 5000 } = true) ∧
    (ready {} (.slotCfg start) run = true ∧ refTracked run 3 = false) ∧
    (ready {} (.slotCfg start) (ref3 {}) = true ∧ refTracked (ref3 {}) 3 = true ∧ selNs (ref3 {}) + 2000 * 10000 ≤ 20000000 ∧ 19999999 < selNs (ref3 {}) + 2000 * 10000 ∧
      refTracked (ref3 { running := true }) 3 = true) ∧
    (ready {} (.slotCfg { op := 2 }) run = true ∧ ready {} (.slotCfg { op := 2 }) (slotted { running := true }) = true) ∧
    ((List.range 4).all (fun n => ready h (.slotListLoad { op := n, sfLen := 65535 }) run) = true ∧ (sfOf run 7).pendAsn = none ∧
      (sfOf (sf { pendAsn := some 1 } false) 7).pendAsn.isSome = true) ∧
    ((sfOf (sf { staging := true, stagedLen := 1 } false) 7).staging = true ∧ firstBad 7 1 0 0 list.cells = none ∧ firstBad 7 0 0 0 list.cells = some 0 ∧
      stagedTotal (sf { staging := true, stagedLen := 1 } false) + 1 ≤ 1048576) ∧
    (ready h (.slotListActivate { op := 3 }) run = true ∧ ready h (.slotListActivate { asn := 2 ^ 40 - 1 }) (sf ready9 false) = true ∧
      activeOthers (sf ready9 false) 7 + 1 ≤ 1048576) ∧
    (asnBehind u u = false ∧ asnBehind (u - 1) u = true ∧ asnBehind (u - 9) u = true ∧ (u + 2 ^ 40 - (u - 9)) % 2 ^ 40 = 9 ∧ (u + 2 ^ 40 - (u - 8)) % 2 ^ 40 < 9 ∧
      asnBehind (u - 8) u = true) ∧
    (ready h (.slotListActivate { op := 2 }) run = true ∧ asnBehind 1 (firstUnbuilt (sf { pendAsn := some 1 } true)) = true) ∧
    (ready {} (.slotStatus {}) run = true ∧ ready {} (.slotStatus { op := 1, clear := 1, bufferAddr := 64 }) run = true) ∧
    (ready {} (.slotTx { tx with neighbour := 0x8000 }) air = true ∧ ready {} (.slotTx tx) air = true ∧ isAirQueue air 1 = true ∧
      cellsFor 9 + air.tm.reserve ≤ freeCells air ∧ queueBytes (queueOf air 1) + 9 ≤ (queueOf air 1).maxBytes ∧
      (queueOf air 1).frames.length < (queueOf air 1).maxFrames ∧ 0 < (queueOf air 1).nbCap) ∧
    (({ air with slot := {} } : State).slot.running = false ∧ isAirQueue { air with slot := {} } 1 = true) := by
  decide +kernel

theorem test_witness_SlotBoundariesAndSuperframes :
    let k : ChainSt := { service := 0, centre := 4400, plans := [(0, 0)], rxLock := true }
    let base : SlotSt := { slotLenUs := 65535 }
    let s (b : SlotSt) (k : ChainSt) : State := { slotted b with rfc := { run.rfc with chains := [(3, k)] } }
    let p : SlotSuperframeCfgP := { op := 1, chain := 3, channel := 149, ackTurnaroundUs := 1000 }
    let h := hd 0x207
    let twin : SlotSt := { base with supers := [(6, { enabled := true, chain := 3, channel := 149 })] }
    run.slot.running = false ∧ ((slotted { running := true }).slot.stopPending = false ∧ (slotted { running := true, stopPending := true }).slot.stopPending = true) ∧
    (ready h (.slotSuperframeCfg {}) run = true ∧ ready h (.slotSuperframeCfg { op := 2 }) run = true ∧ ready h (.slotSuperframeCfg { op := 1, chain := 4 }) run = true) ∧
    (ready h (.slotSuperframeCfg p) (s base { k with service := 2 }) = true ∧ ready h (.slotSuperframeCfg p) run = true ∧ superOk run p = false) ∧
    (ready h (.slotSuperframeCfg p) (s base k) = true ∧ superOk (s base k) p = true ∧ superTwin (s base k) 7 (4101 + 149 * 2) = false) ∧
    (superOk (s twin k) p = true ∧ superTwin (s twin k) 7 ((channelCentre (chainOf (s twin k) 3) 0 149).getD 0) = true) ∧
    (superOf (slotted { running := true, supers := [(7, { enabled := true })] }) 7).enabled = true ∧ (superOf run 7).enabled = false := by
  decide +kernel

theorem test_witness_FrontAndFollower :
    let front (b : SlotSt) : State := slotted { b with running := true, frontSrc := 1, frontEdge := 2, startNs := 0, boundaryNs := 0 }
    let p : SlotFrontCfgP := { src := 1, edge := 2, periodSlots := 65535, anchorAsn := 2 ^ 40 - 1, windowUs := 5000, maxShiftUs := 97, lossCount := 255 }
    let pps : State := timed { domB := { src := 2 } }
    (ready {} (.slotFrontCfg { p with src := 3 }) run = true ∧ ready {} (.slotFrontCfg p) (slotted { follower := true }) = true) ∧
    (ready {} (.slotFrontCfg p) run = true ∧ p.maxShiftUs + 3 ≤ leastGuard run ∧ ¬ (98 + 3 ≤ leastGuard run) ∧ 2 * p.windowUs < p.periodSlots * run.slot.slotLenUs ∧
      ready {} (.slotFrontCfg { p with src := 2, port := 3 }) run = true) ∧
    (ready {} (.slotFrontCfg {}) (slotted { frontP := 5 }) = true ∧ ready {} (.slotFrontCfg {}) run = true) ∧
    (edgeError (front {})).natAbs ≤ 1000 * (front {}).slot.frontWindow ∧
    1000 * (front { frontOffset := 501000 }).slot.frontWindow < (edgeError (front { frontOffset := 501000 })).natAbs ∧
    ((front {}).slot.frontBad + 1 < (front {}).slot.frontLossCount ∧ (front { frontBad := 3 }).slot.frontLossCount ≤ 3 + 1 ∧ (srcCfgOf run 0x092).enable = true) ∧
    (ready {} (.slotFollowCfg {}) run = true ∧ ready {} (.slotFollowCfg { enable := 1, ebPeriodSlots := 1, timeSource := 0x7FFF }) run = true ∧
      ready {} (.slotFollowCfg { enable := 1, ebPeriodSlots := 65535, driftPpb := 20000, maxExtraGuardUs := 2000 }) pps = true ∧ pps.time.domB.src = 2 ∧
      ready {} (.slotFollowCfg { ebPeriodSlots := 1 }) run = true) ∧
    ((slotted { running := true, follower := true, misses := 2 }).slot.misses = 2 ∧ (slotted { holdover := true }).slot.guardLimit = false) := by
  decide +kernel

/-- RUN with the traffic manager as given. -/
def trafficked (b : TmSt) : State := { run with tm := b }

theorem test_witness_BudgetAndTrafficCommands :
    let one : SubBand := { fLow := 1, fHigh := 2, chainPpm := 1000000, aggPpm := 1000000 }
    let ok : List SubBand := [one, { one with fLow := 2, fHigh := 3 }]
    let region : BudgRegionLoadP := { windowS := 7200, warnPct := 100, entries := ok }
    let used : State := { run with budg := { run.budg with bands := [{ fLow := 1, fHigh := 2 }], debits := [{ us := 5 }] } }
    let q : TmQueueCfgP := { port := 7, cls := 7, ring := 31, quantum := 64, maxBytes := 8388608, maxFrames := 32768, yellowPct := 100, shaper := 2047, nbCap := 1 }
    let m : TmMeterCfgP := { mode := 2, colourAware := 1, redAction := 1, cirKbps := 40000000, cbs := 16777216, pbsEbs := 64 }
    let ring4 : State := { run with lnk := { run.lnk with ports := [(2, { role := 1 })] } }
    let map64 := List.replicate 64 2
    (ready {} (.budgRegionLoad region) used = true ∧ ok.Pairwise (fun e f => e.fHigh ≤ f.fLow ∨ f.fHigh ≤ e.fLow) ∧ ready {} (.budgRegionLoad {}) run = true ∧
      (nth {} ok 0).fLow = (nth {} used.budg.bands 0).fLow ∧ (nth {} ok 0).fHigh = (nth {} used.budg.bands 0).fHigh) ∧
    (ready {} (.budgStatus { subband := 31, clear := 1 }) run = true ∧ ready {} (.budgStatus { subband := 32 }) run = true) ∧
    (ready (hd 4095) (.tmQueueCfg {}) run = true ∧ queueCfgOk {} run = false ∧ queueCfgOk q run = true ∧ ready (hd 4095) (.tmQueueCfg q) run = true ∧
      ready {} (.tmQueueCfg q) run = true ∧ run.tm.unknownQueue = 0 ∧ (queueOf run 4095).frames = [] ∧ (portOf ring4 2).role = 1) ∧
    (queueOf (trafficked { queues := [(4095, { frames := [{}] })] }) 4095).frames ≠ [] ∧
    (ready (hd 0x1000) (.tmMeterCfg m) run = true ∧ meterCfgOk m = true ∧ meterCfgOk { m with mode := 1 } = false) ∧
    (ready (hd 0x3000) (.tmShaperCfg { rate10bps := 4000000000, burst := 16777216, tokenOnChange := 1 }) run = true ∧
      ready (hd 0x3000) (.tmShaperCfg {}) run = true ∧ queuesOfShaper run 0 = []) ∧
    ((List.range 6).all (fun n => ready (hd 0x3800) (.tmClassMap { op := n, index := 15, map := map64, cls := 7, enable := 1, reserveCells := 8192 }) run) = true ∧
      profileOk 0x1FF8 = true ∧ profileOk 0x1FF9 = false ∧ map64.length = 64 ∧ (∀ x ∈ map64, x ≤ 2) ∧ (queueOf run 0).port = 5) ∧
    ((List.range 3).all (fun n => ready (hd 4095) (.tmStats { clear := n }) run) = true ∧ ready (hd 0x2FFF) (.tmStats { clear := 1 }) run = true ∧
      ready (hd 0x3000) (.tmStats { clear := 1 }) run = true) := by
  decide +kernel

theorem test_witness_TrafficManagerFlow :
    let f : QFrame := { data := [1] }
    let inn (b : TmSt) : State := trafficked { b with arriving := [(4095, f)] }
    let full : TmSt := { queues := [(0, { maxFrames := 0 })] }
    let ready0 : State := trafficked { queues := [(9, { port := 7, cls := 0, frames := [f] })] }
    let fine (l : ShaperSt) : State := trafficked { shapers := [(2047, l)], finePos := 4095, coarsePos := 4095 }
    run.tm.arriving = [] ∧
    ((inn {}).tm.arriving = (4095, f) :: [] ∧ f.frame.unknown = false ∧ bit (tget 0 (inn {}).tm.profiles 4095) 17 = false ∧
      (inn {}).tm.reserve ≤ freeCells (inn {}) ∧ queueBytes (queueOf (inn {}) 0) + 1 ≤ (queueOf (inn {}) 0).maxBytes ∧
      (queueOf (inn {}) 0).frames.length < (queueOf (inn {}) 0).maxFrames ∧ (queueOf (inn {}) 0).port ≠ 6) ∧
    ((queueOf (inn full) 0).port ≠ 6 ∧ (queueOf (inn full) 0).maxFrames ≤ (queueOf (inn full) 0).frames.length) ∧
    ((9, queueOf ready0 9) ∈ ready0.tm.queues ∧ (queueOf ready0 9).cls = 0 ∧ (queueOf ready0 9).frames.head? = some f ∧ (queueOf ready0 9).shaper = 0xFFFF) ∧
    ((∀ e ∈ run.tm.shapers, e.2.wheel.isSome = true → e.2.coarse = false → e.2.bucket ≠ (run.tm.finePos + 1) % 4096) ∧
      ((fine { wheel := some 0 }).tm.finePos + 1) % 4096 = 0 ∧ 1000 * 0 ≤ 2 * (fine { wheel := some 0 }).time.c ∧ queuesOfShaper (fine { wheel := some 0 }) 2047 = []) ∧
    ((fine { wheel := some 4095, coarse := true }).tm.shapers = [(2047, { wheel := some 4095, coarse := true })] ∧ 4095 < 2 * run.time.c / 1000 + 4096) := by
  decide +kernel

theorem test_witness_DataRingsAndPorts :
    let th (x : DataRing) : State := { run with pcie := { run.pcie with up := true, th := [(31, x)], reports := [(31, { data := [1] })] } }
    let fh : State := { run with pcie := { run.pcie with up := true, fh := [(31, { enable := true, tail := 1 })] } }
    let nine := List.replicate 9 (0 : Byte)
    let eth : State := { trafficked { queues := [(3, { port := 1, cls := 0, frames := [{ data := nine }] })] } with eth := [(1, { mode := 1, link := true })] }
    let fw : State := trafficked { queues := [(3, { port := 7, cls := 0, frames := [{ data := nine }] })] }
    (pfFrozen run 0 = false ∧ 2 ^ (thOf run 31).log2 ≤ 64 % 4096 ∧ 63 % 4096 < 2 ^ (thOf run 31).log2 ∧ 2 ^ (fhOf run 31).log2 ≤ 4095 % 4096 ∧
      4096 % 4096 < 2 ^ (fhOf run 31).log2) ∧
    ((thOf (th { enable := true }) 31).enable = true ∧ dmaFrozen (th {}) 31 = false ∧ (th {}).pcie.reports = (31, { data := [1] }) :: [] ∧
      ringPosted (thOf (th { enable := true }) 31) = 0 ∧ 1 ≤ ringPosted (thOf (th { enable := true, tail := 0, head := 63 }) 31)) ∧
    ((th {}).pcie.noBufSec ≠ some (rawSec (th {})) ∧ ([1] : List Byte).length ≤ ({ len := 1 } : HostBuf).len) ∧
    ((fhOf fh 31).enable = true ∧ dmaFrozen fh 31 = false ∧ ringPosted (fhOf fh 31) ≠ 0 ∧ fhBad fh { frame := nine, queue := 4095, cls := 7 } = false ∧
      fhBad fh { frame := nine.drop 1 } = true ∧ cellsFor 9 + fh.tm.reserve ≤ freeCells fh ∧ queueBytes (queueOf fh 4095) + 9 ≤ (queueOf fh 4095).maxBytes ∧
      (queueOf fh 4095).frames.length < (queueOf fh 4095).maxFrames ∧ (queueOf fh 4095).port ≠ 6) ∧
    (fw.upd.fw.intakePort = 0 ∧ (nextFrame 7 (fun _ => false) fw).2 = some (3, { data := nine })) ∧
    ((ethOf eth 1).mode ≠ 0 ∧ (ethOf eth 1).link = true ∧ (ethOf eth 1).held = false ∧ gated eth = false ∧ tfind eth.tm.pauseNs 1 = none ∧
      (ethOf eth 1).macsec = false ∧ (nextFrame 1 (fun _ => false) eth).2 = some (3, { data := nine })) := by
  decide +kernel

/-- RUN with the tables as given. -/
def tabled (b : TblSt) : State := { run with tbl := b }

theorem test_witness_NodeAndPrefixTables :
    let node : NodeE := { kind := 1, addr := 5, panId := 3 }
    let w := nth 0 (waysOf run 3 5) 0
    let held (e : NodeE) : State := tabled { nodes := [(w, e)] }
    let key : TblNodeInsertP := { kind := 1, addr := 5, panId := 3, nextHop := 0x7FFF }
    let pfx : TblPrefixAddP := { pfx := 2 ^ 63, plen := 1, action := 3, port := 7 }
    let have1 : State := tabled { prefixes := [{ pfx := 2 ^ 63, plen := 1 }] }
    (ready {} (.tblNodeInsert key) run = true ∧ keyOk 1 3 5 = true ∧ keyOk 1 0xFFFF 5 = false ∧ findNode run 1 3 5 = none ∧
      (waysOf run 3 5).find? (fun w => (tfind run.tbl.nodes w).isNone) = some w) ∧
    (ready {} (.tblNodeInsert key) (held node) = true ∧ findNode (held node) 1 3 5 = some (w, node) ∧ ({ key with flags := 8 }).flags.testBit 3 = true ∧
      ready {} (.tblNodeInsert { key with flags := 8 }) (held node) = true ∧ ready {} (.tblNodeInsert { key with flags := 16 }) run = true) ∧
    (ready {} (.tblNodeDelete { kind := 1, addr := 5, panId := 3, force := 1 }) (held { node with static := true }) = true ∧
      findNode (held { node with static := true }) 1 3 5 = some (w, { node with static := true }) ∧ ready {} (.tblNodeDelete { force := 2 }) run = true) ∧
    (ready (hd 1) (.tblPrefixAdd pfx) run = true ∧ lead pfx.pfx pfx.plen = pfx.pfx ∧ ready (hd 1) (.tblPrefixAdd { pfx with plen := 65 }) run = true ∧
      ready (hd 1) (.tblPrefixAdd { pfx with replace := 1 }) have1 = true ∧
      have1.tbl.prefixes.find? (fun q => decide (q.pfx = 2 ^ 63) && decide (q.plen = 1)) = some { pfx := 2 ^ 63, plen := 1 }) ∧
    (ready (hd 1) (.tblPrefixDel { plen := 65 }) run = true ∧ ready (hd 1) (.tblPrefixDel { plen := 64 }) run = true ∧
      have1.tbl.prefixes.filter (fun q => !(decide (q.pfx = 2 ^ 63) && decide (q.plen = 1))) ≠ have1.tbl.prefixes) ∧
    (ready {} (.tblLookup { kind := 1, panId := 3, addr := 5, setHit := 1 }) run = true ∧ ready {} (.tblLookup { setHit := 2 }) run = true ∧
      ready {} (.tblLookup { kind := 1, panId := 3, addr := 5 }) (held node) = true ∧ ready (hd 1) (.tblLookup {}) run = true ∧ longest run 0 = none ∧
      ready (hd 0x8000) (.tblLookup {}) run = true ∧ (nbrOf run 0).valid = false) ∧
    (ready (hd 2) (.tblStatus { clear := 1, bufferAddr := 8 }) run = true ∧ ready (hd 2) (.tblStatus { clear := 2 }) run = true) ∧
    (ready (hd 2) (.tblAgingCfg { table := 1, periodS := 86400 }) run = true ∧ ready (hd 2) (.tblAgingCfg { periodS := 59 }) run = true) ∧
    (ready (hd 2) (.tblEvictPolicy { policy := 2, maxKicks := 1024 }) run = true ∧ ready (hd 2) (.tblEvictPolicy {}) run = true) ∧
    (ready (hd 2) (.tblCfg {}) run = true ∧ tblCfgOk {} = false ∧ tblCfgOk { nearPct := 100, learnLog2 := 16, windowMs := 100, holdoffMs := 60000, unknownRing := 255 } = true ∧
      (tabled { learnEnable := true }).tbl.learnEnable = true) := by
  decide +kernel

/-- The clauses of NodeAndPrefixTables that speak of the prefix pools. -/
theorem test_witness_NodeAndPrefixTablesPools :
    (∀ r, (poolUse (run.tbl.prefixes ++ [{ pfx := 0, plen := 1, result := r }])).all (fun n => decide (n ≤ 896)) = true) ∧
    65536 ≤ (tabled { prefixes := List.replicate 65536 {} }).tbl.prefixes.length :=
  ⟨fun _ => by rfl, by rw [show (tabled { prefixes := List.replicate 65536 {} }).tbl.prefixes = List.replicate 65536 {} from rfl, List.length_replicate]⟩

theorem test_witness_NeighboursLearningAging :
    let h := hd 0xFFFF
    let n := 0x7FFF
    let nb (e : NbrE) (k : Nat) : State := { tabled { nbrs := [(n, e)] } with sec := { run.sec with slots := [(0xFFF, { state := k })] } }
    let p : TblNeighbourSetP := { keySlot := 0xFFF, eui64 := 9, flags := 32 }
    let taken : State := tabled { nbrs := [(1, { valid := true, eui64 := 9 })] }
    let pins : State := { tabled { nbrs := [(2047, { valid := true, pin := true }), (4095, { valid := true, pin := true })] } with
      sec := { run.sec with slots := [(0xFFF, { state := 1 })] } }
    let lock (l : LearnLock) (b : TblSt) : State := tabled { b with locks := [l] }
    let aged (e : NodeE) : State := tabled { nodes := [(524287, e)], ageNode := 60 }
    (ready h (.tblNeighbourSet { flags := 64 }) run = true ∧ ready h (.tblNeighbourSet p) (nb { valid := true } 1) = true ∧ (nbrOf (nb { valid := true } 1) n).valid = true ∧
      p.flags.testBit 4 = false) ∧
    (ready h (.tblNeighbourSet p) taken = true ∧ nbrTaken taken n 9 0 0 = true) ∧
    (ready h (.tblNeighbourSet p) run = true ∧ nbrTaken run n 9 0 0 = false ∧ (slotOf run 0xFFF).state = 0) ∧
    (ready h (.tblNeighbourSet { p with flags := 2 }) pins = true ∧ pinRoom pins n = false ∧ (slotOf pins 0xFFF).state = 1 ∧ nbrTaken pins n 9 1 0 = false) ∧
    (pinRoom (nb { valid := true, keySlot := 0xFFF } 1) n = true ∧ ready h (.tblNeighbourSet { p with flags := 16 }) (nb { valid := true, keySlot := 0xFFF } 1) = true ∧
      (slotOf (nb {} 1) 0xFFF).state ≠ 0) ∧
    (ready h (.tblNeighbourSet { p with op := 1 }) run = true) ∧
    (run.tbl.locks = [] ∧ isLock 0 0 0 ({} : LearnLock) = true ∧ (lock {} {}).tbl.locks = [{}] ∧ learnFull (lock {} { learnEnable := true }) = false ∧
      learnFull (lock {} { learnEnable := true, learnTail := 63 }) = true) ∧
    (pfFrozen run 0 = false ∧ 65599 % 65536 < 2 ^ run.tbl.learnLog2 ∧ 2 ^ run.tbl.learnLog2 ≤ 64 % 65536) ∧
    (tfind (aged { mark := true }).tbl.nodes 524287 = some { mark := true } ∧ (aged {}).tbl.ageNode ≠ 0) ∧
    (run.lane.fabric.find? (fun x => decide (x.1 = 5)) = none ∧
      ({ run with lane := { run.lane with fabric := [(5, 1, {})] } } : State).lane.fabric.find? (fun x => decide (x.1 = 5)) = some (5, 1, {})) := by
  decide +kernel

theorem test_witness_KeyStore :
    let n := 4095
    let key16 : List Byte := List.replicate 16 0
    let one (k : KeySlotSt) : State := keyed [(n, k)]
    let imp : KeyImportP := { key := key16, store := 0xFFFFFFFF, replace := 1 }
    let held : KeySlotSt := { state := 1, retiring := some (1, {}), oldRefs := 1 }
    let par : Tbl KeySlotSt := [(16, { state := 1, mat := { ktype := 1, engines := 16 } })]
    let staged (v : Bool) : KeySlotSt := { state := 1, staged := some { verified := v } }
    (ready (hd n) (.keyImport { imp with src := 3 }) run = true ∧ ready (hd 15) (.keyImport imp) run = true ∧ hostSlot 15 = false ∧ hostSlot n = true) ∧
    (ready (hd n) (.keyImport { imp with replace := 0 }) (one { state := 1 }) = true) ∧
    (ready (hd n) (.keyImport imp) { run with sec := { run.sec with plainLocked := true } } = true ∧ ready (hd n) (.keyImport imp) (one { state := 3 }) = true ∧
      key16.length = keyLen 0 ∧ slotTakes n {} = true ∧ (slotOf (one { state := 3 }) n).retiring = none) ∧
    (imp.attr.usageStart < imp.attr.usageLimit ∧ imp.attr.warnMargin < imp.attr.usageLimit ∧ recordOf run 262143 = zeros 64) ∧
    (ready (hd n) (.keyImport { imp with src := 1, record := 262143 }) run = true) ∧
    (ready (hd n) (.keyDerive { parent := 16, store := 0xFFFFFFFF, label := [1] }) (keyed par) = true ∧ (slotOf (keyed par) 16).mat.engines.testBit 4 = true ∧
      (slotOf (keyed par) 16).mat.depth ≠ 3 ∧ (slotOf (keyed par) 16).mat.usageCount < (slotOf (keyed par) 16).mat.usageLimit ∧
      (slotOf run 16).mat.engines.testBit 4 = false ∧ ready (hd n) (.keyDerive { parent := 16, store := 0xFFFFFFFF }) run = true) ∧
    (ready (hd n) (.keyStage { src := 4 }) run = true ∧ ready (hd n) (.keyStage { store := 0xFFFFFFFF, rxOverlapMs := 60000 }) (one (staged true)) = true ∧
      ready (hd n) (.keyStage { store := 0xFFFFFFFF, key := key16 }) (one { state := 1 }) = true ∧ stagedCount (one { state := 1 }) < 512 ∧
      ready (hd n) (.keyStage { store := 0xFFFFFFFF }) run = true ∧ ready (hd n) (.keyStage { store := 0xFFFFFFFF, replace := 1, kcvPresent := 1 }) (one (staged true)) = true ∧
      512 ≤ stagedCount (keyed ((List.range 512).map (fun i => (16 + i, { state := 1, staged := some {} }))))) ∧
    (ready (hd n) (.keyCommit {}) run = true ∧ ready (hd n) (.keyCommit {}) (one (staged false)) = true ∧ (slotOf (one (staged true)) n).staged = some { verified := true } ∧
      ready (hd n) (.keyCommit {}) (one { held with staged := some { verified := true } }) = true ∧ (slotOf (one held) n).retiring.isSome = true ∧ (slotOf (one held) n).oldRefs ≠ 0) ∧
    (ready (hd 15) (.keyErase {}) run = true ∧ ready (hd n) (.keyErase {}) (one { state := 2 }) = true ∧ ready (hd n) (.keyErase {}) (one held) = true ∧
      ready (hd 0xF000) (.keyErase {}) (one { state := 1 }) = true ∧ (∀ e ∈ (one { state := 1 }).sec.slots, e.2.refs = 0 ∧ e.2.oldRefs = 0 ∧ (e.2.waiter = none ∨ e.2.state ≠ 4)) ∧
      (∀ e ∈ (one held).sec.slots, e.2.mat.parent.map Prod.fst ≠ some n)) ∧
    (ready (hd 0xF000) (.keyInvalidate {}) run = true ∧ ready (hd 3) (.keyInvalidate { engines := 1 }) run = true ∧ ready (hd n) (.keyInvalidate { engines := 1 }) (one held) = true) ∧
    (ready (hd n) (.keyInfo { bufferAddr := 8 }) run = true ∧ ready (hd 0xF000) (.keyInfo {}) run = true) ∧
    (ready (hd 0xF000) (.keyAttest { nonce := zeros32, slotFirst := 4095, slotCount := 1 }) run = true ∧ ready (hd 0xF000) (.keyAttest {}) run = true ∧ run.flash.identity = false ∧
      ready (hd 0xF000) (.keyAttest { nonce := zeros32, slotCount := 4096 }) { run with flash := { run.flash with identity := true } } = true) ∧
    (ready (hd 0xF000) (.keyStoreCfg { lockPlain := 1, loopArm := 15 }) run = true ∧ ready (hd 0xF000) (.keyStoreCfg { loopArm := 3, loopMismatch := 2 }) run = true ∧
      ready (hd 0xF000) (.keyStoreCfg { loopArm := 16 }) run = true) := by
  decide +kernel

/-- A record of type 1 whose tag its wrapping key gives unwraps, whatever the key and the ciphertext: a slot can take it. -/
theorem test_witness_KeyStoreRecord (w iv c : List Byte) (i : Nat) (hi : iv.length = 12) (hc : c.length = 32)
    (ht : (gcmTag w iv ([1, 0, 0, 0] ++ le 4 i) c).length = 16) :
    ∃ m, unwrapKey w i ([1, 0, 0, 0] ++ (iv ++ (c ++ gcmTag w iv ([1, 0, 0, 0] ++ le 4 i) c))) = some m ∧ slotTakes 4095 m = true := by
  generalize hg : gcmTag w iv ([1, 0, 0, 0] ++ le 4 i) c = tag at ht ⊢
  have e1 : (([1, 0, 0, 0] ++ (iv ++ (c ++ tag)) : List Byte).drop 4).take 12 = iv := by simp [hi]
  have e2 : (([1, 0, 0, 0] ++ (iv ++ (c ++ tag)) : List Byte).drop 16).take 32 = c := by
    rw [← List.append_assoc, List.drop_left' (by simp [hi]), List.take_left' hc]
  have e3 : ([1, 0, 0, 0] ++ (iv ++ (c ++ tag)) : List Byte).drop 48 = tag := by
    rw [← List.append_assoc, ← List.append_assoc, List.drop_left' (by simp [hi, hc])]
  have e4 : gcmOpen w iv ([1, 0, 0, 0] ++ le 4 i) c tag = some (gcmCtr w iv c) := by rw [gcmOpen, hg, if_pos rfl]
  have e5 : ([1, 0, 0, 0] ++ (iv ++ (c ++ tag)) : List Byte).length = 64 := by simp [hi, hc, ht]
  refine ⟨{ ktype := 1, key := (gcmCtr w iv c).take 32 }, ?_, by show (engineFits 1 0 && (decide ((4095 : Nat) ≠ 3) || decide ((0 : Nat) = 0x82))) = true; decide⟩
  unfold unwrapKey
  rw [e1, e2, e3, e5, show ([1, 0, 0, 0] ++ (iv ++ (c ++ tag)) : List Byte).take 4 = [1, 0, 0, 0] from rfl, e4]
  simp [nth, keyLen]

theorem test_witness_KeyStoreEvents :
    let n := 4095
    let one (k : KeySlotSt) : State := keyed [(n, k)]
    let ident : State := { run with sec := { run.sec with rootReady := true }, hlth := { run.hlth with enrolDue := true } }
    ((slotOf (one { state := 1, refs := 1 }) n).refs ≠ 0) ∧ ((slotOf (one { state := 4, refs := 1 }) n).oldRefs = 0) ∧ (slotOf run n).retiring = none ∧
    ((slotOf (one { state := 4, erasing := true, refs := 2 }) n).erasing = true) ∧ (slotOf (one { state := 1, waitNext := some {} }) n).waitNext = some {} ∧
    ((slotOf run n).state = 0 ∧ (slotOf run n).waitNext = none) ∧ ((slotOf (one { overlapEnds := some 0 }) n).overlapEnds = some 0 ∧ 0 ≤ 2 * run.time.c) ∧
    ((∀ e ∈ (slotOf (one { overlapEnds := some 1 }) n).overlapEnds, 2 * run.time.c < e)) ∧
    (ident.flash.identity = false ∧ ident.sec.rootReady = true ∧ ident.otp.enrolled.testBit 2 = false) ∧ run.sec.rootReady = false := by
  decide +kernel

/-- A modulus and a signature by exponent 3 of the digest of 32 zero octets with a zero salt, made so that the cube of the signature is the
encoded message (R407). -/
def rsaEm : Nat := 0x7512ee0018fd19d519d51f3a817cbf8abc8732586fa8faf13bed5c0b610b975b1f36970128e6b7abeecb99a4af3f56c8fa7bb9829f2f77470b49d10c636636ddd2695f9620deb011c89a821ad7d1457db5e7cc6191b680b25716b77b92b3286a1010ebb974b71c529f040cfe04b10ee7ce334ff63148dc50aca7f3ec044c6b22175fe4cbfbe2a4b6ab1014626534f61fbee3a64a011f95d4285e83b1d45e63904d831d1f95bd2843f539ad65515e62fa45771d889c8efb90d0b8067177edaf0378ceb640c28e7716e1b3f486b5cd4567f1b41f4a00cd2a3dae164df2db3a4c541f270adce42b684b7a5b3fa8be0e38d4a1132f69982089638fdce86af0c2e340fff0bb31378edf4353a00bb74df74ea4a12f1af5c9e2a510cb08e5fd929824c9670c84b48a7f453914fa4e1bd8178c75aa55080f905f5dab8d4d57ad327bf2c74a6dd2306aa369abf95d677c4be2c6920c5ec3674dd99f23f1e83a0a9ef4ae834a709ba2534ebe3ee1397fd4f7bd288b2acc1d20a08d6c862dcd99b6f04400bc
def rsaSig : Nat := 2 ^ 1024 - 1
def rsaCase : CryVerifyP := { exponent := 3, modulus := be 384 (rsaSig ^ 3 - rsaEm), digest := zeros32, signature := be 384 rsaSig }

theorem test_witness_CipherEngines :
    let s (m : KeyMat) : State := keyed [(4095, { state := 1, mat := m })]
    let op (o : Nat) : CryOpP := { op := o, slot := 4095, secLevel := 7, iv := List.replicate 12 0 }
    let signer : State := { keyed [(2, { state := 1, mat := { engines := 64 } })] with flash := { run.flash with identity := true } }
    let ctx : State := { run with cry := { run.cry with hashes := [(15, {})] } }
    let xts : CryXtsRegionP := { region := 63, op := 1, base := 4096, size := 2 ^ 34, slot := 4095 }
    let near : State := { run with cry := { run.cry with regions := [(16, { base := 4096, pages := 1, enable := true })] } }
    let queue : State := { run with cry := { run.cry with msgs := [(7, [{ suspended := true }, {}])] } }
    (ready {} (.cryOp { op := 2 }) run = true ∧ ready {} (.cryOp { secLevel := 8 }) run = true ∧ ready {} (.cryOp {}) run = true) ∧
    (ready {} (.cryOp (op 0)) (s { engines := 1 }) = true ∧ ready {} (.cryOp (op 1)) (s { engines := 1 }) = true ∧ drawReady (s { engines := 1 }) 4095 = true) ∧
    (ready (hd 1) (.cryOp (op 0)) (s { ktype := 1, engines := 2 }) = true ∧ ready (hd 1) (.cryOp (op 1)) (s { ktype := 1, engines := 2 }) = true ∧
      nonceReady (s {}) { nonceMode := 1, hDurable := some 0 } = true ∧ drawReady (s { ktype := 1, engines := 2, nonceMode := 1, hDurable := some 0 }) 4095 = true) ∧
    (ready (hd 2) (.cryOp { op 0 with unit := 4096, input := [] }) (s { ktype := 3, engines := 8 }) = true ∧ 4096 % 16 = 0) ∧
    (ready (hd 3) (.crySign {}) run = true ∧ ready (hd 3) (.crySign { digest := zeros32, slot := 3 }) run = true ∧ ready (hd 3) (.crySign { digest := zeros32, slot := 2 }) run = true ∧
      ready (hd 3) (.crySign { digest := zeros32, slot := 2 }) signer = true ∧ (slotOf signer 2).mat.engines.testBit 6 = true) ∧
    ((List.range 5).all (fun o => ready (hd 4) (.cryHash { op := o, context := 15 }) ctx) = true ∧ tfind ctx.cry.hashes 15 = some {} ∧
      (List.range 4).all (fun o => ready (hd 4) (.cryHash { op := o, context := 15 }) run) = true ∧ tfind run.cry.hashes 15 = none) ∧
    (ready (hd 2) (.cryXtsRegion {}) run = true ∧ ready (hd 2) (.cryXtsRegion { region := 16 }) run = true ∧ ready (hd 2) (.cryXtsRegion xts) near = true ∧
      ready (hd 2) (.cryXtsRegion xts) (s { ktype := 3, engines := 8 }) = true ∧ (s {}).cry.regions = [] ∧ (∃ e ∈ near.cry.regions, e.1 ≠ 63 ∧ e.2.enable = true ∧
        e.2.base < xts.base + xts.size ∧ xts.base < e.2.base + 4096 * e.2.pages)) ∧
    (ready {} (.cryStatus { clear := 1, bufferAddr := 8 }) run = true ∧ ready {} (.cryStatus { bufferAddr := 4 }) run = true) ∧
    (tget [] queue.cry.msgs 7 = { suspended := true } :: [{}] ∧ (∀ y ∈ ([{}] : List EngMsg), y.suspended = false → 3 ≤ y.urgency)) ∧
    (run.lnk.waiting = [] ∧ (slotOf (s { hWriting := some 9 }) 4095).mat.hWriting = some 9 ∧ (slotOf run 4095).mat.hWriting = none) ∧
    ({ run with cry := { run.cry with compacting := true } } : State).cry.compacting = true := by
  decide +kernel

theorem test_witness_CipherEnginesVerify :
    rsaVerify rsaCase.modulus 3 rsaCase.digest rsaCase.signature = true ∧ rsaCase.modulus.length = 384 ∧ ready (hd 3) (.cryVerify rsaCase) run = true ∧
    rsaVerify (List.replicate 384 0) 3 zeros32 (List.replicate 384 0) = false := by
  decide +kernel

theorem test_witness_CheckValueUnits :
    let h := hd 0x107
    let unit (c : ChkSt) : State := { run with chk := [(7, c)] }
    let x : ChkSt := { attached := some 95, poly := 2, mode := 1, value := 2 ^ 32 - 1, init := 2 ^ 32 - 1, expect := 2 ^ 32 - 1 }
    let busy : State := { unit { attached := some 95 } with lane := { run.lane with phys := [(95, { state := 3, frame := some {} })] } }
    ((List.range 5).all (fun o => ready h (.cryChkCfg { op := o, lane := 95, poly := 2, mode := 1, skipAbort := 1, expectEn := 1 }) run) = true ∧
      ready h (.cryChkCfg { lane := 96 }) run = true) ∧
    (ready h (.cryChkCfg { op := 2 }) (unit { paused := true }) = true ∧ (chkOf run 7).paused = false) ∧
    (ready h (.cryChkCfg { op := 3, context := chkContext x }) run = true ∧ (chkContext x).length = 16 ∧ x.value < 2 ^ crcWidth x.poly) ∧
    (atBoundary run 7 = true ∧ (chkOf run 7).saveWait = none ∧ atBoundary busy 7 = false ∧ (chkOf (unit { pause := true, saveWait := some (0, 1) }) 7).saveWait = some (0, 1)) := by
  decide +kernel

/-- A 3,072-bit modulus made for these tests, and the SHA-256 of an image of 64 zero octets. -/
def testModulus : Nat := 0xc4cbf14ce0e27fc52074093319dc6dc517ddb53fff87a44588f25719de8e1b3d1d57354ccc61784e36d183a75a6eba3e43d3083db2c54202a144409be32e9ef555700f470d7a32ea76201182d40a29b7e4be50b0ea8dfc22d49722f9bc29ecf983daca0d3c8a6bb7d10a3ef07c30e77c141f7c7980e80ff2e043b6aa97e84c4b08528f664970ff888fee01a7ee0046f3eed3e9883636b077472346e6667ebfbdd40135a705066662c16484423c44f9e51a9a9e032057a785f8ee202b40793473cf30cac6df477a4eb19861b1cb72318c11fbf82a8a3ee26089ae0a826b2c29984c9a4dc59f37aa8c8a8bf5e87566959f9afbcd994b0ee692d9532bc38e6e1b7040d0c8d1d26472d3a3d2c3e5aaec60459fa83ade5ae32a649058b13c93d490a05ca507ce38676efc1eff0538d26fa6642d21eeadc6cf9cd19131b183b16f4abdb10d27f906c6e04699b3e1d857ee325e0d358d44db118cc65cf48814a3a9b16c8811185d4f6d326cf107184d67b8df0fbab325fdb18bad2b99a5bd451a8fa025
def testImageHash : Nat := 0xf5a5fd42d16a20302798ef6ed309979b43003d2320d9f0e8ea9831a92759fb4b

/-- A manifest of that image, of a kind and with a signature (R427-R429). -/
def testManifest (kind sig : Nat) : List Byte :=
  ascii "ZBMF" ++ le 2 1 ++ le 1 kind ++ le 1 (1 - kind) ++ le 4 (128 + 48 * (1 - kind) + 768) ++ le 4 1023 ++ le 4 7 ++ le 4 64 ++ le 2 64 ++ zeros 2 ++
    le 4 1 ++ be 32 testImageHash ++ ascii "ZB9640" ++ zeros 2 ++ le 4 3 ++ zeros 52 ++
    (if kind = 0 then zeros 4 ++ le 4 64 ++ zeros 4 ++ le 4 1 ++ be 32 testImageHash else []) ++ be 384 testModulus ++ be 384 sig

/-- The manifests signed with that modulus, exponent 3 and a zero salt: own firmware, and a node image. -/
def ownManifest : List Byte := testManifest 0 0x97ff5078d0aabbcf2199a3c67c8c4b167a6adb8aacb12b3824501554c5463cee4d9d3adec62659829f3f0a4558e5f220878235705da9ecd4e97ef51c180b55dbe1648a8b032135aebd716994085e905efcb4bd23c848233939c085752b9abb0f821be019d19c4398fc47073b066df989d8127df16b254171c20732517e016731d72cc26b20fe7c45b2d2fe6cfe089314b82ca67e45b2e0e58c1d266d0d2fa50ea9071afa67f43f9fe79b37e62cb3d7a2b5d3789ba89fbc7ec112965756f79a3d73313369cf8306ed1d4041c8b48cde078f2237a736e937b68b6a11c3338b4bfb28250b4d53924644d7ed5a47b330a79d6d3ad0ca3036460a7882efa407b6edf650576abe35bdbf76534afb7c629bf09c9b59a6b98c492a2186cac9cf9372f25363399b9e62c290c46ab713346b9ada7175b8bd102af07d5e986c82d742a3a5147cf9f1f85139cd530b7571c2dca06129add1d479c03261b6c0e2f2379c07f5646b71cf8013754f5b57d353222afce96e5da62d99c215a44690dd4e0bbfffc55f
def nodeManifest : List Byte := testManifest 1 0xac968d562a3458bd1facf911007ee439b8e940994b507cdcdb314d94218cf1a5496f43706d30a273bc97275f88c074a2673fb4e177ebac42062a483e1ad58576d187939f7748e60bc2e9073249cf9dc951155c467578083e52fb895c4a8383921d041879f1114426c8608ed8ccb1b53140060740802f3e39e91a465ef181a69345a9083c656683238262ffdeb417625e553f5009486d0e76e8e60047fa8e89df4d444051661e666001c29803a96a73339551e8eb9558e1c63f5b3be340acfec831992200434425c7b3c632065434a4df7ae23fb5543c00e5f05de92470376db230f45b8f6d1acc99a21587bdf6a339fb933ea175217ccf198ac69b7e91d3ec7f78bfe864251f60677004683c28206378bf6ad891a62cb756114c58c6012e4c410fdcf8b0a0f8b61d8c14440fdde251f4d28a179b0c8ec8000b04db38f4b6acc30d211c101e6790269367c8022c98c5ed002ac73dad2d3758edc9edf8365bcde7b1a429b0a57296c42fb7d017223bfc2f4e9c44af715dd36da2b9b6f9abc3bd7d

theorem test_witness_FirmwareUpdateManifest :
    mfGood 0 ownManifest = true ∧ ownTarget ownManifest = true ∧ mfSv ownManifest = 1023 ∧ mfDrops ownManifest = 1 ∧ mfSegs ownManifest = 1 ∧
    sigGood ownManifest = true ∧ sigGood (testManifest 0 0) = false ∧
    segHashGood ownManifest [(0, List.replicate 64 0)] 0 = true ∧ sha256 (imageOf ownManifest [(0, List.replicate 64 0)]) = mfHash ownManifest ∧
    segHashGood ownManifest [] 0 = true ∧ segHashGood ownManifest [(0, List.replicate 64 1)] 0 = false := by
  decide +kernel

/-- The fused key hash is a free constant, so "signed by it" is met where it is this manifest's own: the other hypotheses hold beside it. -/
theorem test_witness_FirmwareUpdate :
    let fw (f : FwUpd) : State := { run with upd := { run.upd with fw := f } }
    let opened : FwUpd := { state := 1, manifest := ownManifest, acceptMask := 5 }
    let d := makeDrop (tagOf ownManifest) 0 (List.replicate 64 0)
    let trial : State := { fw { commitAfterS := 60 } with sys := { run.sys with trial := true } }
    let p : UpdOpenP := { manifest := ownManifest, acceptMask := 7, autoVerify := 1 }
    let burnt : State := { run with otp := { run.otp with svBurnt := 1024 } }
    let camp : State := { run with upd := { run.upd with camps := [(15, { state := 2, manifest := testManifest 1 0, drops := [] })] } }
    let took : State := { fw opened with upd := { (fw opened).upd with intake := [(2, d)] } }
    (ready {} (.updOpen p) run = true ∧ ready {} (.updOpen { p with replace := 2 }) run = true ∧ ready {} (.updOpen p) burnt = true ∧ mfSv p.manifest < burnt.otp.svBurnt) ∧
    (ready {} (.updOpen p) trial = true ∧ ready {} (.updOpen p) (fw opened) = true ∧ ready {} (.updOpen p) (fw { state := 1 }) = true ∧
      ready {} (.updOpen { p with replace := 1 }) (fw { state := 1 }) = true) ∧
    (ready {} (.updBlock {}) run = true ∧ ready {} (.updBlock { records := [d] }) (fw { state := 2 }) = true ∧ ready { qp := 65 } (.updBlock { records := [d] }) (fw { state := 1 }) = true ∧
      ready {} (.updBlock { records := [d] }) (fw opened) = true ∧ dropCheck true ownManifest (fun i => opened.held.contains i || (tfind opened.pendingDrops i).isSome) d = stOk ∧
      crc32c (dropHead { d with crc := 0 }) ≠ 0) ∧
    ((List.range 3).all (fun n => ready {} (.updStatus { clear := n }) run) = true ∧ ready (hd 0x10F) (.updStatus { clear := 1, bufferAddr := 8 }) run = true) ∧
    (ready {} (.updVerify {}) run = true ∧ ready {} (.updVerify {}) (fw { opened with held := [0] }) = true ∧ mfDrops ownManifest = 1) ∧
    ((List.range 4).all (fun n => ready {} (.updActivate { op := n, restart := 1 }) run) = true ∧ ready {} (.updActivate { op := 2 }) trial = true ∧
      ready {} (.updActivate {}) (fw { opened with state := 3 }) = true) ∧
    (took.upd.intake = (2, d) :: [] ∧ opened.acceptMask.testBit 2 = true ∧ opened.acceptMask.testBit 1 = false ∧ run.upd.intake = []) ∧
    (tfind run.upd.fw.pendingDrops 0 = none ∧ tfind ({ pendingDrops := [(0, [1])] } : FwUpd).pendingDrops 0 = some [1]) ∧
    (trial.upd.fw.commitAfterS ≠ 0 ∧ trial.hlth.degraded = 0) ∧ 2 ≤ (campOf camp 15).state := by
  decide +kernel

theorem test_witness_FirmwareUpdateCampaign :
    let k : CampSt := { state := 2, manifest := zeros 20 ++ le 4 128 ++ le 2 64 ++ zeros 2 ++ le 4 2 }
    let d := makeDrop (tagOf k.manifest) 0 (List.replicate 64 0)
    let s : State := { run with upd := { run.upd with camps := [(15, k)] } }
    ready (hd 0x10F) (.updBlock { records := [d] }) s = true ∧ campOf s 15 = k ∧ dropCheck true k.manifest (fun i => (tfind k.drops i).isSome) d = stOk ∧
    (tput k.drops d.index d.data).length < mfDrops k.manifest := by
  decide +kernel

theorem test_witness_NodeCampaigns :
    let h := hd 0x10F
    let s (k : CampSt) : State := { trafficked { queues := [(1, { port := 6 })] } with upd := { run.upd with camps := [(15, k)] } }
    let cfg : CampCfg := { keyHash := signerKey nodeManifest, nodeModel := mfTarget nodeManifest, svFloor := 1023, mcQueue := 1, repairQueue := 1, mcKeySlot := 4095 }
    let sec (k : KeySlotSt) : State := { s {} with sec := { run.sec with slots := [(4095, k)] } }
    let mem : Tbl MemberSt := [(262143, { address := 9, bitmap := List.replicate 512 1 })]
    let rep : NodeReport := { tag := tagOf [], kind := 3 }
    let going : CampSt := { state := 4, members := mem, round := 3, cfg := cfg, waitingReports := true, inWindow := true }
    let p : UpdOpenP := { manifest := nodeManifest }
    ((List.range 4).all (fun n => ready h (.updCampaignCfg { op := n }) run) = true ∧ ready h (.updCampaignCfg {}) (s { state := 2 }) = true ∧ campCfgOk run {} = false) ∧
    (ready h (.updCampaignCfg { cfg := cfg }) (s { state := 1 }) = true ∧ campCfgOk (s { state := 1 }) cfg = true) ∧
    (ready h (.updCampaignCfg { cfg := { cfg with mcSecLevel := 7 } }) (sec {}) = true ∧ campCfgOk (sec {}) { cfg with mcSecLevel := 7 } = true ∧ (slotOf (sec {}) 4095).state = 0 ∧
      campCfgOk (sec { state := 1, mat := { engines := 1 } }) { cfg with mcSecLevel := 7 } = true ∧ (slotOf (sec { state := 1, mat := { engines := 1 } }) 4095).mat.engines.testBit 0 = true) ∧
    (ready h (.updCampaignCfg { op := 1, members := [{ member := 262144 }] }) (s { state := 7 }) = true ∧ ready h (.updCampaignCfg { op := 1, members := [{ member := 262143 }] }) (s going) = true ∧
      memberTaken (s going) 262143 = true ∧ memberTaken (s { state := 7 }) 5 = false ∧ ready h (.updCampaignCfg { op := 2, members := [{ member := 262143 }] }) (s going) = true ∧
      tfind mem 5 = none) ∧
    (ready h (.updOpen p) (s {}) = true ∧ ready h (.updOpen p) (s { state := 1, cfg := cfg }) = true ∧ mfGood 1 nodeManifest = true ∧ sigGood nodeManifest = true ∧
      mfSv nodeManifest = 1023 ∧ (s {}).flash.libManifest = [] ∧ mfDrops nodeManifest ≠ 0) ∧
    ((List.range 7).all (fun n => ready h (.updCampaignCtrl { op := n, member := 262143 }) (s going)) = true ∧ run.fwall.frozen.contains 32 = false ∧ (freezing [32]).fwall.frozen.contains 32 = true ∧
      ready h (.updCampaignCtrl { op := 2 }) (freezing [32]) = true ∧ ready h (.updCampaignCtrl {}) (s { state := 3 }) = true ∧
      ready h (.updCampaignCtrl { op := 1 }) (s { state := 5 }) = true ∧ ready h (.updCampaignCtrl { op := 2 }) (s { state := 6, pausedFrom := 4 }) = true ∧
      ready h (.updCampaignCtrl { op := 4 }) run = true) ∧
    (reporter going 8 rep = none ∧ reporter going 9 rep = some 262143 ∧ ({ tag := tagOf [], kind := 1 } : NodeReport).kind = 1) ∧
    (windowNow (s going) cfg = true ∧ windowNow (s going) { cfg with windowAsn := 1 } = false) ∧
    (going.cfg.maxRounds ≤ going.round ∧ (nextPlace { going with round := 2 + 1, position := 0, manifest := nodeManifest, cfg := { cfg with mcMinMissing := 1 } }).isSome = true) ∧
    ((tget {} [(262143, { visiting := true })] 262143 : MemberSt).visiting = true ∧ membersIn going 0 ≠ 0 ∧ membersIn { state := 5 } 0 = 0) := by
  decide +kernel

/-- RUN with the links as given, and two live GCM slots. -/
def linked (b : LnkSt) : State := { keyed [(1, { state := 1, mat := { ktype := 1, engines := 2, hDurable := some 0 } }), (2, { state := 1, mat := { ktype := 1, engines := 2 } })] with lnk := b }

theorem test_witness_DalhiufLinks :
    let cfg : LnkPortCfgP := { role := 1, expectedPeer := 4095, txSlot := 1, rxSlot := 2, linkDownUs := 10000 }
    let q : LnkPort := { enable := true, lock := true, matched := true, state := 1, txSlot := 1, rxSlot := 2 }
    let s (x : LnkPort) : State := linked { ports := [(2, x)] }
    let two : State := { linked {} with twin := { run.twin with configured := true } }
    let topo : LnkTopologyP := { members := 1, coordBudgetUs := 100, hopLimit := 4095, linkRing := 31 }
    let msg : LnkSendP := { kind := 2, vl := 4, body := [1] }
    let out : State := linked { ports := [(0, { q with state := 2 })], routes := [{ member := 4095, primary := 0 }], members := 2 }
    let g : LinkFrame := { vl := 1 }
    (ready (hd 2) (.lnkPortCfg { cfg with linkDownUs := 10001 }) run = true ∧ ready (hd 2) (.lnkPortCfg cfg) two = true ∧ (portOf two 2).role ≠ 1 ∧
      ready (hd 2) (.lnkPortCfg cfg) run = true ∧ (slotOf run 1).state = 0 ∧ ready (hd 2) (.lnkPortCfg { cfg with enable := 1 }) (linked {}) = true ∧
      (slotOf (linked {}) 2).mat.engines.testBit 1 = true) ∧
    (ready (hd 0x100) (.lnkTopology topo) run = true ∧ topologyRange run topo = true ∧ topologyOk run topo = true ∧ ready (hd 0x100) (.lnkTopology {}) run = true ∧
      topologyRange run { topo with members := 2, routes := [{ member := 5 }] } = true ∧ topologyOk run { topo with members := 2, routes := [{ member := 5 }] } = true) ∧
    ((List.range 3).all (fun n => ready (hd 2) (.lnkStatus { clear := n }) run) = true ∧ ready (hd 0x100) (.lnkStatus { clear := 1 }) run = true) ∧
    (ready (hd 0x100) (.lnkSend { msg with dst := 4096 }) run = true ∧ (sendMsg msg).isSome = true ∧ ready (hd 0x100) (.lnkSend { msg with dst := 0xFFFF }) run = true ∧
      sourcePorts run = [] ∧ sourcePorts out ≠ [] ∧ gated { run with sys := { run.sys with strap := 8 } } = true ∧ gated run = false ∧ egressPort run 4095 = none) ∧
    (ready (hd 0x100) (.lnkSend { msg with dst := 4095 }) out = true ∧ egressPort out 4095 = some 0 ∧ nonceReady out (slotOf out 1).mat = true ∧ drawReady out 1 = true ∧
      (slotOf out 1).mat.usageCount < (slotOf out 1).mat.usageLimit) ∧
    ((portOf (s q) 2).state = 1 ∧ (portOf (s q) 2).matched = true ∧ (portOf run 2).enable = false ∧ (portOf (s { q with held := true }) 2).held = true) ∧
    ((portOf (s { q with state := 2 }) 2).state = 2 ∧ laneOk (s { q with state := 2 }) 2 1 = true ∧ laneOk (s q) 2 1 = true ∧
      replayed (s { q with floor := some (0, 5) }) 2 0 5 = true ∧ replayed (s q) 2 0 5 = false ∧ ({ g with enc := false } : LinkFrame).enc = false) := by
  decide +kernel

/-- The frames of DalhiufLinks that do and do not open: a tag that is the frame's own opens it, and a tag of another length does not, under any key. -/
theorem test_witness_DalhiufLinksOpened (key iv aad c tag : List Byte) (h : gcmTag key iv aad c = tag) :
    gcmOpen key iv aad c tag = some (gcmCtr key iv c) ∧ gcmOpen key iv aad c (0 :: tag) = none := by
  subst h
  refine ⟨if_pos rfl, if_neg fun e => ?_⟩
  exact absurd (congrArg List.length e) (by simp)

/-- A part fitted as a twin, in RUN, with the twin state as given. -/
def twinned (w : TwinSt) : State := { run with sys := { run.sys with strap := 8 }, twin := w }

theorem test_witness_HotTwin :
    let p : TwinCfgP := { chipId := 1, claimOffsetUs := 9975, deltaAckUs := 9000 }
    let link (c : Nat) (w : TwinSt) : State := { twinned w with lnk := { run.lnk with ports := [(2, { state := 2, role := 1, peerChip := c })] } }
    let on : TwinSt := { configured := true, gates := true }
    let able : TwinSt := { on with peerAlive := true, peerSynced := true }
    let saved (w : TwinSt) : State := { twinned w with flash := { run.flash with saved := some {} } }
    (ready {} (.twinCfg p) (twinned {}) = true ∧ ready {} (.twinCfg { p with claimOffsetUs := 9976 }) (twinned {}) = true ∧ ready {} (.twinCfg { op := 1 }) (twinned {}) = true ∧
      ready {} (.twinCfg p) (link 1 {}) = true ∧ ready {} (.twinCfg p) (link 0 {}) = true ∧ (portOf (link 0 {}) 2).role = 1) ∧
    (ready {} (.twinClaim { op := 1, priority := 63 }) (twinned on) = true ∧ ready {} (.twinClaim { op := 1, priority := 64 }) (twinned on) = true) ∧
    (ready {} (.twinSwitch {}) (twinned { configured := true }) = true ∧ isStandby (twinned { configured := true }) = true ∧ isStandby (twinned able) = false ∧
      ready {} (.twinSwitch {}) (twinned able) = true ∧ ready {} (.twinSwitch {}) (twinned on) = true) ∧
    (List.range 3).all (fun n => ready {} (.twinStatus { clear := n }) (twinned on)) = true ∧
    ((List.range 4).all (fun n => ready {} (.twinSaveState { op := n }) (twinned on)) = true ∧ ready {} (.twinSaveState { op := 1 }) (saved on) = true ∧
      (saved on).flash.saved = some {} ∧ (saved on).aon.salt = [] ∧ (∀ v ∈ (twinned on).flash.saved, v.salt ≠ run.aon.salt)) ∧
    (let s := twinned { saving := some (0, 9) }
     let c : Cmd := .twinSaveState {}
     opcodeOf c / 256 = 0x0D ∧ isStatus c = false ∧ s.twin.saving.isSome = true ∧ answers s = true ∧ s.hif.flights = [] ∧
       entryRefusal {} (some c) s = stOk ∧ staysDelayed {} c = false ∧ replyFull s 0 = false) ∧
    ((twinned { saving := some (0, 9) }).twin.saving = some (0, 9) ∧ (twinned { saving := some (1, 9) }).twin.saving = some (1, 9)) ∧
    (claimWord (twinned on) < 65536 ∧ (twinned { on with tieCheck := true }).twin.tieCheck = true ∧ (twinned on).sys.refLost.testBit 3 = false ∧
      claimWord (twinned { on with claimPeer := claimWord (twinned on), tieCheck := true }) = claimWord (twinned on) ∧ claimWord (twinned on) < 65535) ∧
    ((twinned on).twin.live = true ∧ (twinned { on with missedBeats := 2 }).twin.missedBeats = 2 ∧ (twinned { configured := true }).twin.gates = false) ∧
    ({ on with deltaSeq := 1 } : TwinSt).lastAcked ≠ 1 := by
  decide +kernel

/-- The size of a snapshot is a free value: each of the two clauses that speak of it is met by one of its values. -/
theorem test_witness_HotTwinSaved : ∀ n : Nat, 96 * 2 ^ 20 < Config.savedBytes n ∨ Config.savedBytes n ≤ 96 * 2 ^ 20 := fun n => by omega

theorem test_witness_HealthAndMemoryErrors :
    let core : State := { run with hlth := { run.hlth with coresActive := 0x0FF } }
    let failed : State := { run with flash := { run.flash with failedCores := 512 } }
    let hot : State := { run with ddr := { run.ddr with refresh2x := true, candidates := [9] } }
    (List.range 3).all (fun n => ready {} (.hlthStatus { clear := n }) run) = true ∧
    (ready {} (.hlthSpareMap { op := 1, reserve := 8, bufferAddr := 8 }) run = true ∧ ready {} (.hlthSpareMap { op := 1, reserve := 9 }) run = true) ∧
    ((List.range 6).all (fun k => ready {} (.hlthRetire { kind := k, index := 1 }) run) = true ∧ ready {} (.hlthRetire { index := 10 }) run = true ∧
      ready {} (.hlthRetire { index := 7 }) core = true ∧ recoveryCore core ≠ 7 ∧ core.hlth.coresActive.testBit 7 = true ∧ (spareCore core).isSome = true) ∧
    (ready {} (.hlthRetire { index := 9 }) failed = true ∧ failed.flash.failedCores.testBit 9 = true ∧ failed.hlth.coresActive.testBit 9 = false ∧ recoveryCore failed ≠ 9) ∧
    (ready {} (.hlthRetire { kind := 1, index := 104 }) run = true ∧ ready {} (.hlthRetire { kind := 1, index := 103 }) run = true ∧ roleOf run 103 = 1) ∧
    (ready {} (.hlthRetire { kind := 2, index := 256 * run.sys.dramMib }) run = true ∧ ready {} (.hlthRetire { kind := 2, index := 256 * run.sys.dramMib - 1 }) run = true) ∧
    (ready {} (.hlthRetire { kind := 3, index := 15 }) run = true ∧ ready {} (.hlthRetire { kind := 3, index := 8191 }) run = true ∧ run.flash.flashRemaps.length < 496) ∧
    (ready {} (.hlthRetire { kind := 4, index := 0 }) run = true ∧ ready {} (.hlthRetire { kind := 4, index := 2 }) run = true ∧ run.otp.pufArray = 0) ∧
    (run.ddr.ceSec ≠ some (rawSec run) ∧ run.flash.retiredPages = [] ∧ 592 * 1048576 ≤ 620756992 ∧ 268435455 < 256 * 1048576) ∧
    (run.ddr.refresh2x = false ∧ hot.ddr.refresh2x = true ∧ 9 ∈ hot.ddr.candidates ∧ 9 ∉ run.ddr.candidates) := by
  decide +kernel

theorem test_witness_FirewallAndDumps :
    let s (w : FwallSt) : State := { run with fwall := w }
    let dumped : State := { run with dump := { run.dump with dram := some { bytes := [1, 2], length := 2 } }, flash := { run.flash with dumps := [(1, {})] } }
    let port : State := { s { frozen := [35], ownerReset := [35] } with lnk := { run.lnk with ports := [(2, { enable := true, lock := true })] } }
    (fwallAllows (s {}) 35 0 true = false ∧ fwallAllows (s { regions := [(0, { pages := 1, enable := true, read := 2 ^ 32 - 1, write := 2 ^ 32 - 1 })] }) 35 0 true = true ∧
      8 ≤ (s { records := List.replicate 8 {} }).fwall.records.length ∧ recoveryCore run < 10 ∧ fwallAllows run (recoveryCore run) 0 true = false) ∧
    ((s { frozen := [35] }).fwall.frozen.contains 35 = true ∧ (s { frozen := [35] }).fwall.ownerReset.contains 35 = false) ∧
    (ready { qp := 64, flow := 0x123 } (.diagUnfreeze {}) run = true ∧ ready { qp := 64, flow := 0x123 } (.diagUnfreeze {}) (s { frozen := [35] }) = true ∧ ready { qp := 64, flow := 0x123 } (.diagUnfreeze {}) port = true ∧
      (portOf port 2).state = 0) ∧
    (ready { qp := 64 } (.diagFwRegion { region := 15 }) run = true ∧ ready { qp := 64 } (.diagFwRegion { region := 63 }) run = true ∧ ready { qp := 64 } (.diagFwRegion { region := 16, op := 1 }) run = true ∧
      ready { qp := 64 } (.diagFwRegion { region := 16, op := 1, base := 2 ^ 48 - 4096, size := 2 ^ 34 }) run = true) ∧
    (ready { qp := 64 } (.diagDumpRead { op := 2 }) run = true ∧ ready { qp := 64 } (.diagDumpRead {}) { run with sys := { run.sys with devState := .fwVerify } } = true ∧
      ready { qp := 64 } (.diagDumpRead { op := 1, src := 2 }) dumped = true ∧ ready { qp := 64 } (.diagDumpRead { src := 1 }) dumped = true ∧ tfind dumped.flash.dumps 0 = none ∧
      ready { qp := 64 } (.diagDumpRead { len := 16384, offset := 1, bufferAddr := 8 }) dumped = true) := by
  decide +kernel

theorem test_witness_TestsAndTap :
    let k : ChainSt := { service := 0, plans := [(0, 0)] }
    let on : State := { chained k with slot := { run.slot with running := true } }
    let noSpare : State := { chained k with lane := { run.lane with phys := (List.range 8).map (fun i => (96 + i, { role := some 3 })) } }
    let busy : State := { run with test := { run.test with run := some { started := true } } }
    let idle : State := { run with sys := { run.sys with strap := 8 }, twin := { run.twin with configured := true } }
    let ring4 : State := { run with lnk := { run.lnk with ports := [(2, { role := 1 })] } }
    let lb : TestLoopbackP := { target := 3, frameLen := 2047, durationMs := 60000, pattern := 2, channel := 498 }
    let pt : TestPatternP := { target := 3, pattern := 2, toneKhz := 500, durationMs := 60000, channel := 498 }
    let depth (t : Nat) := (List.range 5).find? (fun d => depthOk t d)
    (ready { qp := 64 } (.testLoopback lb) run = true ∧ ready { qp := 64 } (.testLoopback { lb with target := 10 }) run = true ∧ (depth 3).isSome = true ∧
      (List.range 10).all (fun t => (depth t).isSome) = true ∧ depthOk 3 2 = true ∧ ready { qp := 64 } (.testLoopback { lb with depth := 2 }) idle = true ∧ gateHeld idle = false) ∧
    ((channelCentre (chainOf on 3) 0 498).isNone = false ∧ (channelCentre (chainOf on 3) 0 499).isNone = true ∧ (chainOf on 3).service = 0 ∧ (chainOf on 3).cal = none) ∧
    ((List.range 104).find? (fun x => decide (roleOf on x = 1)) = some 96 ∧ (∀ q < 104, roleOf noSpare q ≠ 1)) ∧
    ((portOf ring4 2).role = 1 ∧ ready { qp := 64 } (.testLoopback { lb with target := 9, depth := 2 }) run = true ∧ depthOk 9 2 = true ∧
      ready {} (.testLoopback { lb with target := 9, depth := 2 }) (withRing 0 { func := 1 }) = true ∧
      ready { qp := 64 } (.testLoopback { lb with target := 8, depth := 1 }) ring4 = true) ∧
    (ready { qp := 64 } (.testPattern pt) on = true ∧ ready { qp := 64 } (.testPattern { pt with durationMs := 60001 }) run = true ∧ ready { qp := 64 } (.testPattern pt) idle = true ∧
      ready { qp := 64 } (.testPattern { pt with target := 8, pattern := 4 }) run = true ∧ ready { qp := 64 } (.testPattern { pt with target := 8, pattern := 3 }) ring4 = true) ∧
    (ready { qp := 64 } (.testBist { mask := 2048 }) run = true ∧ ready { qp := 64 } (.testBist { mask := 1 }) run = true ∧ ready { qp := 64 } (.testBist { mask := 64 }) run = true ∧
      ready { qp := 64 } (.testBist { mask := 1024 }) run = true ∧ bistRangeOk { mask := 1024 } run = false ∧ bistRangeOk { mask := 1024, rangeBase := 2 ^ 30, rangeLen := 4096 } run = true) ∧
    ((List.range 3).all (fun n => ready { qp := 64 } (.testStatus { op := n }) run) = true ∧ ready { qp := 64 } (.testStatus { op := 1 }) busy = true) ∧
    (let h : Hdr := { qp := 64 }
     let c : Cmd := .testLoopback lb
     opcodeOf c / 256 = 0x10 ∧ isStatus c = false ∧ busy.test.run.isSome = true ∧ answers busy = true ∧ busy.hif.flights = [] ∧
       entryRefusal h (some c) busy = stOk ∧ staysDelayed h c = false ∧ replyFull busy h.qp = false) ∧
    (busy.test.run = some { started := true } ∧ run.test.run = none) := by
  decide +kernel

/-! Single steps and values whose expected results are the spec's own numbers. -/

/-- ASCII "123456789". -/
def digits : List Byte := [0x31, 0x32, 0x33, 0x34, 0x35, 0x36, 0x37, 0x38, 0x39]

/-- The check values of R418. -/
theorem test_check_values : crcOf 0 (crcInit 0) digits = 0x2189 ∧ crcOf 1 (crcInit 1) digits = 0xCBF43926 ∧
    crc32c digits = 0xE3069283 := by decide +kernel

/-- The worked example after R169-R171 (chain B, channel 312): a 60-byte PSDU at PHY_MODE 1 with pre_bytes 8 takes 5,760 us. -/
theorem test_worked_air_time : airUs 8 1 0 60 false 0 none = 5760 := by decide

/-- The example of R268: PHY_MODE 3, SO 0 and BO 2 give slots of 300 us and a beacon every 19.2 ms. -/
theorem test_superframe_times : superSlotUs { phy := 3, so := 0, bo := 2 } = 300 ∧ superBiUs { phy := 3, so := 0, bo := 2 } = 19200 := by decide

/-- An invalid doorbell sets FETCH_ERROR, and the greatest valid one is taken: SQ_LOG2 is 4 after reset (R98, R101, R564). -/
theorem test_doorbell_edges : (qpOf (after (.sqDoorbellWrite 0 15) run) 0).sqTail = 15 ∧ (qpOf (after (.sqDoorbellWrite 0 15) run) 0).fetchError = false ∧
    (qpOf (after (.sqDoorbellWrite 0 16) run) 0).sqTail = 0 ∧ (qpOf (after (.sqDoorbellWrite 0 16) run) 0).fetchError = true := by decide +kernel

/-- A reserved op of SYS_INFO is refused with ST_BAD_PARAM (R6). -/
theorem test_reserved_op : (after (.sysInfo (hd 0) { op := 3 }) run).hif.flights.map (fun f => (f.done, f.status)) = [(true, stBadParam)] := by
  decide +kernel

/-- A command outside RUN is refused with ST_BUSY where the ROM does not answer it (R79). -/
theorem test_boot_busy : (after (.timeRate (hd 0) {}) { run with sys := { run.sys with devState := .bootRom } }).hif.flights.map (·.status) = [stBusy] := by
  decide +kernel

/-- Writing 1s to EVT.CAUSE clears those bits alone (R131). -/
theorem test_cause_clears_alone : (after (.evtCauseClear 0 0x5) { run with evt := { run.evt with cause := 0x1F } }).evt.cause = 0x1A := by decide +kernel

/-- A step on a queue of one command runs it and leaves the queue empty. -/
theorem test_step_takes_front :
    (match step { run with pending := [.cqDoorbellWrite 3 2] } with | .next t => ((qpOf t 3).cqHead, t.pending) | _ => (0, [])) = (2, []) := by
  decide +kernel

/-- An idle step counts one TIME cycle. -/
theorem test_idle_step : (match step run with | .next t => t.time.c | _ => 0) = run.time.c + 1 := by decide +kernel

end Sys2Proof.Tests
end

section
/-!
PROOFS. A command that a check of its fetch refuses (R6, R31, R107, R109, R110, R119): the fetch itself writes the completion record, and the
agent finds a flight that is done and leaves it alone.
-/
namespace Sys2Proof.Proofs
open Machine Safety Laws

@[simp] theorem raise_hif (n : Nat) (s : State) : (raise n s).hif = s.hif := by rw [raise_only]

@[simp] theorem withQp_flights (q : Nat) (f : QpSt → QpSt) (s : State) : (withQp q f s).hif.flights = s.hif.flights := rfl

/-- The state once a command has been answered with a status at its fetch. -/
def refusedWith (h : Hdr) (c : Cmd) (status : Nat) (s : State) : State := { s with hif := answered h c status 0 [] s }

/-- The parameters of a host command could not be read, and its deadline had not passed (R107, R119). -/
def paramReadFailed (h : Hdr) (status : Nat) : Prop := hflag h 2 = true ∧ h.paramError = true ∧ h.qp < 64 ∧ status ≠ stTimeout

/-- What a failed read of the parameters does beside the reply (R107). -/
def flagFetchError (h : Hdr) (s : State) : State := raise 0x010 (withQp h.qp (fun q => { q with fetchError := true }) s)

@[simp] theorem flagFetchError_flights (h : Hdr) (s : State) : (flagFetchError h s).hif.flights = s.hif.flights := by simp [flagFetchError]

/-- A refused entry whose parameters, if any, were read: it is answered, and nothing else happens. -/
theorem fetchEntry_refused {h : Hdr} {c : Cmd} {s : State} (ht : TagFree h s) (he : entryRefusal h (some c) s ≠ stOk)
    (hp : ¬ paramReadFailed h (entryRefusal h (some c) s)) :
    fetchEntry h (some c) 0 0 s = refusedWith h c (entryRefusal h (some c) s) s := by
  have hb : ¬ ((!false && decide (entryRefusal h (some c) s ≠ stTimeout) && hflag h 2 && h.paramError && decide (h.qp < 64)) = true) := by
    simp only [Bool.and_eq_true, decide_eq_true_eq]
    exact fun ⟨⟨⟨⟨_, hs⟩, h2⟩, hr⟩, hq⟩ => hp ⟨h2, hr, hq, hs⟩
  simp only [fetchEntry, any_isTag ht, Bool.false_eq_true, if_false, if_neg hb, he, ne_eq, not_false_eq_true, decide_true]
  rfl

/-- A refused entry whose parameters could not be read: it is answered, and the error is flagged. -/
theorem fetchEntry_paramReadFailed {h : Hdr} {c : Cmd} {s : State} (ht : TagFree h s) (he : entryRefusal h (some c) s ≠ stOk)
    (hp : paramReadFailed h (entryRefusal h (some c) s)) :
    fetchEntry h (some c) 0 0 s = flagFetchError h (refusedWith h c (entryRefusal h (some c) s) s) := by
  obtain ⟨h2, hr, hq, hs⟩ := hp
  simp only [fetchEntry, any_isTag ht, Bool.false_eq_true, if_false, h2, hr, hq, hs, he, ne_eq, not_false_eq_true, decide_true, Bool.not_false,
    Bool.and_self, if_true]
  rfl

/-- The agent leaves a flight that is done as it is. -/
theorem workOn_done {h : Hdr} {c : Cmd} {run : State → Res} {s : State} {f : Flight} (hf : s.hif.flights.find? (isFor h c) = some f)
    (hd : f.done = true) : workOn h c run s = s := by
  simp [workOn, hf, hd]

/-- A command whose fetch leaves it answered is finished by its fetch. -/
theorem agentRun_answeredByFetch {h : Hdr} {c : Cmd} {run : State → Res} {s : State} {status : Nat} (ha : answers s = true) (ht : TagFree h s)
    (hf : (fetchEntry h (some c) 0 0 s).hif.flights = (refusedWith h c status s).hif.flights) :
    agentRun h c run s = .next (fetchEntry h (some c) 0 0 s) := by
  have hx : isFor h c (doneFlight h c status 0 [] s) = true := isFor_new h c s
  have hw : workOn h c run (fetchEntry h (some c) 0 0 s) = fetchEntry h (some c) 0 0 s :=
    workOn_done (by rw [hf]; exact find_append_new _ (not_isFor ht) hx) rfl
  simp [agentRun, ha, any_isFor ht, hw]

/-- Settles O8: the fetch answers the command, with or without the error flag, and the agent then does nothing. -/
theorem refusedAtFetchHasNoEffect : Obligations.RefusedAtFetchHasNoEffect := by
  intro h c s ha ht he
  refine ⟨fun hp => ?_, fun hp => ?_⟩
  · have hf := fetchEntry_refused ht he hp
    rw [exec_rowOf, agentRun_answeredByFetch ha ht (congrArg (·.hif.flights) hf), hf]
    rfl
  · have hf := fetchEntry_paramReadFailed ht he hp
    rw [exec_rowOf, agentRun_answeredByFetch ha ht (by rw [hf, flagFetchError_flights]), hf]
    rfl

end Sys2Proof.Proofs
end

section
/-!
PROOFS. Where a register write goes, and what it leaves unchanged (R5, R98, R132, R216, R500, R501, R520).
-/
namespace Sys2Proof.Proofs
open Machine Safety Laws

/-! A write of PF0 at an aligned offset reaches the register map; the map hands it to the register's own row. -/

theorem registerWrite_pf0 {a v : Nat} {s : State} (hz : pfFrozen s 0 = false) (ha : a % 4 = 0) (hv : v < 2 ^ 32) :
    registerWrite 0 a v s = writeReg 0 a v s := by
  simp only [registerWrite, hz, ha, Nat.mod_eq_of_lt hv]
  rfl

theorem exec_registerWrite_pf0 {a v : Nat} {s t : State} (hz : pfFrozen s 0 = false) (ha : a % 4 = 0) (hv : v < 2 ^ 32)
    (hw : writeReg 0 a v s = t) : exec (.registerWrite 0 a v) s = .next t :=
  congrArg Host.Outcome.next ((registerWrite_pf0 hz ha hv).trans hw)

theorem registerWrite_frozen {f a v : Nat} {s : State} (hz : pfFrozen s f = true) : registerWrite f a v s = s := by
  simp [registerWrite, hz]

theorem registerWrite_pf1_notAllowed {a v : Nat} {s : State} (ha : a % 4 = 0) (hz : pfFrozen s 1 = false) (hm : pf1May s a = false) :
    registerWrite 1 a v s = pf1Drop s := by
  simp [registerWrite, hz, ha, hm]

theorem writeReg_resetCtrl_warm {f k : Nat} (hk : k < 65536) (s : State) : writeReg f 0x14 k s = resetCtrl false k s := by
  have hb : bits k 17 16 = 0 := by simp only [bits]; omega
  simp [writeReg, hb, Nat.mod_eq_of_lt hk]

theorem writeReg_resetCtrl_full {f k : Nat} (hk : k < 65536) (s : State) : writeReg f 0x14 (65536 + k) s = resetCtrl true k s := by
  have hb : bits (65536 + k) 17 16 = 1 := by simp only [bits]; omega
  simp [writeReg, hb, Nat.mod_eq_of_lt hk]

/-! Each doorbell, cause word and check unit has its place in the map: the offset lies in that range and in no earlier one. -/

theorem writeReg_sqDoorbell {f q : Nat} (hq : q < 64) (v : Nat) (s : State) : writeReg f (0x20000 + 8 * q) v s = sqDoorbell q v s := by
  have hi : (0x20000 + 8 * q - 0x20000) / 8 = q := by omega
  simp (disch := omega) only [writeReg, Bool.and_eq_true, decide_eq_true_eq, if_neg, if_pos, hi]

theorem writeReg_cqDoorbell {f q : Nat} (hq : q < 64) (v : Nat) (s : State) : writeReg f (0x20004 + 8 * q) v s = cqDoorbell q v s := by
  have hi : (0x20004 + 8 * q - 0x20000) / 8 = q := by omega
  simp (disch := omega) only [writeReg, Bool.and_eq_true, decide_eq_true_eq, if_neg, if_pos, hi]

theorem writeReg_thDoorbell {f r : Nat} (hr : r < 32) (v : Nat) (s : State) : writeReg f (0x20200 + 4 * r) v s = thDoorbell r v s := by
  have hi : (0x20200 + 4 * r - 0x20200) / 4 = r := by omega
  simp (disch := omega) only [writeReg, Bool.and_eq_true, decide_eq_true_eq, if_neg, if_pos, hi]

theorem writeReg_fhDoorbell {f r : Nat} (hr : r < 32) (v : Nat) (s : State) : writeReg f (0x20280 + 4 * r) v s = fhDoorbell r v s := by
  have hi : (0x20280 + 4 * r - 0x20280) / 4 = r := by omega
  simp (disch := omega) only [writeReg, Bool.and_eq_true, decide_eq_true_eq, if_neg, if_pos, hi]

theorem writeReg_evtClear {f k : Nat} (hk : k < 12) (v : Nat) (s : State) : writeReg f (0x30100 + 4 * k) v s = evtClear k v s := by
  have hi : (0x30100 + 4 * k - 0x30100) / 4 = k := by omega
  simp (disch := omega) only [writeReg, Bool.and_eq_true, decide_eq_true_eq, if_neg, if_pos, hi]

theorem writeReg_chkPause {f u : Nat} (hu : u < 8) (v : Nat) (s : State) : writeReg f (0x170000 + 0x100 * u) v s = chkPauseWrite u v s := by
  have hi : (0x170000 + 0x100 * u - 0x170000) / 0x100 = u := by omega
  have hm : (0x170000 + 0x100 * u) % 0x100 = 0 := by omega
  simp (disch := omega) only [writeReg, Bool.and_eq_true, decide_eq_true_eq, if_neg, if_pos, hi, hm]

theorem writeReg_chkValue {f u : Nat} (hu : u < 8) (v : Nat) (s : State) : writeReg f (0x170008 + 0x100 * u) v s = chkValueWrite u v s := by
  have hi : (0x170008 + 0x100 * u - 0x170000) / 0x100 = u := by omega
  have hm : (0x170008 + 0x100 * u) % 0x100 = 8 := by omega
  simp (disch := omega) only [writeReg, Bool.and_eq_true, decide_eq_true_eq, if_neg, if_pos, hi, hm]

/-- The snapshot, status, rate and comparator registers, all below the captures, are read-only (R238). -/
theorem writeReg_timeReadOnly {f a : Nat} (hl : 0xD0000 ≤ a) (hh : a < 0xD0200) (v : Nat) (s : State) : writeReg f a v s = s := by
  simp (disch := omega) only [writeReg, Bool.and_eq_true, decide_eq_true_eq, if_neg]

theorem writeReg_tmQsel (f v : Nat) (s : State) : writeReg f 0x80010 v s = withTm (fun t => { t with qsel := v % 4096 }) s := by
  simp [writeReg]

theorem writeReg_learnHead (f v : Nat) (s : State) : writeReg f 0x9004C v s = learnHeadWrite v s := by
  simp [writeReg]

theorem registerWrite_timeReadOnly {a : Nat} (hl : 0xD0000 ≤ a) (hh : a < 0xD0200) (v : Nat) (s : State) : registerWrite 0 a v s = s := by
  simp [registerWrite, writeReg_timeReadOnly hl hh]

/-! What a register write keeps: every writer of the map leaves the block TIME as it is, but for a capture's flag. -/

@[simp] theorem settle_time (v : Nat) (was again : Bool) (s : State) : (settle v was again s).time = s.time := by rw [settle_only]

@[simp] theorem notify_time (v : Nat) (s : State) : (notify v s).time = s.time := by rw [notify_only]

@[simp] theorem raise_time (n : Nat) (s : State) : (raise n s).time = s.time := by rw [raise_only]

@[simp] theorem withQp_time (q : Nat) (f : QpSt → QpSt) (s : State) : (withQp q f s).time = s.time := rfl

@[simp] theorem withTh_time (r : Nat) (f : DataRing → DataRing) (s : State) : (withTh r f s).time = s.time := rfl

@[simp] theorem withFh_time (r : Nat) (f : DataRing → DataRing) (s : State) : (withFh r f s).time = s.time := rfl

@[simp] theorem withChkU_time (u : Nat) (f : ChkSt → ChkSt) (s : State) : (withChkU u f s).time = s.time := rfl

@[simp] theorem withCap_c (i : Nat) (f : CapSt → CapSt) (s : State) : (withCap i f s).time.c = s.time.c := rfl

@[simp] theorem settleAll_time (vs : List Nat) (s : State) : (vs.foldl (fun s v => settle v true true s) s).time = s.time := by
  induction vs generalizing s with
  | nil => rfl
  | cons v vs ih => rw [List.foldl_cons, ih, settle_time]

@[simp] theorem pf1Drop_time (s : State) : (pf1Drop s).time = s.time := by simp [pf1Drop]

@[simp] theorem drain_time (q : Nat) (s : State) : (drain q s).time = s.time := by
  unfold drain; split <;> simp

@[simp] theorem qpOn_time (f q v : Nat) (s : State) : (qpOn f q v s).time = s.time := by
  unfold qpOn; split_ifs <;> simp

@[simp] theorem qpOff_time (f q v : Nat) (s : State) : (qpOff f q v s).time = s.time := by
  unfold qpOff; split_ifs <;> simp

@[simp] theorem sqDoorbell_time (q v : Nat) (s : State) : (sqDoorbell q v s).time = s.time := by
  unfold sqDoorbell; dsimp only; split_ifs <;> simp

@[simp] theorem cqDoorbell_time (q v : Nat) (s : State) : (cqDoorbell q v s).time = s.time := by
  unfold cqDoorbell; dsimp only; split_ifs <;> simp

@[simp] theorem badTail_time (fh : Bool) (r : Nat) (s : State) : (badTail fh r s).time = s.time := by
  cases fh <;> simp [badTail]

@[simp] theorem thDoorbell_time (r v : Nat) (s : State) : (thDoorbell r v s).time = s.time := by
  unfold thDoorbell; split_ifs <;> simp

@[simp] theorem fhDoorbell_time (r v : Nat) (s : State) : (fhDoorbell r v s).time = s.time := by
  unfold fhDoorbell; split_ifs <;> simp

@[simp] theorem writeQp_time (f q off v : Nat) (s : State) : (writeQp f q off v s).time = s.time := by
  simp only [writeQp]; split <;> (try split_ifs) <;> simp

@[simp] theorem evtClear_time (k v : Nat) (s : State) : (evtClear k v s).time = s.time := by
  unfold evtClear; split_ifs <;> simp

@[simp] theorem writeSrcCfg_time (n v : Nat) (s : State) : (writeSrcCfg n v s).time = s.time := by
  simp only [writeSrcCfg, settle_time]; split_ifs <;> simp

@[simp] theorem msixUnmask_time (f v : Nat) (s : State) : (msixUnmask f v s).time = s.time := by
  simp only [msixUnmask]; split_ifs <;> simp

@[simp] theorem writeMsix_time (v0 off a v : Nat) (s : State) : (writeMsix v0 off a v s).time = s.time := by
  simp only [writeMsix]; split_ifs <;> simp

@[simp] theorem learnHeadWrite_time (v : Nat) (s : State) : (learnHeadWrite v s).time = s.time := by
  unfold learnHeadWrite; split_ifs <;> simp

@[simp] theorem chkPauseWrite_time (u v : Nat) (s : State) : (chkPauseWrite u v s).time = s.time := by
  unfold chkPauseWrite; split_ifs <;> simp

@[simp] theorem chkValueWrite_time (u v : Nat) (s : State) : (chkValueWrite u v s).time = s.time := by
  unfold chkValueWrite; split_ifs <;> simp

/-- A choice between two states that keep C keeps C. -/
theorem ite_time_c {p : Prop} [Decidable p] {x y s : State} (hx : x.time.c = s.time.c) (hy : y.time.c = s.time.c) :
    (if p then x else y).time.c = s.time.c := by
  split
  · exact hx
  · exact hy

/-- No register but RESET_CTRL reaches C (R216). The map is a chain of choices by range; in its last range, the check-value units, the
offset within a unit chooses. -/
theorem writeReg_time_c {f a : Nat} (ha : a ≠ 0x14) (v : Nat) (s : State) : (writeReg f a v s).time.c = s.time.c := by
  rw [writeReg, if_neg ha]
  dsimp only
  repeat' with_reducible apply ite_time_c
  all_goals try split
  all_goals simp

theorem registerWrite_time_c {a : Nat} (ha : a ≠ 0x14) (f v : Nat) (s : State) : (registerWrite f a v s).time.c = s.time.c := by
  unfold registerWrite
  split_ifs
  · rfl
  · rw [pf1Drop_time]
  · exact writeReg_time_c ha _ s

end Sys2Proof.Proofs
end

section
/-!
PROOFS. Reads of registers with a side effect (R5, R279, R539).
-/
namespace Sys2Proof.Proofs
open Machine Safety Laws

/-- The counter with its number in a row of counters. -/
theorem rcRow_find {n i : Nat} (hi : i < n) (base : Nat) (t : Tbl Nat) (put : Tbl Nat → State → State) :
    (rcRow base n t put).find? (·.1 = base + 4 * i) = some (base + 4 * i, tget 0 t i, put (tdel t i)) := by
  have hr : (List.range n).find? (fun j => decide (base + 4 * j = base + 4 * i)) = some i :=
    List.find?_range_eq_some.mpr ⟨by simp, by simpa using hi, fun j hj => by simp; omega⟩
  simp only [rcRow, List.find?_map, Function.comp_def, hr, Option.map_some]

/-- A row of registers lies below every offset past its last. -/
theorem regRow_lt {base step n bound : Nat} {f : Nat → Nat} (h : ∀ i < n, base + step * i < bound) : ∀ x ∈ regRow base step n f, x.1 < bound := by
  simpa [regRow] using h

/-- A read of counter i of a block whose counters are one row past all its other registers: the value, and that counter alone cleared. -/
theorem rcRead_counter {b base n i : Nat} {t : Tbl Nat} {put : Tbl Nat → State → State} {s : State} (hb : (base + 4 * i) / 0x10000 = b)
    (hro : ∀ x ∈ roRegs b s, x.1 < base) (hrc : rcRegs b s = rcRow base n t put) (hi : i < n) :
    rcRead (base + 4 * i) s = withHif (fun h => { h with readData := tget 0 t i }) (put (tdel t i) s) := by
  have hno : (roRegs b s).find? (·.1 = base + 4 * i) = none := by
    rw [List.find?_eq_none]
    intro x hx
    have := hro x hx
    simp only [decide_eq_true_eq]
    omega
  have hfind := rcRow_find hi base t put
  have hread : regRead s (base + 4 * i) = tget 0 t i := by
    simp only [regRead, blockRegs, hb, List.find?_append, hno, hrc, List.find?_map, Function.comp_def, hfind, Option.map_some, Option.none_or]
  simp only [rcRead, hread, hb, hrc, hfind]

/-! The counters of LANE, TM, TBL and SEC are one row each, past every other register of their block. -/

theorem rcRegs_lane (s : State) : rcRegs 0x05 s = rcRow 0x50810 9 s.lane.cnt (fun t => withLane (fun x => { x with cnt := t })) := rfl

theorem rcRegs_tm (s : State) : rcRegs 0x08 s = rcRow 0x80100 11 s.tm.cnt (fun t => withTm (fun x => { x with cnt := t })) := rfl

theorem rcRegs_tbl (s : State) : rcRegs 0x09 s = rcRow 0x90100 13 s.tbl.cnt (fun t => withTbl (fun x => { x with cnt := t })) := rfl

theorem rcRegs_sec (s : State) : rcRegs 0x0A s = rcRow 0xA0100 8 s.sec.cnt (fun t => withSec (fun x => { x with cnt := t })) := rfl

theorem laneRegs_below_counters (s : State) : ∀ x ∈ roRegs 0x05 s, x.1 < 0x50810 := by
  simp only [roRegs, laneRegs, List.forall_mem_append, List.forall_mem_singleton]
  exact ⟨⟨regRow_lt (by omega), regRow_lt (by omega)⟩, by decide⟩

theorem tmRegs_below_counters (s : State) : ∀ x ∈ roRegs 0x08 s, x.1 < 0x80100 := by
  simp [roRegs, tmRegs]

theorem tblRegs_below_counters (s : State) : ∀ x ∈ roRegs 0x09 s, x.1 < 0x90100 := by
  simp only [roRegs, tblRegs, List.forall_mem_append]
  exact ⟨⟨⟨regRow_lt (by omega), regRow_lt (by omega)⟩, by simp⟩, regRow_lt (by omega)⟩

theorem secRegs_below_counters (s : State) : ∀ x ∈ roRegs 0x0A s, x.1 < 0xA0100 :=
  regRow_lt (by omega)

/-- SYS.TICK is no counter that clears: a read of it has no side effect. -/
theorem rcRead_tick (s : State) : rcRead 0x18 s = withHif (fun h => { h with readData := fwTick s }) s := rfl

theorem recordRead_cons {s : State} {r : FwRec} {l : List FwRec} (h : s.fwall.records = r :: l) :
    recordRead s = { s with fwall := { s.fwall with records := l, latched := some r }, hif := { s.hif with readData := r.addr % 2 ^ 32 } } := by
  simp [recordRead, withHif, withFwall, h, lo32]

theorem recordRead_nil {s : State} (h : s.fwall.records = []) :
    recordRead s = { s with fwall := { s.fwall with latched := none }, hif := { s.hif with readData := 0 } } := by
  simp [recordRead, withHif, withFwall, h]

/-- Settles O20: each write is the register map's, and each read is that of the counter, the tick, the latch or the record. -/
theorem registerAccess : Obligations.RegisterAccess := by
  refine ⟨fun v s hz hv => ?_, fun s => ?_⟩
  · have hk : v % 65536 < 65536 := Nat.mod_lt _ (by decide)
    refine ⟨fun q hq => ⟨?_, ?_⟩, fun r hr => ⟨?_, ?_⟩, fun k hk => ?_, ?_, fun u hu => ⟨?_, ?_⟩, ?_, ?_, ?_, fun a ha hf hm => ?_, fun a => rfl,
      fun a hf => ?_, fun a hl hh => ?_, fun a t ha ht => ?_⟩
    · exact exec_registerWrite_pf0 hz (by omega) hv (writeReg_sqDoorbell hq v s)
    · exact exec_registerWrite_pf0 hz (by omega) hv (writeReg_cqDoorbell hq v s)
    · exact exec_registerWrite_pf0 hz (by omega) hv (writeReg_thDoorbell hr v s)
    · exact exec_registerWrite_pf0 hz (by omega) hv (writeReg_fhDoorbell hr v s)
    · exact exec_registerWrite_pf0 hz (by omega) hv (writeReg_evtClear hk v s)
    · exact exec_registerWrite_pf0 hz (by decide) hv (writeReg_learnHead 0 v s)
    · exact exec_registerWrite_pf0 hz (by omega) hv (writeReg_chkPause hu v s)
    · exact exec_registerWrite_pf0 hz (by omega) hv (writeReg_chkValue hu v s)
    · exact exec_registerWrite_pf0 hz (by decide) (by omega) (writeReg_resetCtrl_warm hk s)
    · exact exec_registerWrite_pf0 hz (by decide) (by omega) (writeReg_resetCtrl_full hk s)
    · exact exec_registerWrite_pf0 hz (by decide) hv (writeReg_tmQsel 0 v s)
    · exact congrArg Host.Outcome.next (registerWrite_pf1_notAllowed ha hf hm)
    · exact congrArg Host.Outcome.next (registerWrite_frozen hf)
    · exact congrArg Host.Outcome.next (registerWrite_timeReadOnly hl hh v s)
    · obtain rfl : registerWrite 0 a v s = t := by injection ht
      exact registerWrite_time_c ha 0 v s
  · refine ⟨fun i hi => ?_, fun i hi => ?_, fun i hi => ?_, fun i hi => ?_, fun a ha => ?_, rfl, fun r l hr => ?_, fun hr => ?_⟩
    · exact congrArg Host.Outcome.next (rcRead_counter (by omega) (laneRegs_below_counters s) (rcRegs_lane s) hi)
    · exact congrArg Host.Outcome.next (rcRead_counter (by omega) (tmRegs_below_counters s) (rcRegs_tm s) hi)
    · exact congrArg Host.Outcome.next (rcRead_counter (by omega) (tblRegs_below_counters s) (rcRegs_tbl s) hi)
    · exact congrArg Host.Outcome.next (rcRead_counter (by omega) (secRegs_below_counters s) (rcRegs_sec s) hi)
    · subst ha
      exact congrArg Host.Outcome.next (rcRead_tick s)
    · exact congrArg Host.Outcome.next (recordRead_cons hr)
    · exact congrArg Host.Outcome.next (recordRead_nil hr)

end Sys2Proof.Proofs
end

section
/-!
PROOFS. The queue of waiting commands (R30).
-/
namespace Sys2Proof.Proofs
open Machine Safety

/-- Settles O1: with a command at the front of the queue, a step is that command's row. -/
theorem stepRunsFrontCommand : Obligations.StepRunsFrontCommand := by
  intro c rest s h
  simp only [step, h]

end Sys2Proof.Proofs
end

section
/-!
PROOFS. What the operations on a lane read and leave alone: its logical and its physical entry, its assignment, the end of its frame (R186, R188).
-/
namespace Sys2Proof.Proofs
open Machine Safety Laws

/-! One entry of the lane tables. -/

@[simp] theorem laneOf_withLaneN_same (n : Nat) (f : LaneSt → LaneSt) (s : State) : laneOf (withLaneN n f s) n = f (laneOf s n) :=
  tget_tput_same ..

theorem laneOf_withLaneN_other {n m : Nat} (h : m ≠ n) (f : LaneSt → LaneSt) (s : State) : laneOf (withLaneN n f s) m = laneOf s m :=
  tget_tput_other _ _ _ h.symm

@[simp] theorem physOf_withPhys_same (p : Nat) (f : PhysSt → PhysSt) (s : State) : physOf (withPhys p f s) p = f (physOf s p) :=
  tget_tput_same ..

theorem physOf_withPhys_other {p q : Nat} (h : q ≠ p) (f : PhysSt → PhysSt) (s : State) : physOf (withPhys p f s) q = physOf s q :=
  tget_tput_other _ _ _ h.symm

@[simp] theorem physOf_withLaneN (n : Nat) (f : LaneSt → LaneSt) (s : State) (p : Nat) : physOf (withLaneN n f s) p = physOf s p := rfl

@[simp] theorem laneOf_withPhys (p : Nat) (f : PhysSt → PhysSt) (s : State) (n : Nat) : laneOf (withPhys p f s) n = laneOf s n := rfl

@[simp] theorem laneOf_tunePhys (p : Nat) (u : Option LaneTune) (s : State) (n : Nat) : laneOf (tunePhys p u s) n = laneOf s n := rfl

theorem physOf_tunePhys_other {p q : Nat} (h : q ≠ p) (u : Option LaneTune) (s : State) : physOf (tunePhys p u s) q = physOf s q :=
  physOf_withPhys_other h _ s

/-- Tuning a physical lane sets what it is tuned to, with the bins of the channel, and nothing else of it. -/
theorem physOf_tunePhys_same (p : Nat) (u : Option LaneTune) (s : State) :
    ∃ first count, physOf (tunePhys p u s) p = { physOf s p with tune := u, binFirst := first, binCount := count } :=
  ⟨_, _, physOf_withPhys_same ..⟩

/-- Raising an event reaches no lane. -/
@[simp] theorem raise_lane (n : Nat) (s : State) : (raise n s).lane = s.lane := by rw [raise_only]

/-! A lane takes an assignment (R184, R186). -/

/-- What a physical lane of a logical lane with this assignment is tuned to before an entry: a planned lane waits for one. -/
def tunedBy : Option LaneTune → Option LaneTune
  | some u => if u.planned then none else some u
  | none => none

theorem applyAssign_only (n : Nat) (a : Option LaneTune) (s : State) : applyAssign n a s = { s with lane := (applyAssign n a s).lane } := rfl

theorem laneOf_applyAssign_same (n : Nat) (a : Option LaneTune) (s : State) :
    laneOf (applyAssign n a s) n = { laneOf s n with assign := a, deferred := none, entry := none, entryNext := none, window := false } := by
  simp [applyAssign]

theorem laneOf_applyAssign_other {n m : Nat} (h : m ≠ n) (a : Option LaneTune) (s : State) : laneOf (applyAssign n a s) m = laneOf s m := by
  simp [applyAssign, laneOf_withLaneN_other h]

/-- The physical lane that an assignment tunes. -/
theorem applyAssign_tunes (n : Nat) (a : Option LaneTune) (s : State) :
    applyAssign n a s = tunePhys (lanePhys s n) (tunedBy a)
      (withLaneN n (fun l => { l with assign := a, deferred := none, entry := none, entryNext := none, window := false }) s) := by
  simp only [applyAssign, lanePhys, laneOf_withLaneN_same]
  rfl

theorem physOf_applyAssign_other {n q : Nat} {s : State} (h : q ≠ lanePhys s n) (a : Option LaneTune) :
    physOf (applyAssign n a s) q = physOf s q := by
  rw [applyAssign_tunes, physOf_tunePhys_other h, physOf_withLaneN]

theorem tune_applyAssign (n : Nat) (a : Option LaneTune) (s : State) : (physOf (applyAssign n a s) (lanePhys s n)).tune = tunedBy a := by
  rw [applyAssign_tunes]
  obtain ⟨first, count, he⟩ := physOf_tunePhys_same (lanePhys s n) (tunedBy a)
    (withLaneN n (fun l => { l with assign := a, deferred := none, entry := none, entryNext := none, window := false }) s)
  rw [he]

/-! Frames end (R188, R191, R208, R419). -/

/-- What the end of a frame can do to the part: it reaches the lanes, the check-value units and the events; it leaves no record in a chain's queue,
clears no cause bit and starts no frame. -/
structure EndsFrames (s t : State) : Prop where
  blocks : ∃ l k e, t = { s with lane := l, chk := k, evt := e }
  fabric : t.lane.fabric = s.lane.fabric
  causes : ∀ n, s.evt.cause.testBit n = true → t.evt.cause.testBit n = true
  frames : ∀ p, (physOf s p).frame = none → (physOf t p).frame = none

theorem EndsFrames.refl (s : State) : EndsFrames s s :=
  ⟨⟨_, _, _, rfl⟩, rfl, fun _ => id, fun _ => id⟩

theorem EndsFrames.trans {s t u : State} (h : EndsFrames s t) (k : EndsFrames t u) : EndsFrames s u := by
  refine ⟨?_, k.fabric.trans h.fabric, fun n => k.causes n ∘ h.causes n, fun p => k.frames p ∘ h.frames p⟩
  obtain ⟨l, c, e, rfl⟩ := h.blocks
  obtain ⟨l', c', e', rfl⟩ := k.blocks
  exact ⟨l', c', e', rfl⟩

/-- A choice between two ends of frames. -/
theorem EndsFrames.ite {p : Prop} [Decidable p] {s t u : State} (h : EndsFrames s t) (k : EndsFrames s u) : EndsFrames s (if p then t else u) := by
  split
  · exact h
  · exact k

theorem EndsFrames.foldl {α : Type} {f : State → α → State} (hf : ∀ s x, EndsFrames s (f s x)) (l : List α) (s : State) :
    EndsFrames s (l.foldl f s) := by
  induction l generalizing s with
  | nil => exact .refl s
  | cons x l ih => exact (hf s x).trans (ih _)

theorem raise_keeps_causes (i : Nat) {n : Nat} {s : State} (h : s.evt.cause.testBit n = true) : (raise i s).evt.cause.testBit n = true := by
  rw [raise_cause]
  split
  · simp [setBit, h]
  · exact h

theorem endsFrames_raiseIf (b : Bool) (i : Nat) (s : State) : EndsFrames s (raiseIf b i s) := by
  cases b with
  | false => exact .refl s
  | true =>
    change EndsFrames s (raise i s)
    have hl : (raise i s).lane = s.lane := raise_lane i s
    refine ⟨⟨s.lane, s.chk, _, raise_only i s⟩, congrArg (·.fabric) hl, fun _ => raise_keeps_causes i, fun p hp => ?_⟩
    rwa [physOf, hl]

theorem endsFrames_withChkU (u : Nat) (f : ChkSt → ChkSt) (s : State) : EndsFrames s (withChkU u f s) :=
  ⟨⟨s.lane, _, s.evt, rfl⟩, rfl, fun _ => id, fun _ => id⟩

theorem endsFrames_chkResult (u : Nat) (data : List Byte) (abort spawned : Bool) (v : Nat) (s : State) :
    EndsFrames s (chkResult u data abort spawned v s) :=
  (endsFrames_withChkU u _ s).trans (endsFrames_raiseIf ..)

theorem endsFrames_chkFrameEnd (n : Nat) (data : List Byte) (abort spawned : Bool) (u : Nat) (s : State) :
    EndsFrames s (chkFrameEnd n data abort spawned u s) := by
  unfold chkFrameEnd
  refine .ite (.refl s) (.ite (endsFrames_withChkU ..) (.ite ?_ (endsFrames_withChkU ..)))
  exact (EndsFrames.ite (.refl s) (endsFrames_withChkU ..)).trans (endsFrames_chkResult ..)

theorem endsFrames_chkEnds (n : Nat) (data : List Byte) (abort spawned : Bool) (s : State) : EndsFrames s (chkEnds n data abort spawned s) :=
  .foldl (fun s u => endsFrames_chkFrameEnd n data abort spawned u s) _ s

theorem endsFrames_withLaneN (n : Nat) (f : LaneSt → LaneSt) (s : State) : EndsFrames s (withLaneN n f s) :=
  ⟨⟨_, s.chk, s.evt, rfl⟩, rfl, fun _ => id, fun _ => id⟩

theorem endsFrames_countLane (n i : Nat) (s : State) : EndsFrames s (countLane n i s) :=
  (EndsFrames.ite (endsFrames_withLaneN ..) (.refl s)).trans ⟨⟨_, _, _, rfl⟩, rfl, fun _ => id, fun _ => id⟩

/-- An update of a physical lane that starts no frame on it. -/
theorem endsFrames_withPhys {p : Nat} {f : PhysSt → PhysSt} (hf : ∀ x, x.frame = none → (f x).frame = none) (s : State) :
    EndsFrames s (withPhys p f s) := by
  refine ⟨⟨_, s.chk, s.evt, rfl⟩, rfl, fun _ => id, fun q hq => ?_⟩
  by_cases h : q = p
  · subst h
    rw [physOf_withPhys_same]
    exact hf _ hq
  · rwa [physOf_withPhys_other h]

theorem endsFrames_tunePhys (p : Nat) (u : Option LaneTune) (s : State) : EndsFrames s (tunePhys p u s) :=
  endsFrames_withPhys (by exact fun _ h => h) s

theorem endsFrames_toPool (p : Nat) (s : State) : EndsFrames s (toPool p s) :=
  (endsFrames_withPhys (by exact fun _ h => h) s).trans (endsFrames_tunePhys ..)

theorem endsFrames_endFrame (p : Nat) (s : State) : EndsFrames s (endFrame p s) :=
  (endsFrames_withPhys (fun _ _ => rfl) s).trans (.ite (endsFrames_toPool ..) (.refl _))

theorem endsFrames_loseFrame (p : Nat) (cause : Option Nat) (s : State) : EndsFrames s (loseFrame p cause s) := by
  unfold loseFrame
  split
  · exact .refl s
  · refine EndsFrames.trans ?_ ((endsFrames_withPhys (fun _ _ => rfl) _).trans (endsFrames_withLaneN ..))
    cases cause with
    | none => exact .ite (endsFrames_chkEnds ..) (.refl s)
    | some i => exact (EndsFrames.ite (endsFrames_chkEnds ..) (.refl s)).trans (endsFrames_countLane ..)

theorem endsFrames_abortFrame (p : Nat) (cause : Option Nat) (s : State) : EndsFrames s (abortFrame p cause s) :=
  .ite ((endsFrames_loseFrame ..).trans (endsFrames_endFrame ..)) (.refl s)

theorem frame_endFrame (p : Nat) (s : State) : (physOf (endFrame p s) p).frame = none :=
  (EndsFrames.ite (endsFrames_toPool ..) (.refl _)).frames p (by rw [physOf_withPhys_same])

/-- An aborted lane has no frame. -/
theorem frame_abortFrame (p : Nat) (cause : Option Nat) (s : State) : (physOf (abortFrame p cause s) p).frame = none := by
  unfold abortFrame
  split
  · exact frame_endFrame ..
  · next h => simpa using h

/-- There is nothing to abort on a lane with no frame. -/
theorem abortFrame_idle {p : Nat} {s : State} (h : (physOf s p).frame = none) (cause : Option Nat) : abortFrame p cause s = s := by
  simp [abortFrame, h]

end Sys2Proof.Proofs
end

section
/-!
PROOFS. The commands of a logical lane (R10, R140, R184-R186, R191, R214, R215): first what each meaning comes to, in any state, then the command
path around it.
-/
namespace Sys2Proof.Proofs
open Machine Safety Laws

/-! LANE_ASSIGN. -/

/-- The assignment that LANE_ASSIGN asks for (R184). -/
def askedAssign (p : LaneAssignP) : Option LaneTune :=
  if p.chain = 0xFF then none
  else some { chain := p.chain, planned := p.kind = 1, channel := if p.kind = 1 then 0 else p.channel, phy := if p.kind = 1 then 0 else p.phyMode }

theorem tunedBy_askedAssign (p : LaneAssignP) : tunedBy (askedAssign p) = if p.chain = 0xFF ∨ p.kind = 1 then none else askedAssign p := by
  by_cases hc : p.chain = 0xFF <;> by_cases hk : p.kind = 1 <;> simp [askedAssign, tunedBy, hc, hk]

/-- LANE_ASSIGN may be carried out (R140, R185). -/
def assignAllowed (n : Nat) (p : LaneAssignP) (s : State) : Prop := p.chain = 0xFF ∨ assignRefusal n p s = stOk

theorem assignRefusal_badChain {p : LaneAssignP} (h : 3 < p.chain) (n : Nat) (s : State) : assignRefusal n p s = stBadParam := by
  simp [assignRefusal, h]

/-- An assignment that another fixed lane holds passes every check but the last (R185). -/
theorem assignRefusal_twin {n f : Nat} {p : LaneAssignP} {s : State} (hp : p.chain ≤ 3) (hk : p.kind = 0)
    (hc : (chainOf s p.chain).centre ≠ 0) (hv : (chainOf s p.chain).service = 0) (hl : (chainOf s p.chain).rxLock = true)
    (ho : phyOk p.phyMode = true) (hf : channelCentre (chainOf s p.chain) p.phyMode p.channel = some f)
    (hw : inWindow (chainOf s p.chain) p.phyMode f = true) (ht : fixedTwin s n f p.phyMode = true) : assignRefusal n p s = stDuplicate := by
  simp [assignRefusal, hk, hc, hv, hl, ho, hf, hw, ht, Nat.not_lt.mpr hp]

theorem laneAssign_out {h : Hdr} {p : LaneAssignP} {s : State} (ho : laneOut s h.flow = true) : laneAssign h p s = refuse s stDegraded := by
  simp [laneAssign, ho]

theorem laneAssign_refused {h : Hdr} {p : LaneAssignP} {s : State} (ho : laneOut s h.flow = false) (hc : p.chain ≠ 0xFF)
    (hr : assignRefusal h.flow p s ≠ stOk) : laneAssign h p s = refuse s (assignRefusal h.flow p s) := by
  simp [laneAssign, ho, hc, hr]

theorem laneAssign_badChain {h : Hdr} {p : LaneAssignP} {s : State} (ho : laneOut s h.flow = false) (hc : 3 < p.chain) (hf : p.chain ≠ 0xFF) :
    laneAssign h p s = refuse s stBadParam := by
  have hr := assignRefusal_badChain hc h.flow s
  rw [laneAssign_refused ho hf (by rw [hr]; decide), hr]

/-- An assignment allowed takes effect between frames: at once, or after the frame in progress (R10, R186). -/
theorem laneAssign_allowed {h : Hdr} {p : LaneAssignP} {s : State} (ho : laneOut s h.flow = false) (ha : assignAllowed h.flow p s) :
    laneAssign h p s =
      if laneBusy s h.flow then
        done (withLaneN h.flow (fun l => { l with deferred := some (askedAssign p) }) s) (assignReply s h.flow (askedAssign p))
      else done (applyAssign h.flow (askedAssign p) s) (assignReply s h.flow (askedAssign p)) := by
  have hst : (if p.chain = 0xFF then stOk else assignRefusal h.flow p s) = stOk := by
    split
    · rfl
    · next hc => exact ha.resolve_left hc
  simp only [laneAssign, ho, hst]
  rfl

theorem laneAssign_deferred {h : Hdr} {p : LaneAssignP} {s : State} (ho : laneOut s h.flow = false) (ha : assignAllowed h.flow p s)
    (hb : laneBusy s h.flow = true) : laneAssign h p s =
      done (withLaneN h.flow (fun l => { l with deferred := some (askedAssign p) }) s) (assignReply s h.flow (askedAssign p)) := by
  rw [laneAssign_allowed ho ha, if_pos hb]

theorem laneAssign_now {h : Hdr} {p : LaneAssignP} {s : State} (ho : laneOut s h.flow = false) (ha : assignAllowed h.flow p s)
    (hb : laneBusy s h.flow = false) : laneAssign h p s = done (applyAssign h.flow (askedAssign p) s) (assignReply s h.flow (askedAssign p)) := by
  rw [laneAssign_allowed ho ha, hb]
  rfl

/-! LANE_PHY_CFG, LANE_CAPTURE_CFG and LANE_STATUS (R214, R215). -/

theorem lanePhyCfg_out {h : Hdr} {p : LanePhyCfgP} {s : State} (ho : (laneOf s h.flow).outOfService = true) :
    lanePhyCfg h p s = refuse s stDegraded := by
  simp [lanePhyCfg, ho]

theorem lanePhyCfg_bad {h : Hdr} {p : LanePhyCfgP} {s : State} (ho : (laneOf s h.flow).outOfService = false) (hp : phyCfgOk p = false) :
    lanePhyCfg h p s = refuse s stBadParam := by
  simp [lanePhyCfg, ho, hp]

theorem lanePhyCfg_ok {h : Hdr} {p : LanePhyCfgP} {s : State} (ho : (laneOf s h.flow).outOfService = false) (hp : phyCfgOk p = true) :
    lanePhyCfg h p s = done (withLaneN h.flow (fun l => { l with cfg := tput l.cfg p.phyMode {
      detThreshold := p.detThreshold, edFloor := p.edFloor, maxPreambleUs := p.maxPreambleUs, maxPsdu := p.maxPsdu, fskFec := p.fskFec = 1,
      fskWhitening := p.fskWhitening = 1, fskSfdSet := p.fskSfdSet, rateMask := p.rateMask, mcsMask := p.mcsMask } }) s) := by
  simp [lanePhyCfg, ho, hp]

theorem laneCaptureCfg_badOp {h : Hdr} {p : LaneCaptureCfgP} {s : State} (ho : (laneOf s h.flow).outOfService = false) (hp : 1 < p.op) :
    laneCaptureCfg h p s = refuse s stBadParam := by
  have h0 : p.op ≠ 0 := by omega
  have h1 : p.op ≠ 1 := by omega
  simp [laneCaptureCfg, ho, h0, h1]

/-- The ranges of packet capture (R214). -/
def captureOk (p : LaneCaptureCfgP) : Prop := 12 ≤ p.captureMargin ∧ p.captureMargin ≤ 80 ∧ p.spawnEnable ≤ 1

/-- The ranges of a sample snapshot (R214). -/
def snapshotOk (p : LaneCaptureCfgP) : Prop := p.trigger ≤ 3 ∧ p.comparator ≤ 15 ∧ p.preUs ≤ 1000 ∧ 1024 ≤ p.samples ∧ p.samples ≤ 65536

theorem captureOk_iff (p : LaneCaptureCfgP) : captureOk p ↔
    (decide (p.captureMargin < 12) || decide (80 < p.captureMargin) || decide (1 < p.spawnEnable)) = false := by
  simp [captureOk, and_assoc]

theorem snapshotOk_iff (p : LaneCaptureCfgP) : snapshotOk p ↔
    (decide (3 < p.trigger) || decide (15 < p.comparator) || decide (1000 < p.preUs) || decide (p.samples < 1024) ||
      decide (65536 < p.samples)) = false := by
  simp [snapshotOk, and_assoc]

theorem laneCaptureCfg_badCapture {h : Hdr} {p : LaneCaptureCfgP} {s : State} (ho : (laneOf s h.flow).outOfService = false) (hp : p.op = 0)
    (hr : ¬ captureOk p) : laneCaptureCfg h p s = refuse s stBadParam := by
  rw [captureOk_iff, Bool.not_eq_false] at hr
  simp only [laneCaptureCfg, ho, hp, hr]
  rfl

theorem laneCaptureCfg_capture {h : Hdr} {p : LaneCaptureCfgP} {s : State} (ho : (laneOf s h.flow).outOfService = false) (hp : p.op = 0)
    (hr : captureOk p) : laneCaptureCfg h p s =
      done (withLaneN h.flow (fun l => { l with captureMargin := p.captureMargin, spawnEnable := p.spawnEnable = 1 }) s) := by
  rw [captureOk_iff] at hr
  simp only [laneCaptureCfg, ho, hp, hr]
  rfl

theorem laneCaptureCfg_badSnapshot {h : Hdr} {p : LaneCaptureCfgP} {s : State} (ho : (laneOf s h.flow).outOfService = false) (hp : p.op = 1)
    (hr : ¬ snapshotOk p) : laneCaptureCfg h p s = refuse s stBadParam := by
  rw [snapshotOk_iff, Bool.not_eq_false] at hr
  simp only [laneCaptureCfg, ho, hp, hr]
  rfl

theorem laneCaptureCfg_snapshot {h : Hdr} {p : LaneCaptureCfgP} {s : State} (ho : (laneOf s h.flow).outOfService = false) (hp : p.op = 1)
    (hr : snapshotOk p) (hn : (laneOf s h.flow).snapshot = none) : laneCaptureCfg h p s =
      { st := tick1 (withLaneN h.flow (fun l => { l with snapshot := some {
          job := freshJob s, trigger := p.trigger, comparator := p.comparator, preUs := p.preUs, samples := p.samples, buffer := p.bufferAddr,
          running := p.trigger = 0 } }) s),
        status := stPending, info := freshJob s } := by
  rw [snapshotOk_iff] at hr
  simp only [laneCaptureCfg, ho, hp, hr, hn]
  rfl

/-- A job number is never 0 and has 16 bits (R117). -/
theorem freshJob_range (s : State) : 1 ≤ freshJob s ∧ freshJob s ≤ 0xFFFF := by
  unfold freshJob
  omega

theorem laneStatus_bad {h : Hdr} {p : LaneStatusP} (hp : 1 < p.clear) (s : State) : laneStatus h p s = refuse s stBadParam := by
  simp [laneStatus, hp]

theorem laneStatus_read {h : Hdr} {p : LaneStatusP} (hp : p.clear = 0) (s : State) : laneStatus h p s = done s (laneStatusReply s h.flow) := by
  simp [laneStatus, hp]

theorem laneStatus_clear {h : Hdr} {p : LaneStatusP} (hp : p.clear = 1) (s : State) :
    laneStatus h p s = done (withLaneN h.flow (fun l => { l with cnt := [] }) s) (laneStatusReply s h.flow) := by
  simp [laneStatus, hp]

/-! LANE_FLUSH (R191). -/

/-- The physical lanes whose frames LANE_FLUSH ends. -/
def flushed (s : State) (n : Nat) : List Nat := lanePhys s n :: (spawnOf s n).toList

/-- The lanes that LANE_FLUSH ends, one after another. -/
def abortAll (l : List Nat) (s : State) : State := l.foldl (fun s q => abortFrame q none s) s

theorem endsFrames_abortAll (l : List Nat) (s : State) : EndsFrames s (abortAll l s) :=
  .foldl (fun s q => endsFrames_abortFrame q none s) l s

theorem abortAll_idle {l : List Nat} {s : State} (h : ∀ q ∈ l, (physOf s q).frame = none) : abortAll l s = s := by
  induction l with
  | nil => rfl
  | cons q l ih =>
    rw [List.forall_mem_cons] at h
    change abortAll l (abortFrame q none s) = s
    rw [abortFrame_idle h.1, ih h.2]

/-- The first lane's frame ends, and ending the others starts none. -/
theorem frame_abortAll_head (q : Nat) (l : List Nat) (s : State) : (physOf (abortAll (q :: l) s) q).frame = none :=
  (endsFrames_abortAll l _).frames q (frame_abortFrame ..)

theorem laneFlush_out {h : Hdr} {p : LaneFlushP} {s : State} (ho : (laneOf s h.flow).outOfService = true) :
    laneFlush h p s = refuse s stDegraded := by
  simp [laneFlush, ho]

theorem laneFlush_idle {h : Hdr} {p : LaneFlushP} {s : State} (ho : (laneOf s h.flow).outOfService = false)
    (hf : ∀ q ∈ flushed s h.flow, (physOf s q).frame = none) : laneFlush h p s = done s [0] := by
  have hb : (flushed s h.flow).any (fun q => (physOf s q).frame.isSome) = false := by
    simp only [List.any_eq_false, Bool.not_eq_true, Option.isSome_eq_false_iff, Option.isNone_iff_eq_none]
    exact hf
  have hs := abortAll_idle hf
  simp only [flushed, abortAll] at hb hs
  simp only [laneFlush, ho, hb, hs]
  rfl

theorem laneFlush_busy {h : Hdr} {p : LaneFlushP} {s : State} (ho : (laneOf s h.flow).outOfService = false)
    (hf : (physOf s (lanePhys s h.flow)).frame.isSome = true) :
    laneFlush h p s = { st := abortAll (flushed s h.flow) s, status := stFlushed, data := [1] } := by
  simp only [laneFlush, ho, List.any_cons, hf, Bool.true_or]
  rfl

/-! LANE_BITLOAD (R203-R205). -/

theorem rising_iff (l : List Nat) : rising l = true ↔ l.Pairwise (· < ·) := by
  rw [← List.isChain_iff_pairwise]
  induction l with
  | nil => simp [rising]
  | cons a t ih =>
    cases t with
    | nil => simp [rising]
    | cons b t => simp [rising, ih]

/-- The ranges of LANE_BITLOAD. -/
def bitloadOk (p : LaneBitloadP) : Prop :=
  p.margin ≤ 48 ∧ p.thr.length = 4 ∧ (∀ x ∈ p.thr, x ≤ 255) ∧ p.thr.Pairwise (· < ·) ∧ 1 ≤ p.minChange ∧ p.minChange ≤ 96 ∧ p.ratePolicy ≤ 3 ∧
    p.nullPeriod ≤ 3

theorem bitloadOk_iff (p : LaneBitloadP) : bitloadOk p ↔
    (decide (48 < p.margin) || decide (p.thr.length ≠ 4) || p.thr.any (255 < ·) || !rising p.thr || decide (p.minChange = 0) ||
      decide (96 < p.minChange) || decide (3 < p.ratePolicy) || decide (3 < p.nullPeriod)) = false := by
  simp [bitloadOk, ← rising_iff, and_assoc, Nat.one_le_iff_ne_zero]

theorem laneBitload_badOp {p : LaneBitloadP} (hp : 1 < p.op) (h : Hdr) (s : State) : laneBitload h p s = refuse s stBadParam := by
  have h0 : p.op ≠ 0 := by omega
  have h1 : p.op ≠ 1 := by omega
  simp [laneBitload, h0, h1]

theorem laneBitload_bad {p : LaneBitloadP} (hp : p.op = 0) (hr : ¬ bitloadOk p) (h : Hdr) (s : State) :
    laneBitload h p s = refuse s stBadParam := by
  rw [bitloadOk_iff, Bool.not_eq_false] at hr
  simp only [laneBitload, hp, hr]
  rfl

theorem laneBitload_set {p : LaneBitloadP} (hp : p.op = 0) (hr : bitloadOk p) (h : Hdr) (s : State) :
    laneBitload h p s = done (withLane (fun b => { b with
      margin := p.margin, thr := p.thr, minChange := p.minChange, ratePolicy := p.ratePolicy, nullPeriod := p.nullPeriod }) s) := by
  rw [bitloadOk_iff] at hr
  simp only [laneBitload, hp, hr]
  rfl

theorem laneBitload_read {p : LaneBitloadP} (hp : p.op = 1) (h : Hdr) (s : State) :
    laneBitload h p s = done s (le 1 s.lane.margin ++ (s.lane.thr.map (le 1)).flatten ++ le 1 s.lane.minChange ++ le 1 s.lane.ratePolicy ++
      le 1 s.lane.nullPeriod) := by
  simp [laneBitload, hp]

/-- A frame in progress ends with no record, and the reply says so (R191): only the lanes, the check-value units and the events have changed. -/
theorem exec_laneFlush_busy {h : Hdr} {p : LaneFlushP} {s : State} (hr : Ready h (.laneFlush p) s)
    (ho : (laneOf s h.flow).outOfService = false) (hf : (physOf s (lanePhys s h.flow)).frame.isSome = true) :
    ∃ t, exec (.laneFlush h p) s = .next t ∧ t.hif = answered h (.laneFlush p) stFlushed 0 [1] s ∧
      (physOf t (lanePhys s h.flow)).frame = none ∧ t.lane.fabric = s.lane.fabric ∧ t.tm = s.tm := by
  have he := endsFrames_abortAll (flushed s h.flow) (inFlightWith h (.laneFlush p) s)
  have hq := frame_abortAll_head (lanePhys s h.flow) (spawnOf s h.flow).toList (inFlightWith h (.laneFlush p) s)
  obtain ⟨l, k, e, hs⟩ := he.blocks
  exact ⟨_, agentRun_answers hr _ (laneFlush_busy ho hf) (congrArg (·.hif) hs) (congrArg (·.time.c) hs) rfl rfl, rfl, hq, he.fabric,
    congrArg (·.tm) hs⟩

/-- Settles O37: each command is Ready, so its reply is what its meaning comes to. -/
theorem laneCommands : Obligations.LaneCommands := by
  intro h s
  refine ⟨fun p hr => ?_, fun p hr => ?_, fun p hr ho => ?_, fun p hr => ?_, fun p hr => ?_, fun p hr => ?_⟩
  · refine ⟨fun ho => agentRun_refuses hr (laneAssign_out ho), fun ho hc hf => agentRun_refuses hr (laneAssign_badChain ho hc hf),
      fun ho hf hx => agentRun_refuses hr (laneAssign_refused ho hf hx),
      fun f hc hk hn hv hl hp hf hw ht => assignRefusal_twin hc hk hn hv hl hp hf hw ht,
      fun ho ha hb => agentRun_answers hr _ (laneAssign_deferred ho ha hb) rfl rfl rfl rfl, fun ho ha hb => ?_⟩
    exact ⟨_, agentRun_answers hr _ (laneAssign_now ho ha hb) rfl rfl rfl rfl, rfl, laneOf_applyAssign_same ..,
      fun m hm => laneOf_applyAssign_other hm .., fun m hm => physOf_applyAssign_other hm _, (tune_applyAssign ..).trans (tunedBy_askedAssign p)⟩
  · exact ⟨fun ho => agentRun_refuses hr (lanePhyCfg_out ho), fun ho hp => agentRun_refuses hr (lanePhyCfg_bad ho hp),
      fun ho hp => agentRun_answers hr _ (lanePhyCfg_ok ho hp) rfl rfl rfl rfl⟩
  · refine ⟨fun hp => agentRun_refuses hr (laneCaptureCfg_badOp ho hp), fun hp hx => agentRun_refuses hr (laneCaptureCfg_badCapture ho hp hx),
      fun hp hx => agentRun_refuses hr (laneCaptureCfg_badSnapshot ho hp hx),
      fun hp hx => agentRun_answers hr _ (laneCaptureCfg_capture ho hp hx) rfl rfl rfl rfl, fun hp hx hn => ?_⟩
    obtain ⟨hl, hu⟩ := freshJob_range s
    exact ⟨freshJob s, hl, hu, agentRun_answers hr _ (laneCaptureCfg_snapshot ho hp hx hn) rfl rfl rfl rfl⟩
  · exact ⟨fun hp => agentRun_refuses hr (laneStatus_bad hp _), fun hp => agentRun_answers hr _ (laneStatus_read hp _) rfl rfl rfl rfl,
      fun hp => agentRun_answers hr _ (laneStatus_clear hp _) rfl rfl rfl rfl⟩
  · refine ⟨fun ho => agentRun_refuses hr (laneFlush_out ho), fun ho hq hx => ?_, exec_laneFlush_busy hr⟩
    have hf : ∀ q ∈ flushed s h.flow, (physOf s q).frame = none := by simpa [flushed, hq] using hx
    exact agentRun_answers hr _ (laneFlush_idle ho hf) rfl rfl rfl rfl
  · exact ⟨fun hp => agentRun_refuses hr (laneBitload_badOp hp h _), fun hp hx => agentRun_refuses hr (laneBitload_bad hp hx h _),
      fun hp hx => agentRun_answers hr _ (laneBitload_set hp hx h _) rfl rfl rfl rfl,
      fun hp => agentRun_answers hr _ (laneBitload_read hp h _) rfl rfl rfl rfl⟩

end Sys2Proof.Proofs
end

section
/-!
PROOFS. What happens to a receive lane by itself (R10, R186, R187, R196-R198, R214).
-/
namespace Sys2Proof.Proofs
open Machine Safety Laws

/-! Listen windows and what waits for the end of a frame (R10, R186, R187). -/

theorem listenOpen_onEntry {n : Nat} {s : State} (he : (laneOf s n).entry.isSome = true) (hn : (laneOf s n).entryNext = none) :
    listenOpen n s = withLaneN n (fun l => { l with window := true }) s := by
  simp [listenOpen, he, hn]

theorem listenOpen_idle {n : Nat} {s : State} (h : (laneOf s n).entry = none ∨ (laneOf s n).entryNext.isSome = true) : listenOpen n s = s := by
  refine if_neg ?_
  rw [Bool.and_eq_true, Option.isNone_iff_eq_none]
  rintro ⟨he, hn⟩
  rcases h with h | h
  · simp [h] at he
  · simp [hn] at h

theorem listenClose_open {n : Nat} {s : State} (h : (laneOf s n).window = true) :
    listenClose n s = withLaneN n (fun l => { l with window := false }) s := by
  simp [listenClose, h]

theorem deferredApply_busy {n : Nat} {s : State} (h : laneBusy s n = true) : deferredApply n s = s := by
  simp [deferredApply, h]

theorem deferredApply_assign {n : Nat} {s : State} {a : Option LaneTune} (h : laneBusy s n = false) (ha : (laneOf s n).deferred = some a) :
    deferredApply n s = applyAssign n a s := by
  simp [deferredApply, h, ha]

/-! Events that a lane raises. -/

theorem setBit_of_set {c n : Nat} (h : c.testBit n = true) : setBit c n = c := by
  refine Nat.eq_of_testBit_eq fun i => ?_
  by_cases hi : n = i
  · subst hi; simp [setBit, h]
  · simp [setBit, Nat.testBit_two_pow_of_ne hi]

theorem raise_causeAfter (n : Nat) (s : State) : (raise n s).evt.cause = causeAfter n s := by
  rw [raise_cause, causeAfter]
  cases hb : s.evt.cause.testBit n with
  | false => simp
  | true => simp [setBit_of_set hb]

theorem raise_sets {n : Nat} {s : State} (h : (srcCfgOf s n).enable = true) : (raise n s).evt.cause.testBit n = true := by
  rw [raise_causeAfter, causeAfter, if_pos h]
  simp [setBit]

/-! A physical lane fails (R197). -/

/-- What the loss of a logical lane's physical lane can do: it reaches the logical lanes, the events and the degraded reasons, and clears no cause
bit. -/
structure LosesLane (s t : State) : Prop where
  blocks : ∃ l e g, t = { s with lane := { s.lane with lanes := l }, evt := e, hlth := g }
  causes : ∀ n, s.evt.cause.testBit n = true → t.evt.cause.testBit n = true

theorem LosesLane.trans {s t u : State} (h : LosesLane s t) (k : LosesLane t u) : LosesLane s u := by
  refine ⟨?_, fun n => k.causes n ∘ h.causes n⟩
  obtain ⟨l, e, g, rfl⟩ := h.blocks
  obtain ⟨l', e', g', rfl⟩ := k.blocks
  exact ⟨l', e', g', rfl⟩

theorem losesLane_withLaneN (n : Nat) (f : LaneSt → LaneSt) (s : State) : LosesLane s (withLaneN n f s) :=
  ⟨⟨_, _, _, rfl⟩, fun _ => id⟩

theorem losesLane_raise (i : Nat) (s : State) : LosesLane s (raise i s) :=
  ⟨⟨s.lane.lanes, _, s.hlth, raise_only i s⟩, fun _ => raise_keeps_causes i⟩

theorem losesLane_raiseW (i w : Nat) (s : State) : LosesLane s (raiseW i w s) :=
  have hw : LosesLane s (withEvt (fun e => { e with words := tput e.words i w }) s) := ⟨⟨_, _, _, rfl⟩, fun _ => id⟩
  hw.trans (losesLane_raise ..)

theorem losesLane_degrade (b : Nat) (s : State) : LosesLane s (degrade b s) := by
  unfold degrade
  split
  · exact ⟨⟨_, _, _, rfl⟩, fun _ => id⟩
  · have hd : LosesLane s (withHlth (fun h => { h with degraded := setBit h.degraded b }) s) := ⟨⟨_, _, _, rfl⟩, fun _ => id⟩
    exact hd.trans (losesLane_raise ..)

theorem losesLane_loseLane (n : Nat) (s : State) : LosesLane s (loseLane n s) := by
  unfold loseLane exhausted
  split
  · exact losesLane_withLaneN ..
  · exact ((((losesLane_withLaneN ..).trans (losesLane_raise ..)).trans (losesLane_degrade ..)).trans (losesLane_raiseW ..)).trans
      (losesLane_degrade ..)

/-- Physical lane p is listed as failed, and keeps ROLE 3 (R197). -/
def markFailed (p : Nat) (s : State) : State :=
  withFlash (fun f => { f with failedLanes := if f.failedLanes.contains p then f.failedLanes else f.failedLanes ++ [p] })
    (withPhys p (fun x => { x with role := some 3 }) s)

theorem physOf_markFailed (p : Nat) (s : State) : physOf (markFailed p s) p = { physOf s p with role := some 3 } :=
  physOf_withPhys_same ..

theorem mem_failedLanes_markFailed (p : Nat) (s : State) : p ∈ (markFailed p s).flash.failedLanes := by
  simp only [markFailed, withFlash_flash]
  split
  · next h => simpa using h
  · simp

theorem failPhys_inService {p : Nat} {s : State} (hp : p < 104) (hr : roleOf s p ≠ 3) :
    failPhys p s = if roleOf s p = 0 then loseLane (logicalOf s p) (markFailed p (abortFrame p none (raise 0x040 s)))
      else markFailed p (abortFrame p none (raise 0x040 s)) := by
  simp only [failPhys, hr, decide_false, Bool.or_false, decide_eq_true_eq, if_neg (Nat.not_le.mpr hp)]
  rfl

theorem losesLane_failPhys {p : Nat} {s : State} (hp : p < 104) (hr : roleOf s p ≠ 3) :
    LosesLane (markFailed p (abortFrame p none (raise 0x040 s))) (failPhys p s) := by
  rw [failPhys_inService hp hr]
  split
  · exact losesLane_loseLane ..
  · exact ⟨⟨_, _, _, rfl⟩, fun _ => id⟩

/-- The failure of a physical lane reaches the lanes, the check-value units, the events, the degraded reasons and the list of failed lanes. -/
theorem failPhys_only {p : Nat} {s : State} (hp : p < 104) (hr : roleOf s p ≠ 3) :
    ∃ l k e g f, failPhys p s = { s with lane := l, chk := k, evt := e, hlth := g, flash := f } := by
  obtain ⟨l, e, g, ht⟩ := (losesLane_failPhys hp hr).blocks
  obtain ⟨l', k, e', ha⟩ := (endsFrames_abortFrame p none (raise 0x040 s)).blocks
  rw [ht, markFailed, ha, raise_only]
  exact ⟨_, _, _, _, _, rfl⟩

/-- The physical lane that fails: as the abort of its frame left it, and in ROLE 3. -/
theorem physOf_failPhys {p : Nat} {s : State} (hp : p < 104) (hr : roleOf s p ≠ 3) :
    physOf (failPhys p s) p = { physOf (abortFrame p none (raise 0x040 s)) p with role := some 3 } := by
  obtain ⟨l, e, g, ht⟩ := (losesLane_failPhys hp hr).blocks
  rw [ht]
  exact physOf_markFailed ..

theorem mem_failedLanes_failPhys {p : Nat} {s : State} (hp : p < 104) (hr : roleOf s p ≠ 3) : p ∈ (failPhys p s).flash.failedLanes := by
  obtain ⟨l, e, g, ht⟩ := (losesLane_failPhys hp hr).blocks
  rw [ht]
  exact mem_failedLanes_markFailed ..

/-- EV_LANE_FAIL comes first, and nothing after it clears a cause bit. -/
theorem cause_failPhys {p : Nat} {s : State} (hp : p < 104) (hr : roleOf s p ≠ 3) (he : (srcCfgOf s 0x040).enable = true) :
    (failPhys p s).evt.cause.testBit 0x040 = true :=
  (losesLane_failPhys hp hr).causes _ ((endsFrames_abortFrame ..).causes _ (raise_sets he))

theorem failPhys_fails {p : Nat} {s : State} (hp : p < 104) (hr : roleOf s p ≠ 3) :
    roleOf (failPhys p s) p = 3 ∧ p ∈ (failPhys p s).flash.failedLanes ∧ (physOf (failPhys p s) p).frame = none ∧
      (failPhys p s).tm = s.tm ∧ (failPhys p s).sec = s.sec ∧
      ((srcCfgOf s 0x040).enable = true → (failPhys p s).evt.cause.testBit 0x040 = true) := by
  have hx := physOf_failPhys hp hr
  obtain ⟨l, k, e, g, f, ht⟩ := failPhys_only hp hr
  exact ⟨by simp [roleOf, hx], mem_failedLanes_failPhys hp hr, by rw [hx]; exact frame_abortFrame .., congrArg (·.tm) ht, congrArg (·.sec) ht,
    cause_failPhys hp hr⟩

/-! A spare takes a logical lane (R196, R197). -/

/-- What a spare that takes logical lane n is tuned to: what the lane's own physical lane was, or its fixed assignment. -/
def spareTune (s : State) (n : Nat) : Option LaneTune :=
  match (laneOf s n).assign with
  | some a => if a.planned then (physOf s (lanePhys s n)).tune else some a
  | none => none

/-- The two entries once spare q has taken logical lane n. -/
def movedEntries (n q : Nat) (s : State) : State :=
  tunePhys q (spareTune s n) (withLaneN n (fun l => { l with phys := some q, moveDue := false, outOfService := false })
    (withPhys q (fun x => { x with role := some 0, logical := some n, frame := none, state := 0 }) s))

theorem moveLane_eq (n q : Nat) (s : State) : moveLane n q s =
    if (List.range 96).any (fun m => (laneOf (movedEntries n q s) m).outOfService) then movedEntries n q s
    else undegrade 1 (movedEntries n q s) := rfl

/-- Beside the entries, a move can only clear the degraded reason. -/
theorem moveLane_entries (n q : Nat) (s : State) : ∃ g, moveLane n q s = { movedEntries n q s with hlth := g } := by
  rw [moveLane_eq]
  split
  · exact ⟨_, rfl⟩
  · exact ⟨_, rfl⟩

theorem laneOf_movedEntries_same (n q : Nat) (s : State) :
    laneOf (movedEntries n q s) n = { laneOf s n with phys := some q, moveDue := false, outOfService := false } := by
  simp [movedEntries]

theorem laneOf_movedEntries_other {n m : Nat} (h : m ≠ n) (q : Nat) (s : State) : laneOf (movedEntries n q s) m = laneOf s m := by
  simp [movedEntries, laneOf_withLaneN_other h]

theorem roleOf_movedEntries (n q : Nat) (s : State) : roleOf (movedEntries n q s) q = 0 := by
  simp [roleOf, movedEntries, tunePhys]

theorem logicalOf_movedEntries (n q : Nat) (s : State) : logicalOf (movedEntries n q s) q = n := by
  simp [logicalOf, movedEntries, tunePhys]

theorem lanePhys_movedEntries (n q : Nat) (s : State) : lanePhys (movedEntries n q s) n = q := by
  simp [lanePhys, laneOf_movedEntries_same]

/-- LANE_SPARE_MOVE moves a lane that waits for a spare, and raises its event. -/
theorem laneSpareMove_due {n q : Nat} {s : State} (hn : n < 96) (hd : (laneOf s n).moveDue = true) (hq : freeSpare s = some q) :
    laneSpareMove n s = raise 0x041 (moveLane n q s) := by
  simp [laneSpareMove, hq, hn, hd]

theorem laneSpareMove_noSpare {s : State} (h : freeSpare s = none) (n : Nat) : laneSpareMove n s = s := by
  simp [laneSpareMove, h]

theorem laneSpareMove_moves {n q : Nat} {s : State} (hn : n < 96) (hd : (laneOf s n).moveDue = true) (hq : freeSpare s = some q) :
    ∃ e g, laneSpareMove n s = { movedEntries n q s with evt := e, hlth := g } ∧ e.cause = causeAfter 0x041 s := by
  obtain ⟨g, hg⟩ := moveLane_entries n q s
  refine ⟨(laneSpareMove n s).evt, g, ?_, ?_⟩
  · rw [laneSpareMove_due hn hd hq, hg, raise_only]
  · rw [laneSpareMove_due hn hd hq, hg, raise_causeAfter]
    rfl

/-! A sample snapshot ends (R214). -/

theorem snapshotEnd_running {n : Nat} {s : State} {x : Snapshot} (hx : (laneOf s n).snapshot = some x) (hr : x.running = true) :
    snapshotEnd n s = raise 0x044 (tick1 (withLaneN n (fun l => { l with snapshot := none }) (hostWrite x.buffer
      ((List.range (4 * x.samples * (physOf s (lanePhys s n)).binCount)).map (Config.sampleByte s.free)) s))) := by
  simp [snapshotEnd, hx, hr]

/-- Settles O38: a clause's hypotheses choose the branch of its row, and the lemmas on that branch's operations say what it leaves. -/
theorem laneEvents : Obligations.LaneEvents := by
  intro n s
  refine ⟨fun he hn => congrArg Host.Outcome.next (listenOpen_onEntry he hn), fun h => congrArg Host.Outcome.next (listenOpen_idle h),
    fun h => congrArg Host.Outcome.next (listenClose_open h), fun h => congrArg Host.Outcome.next (deferredApply_busy h), fun a hb ha => ?_,
    fun p hp hr => ⟨_, rfl, failPhys_fails hp hr⟩, fun q hn hd hq => ?_, fun h => congrArg Host.Outcome.next (laneSpareMove_noSpare h n),
    fun x hx hr => ?_⟩
  · exact ⟨_, congrArg Host.Outcome.next (deferredApply_assign hb ha), applyAssign_only .., laneOf_applyAssign_same ..⟩
  · obtain ⟨e, g, ht, he⟩ := laneSpareMove_moves hn hd hq
    have hl := laneOf_movedEntries_same n q s
    exact ⟨_, congrArg Host.Outcome.next ht, rfl, lanePhys_movedEntries n q s, roleOf_movedEntries n q s, logicalOf_movedEntries n q s,
      congrArg (·.moveDue) hl, congrArg (·.outOfService) hl, fun m hm => laneOf_movedEntries_other hm q s, he⟩
  · refine ⟨_, congrArg Host.Outcome.next (snapshotEnd_running hx hr), ?_, by rw [raise_only]; rfl, raise_causeAfter ..⟩
    rw [raise_only]
    rfl

end Sys2Proof.Proofs
end

section
/-!
PROOFS. Supplies, the clock references and AVS (R41-R43, R48-R50, R55).
-/
namespace Sys2Proof.Proofs
open Machine Safety Laws

/-! What an excursion of a rail comes to (R48). -/

theorem excursion_slight {low high : Int} {dur : Nat} (h : dur < 2000 ∨ (-70 ≤ low ∧ high ≤ 70)) (rail : Nat) (still th : Bool) (s : State) :
    excursion rail low high still th dur s = s := by
  have hs : (dur < 2000 || (-70 ≤ low && high ≤ 70)) = true := by simpa using h
  simp [excursion, hs]

/-- A main rail is watched while the part has main power. -/
theorem excursion_mainRail {rail dur : Nat} {low high : Int} {s : State} (hr : rail < 3) (hs : s.sys.devState ≠ .off) (hd : 2000 ≤ dur)
    (hx : low < -70 ∨ 70 < high) (still th : Bool) :
    excursion rail low high still th dur s =
      if 120 < high then tamper 0 s else if th then s else if still then takeReset .full 2 s else if low < -120 then tamper 0 s else s := by
  have h3 : rail ≠ 3 := by omega
  have hw : ¬ (3 < rail || (rail = 3) ≠ (s.sys.devState = .off)) = true := by simp [hs, h3]; omega
  have hl : ¬ (dur < 2000 || (-70 ≤ low && high ≤ 70)) = true := by simp; omega
  rw [excursion, if_neg hw, if_neg hl, if_neg h3]

theorem tamperAlarm_voltage (s : State) : tamperAlarm 0 s = tamper 0 s := by simp [tamperAlarm]

/-! What a FULL reset leaves (R68, R69). -/

@[simp] theorem commitRepairs_aon (s : State) : (commitRepairs s).aon = s.aon := rfl

theorem takeReset_full {s : State} (h : s.sys.devState ≠ .reset) (cause : Nat) : takeReset .full cause s = clearFull .full cause (commitRepairs s) := by
  simp [takeReset, h]

@[simp] theorem clearFull_aon (k : ResetKind) (cause : Nat) (s : State) : (clearFull k cause s).aon = s.aon := rfl
@[simp] theorem clearFull_time (k : ResetKind) (cause : Nat) (s : State) : (clearFull k cause s).time = {} := rfl
@[simp] theorem clearFull_devState (k : ResetKind) (cause : Nat) (s : State) : (clearFull k cause s).sys.devState = .reset := rfl
@[simp] theorem clearFull_resetKind (k : ResetKind) (cause : Nat) (s : State) : (clearFull k cause s).sys.resetKind = some k := rfl
@[simp] theorem clearFull_resetCause (k : ResetKind) (cause : Nat) (s : State) : (clearFull k cause s).sys.resetCause = cause := rfl

/-- A low rail that lasts is a FULL reset with cause BROWNOUT, which the AON well outlives (R48). -/
theorem excursion_brownout {rail dur : Nat} {low high : Int} {s : State} (hr : rail < 3) (hs : s.sys.devState = .run) (hd : 2000 ≤ dur)
    (hl : low < -70) (hh : high ≤ 120) : excursion rail low high true false dur s = clearFull .full 2 (commitRepairs s) := by
  rw [excursion_mainRail hr (by simp [hs]) hd (.inl hl), if_neg (by omega), ← takeReset_full (by simp [hs])]
  rfl

/-- Without main power the salt goes with VBAT_AON, and the tamper loops are disarmed (R50). -/
theorem vbatLoss_noMainPower {s : State} (h : s.sys.devState = .off) : vbatLoss s = { s with aon := { s.aon with
    salt := [], saltValid := false, loopEn := 0, loopMiss := [], vbatEvent := true } } := if_pos h

/-! The references (R55). -/

theorem refLoss_none {r : Nat} (h : 5 < r) (s : State) : refLoss r s = s := by simp [refLoss, h]

theorem refReturn_none {r : Nat} (h : 5 < r) (s : State) : refReturn r s = s := by simp [refReturn, h]

/-- With main power the loss of REF_SYS is a FULL reset with cause CLOCK_LOSS. -/
theorem refLoss_refSys {s : State} (h : s.sys.devState ≠ .off) :
    refLoss 0 s = takeReset .full 3 (withSys (fun x => { x with refLost := setBit x.refLost 0 }) s) := by
  simp [refLoss, h]

theorem refLoss_refTime {s : State} (h : s.sys.devState = .run) :
    refLoss 2 s = raise 0x002 (withTime (fun t => { t with pllPull := false }) (withSys (fun x => { x with refLost := setBit x.refLost 2 }) s)) := by
  simp [refLoss, raiseIf, reporting, h]

theorem refReturn_refTime {s : State} (h : bit s.sys.refLost 2 = true) :
    refReturn 2 s = withTime (fun t => { t with pllPull := true }) (withSys (fun x => { x with refLost := clrBit x.refLost 2 }) s) := by
  simp [refReturn, h]

/-! The setpoint of VDD_CORE (R42, R43). -/

/-- The setpoint that AVS_EVALUATE asks the regulator for: in steps of 5 mV, from 720 to 880 mV (R42). -/
def avsSetpoint (mv : Nat) : Nat := max 720 (min 880 (mv / 5 * 5))

theorem avsSetpoint_range (mv : Nat) : 720 ≤ avsSetpoint mv ∧ avsSetpoint mv ≤ 880 ∧ avsSetpoint mv % 5 = 0 := by
  unfold avsSetpoint; omega

theorem avsSetpoint_inRange {mv : Nat} (hl : 720 ≤ mv) (hh : mv ≤ 880) : avsSetpoint mv = mv / 5 * 5 := by
  unfold avsSetpoint; omega

theorem avsEvaluate_acknowledged {n : Nat} {s : State} (h : s.sys.devState = .run) (hn : n < 3) (mv : Nat) :
    avsEvaluate mv n s = { s with
      sys := { s.sys with avsFault := false, avsMv := avsSetpoint mv }, hlth := { s.hlth with degraded := clrBit s.hlth.degraded 7 } } := by
  rw [avsEvaluate, if_pos (by simp [h]), avsSet, if_neg (by omega)]
  rfl

theorem avsEvaluate_unacknowledged {n : Nat} {s : State} (h : s.sys.devState = .run) (hn : 3 ≤ n) (mv : Nat) :
    avsEvaluate mv n s = degrade 7 (raise 0x159 (withSys (fun x => { x with avsFault := true }) s)) := by
  rw [avsEvaluate, if_pos (by simp [h]), avsSet, if_pos hn]

end Sys2Proof.Proofs
end

section
/-!
PROOFS. The halt that a fatal error ends in (R533, R534).
-/
namespace Sys2Proof.Proofs
open Machine Safety Laws

/-! The AON well while the data path stops (R534): no step of it reaches the well. -/

@[simp] theorem raise_aon (n : Nat) (s : State) : (raise n s).aon = s.aon := by rw [raise_only]

@[simp] theorem freeTestChain_aon (r : TestRun) (s : State) : (freeTestChain r s).aon = s.aon := by
  unfold freeTestChain
  cases r.lane <;> simp [withPhys, withChain, apply_ite State.aon]

@[simp] theorem endTest_aon (status : Nat) (s : State) : (endTest status s).aon = s.aon := by
  unfold endTest
  cases s.test.run with
  | none => rfl
  | some r =>
    dsimp only
    split_ifs <;> simp [withEthP, withPort]

@[simp] theorem endRaw_aon (c status info : Nat) (t rl : Int) (valid : Bool) (s : State) : (endRaw c status info t rl valid s).aon = s.aon := by
  unfold endRaw
  split <;> rfl

/-- An entry that ends with ST_STANDBY goes back to what it came from. -/
theorem endEntry_standby_aon (e : TxEntry) (s : State) : (endEntry stStandby e s).aon = s.aon := by
  unfold endEntry
  split
  · simp
  · rfl
  · rfl
  · rfl
  · simp
  · rfl

@[simp] theorem silence_aon (c : Nat) (s : State) : (silence c s).aon = s.aon := by
  unfold silence
  split
  · rfl
  · split
    · rfl
    · dsimp only
      split
      · exact endEntry_standby_aon ..
      · rfl

@[simp] theorem notLive_aon (s : State) : (notLive s).aon = s.aon := by
  unfold notLive gatesOff
  split
  · rfl
  · dsimp only
    split
    · simp
    · rfl

@[simp] theorem stopAll_aon (s : State) : (stopAll s).aon = s.aon := notLive_aon s

@[simp] theorem writeDump_aon (rom : Bool) (cause core : Nat) (s : State) : (writeDump rom cause core s).aon = s.aon := rfl

/-- The part stands halted after a fatal error of this cause: the keys and the root are gone, and nothing is in flight (R534). -/
structure HaltedBy (cause : Nat) (t : State) : Prop where
  devState : t.sys.devState = .halted
  haltCause : t.sys.haltCause = some cause
  slots : t.sec.slots = []
  root : t.sec.root = []
  rootReady : t.sec.rootReady = false
  flights : t.hif.flights = []

theorem fatal_halts {s : State} (h : s.sys.devState = .run) (cause core : Nat) : HaltedBy cause (fatal cause core s) := by
  unfold fatal
  rw [h]
  exact ⟨rfl, rfl, rfl, rfl, rfl, rfl⟩

/-- A fatal error keeps the salt, and all else of the AON well (R534). -/
theorem fatal_aon (cause core : Nat) (s : State) : (fatal cause core s).aon = s.aon := by
  unfold fatal
  split <;> simp

end Sys2Proof.Proofs
end

section
/-!
PROOFS. The temperature of the part (R63), and the statement on supplies, references and temperature.
-/
namespace Sys2Proof.Proofs
open Machine Safety Laws

/-- The state once a sample below the tamper thresholds has been recorded. -/
def coolSample (degC : Int) (s : State) : State := { s with
  sys := { s.sys with tempNow := degC }, sec := { s.sec with tempHot := 0, tamperLive := clrBit s.sec.tamperLive 2 } }

/-- The last sample that gave a warning is 2 degrees or more below this one, or there is none since the part was below the threshold (R63). -/
def warnsAgain (degC : Int) (s : State) : Prop := s.sys.thermalLast = none ∨ ∃ d, s.sys.thermalLast = some d ∧ d + 2 ≤ degC

/-- What a sample does to the warning once the trip and the tamper thresholds have been looked at. -/
def thermalWarning (degC : Int) (s : State) : State :=
  if degC < hotLimits.1 then withSys (fun x => { x with thermalLast := none }) s
  else
    let again := match s.sys.thermalLast with
      | some t => t + 2 ≤ degC
      | none => true
    if again && reporting s then raise 0x15A (withSys (fun x => { x with thermalLast := some degC }) s) else s

theorem thermalWarning_below {degC : Int} (h : degC < hotLimits.1) (s : State) :
    thermalWarning degC s = withSys (fun x => { x with thermalLast := none }) s := if_pos h

theorem thermalWarning_again {degC : Int} {s : State} (hw : hotLimits.1 ≤ degC) (hs : s.sys.devState = .run) (ha : warnsAgain degC s) :
    thermalWarning degC s = raise 0x15A (withSys (fun x => { x with thermalLast := some degC }) s) := by
  rw [thermalWarning, if_neg (by omega)]
  rcases ha with ha | ⟨d, ha, hd⟩
  · simp [ha, reporting, hs]
  · simp [ha, reporting, hs, hd]

theorem thermalWarning_same {d degC : Int} {s : State} (hw : hotLimits.1 ≤ degC) (ha : s.sys.thermalLast = some d) (hd : degC < d + 2) :
    thermalWarning degC s = s := by
  rw [thermalWarning, if_neg (by omega)]
  simp [ha, hd]

/-- Firmware that does not run reports no warning. -/
theorem thermalWarning_halted {degC : Int} {s : State} (hw : hotLimits.1 ≤ degC) (hs : s.sys.devState = .halted) : thermalWarning degC s = s := by
  rw [thermalWarning, if_neg (by omega)]
  simp [reporting, hs]

/-- A sample between the tamper thresholds starts their count again, so that the trip and the warning alone are left (R63). -/
theorem temperature_cool {degC : Int} (hl : -50 < degC) (hh : degC < hotLimits.2.2) (s : State) :
    temperature degC s = thermalWarning degC (if hotLimits.2.1 ≤ degC then fatal 6 0xFFFF (coolSample degC s) else coolSample degC s) := by
  have hn : (hotLimits.2.2 ≤ degC || degC ≤ -50) = false := by simp; omega
  simp only [temperature, hn]
  rfl

/-- The thresholds rise in order: the warning, the trip, and 15 degrees above it the tamper threshold. -/
theorem hotLimits_order : hotLimits.1 < hotLimits.2.1 ∧ hotLimits.2.2 = hotLimits.2.1 + 15 ∧ -50 < hotLimits.1 := by
  unfold hotLimits
  split <;> decide

theorem temperature_belowTrip {degC : Int} (hl : -50 < degC) (ht : degC < hotLimits.2.1) (s : State) :
    temperature degC s = thermalWarning degC (coolSample degC s) := by
  obtain ⟨_, hm, _⟩ := hotLimits_order
  rw [temperature_cool hl (by omega), if_neg (by omega)]

theorem temperature_trip {degC : Int} {s : State} (hs : s.sys.devState = .run) (ht : hotLimits.2.1 ≤ degC) (hm : degC < hotLimits.2.1 + 15) :
    temperature degC s = fatal 6 0xFFFF (coolSample degC s) := by
  obtain ⟨hw, he, hl⟩ := hotLimits_order
  have hc : (coolSample degC s).sys.devState = .run := hs
  rw [temperature_cool (by omega) (by omega), if_pos ht, thermalWarning_halted (by omega) (fatal_halts hc ..).devState]

theorem hotLimits_warn : hotLimits.1 = if Config.grade = 0 then 105 else 120 := by
  unfold hotLimits; split <;> rfl

theorem hotLimits_trip : hotLimits.2.1 = if Config.grade = 0 then 120 else 135 := by
  unfold hotLimits; split <;> rfl

/-- Settles O26: in RUN each row is one branch of its operation, which the hypotheses of its clause choose. -/
theorem suppliesAndTemperature : Obligations.SuppliesAndTemperature := by
  refine ⟨fun s => ⟨fun rail low high still tl th dur h => ?slight, fun rail low high tl dur hr hs hd hl hh => ?brownout,
    fun rail low high still tl th dur hr hs hd hh => ?glitch, fun h => ?vbat, fun h => ?mainPower, fun hs => ?refSys, fun hs => ?refTime,
    fun r h => ?noRef, fun h => ?refBack, fun mv n hs hn => ?acknowledged, fun mv n hs hn => ?unacknowledged⟩, fun degC s hs => ?temperature⟩
  case slight => exact congrArg Host.Outcome.next (excursion_slight h ..)
  case brownout => exact ⟨_, congrArg Host.Outcome.next (excursion_brownout hr hs hd hl hh), by simp, by simp, by simp, by simp⟩
  case glitch =>
    have hx := excursion_mainRail hr (by simp [hs]) hd (.inr (by omega : 70 < high)) (low := low) still th (s := s)
    rw [if_pos hh, ← tamperAlarm_voltage] at hx
    exact congrArg Host.Outcome.next hx
  case vbat => exact congrArg Host.Outcome.next (vbatLoss_noMainPower h)
  case mainPower => exact congrArg Host.Outcome.next (if_neg h)
  case refSys =>
    have hx := (refLoss_refSys (by simp [hs] : s.sys.devState ≠ .off)).trans (takeReset_full (by simp [hs]) 3)
    exact ⟨_, congrArg Host.Outcome.next hx, by simp, by simp, by simp⟩
  case refTime => exact congrArg Host.Outcome.next (refLoss_refTime hs)
  case noRef => exact ⟨congrArg Host.Outcome.next (refLoss_none h s), congrArg Host.Outcome.next (refReturn_none h s)⟩
  case refBack => exact congrArg Host.Outcome.next (refReturn_refTime h)
  case acknowledged =>
    obtain ⟨hl, hh, h5⟩ := avsSetpoint_range mv
    exact ⟨_, congrArg Host.Outcome.next (avsEvaluate_acknowledged hs hn mv), rfl, hl, hh, h5, avsSetpoint_inRange, rfl⟩
  case unacknowledged => exact congrArg Host.Outcome.next (avsEvaluate_unacknowledged hs hn mv)
  case temperature =>
    dsimp only
    rw [← hotLimits_warn, ← hotLimits_trip]
    obtain ⟨hwt, _, hlw⟩ := hotLimits_order
    refine ⟨fun hl hw => ?_, fun hw ht ha => ?_, fun hw ht ⟨d, ha, hd⟩ => ?_, fun ht hm => ?_⟩
    · exact congrArg Host.Outcome.next ((temperature_belowTrip hl (by omega) s).trans (thermalWarning_below hw _))
    · exact congrArg Host.Outcome.next ((temperature_belowTrip (by omega) ht s).trans (thermalWarning_again hw hs ha))
    · exact congrArg Host.Outcome.next ((temperature_belowTrip (by omega) ht s).trans (thermalWarning_same hw ha hd))
    · have hc := fatal_halts (s := coolSample degC s) hs 6 0xFFFF
      exact ⟨_, congrArg Host.Outcome.next (temperature_trip hs ht hm), hc.devState, hc.haltCause, fatal_aon .., hc.slots, hc.rootReady⟩

end Sys2Proof.Proofs
end

section
/-!
PROOFS. The events of the PCIe link (R77, R500, R512, R513).
-/
namespace Sys2Proof.Proofs
open Machine Safety Laws

theorem perstRise_fromStep3 {s : State} (h : 3 ≤ s.boot.step) :
    perstRise s = withPcie (fun p => { p with perst := true, training := !p.up }) s := by
  simp [perstRise, h]

/-- Before step 3 of the ROM PERST_N alone starts no training (R77). -/
theorem perstRise_beforeStep3 {s : State} (h : s.boot.step < 3) (hs : s.sys.devState = .bootRom) :
    perstRise s = withPcie (fun p => { p with perst := true, training := false }) s := by
  simp [perstRise, hs, Nat.not_le.mpr h]

/-- The state once the link has trained to this width and speed, before its quality is looked at. -/
def linkTrained (width speed : Nat) (s : State) : State := { s with
  hif := { s.hif with pcieUp := true }, pcie := { s.pcie with width := width, speed := speed, up := true, training := false } }

theorem pcieLinkUp_trained {width speed : Nat} {s : State} (hw : width = 1 ∨ width = 2 ∨ width = 4) (hl : 1 ≤ speed) (hh : speed ≤ 3)
    (hs : s.pcie.held = false) : pcieLinkUp width speed s =
      if width = 4 ∧ speed = 3 then undegrade 4 (linkTrained width speed s)
      else degrade 4 (raise 0x140 (linkTrained width speed s)) := by
  have hg : (s.pcie.held || !(decide (width = 1) || decide (width = 2) || decide (width = 4)) || decide (speed = 0) ||
      decide (3 < speed)) = false := by
    simp only [hs, Bool.false_or, Bool.or_eq_false_iff, Bool.not_eq_false', Bool.or_eq_true, decide_eq_true_eq, decide_eq_false_iff_not]
    omega
  have hd : (decide (width < 4) || decide (speed < 3)) = !decide (width = 4 ∧ speed = 3) := by
    rw [Bool.eq_iff_iff]
    simp only [Bool.or_eq_true, Bool.not_eq_true', decide_eq_true_eq, decide_eq_false_iff_not]
    omega
  simp only [pcieLinkUp, hg, hd, Bool.false_eq_true, if_false, Bool.not_eq_true', decide_eq_false_iff_not, ite_not]
  rfl

/-- A port held by a loopback test, and a width or a speed that no link has, change nothing. -/
theorem pcieLinkUp_none {width speed : Nat} {s : State} (h : s.pcie.held = true ∨ width = 0 ∨ 4 < width ∨ speed = 0 ∨ 3 < speed) :
    pcieLinkUp width speed s = s := by
  refine if_pos ?_
  simp only [Bool.or_eq_true, Bool.not_eq_true', Bool.or_eq_false_iff, decide_eq_true_eq, decide_eq_false_iff_not]
  rcases h with h | h
  · exact .inl (.inl (.inl h))
  · omega

theorem pcieFlr_frozen {func : Nat} {s : State} (hf : func ≤ 1) (hz : 26 + func ∈ s.fwall.frozen) (ho : 26 + func ∉ s.fwall.ownerReset) :
    pcieFlr func s = withFwall (fun f => { f with ownerReset := f.ownerReset ++ [26 + func] }) s := by
  simp [pcieFlr, hz, ho, Nat.not_lt.mpr hf]

theorem pcieFlr_notFrozen {func : Nat} {s : State} (hz : 26 + func ∉ s.fwall.frozen) : pcieFlr func s = s := by
  simp [pcieFlr, hz]

/-- Settles O25: the hypotheses of each clause choose the branch of its row. -/
theorem pcieEvents : Obligations.PcieEvents := by
  intro s
  refine ⟨fun h => congrArg Host.Outcome.next (perstRise_fromStep3 h), fun h hs => congrArg Host.Outcome.next (perstRise_beforeStep3 h hs),
    fun width speed hw hl hh hs => congrArg Host.Outcome.next (pcieLinkUp_trained hw hl hh hs),
    fun width speed h => congrArg Host.Outcome.next (pcieLinkUp_none h),
    fun func hf hz ho => congrArg Host.Outcome.next (pcieFlr_frozen hf hz ho), fun func hz => congrArg Host.Outcome.next (pcieFlr_notFrozen hz),
    fun kind hk => congrArg Host.Outcome.next (if_neg (Nat.not_lt.mpr hk)), fun kind hk => congrArg Host.Outcome.next (if_pos hk)⟩

end Sys2Proof.Proofs
end

section
/-!
PROOFS. LULL: entry, wake and exit (R91-R94, R218).
-/
namespace Sys2Proof.Proofs
open Machine Safety Laws

/-! Entry (R91, R92). -/

theorem lullEntry_notArmed {s : State} (h : s.sys.lullArmed = false ∨ s.sys.devState ≠ .run) : lullEntry s = s := by
  refine if_pos ?_
  rw [Bool.or_eq_true, Bool.not_eq_true', decide_eq_true_eq]
  exact h

/-- The end of the entry: the links go down, C is saved and the outputs of TIME fall. -/
def lullQuiet (s : State) : State :=
  withTime (fun t => { t with timeOut := 0, pulseEnd := [] }) (withAon (fun a => { a with savedC := s.time.c }) (linksDown s))

/-- The part in LULL with AON_PWR_EN low. -/
def lullAsleep (s : State) : State :=
  withSys (fun x => { x with devState := .lull, lullArmed := false, lullExit := false, aonPwrEn := false, wakeLatched := none }) s

/-- The last step of the entry: LULL, or the exit begun where a wake source was latched meanwhile (R92). -/
def lullFall (s : State) : State :=
  match s.sys.wakeLatched with
  | some w => wakeUp w (lullAsleep s)
  | none => lullAsleep s

/-- Whatever the entry has done before, it ends in these two steps. -/
theorem lullEntry_armed {s : State} (ha : s.sys.lullArmed = true) (hs : s.sys.devState = .run) : ∃ u, lullEntry s = lullFall (lullQuiet u) := by
  have hg : ¬ (!s.sys.lullArmed || decide (s.sys.devState ≠ .run)) = true := by simp [ha, hs]
  rw [lullEntry, if_neg hg]
  extract_lets release stopped ended released camps kept asleep quiet wake fallen
  have hq : quiet = lullQuiet asleep := rfl
  clear_value quiet
  exact ⟨asleep, hq ▸ rfl⟩

/-- The part has entered LULL: AON_PWR_EN is low until the exit begins. -/
structure InLull (t : State) : Prop where
  devState : t.sys.devState = .lull
  disarmed : t.sys.lullArmed = false
  power : t.sys.aonPwrEn = t.sys.lullExit

theorem lullFall_inLull (s : State) : InLull (lullFall s) := by
  unfold lullFall
  cases s.sys.wakeLatched with
  | some w => exact ⟨rfl, rfl, rfl⟩
  | none => exact ⟨rfl, rfl, rfl⟩

/-- The last step reaches the block SYS alone. -/
theorem lullFall_only (s : State) : lullFall s = { s with sys := (lullFall s).sys } := by
  unfold lullFall
  cases s.sys.wakeLatched with
  | some w => rfl
  | none => rfl

theorem lullEntry_enters {s : State} (ha : s.sys.lullArmed = true) (hs : s.sys.devState = .run) :
    InLull (lullEntry s) ∧ (lullEntry s).hif.pcieUp = false ∧ (lullEntry s).time.timeOut = 0 := by
  obtain ⟨u, hu⟩ := lullEntry_armed ha hs
  have ho := lullFall_only (lullQuiet u)
  rw [hu]
  exact ⟨lullFall_inLull _, congrArg (·.hif.pcieUp) ho, congrArg (·.time.timeOut) ho⟩

/-! Wake (R92, R93). -/

/-- The wake sources: the timer where it is set, an edge selected in wake_gpio, and chip select of the management SPI (R87, R92). -/
def wakeSelected (source gpio : Nat) (s : State) : Prop :=
  source = 0 ∧ s.sys.wakeTimerS ≠ 0 ∨ source = 1 ∧ gpio ≤ 3 ∧ bit s.sys.wakeGpio gpio = true ∨ source = 2

theorem lullWake_selected {source gpio : Nat} {s : State} (ha : s.sys.lullArmed = false) (hs : s.sys.devState = .lull)
    (he : s.sys.lullExit = false) (hw : wakeSelected source gpio s) : lullWake source gpio s = wakeUp source s := by
  rcases hw with ⟨rfl, ht⟩ | ⟨rfl, hg, hb⟩ | rfl
  · simp [lullWake, ha, hs, he, ht]
  · simp [lullWake, ha, hs, he, hb, Nat.not_lt.mpr hg]
  · simp [lullWake, ha, hs, he]

theorem lullWake_none {source gpio : Nat} {s : State}
    (h : source = 0 ∧ s.sys.wakeTimerS = 0 ∨ source = 1 ∧ bit s.sys.wakeGpio gpio = false ∨ 2 < source) : lullWake source gpio s = s := by
  rcases h with ⟨rfl, ht⟩ | ⟨rfl, hb⟩ | h
  · simp [lullWake, ht]
  · simp [lullWake, hb]
  · simp [lullWake, h]

/-! Exit (R93, R94, R218). -/

/-- The part running again after LULL with DRAM kept, with its counter and the length of LULL as given, before EV_LULL_EXIT. -/
def lullResumed (c seconds : Nat) (s : State) : State :=
  let s := withTime (fun t => { t with
    c := c, domA := { t.domA with tracked := false, locked := false, good := 0 },
    domB := { t.domB with tracked := false, locked := false, good := 0 } }) s
  let s := withDdr (fun d => { d with selfRefresh := false }) (withSys (fun x => { x with lullSeconds := seconds }) s)
  let s := [0, 1, 2, 3].foldl (fun s c => withChain c (fun k => { k with
    service := if k.service = 1 then 0 else k.service, rxLock := k.service ≠ 2 && k.centre ≠ 0 }) s) s
  let s := withPcie (fun x => { x with training := x.perst && !x.up }) s
  withSys (fun x => { x with devState := .run, lullExit := false, wakeLatched := none }) s

/-- With the image whole and DRAM kept, the part resumes with C advanced by the XTAL_AON cycles, and EV_LULL_EXIT carries the source. -/
theorem lullLeave_resumes {s : State} (hr : s.sys.lullRelease = false) (cycles : Nat) (saved : Bool) :
    ∃ n, lullLeave cycles true saved s = raiseW 0x001 s.sys.lullSource (lullResumed (lullCounter s.aon.savedC cycles) n s) := by
  unfold lullLeave
  obtain ⟨c, hc⟩ : ∃ c, lullCounter s.aon.savedC cycles = c := ⟨_, rfl⟩
  rw [hc]
  extract_lets counted timed kept resumed linked
  obtain ⟨n, hn⟩ : ∃ n, timed = withSys (fun x => { x with lullSeconds := n }) counted := ⟨_, rfl⟩
  clear_value timed
  subst hn
  exact ⟨n, by simp [counted, kept, resumed, linked, hr, lullResumed, withChain]⟩

theorem pwrGood_wakes {s : State} (hs : s.sys.devState = .lull) (he : s.sys.lullExit = true) (cycles : Nat) (segmentsOk saved : Bool) :
    pwrGood cycles segmentsOk saved s = lullLeave cycles segmentsOk saved s := by
  simp [pwrGood, hs, he]

theorem raiseW_sets {n : Nat} {s : State} (w : Nat) (h : (srcCfgOf s n).enable = true) : (raiseW n w s).evt.cause.testBit n = true :=
  raise_sets h

@[simp] theorem srcCfgOf_lullResumed (c n : Nat) (s : State) (i : Nat) : srcCfgOf (lullResumed c n s) i = srcCfgOf s i := by
  simp [srcCfgOf, lullResumed, withChain]

/-- Once EV_LULL_EXIT has been raised, the part is what it resumed as. -/
theorem raiseW_lullResumed (w c n : Nat) (s : State) :
    let t := raiseW 0x001 w (lullResumed c n s)
    t.sys.devState = .run ∧ t.sys.lullExit = false ∧ t.time.c = c ∧ t.time.domA.tracked = false ∧ t.time.domB.tracked = false ∧
      t.sec = s.sec ∧ t.ddr.selfRefresh = false := by
  dsimp only
  rw [raiseW_only]
  simp [lullResumed, withChain]

/-- Settles O28: the entry by its last steps, the wake by its source, the exit by what the part resumes with. -/
theorem lullEntryAndExit : Obligations.LullEntryAndExit := by
  intro s
  refine ⟨fun h => congrArg Host.Outcome.next (lullEntry_notArmed h), fun ha hs => ?entry,
    fun source gpio ha hs he hw => congrArg Host.Outcome.next (lullWake_selected ha hs he hw),
    fun source gpio h => congrArg Host.Outcome.next (lullWake_none h), fun cycles saved hs he hr => ?exit⟩
  case entry =>
    obtain ⟨⟨hd, ha, hp⟩, hl, ht⟩ := lullEntry_enters ha hs
    exact ⟨_, rfl, hd, ha, hp, hl, ht⟩
  case exit =>
    obtain ⟨n, hn⟩ := lullLeave_resumes hr cycles saved
    have hx := (pwrGood_wakes hs he cycles true saved).trans hn
    obtain ⟨hd, hl, ht, ha, hb, hk, hf⟩ := raiseW_lullResumed s.sys.lullSource (lullCounter s.aon.savedC cycles) n s
    exact ⟨_, congrArg Host.Outcome.next hx, hd, hl, ht, ha, hb, hk, by rw [raiseW_words, tfind_tput, if_pos rfl],
      fun h => raiseW_sets _ (by rwa [srcCfgOf_lullResumed]), hf⟩

end Sys2Proof.Proofs
end

section
/-!
PROOFS. What stopping the data path leaves alone (R65, R67, R389, R534).
-/
namespace Sys2Proof.Proofs
open Machine Safety Laws

/-- What ending transmissions, tests and the gates of a twin can do: it reaches the radio, the lanes, the slot engine, the queues, the links, the
commands in flight, the test and the events. -/
def StopsTraffic (s t : State) : Prop := ∃ hif evt rfc lane slot tm lnk twin eth pcie test,
  t = { s with
    hif := hif, evt := evt, rfc := rfc, lane := lane, slot := slot, tm := tm, lnk := lnk, twin := twin, eth := eth, pcie := pcie, test := test }

theorem StopsTraffic.refl (s : State) : StopsTraffic s s := ⟨_, _, _, _, _, _, _, _, _, _, _, rfl⟩

theorem StopsTraffic.trans {s t u : State} (h : StopsTraffic s t) (k : StopsTraffic t u) : StopsTraffic s u := by
  obtain ⟨_, _, _, _, _, _, _, _, _, _, _, rfl⟩ := h
  obtain ⟨_, _, _, _, _, _, _, _, _, _, _, rfl⟩ := k
  exact ⟨_, _, _, _, _, _, _, _, _, _, _, rfl⟩

theorem StopsTraffic.ite {p : Prop} [Decidable p] {s t u : State} (h : StopsTraffic s t) (k : StopsTraffic s u) :
    StopsTraffic s (if p then t else u) := by
  split
  · exact h
  · exact k

theorem StopsTraffic.sec {s t : State} (h : StopsTraffic s t) : t.sec = s.sec := by
  obtain ⟨_, _, _, _, _, _, _, _, _, _, _, rfl⟩ := h
  rfl

theorem StopsTraffic.foldl {α : Type} {f : State → α → State} (hf : ∀ s x, StopsTraffic s (f s x)) (l : List α) (s : State) :
    StopsTraffic s (l.foldl f s) := by
  induction l generalizing s with
  | nil => exact .refl s
  | cons x l ih => exact (hf s x).trans (ih _)

theorem stopsTraffic_withChain (c : Nat) (f : ChainSt → ChainSt) (s : State) : StopsTraffic s (withChain c f s) :=
  ⟨_, _, _, _, _, _, _, _, _, _, _, rfl⟩

theorem stopsTraffic_raise (n : Nat) (s : State) : StopsTraffic s (raise n s) :=
  ⟨_, _, _, _, _, _, _, _, _, _, _, raise_only n s⟩

theorem stopsTraffic_endRaw (c status info : Nat) (t rl : Int) (valid : Bool) (s : State) : StopsTraffic s (endRaw c status info t rl valid s) := by
  unfold endRaw
  split
  · exact .refl s
  · exact ⟨_, _, _, _, _, _, _, _, _, _, _, rfl⟩

theorem stopsTraffic_freeTestChain (r : TestRun) (s : State) : StopsTraffic s (freeTestChain r s) := by
  unfold freeTestChain
  extract_lets c live held freed
  have hh : StopsTraffic s held := stopsTraffic_withChain ..
  have hf : StopsTraffic held freed := .ite (stopsTraffic_withChain ..) (.refl _)
  refine (hh.trans hf).trans ?_
  cases r.lane with
  | none => exact .refl _
  | some p => exact ⟨_, _, _, _, _, _, _, _, _, _, _, rfl⟩

theorem stopsTraffic_endTest (status : Nat) (s : State) : StopsTraffic s (endTest status s) := by
  unfold endTest
  cases s.test.run with
  | none => exact .refl s
  | some r =>
    have hr : StopsTraffic s (withTest (fun t => { t with run := none, last := some r, finalStatus := status }) s) :=
      ⟨_, _, _, _, _, _, _, _, _, _, _, rfl⟩
    refine hr.trans (.ite (.refl _) (.ite (stopsTraffic_freeTestChain ..) (.ite ?_ (.ite ?_ ?_))))
    all_goals exact ⟨_, _, _, _, _, _, _, _, _, _, _, rfl⟩

/-- An entry cut off by its gate goes back to what it came from. -/
theorem stopsTraffic_endEntry_standby (e : TxEntry) (s : State) : StopsTraffic s (endEntry stStandby e s) := by
  unfold endEntry
  split
  · exact (stopsTraffic_endTest ..).trans (stopsTraffic_raise ..)
  · exact ⟨_, _, _, _, _, _, _, _, _, _, _, rfl⟩
  · exact .refl s
  · exact ⟨_, _, _, _, _, _, _, _, _, _, _, rfl⟩
  · exact stopsTraffic_endRaw ..
  · exact .refl s

theorem stopsTraffic_silence (c : Nat) (s : State) : StopsTraffic s (silence c s) := by
  unfold silence
  cases headTx s c with
  | none => exact .refl s
  | some t =>
    refine .ite (.refl s) ?_
    extract_lets low
    have hl : StopsTraffic s low := .trans (stopsTraffic_withChain ..) (stopsTraffic_withChain ..)
    have he : StopsTraffic low (endEntry stStandby t.entry (popTx c low)) := .trans (stopsTraffic_withChain ..) (stopsTraffic_endEntry_standby ..)
    exact hl.trans (.trans (.ite he (stopsTraffic_withChain ..)) (stopsTraffic_withChain ..))

theorem stopsTraffic_gatesOff (s : State) : StopsTraffic s (gatesOff s) := by
  have hw (f : TwinSt → TwinSt) : StopsTraffic s (withTwin f s) := ⟨_, _, _, _, _, _, _, _, _, _, _, rfl⟩
  exact .ite (hw _) ((hw _).trans (.ite (.foldl (fun s c => stopsTraffic_silence c s) _ _) (.refl _)))

theorem stopsTraffic_notLive (s : State) : StopsTraffic s (notLive s) :=
  .trans (t := withTwin (fun t => { t with live := false }) s) ⟨_, _, _, _, _, _, _, _, _, _, _, rfl⟩ (stopsTraffic_gatesOff _)

/-- TAMPER_HOLD stops the data path and leaves the key store as it is: FROST is a step of its own (R389). -/
theorem enterHold_sec (s : State) : (enterHold s).sec = s.sec := by
  have h := ((stopsTraffic_endTest stTamper s).trans (stopsTraffic_notLive _)).sec
  simpa [enterHold, endFlights, stopAll, silenceAll] using h

end Sys2Proof.Proofs
end

section
/-!
PROOFS. The boot ROM and INIT (R64, R65, R72, R76, R80, R82, R85, R96, R554).
-/
namespace Sys2Proof.Proofs
open Machine Safety Laws

/-! The end of RESET (R46, R64). -/

/-- The supplies, REF_SYS and its PLLs are good. -/
def refsGood (p : BootProbe) (s : State) : Prop := p.supplyOk = true ∧ p.pllOk = true ∧ bit s.sys.refLost 0 = false

theorem resetEnd_inReset {s : State} (hs : s.sys.devState = .reset) (p : BootProbe) :
    resetEnd p s = if !p.supplyOk || !p.pllOk || bit s.sys.refLost 0 then s else romBoot p s := by
  simp [resetEnd, hs]

theorem resetEnd_waits {p : BootProbe} {s : State} (hs : s.sys.devState = .reset) (h : ¬ refsGood p s) : resetEnd p s = s := by
  rw [resetEnd_inReset hs]
  refine if_pos ?_
  by_contra hn
  simp only [Bool.or_eq_true, Bool.not_eq_true', not_or, Bool.not_eq_false, Bool.not_eq_true] at hn
  exact h ⟨hn.1.1, hn.1.2, hn.2⟩

theorem resetEnd_boots {p : BootProbe} {s : State} (hs : s.sys.devState = .reset) (h : refsGood p s) : resetEnd p s = romBoot p s := by
  obtain ⟨hp, hl, hr⟩ := h
  simp [resetEnd_inReset hs, hp, hl, hr]

/-! Steps 1 to 4 of the ROM after POWER_ON (R72, R76, R95, R96, R554). -/

/-- After step 3 of a boot from POWER_ON: the straps and TEST_EN are sampled, the boot watchdog runs, and the PCIe link may train. -/
def romStep3 (p : BootProbe) (s : State) : State :=
  withBoot (fun b => { b with step := 3 }) (withPcie (fun x => { x with training := x.perst && !x.up }) (withSys (fun x => { x with
    strap := p.straps % 16, strapPins := p.straps % 16, testMode := p.testEn, devState := .bootRom, resetKind := none, bootWatchdog := true }) s))

/-- The ROM stops at a step, with its watchdog stopped. -/
def romStop (n : Nat) (s : State) : State := withBoot (fun b => { b with step := n }) (withSys (fun x => { x with bootWatchdog := false }) s)

theorem romBoot_powerOn {s : State} (hk : s.sys.resetKind = some .powerOn) (hc : s.sys.resetCause = 0) (p : BootProbe) :
    romBoot p s =
      if s.aon.latch then enterHold (romStep3 p s)
      else if p.testEn then romStop 0xE (romStep3 p s)
      else if p.straps % 16 % 4 = 3 then romStop 0xF (romStep3 p s)
      else pufStep p (withBoot (fun b => { b with step := 4 }) (romStep3 p s)) := by
  simp only [romBoot, hk, hc]
  rfl

theorem enterHold_devState (s : State) : (enterHold s).sys.devState = .tamperHold := rfl

/-! FW_VERIFY (R74, R80). -/

/-- What a slot's check shows depends on the images in flash and on the security version burnt. -/
theorem slotResult_congr {s t : State} (hm : t.flash.slotManifest = s.flash.slotManifest) (hi : t.flash.slotImage = s.flash.slotImage)
    (hv : t.otp.svBurnt = s.otp.svBurnt) (p : BootProbe) (f : Nat) : slotResult p f t = slotResult p f s := by
  simp [slotResult, slotSv, slotStageOk, hm, hi, hv]

/-- The slot that FW_VERIFY tries first (R80). -/
def firstSlot (s : State) : Nat := if s.flash.bootRec.valid then s.flash.bootRec.preferred % 2 else 0

theorem firstSlot_congr {s t : State} (h : t.flash.bootRec = s.flash.bootRec) : firstSlot t = firstSlot s := by simp only [firstSlot, h]

/-- The state once the check of a slot has passed. -/
def slotPassed (f : Nat) (s : State) : State :=
  setResult f 1 (withBoot (fun b => { b with step := max b.step 9 }) (withSys (fun x => { x with devState := .fwVerify }) s))

@[simp] theorem slotPassed_sec (f : Nat) (s : State) : (slotPassed f s).sec = s.sec := rfl
@[simp] theorem slotPassed_aon (f : Nat) (s : State) : (slotPassed f s).aon = s.aon := rfl
@[simp] theorem slotPassed_otp (f : Nat) (s : State) : (slotPassed f s).otp = s.otp := rfl
@[simp] theorem slotPassed_strap (f : Nat) (s : State) : (slotPassed f s).sys.strap = s.sys.strap := rfl
@[simp] theorem slotPassed_pufAttempts (f : Nat) (s : State) : (slotPassed f s).boot.pufAttempts = s.boot.pufAttempts := by
  simp only [slotPassed, setResult, withBoot_boot]
  split <;> rfl

@[simp] theorem enterInit_sec (p : BootProbe) (f : Nat) (s : State) : (enterInit p f s).sec = s.sec := rfl
@[simp] theorem enterInit_aon (p : BootProbe) (f : Nat) (s : State) : (enterInit p f s).aon = s.aon := rfl
@[simp] theorem enterInit_otp (p : BootProbe) (f : Nat) (s : State) : (enterInit p f s).otp = s.otp := rfl
@[simp] theorem enterInit_boot (p : BootProbe) (f : Nat) (s : State) : (enterInit p f s).boot = s.boot := rfl
@[simp] theorem enterInit_strap (p : BootProbe) (f : Nat) (s : State) : (enterInit p f s).sys.strap = s.sys.strap := rfl

/-- No slot is marked failed and the first one verifies: INIT is entered on it. -/
theorem verifySlots_first {p : BootProbe} {s : State} (hf : s.sys.slotFailed = none) (hp : p.flashSmall = false) (hs : s.sys.strap % 4 = 0)
    (hr : slotResult p (firstSlot s) s = 1) : verifySlots p s = enterInit p (firstSlot s) (slotPassed (firstSlot s) s) := by
  have hv : slotResult p (firstSlot s) (withSys (fun x => { x with devState := .fwVerify }) s) = 1 :=
    (slotResult_congr (by simp) (by simp) (by simp) p _).trans hr
  have hl : ([firstSlot s, 1 - firstSlot s].filter (fun f => (none : Option Nat) ≠ some f)) = [firstSlot s, 1 - firstSlot s] := by simp
  simp only [firstSlot] at hv hl
  simp only [verifySlots, hf, hp, hs, withSys_sys, withSys_flash, hl, Bool.false_eq_true, if_false, ne_eq, not_true_eq_false, trySlots, hv, if_true]
  rfl

/-! Regeneration of the root (R76, R78). -/

@[simp] theorem rootUp_sys (root : List Byte) (e n : Nat) (s : State) : (rootUp root e n s).sys = s.sys := rfl
@[simp] theorem rootUp_otp (root : List Byte) (e n : Nat) (s : State) : (rootUp root e n s).otp = s.otp := rfl

@[simp] theorem rootUp_root (root : List Byte) (e n : Nat) (s : State) : (rootUp root e n s).sec.root = fit 32 root := rfl
@[simp] theorem rootUp_rootReady (root : List Byte) (e n : Nat) (s : State) : (rootUp root e n s).sec.rootReady = true := rfl
@[simp] theorem rootUp_salt (root : List Byte) (e n : Nat) (s : State) : (rootUp root e n s).aon.salt = s.aon.salt := rfl
@[simp] theorem rootUp_pufAttempts (root : List Byte) (e n : Nat) (s : State) : (rootUp root e n s).boot.pufAttempts = n := rfl

/-- A reading is logged in flash, which is otherwise as it was (R524). -/
@[simp] theorem rootUp_flash (root : List Byte) (e n : Nat) (s : State) :
    (rootUp root e n s).flash = { s.flash with pufReadings := s.flash.pufReadings ++ [e] } := rfl

/-- The first reading that the active array gives brings the root up. -/
theorem regenerate_firstRun {p : BootProbe} {n : Nat} (hn : nth (some 0) p.pufRuns 0 = some n) (s : State) :
    regenerate p s.otp.pufArray s = verifySlots p (rootUp p.root n 1 s) := by
  have hi : (List.range 3).find? (fun i => (nth (some 0) p.pufRuns i).isSome) = some 0 := by simp [List.range_succ, hn]
  simp [regenerate, hi, hn]

/-- A boot after one that did not fail reads the active array. -/
theorem pufStep_firstRun {p : BootProbe} {n : Nat} {s : State} (hf : s.aon.pufFailed = false) (hn : nth (some 0) p.pufRuns 0 = some n) :
    pufStep p s = verifySlots p (rootUp p.root n 1 (withSys (fun x => { x with devState := .pufRegen }) s)) := by
  rw [← regenerate_firstRun hn]
  simp [pufStep, hf]

/-- The root is in the island after a boot from POWER_ON, on the first reading. -/
def romRooted (p : BootProbe) (n : Nat) (s : State) : State :=
  rootUp p.root n 1 (withSys (fun x => { x with devState := .pufRegen }) (withBoot (fun b => { b with step := 4 }) (romStep3 p s)))

theorem romBoot_roots {p : BootProbe} {n : Nat} {s : State} (hk : s.sys.resetKind = some .powerOn) (hc : s.sys.resetCause = 0)
    (ha : s.aon.latch = false) (ht : p.testEn = false) (hs : p.straps % 4 = 0) (hf : s.aon.pufFailed = false)
    (hn : nth (some 0) p.pufRuns 0 = some n) : romBoot p s = verifySlots p (romRooted p n s) := by
  rw [romBoot_powerOn hk hc, ha, ht, if_neg Bool.false_ne_true, if_neg Bool.false_ne_true, if_neg (by omega),
    pufStep_firstRun (by simpa [romStep3] using hf) hn, romRooted]

/-! The steps before FW_VERIFY set the straps, and leave what its choice of a slot depends on. -/

theorem strap_romRooted (p : BootProbe) (n : Nat) (s : State) : (romRooted p n s).sys.strap = p.straps % 16 := by simp [romRooted, romStep3]

theorem slotFailed_romRooted (p : BootProbe) (n : Nat) (s : State) : (romRooted p n s).sys.slotFailed = s.sys.slotFailed := by
  simp [romRooted, romStep3]

theorem firstSlot_romRooted (p : BootProbe) (n : Nat) (s : State) : firstSlot (romRooted p n s) = firstSlot s :=
  firstSlot_congr (by simp [romRooted, romStep3])

theorem slotResult_romRooted (p : BootProbe) (n f : Nat) (s : State) : slotResult p f (romRooted p n s) = slotResult p f s := by
  apply slotResult_congr <;> simp [romRooted, romStep3]

theorem romBoot_entersInit {p : BootProbe} {n : Nat} {s : State} (hk : s.sys.resetKind = some .powerOn) (hc : s.sys.resetCause = 0)
    (ha : s.aon.latch = false) (ht : p.testEn = false) (hs : p.straps % 4 = 0) (hf : s.aon.pufFailed = false)
    (hn : nth (some 0) p.pufRuns 0 = some n) (hp : p.flashSmall = false) (hm : s.sys.slotFailed = none)
    (hr : slotResult p (firstSlot s) s = 1) :
    romBoot p s = enterInit p (firstSlot s) (slotPassed (firstSlot s) (romRooted p n s)) := by
  have hst := strap_romRooted p n s
  rw [romBoot_roots hk hc ha ht hs hf hn, verifySlots_first ((slotFailed_romRooted ..).trans hm) hp (by omega)
    (by rwa [firstSlot_romRooted, slotResult_romRooted]), firstSlot_romRooted]

/-- INIT entered from the root: the slot, the straps and the root; the salt and the fuses are as they were. -/
structure InitEntered (p : BootProbe) (f : Nat) (s t : State) : Prop where
  devState : t.sys.devState = .init
  bootSlot : t.sys.bootSlot = f
  strap : t.sys.strap = p.straps % 16
  rootReady : t.sec.rootReady = true
  root : t.sec.root = fit 32 p.root
  attempts : t.boot.pufAttempts = 1
  salt : t.aon.salt = s.aon.salt
  otp : t.otp = s.otp

theorem enterInit_enters (p : BootProbe) (n f : Nat) (s : State) : InitEntered p f s (enterInit p f (slotPassed f (romRooted p n s))) where
  devState := rfl
  bootSlot := rfl
  strap := by simp [strap_romRooted]
  rootReady := by simp [romRooted]
  root := by simp [romRooted]
  attempts := by simp [romRooted]
  salt := by simp [romRooted, romStep3]
  otp := by simp [romRooted, romStep3]

/-! INIT (R64, R81, R82, R85). -/

theorem initDone_notInit {s : State} (h : s.sys.devState ≠ .init) (p : InitProbe) : initDone p s = s := by simp [initDone, h]

/-- DRAM of one rank is trained, where it was not yet (R68, R82). -/
def dramUp (p : InitProbe) (s : State) : State :=
  if s.ddr.trained then s
  else withSys (fun x => { x with dramMib := 1024 * p.gib0 }) (withDdr (fun d => { d with trained := true, rank1 := false, sizeGib := p.gib0 }) s)

theorem dramUp_flash (p : InitProbe) (s : State) : (dramUp p s).flash = s.flash := by
  unfold dramUp; split <;> rfl

theorem dramUp_sys (p : InitProbe) (s : State) : (dramUp p s).sys = { s.sys with dramMib := (dramUp p s).sys.dramMib } := by
  unfold dramUp; split <;> rfl

theorem initDone_oneRank {p : InitProbe} {s : State} (hs : s.sys.devState = .init) (hr : s.sys.recovery = false) (h0 : p.rank0Ok = true)
    (h1 : p.rank1Fitted = false) :
    initDone p s = if p.segmentsOk = false then slotFault (dramUp p s) else initRest p s.ddr.trained (dramUp p s) := by
  cases hw : s.ddr.trained with
  | true => simp [initDone, dramUp, hs, hr, h0, h1, hw]
  | false => simp [initDone, dramUp, hs, hr, h0, h1, hw]

/-- A segment that fails its hash ends in a FULL reset with cause WATCHDOG, and the slot is marked (R81, R82). -/
theorem slotFault_init {s : State} (hs : s.sys.devState = .init) (hr : s.sys.recovery = false) :
    slotFault s = clearFull .full 5 (commitRepairs (withSys (fun x => { x with slotFailed := some x.bootSlot }) s)) := by
  rw [← takeReset_full (by simp [hs])]
  simp [slotFault, hr]

/-- The salt written afresh, where it was lost, loses no core (R50, R367, R527). -/
theorem initSalt_failedCores (s : State) : (initSalt s).flash.failedCores = s.flash.failedCores := by
  unfold initSalt
  rw [raiseIf_only]
  dsimp only [withAon_flash]
  split <;> rfl

/-- With six cores or more INIT goes on, whatever else it finds, until the agents start (R527). -/
theorem initRest_starts {s : State} (h : 6 ≤ popcount (bootCores s.flash.failedCores) 10) (p : InitProbe) (warm : Bool) :
    ∃ u, initRest p warm s = startAgents p warm u := by
  unfold initRest
  extract_lets keyed counted
  have hc : coresActive counted = popcount (bootCores s.flash.failedCores) 10 :=
    congrArg (fun n => popcount (bootCores n) 10) (initSalt_failedCores s)
  rw [if_neg (by omega)]
  exact ⟨_, rfl⟩

/-- The agents start: the part runs, its boot watchdog stands, and the state of the firmware journal is known (R64, R65, R85). -/
structure AgentsStarted (p : InitProbe) (t : State) : Prop where
  devState : t.sys.devState = .run
  watchdog : t.sys.bootWatchdog = false
  events : t.sys.startEvents = []
  journal : t.cry.journalOk = p.journalOk

theorem startAgents_starts (p : InitProbe) (warm : Bool) (s : State) : AgentsStarted p (startAgents p warm s) := by
  unfold startAgents
  extract_lets replayed b due burnt started slots xtal dumps worn journal
  refine ⟨rfl, rfl, rfl, ?_⟩
  rw [withSys_cry]
  cases hp : p.journalOk with
  | true => simp [journal, hp]
  | false =>
    simp only [journal, hp, Bool.false_eq_true, if_false]
    rw [raise_only]
    rfl

/-- Settles O24, first for the boot ROM and then for INIT. -/
theorem bootAndInit : Obligations.BootAndInit := by
  refine ⟨fun p s hs hk hc => ?rom, fun p s => ?init⟩
  case rom =>
    have hb {t : State} (hg : refsGood p s) (h : romBoot p s = t) : exec (.resetEnd p) s = .next t :=
      congrArg Host.Outcome.next ((resetEnd_boots hs hg).trans h)
    have hx := romBoot_powerOn hk hc p
    refine ⟨fun h => congrArg Host.Outcome.next (resetEnd_waits hs h), fun hg ha => ?_, fun hg ha ht => ?_, fun hg ha ht h3 => ?_,
      fun hg ha ht h0 hf hn hp hm f he hr => ?_⟩
    · rw [if_pos ha] at hx
      exact ⟨_, hb hg hx, enterHold_devState _, congrArg (·.rootReady) (enterHold_sec _)⟩
    · rw [ha, ht, if_neg Bool.false_ne_true, if_pos rfl] at hx
      exact ⟨_, hb hg hx, rfl, ht, rfl, rfl, rfl, rfl⟩
    · rw [ha, ht, if_neg Bool.false_ne_true, if_neg Bool.false_ne_true, if_pos (by omega)] at hx
      exact ⟨_, hb hg hx, rfl, rfl, rfl⟩
    · obtain ⟨n, hn⟩ := hn
      obtain rfl : f = firstSlot s := he
      have hi := enterInit_enters p n (firstSlot s) s
      exact ⟨_, hb hg (romBoot_entersInit hk hc ha ht h0 hf hn hp hm hr), hi.devState, hi.bootSlot, hi.strap, hi.rootReady, hi.root, hi.attempts,
        hi.salt, hi.otp⟩
  case init =>
    refine ⟨fun h => congrArg Host.Outcome.next (initDone_notInit h p), fun hs hr h0 h1 => ?_⟩
    have hx := initDone_oneRank hs hr h0 h1
    refine ⟨fun hp hc => ?_, fun hp => ?_⟩
    · obtain ⟨u, hu⟩ := initRest_starts (s := dramUp p s) (by rwa [dramUp_flash]) p s.ddr.trained
      have ha := startAgents_starts p s.ddr.trained u
      rw [if_neg (by simp [hp]), hu] at hx
      exact ⟨_, congrArg Host.Outcome.next hx, ha.devState, ha.watchdog, ha.events, ha.journal⟩
    · have hd := dramUp_sys p s
      have hb : (dramUp p s).sys.bootSlot = s.sys.bootSlot := by rw [hd]
      rw [if_pos hp, slotFault_init (by rw [hd]; exact hs) (by rw [hd]; exact hr)] at hx
      exact ⟨_, congrArg Host.Outcome.next hx, rfl, rfl, rfl, congrArg some hb⟩

end Sys2Proof.Proofs
end

section
/-!
PROOFS. The resets: what each clears and keeps, and what starts it (R59, R65, R68-R70, R75, R87, R97, R104, R132, R217, R364).
-/
namespace Sys2Proof.Proofs
open Machine Safety Laws

/-! Campaigns pause before a WARM reset (R444). -/

/-- What the pause of a campaign can do: it reaches the campaigns and the queues that hold their frames. -/
def ReachesCamps (s t : State) : Prop := ∃ tm upd, t = { s with tm := tm, upd := upd }

theorem ReachesCamps.refl (s : State) : ReachesCamps s s := ⟨_, _, rfl⟩

theorem ReachesCamps.trans {s t u : State} (h : ReachesCamps s t) (k : ReachesCamps t u) : ReachesCamps s u := by
  obtain ⟨_, _, rfl⟩ := h
  obtain ⟨_, _, rfl⟩ := k
  exact ⟨_, _, rfl⟩

theorem ReachesCamps.ite {p : Prop} [Decidable p] {s t u : State} (h : ReachesCamps s t) (k : ReachesCamps s u) :
    ReachesCamps s (if p then t else u) := by
  split
  · exact h
  · exact k

theorem ReachesCamps.foldl {α : Type} {f : State → α → State} (hf : ∀ s x, ReachesCamps s (f s x)) (l : List α) (s : State) :
    ReachesCamps s (l.foldl f s) := by
  induction l generalizing s with
  | nil => exact .refl s
  | cons x l ih => exact (hf s x).trans (ih _)

theorem reachesCamps_withTm (f : TmSt → TmSt) (s : State) : ReachesCamps s (withTm f s) := ⟨_, s.upd, rfl⟩

theorem reachesCamps_withCamp (c : Nat) (f : CampSt → CampSt) (s : State) : ReachesCamps s (withCamp c f s) := ⟨s.tm, _, rfl⟩

theorem reachesCamps_evalShaper (q : Nat) (s : State) : ReachesCamps s (evalShaper q s) := by
  unfold evalShaper
  refine .ite (.refl s) ?_
  cases headOf (queueOf s q) with
  | none => exact .refl s
  | some f => exact reachesCamps_withTm ..

theorem reachesCamps_offerQueue (q : Nat) (s : State) : ReachesCamps s (offerQueue q s) := by
  unfold offerQueue
  extract_lets u x l out
  have ho (s : State) : ReachesCamps s (out s) := reachesCamps_withTm ..
  refine (reachesCamps_evalShaper q s).trans (.ite (.trans (.ite (.refl _) (reachesCamps_withTm ..)) (ho _)) (.ite (ho _) ?_))
  cases x.frames.head? with
  | none => exact .refl _
  | some f => exact .ite (.ite (.refl _) (reachesCamps_withTm ..)) (ho _)

theorem reachesCamps_withdraw (q : Nat) (p : QFrame → Bool) (s : State) : ReachesCamps s (withdraw q p s) :=
  ((reachesCamps_withTm ..).trans (.foldl (fun _ _ => reachesCamps_withTm ..) _ _)).trans (reachesCamps_offerQueue ..)

theorem reachesCamps_takeBackRound (c : Nat) (s : State) : ReachesCamps s (takeBackRound c s) :=
  (reachesCamps_withCamp ..).trans (reachesCamps_withdraw ..)

theorem reachesCamps_pauseCamp (c : Nat) (s : State) : ReachesCamps s (pauseCamp c s) := by
  unfold pauseCamp
  extract_lets k back
  have hb : ReachesCamps s back := (reachesCamps_takeBackRound ..).trans (reachesCamps_withdraw ..)
  exact .ite (.refl s) (hb.trans (reachesCamps_withCamp ..))

/-! A WARM reset (R68, R217). -/

theorem takeReset_warm {s : State} (h : s.sys.devState ≠ .reset) (cause : Nat) :
    ∃ u, ReachesCamps s u ∧ takeReset .warm cause s = clearWarm (commitRepairs u) := by
  have hp : ReachesCamps s (s.upd.camps.foldl (fun s e => pauseCamp e.1 s) s) :=
    .foldl (fun s (e : Nat × CampSt) => reachesCamps_pauseCamp e.1 s) _ s
  refine ⟨_, hp, ?_⟩
  rw [takeReset, if_neg h]

/-- A property that holds of every entry of a table once a function has been applied to it, and of the entry that is not listed. -/
theorem tget_map_property {α : Type} {P : α → Prop} {d : α} {f : α → α} (hd : P d) (hf : ∀ x, P (f x)) (t : Tbl α) (i : Nat) :
    P (tget d (t.map (fun e => (e.1, f e.2))) i) := by
  induction t with
  | nil => exact hd
  | cons e t ih =>
    rw [List.map_cons, tget]
    split
    · exact hf _
    · exact ih

theorem cmpOf_clearWarm (s : State) (n : Nat) : (cmpOf (clearWarm s) n).armed = false :=
  tget_map_property (P := fun c : CmpSt => c.armed = false) (f := fun c => { c with armed := false, skipped := 0 }) rfl (fun _ => rfl) s.time.cmps n

theorem capOf_clearWarm (s : State) (i : Nat) : (tget {} (clearWarm s).time.caps i : CapSt).queue = [] :=
  tget_map_property (P := fun c : CapSt => c.queue = []) (f := fun c => { c with queue := [] }) rfl (fun _ => rfl) s.time.caps i

/-- A WARM reset restarts what follows a domain, and leaves its reading and its source (R217). -/
theorem domOf_clearWarm (s : State) (i : Nat) :
    domOf (clearWarm s).time i = { domOf s.time i with locked := false, good := 0, lastOffset := 0 } := by
  unfold domOf
  split <;> rfl

/-! A FULL or POWER_ON reset (R68). -/

/-- What every reset keeps: the AON well, the fuses, host memory and the state saved in flash. -/
def ResetKeeps (s t : State) : Prop := t.aon = s.aon ∧ t.otp = s.otp ∧ t.hostMem = s.hostMem ∧ t.flash.saved = s.flash.saved

/-- The part in RESET by kind and cause, with its blocks at their reset values. -/
def InReset (k : ResetKind) (cause : Nat) (s t : State) : Prop :=
  ResetKeeps s t ∧ t.sys.devState = .reset ∧ t.sys.resetKind = some k ∧ t.sys.resetCause = cause ∧
    t.time = {} ∧ t.sec = {} ∧ t.evt = {} ∧ t.hif = {} ∧ t.cry = {} ∧ t.tbl = {} ∧ t.tm = {}

theorem clearFull_inReset {s u : State} (h : ResetKeeps s u) (k : ResetKind) (cause : Nat) :
    InReset k cause s (clearFull k cause (commitRepairs u)) :=
  ⟨h, rfl, rfl, rfl, rfl, rfl, rfl, rfl, rfl, rfl, rfl⟩

theorem ResetKeeps.refl (s : State) : ResetKeeps s s := ⟨rfl, rfl, rfl, rfl⟩

theorem takeReset_full_inReset {s u : State} (h : ResetKeeps s u) (hs : u.sys.devState ≠ .reset) (cause : Nat) :
    InReset .full cause s (takeReset .full cause u) := by
  rw [takeReset_full hs]
  exact clearFull_inReset h ..

/-! What starts a reset. -/

/-- The states in which RESET_CTRL does what its KIND says (R75). -/
def obeysResetCtrl (s : State) : Prop := s.sys.devState = .run ∨ s.sys.devState = .init ∨ s.sys.devState = .fwVerify

theorem resetCtrl_obeyed {key : Nat} {s : State} (hk : key % 65536 = 0xC1EA) (hl : s.hif.pcieUp = true) (hs : obeysResetCtrl s) (full : Bool) :
    resetCtrl full key s = takeReset (if full then .full else .warm) 4 s := by
  rcases hs with hs | hs | hs <;> simp [resetCtrl, hk, hl, hs]

theorem obeysResetCtrl.notReset {s : State} (h : obeysResetCtrl s) : s.sys.devState ≠ .reset := by
  rcases h with h | h | h <;> simp [h]

/-- A wrong key, or a link that is down, resets nothing (R75). -/
theorem resetCtrl_ignored {key : Nat} {s : State} (h : key % 65536 ≠ 0xC1EA ∨ s.hif.pcieUp = false) (full : Bool) : resetCtrl full key s = s := by
  refine if_pos ?_
  rw [Bool.or_eq_true, decide_eq_true_eq, Bool.not_eq_true']
  exact h

theorem pinReset_short {ns : Nat} (h : ns < 1000) (s : State) : pinReset ns s = s := by simp [pinReset, h]

theorem pinReset_run {ns : Nat} {s : State} (h : 1000 ≤ ns) (hs : s.sys.devState = .run) : pinReset ns s = takeReset .full 1 s := by
  simp [pinReset, hs, Nat.not_lt.mpr h]

theorem bootExpiry_run {s : State} (hs : s.sys.devState = .run) : bootExpiry s = s := by simp [bootExpiry, watchdogRuns, hs]

theorem bootExpiry_init {s : State} (hs : s.sys.devState = .init) (hw : s.sys.bootWatchdog = true) (hi : s.boot.waitingImage = false) :
    bootExpiry s = takeReset .full 5 (markTrial s) := by
  simp [bootExpiry, watchdogRuns, hs, hw, hi]

theorem markTrial_keeps (s : State) : ResetKeeps s (markTrial s) ∧ (markTrial s).sys.devState = s.sys.devState := by
  unfold markTrial
  split
  · exact ⟨⟨rfl, rfl, rfl, rfl⟩, rfl⟩
  · exact ⟨.refl s, rfl⟩

theorem powerOn_coreUp (s : State) : powerOn false s = takeReset .powerOn 0 s := by simp [powerOn, withAon]

theorem powerOn_coreLow {s : State} (h : s.sys.devState ≠ .off) :
    powerOn true s = takeReset .powerOn 0 (withAon (fun a => { a with cycled := a.cycled || a.latch }) s) := by simp [powerOn, h]

theorem powerOff_eq (s : State) : powerOff s = withSys (fun x => { x with devState := .off, resetKind := none })
    (takeReset .powerOn 0 (withAon (fun a => { a with cycled := a.cycled || a.latch }) (withSys (fun x => { x with devState := .reset }) s))) := by
  rw [powerOff, powerOn_coreLow (by simp)]

/-! The release of a command that asked for a reset (R87, R97). -/

/-- What the release of a reply can do: it reaches the queue pairs, the events, host memory and the replies of the management paths. -/
structure Releases (s t : State) : Prop where
  blocks : ∃ sys hif evt mem, t = { s with sys := sys, hif := hif, evt := evt, hostMem := mem }
  devState : t.sys.devState = s.sys.devState
  resetNext : t.sys.resetNext = s.sys.resetNext

theorem Releases.refl (s : State) : Releases s s := ⟨⟨_, _, _, _, rfl⟩, rfl, rfl⟩

theorem Releases.trans {s t u : State} (h : Releases s t) (k : Releases t u) : Releases s u := by
  refine ⟨?_, k.devState.trans h.devState, k.resetNext.trans h.resetNext⟩
  obtain ⟨_, _, _, _, rfl⟩ := h.blocks
  obtain ⟨_, _, _, _, rfl⟩ := k.blocks
  exact ⟨_, _, _, _, rfl⟩

theorem releases_withHif (f : HifSt → HifSt) (s : State) : Releases s (withHif f s) := ⟨⟨_, _, _, _, rfl⟩, rfl, rfl⟩

theorem releases_settle (v : Nat) (was again : Bool) (s : State) : Releases s (settle v was again s) := by
  rw [settle_only]
  exact ⟨⟨_, _, _, _, rfl⟩, rfl, rfl⟩

theorem releases_postReply (f : Flight) (s : State) : Releases s (postReply f s) := by
  unfold postReply
  extract_lets q v was wrap written queued
  have hw : Releases s written := ⟨⟨_, _, _, _, rfl⟩, rfl, rfl⟩
  exact (hw.trans (releases_withHif ..)).trans (releases_settle ..)

theorem releases_sendReply (f : Flight) (s : State) : Releases s (sendReply f s) := by
  unfold sendReply
  split
  · exact .refl s
  split
  · exact ⟨⟨_, _, _, _, rfl⟩, rfl, rfl⟩
  split
  · exact ⟨⟨_, _, _, _, rfl⟩, rfl, rfl⟩
  split
  · exact releases_postReply f s
  · exact ⟨⟨_, _, _, _, rfl⟩, rfl, rfl⟩

theorem releases_drain (q : Nat) (s : State) : Releases s (drain q s) := by
  unfold drain
  split
  · exact releases_withHif ..
  · exact .refl s

theorem releases_releaseFlight (f : Flight) (s : State) : Releases s (releaseFlight f s) :=
  ((releases_sendReply f s).trans (releases_withHif ..)).trans (releases_drain ..)

/-- A SYS command that can ask for a reset. -/
def asksReset (c : Cmd) : Prop := (∃ p, c = .sysReset p) ∨ ∃ p, c = .sysState p

/-- The standby of a twin takes SYS commands itself: no delta record carries one (R470, R472). -/
theorem noteRelease_asksReset {f : Flight} {c : Cmd} (hf : f.cmd = some c) (hc : asksReset c) (s : State) : noteRelease f s = s := by
  have hr : standbyRefuses c f.hdr.flow = false := by
    rcases hc with ⟨p, rfl⟩ | ⟨p, rfl⟩ <;> simp [standbyRefuses, opcodeOf, isStatus]
  simp [noteRelease, hf, hr]

theorem startsReset_asksReset {f : Flight} {c : Cmd} (hf : f.cmd = some c) (hc : asksReset c) (hs : f.status = stOk) : startsReset f = true := by
  rcases hc with ⟨p, rfl⟩ | ⟨p, rfl⟩ <;> simp [startsReset, hf, hs]

theorem resetAfter_starts {f : Flight} {k : ResetKind} {s : State} (hf : startsReset f = true) (hk : s.sys.resetNext = some k) :
    resetAfter f s = takeReset k (if s.sys.devState = .tamperHold then 6 else 4) (withSys (fun x => { x with resetNext := none }) s) := by
  simp [resetAfter, hf, hk]

/-- The only command in flight, complete and with room for its reply, is released. -/
theorem commandRelease_single {h : Hdr} {f : Flight} {s : State} (hfl : s.hif.flights = [f]) (hq : f.qp = h.qp) (hh : f.hdr = h)
    (hd : f.done = true) (hs : f.staged = false) (ha : answers s = true) (hr : replyFull s h.qp = false) :
    commandRelease h.qp h.tag s = resetAfter f (noteRelease f (releaseFlight f s)) := by
  have ht : isTag h.qp h.tag f = true := by simp [isTag, hq, hh]
  simp [commandRelease, releaseNow, waitsForRing, hfl, isEnded, before, ht, hd, hs, ha, hq, hr]

/-- The part has taken a reset of this kind, from a state in which it was not in RESET. -/
structure ResetTaken (k : ResetKind) (cause : Nat) (s t : State) : Prop where
  kind : t.sys.resetKind = some k
  devState : t.sys.devState = if k = .warm then .fwVerify else .reset
  cause : k ≠ .warm → t.sys.resetCause = cause
  flights : t.hif.flights = []
  aon : t.aon = s.aon
  otp : t.otp = s.otp

theorem takeReset_taken {s : State} (h : s.sys.devState ≠ .reset) (k : ResetKind) (cause : Nat) : ResetTaken k cause s (takeReset k cause s) := by
  cases k with
  | powerOn => exact ⟨rfl, rfl, fun _ => rfl, rfl, rfl, rfl⟩
  | full =>
    rw [takeReset_full h]
    exact ⟨rfl, rfl, fun _ => rfl, rfl, rfl, rfl⟩
  | warm =>
    obtain ⟨u, hu, ht⟩ := takeReset_warm h cause
    obtain ⟨_, _, rfl⟩ := hu
    rw [ht]
    exact ⟨rfl, rfl, fun hk => absurd rfl hk, rfl, rfl, rfl⟩

theorem answers_notReset {s : State} (h : answers s = true) : s.sys.devState ≠ .reset := by
  intro hs
  simp [answers, hs] at h

/-- Settles O23, first for what starts a reset by itself and then for the release of a command that asked for one. -/
theorem resets : Obligations.Resets := by
  refine ⟨fun s => ?_, fun h c k s f hfl hq hh hf hd hg hs hc hk ha hr => ?release⟩
  case release =>
    have hx := commandRelease_single hfl hq hh hd hg ha hr
    have hl := releases_releaseFlight f s
    obtain ⟨sys, hif, evt, mem, hb⟩ := hl.blocks
    rw [noteRelease_asksReset hf hc, resetAfter_starts (startsReset_asksReset hf hc hs) (hl.resetNext.trans hk), hl.devState] at hx
    have ht := takeReset_taken (s := withSys (fun x => { x with resetNext := none }) (releaseFlight f s))
      (by simpa [hl.devState] using answers_notReset ha) k (if s.sys.devState = .tamperHold then 6 else 4)
    exact ⟨_, congrArg Host.Outcome.next hx, ht.kind, ht.devState, ht.cause, ht.flights, ht.aon.trans (congrArg (·.aon) hb),
      ht.otp.trans (congrArg (·.otp) hb)⟩
  intro kept full
  refine ⟨fun key hk hl hs => ⟨?warm, ?full⟩, fun key h => ?ignored, fun ns => ⟨fun h => ?short, fun h hs => ?pin⟩, fun hs => ?running,
    fun hs hw hi => ?watchdog, ?coreUp, fun hs => ?coreLow, ?off, fun hs => ?restored, fun hs => congrArg Host.Outcome.next (if_neg hs)⟩
  case warm =>
    obtain ⟨u, ⟨tm, upd, rfl⟩, hu⟩ := takeReset_warm (obeysResetCtrl.notReset hs) 4
    have hx := (resetCtrl_obeyed hk hl hs false).trans hu
    refine ⟨_, congrArg Host.Outcome.next hx, ⟨rfl, rfl, rfl, rfl⟩, rfl, rfl, rfl, rfl, rfl, rfl, rfl, rfl, rfl, rfl, rfl, rfl, rfl, rfl, rfl,
      fun i => ?_, fun n => cmpOf_clearWarm _ n, fun i => capOf_clearWarm _ i⟩
    rw [domOf_clearWarm]
    exact ⟨rfl, rfl, rfl, rfl, rfl⟩
  case full =>
    exact ⟨_, congrArg Host.Outcome.next (resetCtrl_obeyed hk hl hs true), takeReset_full_inReset (.refl s) (obeysResetCtrl.notReset hs) 4⟩
  case ignored => exact ⟨congrArg Host.Outcome.next (resetCtrl_ignored h false), congrArg Host.Outcome.next (resetCtrl_ignored h true)⟩
  case short => exact congrArg Host.Outcome.next (pinReset_short h s)
  case pin => exact ⟨_, congrArg Host.Outcome.next (pinReset_run h hs), takeReset_full_inReset (.refl s) (by simp [hs]) 1⟩
  case running => exact congrArg Host.Outcome.next (bootExpiry_run hs)
  case watchdog =>
    obtain ⟨hm, hd⟩ := markTrial_keeps s
    exact ⟨_, congrArg Host.Outcome.next (bootExpiry_init hs hw hi), takeReset_full_inReset hm (by simp [hd, hs]) 5⟩
  case coreUp => exact ⟨_, congrArg Host.Outcome.next (powerOn_coreUp s), clearFull_inReset (.refl s) .powerOn 0, rfl⟩
  case coreLow => exact ⟨_, congrArg Host.Outcome.next (powerOn_coreLow hs), rfl, rfl, rfl, rfl⟩
  case off =>
    refine ⟨_, congrArg Host.Outcome.next (powerOff_eq s), rfl, rfl, rfl, rfl, rfl, fun h => ?_⟩
    change (s.aon.cycled || s.aon.latch) = true
    rw [h, Bool.or_true]
  case restored => exact ⟨_, congrArg Host.Outcome.next (if_pos hs), clearFull_inReset (.refl s) .powerOn 0⟩

end Sys2Proof.Proofs
end

section
/-!
PROOFS. The SYS commands (R87, R88, R90, R97, R137, R543, R560): first what each meaning comes to, in any state, then the command path around it.
-/
namespace Sys2Proof.Proofs
open Machine Safety Laws

/-! SYS_RESET, SYS_TIMED and SYS_MGMT_CFG (R87, R137). -/

theorem sysReset_ok {p : SysResetP} (hp : p.kind ≤ 1) (h : Hdr) (s : State) :
    sysReset h p s = done (withSys (fun x => { x with resetNext := some (if p.kind = 0 then .warm else .full) }) s) := by
  simp [sysReset, Nat.not_lt.mpr hp]

theorem sysReset_bad {p : SysResetP} (hp : 1 < p.kind) (h : Hdr) (s : State) : sysReset h p s = refuse s stBadParam := by simp [sysReset, hp]

/-- The ranges of SYS_TIMED. -/
def timedCfgOk (p : SysTimedP) : Prop := p.queue ≤ 65 ∧ p.timeRef ≤ 3 ∧ 1 ≤ p.maxAheadS ∧ p.maxAheadS ≤ 86400

theorem timedCfgOk_iff (p : SysTimedP) : timedCfgOk p ↔
    (decide (65 < p.queue) || decide (3 < p.timeRef) || decide (p.maxAheadS = 0) || decide (86400 < p.maxAheadS)) = false := by
  simp [timedCfgOk, and_assoc, Nat.one_le_iff_ne_zero]

theorem sysTimed_ok {p : SysTimedP} (hp : timedCfgOk p) (h : Hdr) (s : State) : sysTimed h p s = done (withSys (fun x => { x with
    timed := tput x.timed p.queue { ref := p.timeRef, lateNs := p.lateNs, maxAheadS := p.maxAheadS } }) s) := by
  rw [timedCfgOk_iff] at hp
  simp only [sysTimed, hp]
  rfl

theorem sysTimed_bad {p : SysTimedP} (hp : ¬ timedCfgOk p) (h : Hdr) (s : State) : sysTimed h p s = refuse s stBadParam := by
  rw [timedCfgOk_iff, Bool.not_eq_false] at hp
  simp only [sysTimed, hp]
  rfl

/-- The ranges of SYS_MGMT_CFG. -/
def mgmtCfgOk (p : SysMgmtCfgP) : Prop := p.enable ≤ 1 ∧ p.portMask ≤ 3 ∧ 1 ≤ p.vlanId ∧ p.vlanId ≤ 4094

theorem mgmtCfgOk_iff (p : SysMgmtCfgP) : mgmtCfgOk p ↔
    (decide (1 < p.enable) || decide (3 < p.portMask) || decide (p.vlanId = 0) || decide (4094 < p.vlanId)) = false := by
  simp [mgmtCfgOk, and_assoc, Nat.one_le_iff_ne_zero]

theorem sysMgmtCfg_ok {p : SysMgmtCfgP} (hp : mgmtCfgOk p) (h : Hdr) (s : State) : sysMgmtCfg h p s =
    done (withSys (fun x => { x with mgmtEnable := p.enable = 1, mgmtPorts := p.portMask, mgmtVlan := p.vlanId }) s) := by
  rw [mgmtCfgOk_iff] at hp
  simp only [sysMgmtCfg, hp]
  rfl

theorem sysMgmtCfg_bad {p : SysMgmtCfgP} (hp : ¬ mgmtCfgOk p) (h : Hdr) (s : State) : sysMgmtCfg h p s = refuse s stBadParam := by
  rw [mgmtCfgOk_iff, Bool.not_eq_false] at hp
  simp only [sysMgmtCfg, hp]
  rfl

/-! SYS_INFO (R88). -/

/-- The reply data of SYS_INFO op 0 in RUN: the part, its active cores and the image that runs. -/
def partInfo (s : State) : List Byte :=
  fit 8 Config.serial ++ le 8 Config.eui64 ++ le 1 Config.grade ++ le 1 (popcount s.hlth.coresActive 10) ++ zeros 2 ++ le 4 s.upd.fw.imageVersion

/-- The reply data of SYS_INFO op 2: service, failed step and centre of each chain. -/
def chainInfo (s : State) : List Byte := [0, 1, 2, 3].flatMap (fun c =>
  le 1 (chainOf s c).service ++ le 1 (chainOf s c).failedStep ++ le 2 (chainOf s c).centre)

theorem sysInfo_part {h : Hdr} {p : SysInfoP} {s : State} (hp : p.op = 0) (hs : s.sys.devState = .run) : sysInfo h p s = done s (partInfo s) := by
  simp [sysInfo, partInfo, coresActive, hp, hs]

theorem sysInfo_dram {h : Hdr} {p : SysInfoP} {s : State} (hp : p.op = 1) (hs : s.sys.devState = .run) :
    sysInfo h p s = done (toHost p.bufferAddr fixedMap s) (le 4 s.sys.dramMib ++ le 4 (s.sys.dramMib - 656)) := by
  simp [sysInfo, hp, hs]

theorem sysInfo_chains {h : Hdr} {p : SysInfoP} {s : State} (hp : p.op = 2) (hs : s.sys.devState = .run) :
    sysInfo h p s = done s (chainInfo s) := by
  simp [sysInfo, chainInfo, hp, hs]

theorem sysInfo_badOp {p : SysInfoP} (hp : 2 < p.op) (h : Hdr) (s : State) : sysInfo h p s = refuse s stBadParam := by simp [sysInfo, hp]

/-- The ROM knows neither DRAM nor the chains. -/
theorem sysInfo_rom {h : Hdr} {p : SysInfoP} {s : State} (hs : s.sys.devState = .fwVerify) (hp : p.op = 1 ∨ p.op = 2) :
    sysInfo h p s = refuse s stBusy := by
  rcases hp with hp | hp <;> simp [sysInfo, hs, hp]

/-! SYS_STATE (R87, R90, R97). -/

theorem sysState_read {p : SysStateP} (hp : p.op = 0) (h : Hdr) (s : State) : sysState h p s = done s (stateReply s) := by simp [sysState, hp]

/-- LULL is armed with the settings of the command (R90). -/
def armLull (p : SysStateP) (s : State) : State := withSys (fun x => { x with
  lullArmed := true, lullRelease := p.lullDram = 1, wakeGpio := p.wakeGpio, wakeTimerS := p.wakeTimerS, wakeLatched := none }) s

theorem stateReply_armLull (p : SysStateP) (s : State) : stateReply (armLull p s) = stateReply s := by
  simp only [stateReply, sysStateWord, bootStatusWord, armLull, withSys_sys, withSys_boot, withSys_aon, withSys_otp, withSys_hlth]
  rfl

theorem lullRefused_iff (s : State) : lullRefused s = true ↔
    s.sys.devState ≠ .run ∨ (s.twin.configured = true ∧ s.twin.gates = true) ∨ (∃ e ∈ s.upd.camps, e.2.inWindow = true) ∨
      s.test.run.isSome = true ∨ s.sys.lullArmed = true := by
  simp only [lullRefused, Bool.or_eq_true, Bool.and_eq_true, decide_eq_true_eq, List.any_eq_true, or_assoc]

theorem sysState_lullBusy {h : Hdr} {p : SysStateP} {s : State} (hp : p.op = 1) (hd : p.lullDram ≤ 1) (hw : p.wakeGpio ≤ 15)
    (hl : lullRefused s = true) : sysState h p s = refuse s stBusy := by
  simp [sysState, hp, Nat.not_lt.mpr hd, Nat.not_lt.mpr hw, hl]

theorem sysState_lull {h : Hdr} {p : SysStateP} {s : State} (hp : p.op = 1) (hd : p.lullDram ≤ 1) (hw : p.wakeGpio ≤ 15)
    (hl : lullRefused s = false) : sysState h p s = done (armLull p s) (stateReply s) := by
  rw [← stateReply_armLull p s]
  simp [sysState, armLull, hp, Nat.not_lt.mpr hd, Nat.not_lt.mpr hw, hl]

theorem sysState_tamper {h : Hdr} {p : SysStateP} {s : State} (hp : p.op = 2) (hc : s.aon.cycled = false ∨ s.sec.tamperLive ≠ 0) :
    sysState h p s = refuse s stTamper := by
  rcases hc with hc | hc <;> simp [sysState, hp, hc]

theorem sysState_clears {h : Hdr} {p : SysStateP} {s : State} (hp : p.op = 2) (hc : s.aon.cycled = true) (hl : s.sec.tamperLive = 0) :
    sysState h p s = done (clearTamper s) (stateReply (clearTamper s)) := by
  simp [sysState, hp, hc, hl]

/-! One step of the tamper-clear counter (R391, R525, R529). -/

/-- What a step of the tamper-clear counter can do: it reaches the fuses, but not the security version, the health counters and the events. -/
structure BurnsClear (s t : State) : Prop where
  blocks : ∃ free evt otp hlth, t = { s with free := free, evt := evt, otp := otp, hlth := hlth }
  svBurnt : t.otp.svBurnt = s.otp.svBurnt

theorem BurnsClear.refl (s : State) : BurnsClear s s := ⟨⟨_, _, _, _, rfl⟩, rfl⟩

theorem BurnsClear.trans {s t u : State} (h : BurnsClear s t) (k : BurnsClear t u) : BurnsClear s u := by
  refine ⟨?_, k.svBurnt.trans h.svBurnt⟩
  obtain ⟨_, _, _, _, rfl⟩ := h.blocks
  obtain ⟨_, _, _, _, rfl⟩ := k.blocks
  exact ⟨_, _, _, _, rfl⟩

theorem burnsClear_raise (n : Nat) (s : State) : BurnsClear s (raise n s) := by
  rw [raise_only]
  exact ⟨⟨_, _, _, _, rfl⟩, rfl⟩

theorem burnsClear_raiseW (n w : Nat) (s : State) : BurnsClear s (raiseW n w s) := by
  rw [raiseW_only]
  exact ⟨⟨_, _, _, _, rfl⟩, rfl⟩

theorem burnsClear_withHlth (f : HlthSt → HlthSt) (s : State) : BurnsClear s (withHlth f s) := ⟨⟨_, _, _, _, rfl⟩, rfl⟩

theorem burnsClear_degrade (b : Nat) (s : State) : BurnsClear s (degrade b s) := by
  unfold degrade
  split
  · exact .refl s
  · exact (burnsClear_withHlth ..).trans (burnsClear_raise ..)

theorem burnsClear_exhausted (kind : Nat) (s : State) : BurnsClear s (exhausted kind s) :=
  (burnsClear_raiseW ..).trans (burnsClear_degrade ..)

theorem burnsClear_retireBank (b c : Nat) (s : State) : BurnsClear s (retireBank b c s) := by
  unfold retireBank
  extract_lets counted
  have hd : BurnsClear s (withOtp (fun o => { o with dead := setBit o.dead b }) s) := ⟨⟨_, _, _, _, rfl⟩, rfl⟩
  have hc : BurnsClear s counted := (hd.trans (burnsClear_raise ..)).trans (burnsClear_withHlth ..)
  split
  · exact hc.trans ⟨⟨_, _, _, _, rfl⟩, rfl⟩
  · exact hc.trans (burnsClear_exhausted ..)

theorem burnsClear_burnStep (n : Nat) (s : State) : BurnsClear s (burnStep 1 n s) := by
  induction n generalizing s with
  | zero => exact .refl s
  | succ n ih =>
    rw [burnStep]
    cases openBank s 1 with
    | none => exact .refl s
    | some b =>
      have ht : BurnsClear s (tick1 s) := ⟨⟨_, _, _, _, rfl⟩, rfl⟩
      dsimp only
      split
      · exact ht.trans ⟨⟨_, _, _, _, rfl⟩, rfl⟩
      · exact (ht.trans (burnsClear_retireBank ..)).trans (ih _)

/-- The state once CLEAR_TAMPER has written a fresh salt and cleared the latch and the loops (R97, R388). -/
def latchCleared (s : State) : State :=
  withAon (fun a => { a with latch := false, cycled := false, cause := 0, causeState := 0, loopEn := 0, loopMiss := [] }) (freshSalt s)

theorem clearTamper_burns (s : State) : ∃ t, BurnsClear (latchCleared s) t ∧
    clearTamper s = withSys (fun x => { x with resetNext := some .full }) t :=
  ⟨_, burnsClear_burnStep 16 (latchCleared s), rfl⟩

/-! SYS_EVENT_MAP (R137). -/

/-- What a word written to EVT.SRC_CFG says (R131). -/
def srcCfgWord (v : Nat) : SrcCfg := { vector := v % 128, toPf1 := bit v 7, enable := bit v 8 }

/-- What a change of the routing can do: it reaches the event block, and there no cause bit. -/
structure Routes (s t : State) : Prop where
  only : t = { s with evt := t.evt }
  cause : t.evt.cause = s.evt.cause

theorem Routes.refl (s : State) : Routes s s := ⟨rfl, rfl⟩

theorem Routes.trans {s t u : State} (h : Routes s t) (k : Routes t u) : Routes s u := by
  refine ⟨?_, k.cause.trans h.cause⟩
  rw [k.only, h.only]

theorem routes_settle (v : Nat) (was again : Bool) (s : State) : Routes s (settle v was again s) := by
  rw [settle_only]
  exact ⟨rfl, rfl⟩

theorem srcCfgOf_settle (v : Nat) (was again : Bool) (s : State) (n : Nat) : srcCfgOf (settle v was again s) n = srcCfgOf s n := by
  rw [settle_only]
  rfl

/-- A write of EVT.SRC_CFG routes its own source as the word says, and no other. -/
theorem writeSrcCfg_routes (n v : Nat) (s : State) :
    Routes s (writeSrcCfg n v s) ∧ ∀ m, srcCfgOf (writeSrcCfg n v s) m = if n = m then srcCfgWord v else srcCfgOf s m := by
  unfold writeSrcCfg
  extract_lets old c new wasOld wasNew written
  have hw : Routes s written := ⟨rfl, rfl⟩
  have hc (m : Nat) : srcCfgOf written m = if n = m then srcCfgWord v else srcCfgOf s m := tget_tput ..
  split
  · exact ⟨hw.trans (routes_settle ..), fun m => by rw [srcCfgOf_settle, hc]⟩
  · exact ⟨(hw.trans (routes_settle ..)).trans (routes_settle ..), fun m => by rw [srcCfgOf_settle, srcCfgOf_settle, hc]⟩

/-- The sources from `first` on, `count` of them, routed as a word says. -/
def mapSources (first count v : Nat) (s : State) : State := (List.range count).foldl (fun s i => writeSrcCfg (first + i) v s) s

theorem mapSources_routes (first count v : Nat) (s : State) :
    Routes s (mapSources first count v s) ∧
      ∀ m, srcCfgOf (mapSources first count v s) m = if first ≤ m ∧ m < first + count then srcCfgWord v else srcCfgOf s m := by
  induction count with
  | zero => exact ⟨.refl s, fun m => by rw [if_neg (by omega)]; rfl⟩
  | succ count ih =>
    obtain ⟨hr, hc⟩ := ih
    have hs : mapSources first (count + 1) v s = writeSrcCfg (first + count) v (mapSources first count v s) := by
      simp [mapSources, List.range_succ]
    obtain ⟨hw, hn⟩ := writeSrcCfg_routes (first + count) v (mapSources first count v s)
    rw [hs]
    refine ⟨hr.trans hw, fun m => ?_⟩
    rw [hn, hc]
    by_cases hm : first + count = m
    · rw [if_pos hm, if_pos (by omega)]
    · rw [if_neg hm]
      exact if_congr (by omega) rfl rfl

/-- The ranges of SYS_EVENT_MAP. -/
def eventMapOk (p : SysEventMapP) : Prop := 1 ≤ p.count ∧ p.firstSrc + p.count ≤ 384 ∧ p.vector ≤ 127 ∧ p.toPf1 ≤ 1 ∧ p.enable ≤ 1

theorem eventMapOk_iff (p : SysEventMapP) : eventMapOk p ↔
    (decide (p.count = 0) || decide (384 < p.firstSrc + p.count) || decide (127 < p.vector) || decide (1 < p.toPf1) ||
      decide (1 < p.enable)) = false := by
  simp [eventMapOk, and_assoc, Nat.one_le_iff_ne_zero]

/-- The word of EVT.SRC_CFG that SYS_EVENT_MAP writes. -/
def eventMapWord (p : SysEventMapP) : Nat := p.vector + 128 * p.toPf1 + 256 * p.enable

theorem srcCfgWord_eventMapWord {p : SysEventMapP} (hp : eventMapOk p) :
    srcCfgWord (eventMapWord p) = { vector := p.vector, toPf1 := decide (p.toPf1 = 1), enable := decide (p.enable = 1) } := by
  obtain ⟨-, -, hv, ht, he⟩ := hp
  have h1 : (p.vector + 128 * p.toPf1 + 256 * p.enable) % 128 = p.vector := by omega
  have h2 : (p.vector + 128 * p.toPf1 + 256 * p.enable) / 128 % 2 = p.toPf1 := by omega
  have h3 : (p.vector + 128 * p.toPf1 + 256 * p.enable) / 256 % 2 = p.enable := by omega
  simp [srcCfgWord, eventMapWord, bit, Nat.testBit_eq_decide_div_mod_eq, h1, h2, h3]

theorem sysEventMap_ok {p : SysEventMapP} (hp : eventMapOk p) (h : Hdr) (s : State) :
    sysEventMap h p s = done (mapSources p.firstSrc p.count (eventMapWord p) s) := by
  rw [eventMapOk_iff] at hp
  simp only [sysEventMap, hp]
  rfl

theorem sysEventMap_bad {p : SysEventMapP} (hp : ¬ eventMapOk p) (h : Hdr) (s : State) : sysEventMap h p s = refuse s stBadParam := by
  rw [eventMapOk_iff, Bool.not_eq_false] at hp
  simp only [sysEventMap, hp]
  rfl

/-! The command path around the meanings that change more than one block. -/

/-- SYS_INFO op 1 writes the map of the fixed regions where the command names a buffer (R19, R88). -/
theorem exec_sysInfo_dram {h : Hdr} {p : SysInfoP} {s : State} (hr : Ready h (.sysInfo p) s) (hs : s.sys.devState = .run) (hp : p.op = 1) :
    exec (.sysInfo h p) s = .next { s with
      hif := answered h (.sysInfo p) stOk 0 (le 4 s.sys.dramMib ++ le 4 (s.sys.dramMib - 656)) s,
      hostMem := if p.bufferAddr = 0 then s.hostMem else memWrite s.hostMem p.bufferAddr fixedMap } := by
  have ho := toHost_only p.bufferAddr fixedMap (inFlightWith h (.sysInfo p) s)
  refine agentRun_next hr (sysInfo_dram hp hs) (congrArg (·.hif) ho) (congrArg (·.time.c) ho) rfl rfl ?_
  simp only [done]
  rw [ho, toHost_hostMem]
  rfl

/-- An accepted CLEAR_TAMPER clears the latch under a fresh salt and asks for a FULL reset; the root and the security version stay (R97, R390). -/
theorem exec_sysState_clears {h : Hdr} {p : SysStateP} {s : State} (hr : Ready h (.sysState p) s) (hp : p.op = 2) (hc : s.aon.cycled = true)
    (hl : s.sec.tamperLive = 0) : ∃ t, exec (.sysState h p) s = .next t ∧ t.aon.latch = false ∧ t.aon.cause = 0 ∧
      t.aon.loopEn = 0 ∧ t.aon.saltValid = true ∧ t.aon.salt = randomBytes s 32 ∧ t.sys = { s.sys with resetNext := some .full } ∧
      t.sec.root = s.sec.root ∧ t.otp.svBurnt = s.otp.svBurnt := by
  obtain ⟨t, hb, ht⟩ := clearTamper_burns (inFlightWith h (.sysState p) s)
  obtain ⟨free, evt, otp, hlth, hu⟩ := hb.blocks
  have hx := sysState_clears (h := h) (s := inFlightWith h (.sysState p) s) hp hc hl
  rw [ht] at hx
  refine ⟨_, agentRun_answers hr _ hx (congrArg (·.hif) hu) (congrArg (·.time.c) hu) rfl rfl, congrArg (·.aon.latch) hu, congrArg (·.aon.cause) hu,
    congrArg (·.aon.loopEn) hu, congrArg (·.aon.saltValid) hu, congrArg (·.aon.salt) hu, ?_, congrArg (·.sec.root) hu, hb.svBurnt⟩
  exact congrArg (fun u : State => { u.sys with resetNext := some .full }) hu

/-- An event map routes the sources it names and no other, and sets no cause bit (R137). -/
theorem exec_sysEventMap_ok {h : Hdr} {p : SysEventMapP} {s : State} (hr : Ready h (.sysEventMap p) s) (hp : eventMapOk p) :
    ∃ t, exec (.sysEventMap h p) s = .next t ∧ t = { s with hif := answered h (.sysEventMap p) stOk 0 [] s, evt := t.evt } ∧
      t.evt.cause = s.evt.cause ∧ ∀ n, srcCfgOf t n = if p.firstSrc ≤ n ∧ n < p.firstSrc + p.count
        then { vector := p.vector, toPf1 := decide (p.toPf1 = 1), enable := decide (p.enable = 1) } else srcCfgOf s n := by
  obtain ⟨hm, hn⟩ := mapSources_routes p.firstSrc p.count (eventMapWord p) (inFlightWith h (.sysEventMap p) s)
  rw [srcCfgWord_eventMapWord hp] at hn
  refine ⟨_, agentRun_answers hr _ (sysEventMap_ok hp h _) (congrArg (·.hif) hm.only) (congrArg (·.time.c) hm.only) rfl rfl, ?_, hm.cause, hn⟩
  simp only [done]
  rw [hm.only]
  rfl

/-- Settles O21: each command is Ready, so its reply is what its meaning comes to. -/
theorem systemCommands : Obligations.SystemCommands := by
  refine ⟨fun h s => ⟨fun p hr => ?_, fun p hr => ?_, fun p hr => ?_⟩, fun h s => ⟨fun p hr hs => ?info, fun p hr hs hp => ?rom, fun p hr => ?state,
    fun p hr => ?eventMap⟩⟩
  · exact ⟨fun hp => agentRun_answers hr _ (sysReset_ok hp h _) rfl rfl rfl rfl, fun hp => agentRun_refuses hr (sysReset_bad hp h _)⟩
  · exact ⟨fun hp => agentRun_answers hr _ (sysTimed_ok hp h _) rfl rfl rfl rfl, fun hp => agentRun_refuses hr (sysTimed_bad hp h _)⟩
  · exact ⟨fun hp => agentRun_answers hr _ (sysMgmtCfg_ok hp h _) rfl rfl rfl rfl, fun hp => agentRun_refuses hr (sysMgmtCfg_bad hp h _)⟩
  case info =>
    exact ⟨fun hp => agentRun_answers hr _ (sysInfo_part hp hs) rfl rfl rfl rfl, fun hp => exec_sysInfo_dram hr hs hp,
      fun hp => agentRun_answers hr _ (sysInfo_chains hp hs) rfl rfl rfl rfl, fun hp => agentRun_refuses hr (sysInfo_badOp hp h _)⟩
  case rom => exact agentRun_refuses hr (sysInfo_rom hs hp)
  case state =>
    refine ⟨fun hp => agentRun_answers hr _ (sysState_read hp h _) rfl rfl rfl rfl, fun hp hd hw => ⟨fun hb => ?_, fun hb => ?_⟩,
      fun hp hc => agentRun_refuses hr (sysState_tamper hp hc), exec_sysState_clears hr⟩
    · exact agentRun_refuses hr (sysState_lullBusy hp hd hw ((lullRefused_iff s).mpr hb))
    · have hl : lullRefused s = false := by rwa [← Bool.not_eq_true, lullRefused_iff]
      exact agentRun_answers hr _ (sysState_lull hp hd hw hl) rfl rfl rfl rfl
  case eventMap => exact ⟨fun hp => agentRun_refuses hr (sysEventMap_bad hp h _), fun hp => exec_sysEventMap_ok hr hp⟩

end Sys2Proof.Proofs
end

section
/-!
PROOFS. A raised event and its vector (R129, R131, R132).
-/
namespace Sys2Proof.Proofs
open Machine Safety Laws

/-- The cause bit of source n set. -/
def withCause (n : Nat) (s : State) : State := withEvt (fun e => { e with cause := setBit e.cause n }) s

/-- The vector of a source is one of the block-event vectors (R131). -/
theorem vecOfSrc_range (c : SrcCfg) : 128 ≤ vecOfSrc c ∧ vecOfSrc c < 256 ∨ 260 ≤ vecOfSrc c := by
  unfold vecOfSrc
  split <;> omega

theorem vecPending_vecOfSrc (s : State) (c : SrcCfg) : vecPending s (vecOfSrc c) = blockPending s (vecOfSrc c) := by
  rcases vecOfSrc_range c with h | h
  · simp (disch := omega) only [vecPending, if_neg, if_pos]
  · simp (disch := omega) only [vecPending, if_neg]

/-- A source that is enabled and has its cause bit set makes its vector pending. -/
theorem vecPending_of_cause {n : Nat} {s : State} (hn : n < 384) (he : (srcCfgOf s n).enable = true) (hc : s.evt.cause.testBit n = true) :
    vecPending s (vecOfSrc (srcCfgOf s n)) = true := by
  rw [vecPending_vecOfSrc, blockPending, List.any_eq_true]
  exact ⟨n, by simpa using hn, by simp [he, hc]⟩

theorem testBit_setBit (c n k : Nat) : (setBit c n).testBit k = (c.testBit k || decide (k = n)) := by
  rw [setBit, Nat.testBit_or, Nat.testBit_two_pow]
  simp only [eq_comm]

/-- A source that is enabled and not yet raised sets its cause bit; its vector is notified where it was not pending before. -/
theorem raise_fresh {n : Nat} {s : State} (hn : n < 384) (he : (srcCfgOf s n).enable = true) (hc : s.evt.cause.testBit n = false) :
    raise n s = if vecPending s (vecOfSrc (srcCfgOf s n)) then withCause n s else notify (vecOfSrc (srcCfgOf s n)) (withCause n s) := by
  have hp : vecPending (withCause n s) (vecOfSrc (srcCfgOf s n)) = true :=
    vecPending_of_cause (s := withCause n s) hn he (by simp [withCause, testBit_setBit])
  have hr : raise n s = settle (vecOfSrc (srcCfgOf s n)) (vecPending s (vecOfSrc (srcCfgOf s n))) false (withCause n s) :=
    if_neg (by simp [he, hc])
  rw [hr, settle, hp]
  simp

theorem notify_unmasked {v : Nat} {s : State} (h : v ∈ s.evt.unmasked) :
    notify v s = withEvt (fun e => { e with msgs := e.msgs ++ [v] }) s := if_pos (by simpa using h)

theorem notify_masked {v : Nat} {s : State} (h : v ∉ s.evt.unmasked) :
    notify v s = withEvt (fun e => { e with held := if e.held.contains v then e.held else e.held ++ [v] }) s := if_neg (by simpa using h)

theorem mem_held_notify_masked {v : Nat} {s : State} (h : v ∉ s.evt.unmasked) : v ∈ (notify v s).evt.held := by
  rw [notify_masked h]
  by_cases hv : v ∈ s.evt.held <;> simp [hv]

/-- Settles O7: a source that may raise is `raise_fresh`, by whether its vector was pending and whether it is masked. -/
theorem eventRaiseSetsCauseOnce : Obligations.EventRaiseSetsCauseOnce := by
  intro n s hn
  refine ⟨raise_idle, fun he hc => ⟨fun k => ?_, raise_only n s, fun hp => ?_, fun hp hu => ?_, fun hp hu => ?_⟩⟩
  · rw [raise_causeAfter, causeAfter, if_pos he, testBit_setBit]
  · rw [raise_fresh hn he hc, if_pos hp]
    exact ⟨rfl, rfl⟩
  · rw [raise_fresh hn he hc, hp, if_neg Bool.false_ne_true, notify_unmasked (s := withCause n s) hu]
    exact ⟨rfl, rfl⟩
  · rw [raise_fresh hn he hc, hp, if_neg Bool.false_ne_true]
    exact ⟨by rw [notify_masked (s := withCause n s) hu]; rfl, mem_held_notify_masked (s := withCause n s) hu⟩

end Sys2Proof.Proofs
end

section
/-!
PROOFS. The command path of R30: what a fetch refuses, and what holds a fetched command back (R108, R114, R115, R117, R119, R122, R124).
-/
namespace Sys2Proof.Proofs
open Machine Safety Laws

/-! Deadlines (R119). -/

theorem deadlinePassed_iff {d n : Nat} (hd : d < 2 ^ 32) (hn : n < 2 ^ 32) (h0 : d ≠ 0) :
    deadlinePassed d n = true ↔ 1 ≤ ((n : Int) - d) % 2 ^ 32 ∧ ((n : Int) - d) % 2 ^ 32 ≤ 2 ^ 31 - 1 := by
  simp only [deadlinePassed, h0, ne_eq, not_false_eq_true, decide_true, Bool.true_and, Bool.and_eq_true, decide_eq_true_eq]
  omega

/-- The deadline is the first check of a fetch. -/
theorem entryRefusal_pastDeadline {h : Hdr} {s : State} (hd : deadlinePassed h.deadline (fwTick s) = true) (c : Option Cmd) :
    entryRefusal h c s = stTimeout := if_pos hd

/-- Settles O9: the comparison is arithmetic modulo 2^32; ST_TIMEOUT is a refusal at the fetch, which flags no error. -/
theorem passedDeadlineTimesOut : Obligations.PassedDeadlineTimesOut := by
  refine ⟨fun d n hd hn h0 => deadlinePassed_iff hd hn h0, fun h c s ha ht hd => ?_⟩
  have he := entryRefusal_pastDeadline hd (some c)
  have hx := (refusedAtFetchHasNoEffect h c s ha ht (by rw [he]; decide)).1 (fun ⟨_, _, _, hn⟩ => hn he)
  rwa [he] at hx

/-! A TAG in flight (R108). -/

/-- An entry whose TAG is in flight is answered with ST_DUPLICATE, and no other check counts. -/
theorem fetchEntry_duplicate {h : Hdr} {c : Cmd} {s : State} (hd : s.hif.flights.any (isTag h.qp h.tag) = true) :
    fetchEntry h (some c) 0 0 s = refusedWith h c stDuplicate s := by
  simp only [fetchEntry, hd]
  rfl

/-- Settles O10: the fetch answers the command, and the agent finds it done. -/
theorem duplicateTagRefused : Obligations.DuplicateTagRefused := by
  intro h c s f ha hf hq ht hn
  have hd : s.hif.flights.any (isTag h.qp h.tag) = true := List.any_eq_true.mpr ⟨f, hf, by simp [isTag, hq, ht]⟩
  have hx := fetchEntry_duplicate (c := c) hd
  have hw : workOn h c (runCmd h c) (refusedWith h c stDuplicate s) = refusedWith h c stDuplicate s :=
    workOn_done (find_append_new _ hn (isFor_new h c s : isFor h c (doneFlight h c stDuplicate 0 [] s) = true)) rfl
  have ho : s.hif.flights.any (isFor h c) = false := by simpa using hn
  rw [exec_rowOf, agentRun, ha, ho, hx, hw]
  rfl

/-! What holds a fetched command back (R114, R115, R117). -/

/-- The state once a fetched command has come this far: its flight joins those before it. -/
def joined (f : Flight) (s : State) : State := withHif (fun x => { x with flights := x.flights ++ [f] }) s

/-- An ORDERED command of the ring keeps the command from starting, or the command is ORDERED itself (R115). -/
def orderedBefore (h : Hdr) (s : State) : Prop := ∃ f ∈ s.hif.flights, f.qp = h.qp ∧ (hflag h 0 = true ∨ hflag f.hdr 0 = true)

/-- An earlier command of the flow is in flight (R114). -/
def sameFlow (h : Hdr) (c : Cmd) (s : State) : Prop := ∃ f ∈ s.hif.flights, flowKey f = (opcodeOf c / 256, h.flow)

theorem mayStart_new (h : Hdr) (c : Cmd) (s : State) : mayStart s.hif.flights (newFlight h c s) = true ↔ ¬ orderedBefore h s := by
  simp only [mayStart, List.all_eq_true, orderedBefore, not_exists, not_and]
  refine forall₂_congr fun f _ => ?_
  by_cases hq : f.qp = h.qp <;> simp [newFlight, hq]

theorem heldBack_new (h : Hdr) (c : Cmd) (s t : State) :
    heldBack t s.hif.flights (newFlight h c s) = true ↔ sameFlow h c s ∨ replyFull t h.qp = true := by
  simp only [heldBack, Bool.or_eq_true, List.any_eq_true, sameFlow, decide_eq_true_eq]
  rfl

/-- The agent's first work on a fetched command that nothing refused: what becomes of it depends on what holds it back. -/
theorem agentRun_fetched {h : Hdr} {c : Cmd} {run : State → Res} {s : State} (ha : answers s = true) (ht : TagFree h s)
    (he : entryRefusal h (some c) s = stOk) : agentRun h c run s = .next (
      if mayStart s.hif.flights (newFlight h c s) = false then inFlightWith h c s
      else if staysDelayed h c then stageTimed h c (unlessJob h c run (inFlightWith h c s)) (inFlightWith h c s)
      else if heldBack (inFlightWith h c s) s.hif.flights (newFlight h c s) then joined { newFlight h c s with staged := true } s
      else complete (isFor h c) (unlessJob h c run (inFlightWith h c s))) := by
  have hn := not_isFor (c := c) ht
  have hx := isFor_new h c s
  have hfl : (inFlightWith h c s).hif.flights = s.hif.flights ++ [newFlight h c s] := rfl
  have hst : withHif (fun x => { x with
      flights := modFirst (isFor h c) (fun y => { y with staged := true, doneTick := fwTick (inFlightWith h c s) }) x.flights })
      (inFlightWith h c s) = joined { newFlight h c s with staged := true } s := by
    simp only [inFlightWith, joined, withHif, modFirst_append_new _ _ hn hx]
    rfl
  simp only [agentRun, ha, any_isFor ht, fetchEntry_ok ht he (entry_paramOk he), workOn, hfl, find_append_new _ hn hx, before_append_new _ hn hx,
    hst]
  cases hm : mayStart s.hif.flights (newFlight h c s) with
  | false => simp [newFlight]
  | true => simp [newFlight]

theorem unlessJob_busy {h : Hdr} {c : Cmd} {s : State} (hj : jobBusy c h.flow s = true) (run : State → Res) :
    unlessJob h c run s = refuse s stBusy := if_pos hj

theorem unlessJob_free {h : Hdr} {c : Cmd} {s : State} (hj : jobBusy c h.flow s = false) (run : State → Res) :
    unlessJob h c run s = run s := by simp [unlessJob, hj]

/-- Settles O12: each condition chooses its branch of the agent's first work. -/
theorem heldCommandHasNoEffect : Obligations.HeldCommandHasNoEffect := by
  intro h c s ha ht he hd
  have hms := mayStart_new h c s
  have hhb := heldBack_new h c s (inFlightWith h c s)
  refine ⟨fun ho => ?_, fun ho hf => ?_, fun ho hf hr hj => ?_⟩
  · have hm : mayStart s.hif.flights (newFlight h c s) = false := by simpa using mt hms.mp (not_not_intro ho)
    rw [exec_rowOf, agentRun_fetched ha ht he, if_pos hm]
    rfl
  · rw [exec_rowOf, agentRun_fetched ha ht he, if_neg (by simp [hms.mpr ho]), hd, if_neg Bool.false_ne_true, if_pos (hhb.mpr (.inl hf))]
    rfl
  · have hb : ¬ heldBack (inFlightWith h c s) s.hif.flights (newFlight h c s) = true := by
      rw [hhb, inFlightWith_replyFull, hr]
      exact fun hx => hx.elim hf Bool.false_ne_true
    rw [exec_rowOf, agentRun_fetched ha ht he, if_neg (by simp [hms.mpr ho]), hd, if_neg Bool.false_ne_true, if_neg hb,
      unlessJob_busy (s := inFlightWith h c s) hj,
      complete_ready ht rfl rfl rfl rfl]
    rfl

/-! TIMED commands (R122, R124). -/

/-- A TIMED command that passes its checks waits on the delay list with the settings of its queue. -/
theorem stageTimed_ok {h : Hdr} {c : Cmd} {r : Res} {s : State} (ht : TagFree h s) (hr : r.status = stOk) :
    stageTimed h c r (inFlightWith h c s) = withHif (fun x => { x with
      flights := x.flights ++ [{ newFlight h c s with delayed := true }],
      delayList := delayInsert {
        qp := h.qp, hdr := h, cmd := some c, ref := (timedOf s h.qp).ref, lateNs := (timedOf s h.qp).lateNs, actNs := h.actTime } x.delayList }) s := by
  simp only [stageTimed, hr, inFlightWith, withHif, modFirst_append_new _ _ (not_isFor ht) (isFor_new h c s)]
  rfl

/-- Settles O11: nothing earlier holds the command, so its checks are run and it is put on the delay list. -/
theorem timedCommandWaits : Obligations.TimedCommandWaits := by
  intro h c s ha ht he hd ⟨hu, _, hj⟩ u hr
  have hm : ¬ mayStart s.hif.flights (newFlight h c s) = false := by
    rw [Bool.not_eq_false, mayStart_new]
    rintro ⟨f, hf, hq, ho⟩
    obtain ⟨h1, h2⟩ := (hu f hf).1 hq
    simp [h1, h2] at ho
  have hjb : jobBusy c h.flow (inFlightWith h c s) = false := by rw [inFlightWith_jobBusy, hj]
  have hr : (runCmd h c (inFlightWith h c s)).status = stOk := hr
  rw [exec_rowOf, agentRun_fetched ha ht he, if_neg hm, if_pos hd, unlessJob_free hjb, stageTimed_ok ht hr]
  rfl

end Sys2Proof.Proofs
end

section
/-!
PROOFS. Doorbells and QP_CTRL of the queue pairs (R98-R101, R103, R104, R129).
-/
namespace Sys2Proof.Proofs
open Machine Safety Laws

/-! A queue pair after an update of another block, or of a queue pair. -/

theorem qpOf_withQp (q p : Nat) (f : QpSt → QpSt) (s : State) : qpOf (withQp q f s) p = if q = p then f (qpOf s p) else qpOf s p := by
  change tget _ (tput s.hif.qps q (f (qpOf s q))) p = _
  rw [tget_tput]
  split
  · next h => rw [h]
  · rfl

@[simp] theorem qpOf_withQp_same (q : Nat) (f : QpSt → QpSt) (s : State) : qpOf (withQp q f s) q = f (qpOf s q) := by simp [qpOf_withQp]

theorem qpOf_withQp_other {q p : Nat} (h : p ≠ q) (f : QpSt → QpSt) (s : State) : qpOf (withQp q f s) p = qpOf s p := by
  simp [qpOf_withQp, h.symm]

theorem qpOf_congr {s t : State} (h : t.hif.qps = s.hif.qps) (q : Nat) : qpOf t q = qpOf s q := by rw [qpOf, qpOf, h]

@[simp] theorem qpOf_raise (n : Nat) (s : State) (q : Nat) : qpOf (raise n s) q = qpOf s q := qpOf_congr (by rw [raise_hif]) q

/-- An update of a queue pair is an assignment of what it comes to. -/
theorem withQp_const {q : Nat} {f : QpSt → QpSt} {s : State} {x : QpSt} (h : f (qpOf s q) = x) : withQp q f s = withQp q (fun _ => x) s := by
  simp only [withQp, h]

/-! What makes a vector pending is in HIF, in PCIE, and of the event block in the cause bits and the routing. -/

theorem vecPending_settle (v : Nat) (was again : Bool) (s : State) (w : Nat) : vecPending (settle v was again s) w = vecPending s w := by
  rw [settle_only]
  rfl

@[simp] theorem qpOf_settle (v : Nat) (was again : Bool) (s : State) (q : Nat) : qpOf (settle v was again s) q = qpOf s q :=
  qpOf_congr (by rw [settle_only]) q

/-- A vector that stays pending is notified again after a write that repeats its message (R129). -/
theorem settle_again {v : Nat} {s : State} (hv : vecPending s v = true) (was : Bool) : settle v was true s = notify v s := by
  simp [settle, hv]

/-! Doorbells (R98, R101). -/

/-- A doorbell of 2^n or above: the error is flagged (R101). -/
def badDoorbell (q : Nat) (s : State) : State := raise 0x010 (withQp q (fun y => { y with fetchError := true }) s)

theorem sqDoorbell_ignored {q : Nat} {s : State} (h : 64 ≤ q ∨ pfFrozen s (qpOf s q).func = true) (v : Nat) : sqDoorbell q v s = s := by
  simp [sqDoorbell, h]

theorem cqDoorbell_ignored {q : Nat} {s : State} (h : 64 ≤ q ∨ pfFrozen s (qpOf s q).func = true) (v : Nat) : cqDoorbell q v s = s := by
  simp [cqDoorbell, h]

theorem sqDoorbell_taken {q : Nat} {s : State} (hq : q < 64) (hf : pfFrozen s (qpOf s q).func = false) (v : Nat) :
    sqDoorbell q v s = if 2 ^ (qpOf s q).sqLog2 ≤ v % 4096 then badDoorbell q s else withQp q (fun y => { y with sqTail := v % 4096 }) s := by
  simp [sqDoorbell, badDoorbell, hf, Nat.not_le.mpr hq]

/-- The queue pair once its reply doorbell has taken a new CQ_HEAD. -/
def readUpTo (v : Nat) (x : QpSt) : QpSt :=
  let y := { x with cqHead := v, cqFull := false }
  { y with unsignalled := min y.unsignalled (unread y) }

theorem cqDoorbell_taken {q : Nat} {s : State} (hq : q < 64) (hf : pfFrozen s (qpOf s q).func = false) (v : Nat) :
    cqDoorbell q v s = if 2 ^ (qpOf s q).cqLog2 ≤ v % 4096 then badDoorbell q s
      else settle (replyVector s q) (vecPending s (replyVector s q)) true (withQp q (readUpTo (v % 4096)) s) := by
  simp only [cqDoorbell, hf, Nat.not_le.mpr hq]
  rfl

theorem cqDoorbell_reads {q v : Nat} {s : State} (hq : q < 64) (hf : pfFrozen s (qpOf s q).func = false) (hv : v % 4096 < 2 ^ (qpOf s q).cqLog2) :
    let t := cqDoorbell q v s
    t = { s with hif := t.hif, evt := t.evt } ∧ t.hif = { s.hif with qps := t.hif.qps } ∧ (∀ p, p ≠ q → qpOf t p = qpOf s p) ∧
      (qpOf t q).cqHead = v % 4096 ∧ (qpOf t q).cqFull = false ∧ (qpOf t q).unsignalled ≤ (qpOf s q).unsignalled ∧
      (qpOf t q).unsignalled ≤ unread (qpOf t q) ∧ t.evt = { s.evt with msgs := t.evt.msgs, held := t.evt.held } ∧
      (vecPending t (replyVector s q) = true → replyVector s q ∈ s.evt.unmasked → t.evt.msgs = s.evt.msgs ++ [replyVector s q]) := by
  intro t
  have ht : t = settle (replyVector s q) (vecPending s (replyVector s q)) true (withQp q (readUpTo (v % 4096)) s) :=
    (cqDoorbell_taken hq hf v).trans (if_neg (Nat.not_le.mpr hv))
  have hx : qpOf t q = readUpTo (v % 4096) (qpOf s q) := by rw [ht, qpOf_settle, qpOf_withQp_same]
  have hs := ht.trans (settle_only ..)
  rw [hx]
  refine ⟨by rw [hs]; rfl, by rw [hs]; rfl, fun p hp => ?_, rfl, rfl, Nat.min_le_left .., Nat.min_le_right .., by rw [hs]; rfl, fun hp hu => ?_⟩
  · rw [ht, qpOf_settle, qpOf_withQp_other hp]
  · rw [ht, vecPending_settle] at hp
    rw [ht, settle_again hp, notify_unmasked (s := withQp q (readUpTo (v % 4096)) s) hu]
    rfl

/-- Settles O13: the value against the ring's size chooses the branch of the doorbell. -/
theorem queuePairDoorbells : Obligations.QueuePairDoorbells := by
  intro q value s x v
  refine ⟨fun hq => ?_, fun hq hf => ⟨fun hv => ?_, fun hv => ?_, fun hv => ?_, fun hv => ⟨_, rfl, cqDoorbell_reads hq hf hv⟩⟩, fun _ hf => ?_⟩
  · exact ⟨congrArg Host.Outcome.next (sqDoorbell_ignored (.inl hq) value), congrArg Host.Outcome.next (cqDoorbell_ignored (.inl hq) value)⟩
  · exact congrArg Host.Outcome.next ((sqDoorbell_taken hq hf value).trans (if_neg (Nat.not_le.mpr hv)))
  · exact congrArg Host.Outcome.next ((sqDoorbell_taken hq hf value).trans (if_pos hv))
  · exact congrArg Host.Outcome.next ((cqDoorbell_taken hq hf value).trans (if_pos hv))
  · exact ⟨congrArg Host.Outcome.next (sqDoorbell_ignored (.inr hf) value), congrArg Host.Outcome.next (cqDoorbell_ignored (.inr hf) value)⟩

/-! QP_CTRL (R99, R100, R104). -/

/-- The function may write QP_CTRL of queue pair q: PF0 every one, PF1 those of FUNC 1 (R500). -/
def mayCtrl (func q : Nat) (s : State) : Prop := pfFrozen s func = false ∧ (func = 1 → (qpOf s q).func = 1)

theorem mayCtrl.notPf1Drop {func q : Nat} {s : State} (h : mayCtrl func q s) : (decide (func = 1) && decide ((qpOf s q).func = 0)) = false := by
  by_cases hf : func = 1
  · simp [h.2 hf]
  · simp [hf]

/-- The queue pair once a QP_CTRL write with ENABLE 1 is taken. -/
def ctrlOn (func ctrl : Nat) (x : QpSt) : QpSt :=
  if x.enabled then { qpCtrl func ctrl x with enable := true }
  else if sizesOk (qpCtrl func ctrl x) then { qpCtrl func ctrl x with enable := true, enabled := true }
  else { qpCtrl func ctrl x with enable := false, configError := true }

theorem ctrlOn_enabled {x : QpSt} (h : x.enabled = true) (func ctrl : Nat) :
    ctrlOn func ctrl x = { qpCtrl func ctrl x with enable := true } := if_pos h

theorem ctrlOn_accepted {func ctrl : Nat} {x : QpSt} (h : x.enabled = false) (hs : sizesOk (qpCtrl func ctrl x) = true) :
    ctrlOn func ctrl x = { qpCtrl func ctrl x with enable := true, enabled := true } := by
  rw [ctrlOn, h, hs]
  rfl

theorem ctrlOn_refused {func ctrl : Nat} {x : QpSt} (h : x.enabled = false) (hs : ¬ sizesOk (qpCtrl func ctrl x) = true) :
    ctrlOn func ctrl x = { qpCtrl func ctrl x with enable := false, configError := true } := by
  rw [ctrlOn, if_neg (by simp [h]), if_neg hs]

/-- The queue pair once a QP_CTRL write with ENABLE 0 is taken, before it drains. -/
def ctrlOff (func ctrl : Nat) (x : QpSt) : QpSt := { qpCtrl func ctrl x with enable := false }

theorem qpOn_allowed {func q : Nat} {s : State} (hq : q < 64) (hm : mayCtrl func q s) (ctrl : Nat) :
    qpOn func q ctrl s = withQp q (fun _ => ctrlOn func ctrl (qpOf s q)) s := by
  simp only [qpOn, hm.1, hm.notPf1Drop, Nat.not_le.mpr hq]
  rfl

theorem qpOff_allowed {func q : Nat} {s : State} (hq : q < 64) (hm : mayCtrl func q s) (ctrl : Nat) :
    qpOff func q ctrl s = drain q (withQp q (fun _ => ctrlOff func ctrl (qpOf s q)) s) := by
  simp only [qpOff, hm.1, hm.notPf1Drop, Nat.not_le.mpr hq]
  rfl

theorem qpCtrl_enabled {x : QpSt} (h : x.enabled = true) (func ctrl : Nat) : qpCtrl func ctrl x =
    { x with prio := bits ctrl 11 10, coalCount := bits ctrl 23 16, coalTime := bits ctrl 31 24 } := by simp [qpCtrl, h]

theorem qpCtrl_notEnabled {x : QpSt} (h : x.enabled = false) (func ctrl : Nat) : qpCtrl func ctrl x =
    { x with prio := bits ctrl 11 10, coalCount := bits ctrl 23 16, coalTime := bits ctrl 31 24,
             func := if func = 0 then bits ctrl 1 1 else x.func, sqLog2 := bits ctrl 5 2, cqLog2 := bits ctrl 9 6 } := by simp [qpCtrl, h]

@[simp] theorem ctrlOff_enabled (func ctrl : Nat) (x : QpSt) : (ctrlOff func ctrl x).enabled = x.enabled := by
  unfold ctrlOff qpCtrl
  dsimp only
  split <;> rfl

theorem sizesOk_iff (x : QpSt) :
    Machine.sizesOk x = true ↔ 4 ≤ x.sqLog2 ∧ x.sqLog2 ≤ 12 ∧ 4 ≤ x.cqLog2 ∧ x.cqLog2 ≤ 12 ∧ x.sqLog2 ≤ x.cqLog2 := by
  simp [Machine.sizesOk, and_assoc]

theorem inFlight_withQp (q p : Nat) (f : QpSt → QpSt) (s : State) : inFlight (withQp q f s) p = inFlight s p := rfl

/-- With commands in flight, and with a queue pair that is not ENABLED, there is nothing to drain. -/
theorem drain_idle {q : Nat} {x : QpSt} {s : State} (h : x.enabled = false ∨ inFlight s q ≠ 0) :
    drain q (withQp q (fun _ => x) s) = withQp q (fun _ => x) s := by
  refine if_neg ?_
  rcases h with h | h <;> simp [h, inFlight_withQp]

theorem drain_last {q : Nat} {x : QpSt} {s : State} (hq : q < 64) (h : x.enable = false) (he : x.enabled = true) (hi : inFlight s q = 0) :
    drain q (withQp q (fun _ => x) s) = withQp q (fun y => { y with enabled := false }) (withQp q (fun _ => x) s) := by
  simp [drain, hq, h, he, hi, inFlight_withQp]

/-- A base register of a queue pair that is ENABLED keeps its value (R100). -/
theorem writeReg_qpBase_enabled {q off : Nat} {s : State} (hq : q < 64) (ho : off = 0 ∨ off = 4 ∨ off = 8 ∨ off = 12)
    (he : (qpOf s q).enabled = true) (func v : Nat) : writeReg func (0x21000 + 0x40 * q + off) v s = s := by
  have hi : (0x21000 + 0x40 * q + off - 0x21000) / 0x40 = q := by omega
  have hm : (0x21000 + 0x40 * q + off) % 0x40 = off := by omega
  simp (disch := omega) only [writeReg, Bool.and_eq_true, decide_eq_true_eq, if_neg, if_pos, hi, hm]
  rcases ho with rfl | rfl | rfl | rfl <;> simp [writeQp, he]

/-- Settles O14: the queue pair after the write is `qpCtrl` of it, with ENABLE and ENABLED as R100 and R104 give them. -/
theorem queuePairEnable : Obligations.QueuePairEnable := by
  intro func q ctrl s hq _ hz hf x sq cq y z sizes
  have hm : mayCtrl func q s := ⟨hz, hf⟩
  have hon := qpOn_allowed hq hm ctrl
  have hoff := qpOff_allowed hq hm ctrl
  have hset (he : x.enabled = false) : qpCtrl func ctrl x = z := qpCtrl_notEnabled he func ctrl
  have hkept (he : x.enabled = true) : qpCtrl func ctrl x = y := qpCtrl_enabled he func ctrl
  refine ⟨fun he hs => ?_, fun he hs => ?_, fun he => ?_, fun he hi => ?_, fun he hi => ?_, fun he => ?_, fun off v ho hf0 he => ?_⟩
  · have hx := ctrlOn_accepted he (by rw [hset he]; exact (sizesOk_iff z).mpr hs)
    exact congrArg Host.Outcome.next (by rw [hon, hx, hset he])
  · have hx := ctrlOn_refused he (by rw [hset he]; exact mt (sizesOk_iff z).mp hs)
    exact congrArg Host.Outcome.next (by rw [hon, hx, hset he])
  · exact congrArg Host.Outcome.next (by rw [hon, ctrlOn_enabled he, hkept he])
  · rw [drain_idle (.inr (by omega)), ctrlOff, hkept he] at hoff
    exact congrArg Host.Outcome.next hoff
  · rw [drain_last hq rfl ((ctrlOff_enabled ..).trans he) hi, ctrlOff, hkept he] at hoff
    exact ⟨_, congrArg Host.Outcome.next hoff, rfl, by rw [qpOf_withQp_same, qpOf_withQp_same],
      fun p hp => by rw [qpOf_withQp_other hp, qpOf_withQp_other hp]⟩
  · rw [drain_idle (.inl ((ctrlOff_enabled ..).trans he)), ctrlOff, hset he] at hoff
    exact congrArg Host.Outcome.next hoff
  · refine congrArg Host.Outcome.next ?_
    have ha : (0x21000 + 0x40 * q + off) % 4 = 0 := by omega
    subst hf0
    simp only [registerWrite, hz, ha, writeReg_qpBase_enabled hq ho he]
    rfl

end Sys2Proof.Proofs
end

section
/-!
PROOFS. HIF fetches from the ring that it serves next (R102, R105).
-/
namespace Sys2Proof.Proofs
open Machine Safety Laws

theorem fetchable_inFlight {s : State} {q : Nat} (h : fetchable s q = true) : inFlight s q < 64 := by
  simp only [fetchable, Bool.and_eq_true, decide_eq_true_eq] at h
  exact h.1.2

/-- The queue pair served next has an entry, and no ring of a higher PRIO has one. -/
theorem servedNext_first {s : State} {q : Nat} (h : servedNext s q = true) :
    fetchable s q = true ∧ ∀ p < 64, fetchable s p = true → (qpOf s q).prio ≤ (qpOf s p).prio := by
  simp only [servedNext, Bool.and_eq_true, List.all_eq_true, List.mem_range, Bool.or_eq_true, decide_eq_true_eq] at h
  obtain ⟨⟨hq, hp⟩, -⟩ := h
  exact ⟨hq, fun p hlt hf => (hp p hlt).resolve_left (by simp [hf])⟩

theorem commandFetch_notServed {e : Entry} {s : State} (h : servedNext s e.hdr.qp = false) : commandFetch e s = s := by
  simp [commandFetch, h]

/-- The state once HIF has passed an entry of ring q: it is the ring served last in its PRIO, and SQ_HEAD is past the entry. -/
def passedEntry (q : Nat) (s : State) : State :=
  withQp q (fun x => { x with sqHead := (x.sqHead + 1) % 2 ^ x.sqLog2 })
    (withHif (fun h => { h with lastServed := tput h.lastServed (qpOf s q).prio q }) s)

theorem commandFetch_served {e : Entry} {s : State} (hq : e.hdr.qp < 64) (hs : s.sys.devState = .run) (hn : servedNext s e.hdr.qp = true) :
    commandFetch e s = fetchEntry e.hdr e.cmd 0 0 (passedEntry e.hdr.qp s) := by
  simp only [commandFetch, hs, hn, Nat.not_le.mpr hq]
  rfl

/-- What a fetch leaves: one flight more, of this entry, done where the fetch refused it; FETCH_ERROR and an event beside it at most. -/
structure Fetched (h : Hdr) (c : Option Cmd) (f : Flight) (s t : State) : Prop where
  flights : t.hif.flights = s.hif.flights ++ [f]
  entry : f.qp = h.qp ∧ f.hdr = h ∧ f.cmd = c
  answered : f.done = true ↔ f.status ≠ stOk
  only : t = { s with hif := t.hif, evt := t.evt }
  delayList : t.hif.delayList = s.hif.delayList
  qpSame : (qpOf t h.qp).sqHead = (qpOf s h.qp).sqHead
  qpOther : ∀ p, p ≠ h.qp → qpOf t p = qpOf s p

/-- The flight of an entry that has been fetched. -/
def fetchedFlight (h : Hdr) (c : Option Cmd) (mac seqNo : Nat) (s : State) : Flight :=
  let st := if s.hif.flights.any (isTag h.qp h.tag) then stDuplicate else entryRefusal h c s
  { qp := h.qp, hdr := h, cmd := c, fetchTick := fwTick s, done := st ≠ stOk, status := st, doneTick := fwTick s, mac := mac, seqNo := seqNo }

theorem fetchedFlight_answered (h : Hdr) (c : Option Cmd) (mac seqNo : Nat) (s : State) :
    (fetchedFlight h c mac seqNo s).done = true ↔ (fetchedFlight h c mac seqNo s).status ≠ stOk := by
  simp only [fetchedFlight, decide_eq_true_eq]

/-- The parameters of a fetched entry of a host ring could not be read, and no earlier check of the fetch hides that (R107). -/
def flagsFetch (h : Hdr) (c : Option Cmd) (s : State) : Bool :=
  let dup := s.hif.flights.any (isTag h.qp h.tag)
  !dup && (if dup then stDuplicate else entryRefusal h c s) ≠ stTimeout && hflag h 2 && h.paramError && h.qp < 64

theorem fetchEntry_eq (h : Hdr) (c : Option Cmd) (mac seqNo : Nat) (s : State) : fetchEntry h c mac seqNo s =
    if flagsFetch h c s then flagFetchError h (joined (fetchedFlight h c mac seqNo s) s) else joined (fetchedFlight h c mac seqNo s) s := rfl

/-- An entry of a management path joins the commands in flight, and nothing else happens. -/
theorem fetchEntry_management {h : Hdr} (hq : 64 ≤ h.qp) (c : Option Cmd) (mac seqNo : Nat) (s : State) :
    fetchEntry h c mac seqNo s = joined (fetchedFlight h c mac seqNo s) s := by
  have hn : flagsFetch h c s = false := by simp [flagsFetch, Nat.not_lt.mpr hq]
  rw [fetchEntry_eq, hn]
  rfl

theorem fetchEntry_fetched (h : Hdr) (c : Option Cmd) (mac seqNo : Nat) (s : State) :
    Fetched h c (fetchedFlight h c mac seqNo s) s (fetchEntry h c mac seqNo s) := by
  have hj : Fetched h c (fetchedFlight h c mac seqNo s) s (joined (fetchedFlight h c mac seqNo s) s) :=
    ⟨rfl, ⟨rfl, rfl, rfl⟩, fetchedFlight_answered .., rfl, rfl, rfl, fun _ _ => rfl⟩
  rw [fetchEntry_eq]
  split
  · rw [flagFetchError]
    refine ⟨by rw [raise_hif]; rfl, hj.entry, hj.answered, by rw [raise_only]; rfl, by rw [raise_hif]; rfl, ?_, fun p hp => ?_⟩
    · rw [qpOf_raise, qpOf_withQp_same]
      rfl
    · rw [qpOf_raise, qpOf_withQp_other hp]
      rfl
  · exact hj

/-- Settles O15: the ring served next is fetched from, and HIF fetches from no other. -/
theorem fetchServesRings : Obligations.FetchServesRings := by
  intro e s q
  refine ⟨fun hq hs hn => ?_, fun hi => ?_, fun p hp hf hlt => ?_⟩
  · obtain ⟨hl, ⟨hfq, hfh, hfc⟩, hd, ho, hdl, hsame, hother⟩ := fetchEntry_fetched e.hdr e.cmd 0 0 (passedEntry q s)
    refine ⟨_, _, congrArg Host.Outcome.next (commandFetch_served hq hs hn), hl, hfq, hfh, hfc, hd, ?_, fun p hp => ?_, ?_, hdl, ?_⟩
    · rw [hsame, passedEntry, qpOf_withQp_same]
      rfl
    · rw [hother p hp, passedEntry, qpOf_withQp_other hp]
      rfl
    · rw [ho]
      rfl
    · have hlt := fetchable_inFlight (servedNext_first hn).1
      refine Nat.le_trans ?_ hlt
      rw [inFlight, hl, List.filter_append, List.length_append]
      exact Nat.add_le_add_left (List.length_filter_le _ [_]) _
  · refine congrArg Host.Outcome.next (commandFetch_notServed (Bool.eq_false_iff.mpr fun hn => ?_))
    exact absurd (fetchable_inFlight (servedNext_first hn).1) (Nat.not_lt.mpr hi)
  · refine congrArg Host.Outcome.next (commandFetch_notServed (Bool.eq_false_iff.mpr fun hn => ?_))
    exact absurd ((servedNext_first hn).2 p hp hf) (Nat.not_le.mpr hlt)

end Sys2Proof.Proofs
end

section
/-!
PROOFS. A deadline that passes before completion (R120, R121).
-/
namespace Sys2Proof.Proofs
open Machine Safety Laws

theorem isTag_iff (qp tag : Nat) (f : Flight) : isTag qp tag f = true ↔ f.qp = qp ∧ f.hdr.tag = tag := by simp [isTag]

theorem isTag_false {qp tag : Nat} {f : Flight} (h : ¬ (f.qp = qp ∧ f.hdr.tag = tag)) : isTag qp tag f = false := by
  rwa [← Bool.not_eq_true, isTag_iff]

/-- The first flight that satisfies p, where those before it do not. -/
theorem find_first {p : Flight → Bool} {pre post : List Flight} {f : Flight} (h : ∀ g ∈ pre, p g = false) (hf : p f = true) :
    (pre ++ f :: post).find? p = some f := by
  rw [List.find?_append, List.find?_eq_none.mpr (by simpa using h), List.find?_cons_of_pos hf]
  rfl

/-- A flight that a deadline or a stop of the part has ended with a status (R91, R120, R389). -/
def endedWith (status : Nat) (s : State) (f : Flight) : Flight := { f with
  done := true, waiting := false, staged := false, delayed := false, status := status, info := 0, data := [], doneTick := fwTick s }

/-- Ending the commands of a queue pair and TAG ends the one in flight, and leaves the others and the delay list. -/
theorem endFlights_one {qp tag : Nat} {pre post : List Flight} {f : Flight} {s : State} (hl : s.hif.flights = pre ++ f :: post)
    (hf : isTag qp tag f = true) (hd : f.done = false) (ho : ∀ g ∈ pre ++ post, isTag qp tag g = false)
    (hx : ∀ d ∈ s.hif.delayList, ¬ (d.qp = qp ∧ d.hdr.tag = tag)) (status : Nat) :
    endFlights status (isTag qp tag) s = { s with hif := { s.hif with flights := pre ++ endedWith status s f :: post } } := by
  rw [List.forall_mem_append] at ho
  have hm (l : List Flight) (h : ∀ g ∈ l, isTag qp tag g = false) :
      l.map (fun g => if g.done || !isTag qp tag g then g else endedWith status s g) = l :=
    (List.map_congr_left (fun g hg => by simp [h g hg])).trans (List.map_id l)
  have hfl : s.hif.flights.map (fun g => if g.done || !isTag qp tag g then g else endedWith status s g) = pre ++ endedWith status s f :: post := by
    rw [hl, List.map_append, List.map_cons, hm _ ho.1, hm _ ho.2, hf, hd]
    rfl
  have hdl : s.hif.delayList.filter (fun d => !s.hif.flights.any (fun f => isTag d.qp d.hdr.tag f && isTag qp tag f)) = s.hif.delayList := by
    refine List.filter_eq_self.mpr fun d hdm => ?_
    simp only [Bool.not_eq_true', List.any_eq_false, Bool.and_eq_true, isTag_iff]
    rintro g - ⟨⟨h1, h2⟩, h3, h4⟩
    exact hx d hdm ⟨h1.symm.trans h3, h2.symm.trans h4⟩
  simp only [endFlights, withHif, hdl]
  rw [← hfl]
  rfl

theorem deadlineAbandon_found {qp tag : Nat} {f : Flight} {s : State} (hf : s.hif.flights.find? (isTag qp tag) = some f)
    (hx : ∀ d ∈ s.hif.delayList, ¬ (d.qp = qp ∧ d.hdr.tag = tag)) : deadlineAbandon qp tag s =
      if f.done || f.staged || !deadlinePassed f.hdr.deadline (fwTick s) then s else endFlights stTimeout (isTag qp tag) s := by
  have hn : s.hif.delayList.find? (fun d => d.qp = qp && d.hdr.tag = tag) = none := by
    simpa only [List.find?_eq_none, Bool.and_eq_true, decide_eq_true_eq] using hx
  simp only [deadlineAbandon, hf, hn]
  rfl

/-- Settles O17: the command is the one of its queue pair and TAG, so the deadline ends it alone. -/
theorem deadlineAbandons : Obligations.DeadlineAbandons := by
  intro qp tag pre post f s hl hq ht ho hx
  have hf : isTag qp tag f = true := (isTag_iff ..).mpr ⟨hq, ht⟩
  have ho : ∀ g ∈ pre ++ post, isTag qp tag g = false := fun g hg => isTag_false (ho g hg)
  have hfind : s.hif.flights.find? (isTag qp tag) = some f := by
    rw [hl]
    exact find_first (fun g hg => ho g (List.mem_append_left _ hg)) hf
  have hab := deadlineAbandon_found hfind hx
  refine ⟨fun h => ?_, fun hd hs hp => ?_⟩
  · refine congrArg Host.Outcome.next (hab.trans (if_pos ?_))
    rcases h with h | h | h <;> simp [h]
  · rw [if_neg (by simp [hd, hs, hp]), endFlights_one hl hf hd ho hx] at hab
    exact congrArg Host.Outcome.next hab

end Sys2Proof.Proofs
end

section
/-!
PROOFS. The release of a completed command and its reply (R103, R111, R112, R114, R116).
-/
namespace Sys2Proof.Proofs
open Machine Safety Laws

/-! What a release does to the queue pairs and to the commands in flight. -/

/-- The queue pair once a reply has been written at its CQ_TAIL. -/
def tailPast (f : Flight) (x : QpSt) : QpSt := { x with
  cqTail := if x.cqTail + 1 = 2 ^ x.cqLog2 then 0 else x.cqTail + 1, phase := if x.cqTail + 1 = 2 ^ x.cqLog2 then !x.phase else x.phase,
  unsignalled := if signalsNow x f.hdr f.status then 0 else x.unsignalled + 1 }

/-- A reply written at CQ_TAIL of its queue pair with the PHASE of the pass (R111, R112). -/
def replyWritten (f : Flight) (s : State) : State :=
  let x := qpOf s f.qp
  withQp f.qp (fun _ => tailPast f x) (hostWrite (x.cqBase + 32 * x.cqTail) (replyBytes f.hdr.tag f.status f.info x.sqHead x.phase f.data) s)

theorem replyWritten_only (f : Flight) (s : State) :
    replyWritten f s = { s with hif := (replyWritten f s).hif, hostMem := (replyWritten f s).hostMem } := rfl

theorem postReply_eq (f : Flight) (s : State) :
    postReply f s = settle (replyVector s f.qp) (vecPending s (replyVector s f.qp)) false (replyWritten f s) := rfl

/-- A reply is needed unless NO_REPLY is set and the command ended with ST_OK (R116). -/
def silent (f : Flight) : Prop := hflag f.hdr 3 = true ∧ f.status = stOk

theorem sendReply_silent {f : Flight} (h : silent f) (s : State) : sendReply f s = s := if_pos (by simp [h.1, h.2])

/-- A reply of a host ring is written, and beside it only the event block changes. -/
theorem sendReply_host {f : Flight} {s : State} (h : ¬ silent f) (hq : f.qp < 64) (he : (qpOf s f.qp).enabled = true) :
    ∃ e, sendReply f s = { s with hif := (replyWritten f s).hif, evt := e, hostMem := (replyWritten f s).hostMem } := by
  have hs : ¬ (hflag f.hdr 3 && decide (f.status = stOk)) = true := by simpa [silent] using h
  rw [sendReply, if_neg hs, if_neg (by omega), if_neg (by omega), if_pos he, postReply_eq, settle_only, replyWritten_only]
  exact ⟨_, rfl⟩

/-- Draining reaches ENABLED of its own queue pair alone. -/
structure Drains (q : Nat) (s t : State) : Prop where
  only : t = { s with hif := { s.hif with qps := t.hif.qps } }
  same : qpOf t q = { qpOf s q with enabled := (qpOf t q).enabled }
  other : ∀ p, p ≠ q → qpOf t p = qpOf s p

theorem drains_drain (q : Nat) (s : State) : Drains q s (drain q s) := by
  unfold drain
  split
  · exact ⟨rfl, by rw [qpOf_withQp_same], fun p hp => qpOf_withQp_other hp ..⟩
  · exact ⟨rfl, rfl, fun _ _ => rfl⟩

/-- The first flight that is complete under this queue pair and TAG leaves. -/
def withoutFlight (f : Flight) (s : State) : State :=
  withHif (fun h => { h with flights := h.flights.eraseP (fun x => isTag f.qp f.hdr.tag x && x.done) }) s

theorem releaseFlight_eq (f : Flight) (s : State) : releaseFlight f s = drain f.qp (withoutFlight f (sendReply f s)) := rfl

theorem noteRelease_only (f : Flight) (s : State) : noteRelease f s = { s with twin := (noteRelease f s).twin } := by
  unfold noteRelease
  split
  · unfold noteDelta
    split_ifs <;> rfl
  · rfl

/-! The flight that COMMAND_RELEASE finds. -/

/-- A completed command of this queue pair and TAG is in flight, with none of them before it. -/
structure InOrder (qp tag : Nat) (pre post : List Flight) (f : Flight) (s : State) : Prop where
  flights : s.hif.flights = pre ++ f :: post
  ofTag : isTag qp tag f = true
  done : f.done = true
  running : f.staged = false
  first : ∀ g ∈ pre, isTag qp tag g = false

theorem InOrder.find_ended {qp tag : Nat} {pre post : List Flight} {f : Flight} {s : State} (h : InOrder qp tag pre post f s) :
    s.hif.flights.find? (isEnded qp tag) = some f := by
  rw [h.flights]
  exact find_first (fun g hg => by simp [isEnded, h.first g hg]) (by simp [isEnded, h.ofTag, h.done])

theorem InOrder.find_done {qp tag : Nat} {pre post : List Flight} {f : Flight} {s : State} (h : InOrder qp tag pre post f s) :
    s.hif.flights.find? (fun g => isTag qp tag g && g.done) = some f := by
  rw [h.flights]
  exact find_first (fun g hg => by simp [h.first g hg]) (by simp [h.ofTag, h.done])

theorem InOrder.before_ended {qp tag : Nat} {pre post : List Flight} {f : Flight} {s : State} (h : InOrder qp tag pre post f s) :
    before (isEnded qp tag) s.hif.flights = pre := by
  rw [before, h.flights, List.takeWhile_append_of_pos (fun g hg => by simp [isEnded, h.first g hg])]
  simp [isEnded, h.ofTag, h.done]

theorem InOrder.erased {qp tag : Nat} {pre post : List Flight} {f : Flight} {s : State} (h : InOrder qp tag pre post f s) :
    s.hif.flights.eraseP (fun g => isTag f.qp f.hdr.tag g && g.done) = pre ++ post := by
  obtain ⟨rfl, rfl⟩ := (isTag_iff ..).mp h.ofTag
  rw [h.flights, List.eraseP_append_right _ (fun g hg => by simp [h.first g hg]), List.eraseP_cons_of_pos (by simp [h.ofTag, h.done])]

theorem commandRelease_inOrder {qp tag : Nat} {pre post : List Flight} {f : Flight} {s : State} (h : InOrder qp tag pre post f s)
    (ha : answers s = true) : commandRelease qp tag s =
      if pre.any (fun x => flowKey x = flowKey f) then s
      else if waitsForRing s f then (if qp < 64 then withQp qp (fun x => { x with cqFull := true }) s else s)
      else resetAfter f (noteRelease f (releaseFlight f s)) := by
  simp only [commandRelease, h.find_ended, h.before_ended, ha, h.running, releaseNow, Bool.false_eq_true, if_false, h.find_done,
    Bool.not_true, Bool.false_or]

theorem resetAfter_none {f : Flight} {s : State} (h : s.sys.resetNext = none) : resetAfter f s = s := by simp [resetAfter, h]

/-- No reset has been asked for: the release ends with the note for the twin. -/
theorem resetAfter_released {f : Flight} {s : State} (h : s.sys.resetNext = none) :
    resetAfter f (noteRelease f (releaseFlight f s)) = noteRelease f (releaseFlight f s) := by
  refine resetAfter_none ?_
  rw [noteRelease_only]
  exact (releases_releaseFlight f s).resetNext.trans h

theorem waitsForRing_iff {f : Flight} {s : State} (hd : f.done = true) : waitsForRing s f = true ↔ replyFull s f.qp = true ∧ ¬ silent f := by
  simp [waitsForRing, hd, silent, imp_iff_not_or]

/-- A command that needs no reply leaves; only its queue pair and the record for the twin change. -/
theorem released_silent {qp tag : Nat} {pre post : List Flight} {f : Flight} {s : State} (h : InOrder qp tag pre post f s) (hs : silent f) :
    let t := noteRelease f (releaseFlight f s)
    t = { s with hif := t.hif, twin := t.twin } ∧ t.hif.flights = pre ++ post := by
  intro t
  have hn : t = { releaseFlight f s with twin := t.twin } := noteRelease_only ..
  have hd := (drains_drain f.qp (withoutFlight f s)).only
  have hr : releaseFlight f s = drain f.qp (withoutFlight f s) := by rw [releaseFlight_eq, sendReply_silent hs]
  rw [hr, hd] at hn
  exact ⟨by rw [hn]; rfl, by rw [hn]; exact h.erased⟩

/-- A command that needs a reply leaves, and its reply is in the ring. -/
theorem released_reply {qp tag : Nat} {pre post : List Flight} {f : Flight} {s : State} (h : InOrder qp tag pre post f s) (hs : ¬ silent f)
    (hq : f.qp < 64) (he : (qpOf s f.qp).enabled = true) :
    let x := qpOf s f.qp
    let t := noteRelease f (releaseFlight f s)
    t = { s with hif := t.hif, evt := t.evt, twin := t.twin, hostMem := t.hostMem } ∧ t.hif.flights = pre ++ post ∧
      t.hostMem = memWrite s.hostMem (x.cqBase + 32 * x.cqTail) (replyBytes f.hdr.tag f.status f.info x.sqHead x.phase f.data) ∧
      (qpOf t f.qp).cqTail = (tailPast f x).cqTail ∧ (qpOf t f.qp).phase = (tailPast f x).phase ∧ ∀ p, p ≠ f.qp → qpOf t p = qpOf s p := by
  intro x t
  have hn : t = { releaseFlight f s with twin := t.twin } := noteRelease_only ..
  obtain ⟨hd, hsame, hother⟩ := drains_drain f.qp (withoutFlight f (sendReply f s))
  obtain ⟨e, hp⟩ := sendReply_host hs hq he
  have hu (p : Nat) : qpOf (withoutFlight f (sendReply f s)) p = qpOf (replyWritten f s) p := by
    rw [hp]
    rfl
  have ht (p : Nat) : qpOf t p = qpOf (drain f.qp (withoutFlight f (sendReply f s))) p := by
    rw [hn, releaseFlight_eq]
    rfl
  have hw : qpOf (replyWritten f s) f.qp = tailPast f x := by rw [replyWritten, qpOf_withQp_same]
  rw [releaseFlight_eq, hd, hp] at hn
  refine ⟨by rw [hn]; rfl, by rw [hn]; exact h.erased, by rw [hn]; rfl, ?_, ?_, fun p hpq => ?_⟩
  · rw [ht, hsame, hu, hw]
  · rw [ht, hsame, hu, hw]
  · rw [ht, hother p hpq, hu, replyWritten, qpOf_withQp_other hpq]
    rfl

/-- Settles O16: the order of the flow and the room in the ring choose the branch, and the two lemmas above say what a release leaves. -/
theorem releaseWritesReply : Obligations.ReleaseWritesReply := by
  intro qp tag pre post f s ha hq64 he hr hl hq ht hd hs hp x hsil
  have h : InOrder qp tag pre post f s := ⟨hl, (isTag_iff ..).mpr ⟨hq, ht⟩, hd, hs, fun g hg => isTag_false (hp g hg)⟩
  have hrel := commandRelease_inOrder h ha
  rw [resetAfter_released hr] at hrel
  have hw := waitsForRing_iff (s := s) hd
  have hflow (hx : ∀ g ∈ pre, flowKey g ≠ flowKey f) : ¬ pre.any (fun g => flowKey g = flowKey f) = true := by simpa using hx
  subst hq ht
  refine ⟨fun ⟨g, hg, hk⟩ => ?_, fun hx hf hn => ?_, fun hx hf hn => ?_, fun hx hn => ?_⟩
  · exact congrArg Host.Outcome.next (hrel.trans (if_pos (List.any_eq_true.mpr ⟨g, hg, by simpa using hk⟩)))
  · rw [if_neg (hflow hx), if_pos (hw.mpr ⟨hf, hn⟩), if_pos hq64] at hrel
    exact congrArg Host.Outcome.next hrel
  · rw [if_neg (hflow hx), if_neg (fun hc => by simp [hf] at hw; simp [hw] at hc)] at hrel
    exact ⟨_, congrArg Host.Outcome.next hrel, released_reply h hn hq64 he⟩
  · rw [if_neg (hflow hx), if_neg (fun hc => (hw.mp hc).2 hn)] at hrel
    exact ⟨_, congrArg Host.Outcome.next hrel, released_silent h hn⟩

end Sys2Proof.Proofs
end

section
/-!
PROOFS. Comparators, the delay list, MSI-X vectors and coalescing (R124, R126, R129, R131, R230, R231).
-/
namespace Sys2Proof.Proofs
open Machine Safety Laws

/-! The delay list (R124). -/

theorem armDue_due {d : Delayed} {s : State} (hc : d.cmp = none) (ha : (cmpOf s 12).armed = false)
    (hd : (d.actNs : Int) ≤ refNs s d.ref + 200000) : armDue s [d] s = ([{ d with cmp := some 12 }],
      withCmp 12 (fun c => { c with armed := true, ref := d.ref, target := d.actNs, period := 0, actions := 0 }) s) := by
  simp [armDue, hc, ha, hd]

/-! Comparators (R230, R231). -/

theorem cmpOf_withCmp (n m : Nat) (f : CmpSt → CmpSt) (s : State) : cmpOf (withCmp n f s) m = if n = m then f (cmpOf s m) else cmpOf s m :=
  tget_tmod ..

theorem comparatorFire_early {n : Nat} {s : State} (h : refNs s (cmpOf s n).ref < ((cmpOf s n).target : Int)) : comparatorFire n s = s := by
  simp [comparatorFire, h]

/-- A host comparator that fires rearms or disarms, and acts. -/
theorem comparatorFire_host {n : Nat} {s : State} (hl : 2 ≤ n) (hh : n < 12) (hs : answers s = true) (ha : (cmpOf s n).armed = true)
    (ht : ((cmpOf s n).target : Int) ≤ refNs s (cmpOf s n).ref) :
    comparatorFire n s = cmpActions n (cmpOf s n) (withCmp n (rearm (refNs s (cmpOf s n).ref)) s) := by
  have h1 : ¬ n < 2 := by omega
  have h2 : ¬ 15 < n := by omega
  simp [comparatorFire, h1, h2, hh, hs, ha, Int.not_lt.mpr ht]

/-- The next target of a comparator is the first one of its period past the reading (R231). -/
theorem nextTarget_first {target period : Nat} {now : Int} (hp : 0 < period) (ht : (target : Int) ≤ now + period) :
    now < (nextTarget target period now : Int) ∧ (nextTarget target period now : Int) ≤ now + period ∧
      ∃ k, nextTarget target period now = target + k * period := by
  unfold nextTarget
  split
  · next h => exact ⟨h, ht, 0, by simp⟩
  · next h =>
    have hd := Int.emod_add_mul_ediv (now - target) period
    have hn := Int.emod_nonneg (now - target) (by omega : (period : Int) ≠ 0)
    have hl := Int.emod_lt_of_pos (now - target) (by omega : (0 : Int) < period)
    have hk : 0 ≤ (now - target) / (period : Int) := Int.ediv_nonneg (by omega) (by omega)
    refine ⟨?_, ?_, _, rfl⟩
    all_goals
      rw [Nat.cast_add, Nat.cast_mul, Int.toNat_of_nonneg (by omega), add_mul, one_mul, mul_comm ((now - target) / (period : Int))]
      omega

/-- A comparator with a period that has fired: its target is the first past the reading, a whole number of periods on. -/
theorem rearm_period {c : CmpSt} {now : Int} (hp : c.period ≠ 0) (ht : (c.target : Int) ≤ now) :
    (rearm now c).armed = c.armed ∧ now < ((rearm now c).target : Int) ∧ ((rearm now c).target : Int) ≤ now + c.period ∧
      c.period ∣ (rearm now c).target - c.target := by
  have hr : rearm now c = { c with
      target := nextTarget (c.target + c.period) c.period now,
      skipped := c.skipped + ((nextTarget (c.target + c.period) c.period now - c.target) / c.period - 1) } := if_neg hp
  obtain ⟨hl, hh, k, hk⟩ := nextTarget_first (target := c.target + c.period) (now := now) (Nat.pos_of_ne_zero hp) (by push_cast; omega)
  rw [hr]
  refine ⟨rfl, hl, hh, k + 1, ?_⟩
  change nextTarget (c.target + c.period) c.period now - c.target = c.period * (k + 1)
  rw [hk, Nat.mul_succ, Nat.mul_comm c.period k]
  omega

theorem rearm_single {c : CmpSt} (hp : c.period = 0) (now : Int) : (rearm now c).armed = false := by simp [rearm, hp]

/-- The PIN action drives TIME_OUT alone. -/
theorem drivePin_only (c : CmpSt) (s : State) : ∃ out pulses, drivePin c s = withTime (fun t => { t with timeOut := out, pulseEnd := pulses }) s := by
  unfold drivePin
  split
  · exact ⟨s.time.timeOut, s.time.pulseEnd, rfl⟩
  · unfold withTime
    dsimp only
    split_ifs
    all_goals exact ⟨_, _, rfl⟩

/-- The actions of a host comparator: EVENT raises its source, PIN drives TIME_OUT, SNAP starts snapshots, each where its bit is set. -/
structure Acts (n : Nat) (c : CmpSt) (s t : State) : Prop where
  only : ∃ out pulses, t = { s with time := { s.time with timeOut := out, pulseEnd := pulses }, evt := t.evt, lane := t.lane }
  event : t.evt = if bit c.actions 0 then (raise (0x0F6 + n) s).evt else s.evt
  pin : bit c.actions 1 = false → t.time.timeOut = s.time.timeOut
  snap : bit c.actions 2 = false → t.lane = s.lane

theorem acts_cmpActions (n : Nat) (c : CmpSt) (s : State) : Acts n c s (cmpActions n c s) := by
  obtain ⟨u, hu⟩ : ∃ u, raiseIf (bit c.actions 0) (0x0F6 + n) s = u := ⟨_, rfl⟩
  have ho : u = { s with evt := u.evt } := hu ▸ raiseIf_only ..
  have he : u.evt = if bit c.actions 0 then (raise (0x0F6 + n) s).evt else s.evt := by
    rw [← hu, raiseIf]
    split <;> rfl
  obtain ⟨out, pulses, hp⟩ := drivePin_only c u
  obtain ⟨w, hw⟩ : ∃ w, (if bit c.actions 1 then drivePin c u else u) = w := ⟨_, rfl⟩
  have hwo : ∃ out pulses, w = { u with time := { u.time with timeOut := out, pulseEnd := pulses } } := by
    rw [← hw]
    split
    · exact ⟨out, pulses, hp⟩
    · exact ⟨_, _, rfl⟩
  have hwp : bit c.actions 1 = false → w.time.timeOut = u.time.timeOut := fun h => by rw [← hw, h]; rfl
  have hx : cmpActions n c s = if bit c.actions 2 then snapAt n w else w := by rw [← hw, ← hu]; rfl
  obtain ⟨out, pulses, rfl⟩ := hwo
  rw [ho] at hx hwp
  rw [hx]
  split
  · next h => exact ⟨⟨out, pulses, rfl⟩, he, hwp, fun h' => absurd h (by simp [h'])⟩
  · exact ⟨⟨out, pulses, rfl⟩, he, hwp, fun _ => rfl⟩

/-- What a host comparator that fires leaves, in the words of R230 and R231. -/
theorem comparatorFire_fires {n : Nat} {s : State} (hl : 2 ≤ n) (hh : n < 12) (hs : answers s = true) (ha : (cmpOf s n).armed = true)
    (hr : ((cmpOf s n).target : Int) ≤ refNs s (cmpOf s n).ref) :
    let t := comparatorFire n s
    t = { s with time := t.time, evt := t.evt, lane := t.lane } ∧ t.time.c = s.time.c ∧ (∀ m, m ≠ n → cmpOf t m = cmpOf s m) ∧
      cmpOf t n = rearm (refNs s (cmpOf s n).ref) (cmpOf s n) ∧
      (bit (cmpOf s n).actions 0 = true → (srcCfgOf s (0x0F6 + n)).enable = true → t.evt.cause.testBit (0x0F6 + n) = true) ∧
      (bit (cmpOf s n).actions 0 = false → t.evt = s.evt) ∧ (bit (cmpOf s n).actions 1 = false → t.time.timeOut = s.time.timeOut) ∧
      (bit (cmpOf s n).actions 2 = false → t.lane = s.lane) := by
  intro t
  have ht : t = _ := comparatorFire_host hl hh hs ha hr
  obtain ⟨⟨out, pulses, ho⟩, hev, hpin, hsnap⟩ := acts_cmpActions n (cmpOf s n) (withCmp n (rearm (refNs s (cmpOf s n).ref)) s)
  rw [← ht] at ho hev hpin hsnap
  have hc (m : Nat) : cmpOf t m = if n = m then rearm (refNs s (cmpOf s n).ref) (cmpOf s m) else cmpOf s m := by
    rw [ho]
    exact cmpOf_withCmp ..
  refine ⟨by rw [ho]; rfl, by rw [ho]; rfl, fun m hm => by rw [hc, if_neg hm.symm], by rw [hc, if_pos rfl], fun hb he => ?_, fun hb => ?_,
    hpin, hsnap⟩
  · rw [hev, if_pos hb]
    exact raise_sets he
  · rw [hev, if_neg (by simp [hb])]
    rfl

/-! MSI-X (R126, R129, R131). -/

/-- The message of a vector changes the messages sent and the held bits alone, whatever was pending. -/
theorem msixUnmask_ok {func vector v : Nat} {s : State} (hv : v = if func = 0 then vector else 256 + vector)
    (h : func = 0 ∧ vector < 256 ∨ func = 1 ∧ vector < 8) : msixUnmask func vector s = withEvt (fun e => { e with
      unmasked := if e.unmasked.contains v then e.unmasked else e.unmasked ++ [v], held := e.held.filter (· ≠ v),
      msgs := if v ∈ e.held ∧ vecPending s v = true then e.msgs ++ [v] else e.msgs }) s := by
  have hr : ((decide (func = 0) && decide (256 ≤ vector)) || (decide (func ≠ 0) && decide (8 ≤ vector))) = false := by
    simp only [Bool.or_eq_false_iff, Bool.and_eq_false_iff, decide_eq_false_iff_not]
    omega
  obtain ⟨u, hu⟩ : ∃ u, u = withEvt (fun e => { e with
    unmasked := if e.unmasked.contains v then e.unmasked else e.unmasked ++ [v], held := e.held.filter (· ≠ v) }) s := ⟨_, rfl⟩
  have hm : v ∈ u.evt.unmasked := by
    rw [hu, withEvt_evt]
    dsimp only
    split <;> simp_all
  have hp : vecPending u v = vecPending s v := by rw [hu]; rfl
  have hx : msixUnmask func vector s = if s.evt.held.contains v && vecPending u v then notify v u else u := by
    rw [hu]
    simp only [msixUnmask, hr, ← hv]
    rfl
  rw [hx, hp, notify_unmasked hm, hu]
  by_cases hc : v ∈ s.evt.held ∧ vecPending s v = true
  · simp [hc, withEvt]
  · rw [if_neg (by simpa using hc)]
    simp [hc, withEvt]

/-! EVT.CAUSE (R131). -/

/-- Subtracting a power of two whose bit is set clears that bit and no other. -/
theorem testBit_sub_two_pow {c n : Nat} (h : c.testBit n = true) (k : Nat) : (c - 2 ^ n).testBit k = (c.testBit k && !decide (k = n)) := by
  induction n generalizing c k with
  | zero =>
    have ho : c % 2 = 1 := by simpa using h
    cases k with
    | zero => simp; omega
    | succ k => simp [Nat.testBit_succ, show (c - 1) / 2 = c / 2 by omega]
  | succ n ih =>
    have hge := Nat.ge_two_pow_of_testBit h
    cases k with
    | zero => simp [show (c - 2 ^ (n + 1)) % 2 = c % 2 by omega]
    | succ k =>
      rw [Nat.testBit_succ, show (c - 2 ^ (n + 1)) / 2 = c / 2 - 2 ^ n by omega, ih (by rwa [Nat.testBit_succ] at h), ← Nat.testBit_succ]
      simp

theorem testBit_clrBit (c n k : Nat) : (clrBit c n).testBit k = (c.testBit k && !decide (k = n)) := by
  unfold clrBit
  split
  · next h => exact testBit_sub_two_pow h k
  · next h =>
    by_cases hk : k = n
    · simp [hk, h]
    · simp [hk]

/-- Clearing a list of bits, each at its place, leaves the other bits. -/
theorem testBit_foldl_clrBit (g : Nat → Nat) (l : List Nat) (c n : Nat) :
    (l.foldl (fun c b => clrBit c (g b)) c).testBit n = (c.testBit n && !l.any (fun b => n = g b)) := by
  induction l generalizing c with
  | nil => simp
  | cons b l ih => rw [List.foldl_cons, ih, testBit_clrBit, List.any_cons, Bool.not_or, Bool.and_assoc]

/-- The set bits of a word written to EVT.CAUSE[k], each at its place among the 384, are the bits of word k alone. -/
theorem any_causeBit (k value n : Nat) :
    ((List.range 32).filter (bit value)).any (fun b => n = 32 * k + b) = (decide (n / 32 = k) && value.testBit (n % 32)) := by
  rw [Bool.eq_iff_iff, List.any_eq_true]
  simp only [List.mem_filter, List.mem_range, bit, decide_eq_true_eq, Bool.and_eq_true]
  constructor
  · rintro ⟨b, ⟨hb, hv⟩, rfl⟩
    have h1 : (32 * k + b) / 32 = k := by omega
    have h2 : (32 * k + b) % 32 = b := by omega
    exact ⟨h1, by rwa [h2]⟩
  · rintro ⟨rfl, hv⟩
    exact ⟨n % 32, ⟨by omega, hv⟩, by omega⟩

theorem settleAll_only (vs : List Nat) (s : State) : ∃ msgs held,
    vs.foldl (fun s v => settle v true true s) s = { s with evt := { s.evt with msgs := msgs, held := held } } := by
  induction vs generalizing s with
  | nil => exact ⟨_, _, rfl⟩
  | cons v vs ih =>
    obtain ⟨msgs, held, h⟩ := ih (settle v true true s)
    refine ⟨msgs, held, ?_⟩
    rw [List.foldl_cons, h, settle_only]

theorem evtClear_clears {k value : Nat} {s : State} (hk : k < 12) (hz : pfFrozen s 0 = false) :
    let t := evtClear k value s
    t = { s with evt := { s.evt with cause := t.evt.cause, held := t.evt.held, msgs := t.evt.msgs } } ∧
      ∀ n, t.evt.cause.testBit n = (s.evt.cause.testBit n && !(decide (n / 32 = k) && value.testBit (n % 32))) := by
  intro t
  obtain ⟨u, hu⟩ : ∃ u, u = withEvt (fun e => { e with
    cause := ((List.range 32).filter (bit value)).foldl (fun c b => clrBit c (32 * k + b)) e.cause }) s := ⟨_, rfl⟩
  have ht : t = (causeVectors s k value).foldl (fun s v => settle v true true s) u := by
    rw [hu]
    simp only [t, evtClear, hz, Nat.not_le.mpr hk]
    rfl
  obtain ⟨msgs, held, hs⟩ := settleAll_only (causeVectors s k value) u
  rw [ht, hs, hu]
  exact ⟨rfl, fun n => (testBit_foldl_clrBit ..).trans (by rw [any_causeBit])⟩

/-! Coalescing (R126). -/

/-- Once its replies are signalled, a queue pair of PF0 with unread replies has its vector pending. -/
theorem vecPending_signalled {q : Nat} {s : State} (hq : q < 64) (hf : (qpOf s q).func = 0) (hu : (qpOf s q).unsignalled < unread (qpOf s q)) :
    vecPending s q = true := by
  simp [vecPending, hq, hf, qpSignalled, hu]

theorem qpOf_withEvt (f : EvtSt → EvtSt) (s : State) (q : Nat) : qpOf (withEvt f s) q = qpOf s q := rfl

theorem coalExpiry_replies {q : Nat} {s : State} (hq : q < 64) (hf : (qpOf s q).func = 0) (h0 : (qpOf s q).unsignalled ≠ 0)
    (hm : q ∈ s.evt.unmasked) (hp : vecPending s q = false) (hr : unread (qpOf s q) ≠ 0) :
    coalExpiry 0 q s = withEvt (fun e => { e with msgs := e.msgs ++ [q] }) (withQp q (fun x => { x with unsignalled := 0 }) s) := by
  have hv : replyVector s q = q := if_pos hf
  have hn : vecPending (withQp q (fun x => { x with unsignalled := 0 }) s) q = true :=
    vecPending_signalled hq (by rw [qpOf_withQp_same]; exact hf) (by rw [qpOf_withQp_same]; exact Nat.pos_of_ne_zero hr)
  have hx : coalExpiry 0 q s = settle q false false (withQp q (fun x => { x with unsignalled := 0 }) s) := by
    simp [coalExpiry, hv, hp, h0, Nat.not_le.mpr hq]
  rw [hx, settle, hn, if_pos rfl]
  exact notify_unmasked (s := withQp q (fun x => { x with unsignalled := 0 }) s) hm

theorem coalExpiry_none {q : Nat} {s : State} (h : (qpOf s q).unsignalled = 0) : coalExpiry 0 q s = s := by simp [coalExpiry, h]

/-- Settles O18: each row is the operation of its lemma. -/
theorem comparatorsAndVectors : Obligations.ComparatorsAndVectors := by
  refine ⟨fun s => ⟨fun d hl hc ha hd => ?walk, fun n h => congrArg Host.Outcome.next (comparatorFire_early h), fun n h2 h12 hs ha hr => ?fire⟩,
    fun s => ⟨?unmask, fun k value hk hz => ⟨_, rfl, evtClear_clears hk hz⟩, fun q hq hf h0 hm hp hr => ?coal,
      fun q _ h => congrArg Host.Outcome.next (coalExpiry_none h)⟩⟩
  case walk =>
    refine congrArg Host.Outcome.next ?_
    rw [delayListWalk, hl, armDue_due hc ha hd]
    rfl
  case fire =>
    obtain ⟨ho, hc, hother, hsame, hev, hno, hpin, hsnap⟩ := comparatorFire_fires h2 h12 hs ha hr
    refine ⟨_, rfl, ho, hc, hother, fun hp => by rw [hsame, rearm_single hp], fun hp => ?_, hev, hno, hpin, hsnap⟩
    rw [hsame]
    obtain ⟨harm, hre⟩ := rearm_period hp hr
    exact ⟨harm.trans ha, hre⟩
  case unmask =>
    intro func vector v h
    refine ⟨_, congrArg Host.Outcome.next (msixUnmask_ok rfl h), rfl, fun w => ?_, fun w => ?_, rfl⟩
    · by_cases hv : v ∈ s.evt.unmasked
      · simpa [withEvt, hv, v] using fun hw : w = v => hw ▸ hv
      · simp [withEvt, hv, v]
    · simp [withEvt, v]
  case coal =>
    refine ⟨_, congrArg Host.Outcome.next (coalExpiry_replies hq hf h0 hm hp hr), ?_, fun p hpq => ?_, rfl⟩
    · rw [qpOf_withEvt, qpOf_withQp_same]
    · rw [qpOf_withEvt, qpOf_withQp_other hpq]

end Sys2Proof.Proofs
end

section
/-!
PROOFS. The management SPI and the management VLAN (R135, R136).
-/
namespace Sys2Proof.Proofs
open Machine Safety Laws

/-! The SPI (R135). -/

theorem spiSubmit_room {s : State} (ha : answers s = true) (hi : inFlight s 64 < 15) (e : Entry) :
    spiSubmit e true s = joined (fetchedFlight { e.hdr with qp := 64 } e.cmd 0 0 s) s := by
  rw [← fetchEntry_management (Nat.le_refl 64)]
  simp [spiSubmit, ha, Nat.not_le.mpr hi]

theorem spiSubmit_noRoom {s : State} (ha : answers s = true) (hi : 15 ≤ inFlight s 64) (e : Entry) (ok : Bool) :
    spiSubmit e ok s = withSys (fun x => { x with spiNoRoom := satInc x.spiNoRoom }) s := by simp [spiSubmit, ha, hi]

theorem spiSubmit_badLength {s : State} (ha : answers s = true) (hi : inFlight s 64 < 15) (e : Entry) :
    spiSubmit e false s = withSys (fun x => { x with spiBadLen := satInc x.spiBadLen }) s := by simp [spiSubmit, ha, Nat.not_le.mpr hi]

theorem spiReadReply_oldest {s : State} {r : List Byte} {l : List (List Byte)} (h : s.sys.spiReplies = r :: l) :
    spiReadReply s = withSys (fun x => { x with spiReplies := l, spiOut := 0xA5 :: r }) s := by
  simp only [spiReadReply, withSys, h]

theorem spiReadReply_none {s : State} (h : s.sys.spiReplies = []) : spiReadReply s = withSys (fun x => { x with spiOut := [0] }) s := by
  simp only [spiReadReply, withSys, h]

/-- Byte 0 of the status read: room in bit 0, a waiting reply in bit 1, and 0 in LULL. -/
def spiStatus (s : State) : Nat := if s.sys.devState = .lull then 0 else b2n (inFlight s 64 < 15) + 2 * b2n (s.sys.spiReplies ≠ [])

theorem le_one (n : Nat) : le 1 n = [BitVec.ofNat 8 n] := by simp [le]

theorem spiReadStatus_eq (s : State) :
    spiReadStatus s = withSys (fun x => { x with spiOut := BitVec.ofNat 8 (spiStatus s) :: le 4 (sysStateWord s) }) s := by
  have hb : spiReadStatus s = withSys (fun x => { x with spiOut := le 1 (spiStatus s) ++ le 4 (sysStateWord s) }) s := rfl
  rw [hb, le_one]
  rfl

theorem spiStatus_bits {s : State} (h : s.sys.devState ≠ .lull) :
    ((BitVec.ofNat 8 (spiStatus s)).toNat % 2 = 1 ↔ inFlight s 64 < 15) ∧ ((BitVec.ofNat 8 (spiStatus s)).toNat / 2 = 1 ↔ s.sys.spiReplies ≠ []) := by
  rw [spiStatus, if_neg h]
  by_cases hi : inFlight s 64 < 15 <;> by_cases hr : s.sys.spiReplies = [] <;> simp [b2n, hi, hr]

/-! The VLAN (R136). -/

/-- A frame of the management VLAN on a port of its mask. -/
structure OnVlan (port vlan : Nat) (s : State) : Prop where
  devState : s.sys.devState = .run
  enabled : s.sys.mgmtEnable = true
  inMask : bit s.sys.mgmtPorts port = true
  ofVlan : vlan = s.sys.mgmtVlan
  macsec : (ethOf s port).macsec = true

theorem mgmtVlanFrame_rejected {port vlan : Nat} {s : State} (h : OnVlan port vlan s) {verified : Bool} {entries : List Entry}
    (hr : verified = false ∨ entries = [] ∨ 16 < entries.length) (mac seq : Nat) :
    mgmtVlanFrame port mac vlan verified seq entries s = raise 0x12F s := by
  obtain ⟨hs, he, hp, hv, hm⟩ := h
  rcases hr with hr | hr | hr <;> simp [mgmtVlanFrame, hs, he, hp, hv, hm, hr]

/-- What the part knows of a sender, and nothing where it is new. -/
def peerOf (mac : Nat) (s : State) : MgmtPeer := (s.sys.mgmtPeers.find? (fun x => decide (x.mac = mac))).getD { mac := mac }

/-- The sender once a frame with a new sequence number has come: the last 16 numbers, with the replies stored under them. -/
def peerAfter (port seq : Nat) (p : MgmtPeer) : MgmtPeer :=
  { p with seqs := (seq :: p.seqs).take 16, port := port, replies := p.replies.filter (fun r => ((seq :: p.seqs).take 16).contains r.1) }

theorem mgmtVlanFrame_verified {port vlan : Nat} {s : State} (h : OnVlan port vlan s) {entries : List Entry} (h0 : entries ≠ [])
    (h16 : entries.length ≤ 16) (mac seq : Nat) :
    mgmtVlanFrame port mac vlan true seq entries s =
      if (peerOf mac s).seqs.contains seq then withSys (fun x => { x with
        mgmtReplies := x.mgmtReplies ++ ((peerOf mac s).replies.filter (fun r => decide (r.1 = seq))).map (·.2) }) s
      else entries.foldl (fun s e => fetchEntry { e.hdr with qp := 65 } e.cmd mac seq s) (withSys (fun x => { x with
        mgmtPeers := x.mgmtPeers.filter (fun x => decide (x.mac ≠ mac)) ++ [peerAfter port seq (peerOf mac s)] }) s) := by
  obtain ⟨hs, he, hp, hv, hm⟩ := h
  have hl : ((!(ethOf s port).macsec || !true) || decide (entries.length = 0) || decide (16 < entries.length)) = false := by
    simp [hm, h0, h16]
  have hg : (decide (s.sys.devState ≠ .run) || !s.sys.mgmtEnable || !bit s.sys.mgmtPorts port || decide (vlan ≠ s.sys.mgmtVlan)) = false := by
    simp [hs, he, hp, hv]
  simp only [mgmtVlanFrame, hg, hl]
  rfl

/-- The entries of a frame join the commands in flight of queue 65 in their order, and nothing else happens. -/
theorem fetchAll_management (mac seq : Nat) (entries : List Entry) (s : State) : ∃ fs : List Flight,
    entries.foldl (fun s e => fetchEntry { e.hdr with qp := 65 } e.cmd mac seq s) s = { s with hif := { s.hif with flights := s.hif.flights ++ fs } } ∧
      fs.map (fun f => (f.qp, f.hdr, f.cmd)) = entries.map (fun e => (65, { e.hdr with qp := 65 }, e.cmd)) := by
  induction entries generalizing s with
  | nil => exact ⟨[], by simp, rfl⟩
  | cons e l ih =>
    obtain ⟨f, hf⟩ : ∃ f, fetchedFlight { e.hdr with qp := 65 } e.cmd mac seq s = f := ⟨_, rfl⟩
    obtain ⟨fs, hs, hm⟩ := ih (joined f s)
    refine ⟨f :: fs, ?_, ?_⟩
    · rw [List.foldl_cons, fetchEntry_management (Nat.le_succ 64), hf, hs]
      simp [joined, withHif]
    · rw [List.map_cons, List.map_cons, hm, ← hf]
      rfl

/-- Settles O19: the conditions of each clause choose the branch of its row. -/
theorem managementPaths : Obligations.ManagementPaths := by
  refine ⟨fun s => ⟨fun e ha hi => ?_, fun e ok ha hi => congrArg Host.Outcome.next (spiSubmit_noRoom ha hi e ok),
    fun e ha hi => congrArg Host.Outcome.next (spiSubmit_badLength ha hi e), fun r l h => congrArg Host.Outcome.next (spiReadReply_oldest h),
    fun h => congrArg Host.Outcome.next (spiReadReply_none h), ?_⟩, fun port mac vlan seq verified entries s hs he hp hv hm => ?_⟩
  · exact ⟨_, _, congrArg Host.Outcome.next (spiSubmit_room ha hi e), rfl, rfl, rfl, rfl, fetchedFlight_answered ..⟩
  · exact ⟨_, congrArg Host.Outcome.next (spiReadStatus_eq s), fun h => by rw [spiStatus, if_pos h], spiStatus_bits⟩
  · have h : OnVlan port vlan s := ⟨hs, he, hp, hv, hm⟩
    refine ⟨fun hr => congrArg Host.Outcome.next (mgmtVlanFrame_rejected h hr mac seq), fun hver h0 h16 => ⟨fun p hf hseq => ?_, fun hf => ?_⟩⟩
    · have hx := mgmtVlanFrame_verified h h0 h16 mac seq
      have hp : peerOf mac s = p := by rw [peerOf, hf]; rfl
      rw [hp, if_pos (by simpa using hseq)] at hx
      exact hver ▸ congrArg Host.Outcome.next hx
    · have hx := mgmtVlanFrame_verified h h0 h16 mac seq
      have hp : peerOf mac s = { mac := mac } := by rw [peerOf, hf]; rfl
      rw [hp, if_neg (by simp)] at hx
      obtain ⟨fs, hfs, hmap⟩ := fetchAll_management mac seq entries (withSys (fun x => { x with
        mgmtPeers := x.mgmtPeers.filter (fun x => decide (x.mac ≠ mac)) ++ [peerAfter port seq { mac := mac }] }) s)
      rw [hfs] at hx
      exact ⟨_, fs, hver ▸ congrArg Host.Outcome.next hx, rfl, hmap, _, List.mem_append_right _ (List.mem_singleton.mpr rfl), rfl, rfl⟩

end Sys2Proof.Proofs
end

section
/-!
PROOFS. What the traffic manager does to a frame: choosing, charging, binding, admitting and sending (R350-R356, R504).
-/
namespace Sys2Proof.Proofs
open Machine Safety Laws

/-! Choosing and charging. -/

/-- The bytes and classes of the frames of queue q, in order. -/
def framesOf (s : State) (q : Nat) : List (List Byte × Nat) := (queueOf s q).frames.map (fun f => (f.data, f.cls))

/-- What choosing, charging and binding a frame can do: it reaches the radio, the lanes, the plans and the traffic manager, but no frame's bytes
or class and no queue's order. -/
structure Schedules (s t : State) : Prop where
  blocks : ∃ rfc lane slot tm, t = { s with rfc := rfc, lane := lane, slot := slot, tm := tm }
  fwRx : t.tm.fwRx = s.tm.fwRx
  frames : ∀ q, framesOf t q = framesOf s q

theorem Schedules.refl (s : State) : Schedules s s := ⟨⟨_, _, _, _, rfl⟩, rfl, fun _ => rfl⟩

theorem Schedules.trans {s t u : State} (h : Schedules s t) (k : Schedules t u) : Schedules s u := by
  refine ⟨?_, k.fwRx.trans h.fwRx, fun q => (k.frames q).trans (h.frames q)⟩
  obtain ⟨_, _, _, _, rfl⟩ := h.blocks
  obtain ⟨_, _, _, _, rfl⟩ := k.blocks
  exact ⟨_, _, _, _, rfl⟩

theorem Schedules.ite {p : Prop} [Decidable p] {s t u : State} (h : Schedules s t) (k : Schedules s u) : Schedules s (if p then t else u) := by
  split
  · exact h
  · exact k

theorem Schedules.ite₁ {α : Type} {p : Prop} [Decidable p] {s : State} {x y : State × α} (h : Schedules s x.1) (k : Schedules s y.1) :
    Schedules s (if p then x else y).1 := by
  split
  · exact h
  · exact k

theorem Schedules.foldl {α : Type} {f : State → α → State} (hf : ∀ s x, Schedules s (f s x)) (l : List α) (s : State) :
    Schedules s (l.foldl f s) := by
  induction l generalizing s with
  | nil => exact .refl s
  | cons x l ih => exact (hf s x).trans (ih _)

/-- A change of the traffic manager beside its queues and what firmware has taken. -/
theorem schedules_withTm {f : TmSt → TmSt} (s : State) (hq : ∀ b, (f b).queues = b.queues := by exact fun _ => rfl)
    (hr : ∀ b, (f b).fwRx = b.fwRx := by exact fun _ => rfl) :
    Schedules s (withTm f s) :=
  ⟨⟨_, _, _, _, rfl⟩, hr s.tm, fun q => by rw [framesOf, framesOf, queueOf, queueOf, withTm_tm, hq]⟩

theorem schedules_withChain (c : Nat) (f : ChainSt → ChainSt) (s : State) : Schedules s (withChain c f s) := ⟨⟨_, _, _, _, rfl⟩, rfl, fun _ => rfl⟩

theorem schedules_withLaneN (n : Nat) (f : LaneSt → LaneSt) (s : State) : Schedules s (withLaneN n f s) := ⟨⟨_, _, _, _, rfl⟩, rfl, fun _ => rfl⟩

theorem schedules_withSlot (f : SlotSt → SlotSt) (s : State) : Schedules s (withSlot f s) := ⟨⟨_, _, _, _, rfl⟩, rfl, fun _ => rfl⟩

theorem queueOf_withQueue (q p : Nat) (f : QueueSt → QueueSt) (s : State) :
    queueOf (withQueue q f s) p = if q = p then f (queueOf s p) else queueOf s p := tget_tmod ..

theorem schedules_withQueue (q : Nat) (f : QueueSt → QueueSt) (s : State)
    (hf : ∀ x, (f x).frames.map (fun y => (y.data, y.cls)) = x.frames.map (fun y => (y.data, y.cls)) := by exact fun _ => rfl) : Schedules s (withQueue q f s) := by
  refine ⟨⟨_, _, _, _, rfl⟩, rfl, fun p => ?_⟩
  rw [framesOf, queueOf_withQueue]
  split
  · exact hf _
  · rfl

theorem schedules_withShaper (k : Nat) (f : ShaperSt → ShaperSt) (s : State) : Schedules s (withShaper k f s) :=
  schedules_withTm s

theorem schedules_tmCnt (i : Nat) (s : State) : Schedules s (tmCnt i s) := schedules_withTm s

theorem schedules_evalShaper (q : Nat) (s : State) : Schedules s (evalShaper q s) := by
  unfold evalShaper
  refine .ite (.refl s) ?_
  cases headOf (queueOf s q) with
  | none => exact .refl s
  | some f => exact schedules_withShaper ..

theorem schedules_offerQueue (q : Nat) (s : State) : Schedules s (offerQueue q s) := by
  unfold offerQueue
  extract_lets u x l out
  have ho (s : State) : Schedules s (out s) := schedules_withTm s
  have hd : Schedules u (if x.deficit = 0 then u else withQueue q (fun x => { x with deficit := 0 }) u) :=
    .ite (.refl _) (schedules_withQueue ..)
  refine (schedules_evalShaper q s).trans (.ite (hd.trans (ho _)) (.ite (ho _) ?_))
  cases x.frames.head? with
  | none => exact .refl _
  | some f => exact .ite (.ite (.refl _) (schedules_withTm _)) (ho _)

theorem schedules_chargeShaper (q : Nat) (f : QFrame) (s : State) : Schedules s (chargeShaper q f s) := by
  unfold chargeShaper
  exact .ite (.refl s) (schedules_withShaper ..)

/-- Frames marked one by one keep their bytes and classes. -/
theorem map_marked {p : QFrame → Prop} [DecidablePred p] {g : QFrame → QFrame} (l : List QFrame)
    (hg : ∀ y, ((g y).data, (g y).cls) = (y.data, y.cls) := by exact fun _ => rfl) : (l.map (fun y => if p y then g y else y)).map (fun y => (y.data, y.cls)) = l.map (fun y => (y.data, y.cls)) := by
  rw [List.map_map]
  refine List.map_congr_left fun y _ => ?_
  simp only [Function.comp_apply]
  split
  · exact hg y
  · rfl

theorem schedules_bindFrame (q id : Nat) (s : State) : Schedules s (bindFrame q id s) := by
  unfold bindFrame
  split
  · exact .refl s
  · exact ((schedules_chargeShaper ..).trans (schedules_withQueue q _ _ fun x => map_marked x.frames)).trans (schedules_evalShaper ..)

theorem schedules_unbindFrame (q id : Nat) (s : State) : Schedules s (unbindFrame q id s) :=
  schedules_withQueue q _ _ fun x => map_marked x.frames

/-- Class-0 substitution binds a frame in the place of another, which returns to its place (R257). -/
theorem schedules_substitute (q id : Nat) (s : State) : Schedules s (substitute q id s) := by
  unfold substitute
  split
  · exact .refl s
  · refine .ite (.refl s) ?_
    split
    · exact .refl s
    · extract_lets old new bound swapped counted lane laned
      have hb : Schedules s bound := (schedules_unbindFrame ..).trans (schedules_bindFrame ..)
      have hs : Schedules s counted := (hb.trans (schedules_withChain ..)).trans (schedules_withSlot ..)
      have hl : Schedules counted laned := by
        simp only [laned]
        split
        · exact .ite (schedules_withLaneN ..) (.refl _)
        · exact .refl _
      exact (hs.trans hl).trans (schedules_withSlot ..)

theorem schedules_drrNext (port : Nat) (skip : Nat → Bool) (k : Nat) (s : State) : Schedules s (drrNext port skip k s).1 := by
  induction k generalizing s with
  | zero => exact .refl s
  | succ k ih =>
    rw [drrNext]
    split
    · exact .refl s
    · next q t _ =>
      extract_lets back v
      have hb (s : State) : Schedules s (back s) := schedules_withTm s
      split
      · exact (schedules_offerQueue ..).trans (ih _)
      · refine .ite₁ ((schedules_offerQueue ..).trans (ih _)) (.ite₁ ((hb s).trans (ih _)) ?_)
        have hv : Schedules s v := .ite (.refl s) ((schedules_withQueue ..).trans (schedules_withTm _))
        exact .ite₁ hv ((hv.trans (hb v)).trans (ih _))

theorem schedules_nextFrame (port : Nat) (skip : Nat → Bool) (s : State) : Schedules s (nextFrame port skip s).1 := by
  unfold nextFrame
  extract_lets u
  have hu : Schedules s u := .foldl (fun s (e : Nat × QueueSt) => schedules_evalShaper e.1 s) ..
  split
  · dsimp only
    exact hu.trans (schedules_withTm u)
  · exact hu.trans (schedules_drrNext ..)

/-! Sending. -/

/-- What sending a frame can do: it reaches the radio, the lanes, the plans, the traffic manager, the update counters and the record for the
twin, but not what firmware has taken and not its own image. -/
structure Sends (s t : State) : Prop where
  blocks : ∃ rfc lane slot tm upd twin, t = { s with rfc := rfc, lane := lane, slot := slot, tm := tm, upd := upd, twin := twin }
  fwRx : t.tm.fwRx = s.tm.fwRx
  fw : t.upd.fw = s.upd.fw

theorem Schedules.sends {s t : State} (h : Schedules s t) : Sends s t := by
  obtain ⟨_, _, _, _, hb⟩ := h.blocks
  exact ⟨⟨_, _, _, _, _, _, hb⟩, h.fwRx, congrArg (·.upd.fw) hb⟩

theorem Sends.refl (s : State) : Sends s s := (Schedules.refl s).sends

theorem Sends.trans {s t u : State} (h : Sends s t) (k : Sends t u) : Sends s u := by
  refine ⟨?_, k.fwRx.trans h.fwRx, k.fw.trans h.fw⟩
  obtain ⟨_, _, _, _, _, _, rfl⟩ := h.blocks
  obtain ⟨_, _, _, _, _, _, rfl⟩ := k.blocks
  exact ⟨_, _, _, _, _, _, rfl⟩

theorem sends_withQueue (q : Nat) (f : QueueSt → QueueSt) (s : State) : Sends s (withQueue q f s) := ⟨⟨_, _, _, _, _, _, rfl⟩, rfl, rfl⟩

theorem sends_noteDelta (f : DeltaRec → DeltaRec) (s : State) : Sends s (noteDelta f s) := by
  unfold noteDelta
  split
  · exact ⟨⟨_, _, _, _, _, _, rfl⟩, rfl, rfl⟩
  · exact .refl s

theorem sends_updCnt (i : Nat) (s : State) : Sends s (updCnt i s) := ⟨⟨_, _, _, _, _, _, rfl⟩, rfl, rfl⟩

theorem sends_freeBuf (id : Nat) (s : State) : Sends s (freeBuf id s) := ⟨⟨_, _, _, _, _, _, rfl⟩, rfl, rfl⟩

theorem sends_leaveQueue (q id : Nat) (sent : Bool) (s : State) : Sends s (leaveQueue q id sent s) := by
  unfold leaveQueue
  split
  · exact .refl s
  · next f _ =>
    extract_lets left noted counted
    have hn : Sends s noted := (sends_withQueue ..).trans (sends_noteDelta ..)
    have hc : Sends noted counted := by
      simp only [counted]
      cases f.camp with
      | none => exact .refl _
      | some c =>
        cases sent with
        | false => exact .refl _
        | true => exact sends_updCnt ..
    exact ((hn.trans hc).trans (sends_freeBuf ..)).trans (schedules_offerQueue ..).sends

theorem sends_sendFrame (q : Nat) (f : QFrame) (s : State) : Sends s (sendFrame q f s) := by
  unfold sendFrame
  extract_lets u
  have hu : Sends s u := by
    simp only [u]
    split
    · exact .refl s
    · exact sends_withQueue ..
  exact (hu.trans (schedules_chargeShaper ..).sends).trans (sends_leaveQueue ..)

/-- A port's next frame, once it is chosen and has left its queue. -/
theorem sends_served (port q : Nat) (f : QFrame) (s : State) : Sends s (sendFrame q f (nextFrame port (fun _ => false) s).1) :=
  (schedules_nextFrame ..).sends.trans (sends_sendFrame ..)

/-! Admission of a frame that has come from the host (R351, R504). -/

/-- The cells that a frame takes leave fewer free. -/
theorem freeCells_withBuf (s : State) (b : PBuf) :
    freeCells (withTm (fun t => { t with bufs := t.bufs ++ [b] }) s) = freeCells s - b.cells := by
  simp only [freeCells, withTm_tm, withTm_lane, List.map_append, List.sum_append, List.map_cons, List.map_nil, List.sum_cons, List.sum_nil]
  omega

end Sys2Proof.Proofs
end

section
/-!
PROOFS. The data rings and the host ports (R134, R501-R504).
-/
namespace Sys2Proof.Proofs
open Machine Safety Laws

/-! The rings. -/

theorem thOf_withTh (r q : Nat) (f : DataRing → DataRing) (s : State) :
    thOf (withTh r f s) q = if r = q then f (thOf s q) else thOf s q := tget_tmod ..

theorem fhOf_withFh (r q : Nat) (f : DataRing → DataRing) (s : State) :
    fhOf (withFh r f s) q = if r = q then f (fhOf s q) else fhOf s q := tget_tmod ..

/-- Rings follow from the block pcie alone. -/
theorem fhOf_congr {s t : State} (h : t.pcie = s.pcie) (r : Nat) : fhOf t r = fhOf s r := by rw [fhOf, fhOf, h]

theorem settle_evt (v : Nat) (was again : Bool) (s : State) : ∃ e, settle v was again s = { s with evt := e } := ⟨_, settle_only v was again s⟩

theorem thDoorbell_bad {s : State} {r v : Nat} (hr : r ≤ 31) (hf : pfFrozen s 0 = false) (hv : 2 ^ (thOf s r).log2 ≤ v % 4096) :
    thDoorbell r v s = raise 0x010 { s with pcie := { s.pcie with th := tput s.pcie.th r { thOf s r with fetchError := true } } } := by
  rw [thDoorbell, if_neg (by simp [hf]; omega), if_pos hv]
  rfl

theorem fhDoorbell_bad {s : State} {r v : Nat} (hr : r ≤ 31) (hf : pfFrozen s 0 = false) (hv : 2 ^ (fhOf s r).log2 ≤ v % 4096) :
    fhDoorbell r v s = raise 0x010 { s with pcie := { s.pcie with fh := tput s.pcie.fh r { fhOf s r with fetchError := true } } } := by
  rw [fhDoorbell, if_neg (by simp [hf]; omega), if_pos hv]
  rfl

theorem thDoorbell_taken {s : State} {r v : Nat} (hr : r ≤ 31) (hf : pfFrozen s 0 = false) (hv : v % 4096 < 2 ^ (thOf s r).log2) :
    ∃ e, thDoorbell r v s = { withTh r (ringTail (v % 4096)) s with evt := e } := by
  rw [thDoorbell, if_neg (by simp [hf]; omega), if_neg (by omega)]
  exact settle_evt ..

theorem fhDoorbell_taken {s : State} {r v : Nat} (hr : r ≤ 31) (hf : pfFrozen s 0 = false) (hv : v % 4096 < 2 ^ (fhOf s r).log2) :
    ∃ e, fhDoorbell r v s = { withFh r (ringTail (v % 4096)) s with evt := e } := by
  rw [fhDoorbell, if_neg (by simp [hf]; omega), if_neg (by omega)]
  exact settle_evt ..

/-! Frames to the host (R502, R503). -/

/-- A report, a link message or an EAPOL frame that waits at the head goes first (R502). -/
theorem thNext_report {s : State} {r : Nat} {f : PktFrame} {rest : List (Nat × PktFrame)} (h : s.pcie.reports = (r, f) :: rest) :
    thNext r s = (s, some (f, f.cls, f.data, withPcie (fun p => { p with reports := p.reports.eraseP (·.1 = r) }) s)) := by
  simp [thNext, h]

/-- Without a posted buffer the frame stays (R503). -/
theorem thDeliver_stays {s : State} {r : Nat} {f : PktFrame} {rest : List (Nat × PktFrame)} (hr : r ≤ 31) (he : (thOf s r).enable = true)
    (hu : s.pcie.up = true) (hd : dmaFrozen s r = false) (h : s.pcie.reports = (r, f) :: rest) (bufs : List HostBuf)
    (hp : ringPosted (thOf s r) = 0) : thDeliver r bufs s = thNoBuffer r s := by
  rw [thDeliver, if_neg (by simp [he, hu, hd]; omega), thNext_report h]
  simp [hp, takeBufs]

/-- NO_BUFFER, and the event once per 1 s (R503). -/
theorem thNoBuffer_marks (r : Nat) (s : State) :
    ∃ p e, thNoBuffer r s = { s with pcie := p, evt := e } ∧ p.reports = s.pcie.reports ∧
      tget {} p.th r = { thOf s r with noBuffer := true } ∧ (s.pcie.noBufSec = some (rawSec s) → e = s.evt) ∧
      (s.pcie.noBufSec ≠ some (rawSec s) → e.cause = causeAfter 0x142 s) := by
  have ht : thOf (withTh r (fun x => { x with noBuffer := true }) s) r = { thOf s r with noBuffer := true } := by
    rw [thOf_withTh, if_pos rfl]
  unfold thNoBuffer
  extract_lets t
  split
  · next h => exact ⟨_, _, rfl, rfl, ht, fun _ => rfl, fun hn => absurd h hn⟩
  · next h => 
    rw [raise_only]
    exact ⟨_, _, rfl, rfl, ht, fun hn => absurd hn h, fun _ => raise_causeAfter ..⟩

/-- One buffer takes a frame that fits it: four writes, and the ring moves on (R502). -/
theorem placeTh_one (r : Nat) (f : PktFrame) (cls : Nat) {l : List Byte} {b : HostBuf} (hl : l.length ≤ b.len) (s : State) :
    let x := thOf s r
    let e := thEntry f cls l.length true true x.phase
    let a := x.base + 64 * x.head
    placeTh r f cls true l [b] s = { withTh r (ringNext (cls = 0)) s with
      hostMem := memWrite (memWrite (memWrite (memWrite s.hostMem b.addr l) (a + 12) e.1) (a + 16) e.2.2) (a + 15) (le 1 e.2.1) } := by
  simp only [placeTh, List.take_of_length_le hl, List.isEmpty_nil, hostWrite_only, withTh, withPcie]

/-- A frame that fits the first posted buffer is placed in it, entry and all (R502). -/
theorem thDeliver_placed {s : State} {r : Nat} {f : PktFrame} {rest : List (Nat × PktFrame)} (hr : r ≤ 31) (he : (thOf s r).enable = true)
    (hu : s.pcie.up = true) (hd : dmaFrozen s r = false) (h : s.pcie.reports = (r, f) :: rest) {b : HostBuf}
    (hp : 1 ≤ ringPosted (thOf s r)) (hl : f.data.length ≤ b.len) :
    let x := thOf s r
    let e := thEntry f f.cls f.data.length true true x.phase
    let a := x.base + 64 * x.head
    let m := memWrite (memWrite (memWrite (memWrite s.hostMem b.addr f.data) (a + 12) e.1) (a + 16) e.2.2) (a + 15) (le 1 e.2.1)
    ∃ p ev, thDeliver r [b] s = { s with pcie := p, evt := ev, hostMem := m } ∧
      p.reports = rest ∧ tget {} p.th r = ringNext (f.cls = 0) { x with noBuffer := false } := by
  have ht : [b].take (ringPosted (thOf s r)) = [b] := List.take_of_length_le (by simpa using hp)
  have hx : s.pcie.reports.eraseP (·.1 = r) = rest := by simp [h]
  obtain ⟨u, hu', p, hs, hrep, hring⟩ : ∃ u, withTh r (fun x => { x with noBuffer := false })
      (withPcie (fun p => { p with reports := p.reports.eraseP (·.1 = r) }) s) = u ∧
      ∃ p, u = { s with pcie := p } ∧ p.reports = rest ∧ thOf u r = { thOf s r with noBuffer := false } :=
    ⟨_, rfl, _, rfl, hx, (thOf_withTh ..).trans (if_pos rfl)⟩
  obtain ⟨ev, hev⟩ := settle_evt (64 + r) (vecPending s (64 + r)) false (placeTh r f f.cls true f.data [b] u)
  rw [thDeliver, if_neg (by simp [he, hu, hd]; omega), thNext_report h]
  simp only [ht, takeBufs, if_pos hl]
  rw [hu', hev, placeTh_one r f f.cls hl u, hring]
  refine ⟨_, ev, ?_, ?_, ((thOf_withTh r r _ u).trans (if_pos rfl)).trans (congrArg _ hring)⟩
  · rw [hs]; rfl
  · rw [hs]; exact hrep

/-! Frames from the host (R504). -/

/-- The frame that an FH entry brings to its queue (R504). -/
def fhQueued (e : FhEntry) (s : State) : QFrame :=
  let air := isAirQueue s e.queue
  { id := s.free, buf := s.free, data := e.frame, cls := e.cls, neighbour := if air then e.neighbour else 0xFFFF, ackReq := air && e.ackReq,
    secLevel := if air then e.secLevel else 0, frame := { data := e.frame, srcPort := 5, cls := e.cls } }

/-- The state after a frame is copied into cells: the traffic manager's buffers, the free values and the events alone (R351). -/
theorem allocBuf_room {data : List Byte} {s : State} (h : cellsFor data.length ≤ freeCells s) :
    ∃ b e n, allocBuf data s = some ({ withTm (fun t => { t with bufs := t.bufs ++ [b] }) s with evt := e, free := s.free + 1 }, s.free, n) ∧
      b.cells = cellsFor data.length := by
  unfold allocBuf reserveFell
  extract_lets n
  rw [if_neg (by omega), raiseIf_only]
  exact ⟨_, _, _, rfl, rfl⟩

/-- Free cells follow from the traffic manager and the lanes alone. -/
theorem freeCells_congr {s t : State} (h : t.tm = s.tm) (k : t.lane = s.lane) : freeCells t = freeCells s := by rw [freeCells, freeCells, h, k]

/-- A queue that has room for a green frame takes it (R351). -/
theorem admission_room {s : State} {q : Nat} {f : QFrame} (hr : s.tm.reserve ≤ freeCells s)
    (hn : (queueOf s q).port = 6 → ((queueOf s q).frames.filter (·.neighbour = f.neighbour)).length < (queueOf s q).nbCap)
    (hb : queueBytes (queueOf s q) + f.data.length ≤ (queueOf s q).maxBytes) (hf : (queueOf s q).frames.length < (queueOf s q).maxFrames) :
    admission s q f 0 = 0 := by
  have hp : ((queueOf s q).port = 6 && (queueOf s q).nbCap ≤ ((queueOf s q).frames.filter (·.neighbour = f.neighbour)).length) = false := by
    simpa using hn
  have hm : ((queueOf s q).maxBytes < queueBytes (queueOf s q) + f.data.length || (queueOf s q).maxFrames ≤ (queueOf s q).frames.length) = false := by
    simp; omega
  simp [admission, Nat.not_lt.mpr hr, hp, hm]

/-- What a frame's way into its queue can do: it reaches the radio, the lanes, the plans and the traffic manager, and the queue's frames are
the old ones and the new one at the end (R350). -/
theorem admitFrame_joins {s : State} {q : Nat} {f : QFrame} (h : admission s q f 0 = 0) :
    (admitFrame q f 0 s).2 = true ∧ (∃ rfc lane slot tm, (admitFrame q f 0 s).1 = { s with rfc := rfc, lane := lane, slot := slot, tm := tm }) ∧
      framesOf (admitFrame q f 0 s).1 q = framesOf s q ++ [(f.data, f.cls)] := by
  unfold admitFrame
  extract_lets why u v
  rw [if_neg (not_not.mpr h)]
  have hu : framesOf u q = framesOf s q ++ [(f.data, f.cls)] := by
    rw [framesOf, queueOf_withQueue, if_pos rfl, List.map_append]
    rfl
  have hv : Schedules u (offerQueue q v) := (Schedules.trans (.ite (schedules_tmCnt ..) (.refl _)) (schedules_tmCnt ..)).trans (schedules_offerQueue ..)
  obtain ⟨_, _, _, _, hb⟩ := hv.blocks
  exact ⟨rfl, ⟨_, _, _, _, hb⟩, (hv.frames q).trans hu⟩

/-- An entry whose frame has room is admitted, whatever substitution then does (R351, R504). -/
theorem fhFrame_admitted {e : FhEntry} {s : State} (hb : fhBad s e = false) (hs : e.secLevel = 0)
    (hc : cellsFor e.frame.length + s.tm.reserve ≤ freeCells s) (hq : queueBytes (queueOf s e.queue) + e.frame.length ≤ (queueOf s e.queue).maxBytes)
    (hf : (queueOf s e.queue).frames.length < (queueOf s e.queue).maxFrames)
    (hn : (queueOf s e.queue).port = 6 → ((queueOf s e.queue).frames.filter
      (fun f => decide (f.neighbour = (if isAirQueue s e.queue = true then e.neighbour else 0xFFFF)))).length < (queueOf s e.queue).nbCap) :
    ∃ t, fhFrame e s = (t, stOk) ∧ (∃ rfc lane slot tm evt free, t = { s with
      rfc := rfc, lane := lane, slot := slot, tm := tm, evt := evt, free := free }) ∧
      framesOf t e.queue = framesOf s e.queue ++ [(e.frame, e.cls)] := by
  obtain ⟨b, ev, n, ha, hbc⟩ := allocBuf_room (data := e.frame) (s := s) (by omega)
  set t : State := { withTm (fun t => { t with bufs := t.bufs ++ [b] }) s with evt := ev, free := s.free + 1 } with ht
  have hcells : freeCells t = freeCells s - b.cells := (freeCells_congr rfl rfl).trans (freeCells_withBuf s b)
  have hw : admission t e.queue (fhQueued e s) 0 = 0 :=
    admission_room (by rw [hcells, hbc]; show s.tm.reserve ≤ _; omega) hn hq hf
  obtain ⟨hok, ⟨_, _, _, _, hj⟩, hfr⟩ := admitFrame_joins hw
  have hsub := schedules_substitute e.queue s.free (admitFrame e.queue (fhQueued e s) 0 t).1
  have heq : fhFrame e s = (substitute e.queue s.free (admitFrame e.queue (fhQueued e s) 0 t).1, stOk) := by
    unfold fhFrame
    extract_lets air
    rw [if_neg (by simp [hb]), if_neg (by simp [hs]), ha]
    exact if_pos hok
  refine ⟨_, heq, ?_, (hsub.frames _).trans hfr⟩
  obtain ⟨_, _, _, _, hk⟩ := hsub.blocks
  rw [hk, hj]
  exact ⟨_, _, _, _, _, _, rfl⟩

/-- The fetch error of an entry that could not be read (R504). -/
def fhRead (r : Nat) (e : FhEntry) (t : State) : State := if e.fetchOk then t else raise 0x010 (withFh r (fun x => { x with fetchError := true }) t)

theorem fhRead_ring (r : Nat) (e : FhEntry) (t : State) :
    ∃ p ev b, fhRead r e t = { t with pcie := p, evt := ev } ∧ tget {} p.fh r = { fhOf t r with fetchError := b } := by
  unfold fhRead
  split
  · exact ⟨_, _, _, rfl, rfl⟩
  · rw [raise_only]
    exact ⟨_, _, _, rfl, (fhOf_withFh ..).trans (if_pos rfl)⟩

/-- How an FH entry is finished: its status is written, the ring moves on, and a drop is counted (R504). -/
theorem fhFetch_finished {s t : State} {r st : Nat} {e : FhEntry} (hr : r ≤ 31) (he : (fhOf s r).enable = true) (hu : s.pcie.up = true)
    (hd : dmaFrozen s r = false) (hp : ringPosted (fhOf s r) ≠ 0) (hf : fhFrame e s = (t, st)) (ht : t.pcie = s.pcie) :
    let x := fhOf s r
    let m := memWrite t.hostMem (x.base + 64 * x.head + 32) (le 2 st ++ le 1 (b2n x.phase))
    ∃ p ev, fhFetch r e s = { t with pcie := p, evt := ev, hostMem := m } ∧
      (tget {} p.fh r).head = (if x.head + 1 = 2 ^ x.log2 then 0 else x.head + 1) ∧
      (tget {} p.fh r).drops = if st = stOk then x.drops else satInc x.drops := by
  extract_lets x m
  obtain ⟨p, ev, _, hread, hring⟩ := fhRead_ring r e t
  rw [fhOf_congr ht] at hring
  have hx : (fhFetch r e s) = settle (96 + r) (vecPending s (96 + r)) false
      (withFh r (fun x => ringNext false (if st = stOk then x else { x with drops := satInc x.drops }))
        (hostWrite (x.base + 64 * x.head + 32) (le 2 st ++ le 1 (b2n x.phase)) (fhRead r e t))) := by
    rw [fhFetch, if_neg (by simp [he, hu, hd, hp]; omega), hf]
    rfl
  obtain ⟨ev', hev⟩ := settle_evt (96 + r) (vecPending s (96 + r)) false
    (withFh r (fun x => ringNext false (if st = stOk then x else { x with drops := satInc x.drops }))
        (hostWrite (x.base + 64 * x.head + 32) (le 2 st ++ le 1 (b2n x.phase)) (fhRead r e t)))
  rw [hx, hev, hread]
  have hk := tget_tmod {} p.fh r r (fun x => ringNext false (if st = stOk then x else { x with drops := satInc x.drops }))
  rw [if_pos rfl, hring] at hk
  refine ⟨_, ev', rfl, (congrArg (·.head) hk).trans ?_, (congrArg (·.drops) hk).trans ?_⟩
  · split <;> rfl
  · dsimp only [ringNext]
    split <;> rfl

/-! The ports (R350, R352, R504). -/

/-- Firmware takes the frame that TM chooses for port 7, and without an intake port nothing of it (R427). -/
theorem serveFw_takes {s : State} {q : Nat} {f : QFrame} (hi : s.upd.fw.intakePort = 0) (h : (nextFrame 7 (fun _ => false) s).2 = some (q, f)) :
    ∃ u i, Sends s u ∧ serveFw s = { u with tm := { u.tm with fwRx := u.tm.fwRx ++ [f.frame] }, upd := { u.upd with intake := i } } := by
  unfold serveFw
  extract_lets r
  rw [h]
  simp only [hi]
  have hs : Sends s (sendFrame q f r.1) := sends_served ..
  generalize sendFrame q f r.1 = u at hs ⊢
  exact ⟨u, _, hs, rfl⟩

/-- An open Ethernet port without MACsec sends the frame that TM chooses for it (R352, R494). -/
theorem serveEth_sends {s : State} {e q : Nat} {f : QFrame} (hm : (ethOf s e).mode ≠ 0) (hl : (ethOf s e).link = true) (hh : (ethOf s e).held = false)
    (hg : gated s = false) (hp : tfind s.tm.pauseNs e = none) (hc : (ethOf s e).macsec = false) (h : (nextFrame e (fun _ => false) s).2 = some (q, f)) :
    serveEth e s = ethSend e { f.frame with data := Config.ethHeader f.data ++ f.data } (sendFrame q f (nextFrame e (fun _ => false) s).1) := by
  simp [serveEth, hm, hl, hh, hg, hp, hc, h]

theorem ethSend_sec (e : Nat) (f : PktFrame) (s : State) : (ethSend e f s).sec = s.sec := rfl

theorem ethOf_ethSend (e : Nat) (f : PktFrame) (s : State) :
    (ethOf (ethSend e f s) e).out = (ethOf s e).out ++ [f] ∧
      tget 0 (ethOf (ethSend e f s) e).cnt 1 = min (tget 0 (ethOf s e).cnt 1 + 1) 0xFFFFFFFF := by
  have h (g : EthPort → EthPort) (s : State) : ethOf (withEthP e g s) e = g (ethOf s e) := by
    rw [ethOf, withEthP, withEth_eth, tget_tmod, if_pos rfl, ethOf]
  rw [ethSend, ethCnt, h, h]
  exact ⟨rfl, by rw [tget_bump, if_pos rfl]⟩

/-- Settles O48: each clause is a rule above; a frame from the host passes the admission of its queue, and one to the host takes the buffer
posted for it. -/
theorem dataRingsAndPorts : Obligations.DataRingsAndPorts := by
  unfold Obligations.DataRingsAndPorts
  intro s
  refine ⟨fun r v hr hf hv => ?_, fun r v hr hf hv => ?_, fun r v hr hf hv => ?_, fun r v hr hf hv => ?_,
    fun r f rest hr he hu hd hq => ⟨fun bufs hp => ?_, fun b hp hl => ?_⟩, fun r e hr he hu hd hp => ⟨fun hb => ?_, fun hb hs hc hq hf hn => ?_⟩,
    fun p hp => ?_, fun q f hi h => ?_, fun e q f h2 hm hl hh hg hp hc h => ?_⟩
  · exact congrArg _ (thDoorbell_bad hr hf hv)
  · obtain ⟨_, h⟩ := thDoorbell_taken hr hf hv
    refine ⟨_, rfl, ?_⟩
    rw [h]
    have hk (q : Nat) := thOf_withTh r q (ringTail (v % 4096)) s
    exact ⟨rfl, congrArg (·.tail) ((hk r).trans (if_pos rfl)), congrArg (·.head) ((hk r).trans (if_pos rfl)), fun q hq => (hk q).trans (if_neg hq.symm)⟩
  · exact congrArg _ (fhDoorbell_bad hr hf hv)
  · obtain ⟨_, h⟩ := fhDoorbell_taken hr hf hv
    refine ⟨_, rfl, ?_⟩
    rw [h]
    have hk (q : Nat) := fhOf_withFh r q (ringTail (v % 4096)) s
    exact ⟨rfl, congrArg (·.tail) ((hk r).trans (if_pos rfl)), congrArg (·.head) ((hk r).trans (if_pos rfl)), fun q hq => (hk q).trans (if_neg hq.symm)⟩
  · refine ⟨_, rfl, ?_⟩
    rw [thDeliver_stays hr he hu hd hq bufs hp]
    obtain ⟨_, _, h, hrep, hring, hsame, hcause⟩ := thNoBuffer_marks r s
    rw [h]
    exact ⟨rfl, hrep, congrArg (·.noBuffer) hring, congrArg (·.head) hring, hsame, hcause⟩
  · obtain ⟨_, _, h, hrep, hring⟩ := thDeliver_placed hr he hu hd hq hp hl
    refine ⟨_, congrArg Host.Outcome.next h, rfl, rfl, hrep, ?_⟩
    exact ⟨congrArg (·.noBuffer) hring, congrArg (·.head) hring, congrArg (·.unread) hring⟩
  · have hbad : fhFrame e s = (s, stBadParam) := by rw [fhFrame, if_pos hb]
    obtain ⟨_, _, h, hhead, hdrops⟩ := fhFetch_finished hr he hu hd hp hbad rfl
    exact ⟨_, congrArg Host.Outcome.next h, ⟨rfl, hhead, rfl, rfl⟩, hdrops, rfl⟩
  · obtain ⟨t, hok, ⟨_, _, _, _, _, _, ht⟩, hfr⟩ := fhFrame_admitted hb hs hc hq hf hn
    obtain ⟨_, _, h, hhead, hdrops⟩ := fhFetch_finished hr he hu hd hp hok (congrArg (·.pcie) ht)
    have hlen : (queueOf t e.queue).frames.length = (queueOf s e.queue).frames.length + 1 := by simpa [framesOf] using congrArg List.length hfr
    refine ⟨_, congrArg Host.Outcome.next h, ⟨?_, hhead, congrArg (·.hif) ht, congrArg (·.sec) ht⟩, hdrops, hlen, ?_⟩
    · rw [ht]
    · have hmem : (e.frame, e.cls) ∈ framesOf t e.queue := by simp [hfr]
      obtain ⟨y, hy, heq⟩ := List.mem_map.mp hmem
      exact ⟨y, hy, congrArg Prod.fst heq, congrArg Prod.snd heq⟩
  · have : portServe p s = s := by
      rw [portServe, if_neg (by omega), if_neg (by omega), if_neg (by omega)]
    exact congrArg Host.Outcome.next this
  · obtain ⟨u, _, ⟨hb, hr, hw⟩, hu⟩ := serveFw_takes hi h
    obtain ⟨_, _, _, _, _, _, hb⟩ := hb
    have hx : portServe 7 s = serveFw s := rfl
    exact ⟨_, congrArg Host.Outcome.next (hx.trans hu), congrArg (· ++ [f.frame]) hr, hw, congrArg (·.hif) hb, congrArg (·.sec) hb⟩
  · obtain ⟨_, _, _, _, _, _, hb⟩ := (sends_served e q f s).blocks
    have he : portServe e s = serveEth e s := if_pos h2
    have ho : ethOf (sendFrame q f (nextFrame e (fun _ => false) s).1) e = ethOf s e := by rw [ethOf, hb]; rfl
    obtain ⟨h1, h2⟩ := ethOf_ethSend e { f.frame with data := Config.ethHeader f.data ++ f.data } (sendFrame q f (nextFrame e (fun _ => false) s).1)
    rw [ho] at h1 h2
    exact ⟨_, congrArg Host.Outcome.next (he.trans (serveEth_sends hm hl hh hg hp hc h)), h1, h2, (ethSend_sec ..).trans (congrArg (·.sec) hb)⟩

/-! Reset. -/

/-- Settles O4: nothing is written at reset. -/
theorem hostMemoryCanonicalAtReset : Obligations.HostMemoryCanonicalAtReset := by
  unfold Obligations.HostMemoryCanonicalAtReset MemOk
  decide

end Sys2Proof.Proofs
end

section
/-!
PROOFS. Host memory is kept, one rule per function: operations, commands, keys, engines, time and traffic. All but
a few functions leave host memory as it is; each has its rule here, by the rules of what it calls, and the few that write come after these.
-/
namespace Sys2Proof.Proofs
open Machine Safety Laws

/-! How host memory follows a branch and a fold. -/

@[simp] theorem hostMem_ite (p : Prop) [Decidable p] (s t : State) :
    (if p then s else t).hostMem = if p then s.hostMem else t.hostMem := apply_ite ..
@[simp] theorem res_st_ite (p : Prop) [Decidable p] (s t : Res) : (if p then s else t).st = if p then s.st else t.st := apply_ite ..
@[simp] theorem keyUse_st_ite (p : Prop) [Decidable p] (s t : KeyUse) : (if p then s else t).st = if p then s.st else t.st := apply_ite ..
@[simp] theorem keyGot_st_ite (p : Prop) [Decidable p] (s t : KeyGot) : (if p then s else t).st = if p then s.st else t.st := apply_ite ..
@[simp] theorem state_fst_ite {α : Type} (p : Prop) [Decidable p] (s t : State × α) :
    (if p then s else t).1 = if p then s.1 else t.1 := apply_ite ..

@[simp] theorem hostMem_foldl {α : Type} {f : State → α → State} (hf : ∀ s x, (f s x).hostMem = s.hostMem) (l : List α) (s : State) :
    (l.foldl f s).hostMem = s.hostMem := by
  induction l generalizing s with
  | nil => rfl
  | cons x l ih => exact (ih _).trans (hf s x)

@[simp] theorem hostMem_foldl_fst {α β : Type} {f : State × β → α → State × β} (hf : ∀ r x, (f r x).1.hostMem = r.1.hostMem) (l : List α)
    (r : State × β) : (l.foldl f r).1.hostMem = r.1.hostMem := by
  induction l generalizing r with
  | nil => rfl
  | cons x l ih => exact (ih _).trans (hf r x)

variable (s : State)

/-! Tables, bytes, events and counters. -/

@[simp] theorem tick1_hostMem : (tick1 s).hostMem = s.hostMem := by simp [tick1]
@[simp] theorem refuse_hostMem (status) : (refuse s status).st.hostMem = s.hostMem := by simp [refuse]
@[simp] theorem done_hostMem (data) : (done s data).st.hostMem = s.hostMem := by simp [done]
@[simp] theorem withQp_hostMem (q f) : (withQp q f s).hostMem = s.hostMem := by simp [withQp]
@[simp] theorem notify_hostMem (v) : (notify v s).hostMem = s.hostMem := by simp [notify]
@[simp] theorem settle_hostMem (v was again) : (settle v was again s).hostMem = s.hostMem := by simp [settle]
@[simp] theorem raise_hostMem (n) : (raise n s).hostMem = s.hostMem := by simp [raise]
@[simp] theorem raiseW_hostMem (n w) : (raiseW n w s).hostMem = s.hostMem := by simp [raiseW]
@[simp] theorem raiseIf_hostMem (b n) : (raiseIf b n s).hostMem = s.hostMem := by simp [raiseIf]
@[simp] theorem withChain_hostMem (c f) : (withChain c f s).hostMem = s.hostMem := by simp [withChain]
@[simp] theorem withLaneN_hostMem (n f) : (withLaneN n f s).hostMem = s.hostMem := by simp [withLaneN]
@[simp] theorem withPhys_hostMem (p f) : (withPhys p f s).hostMem = s.hostMem := by simp [withPhys]
@[simp] theorem laneCnt_hostMem (i) : (laneCnt i s).hostMem = s.hostMem := by simp [laneCnt]
@[simp] theorem withSf_hostMem (n f) : (withSf n f s).hostMem = s.hostMem := by simp [withSf]
@[simp] theorem withSuper_hostMem (n f) : (withSuper n f s).hostMem = s.hostMem := by simp [withSuper]
@[simp] theorem slotCnt_hostMem (i) : (slotCnt i s).hostMem = s.hostMem := by simp [slotCnt]
@[simp] theorem withNbr_hostMem (n f) : (withNbr n f s).hostMem = s.hostMem := by simp [withNbr]
@[simp] theorem tblCnt_hostMem (i) : (tblCnt i s).hostMem = s.hostMem := by simp [tblCnt]
@[simp] theorem withQueue_hostMem (q f) : (withQueue q f s).hostMem = s.hostMem := by simp [withQueue]
@[simp] theorem tmCnt_hostMem (i) : (tmCnt i s).hostMem = s.hostMem := by simp [tmCnt]
@[simp] theorem withKey_hostMem (n f) : (withKey n f s).hostMem = s.hostMem := by simp [withKey]
@[simp] theorem secCnt_hostMem (i) : (secCnt i s).hostMem = s.hostMem := by simp [secCnt]
@[simp] theorem cryCnt_hostMem (i) : (cryCnt i s).hostMem = s.hostMem := by simp [cryCnt]
@[simp] theorem updCnt_hostMem (i) : (updCnt i s).hostMem = s.hostMem := by simp [updCnt]
@[simp] theorem withCamp_hostMem (c f) : (withCamp c f s).hostMem = s.hostMem := by simp [withCamp]
@[simp] theorem withFw_hostMem (f) : (withFw f s).hostMem = s.hostMem := by simp [withFw]
@[simp] theorem withPort_hostMem (p f) : (withPort p f s).hostMem = s.hostMem := by simp [withPort]
@[simp] theorem portCnt_hostMem (p i) : (portCnt p i s).hostMem = s.hostMem := by simp [portCnt]
@[simp] theorem twinCnt_hostMem (i) : (twinCnt i s).hostMem = s.hostMem := by simp [twinCnt]
@[simp] theorem withEthP_hostMem (e f) : (withEthP e f s).hostMem = s.hostMem := by simp [withEthP]
@[simp] theorem ethCnt_hostMem (e i) : (ethCnt e i s).hostMem = s.hostMem := by simp [ethCnt]
@[simp] theorem withChkU_hostMem (u f) : (withChkU u f s).hostMem = s.hostMem := by simp [withChkU]
@[simp] theorem withCmp_hostMem (n f) : (withCmp n f s).hostMem = s.hostMem := by simp [withCmp]
@[simp] theorem withCap_hostMem (i f) : (withCap i f s).hostMem = s.hostMem := by simp [withCap]
@[simp] theorem reserveFell_hostMem (before) : (reserveFell before s).hostMem = s.hostMem := by simp [reserveFell]

theorem allocBuf_hostMem {data : List Byte} {s t : State} {x : Nat × Nat} (h : allocBuf data s = some (t, x)) : t.hostMem = s.hostMem := by
  unfold allocBuf at h
  split at h
  · cases h
  · cases h
    simp

@[simp] theorem freeBuf_hostMem (id) : (freeBuf id s).hostMem = s.hostMem := by simp [freeBuf]
@[simp] theorem degrade_hostMem (b) : (degrade b s).hostMem = s.hostMem := by simp [degrade]
@[simp] theorem undegrade_hostMem (b) : (undegrade b s).hostMem = s.hostMem := by simp [undegrade]

/-! The command path (R30, R98-R137). -/

@[simp] theorem fetchEntry_hostMem (h c mac seqNo) : (fetchEntry h c mac seqNo s).hostMem = s.hostMem := by simp [fetchEntry]
@[simp] theorem complete_hostMem (p r) : (complete p r).hostMem = r.st.hostMem := rfl

@[simp] theorem finishWait_hostMem (who status data) : (finishWait who status data s).hostMem = s.hostMem := by
  unfold finishWait
  split <;> simp

@[simp] theorem finishStored_hostMem (who) : (finishStored who s).hostMem = s.hostMem := by
  unfold finishStored
  split <;> simp

@[simp] theorem stageTimed_hostMem (h c r) : (stageTimed h c r s).hostMem = s.hostMem := by
  unfold stageTimed
  split <;> simp

@[simp] theorem endFlights_hostMem (status p) : (endFlights status p s).hostMem = s.hostMem := by simp [endFlights]
@[simp] theorem drain_hostMem (q) : (drain q s).hostMem = s.hostMem := by simp [drain]
@[simp] theorem sqDoorbell_hostMem (q value) : (sqDoorbell q value s).hostMem = s.hostMem := by simp [sqDoorbell]
@[simp] theorem cqDoorbell_hostMem (q value) : (cqDoorbell q value s).hostMem = s.hostMem := by simp [cqDoorbell]
@[simp] theorem pf1Drop_hostMem : (pf1Drop s).hostMem = s.hostMem := by simp [pf1Drop]
@[simp] theorem qpOn_hostMem (func q ctrl) : (qpOn func q ctrl s).hostMem = s.hostMem := by simp [qpOn]
@[simp] theorem qpOff_hostMem (func q ctrl) : (qpOff func q ctrl s).hostMem = s.hostMem := by simp [qpOff]
@[simp] theorem commandFetch_hostMem (e) : (commandFetch e s).hostMem = s.hostMem := by simp [commandFetch]
@[simp] theorem disarm_hostMem (n) : (disarm n s).hostMem = s.hostMem := by simp [disarm]

@[simp] theorem deadlineAbandon_hostMem (qp tag) : (deadlineAbandon qp tag s).hostMem = s.hostMem := by
  unfold deadlineAbandon
  dsimp only
  (repeat' split) <;> simp

theorem armDue_hostMem (l) (t : State) : (armDue s l t).2.hostMem = t.hostMem := by
  induction l generalizing t with
  | nil => rfl
  | cons d l ih =>
    rw [armDue]
    split <;> simp [ih]

@[simp] theorem delayListWalk_hostMem : (delayListWalk s).hostMem = s.hostMem := armDue_hostMem ..

@[simp] theorem coalExpiry_hostMem (kind index) : (coalExpiry kind index s).hostMem = s.hostMem := by simp [coalExpiry]
@[simp] theorem msixUnmask_hostMem (func vector) : (msixUnmask func vector s).hostMem = s.hostMem := by simp [msixUnmask]
@[simp] theorem evtClear_hostMem (k value) : (evtClear k value s).hostMem = s.hostMem := by simp [evtClear]
@[simp] theorem spiSubmit_hostMem (e lengthOk) : (spiSubmit e lengthOk s).hostMem = s.hostMem := by simp [spiSubmit]
@[simp] theorem spiReadReply_hostMem : (spiReadReply s).hostMem = s.hostMem := by simp [spiReadReply]
@[simp] theorem spiReadStatus_hostMem : (spiReadStatus s).hostMem = s.hostMem := by simp [spiReadStatus]
@[simp] theorem mgmtVlanFrame_hostMem (port mac vlan verified seq entries) :
    (mgmtVlanFrame port mac vlan verified seq entries s).hostMem = s.hostMem := by
  simp [mgmtVlanFrame]

/-! The security island (R363-R396). -/

@[simp] theorem keyEvent_hostMem (n slot) : (keyEvent n slot s).hostMem = s.hostMem := by simp [keyEvent]
@[simp] theorem noteKey_hostMem (slot) : (noteKey slot s).hostMem = s.hostMem := by simp [noteKey]

@[simp] theorem journalPut_hostMem (fp h) : (journalPut fp h s).hostMem = s.hostMem := by
  unfold journalPut
  split <;> simp

@[simp] theorem orphan_hostMem (k p g) : (orphan k p g s).1.hostMem = s.hostMem := by
  induction k generalizing p g s with
  | zero => rfl
  | succ k ih => simp [orphan, ih]

@[simp] theorem orphanBy_hostMem (p g) : (orphanBy p g s).1.hostMem = s.hostMem := by simp [orphanBy]
@[simp] theorem takeGen_hostMem (slot m overlapMs) : (takeGen slot m overlapMs s).hostMem = s.hostMem := by simp [takeGen]
@[simp] theorem abortMessages_hostMem (slot gen) : (abortMessages slot gen s).hostMem = s.hostMem := by simp [abortMessages]

@[simp] theorem abortRetiring_hostMem (slot) : (abortRetiring slot s).hostMem = s.hostMem := by
  unfold abortRetiring
  dsimp only
  split <;> simp

@[simp] theorem installWaiting_hostMem (slot) : (installWaiting slot s).hostMem = s.hostMem := by
  unfold installWaiting
  dsimp only
  split <;> simp

@[simp] theorem makeGen_hostMem (h slot m overlapMs) : (makeGen h slot m overlapMs s).st.hostMem = s.hostMem := by simp [makeGen]
@[simp] theorem keyRefuse_hostMem (slot status) : (keyRefuse slot status s).st.hostMem = s.hostMem := by simp [keyRefuse]
@[simp] theorem requestKey_hostMem (slot bitNo) : (requestKey slot bitNo s).st.hostMem = s.hostMem := by simp [requestKey]
@[simp] theorem drawUse_hostMem (slot) : (drawUse slot s).st.hostMem = s.hostMem := by simp [drawUse]

@[simp] theorem commitAtLimit_hostMem (slot) : (commitAtLimit slot s).hostMem = s.hostMem := by
  unfold commitAtLimit
  dsimp only
  (repeat' split) <;> simp

@[simp] theorem useKey_hostMem (slot bitNo) : (useKey slot bitNo s).st.hostMem = s.hostMem := by simp [useKey]
@[simp] theorem holdKey_hostMem (slot) : (holdKey slot s).hostMem = s.hostMem := by simp [holdKey]

@[simp] theorem settleErase_hostMem (who) : (settleErase who s).hostMem = s.hostMem := by
  unfold settleErase
  split <;> simp

@[simp] theorem emptySlot_hostMem (slot) : (emptySlot slot s).hostMem = s.hostMem := by simp [emptySlot]
@[simp] theorem tryEmpty_hostMem (slot) : (tryEmpty slot s).hostMem = s.hostMem := by simp [tryEmpty]
@[simp] theorem startErase_hostMem (slot erase who) : (startErase slot erase who s).1.hostMem = s.hostMem := by simp [startErase]
@[simp] theorem wrapKey_hostMem (wkey binding m) : (wrapKey wkey binding m s).1.hostMem = s.hostMem := by simp [wrapKey]

@[simp] theorem obtainKey_hostMem (slot k) : (obtainKey slot k s).st.hostMem = s.hostMem := by
  unfold obtainKey
  dsimp only
  (repeat' split) <;> simp

@[simp] theorem keyCommit_hostMem (h p) : (keyCommit h p s).st.hostMem = s.hostMem := by
  unfold keyCommit
  (repeat' split) <;> simp

@[simp] theorem eraseAll_hostMem (slots erase who) : (eraseAll slots erase who s).1.hostMem = s.hostMem := by simp [eraseAll]
@[simp] theorem keyErase_hostMem (h p) : (keyErase h p s).st.hostMem = s.hostMem := by simp [keyErase]
@[simp] theorem keyInvalidate_hostMem (h p) : (keyInvalidate h p s).st.hostMem = s.hostMem := by simp [keyInvalidate]
@[simp] theorem keyStoreCfg_hostMem (h p) : (keyStoreCfg h p s).st.hostMem = s.hostMem := by simp [keyStoreCfg]

@[simp] theorem endMessage_hostMem (slot gen) : (endMessage slot gen s).hostMem = s.hostMem := by
  unfold endMessage
  dsimp only
  split <;> simp

@[simp] theorem keyReferenceDrop_hostMem (slot gen) : (keyReferenceDrop slot gen s).hostMem = s.hostMem := by
  unfold keyReferenceDrop
  dsimp only
  (repeat' split) <;> simp

@[simp] theorem keyWaitExpiry_hostMem (slot) : (keyWaitExpiry slot s).hostMem = s.hostMem := by
  unfold keyWaitExpiry
  dsimp only
  (repeat' split) <;> simp

@[simp] theorem rxOverlapExpiry_hostMem (slot) : (rxOverlapExpiry slot s).hostMem = s.hostMem := by
  unfold rxOverlapExpiry
  dsimp only
  split <;> simp

@[simp] theorem identityGenerated_hostMem : (identityGenerated s).hostMem = s.hostMem := by simp [identityGenerated]
@[simp] theorem pufSpareEnrol_hostMem (array active) : (pufSpareEnrol array active s).hostMem = s.hostMem := by simp [pufSpareEnrol]

@[simp] theorem journalEntryDurable_hostMem (slot) : (journalEntryDurable slot s).hostMem = s.hostMem := by
  unfold journalEntryDurable
  dsimp only
  split <;> simp

@[simp] theorem journalWriteFail_hostMem (slot) : (journalWriteFail slot s).hostMem = s.hostMem := by simp [journalWriteFail]
@[simp] theorem journalCompactDone_hostMem : (journalCompactDone s).hostMem = s.hostMem := by simp [journalCompactDone]

/-! The cipher engines and the check-value units (R397-R426). -/

@[simp] theorem arriveMsg_hostMem (engine m) : (arriveMsg engine m s).hostMem = s.hostMem := by
  unfold arriveMsg
  dsimp only
  split <;> simp

@[simp] theorem engineResume_hostMem (engine) : (engineResume engine s).hostMem = s.hostMem := by
  unfold engineResume
  (repeat' split) <;> simp

@[simp] theorem stall_hostMem : (stall s).st.hostMem = s.hostMem := by simp [stall]
@[simp] theorem cryVerify_hostMem (h p) : (cryVerify h p s).st.hostMem = s.hostMem := by simp [cryVerify]
@[simp] theorem cryXtsRegion_hostMem (h p) : (cryXtsRegion h p s).st.hostMem = s.hostMem := by simp [cryXtsRegion]
@[simp] theorem cryChkCfg_hostMem (h p) : (cryChkCfg h p s).st.hostMem = s.hostMem := by simp [cryChkCfg]
@[simp] theorem chkPauseTake_hostMem (u) : (chkPauseTake u s).hostMem = s.hostMem := by simp [chkPauseTake]
@[simp] theorem chkPauseWrite_hostMem (u value) : (chkPauseWrite u value s).hostMem = s.hostMem := by simp [chkPauseWrite]
@[simp] theorem chkValueWrite_hostMem (u value) : (chkValueWrite u value s).hostMem = s.hostMem := by simp [chkValueWrite]
@[simp] theorem chkResultRead_hostMem (u) : (chkResultRead u s).hostMem = s.hostMem := by simp [chkResultRead]
@[simp] theorem chkResult_hostMem (u data abort spawned v) : (chkResult u data abort spawned v s).hostMem = s.hostMem := by simp [chkResult]
@[simp] theorem chkFrameEnd_hostMem (n data abort spawned u) : (chkFrameEnd n data abort spawned u s).hostMem = s.hostMem := by
  simp [chkFrameEnd]
@[simp] theorem chkEnds_hostMem (n data abort spawned) : (chkEnds n data abort spawned s).hostMem = s.hostMem := by simp [chkEnds]

/-! Time domains, comparators, captures and PTP (R216-R241). -/

@[simp] theorem stepDomain_hostMem (i inc mark) : (stepDomain i inc mark s).hostMem = s.hostMem := by simp [stepDomain]
@[simp] theorem setRate_hostMem (i r) : (setRate i r s).hostMem = s.hostMem := by simp [setRate]
@[simp] theorem timeStep_hostMem (h p) : (timeStep h p s).st.hostMem = s.hostMem := by simp [timeStep]
@[simp] theorem timeRate_hostMem (h p) : (timeRate h p s).st.hostMem = s.hostMem := by simp [timeRate]
@[simp] theorem timeSelect_hostMem (h p) : (timeSelect h p s).st.hostMem = s.hostMem := by simp [timeSelect]
@[simp] theorem slewDone_hostMem : (slewDone s).hostMem = s.hostMem := by simp [slewDone]
@[simp] theorem holdRelease_hostMem : (holdRelease s).hostMem = s.hostMem := by simp [holdRelease]
@[simp] theorem rateFold_hostMem (domain) : (rateFold domain s).hostMem = s.hostMem := by simp [rateFold]
@[simp] theorem timeTick_hostMem : (timeTick s).hostMem = s.hostMem := by simp [timeTick]
@[simp] theorem timeTrigger_hostMem (h p) : (timeTrigger h p s).st.hostMem = s.hostMem := by simp [timeTrigger]
@[simp] theorem drivePin_hostMem (c) : (drivePin c s).hostMem = s.hostMem := by simp [drivePin]
@[simp] theorem captureEdge_hostMem (i falling) : (captureEdge i falling s).hostMem = s.hostMem := by simp [captureEdge]
@[simp] theorem timeInEdge_hostMem (input falling) : (timeInEdge input falling s).hostMem = s.hostMem := by simp [timeInEdge]
@[simp] theorem captureRead_hostMem (i) : (captureRead i s).hostMem = s.hostMem := by simp [captureRead]
@[simp] theorem snapshotRead_hostMem : (snapshotRead s).hostMem = s.hostMem := by simp [snapshotRead]
@[simp] theorem timeCaptureCfg_hostMem (h p) : (timeCaptureCfg h p s).st.hostMem = s.hostMem := by simp [timeCaptureCfg]
@[simp] theorem timePtpPortCfg_hostMem (h p) : (timePtpPortCfg h p s).st.hostMem = s.hostMem := by simp [timePtpPortCfg]
@[simp] theorem ptpEventRx_hostMem (port msg) : (ptpEventRx port msg s).hostMem = s.hostMem := by simp [ptpEventRx]

@[simp] theorem ptpTcEgress_hostMem (port id) : (ptpTcEgress port id s).hostMem = s.hostMem := by
  unfold ptpTcEgress
  split <;> simp

@[simp] theorem correctRate_hostMem (i dr) : (correctRate i dr s).hostMem = s.hostMem := by simp [correctRate]
@[simp] theorem ptpOffset_hostMem (i offset rateCorr) : (ptpOffset i offset rateCorr s).hostMem = s.hostMem := by simp [ptpOffset]

@[simp] theorem airOffset_hostMem (offset) : (airOffset offset s).hostMem = s.hostMem := by
  unfold airOffset
  split <;> simp

@[simp] theorem loseSource_hostMem (i) : (loseSource i s).hostMem = s.hostMem := by simp [loseSource]
@[simp] theorem ptpTimeout_hostMem (i) : (ptpTimeout i s).hostMem = s.hostMem := by simp [ptpTimeout]
@[simp] theorem timeDomainCfg_hostMem (h p) : (timeDomainCfg h p s).st.hostMem = s.hostMem := by simp [timeDomainCfg]
@[simp] theorem timeStatus_hostMem (h p) : (timeStatus h p s).st.hostMem = s.hostMem := by simp [timeStatus]

/-! The traffic manager (R341-R362). -/

@[simp] theorem noteDelta_hostMem (f) : (noteDelta f s).hostMem = s.hostMem := by simp [noteDelta]
@[simp] theorem meterFrame_hostMem (m b pre) : (meterFrame m b pre s).1.hostMem = s.hostMem := by simp [meterFrame]
@[simp] theorem withShaper_hostMem (k f) : (withShaper k f s).hostMem = s.hostMem := by simp [withShaper]

@[simp] theorem evalShaper_hostMem (q) : (evalShaper q s).hostMem = s.hostMem := by
  unfold evalShaper
  split <;> simp

@[simp] theorem chargeShaper_hostMem (q f) : (chargeShaper q f s).hostMem = s.hostMem := by simp [chargeShaper]

@[simp] theorem offerQueue_hostMem (q) : (offerQueue q s).hostMem = s.hostMem := by
  unfold offerQueue
  dsimp only
  (repeat' split) <;> simp

@[simp] theorem releaseShaper_hostMem (k) : (releaseShaper k s).hostMem = s.hostMem := by simp [releaseShaper]
@[simp] theorem wheelFine_hostMem : (wheelFine s).hostMem = s.hostMem := by simp [wheelFine]
@[simp] theorem wheelCoarse_hostMem : (wheelCoarse s).hostMem = s.hostMem := by simp [wheelCoarse]

@[simp] theorem leaveQueue_hostMem (q id sent) : (leaveQueue q id sent s).hostMem = s.hostMem := by
  unfold leaveQueue
  (repeat' split) <;> simp

@[simp] theorem dropFrames_hostMem (p) : (dropFrames p s).hostMem = s.hostMem := by simp [dropFrames]
@[simp] theorem dropEvents_hostMem (why q) : (dropEvents why q s).hostMem = s.hostMem := by simp [dropEvents]
@[simp] theorem admitFrame_hostMem (q f colour) : (admitFrame q f colour s).1.hostMem = s.hostMem := by simp [admitFrame]
@[simp] theorem classifyAdmit_hostMem (profile16 f x) : (classifyAdmit profile16 f x s).1.hostMem = s.hostMem := by simp [classifyAdmit]

@[simp] theorem drrNext_hostMem (port skip k) : (drrNext port skip k s).1.hostMem = s.hostMem := by
  obtain ⟨_, _, _, _, h⟩ := (schedules_drrNext port skip k s).blocks
  rw [h]

@[simp] theorem nextFrame_hostMem (port skip) : (nextFrame port skip s).1.hostMem = s.hostMem := by
  obtain ⟨_, _, _, _, h⟩ := (schedules_nextFrame port skip s).blocks
  rw [h]

@[simp] theorem sendFrame_hostMem (q f) : (sendFrame q f s).hostMem = s.hostMem := by simp [sendFrame]

@[simp] theorem bindFrame_hostMem (q id) : (bindFrame q id s).hostMem = s.hostMem := by
  unfold bindFrame
  split <;> simp

@[simp] theorem unbindFrame_hostMem (q id) : (unbindFrame q id s).hostMem = s.hostMem := by simp [unbindFrame]

@[simp] theorem tmNext_hostMem (peer mask fits) : (tmNext peer mask fits s).1.hostMem = s.hostMem := by
  unfold tmNext
  dsimp only
  (repeat' split) <;> simp

@[simp] theorem tmQueueCfg_hostMem (h p) : (tmQueueCfg h p s).st.hostMem = s.hostMem := by simp [tmQueueCfg]
@[simp] theorem tmMeterCfg_hostMem (h p) : (tmMeterCfg h p s).st.hostMem = s.hostMem := by simp [tmMeterCfg]
@[simp] theorem tmShaperCfg_hostMem (h p) : (tmShaperCfg h p s).st.hostMem = s.hostMem := by simp [tmShaperCfg]
@[simp] theorem tmClassMap_hostMem (h p) : (tmClassMap h p s).st.hostMem = s.hostMem := by simp [tmClassMap]
@[simp] theorem tmStats_hostMem (h p) : (tmStats h p s).st.hostMem = s.hostMem := by simp [tmStats]

end Sys2Proof.Proofs
end

section
/-!
PROOFS. Host memory is kept, one rule per function: the air budget, the tables, lanes and chains.
-/
namespace Sys2Proof.Proofs
open Machine Safety Laws

variable (s : State)

/-! The air budget (R295-R309). -/

@[simp] theorem debitAll_hostMem (bucket chain bands us) : (debitAll bucket chain bands us s).hostMem = s.hostMem := by simp [debitAll]
@[simp] theorem nearCheck_hostMem (bucket chain bands) : (nearCheck bucket chain bands s).hostMem = s.hostMem := by simp [nearCheck]
@[simp] theorem budgetCheck_hostMem (carrier phy chain us bucket) : (budgetCheck carrier phy chain us bucket s).1.hostMem = s.hostMem := by
  simp [budgetCheck]
@[simp] theorem settleDebit_hostMem (carrier phy chain bucket reserved sent) :
    (settleDebit carrier phy chain bucket reserved sent s).hostMem = s.hostMem := by
  simp [settleDebit]
@[simp] theorem budgRegionLoad_hostMem (h p) : (budgRegionLoad h p s).st.hostMem = s.hostMem := by simp [budgRegionLoad]
@[simp] theorem budgStatus_hostMem (h p) : (budgStatus h p s).st.hostMem = s.hostMem := by simp [budgStatus]
@[simp] theorem budgetExpiry_hostMem : (budgetExpiry s).hostMem = s.hostMem := by simp [budgetExpiry]

/-! The node, neighbour and prefix tables (R310-R340). -/

@[simp] theorem noteNbr_hostMem (n) : (noteNbr n s).hostMem = s.hostMem := by simp [noteNbr]
@[simp] theorem noteReplay_hostMem (n) : (noteReplay n s).hostMem = s.hostMem := by simp [noteReplay]
@[simp] theorem withNode_hostMem (pos f) : (withNode pos f s).hostMem = s.hostMem := by simp [withNode]
@[simp] theorem parityMiss_hostMem : (parityMiss s).hostMem = s.hostMem := by simp [parityMiss]

@[simp] theorem nodeLookup_hostMem (kind panId addr) : (nodeLookup kind panId addr s).1.hostMem = s.hostMem := by
  unfold nodeLookup
  dsimp only
  split <;> simp

@[simp] theorem nbrLookup_hostMem (n) : (nbrLookup n s).1.hostMem = s.hostMem := by simp [nbrLookup]
@[simp] theorem nodeHit_hostMem (pos) : (nodeHit pos s).hostMem = s.hostMem := by simp [nodeHit]
@[simp] theorem nbrHit_hostMem (n) : (nbrHit n s).hostMem = s.hostMem := by simp [nbrHit]

@[simp] theorem trieLookup_hostMem (dst) : (trieLookup dst s).1.hostMem = s.hostMem := by
  unfold trieLookup
  dsimp only
  split <;> simp

@[simp] theorem setPrefixes_hostMem (ps) : (setPrefixes ps s).hostMem = s.hostMem := by simp [setPrefixes]
@[simp] theorem learnHoldoff_hostMem (kind panId addr) : (learnHoldoff kind panId addr s).hostMem = s.hostMem := by simp [learnHoldoff]
@[simp] theorem learnHeadWrite_hostMem (value) : (learnHeadWrite value s).hostMem = s.hostMem := by simp [learnHeadWrite]
@[simp] theorem invalidateNbr_hostMem (n) : (invalidateNbr n s).hostMem = s.hostMem := by simp [invalidateNbr]
@[simp] theorem placeNode_hostMem (pos e) : (placeNode pos e s).hostMem = s.hostMem := by simp [placeNode]

@[simp] theorem tblNodeDelete_hostMem (h p) : (tblNodeDelete h p s).st.hostMem = s.hostMem := by
  unfold tblNodeDelete
  (repeat' split) <;> simp

@[simp] theorem tblPrefixAdd_hostMem (h p) : (tblPrefixAdd h p s).st.hostMem = s.hostMem := by
  unfold tblPrefixAdd
  dsimp only
  (repeat' split) <;> simp

@[simp] theorem tblPrefixDel_hostMem (h p) : (tblPrefixDel h p s).st.hostMem = s.hostMem := by simp [tblPrefixDel]
@[simp] theorem tblAgingCfg_hostMem (h p) : (tblAgingCfg h p s).st.hostMem = s.hostMem := by simp [tblAgingCfg]
@[simp] theorem tblEvictPolicy_hostMem (h p) : (tblEvictPolicy h p s).st.hostMem = s.hostMem := by simp [tblEvictPolicy]
@[simp] theorem tblCfg_hostMem (h p) : (tblCfg h p s).st.hostMem = s.hostMem := by simp [tblCfg]
@[simp] theorem tblNeighbourSet_hostMem (h p) : (tblNeighbourSet h p s).st.hostMem = s.hostMem := by simp [tblNeighbourSet]

/-! The receive lanes (R179-R215). -/

@[simp] theorem exhausted_hostMem (kind) : (exhausted kind s).hostMem = s.hostMem := by simp [exhausted]
@[simp] theorem countLane_hostMem (n i) : (countLane n i s).hostMem = s.hostMem := by simp [countLane]
@[simp] theorem tunePhys_hostMem (p u) : (tunePhys p u s).hostMem = s.hostMem := by simp [tunePhys]
@[simp] theorem toPool_hostMem (p) : (toPool p s).hostMem = s.hostMem := by simp [toPool]
@[simp] theorem endFrame_hostMem (p) : (endFrame p s).hostMem = s.hostMem := by simp [endFrame]
@[simp] theorem trigSnapshot_hostMem (n trigger) : (trigSnapshot n trigger s).hostMem = s.hostMem := by simp [trigSnapshot]

@[simp] theorem loseFrame_hostMem (p cause) : (loseFrame p cause s).hostMem = s.hostMem := by
  unfold loseFrame
  (repeat' split) <;> simp

@[simp] theorem abortFrame_hostMem (p cause) : (abortFrame p cause s).hostMem = s.hostMem := by simp [abortFrame]
@[simp] theorem startFrame_hostMem (p rssi captured falseSync) : (startFrame p rssi captured falseSync s).hostMem = s.hostMem := by
  simp [startFrame]
@[simp] theorem takePreamble_hostMem (p rssi) : (takePreamble p rssi s).hostMem = s.hostMem := by simp [takePreamble]
@[simp] theorem spawnLane_hostMem (n p q rssi) : (spawnLane n p q rssi s).hostMem = s.hostMem := by simp [spawnLane]

@[simp] theorem preamble_hostMem (p rssi) : (preamble p rssi s).hostMem = s.hostMem := by
  unfold preamble
  dsimp only
  (repeat' split) <;> simp

@[simp] theorem preambleDetect_hostMem (p corr rssi) : (preambleDetect p corr rssi s).hostMem = s.hostMem := by
  unfold preambleDetect
  split <;> simp

@[simp] theorem syncFieldEnd_hostMem (p) : (syncFieldEnd p s).hostMem = s.hostMem := by simp [syncFieldEnd]
@[simp] theorem maxPreamble_hostMem (p) : (maxPreamble p s).hostMem = s.hostMem := by simp [maxPreamble]

@[simp] theorem mapTaken_hostMem (h) : (mapTaken h s).hostMem = s.hostMem := by
  unfold mapTaken
  split <;> simp

@[simp] theorem toPayload_hostMem (p h map) : (toPayload p h map s).hostMem = s.hostMem := by simp [toPayload]

@[simp] theorem headerCheck_hostMem (p h) : (headerCheck p h s).hostMem = s.hostMem := by
  unfold headerCheck
  (repeat' split) <;> simp

@[simp] theorem noBuffer_hostMem (p) : (noBuffer p s).hostMem = s.hostMem := by simp [noBuffer]

@[simp] theorem cellAlloc_hostMem (p data backpressure) : (cellAlloc p data backpressure s).hostMem = s.hostMem := by
  unfold cellAlloc
  split <;> simp

@[simp] theorem measure_hostMem (link tone) : (Machine.measure link tone s).hostMem = s.hostMem := by
  unfold Machine.measure
  split <;> simp

@[simp] theorem noteAckJob_hostMem (u n f) : (noteAckJob u n f s).hostMem = s.hostMem := by
  unfold noteAckJob
  (repeat' split) <;> simp

@[simp] theorem frameDone_hostMem (p u f snr) : (frameDone p u f snr s).hostMem = s.hostMem := by simp [frameDone]

@[simp] theorem laneFrameEnd_hostMem (p fcsOk snr tone) : (laneFrameEnd p fcsOk snr tone s).hostMem = s.hostMem := by
  unfold laneFrameEnd
  split <;> simp

@[simp] theorem applyAssign_hostMem (n a) : (applyAssign n a s).hostMem = s.hostMem := by simp [applyAssign]
@[simp] theorem takeEntry_hostMem (n e) : (takeEntry n e s).hostMem = s.hostMem := by simp [takeEntry]
@[simp] theorem boundaryEntry_hostMem (n e) : (boundaryEntry n e s).hostMem = s.hostMem := by simp [boundaryEntry]
@[simp] theorem listenOpen_hostMem (n) : (listenOpen n s).hostMem = s.hostMem := by simp [listenOpen]
@[simp] theorem listenClose_hostMem (n) : (listenClose n s).hostMem = s.hostMem := by simp [listenClose]

@[simp] theorem deferredApply_hostMem (n) : (deferredApply n s).hostMem = s.hostMem := by
  unfold deferredApply
  dsimp only
  (repeat' split) <;> simp

@[simp] theorem laneAssign_hostMem (h p) : (laneAssign h p s).st.hostMem = s.hostMem := by simp [laneAssign]
@[simp] theorem lanePhyCfg_hostMem (h p) : (lanePhyCfg h p s).st.hostMem = s.hostMem := by simp [lanePhyCfg]
@[simp] theorem laneCaptureCfg_hostMem (h p) : (laneCaptureCfg h p s).st.hostMem = s.hostMem := by simp [laneCaptureCfg]
@[simp] theorem laneStatus_hostMem (h p) : (laneStatus h p s).st.hostMem = s.hostMem := by simp [laneStatus]

@[simp] theorem laneFlush_hostMem (h p) : (laneFlush h p s).st.hostMem = s.hostMem := by
  unfold laneFlush
  dsimp only
  split
  · rfl
  · simp only [hostMem_foldl, abortFrame_hostMem, implies_true]

@[simp] theorem laneBitload_hostMem (h p) : (laneBitload h p s).st.hostMem = s.hostMem := by simp [laneBitload]
@[simp] theorem loseLane_hostMem (n) : (loseLane n s).hostMem = s.hostMem := by simp [loseLane]
@[simp] theorem failPhys_hostMem (p) : (failPhys p s).hostMem = s.hostMem := by simp [failPhys]
@[simp] theorem moveLane_hostMem (n q) : (moveLane n q s).hostMem = s.hostMem := by simp [moveLane]

@[simp] theorem laneSpareMove_hostMem (n) : (laneSpareMove n s).hostMem = s.hostMem := by
  unfold laneSpareMove
  split <;> simp

@[simp] theorem blankLanes_hostMem : (blankLanes s).hostMem = s.hostMem := by
  unfold blankLanes
  exact hostMem_foldl (fun s p => by split <;> simp) _ s

/-! The radio chains (R138-R178). -/

@[simp] theorem rffeSend_hostMem (c w) : (rffeSend c w s).hostMem = s.hostMem := by simp [rffeSend]
@[simp] theorem askCal_hostMem (c steps job) : (askCal c steps job s).hostMem = s.hostMem := by simp [askCal]
@[simp] theorem radCal_hostMem (h p) : (radCal h p s).st.hostMem = s.hostMem := by simp [radCal]

@[simp] theorem calStart_hostMem (c) : (calStart c s).hostMem = s.hostMem := by
  unfold calStart
  split
  · rfl
  · refine (hostMem_foldl (fun s p => ?_) _ _).trans (withChain_hostMem ..)
    split <;> simp

@[simp] theorem calDone_hostMem (c failedStep degC) : (calDone c failedStep degC s).hostMem = s.hostMem := by
  unfold calDone
  split <;> simp

@[simp] theorem autoRecal_hostMem (c degC) : (autoRecal c degC s).hostMem = s.hostMem := by
  unfold autoRecal
  dsimp only
  split <;> simp

@[simp] theorem radChainCfg_hostMem (h p) : (radChainCfg h p s).st.hostMem = s.hostMem := by simp [radChainCfg]
@[simp] theorem radCoexCfg_hostMem (h p) : (radCoexCfg h p s).st.hostMem = s.hostMem := by simp [radCoexCfg]
@[simp] theorem radAgcCfg_hostMem (h p) : (radAgcCfg h p s).st.hostMem = s.hostMem := by simp [radAgcCfg]
@[simp] theorem radPaRamp_hostMem (h p) : (radPaRamp h p s).st.hostMem = s.hostMem := by simp [radPaRamp]
@[simp] theorem takeProfiles_hostMem (c) : (takeProfiles c s).hostMem = s.hostMem := by simp [takeProfiles]
@[simp] theorem radBlankMap_hostMem (h p) : (radBlankMap h p s).st.hostMem = s.hostMem := by simp [radBlankMap]
@[simp] theorem setTuner_hostMem (c t) : (setTuner c t s).hostMem = s.hostMem := by simp [setTuner]
@[simp] theorem radTuner_hostMem (h p) : (radTuner h p s).st.hostMem = s.hostMem := by simp [radTuner]

@[simp] theorem tunerReading_hostMem (c rl) : (tunerReading c rl s).hostMem = s.hostMem := by
  unfold tunerReading
  dsimp only
  split <;> simp

@[simp] theorem tunerTimeout_hostMem (c) : (tunerTimeout c s).hostMem = s.hostMem := by
  unfold tunerTimeout
  (repeat' split) <;> simp

@[simp] theorem agcBoundary_hostMem (power) : (agcBoundary power s).hostMem = s.hostMem := by simp [agcBoundary]
@[simp] theorem rawSlotBoundary_hostMem (env) : (rawSlotBoundary env s).hostMem = s.hostMem := by simp [rawSlotBoundary]

@[simp] theorem nbAgc_hostMem (c level) : (nbAgc c level s).hostMem = s.hostMem := by
  unfold nbAgc
  split <;> simp

@[simp] theorem adcClip_hostMem (c clipped) : (adcClip c clipped s).hostMem = s.hostMem := by simp [adcClip]

@[simp] theorem synthWrite_hostMem (c) : (synthWrite c s).hostMem = s.hostMem := by
  unfold synthWrite
  dsimp only
  split <;> simp

@[simp] theorem synthLock_hostMem (c) : (synthLock c s).hostMem = s.hostMem := by simp [synthLock]
@[simp] theorem radTxRaw_hostMem (h p) : (radTxRaw h p s).st.hostMem = s.hostMem := by simp [radTxRaw]

end Sys2Proof.Proofs
end

section
/-!
PROOFS. Host memory is kept, one rule per function: plans, transmissions and slots.
-/
namespace Sys2Proof.Proofs
open Machine Safety Laws

variable (s : State)

/-! FORECAST, the lane-plan builder (R245-R257, R268-R278). -/

@[simp] theorem preCnt_hostMem (i) : (preCnt i s).hostMem = s.hostMem := by simp [preCnt]
@[simp] theorem precommit_hostMem (pl e inSuper reserved) : (precommit pl e inSuper reserved s).1.hostMem = s.hostMem := by simp [precommit]
@[simp] theorem placeTx_hostMem (e pl) : (placeTx e pl s).1.hostMem = s.hostMem := by simp [placeTx]

@[simp] theorem tryTx_hostMem (t e l pl) : (tryTx t e l pl s).1.hostMem = s.hostMem := by
  induction l generalizing pl s with
  | nil => rfl
  | cons x l ih =>
    rw [tryTx]
    dsimp only
    split <;> simp [ih]

@[simp] theorem reserveAck_hostMem (t c f x ch lane pl) : (reserveAck t c f x ch lane pl s).1.hostMem = s.hostMem := by simp [reserveAck]

@[simp] theorem tryRx_hostMem (t f x ch l pl) : (tryRx t f x ch l pl s).1.hostMem = s.hostMem := by
  induction l generalizing pl s with
  | nil => rfl
  | cons y l ih =>
    rw [tryRx]
    dsimp only
    split <;> simp [ih]

@[simp] theorem chooseFrame_hostMem (t pl x) : (chooseFrame t pl x s).1.hostMem = s.hostMem := by simp [chooseFrame]

@[simp] theorem doCell_hostMem (x pl) : (doCell x pl s).1.hostMem = s.hostMem := by
  unfold doCell
  dsimp only
  (repeat' split) <;> simp

@[simp] theorem doRx_hostMem (x pl) : (doRx x pl s).1.hostMem = s.hostMem := by
  unfold doRx
  dsimp only
  split <;> simp

@[simp] theorem doCells_hostMem (pl) : (doCells pl s).1.hostMem = s.hostMem := by simp [doCells]

@[simp] theorem doBeacon_hostMem (i x pl) : (doBeacon i x pl s).1.hostMem = s.hostMem := by
  unfold doBeacon
  dsimp only
  split <;> simp

@[simp] theorem fillRun_hostMem (i peer f stop k t pl) : (fillRun i peer f stop k t pl s).1.hostMem = s.hostMem := by
  induction k generalizing t pl s with
  | zero => rfl
  | succ k ih =>
    rw [fillRun]
    dsimp only
    split <;> simp [ih]

@[simp] theorem doRun_hostMem (i x d pl) : (doRun i x d pl s).1.hostMem = s.hostMem := by
  unfold doRun
  dsimp only
  (repeat' split) <;> simp

@[simp] theorem superLane_hostMem (i x pl) : (superLane i x pl s).1.hostMem = s.hostMem := by
  unfold superLane
  dsimp only
  split <;> simp

@[simp] theorem doSuper_hostMem (i pl) : (doSuper i pl s).1.hostMem = s.hostMem := by simp [doSuper]

@[simp] theorem endRaw_hostMem (c status info t rl valid) : (endRaw c status info t rl valid s).hostMem = s.hostMem := by
  unfold endRaw
  split <;> simp

@[simp] theorem doRaw_hostMem (c pl) : (doRaw c pl s).1.hostMem = s.hostMem := by
  unfold doRaw
  dsimp only
  (repeat' split) <;> simp

@[simp] theorem buildPlan_hostMem (n) : (buildPlan n s).hostMem = s.hostMem := by simp [buildPlan]
@[simp] theorem takeBack_hostMem (n) : (takeBack n s).hostMem = s.hostMem := by simp [takeBack]

/-! Frames and acknowledgements in the slot engine (R258-R266). -/

@[simp] theorem replayCheck_hostMem (n gen c) : (replayCheck n gen c s).1.hostMem = s.hostMem := by simp [replayCheck]

@[simp] theorem storeMap_hostMem (n z) : (storeMap n z s).hostMem = s.hostMem := by
  unfold storeMap
  split <;> simp

@[simp] theorem heardSource_hostMem (offset) : (heardSource offset s).hostMem = s.hostMem := by simp [heardSource]
@[simp] theorem txReport_hostMem (e acked rssi snr lqi) : (txReport e acked rssi snr lqi s).hostMem = s.hostMem := by simp [txReport]
@[simp] theorem settleBackoff_hostMem (e ok) : (settleBackoff e ok s).hostMem = s.hostMem := by simp [settleBackoff]

@[simp] theorem failFrame_hostMem (e) : (failFrame e s).hostMem = s.hostMem := by
  unfold failFrame
  split <;> simp

@[simp] theorem completeFrame_hostMem (e acked rssi snr lqi) : (completeFrame e acked rssi snr lqi s).hostMem = s.hostMem := by
  simp [completeFrame]
@[simp] theorem beaconLost_hostMem (status i) : (beaconLost status i s).hostMem = s.hostMem := by simp [beaconLost]

@[simp] theorem freeTestChain_hostMem (r) : (freeTestChain r s).hostMem = s.hostMem := by
  unfold freeTestChain
  split <;> simp

@[simp] theorem endTest_hostMem (status) : (endTest status s).hostMem = s.hostMem := by
  unfold endTest
  split <;> simp

@[simp] theorem endEntry_hostMem (status e) : (endEntry status e s).hostMem = s.hostMem := by
  unfold endEntry
  split <;> simp

@[simp] theorem ackListenOpen_hostMem (c) : (ackListenOpen c s).hostMem = s.hostMem := by
  unfold ackListenOpen
  split <;> simp

@[simp] theorem ackValid_hostMem (w a) : (ackValid w a s).1.hostMem = s.hostMem := by
  unfold ackValid
  dsimp only
  (repeat' split) <;> simp

@[simp] theorem ackWaitEnd_hostMem (c ack) : (ackWaitEnd c ack s).hostMem = s.hostMem := by
  unfold ackWaitEnd
  (repeat' split) <;> simp

/-! The transmit sequence of a chain (R144-R170). -/

@[simp] theorem modHead_hostMem (c f) : (modHead c f s).hostMem = s.hostMem := by simp [modHead]
@[simp] theorem popTx_hostMem (c) : (popTx c s).hostMem = s.hostMem := by simp [popTx]
@[simp] theorem dropCoex_hostMem (c) : (dropCoex c s).hostMem = s.hostMem := by simp [dropCoex]
@[simp] theorem releaseTx_hostMem (c) : (releaseTx c s).hostMem = s.hostMem := by simp [releaseTx]
@[simp] theorem abandonTx_hostMem (c status e) : (abandonTx c status e s).hostMem = s.hostMem := by simp [abandonTx]
@[simp] theorem modTx_hostMem (c p f) : (modTx c p f s).hostMem = s.hostMem := by simp [modTx]

@[simp] theorem secureStart_hostMem (c) : (secureStart c s).hostMem = s.hostMem := by
  unfold secureStart
  dsimp only
  split <;> simp

@[simp] theorem secureDeadline_hostMem (c) : (secureDeadline c s).hostMem = s.hostMem := by
  unfold secureDeadline
  split <;> simp

@[simp] theorem txCoexReq_hostMem (c) : (txCoexReq c s).hostMem = s.hostMem := by
  unfold txCoexReq
  split <;> simp

@[simp] theorem txRffeOn_hostMem (c) : (txRffeOn c s).hostMem = s.hostMem := by
  unfold txRffeOn
  split <;> simp

@[simp] theorem grantDeadline_hostMem (c level) : (grantDeadline c level s).hostMem = s.hostMem := by
  unfold grantDeadline
  split <;> simp

@[simp] theorem txPaEnable_hostMem (c) : (txPaEnable c s).hostMem = s.hostMem := by
  unfold txPaEnable
  split <;> simp

@[simp] theorem lockDeadline_hostMem (c) : (lockDeadline c s).hostMem = s.hostMem := by
  unfold lockDeadline
  split <;> simp

@[simp] theorem txModulation_hostMem (c) : (txModulation c s).hostMem = s.hostMem := by
  unfold txModulation
  split <;> simp

@[simp] theorem addSent_hostMem (e) : (addSent e s).hostMem = s.hostMem := by simp [addSent]

@[simp] theorem finishEntry_hostMem (t rl valid) : (finishEntry t rl valid s).hostMem = s.hostMem := by
  unfold finishEntry
  dsimp only
  (repeat' split) <;> simp

@[simp] theorem coupler_hostMem (c fwd rev) : (coupler c fwd rev s).hostMem = s.hostMem := by simp [coupler]

@[simp] theorem txLastSymbol_hostMem (c fwd rev inputOk) : (txLastSymbol c fwd rev inputOk s).hostMem = s.hostMem := by
  unfold txLastSymbol
  split <;> simp

@[simp] theorem txPaDisable_hostMem (c) : (txPaDisable c s).hostMem = s.hostMem := by
  unfold txPaDisable
  split <;> simp

@[simp] theorem txEnRelease_hostMem (c) : (txEnRelease c s).hostMem = s.hostMem := by
  unfold txEnRelease
  split <;> simp

@[simp] theorem blankEnd_hostMem (c) : (blankEnd c s).hostMem = s.hostMem := by simp [blankEnd]
@[simp] theorem stopTx_hostMem (c status t) : (stopTx c status t s).hostMem = s.hostMem := by simp [stopTx]

@[simp] theorem grantRevoke_hostMem (c) : (grantRevoke c s).hostMem = s.hostMem := by
  unfold grantRevoke
  dsimp only
  (repeat' split) <;> simp

@[simp] theorem synthUnlock_hostMem (c) : (synthUnlock c s).hostMem = s.hostMem := by
  unfold synthUnlock
  dsimp only
  (repeat' split) <;> simp

@[simp] theorem sendAck_hostMem (e n level frame) : (sendAck e n level frame s).1.hostMem = s.hostMem := by simp [sendAck]
@[simp] theorem markAcked_hostMem (handle) : (markAcked handle s).hostMem = s.hostMem := by simp [markAcked]

@[simp] theorem enhAckCommit_hostMem (buffer) : (enhAckCommit buffer s).hostMem = s.hostMem := by
  unfold enhAckCommit
  split <;> simp

/-! The slot engine (R242-R294). -/

@[simp] theorem armBoundary_hostMem (ns) : (armBoundary ns s).hostMem = s.hostMem := by simp [armBoundary]
@[simp] theorem slotSet_hostMem (h p) : (slotSet h p s).st.hostMem = s.hostMem := by simp [slotSet]

@[simp] theorem slotStart_hostMem (p) : (slotStart p s).st.hostMem = s.hostMem := by
  unfold slotStart
  extract_lets started
  have hs : started.hostMem = s.hostMem := by simp [started]
  (repeat' split) <;> simp [hs]

@[simp] theorem slotStop_hostMem : (slotStop s).st.hostMem = s.hostMem := by simp [slotStop]
@[simp] theorem slotTemplate_hostMem (h p) : (slotTemplate h p s).st.hostMem = s.hostMem := by simp [slotTemplate]
@[simp] theorem slotCfg_hostMem (h p) : (slotCfg h p s).st.hostMem = s.hostMem := by simp [slotCfg]

@[simp] theorem slotListLoad_hostMem (h p) : (slotListLoad h p s).st.hostMem = s.hostMem := by
  unfold slotListLoad
  dsimp only
  (repeat' split) <;> simp

@[simp] theorem applyList_hostMem (off f) : (applyList off f s).hostMem = s.hostMem := by simp [applyList]
@[simp] theorem activateList_hostMem (off f a) : (activateList off f a s).st.hostMem = s.hostMem := by simp [activateList]

@[simp] theorem slotListActivate_hostMem (h p) : (slotListActivate h p s).st.hostMem = s.hostMem := by
  unfold slotListActivate
  dsimp only
  (repeat' split) <;> simp

@[simp] theorem slotSuperframeCfg_hostMem (h p) : (slotSuperframeCfg h p s).st.hostMem = s.hostMem := by simp [slotSuperframeCfg]

@[simp] theorem settleRes_hostMem (r) : (settleRes r s).hostMem = s.hostMem := by
  unfold settleRes
  split <;> simp

@[simp] theorem settleRuns_hostMem (n) : (settleRuns n s).hostMem = s.hostMem := by simp [settleRuns]
@[simp] theorem superframeEvent_hostMem (n kind) : (superframeEvent n kind s).hostMem = s.hostMem := by simp [superframeEvent]

@[simp] theorem substitute_hostMem (q id) : (substitute q id s).hostMem = s.hostMem := by
  unfold substitute
  dsimp only
  (repeat' split) <;> simp

@[simp] theorem slotTx_hostMem (h p) : (slotTx h p s).st.hostMem = s.hostMem := by
  unfold slotTx
  dsimp only
  split
  · rfl
  · split
    · rfl
    · split
      · rfl
      · split
        · rfl
        · next h => simp [allocBuf_hostMem h]

@[simp] theorem setShift_hostMem (p) : (setShift p s).hostMem = s.hostMem := by simp [setShift]
@[simp] theorem slotFrontCfg_hostMem (h p) : (slotFrontCfg h p s).st.hostMem = s.hostMem := by simp [slotFrontCfg]
@[simp] theorem frontBadPos_hostMem : (frontBadPos s).hostMem = s.hostMem := by simp [frontBadPos]
@[simp] theorem frontError_hostMem (e) : (frontError e s).hostMem = s.hostMem := by simp [frontError]
@[simp] theorem frontInEdge_hostMem (falling) : (frontInEdge falling s).hostMem = s.hostMem := by simp [frontInEdge]
@[simp] theorem frontMissing_hostMem : (frontMissing s).hostMem = s.hostMem := by simp [frontMissing]
@[simp] theorem frontReport_hostMem (port asn boundary) : (frontReport port asn boundary s).hostMem = s.hostMem := by simp [frontReport]
@[simp] theorem slotFollowCfg_hostMem (h p) : (slotFollowCfg h p s).st.hostMem = s.hostMem := by simp [slotFollowCfg]
@[simp] theorem beaconMiss_hostMem : (beaconMiss s).hostMem = s.hostMem := by simp [beaconMiss]
@[simp] theorem guardReached_hostMem : (guardReached s).hostMem = s.hostMem := by simp [guardReached]
@[simp] theorem guardNow_hostMem : (guardNow s).hostMem = s.hostMem := by simp [guardNow]
@[simp] theorem beaconHeard_hostMem (offset) : (beaconHeard offset s).hostMem = s.hostMem := by simp [beaconHeard]

@[simp] theorem endSlot_hostMem : (endSlot s).hostMem = s.hostMem := by
  unfold endSlot
  split <;> simp

@[simp] theorem nextSlot_hostMem : (nextSlot s).hostMem = s.hostMem := by simp [nextSlot]
@[simp] theorem frontStep_hostMem : (frontStep s).hostMem = s.hostMem := by simp [frontStep]
@[simp] theorem fallback_hostMem (p) : (fallback p s).hostMem = s.hostMem := by simp [fallback]

@[simp] theorem freezePlans_hostMem (late) : (freezePlans late s).hostMem = s.hostMem := by
  unfold freezePlans
  split <;> simp

@[simp] theorem takeEntries_hostMem : (takeEntries s).hostMem = s.hostMem := by
  unfold takeEntries
  refine hostMem_foldl (fun s n => ?_) _ s
  split <;> simp

@[simp] theorem activations_hostMem : (activations s).hostMem = s.hostMem := by
  unfold activations
  refine hostMem_foldl (fun s f => ?_) _ s
  split <;> simp

@[simp] theorem stopEffect_hostMem : (stopEffect s).hostMem = s.hostMem := by simp [stopEffect]
@[simp] theorem slotStopEffect_hostMem : (slotStopEffect s).hostMem = s.hostMem := by simp [slotStopEffect]
@[simp] theorem boundaryCore_hostMem (env) : (boundaryCore env s).hostMem = s.hostMem := by simp [boundaryCore]

end Sys2Proof.Proofs
end

section
/-!
PROOFS. Host memory is kept, one rule per function: links, the packet engine, the twin, the ports and PCIe.
-/
namespace Sys2Proof.Proofs
open Machine Safety Laws

variable (s : State)

/-! Link frames on their way out (R458-R468). -/

@[simp] theorem putOnWire_hostMem (p f) : (putOnWire p f s).hostMem = s.hostMem := by simp [putOnWire]
@[simp] theorem sealLink_hostMem (p f) : (sealLink p f s).hostMem = s.hostMem := by simp [sealLink]
@[simp] theorem transmit_hostMem (p f) : (transmit p f s).hostMem = s.hostMem := by simp [transmit]
@[simp] theorem flushLinks_hostMem : (flushLinks s).hostMem = s.hostMem := by simp [flushLinks]
@[simp] theorem remember_hostMem (src vl seq) : (remember src vl seq s).hostMem = s.hostMem := by simp [remember]
@[simp] theorem newFrame_hostMem (vl kind dst body msg) : (newFrame vl kind dst body msg s).1.hostMem = s.hostMem := by simp [newFrame]
@[simp] theorem toPeer_hostMem (p vl kind body msg) : (toPeer p vl kind body msg s).hostMem = s.hostMem := by simp [toPeer]
@[simp] theorem broadcast_hostMem (vl kind body msg) : (broadcast vl kind body msg s).hostMem = s.hostMem := by simp [broadcast]
@[simp] theorem noteRing_hostMem (member port up) : (noteRing member port up s).hostMem = s.hostMem := by simp [noteRing]
@[simp] theorem linkState_hostMem (p up) : (linkState p up s).hostMem = s.hostMem := by simp [linkState]
@[simp] theorem handOver_hostMem (kind panId addr o ts) : (handOver kind panId addr o ts s).hostMem = s.hostMem := by simp [handOver]
@[simp] theorem tellBoundary_hostMem : (tellBoundary s).hostMem = s.hostMem := by simp [tellBoundary]
@[simp] theorem toLinkRing_hostMem (p f body) : (toLinkRing p f body s).hostMem = s.hostMem := by simp [toLinkRing]

/-! The packet engine (R23-R29). -/

@[simp] theorem arrive_hostMem (profile x) : (arrive profile x s).hostMem = s.hostMem := by simp [arrive]
@[simp] theorem toFw_hostMem (x) : (toFw x s).hostMem = s.hostMem := by simp [toFw]

@[simp] theorem route_hostMem (x) : (route x s).hostMem = s.hostMem := by
  unfold route
  dsimp only
  (repeat' split) <;> simp

@[simp] theorem downlink_hostMem (f) : (downlink f s).1.hostMem = s.hostMem := by
  unfold downlink
  split
  · rfl
  · next h => simp [allocBuf_hostMem h]

@[simp] theorem tmEnqueue_hostMem : (tmEnqueue s).hostMem = s.hostMem := by
  unfold tmEnqueue
  split <;> simp

@[simp] theorem sourceLookup_hostMem (f) : (sourceLookup f s).1.hostMem = s.hostMem := by
  unfold sourceLookup
  dsimp only
  (repeat' split) <;> simp

@[simp] theorem noteStatus_hostMem (handle status n f) : (noteStatus handle status n f s).hostMem = s.hostMem := by simp [noteStatus]

@[simp] theorem superAck_hostMem (handle f) : (superAck handle f s).1.hostMem = s.hostMem := by
  unfold superAck
  split <;> simp

@[simp] theorem judged_hostMem (handle status n f) : (judged handle status n f s).1.hostMem = s.hostMem := by simp [judged]

@[simp] theorem heardFrom_hostMem (n r f) : (heardFrom n r f s).hostMem = s.hostMem := by
  unfold heardFrom
  (repeat' split) <;> simp

@[simp] theorem beaconFrom_hostMem (n r f) : (beaconFrom n r f s).hostMem = s.hostMem := by
  unfold beaconFrom
  (repeat' split) <;> simp

@[simp] theorem discard_hostMem (id) : (Machine.discard id s).hostMem = s.hostMem := by simp [Machine.discard]

@[simp] theorem checkFrame_hostMem (n f) : (checkFrame n f s).1.hostMem = s.hostMem := by
  unfold checkFrame
  dsimp only
  (repeat' split) <;> simp

@[simp] theorem knownSource_hostMem (id w n r f) : (knownSource id w n r f s).hostMem = s.hostMem := by simp [knownSource]

/-! The Dalhiuf links (R457-R486). -/

@[simp] theorem portUp_hostMem (p) : (portUp p s).hostMem = s.hostMem := by simp [portUp]
@[simp] theorem portDown_hostMem (p) : (portDown p s).hostMem = s.hostMem := by simp [portDown]
@[simp] theorem moveFollowers_hostMem (p q) : (moveFollowers p q s).hostMem = s.hostMem := by simp [moveFollowers]

@[simp] theorem upPortLost_hostMem (p) : (upPortLost p s).hostMem = s.hostMem := by
  unfold upPortLost
  (repeat' split) <;> simp

@[simp] theorem takeDown_hostMem (p) : (takeDown p s).hostMem = s.hostMem := by simp [takeDown]
@[simp] theorem lnkPortCfg_hostMem (h p) : (lnkPortCfg h p s).st.hostMem = s.hostMem := by simp [lnkPortCfg]
@[simp] theorem lnkTopology_hostMem (h p) : (lnkTopology h p s).st.hostMem = s.hostMem := by simp [lnkTopology]
@[simp] theorem lnkStatus_hostMem (h p) : (lnkStatus h p s).st.hostMem = s.hostMem := by simp [lnkStatus]

@[simp] theorem lnkSend_hostMem (h p) : (lnkSend h p s).st.hostMem = s.hostMem := by
  unfold lnkSend
  (repeat' split) <;> simp

@[simp] theorem dlBlockLock_hostMem (p) : (dlBlockLock p s).hostMem = s.hostMem := by simp [dlBlockLock]
@[simp] theorem dlHelloTx_hostMem (p) : (dlHelloTx p s).hostMem = s.hostMem := by simp [dlHelloTx]
@[simp] theorem dlHelloRx_hostMem (p setId member twin chip) : (dlHelloRx p setId member twin chip s).hostMem = s.hostMem := by
  simp [dlHelloRx]
@[simp] theorem dlTrainingUp_hostMem (p) : (dlTrainingUp p s).hostMem = s.hostMem := by simp [dlTrainingUp]
@[simp] theorem dlDownTimeout_hostMem (p) : (dlDownTimeout p s).hostMem = s.hostMem := by simp [dlDownTimeout]
@[simp] theorem dlOverflow_hostMem (p) : (dlOverflow p s).hostMem = s.hostMem := by simp [dlOverflow]
@[simp] theorem forward_hostMem (p qs f) : (forward p qs f s).hostMem = s.hostMem := by simp [forward]
@[simp] theorem deltaAcked_hostMem (seq) : (deltaAcked seq s).hostMem = s.hostMem := by simp [deltaAcked]
@[simp] theorem peerBeat_hostMem (claim) : (peerBeat claim s).hostMem = s.hostMem := by simp [peerBeat]
@[simp] theorem authFailed_hostMem (p f) : (authFailed p f s).hostMem = s.hostMem := by simp [authFailed]

/-! The hot twin (R469-R486). -/

@[simp] theorem twinCfg_hostMem (h p) : (twinCfg h p s).st.hostMem = s.hostMem := by simp [twinCfg]
@[simp] theorem twinClaim_hostMem (h p) : (twinClaim h p s).st.hostMem = s.hostMem := by simp [twinClaim]
@[simp] theorem twinSwitch_hostMem (h p) : (twinSwitch h p s).st.hostMem = s.hostMem := by simp [twinSwitch]
@[simp] theorem twinStatus_hostMem (h p) : (twinStatus h p s).st.hostMem = s.hostMem := by simp [twinStatus]
@[simp] theorem restore_hostMem (step budget v) : (restore step budget v s).hostMem = s.hostMem := by simp [restore]
@[simp] theorem twinSaveState_hostMem (h p) : (twinSaveState h p s).st.hostMem = s.hostMem := by simp [twinSaveState]

@[simp] theorem takeSnapshot_hostMem : (takeSnapshot s).hostMem = s.hostMem := by
  unfold takeSnapshot
  split <;> simp

@[simp] theorem twinSaveDone_hostMem (isRestore authOk) : (twinSaveDone isRestore authOk s).hostMem = s.hostMem := by
  unfold twinSaveDone
  (repeat' split) <;> simp

@[simp] theorem silence_hostMem (c) : (silence c s).hostMem = s.hostMem := by
  unfold silence
  split <;> simp

@[simp] theorem gatesOff_hostMem : (gatesOff s).hostMem = s.hostMem := by
  unfold gatesOff
  dsimp only
  (repeat' split) <;> simp

@[simp] theorem notLive_hostMem : (notLive s).hostMem = s.hostMem := by simp [notLive]
@[simp] theorem twinWatchdog_hostMem : (twinWatchdog s).hostMem = s.hostMem := by simp [twinWatchdog]
@[simp] theorem stepCounters_hostMem : (stepCounters s).hostMem = s.hostMem := by simp [stepCounters]

@[simp] theorem gateSwitch_hostMem : (gateSwitch s).hostMem = s.hostMem := by
  unfold gateSwitch
  (repeat' split) <;> simp

@[simp] theorem claimLost_hostMem : (claimLost s).hostMem = s.hostMem := by simp [claimLost]
@[simp] theorem claimWon_hostMem : (claimWon s).hostMem = s.hostMem := by simp [claimWon]
@[simp] theorem claimArbitration_hostMem (peer busOk) : (claimArbitration peer busOk s).hostMem = s.hostMem := by simp [claimArbitration]
@[simp] theorem heartbeatTx_hostMem : (heartbeatTx s).hostMem = s.hostMem := by simp [heartbeatTx]
@[simp] theorem heartbeatMissing_hostMem : (heartbeatMissing s).hostMem = s.hostMem := by simp [heartbeatMissing]
@[simp] theorem keyEntry_hostMem (d) : (keyEntry d s).1.hostMem = s.hostMem := by simp [keyEntry]
@[simp] theorem deltaOf_hostMem : (deltaOf s).1.hostMem = s.hostMem := by simp [deltaOf]
@[simp] theorem sendTwin_hostMem (kind l) : (sendTwin kind l s).hostMem = s.hostMem := by simp [sendTwin]

@[simp] theorem sendDelta_hostMem : (sendDelta s).hostMem = s.hostMem := by
  generalize ht : sendDelta s = t
  unfold sendDelta at ht
  dsimp only at ht
  subst ht
  rw [hostMem_ite, hostMem_ite, sendTwin_hostMem, withTwin_hostMem, ite_self, sendTwin_hostMem, twinCnt_hostMem, withTwin_hostMem,
    deltaOf_hostMem, ite_self]

@[simp] theorem deltaAckTimeout_hostMem : (deltaAckTimeout s).hostMem = s.hostMem := by simp [deltaAckTimeout]

@[simp] theorem applyKey_hostMem (d) : (applyKey d s).hostMem = s.hostMem := by
  unfold applyKey
  dsimp only
  (repeat' split) <;> simp

@[simp] theorem applyCounter_hostMem (x) : (applyCounter x s).hostMem = s.hostMem := by simp [applyCounter]
@[simp] theorem applyReplay_hostMem (r) : (applyReplay r s).hostMem = s.hostMem := by simp [applyReplay]

@[simp] theorem applyNode_hostMem (x) : (applyNode x s).hostMem = s.hostMem := by
  unfold applyNode
  split <;> simp

@[simp] theorem applyQueue_hostMem (x) : (applyQueue x s).hostMem = s.hostMem := by
  unfold applyQueue
  refine hostMem_foldl (fun s c => ?_) _ s
  split <;> simp

@[simp] theorem applyCamp_hostMem (x) : (applyCamp x s).hostMem = s.hostMem := by simp [applyCamp]
@[simp] theorem applySections_hostMem (d) : (applySections d s).hostMem = s.hostMem := by simp [applySections]
@[simp] theorem sendAckOf_hostMem (seq) : (sendAckOf seq s).hostMem = s.hostMem := by simp [sendAckOf]

/-! The Ethernet ports, and PCIe with its data rings (R494-R514). -/

@[simp] theorem sysEthCfg_hostMem (h p) : (sysEthCfg h p s).st.hostMem = s.hostMem := by simp [sysEthCfg]
@[simp] theorem installSa_hostMem (p) : (installSa p s).st.hostMem = s.hostMem := by simp [installSa]

@[simp] theorem activateAn_hostMem (p) : (activateAn p s).st.hostMem = s.hostMem := by
  unfold activateAn
  split <;> simp

@[simp] theorem removeSa_hostMem (p) : (removeSa p s).st.hostMem = s.hostMem := by
  unfold removeSa
  dsimp only
  (repeat' split) <;> simp

@[simp] theorem sysMacsecSa_hostMem (h p) : (sysMacsecSa h p s).st.hostMem = s.hostMem := by simp [sysMacsecSa]
@[simp] theorem rxDrop_hostMem (e) : (rxDrop e s).hostMem = s.hostMem := by simp [rxDrop]
@[simp] theorem icvFail_hostMem (e) : (icvFail e s).hostMem = s.hostMem := by simp [icvFail]
@[simp] theorem ethDeliver_hostMem (e f data) : (ethDeliver e f data s).hostMem = s.hostMem := by simp [ethDeliver]

@[simp] theorem macsecValidate_hostMem (e f) : (macsecValidate e f s).1.hostMem = s.hostMem := by
  unfold macsecValidate
  dsimp only
  (repeat' split) <;> simp

@[simp] theorem ethFrameRx_hostMem (e f) : (ethFrameRx e f s).hostMem = s.hostMem := by
  unfold ethFrameRx
  dsimp only
  (repeat' split) <;> simp

@[simp] theorem pauseExpiry_hostMem (e) : (pauseExpiry e s).hostMem = s.hostMem := by simp [pauseExpiry]
@[simp] theorem ethLink_hostMem (e up speed) : (ethLink e up speed s).hostMem = s.hostMem := by simp [ethLink]
@[simp] theorem ethSend_hostMem (e f) : (ethSend e f s).hostMem = s.hostMem := by simp [ethSend]
@[simp] theorem stopEth_hostMem (e) : (stopEth e s).hostMem = s.hostMem := by simp [stopEth]
@[simp] theorem drawPn_hostMem (e an a) : (drawPn e an a s).hostMem = s.hostMem := by simp [drawPn]

@[simp] theorem serveEth_hostMem (e) : (serveEth e s).hostMem = s.hostMem := by
  unfold serveEth
  dsimp only
  (repeat' split) <;> simp

@[simp] theorem serveDl_hostMem (p) : (serveDl p s).hostMem = s.hostMem := by
  unfold serveDl
  dsimp only
  (repeat' split) <;> simp

@[simp] theorem serveFw_hostMem : (serveFw s).hostMem = s.hostMem := by
  unfold serveFw
  dsimp only
  split <;> simp

@[simp] theorem portServe_hostMem (p) : (portServe p s).hostMem = s.hostMem := by simp [portServe]
@[simp] theorem withTh_hostMem (r f) : (withTh r f s).hostMem = s.hostMem := by simp [withTh]
@[simp] theorem withFh_hostMem (r f) : (withFh r f s).hostMem = s.hostMem := by simp [withFh]
@[simp] theorem badTail_hostMem (fh r) : (badTail fh r s).hostMem = s.hostMem := by simp [badTail]
@[simp] theorem thDoorbell_hostMem (r value) : (thDoorbell r value s).hostMem = s.hostMem := by simp [thDoorbell]
@[simp] theorem fhDoorbell_hostMem (r value) : (fhDoorbell r value s).hostMem = s.hostMem := by simp [fhDoorbell]
@[simp] theorem thNoBuffer_hostMem (r) : (thNoBuffer r s).hostMem = s.hostMem := by simp [thNoBuffer]

@[simp] theorem thNext_hostMem (r) : (thNext r s).1.hostMem = s.hostMem := by
  unfold thNext
  dsimp only
  (repeat' split) <;> simp

@[simp] theorem fhFrame_hostMem (e) : (fhFrame e s).1.hostMem = s.hostMem := by
  unfold fhFrame
  dsimp only
  split
  · rfl
  · split
    · rfl
    · split
      · rfl
      · next h => simp [allocBuf_hostMem h]

@[simp] theorem pcieLinkUp_hostMem (width speed) : (pcieLinkUp width speed s).hostMem = s.hostMem := by simp [pcieLinkUp]
@[simp] theorem aerError_hostMem (kind) : (aerError kind s).hostMem = s.hostMem := by simp [aerError]
@[simp] theorem pcieFlr_hostMem (func) : (pcieFlr func s).hostMem = s.hostMem := by simp [pcieFlr]

end Sys2Proof.Proofs
end

section
/-!
PROOFS. Host memory is kept, one rule per function: updates, tests, resets, registers, health and boot.
-/
namespace Sys2Proof.Proofs
open Machine Safety Laws

variable (s : State)

/-! What wears and is replaced (R525-R531). -/

@[simp] theorem hlthCnt_hostMem (i) : (hlthCnt i s).hostMem = s.hostMem := by simp [hlthCnt]

@[simp] theorem retireBank_hostMem (b c) : (retireBank b c s).hostMem = s.hostMem := by
  unfold retireBank
  dsimp only
  split <;> simp

@[simp] theorem burnStep_hostMem (c n) : (burnStep c n s).hostMem = s.hostMem := by
  induction n generalizing s with
  | zero => rfl
  | succ n ih =>
    rw [burnStep]
    split <;> simp [ih]

@[simp] theorem burnTo_hostMem (v) : (burnTo v s).hostMem = s.hostMem := by simp [burnTo]
@[simp] theorem remapBlock_hostMem (b) : (remapBlock b s).1.hostMem = s.hostMem := by simp [remapBlock]

/-! Image updates (R427-R456). -/

@[simp] theorem countDrop_hostMem (st) : (countDrop st s).hostMem = s.hostMem := by simp [countDrop]
@[simp] theorem journal_hostMem (slot kind arg) : (journal slot kind arg s).hostMem = s.hostMem := by simp [journal]
@[simp] theorem flushHeld_hostMem : (flushHeld s).hostMem = s.hostMem := by simp [flushHeld]
@[simp] theorem spoil_hostMem (first count) : (spoil first count s).hostMem = s.hostMem := by simp [spoil]
@[simp] theorem fwReplay_hostMem (readable) : (fwReplay readable s).hostMem = s.hostMem := by simp [fwReplay]
@[simp] theorem openFw_hostMem (p) : (openFw p s).st.hostMem = s.hostMem := by simp [openFw]
@[simp] theorem campCheck_hostMem (c) : (campCheck c s).hostMem = s.hostMem := by simp [campCheck]

@[simp] theorem fromLibrary_hostMem (c m) : (fromLibrary c m s).hostMem = s.hostMem := by
  unfold fromLibrary
  split <;> simp

@[simp] theorem openCamp_hostMem (c p) : (openCamp c p s).st.hostMem = s.hostMem := by simp [openCamp]
@[simp] theorem updOpen_hostMem (h p) : (updOpen h p s).st.hostMem = s.hostMem := by simp [updOpen]
@[simp] theorem fwDrop_hostMem (d) : (fwDrop d s).1.hostMem = s.hostMem := by simp [fwDrop]
@[simp] theorem campDrop_hostMem (c d) : (campDrop c d s).1.hostMem = s.hostMem := by simp [campDrop]
@[simp] theorem recoveryDrop_hostMem (d) : (recoveryDrop d s).1.hostMem = s.hostMem := by simp [recoveryDrop]

theorem takeDrops_hostMem {f : DropRec → State → State × Nat} (hf : ∀ d s, (f d s).1.hostMem = s.hostMem) (n : Nat) (l : List DropRec)
    (r : State × Nat × Nat) : (takeDrops f n l r).1.hostMem = r.1.hostMem := by
  induction l generalizing n r with
  | nil => rfl
  | cons d l ih => exact (ih ..).trans (hf d r.1)

@[simp] theorem blockFw_hostMem (h p) : (blockFw h p s).st.hostMem = s.hostMem := by
  unfold blockFw
  simp [takeDrops_hostMem]

@[simp] theorem updBlock_hostMem (h p) : (updBlock h p s).st.hostMem = s.hostMem := by
  unfold updBlock
  simp [takeDrops_hostMem]

@[simp] theorem dropIntake_hostMem : (dropIntake s).hostMem = s.hostMem := by
  unfold dropIntake
  dsimp only
  (repeat' split) <;> simp

@[simp] theorem settleBlocks_hostMem (bad) : (settleBlocks bad s).hostMem = s.hostMem := by simp [settleBlocks]
@[simp] theorem startVerify_hostMem (job) : (startVerify job s).hostMem = s.hostMem := by simp [startVerify]
@[simp] theorem dropHeld_hostMem (i data) : (dropHeld i data s).hostMem = s.hostMem := by simp [dropHeld]
@[simp] theorem dropSpoilt_hostMem (i) : (dropSpoilt i s).hostMem = s.hostMem := by simp [dropSpoilt]

@[simp] theorem dropDurable_hostMem (i readBackOk rewriteOk) : (dropDurable i readBackOk rewriteOk s).hostMem = s.hostMem := by
  unfold dropDurable
  split <;> simp

@[simp] theorem updVerify_hostMem (h p) : (updVerify h p s).st.hostMem = s.hostMem := by simp [updVerify]

@[simp] theorem fwVerifyDone_hostMem (failed imageOk) : (fwVerifyDone failed imageOk s).hostMem = s.hostMem := by
  unfold fwVerifyDone
  dsimp only
  (repeat' split) <;> simp

@[simp] theorem writeBoot_hostMem (f) : (writeBoot f s).hostMem = s.hostMem := by simp [writeBoot]
@[simp] theorem trialSlot_hostMem (p) : (trialSlot p s).st.hostMem = s.hostMem := by simp [trialSlot]
@[simp] theorem commitSlot_hostMem : (commitSlot s).hostMem = s.hostMem := by simp [commitSlot]
@[simp] theorem startRecovery_hostMem (h) : (startRecovery h s).st.hostMem = s.hostMem := by simp [startRecovery]
@[simp] theorem updActivate_hostMem (h p) : (updActivate h p s).st.hostMem = s.hostMem := by simp [updActivate]
@[simp] theorem autoCommit_hostMem : (autoCommit s).hostMem = s.hostMem := by simp [autoCommit]

/-! Node image campaigns (R444-R452). -/

@[simp] theorem withdraw_hostMem (q p) : (withdraw q p s).hostMem = s.hostMem := by simp [withdraw]

theorem putDrop_hostMem {q : Nat} {d : DropRec} {addr port : Nat} {x : QFrame} {s t : State} (h : putDrop q d addr port x s = some t) :
    t.hostMem = s.hostMem := by
  unfold putDrop at h
  dsimp only at h
  split at h
  · cases h
  · next ha =>
    split at h
    · cases h
    · cases h
      simp [allocBuf_hostMem ha]

@[simp] theorem fillWindow_hostMem (c n) : (fillWindow c n s).hostMem = s.hostMem := by
  induction n generalizing s with
  | zero => rfl
  | succ n ih =>
    rw [fillWindow]
    dsimp only
    split
    · rfl
    · split
      · simp
      · split
        · rfl
        · next h => simp [ih, putDrop_hostMem h]

@[simp] theorem takeBackRound_hostMem (c) : (takeBackRound c s).hostMem = s.hostMem := by simp [takeBackRound]
@[simp] theorem endRound_hostMem (c) : (endRound c s).hostMem = s.hostMem := by simp [endRound]
@[simp] theorem memberFail_hostMem (c) : (memberFail c s).hostMem = s.hostMem := by simp [memberFail]
@[simp] theorem putMember_hostMem (c i m) : (putMember c i m s).hostMem = s.hostMem := by simp [putMember]
@[simp] theorem endVisit_hostMem (c i) : (endVisit c i s).hostMem = s.hostMem := by simp [endVisit]
@[simp] theorem passDone_hostMem (c i) : (passDone c i s).hostMem = s.hostMem := by simp [passDone]

@[simp] theorem repairRoute_hostMem (addr port) : (repairRoute addr port s).1.hostMem = s.hostMem := by
  unfold repairRoute
  dsimp only
  (repeat' split) <;> simp

@[simp] theorem fillVisit_hostMem (c i n) : (fillVisit c i n s).hostMem = s.hostMem := by
  induction n generalizing s with
  | zero => rfl
  | succ n ih =>
    rw [fillVisit]
    dsimp only
    split
    · rfl
    · split
      · rfl
      · split
        · simp
        · split
          · simp
          · next h => simp [ih, putDrop_hostMem h]

@[simp] theorem openVisits_hostMem (c) : (openVisits c s).hostMem = s.hostMem := by simp [openVisits]
@[simp] theorem serveCamp_hostMem (c) : (serveCamp c s).hostMem = s.hostMem := by simp [serveCamp]
@[simp] theorem serveCamps_hostMem : (serveCamps s).hostMem = s.hostMem := by simp [serveCamps]
@[simp] theorem pauseCamp_hostMem (c) : (pauseCamp c s).hostMem = s.hostMem := by simp [pauseCamp]
@[simp] theorem cancelCamp_hostMem (c) : (cancelCamp c s).hostMem = s.hostMem := by simp [cancelCamp]
@[simp] theorem startRepair_hostMem (c) : (startRepair c s).hostMem = s.hostMem := by simp [startRepair]
@[simp] theorem addMembers_hostMem (c l) : (addMembers c l s).st.hostMem = s.hostMem := by simp [addMembers]
@[simp] theorem removeMembers_hostMem (c l) : (removeMembers c l s).st.hostMem = s.hostMem := by simp [removeMembers]
@[simp] theorem updCampaignCfg_hostMem (h p) : (updCampaignCfg h p s).st.hostMem = s.hostMem := by simp [updCampaignCfg]
@[simp] theorem report_hostMem (c i r) : (report c i r s).hostMem = s.hostMem := by simp [report]

@[simp] theorem nodeReport_hostMem (addr r) : (nodeReport addr r s).hostMem = s.hostMem := by
  unfold nodeReport
  split <;> simp

@[simp] theorem windowStart_hostMem (c) : (windowStart c s).hostMem = s.hostMem := by simp [windowStart]
@[simp] theorem windowEnd_hostMem (c) : (windowEnd c s).hostMem = s.hostMem := by simp [windowEnd]
@[simp] theorem reportWait_hostMem (c) : (reportWait c s).hostMem = s.hostMem := by simp [reportWait]
@[simp] theorem visitTimeout_hostMem (c i) : (visitTimeout c i s).hostMem = s.hostMem := by simp [visitTimeout]
@[simp] theorem doneWait_hostMem (c) : (doneWait c s).hostMem = s.hostMem := by simp [doneWait]

/-! Tests, the TAP, and the slot boundary as a whole (R242, R543-R558). -/

@[simp] theorem placeTests_hostMem (r carrier air gap bytes n t pl) :
    (placeTests r carrier air gap bytes n t pl s).hostMem = s.hostMem := by
  induction n generalizing t pl s with
  | zero => rfl
  | succ n ih =>
    rw [placeTests]
    dsimp only
    split <;> simp [ih]

@[simp] theorem beginTest_hostMem : (beginTest s).hostMem = s.hostMem := by
  unfold beginTest
  split
  · rfl
  · next r _ =>
    extract_lets c held cleared
    have hc : cleared.hostMem = s.hostMem := by
      refine (hostMem_foldl (fun s p => ?_) _ held).trans (by simp [held])
      split <;> simp
    split <;> simp [hc]

@[simp] theorem testBoundary_hostMem : (testBoundary s).hostMem = s.hostMem := by
  unfold testBoundary
  split <;> simp

@[simp] theorem startTest_hostMem (r) : (startTest r s).st.hostMem = s.hostMem := by simp [startTest]
@[simp] theorem holdPort_hostMem (target) : (holdPort target s).hostMem = s.hostMem := by simp [holdPort]

@[simp] theorem startChain_hostMem (r) : (startChain r s).st.hostMem = s.hostMem := by
  unfold startChain
  split <;> simp

@[simp] theorem testLoopback_hostMem (h p) : (testLoopback h p s).st.hostMem = s.hostMem := by
  unfold testLoopback
  (repeat' split) <;> simp

@[simp] theorem testPattern_hostMem (h p) : (testPattern h p s).st.hostMem = s.hostMem := by simp [testPattern]
@[simp] theorem testBist_hostMem (h p) : (testBist h p s).st.hostMem = s.hostMem := by simp [testBist]
@[simp] theorem testStatus_hostMem (h p) : (testStatus h p s).st.hostMem = s.hostMem := by simp [testStatus]
@[simp] theorem bistOutcome_hostMem (r fail) : (bistOutcome r fail s).hostMem = s.hostMem := by simp [bistOutcome]

@[simp] theorem testComplete_hostMem (sent received errors fail engines) :
    (testComplete sent received errors fail engines s).hostMem = s.hostMem := by
  unfold testComplete
  split <;> simp

@[simp] theorem queueFlush_hostMem (queue tag lastWasEnd words items) :
    (queueFlush queue tag lastWasEnd words items s).hostMem = s.hostMem := by
  simp [queueFlush]
@[simp] theorem slotBoundary_hostMem (env) : (slotBoundary env s).hostMem = s.hostMem := by simp [slotBoundary]

/-! Resets, tamper, supplies and references (R41-R77, R387-R391). -/

@[simp] theorem commitRepairs_hostMem : (commitRepairs s).hostMem = s.hostMem := by simp [commitRepairs]
@[simp] theorem clearFull_hostMem (k cause) : (clearFull k cause s).hostMem = s.hostMem := by simp [clearFull]
@[simp] theorem clearWarm_hostMem : (clearWarm s).hostMem = s.hostMem := by simp [clearWarm]

@[simp] theorem takeReset_hostMem (k cause) : (takeReset k cause s).hostMem = s.hostMem := by
  unfold takeReset
  split <;> simp

@[simp] theorem resetCtrl_hostMem (full key) : (resetCtrl full key s).hostMem = s.hostMem := by
  unfold resetCtrl
  (repeat' split) <;> simp

@[simp] theorem powerOn_hostMem (coreLow) : (powerOn coreLow s).hostMem = s.hostMem := by simp [powerOn]
@[simp] theorem pinReset_hostMem (lowNs) : (pinReset lowNs s).hostMem = s.hostMem := by simp [pinReset]
@[simp] theorem markTrial_hostMem : (markTrial s).hostMem = s.hostMem := by simp [markTrial]
@[simp] theorem bootExpiry_hostMem : (bootExpiry s).hostMem = s.hostMem := by simp [bootExpiry]
@[simp] theorem perstRise_hostMem : (perstRise s).hostMem = s.hostMem := by simp [perstRise]
@[simp] theorem sysReset_hostMem (h p) : (sysReset h p s).st.hostMem = s.hostMem := by simp [sysReset]
@[simp] theorem frost_hostMem : (frost s).hostMem = s.hostMem := by simp [frost]
@[simp] theorem silenceAll_hostMem : (silenceAll s).hostMem = s.hostMem := by simp [silenceAll]
@[simp] theorem stopAll_hostMem : (stopAll s).hostMem = s.hostMem := by simp [stopAll]
@[simp] theorem enterHold_hostMem : (enterHold s).hostMem = s.hostMem := by simp [enterHold]

@[simp] theorem tamper_hostMem (b) : (tamper b s).hostMem = s.hostMem := by
  unfold tamper
  dsimp only
  split <;> simp

@[simp] theorem tamperAlarm_hostMem (sensor) : (tamperAlarm sensor s).hostMem = s.hostMem := by simp [tamperAlarm]
@[simp] theorem loopSample_hostMem (i mismatch) : (loopSample i mismatch s).hostMem = s.hostMem := by simp [loopSample]
@[simp] theorem vbatLoss_hostMem : (vbatLoss s).hostMem = s.hostMem := by simp [vbatLoss]
@[simp] theorem excursion_hostMem (rail lowPm highPm stillLow throughHigh durPs) :
    (excursion rail lowPm highPm stillLow throughHigh durPs s).hostMem = s.hostMem := by
  simp [excursion]
@[simp] theorem powerOff_hostMem : (powerOff s).hostMem = s.hostMem := by simp [powerOff]
@[simp] theorem powerBack_hostMem : (powerBack s).hostMem = s.hostMem := by simp [powerBack]
@[simp] theorem avsSet_hostMem (targetMv attempts) : (avsSet targetMv attempts s).hostMem = s.hostMem := by simp [avsSet]
@[simp] theorem avsEvaluate_hostMem (targetMv attempts) : (avsEvaluate targetMv attempts s).hostMem = s.hostMem := by simp [avsEvaluate]

@[simp] theorem dropTxs_hostMem (c n) : (dropTxs c n s).hostMem = s.hostMem := by
  induction n generalizing s with
  | zero => rfl
  | succ n ih =>
    rw [dropTxs]
    split <;> simp [ih]

@[simp] theorem dropRaws_hostMem (c) : (dropRaws c s).hostMem = s.hostMem := by simp [dropRaws]
@[simp] theorem rfLost_hostMem : (rfLost s).hostMem = s.hostMem := by simp [rfLost]
@[simp] theorem ethRefLost_hostMem : (ethRefLost s).hostMem = s.hostMem := by simp [ethRefLost]
@[simp] theorem refLoss_hostMem (r) : (refLoss r s).hostMem = s.hostMem := by simp [refLoss]
@[simp] theorem refReturn_hostMem (r) : (refReturn r s).hostMem = s.hostMem := by simp [refReturn]

/-! The register map (R7). -/

/-- Clearing a counter that reads as it is cleared keeps host memory (R118). -/
theorem rcRegs_hostMem (b) {x : Nat × Nat × (State → State)} (h : x ∈ rcRegs b s) (t : State) : (x.2.2 t).hostMem = t.hostMem := by
  unfold rcRegs at h
  split at h <;> simp only [rcRow, chainCounters, chkCounters, List.mem_append, List.mem_flatMap, List.mem_map, List.mem_cons,
    List.not_mem_nil, or_false] at h <;> aesop

@[simp] theorem rcRead_hostMem (a) : (rcRead a s).hostMem = s.hostMem := by
  unfold rcRead
  dsimp only
  split
  · next h => simp [rcRegs_hostMem _ _ (List.mem_of_find?_eq_some h)]
  · rfl

@[simp] theorem asnRead_hostMem : (asnRead s).hostMem = s.hostMem := by simp [asnRead]
@[simp] theorem recordRead_hostMem : (recordRead s).hostMem = s.hostMem := by simp [recordRead]

@[simp] theorem writeQp_hostMem (func q off v) : (writeQp func q off v s).hostMem = s.hostMem := by
  unfold writeQp
  dsimp only
  split <;> simp

@[simp] theorem writeSrcCfg_hostMem (n v) : (writeSrcCfg n v s).hostMem = s.hostMem := by simp [writeSrcCfg]
@[simp] theorem writeMsix_hostMem (v0 off a v) : (writeMsix v0 off a v s).hostMem = s.hostMem := by simp [writeMsix]

theorem ite_keeps_hostMem {p : Prop} [Decidable p] {s t u : State} (ht : t.hostMem = s.hostMem) (hu : u.hostMem = s.hostMem) :
    (if p then t else u).hostMem = s.hostMem := by
  split
  · exact ht
  · exact hu

@[simp] theorem writeReg_hostMem (func a v) : (writeReg func a v s).hostMem = s.hostMem := by
  unfold writeReg
  iterate 16 refine ite_keeps_hostMem (by simp) ?_
  refine ite_keeps_hostMem ?_ rfl
  dsimp only
  split <;> simp

@[simp] theorem registerWrite_hostMem (func a v) : (registerWrite func a v s).hostMem = s.hostMem := by simp [registerWrite]

/-! Dumps, the firewall, spares and memory errors (R515-R542). -/

@[simp] theorem writeDump_hostMem (rom cause core) : (writeDump rom cause core s).hostMem = s.hostMem := by simp [writeDump]

@[simp] theorem fatal_hostMem (cause core) : (fatal cause core s).hostMem = s.hostMem := by
  unfold fatal
  split <;> simp

@[simp] theorem fatalError_hostMem (cause core) : (fatalError cause core s).hostMem = s.hostMem := by simp [fatalError]
@[simp] theorem temperature_hostMem (degC) : (temperature degC s).hostMem = s.hostMem := by simp [temperature]

@[simp] theorem freezeEffect_hostMem (m) : (freezeEffect m s).hostMem = s.hostMem := by
  unfold freezeEffect
  split
  · simp
  · split
    · simp
    · split
      · rfl
      · split
        · refine hostMem_foldl (fun s p => ?_) _ s
          split <;> simp
        · simp

@[simp] theorem pushRecord_hostMem (r) : (pushRecord r s).hostMem = s.hostMem := by simp [pushRecord]
@[simp] theorem violation_hostMem (m a isWrite) : (violation m a isWrite s).hostMem = s.hostMem := by simp [violation]
@[simp] theorem ownerReset_hostMem (m) : (ownerReset m s).hostMem = s.hostMem := by simp [ownerReset]
@[simp] theorem diagUnfreeze_hostMem (h p) : (diagUnfreeze h p s).st.hostMem = s.hostMem := by simp [diagUnfreeze]
@[simp] theorem diagFwRegion_hostMem (h p) : (diagFwRegion h p s).st.hostMem = s.hostMem := by simp [diagFwRegion]
@[simp] theorem pageCandidate_hostMem (page) : (pageCandidate page s).hostMem = s.hostMem := by simp [pageCandidate]
@[simp] theorem dramCe_hostMem (a) : (dramCe a s).hostMem = s.hostMem := by simp [dramCe]
@[simp] theorem damageBudget_hostMem (u) : (damageBudget u s).hostMem = s.hostMem := by simp [damageBudget]
@[simp] theorem damageImage_hostMem (c) : (damageImage c s).hostMem = s.hostMem := by simp [damageImage]

@[simp] theorem damageBitmap_hostMem (i o) : (damageBitmap i o s).hostMem = s.hostMem := by
  unfold damageBitmap
  refine hostMem_foldl (fun s e => ?_) _ s
  split <;> simp

@[simp] theorem regionDamage_hostMem (a) : (regionDamage a s).hostMem = s.hostMem := by simp [regionDamage]
@[simp] theorem dramUe_hostMem (a) : (dramUe a s).hostMem = s.hostMem := by simp [dramUe]
@[simp] theorem caAlert_hostMem (a again) : (caAlert a again s).hostMem = s.hostMem := by simp [caAlert]
@[simp] theorem patrolScrub_hostMem (wrapped) : (patrolScrub wrapped s).hostMem = s.hostMem := by simp [patrolScrub]
@[simp] theorem ddrTemp_hostMem (degC) : (ddrTemp degC s).hostMem = s.hostMem := by simp [ddrTemp]
@[simp] theorem retireDone_hostMem (page) : (retireDone page s).hostMem = s.hostMem := by simp [retireDone]
@[simp] theorem flashFail_hostMem (block) : (flashFail block s).hostMem = s.hostMem := by simp [flashFail]
@[simp] theorem rowError_hostMem (mem row) : (rowError mem row s).hostMem = s.hostMem := by simp [rowError]

@[simp] theorem loseQueued_hostMem (q f) : (loseQueued q f s).hostMem = s.hostMem := by
  unfold loseQueued
  (repeat' split) <;> simp

@[simp] theorem loseRow_hostMem (row) : (loseRow row s).hostMem = s.hostMem := by
  unfold loseRow
  refine (hostMem_foldl (fun s p => ?_) _ _).trans (by simp)
  split <;> simp

@[simp] theorem sramError_hostMem (mem uncorrectable dirty row) : (sramError mem uncorrectable dirty row s).hostMem = s.hostMem := by
  simp [sramError]

@[simp] theorem drainCore_hostMem (c) : (drainCore c s).hostMem = s.hostMem := by
  unfold drainCore
  dsimp only
  (repeat' split) <;> simp

@[simp] theorem coreFail_hostMem (c) : (coreFail c s).hostMem = s.hostMem := by simp [coreFail]
@[simp] theorem coreWatchdog_hostMem (c) : (coreWatchdog c s).hostMem = s.hostMem := by simp [coreWatchdog]
@[simp] theorem hlthStatus_hostMem (h p) : (hlthStatus h p s).st.hostMem = s.hostMem := by simp [hlthStatus]
@[simp] theorem retired_hostMem (spare) : (retired spare s).st.hostMem = s.hostMem := by simp [retired]

@[simp] theorem hlthRetire_hostMem (h p) : (hlthRetire h p s).st.hostMem = s.hostMem := by
  unfold hlthRetire
  split <;> simp

/-! The boot ROM, INIT and LULL (R64-R97). -/

@[simp] theorem setResult_hostMem (f r) : (setResult f r s).hostMem = s.hostMem := by simp [setResult]
@[simp] theorem enterInit_hostMem (p f) : (enterInit p f s).hostMem = s.hostMem := by simp [enterInit]
@[simp] theorem waitImage_hostMem : (waitImage s).hostMem = s.hostMem := by simp [waitImage]

@[simp] theorem trySlots_hostMem (p l) : (trySlots p l s).hostMem = s.hostMem := by
  induction l generalizing s with
  | nil => simp [trySlots]
  | cons f l ih => simp [trySlots, ih]

@[simp] theorem markFailed_hostMem (f) : (Machine.markFailed f s).hostMem = s.hostMem := by simp [Machine.markFailed]

@[simp] theorem verifySlots_hostMem (p) : (verifySlots p s).hostMem = s.hostMem := by
  unfold verifySlots
  extract_lets failed entered marked first
  have hm : marked.hostMem = s.hostMem := by
    simp only [marked, failed]
    cases s.sys.slotFailed <;> simp [entered]
  (repeat' split) <;> simp [hm]

@[simp] theorem rootUp_hostMem (root errors attempts) : (rootUp root errors attempts s).hostMem = s.hostMem := by simp [rootUp]

@[simp] theorem regenerate_hostMem (p a) : (regenerate p a s).hostMem = s.hostMem := by
  unfold regenerate
  dsimp only
  (repeat' split) <;> simp

@[simp] theorem freshSalt_hostMem : (freshSalt s).hostMem = s.hostMem := by simp [freshSalt]
@[simp] theorem reEnrol_hostMem (p a) : (reEnrol p a s).hostMem = s.hostMem := by simp [reEnrol]

@[simp] theorem pufStep_hostMem (p) : (pufStep p s).hostMem = s.hostMem := by
  unfold pufStep
  dsimp only
  (repeat' split) <;> simp

@[simp] theorem romBoot_hostMem (p) : (romBoot p s).hostMem = s.hostMem := by
  unfold romBoot
  dsimp only
  (repeat' split) <;> simp

@[simp] theorem resetEnd_hostMem (p) : (resetEnd p s).hostMem = s.hostMem := by simp [resetEnd]
@[simp] theorem initSalt_hostMem : (initSalt s).hostMem = s.hostMem := by simp [initSalt]
@[simp] theorem partKeys_hostMem : (partKeys s).hostMem = s.hostMem := by simp [partKeys]
@[simp] theorem initRegions_hostMem : (initRegions s).hostMem = s.hostMem := by simp [initRegions]
@[simp] theorem initFirewall_hostMem : (initFirewall s).hostMem = s.hostMem := by simp [initFirewall]

@[simp] theorem initLanes_hostMem : (initLanes s).hostMem = s.hostMem := by
  unfold initLanes
  refine (hostMem_foldl (fun s p => ?_) _ _).trans (by simp)
  split <;> simp

@[simp] theorem initLaneFail_hostMem (p) : (initLaneFail p s).hostMem = s.hostMem := by simp [initLaneFail]
@[simp] theorem initChain_hostMem (p c) : (initChain p s c).hostMem = s.hostMem := by simp [initChain]
@[simp] theorem initCals_hostMem (p) : (initCals p s).hostMem = s.hostMem := by simp [initCals]

@[simp] theorem pufWear_hostMem : (pufWear s).hostMem = s.hostMem := by
  unfold pufWear
  dsimp only
  (repeat' split) <;> simp

@[simp] theorem startAgents_hostMem (p warm) : (startAgents p warm s).hostMem = s.hostMem := by simp [startAgents]
@[simp] theorem slotFault_hostMem : (slotFault s).hostMem = s.hostMem := by simp [slotFault]
@[simp] theorem initRest_hostMem (p warm) : (initRest p warm s).hostMem = s.hostMem := by simp [initRest]
@[simp] theorem initDone_hostMem (p) : (initDone p s).hostMem = s.hostMem := by simp [initDone]
@[simp] theorem loseAllFrames_hostMem : (loseAllFrames s).hostMem = s.hostMem := by simp [loseAllFrames]
@[simp] theorem linksDown_hostMem : (linksDown s).hostMem = s.hostMem := by simp [linksDown]
@[simp] theorem wakeUp_hostMem (source) : (wakeUp source s).hostMem = s.hostMem := by simp [wakeUp]
@[simp] theorem lullWake_hostMem (source gpio) : (lullWake source gpio s).hostMem = s.hostMem := by simp [lullWake]
@[simp] theorem lostDram_hostMem : (lostDram s).hostMem = s.hostMem := by simp [lostDram]

@[simp] theorem releaseExit_hostMem (savedOk) : (releaseExit savedOk s).hostMem = s.hostMem := by
  unfold releaseExit
  dsimp only
  split <;> simp

@[simp] theorem lullLeave_hostMem (cycles segmentsOk savedOk) : (lullLeave cycles segmentsOk savedOk s).hostMem = s.hostMem := by
  unfold lullLeave
  extract_lets timed counted restored chains trained
  have hc : counted.hostMem = s.hostMem := (withSys_hostMem _ timed).trans (withTime_hostMem _ s)
  have hr : restored.hostMem = counted.hostMem := by
    simp only [restored]
    split
    · exact releaseExit_hostMem ..
    · exact withDdr_hostMem ..
  have hk : chains.hostMem = restored.hostMem := hostMem_foldl (fun s c => withChain_hostMem ..) _ restored
  have ht : trained.hostMem = s.hostMem := (withPcie_hostMem _ chains).trans (hk.trans (hr.trans hc))
  split
  · split
    · exact (slotFault_hostMem ..).trans hc
    · exact (takeReset_hostMem ..).trans hc
  · exact (raiseW_hostMem ..).trans ((withSys_hostMem ..).trans ht)

@[simp] theorem pwrGood_hostMem (cycles segmentsOk savedOk) : (pwrGood cycles segmentsOk savedOk s).hostMem = s.hostMem := by simp [pwrGood]
@[simp] theorem clearTamper_hostMem : (clearTamper s).hostMem = s.hostMem := by simp [clearTamper]
@[simp] theorem sysState_hostMem (h p) : (sysState h p s).st.hostMem = s.hostMem := by simp [sysState]
@[simp] theorem sysEventMap_hostMem (h p) : (sysEventMap h p s).st.hostMem = s.hostMem := by simp [sysEventMap]
@[simp] theorem sysTimed_hostMem (h p) : (sysTimed h p s).st.hostMem = s.hostMem := by simp [sysTimed]
@[simp] theorem sysMgmtCfg_hostMem (h p) : (sysMgmtCfg h p s).st.hostMem = s.hostMem := by simp [sysMgmtCfg]

/-! What runs any command (R103, R112-R125). -/

@[simp] theorem undelay_hostMem (d) : (undelay d s).hostMem = s.hostMem := by simp [undelay]

@[simp] theorem noteRelease_hostMem (f) : (noteRelease f s).hostMem = s.hostMem := by
  unfold noteRelease
  split <;> simp

@[simp] theorem resetAfter_hostMem (f) : (resetAfter f s).hostMem = s.hostMem := by
  unfold resetAfter
  split <;> simp

@[simp] theorem snapAt_hostMem (n) : (snapAt n s).hostMem = s.hostMem := by simp [snapAt]
@[simp] theorem cmpActions_hostMem (n c) : (cmpActions n c s).hostMem = s.hostMem := by simp [cmpActions]

end Sys2Proof.Proofs
end

section
/-!
PROOFS. The functions that write host memory keep its canonical form, and so does every step (R111, R112, R214).
-/
namespace Sys2Proof.Proofs
open Machine Safety Laws
variable (s : State)

@[simp] theorem memWf_ite (p : Prop) [Decidable p] (l m : List Host.Cell) : memWf (if p then l else m) = if p then memWf l else memWf m :=
  apply_ite ..

@[simp] theorem toHost_memWf (a bs) (h : memWf s.hostMem = true) : memWf (toHost a bs s).hostMem = true := toHost_memOk h
@[simp] theorem hostWrite_memWf (a bs) (h : memWf s.hostMem = true) : memWf (hostWrite a bs s).hostMem = true := hostWrite_memOk h

/-! The command path (R30, R98-R137). -/

@[simp] theorem postReply_memWf (f) (h : memWf s.hostMem = true) : memWf (postReply f s).hostMem = true := by simp [postReply, h]
@[simp] theorem sendReply_memWf (f) (h : memWf s.hostMem = true) : memWf (sendReply f s).hostMem = true := by simp [sendReply, h]
@[simp] theorem releaseFlight_memWf (f) (h : memWf s.hostMem = true) : memWf (releaseFlight f s).hostMem = true := by
  simp [releaseFlight, h]

/-! The security island (R363-R396). -/

@[simp] theorem storeKey_memWf (store outAddr m) (h : memWf s.hostMem = true) : memWf (storeKey store outAddr m s).1.hostMem = true := by
  simp [storeKey, h]
@[simp] theorem importKey_memWf (h k replace store outAddr) (hs : memWf s.hostMem = true) :
    memWf (importKey h k replace store outAddr s).st.hostMem = true := by
  simp [importKey, hs]
@[simp] theorem keyImport_memWf (h p) (hs : memWf s.hostMem = true) : memWf (keyImport h p s).st.hostMem = true := by simp [keyImport, hs]
@[simp] theorem keyDerive_memWf (h p) (hs : memWf s.hostMem = true) : memWf (keyDerive h p s).st.hostMem = true := by simp [keyDerive, hs]
@[simp] theorem keyStage_memWf (h p) (hs : memWf s.hostMem = true) : memWf (keyStage h p s).st.hostMem = true := by simp [keyStage, hs]
@[simp] theorem keyInfo_memWf (h p) (hs : memWf s.hostMem = true) : memWf (keyInfo h p s).st.hostMem = true := by simp [keyInfo, hs]
@[simp] theorem keyAttest_memWf (h p) (hs : memWf s.hostMem = true) : memWf (keyAttest h p s).st.hostMem = true := by simp [keyAttest, hs]

/-! The cipher engines and the check-value units (R397-R426). -/

@[simp] theorem cryCcm_memWf (p) (h : memWf s.hostMem = true) : memWf (cryCcm p s).st.hostMem = true := by
  unfold cryCcm
  dsimp only
  (repeat' split) <;> simp [h]

@[simp] theorem cryGcm_memWf (p) (h : memWf s.hostMem = true) : memWf (cryGcm p s).st.hostMem = true := by
  unfold cryGcm
  dsimp only
  (repeat' split) <;> simp [h]

@[simp] theorem cryXts_memWf (p) (h : memWf s.hostMem = true) : memWf (cryXts p s).st.hostMem = true := by simp [cryXts, h]
@[simp] theorem cryOp_memWf (h p) (hs : memWf s.hostMem = true) : memWf (cryOp h p s).st.hostMem = true := by simp [cryOp, hs]
@[simp] theorem crySign_memWf (h p) (hs : memWf s.hostMem = true) : memWf (crySign h p s).st.hostMem = true := by simp [crySign, hs]

@[simp] theorem cryHash_memWf (h p) (hs : memWf s.hostMem = true) : memWf (cryHash h p s).st.hostMem = true := by
  unfold cryHash
  dsimp only
  (repeat' split) <;> simp [hs]

@[simp] theorem cryStatus_memWf (h p) (hs : memWf s.hostMem = true) : memWf (cryStatus h p s).st.hostMem = true := by simp [cryStatus, hs]

/-! The node, neighbour and prefix tables (R310-R340). -/

@[simp] theorem putRecord_memWf (kind body) (h : memWf s.hostMem = true) : memWf (putRecord kind body s).hostMem = true := by
  simp [putRecord, h]
@[simp] theorem learnRecord_memWf (l unmerged) (h : memWf s.hostMem = true) : memWf (learnRecord l unmerged s).hostMem = true := by
  simp [learnRecord, h]
@[simp] theorem goneRecord_memWf (kind table keyKind panId addr index) (h : memWf s.hostMem = true) :
    memWf (goneRecord kind table keyKind panId addr index s).hostMem = true := by
  simp [goneRecord, h]

@[simp] theorem observe_memWf (kind panId addr o) (h : memWf s.hostMem = true) : memWf (observe kind panId addr o s).hostMem = true := by
  unfold observe
  (repeat' split) <;> simp [h]

@[simp] theorem learnWindow_memWf (kind panId addr) (h : memWf s.hostMem = true) :
    memWf (learnWindow kind panId addr s).hostMem = true := by
  unfold learnWindow
  split <;> simp [h]

@[simp] theorem tblNodeInsert_memWf (h p) (hs : memWf s.hostMem = true) : memWf (tblNodeInsert h p s).st.hostMem = true := by
  unfold tblNodeInsert
  dsimp only
  (repeat' split) <;> simp [hs]

@[simp] theorem tblLookup_memWf (h p) (hs : memWf s.hostMem = true) : memWf (tblLookup h p s).st.hostMem = true := by
  unfold tblLookup
  (repeat' split) <;> simp [hs]

@[simp] theorem tblStatus_memWf (h p) (hs : memWf s.hostMem = true) : memWf (tblStatus h p s).st.hostMem = true := by simp [tblStatus, hs]
@[simp] theorem removeNode_memWf (record pos e) (h : memWf s.hostMem = true) : memWf (removeNode record pos e s).hostMem = true := by
  simp [removeNode, h]
@[simp] theorem removeNbr_memWf (record n) (h : memWf s.hostMem = true) : memWf (removeNbr record n s).hostMem = true := by
  simp [removeNbr, h]

@[simp] theorem agingVisit_memWf (table index hitNow) (h : memWf s.hostMem = true) :
    memWf (agingVisit table index hitNow s).hostMem = true := by
  unfold agingVisit
  (repeat' split) <;> simp [h]

@[simp] theorem parityRepair_memWf (table index) (h : memWf s.hostMem = true) : memWf (parityRepair table index s).hostMem = true := by
  unfold parityRepair
  (repeat' split) <;> simp [h]

/-! The receive lanes (R179-R215). -/

@[simp] theorem snapshotEnd_memWf (n) (h : memWf s.hostMem = true) : memWf (snapshotEnd n s).hostMem = true := by
  unfold snapshotEnd
  split <;> simp [h]

/-! The slot engine (R242-R294). -/

@[simp] theorem slotStatus_memWf (h p) (hs : memWf s.hostMem = true) : memWf (slotStatus h p s).st.hostMem = true := by
  simp [slotStatus, hs]

/-! The packet engine (R23-R29). -/

@[simp] theorem unknownSource_memWf (id r f) (h : memWf s.hostMem = true) : memWf (unknownSource id r f s).hostMem = true := by
  unfold unknownSource
  dsimp only
  split <;> simp [h]

@[simp] theorem airRecordProcess_memWf (p f) (h : memWf s.hostMem = true) : memWf (airRecordProcess p f s).hostMem = true := by
  unfold airRecordProcess
  dsimp only
  (repeat' split) <;> simp [h]

/-! The Dalhiuf links (R457-R486). -/

@[simp] theorem peerReport_memWf (p kind panId addr o) (h : memWf s.hostMem = true) :
    memWf (peerReport p kind panId addr o s).hostMem = true := by
  simp [peerReport, h]

@[simp] theorem deliver_memWf (p f body) (h : memWf s.hostMem = true) : memWf (deliver p f body s).hostMem = true := by
  unfold deliver
  split <;> simp [h]

@[simp] theorem acceptFrame_memWf (p f body) (h : memWf s.hostMem = true) : memWf (acceptFrame p f body s).hostMem = true := by
  unfold acceptFrame
  dsimp only
  (repeat' split) <;> simp [h]

@[simp] theorem dlFrameRx_memWf (p f) (h : memWf s.hostMem = true) : memWf (dlFrameRx p f s).hostMem = true := by
  unfold dlFrameRx
  dsimp only
  (repeat' split) <;> simp [h]

/-! The Ethernet ports, and PCIe with its data rings (R494-R514). -/

@[simp] theorem placeTh_memWf (r f cls first l bufs) (h : memWf s.hostMem = true) :
    memWf (placeTh r f cls first l bufs s).hostMem = true := by
  induction bufs generalizing first l s with
  | nil => exact h
  | cons b t ih => exact ih _ _ _ (hostWrite_memOk (hostWrite_memOk (hostWrite_memOk (hostWrite_memOk h))))

theorem thNext_taken {r : Nat} {s t : State} {f : PktFrame} {cls : Nat} {data : List Byte} (h : (thNext r s).2 = some (f, cls, data, t)) :
    t.hostMem = s.hostMem := by
  unfold thNext at h
  split at h
  · cases h
    rfl
  · dsimp only at h
    split at h
    · cases h
    · cases h
      simp

@[simp] theorem thDeliver_memWf (r bufs) (h : memWf s.hostMem = true) : memWf (thDeliver r bufs s).hostMem = true := by
  unfold thDeliver
  split
  · exact h
  · dsimp only
    split
    · simp [h]
    · next ht =>
      split
      · simp [h]
      · simp [h, thNext_taken ht]

@[simp] theorem fhFetch_memWf (r e) (h : memWf s.hostMem = true) : memWf (fhFetch r e s).hostMem = true := by simp [fhFetch, h]

/-! Image updates (R427-R456). -/

@[simp] theorem updStatus_memWf (h p) (hs : memWf s.hostMem = true) : memWf (updStatus h p s).st.hostMem = true := by simp [updStatus, hs]

/-! Node image campaigns (R444-R452). -/

@[simp] theorem updCampaignCtrl_memWf (h p) (hs : memWf s.hostMem = true) : memWf (updCampaignCtrl h p s).st.hostMem = true := by
  unfold updCampaignCtrl
  dsimp only
  (repeat' split) <;> simp [hs]

/-! Dumps, the firewall, spares and memory errors (R515-R542). -/

@[simp] theorem diagDumpRead_memWf (h p) (hs : memWf s.hostMem = true) : memWf (diagDumpRead h p s).st.hostMem = true := by
  unfold diagDumpRead
  (repeat' split) <;> simp [hs]

@[simp] theorem hlthSpareMap_memWf (h p) (hs : memWf s.hostMem = true) : memWf (hlthSpareMap h p s).st.hostMem = true := by
  simp [hlthSpareMap, hs]

/-! The boot ROM, INIT and LULL (R64-R97). -/

@[simp] theorem sysInfo_memWf (h p) (hs : memWf s.hostMem = true) : memWf (sysInfo h p s).st.hostMem = true := by simp [sysInfo, hs]

/-! What runs any command (R103, R112-R125). -/

/-- Every command keeps host memory in its canonical form. -/
@[simp] theorem runCmd_memWf (h c) (hs : memWf s.hostMem = true) : memWf (runCmd h c s).st.hostMem = true := by
  cases c <;> simp [runCmd, hs]

theorem unlessJob_memWf (h c) {run : State → Res} (hr : memWf (run s).st.hostMem = true) (hs : memWf s.hostMem = true) :
    memWf (unlessJob h c run s).st.hostMem = true := by
  unfold unlessJob
  split
  · simp [hs]
  · exact hr

@[simp] theorem dueRun_memWf (d c) (h : memWf s.hostMem = true) : memWf (dueRun d c s).st.hostMem = true := by
  unfold dueRun
  dsimp only
  split
  · exact unlessJob_memWf _ _ _ (runCmd_memWf _ _ _ h) h
  · exact h

@[simp] theorem timedDue_memWf (d) (h : memWf s.hostMem = true) : memWf (timedDue d s).hostMem = true := by
  unfold timedDue
  dsimp only
  split
  · split <;> simp [h]
  · simp [h]

@[simp] theorem runStaged_memWf (f) (h : memWf s.hostMem = true) : memWf (runStaged f s).hostMem = true := by
  unfold runStaged
  dsimp only
  split
  · exact h
  · split
    · simp [h]
    · simp [unlessJob_memWf, h]

@[simp] theorem releaseNow_memWf (qp tag) (h : memWf s.hostMem = true) : memWf (releaseNow qp tag s).hostMem = true := by
  unfold releaseNow
  split <;> simp [h]

@[simp] theorem commandRelease_memWf (qp tag) (h : memWf s.hostMem = true) : memWf (commandRelease qp tag s).hostMem = true := by
  unfold commandRelease
  split
  · exact h
  · split
    · exact h
    · split
      · split <;> simp [h]
      · refine releaseNow_memWf _ _ _ ?_
        split <;> simp [h]

theorem foldl_memWf {α : Type} {f : State → α → State} (hf : ∀ s x, memWf s.hostMem = true → memWf (f s x).hostMem = true) (l : List α)
    (h : memWf s.hostMem = true) : memWf (l.foldl f s).hostMem = true := by
  induction l generalizing s with
  | nil => exact h
  | cons x l ih => exact ih _ (hf s x h)

@[simp] theorem lullEntry_memWf (h : memWf s.hostMem = true) : memWf (lullEntry s).hostMem = true := by
  unfold lullEntry
  split
  · exact h
  · extract_lets release stopped ended released camps saved chains silent wake asleep
    have hs : memWf stopped.hostMem = true := by simp [stopped, h]
    have he : memWf ended.hostMem = true := by
      simp only [ended, silenceAll_hostMem, endFlights_hostMem]
      exact foldl_memWf _ (fun s f hs => by split <;> simp [hs]) _ hs
    have hr : memWf released.hostMem = true := foldl_memWf _ (fun s f hs => by split <;> simp [hs]) _ he
    have hc : camps.hostMem = released.hostMem := hostMem_foldl (fun s e => by simp) _ released
    have hv : saved.hostMem = camps.hostMem := by
      simp only [saved]
      split <;> simp
    have hd : chains.hostMem = saved.hostMem := (hostMem_foldl (fun s c => withChain_hostMem ..) _ _).trans (loseAllFrames_hostMem saved)
    have ha : asleep.hostMem = saved.hostMem :=
      (withSys_hostMem _ silent).trans ((withTime_hostMem ..).trans ((withAon_hostMem ..).trans ((linksDown_hostMem chains).trans hd)))
    have hw : memWf asleep.hostMem = true := by rw [ha, hv, hc, hr]
    clear_value wake asleep
    cases wake with
    | none => exact hw
    | some w => simp [hw]

@[simp] theorem comparatorFire_memWf (n) (h : memWf s.hostMem = true) : memWf (comparatorFire n s).hostMem = true := by
  unfold comparatorFire
  dsimp only
  split
  · exact h
  · split
    · simp [h]
    · split <;> simp [h]

@[simp] theorem applyDelta_memWf (d) (h : memWf s.hostMem = true) : memWf (applyDelta d s).hostMem = true := by
  rw [applyDelta, applySections_hostMem]
  refine foldl_memWf _ (fun s e hs => ?_) _ h
  split <;> simp [hs]

@[simp] theorem deltaRx_memWf (d) (h : memWf s.hostMem = true) : memWf (deltaRx d s).hostMem = true := by simp [deltaRx, h]
@[simp] theorem bulkRx_memWf (d) (h : memWf s.hostMem = true) : memWf (bulkRx d s).hostMem = true := by simp [bulkRx, h]

/-! One step: a row of a command is its agent's work, and every other row answers a next state. -/

@[simp] theorem workOn_memWf (h c) {run : State → Res} (hr : ∀ s, memWf s.hostMem = true → memWf (run s).st.hostMem = true)
    (hs : memWf s.hostMem = true) : memWf (workOn h c run s).hostMem = true := by
  have hj := unlessJob_memWf s h c (hr s hs) hs
  unfold workOn
  dsimp only
  (repeat' split) <;> simp [hs, hj]

/-- The next state of an outcome, where it has one, has host memory in canonical form. -/
def NextMemOk (o : Host.Outcome State Fault Refusal) : Prop := ∀ t, o = .next t → MemOk t

theorem nextMemOk_next {t : State} (h : memWf t.hostMem = true) : NextMemOk (.next t) := by
  rintro _ ⟨⟩
  exact h

theorem nextMemOk_row {s : State} {h : Hdr} {c : Cmd} {run : State → Res} (hrun : run = runCmd h c) (hs : memWf s.hostMem = true) :
    NextMemOk (agentRun h c run s) := by
  have hr : ∀ s, memWf s.hostMem = true → memWf (run s).st.hostMem = true := fun s hs => by
    rw [hrun]
    exact runCmd_memWf s h c hs
  unfold agentRun
  split
  · exact nextMemOk_next hs
  · split
    · exact nextMemOk_next (workOn_memWf _ _ _ hr hs)
    · exact nextMemOk_next (workOn_memWf _ _ _ hr (by simp [hs]))

theorem exec_nextMemOk {s : State} (hs : memWf s.hostMem = true) (c : Instr) : NextMemOk (exec c s) := by
  cases c
  case sysInfo | sysReset | sysState | sysEventMap | sysTimed | sysMgmtCfg | sysEthCfg | sysMacsecSa | radChainCfg | radCal | radTuner |
      radCoexCfg | radAgcCfg | radPaRamp | radTxRaw | radBlankMap | laneAssign | lanePhyCfg | laneCaptureCfg | laneStatus | laneFlush |
      laneBitload | slotCfg | slotListLoad | slotListActivate | slotSuperframeCfg | slotTx | slotFrontCfg | slotStatus | slotFollowCfg |
      budgRegionLoad | budgStatus | tmQueueCfg | tmMeterCfg | tmShaperCfg | tmClassMap | tmStats | tblNodeInsert | tblNodeDelete |
      tblPrefixAdd | tblPrefixDel | tblAgingCfg | tblLookup | tblEvictPolicy | tblCfg | tblNeighbourSet | tblStatus | keyImport |
      keyDerive | keyStage | keyCommit | keyErase | keyInfo | keyInvalidate | keyAttest | keyStoreCfg | cryOp | crySign | cryVerify |
      cryHash | cryXtsRegion | cryChkCfg | cryStatus | updOpen | updBlock | updStatus | updVerify | updActivate | updCampaignCfg |
      updCampaignCtrl | timeStep | timeRate | timeSelect | timeTrigger | timeCaptureCfg | timePtpPortCfg | timeDomainCfg | timeStatus |
      lnkPortCfg | lnkTopology | lnkStatus | lnkSend | twinCfg | twinClaim | twinSwitch | twinStatus | twinSaveState | hlthStatus |
      hlthSpareMap | hlthRetire | diagDumpRead | diagUnfreeze | diagFwRegion | testLoopback | testBist | testPattern | testStatus =>
    exact nextMemOk_row rfl hs
  all_goals exact nextMemOk_next (by simp [hs])

/-- Settles O5, by the rules of the functions: an idle step leaves host memory as it is, and a step of a command or an event is a function with a
rule above. -/
theorem hostMemoryStaysCanonical : Obligations.HostMemoryStaysCanonical := by
  unfold Obligations.HostMemoryStaysCanonical
  intro s t h ht
  unfold step at ht
  split at ht
  · cases ht
    exact h
  · next c rest _ => exact exec_nextMemOk (s := { s with pending := rest }) h c t ht

end Sys2Proof.Proofs
end

section
/-!
PROOFS. What is read of a radio chain after a change to it, and what the shared operations on a chain come to (R138, R166, R175).
-/
namespace Sys2Proof.Proofs
open Machine Safety Laws

/-- The state in which chain c is as given. -/
def putChain (c : Nat) (k : ChainSt) (s : State) : State := { s with rfc := { s.rfc with chains := tput s.rfc.chains c k } }

theorem withChain_put (c : Nat) (f : ChainSt → ChainSt) (s : State) : withChain c f s = putChain c (f (chainOf s c)) s := rfl

@[simp] theorem chainOf_putChain_same (c : Nat) (k : ChainSt) (s : State) : chainOf (putChain c k s) c = k := tget_tput_same ..

theorem chainOf_putChain_other {c d : Nat} (h : d ≠ c) (k : ChainSt) (s : State) : chainOf (putChain c k s) d = chainOf s d :=
  tget_tput_other _ _ _ h.symm

@[simp] theorem putChain_putChain (c : Nat) (k x : ChainSt) (s : State) : putChain c x (putChain c k s) = putChain c x s := by
  simp [putChain, tput_tput]

@[simp] theorem gateHeld_putChain (c : Nat) (k : ChainSt) (s : State) : gateHeld (putChain c k s) = gateHeld s := rfl

@[simp] theorem putChain_time (c : Nat) (k : ChainSt) (s : State) : (putChain c k s).time = s.time := rfl

@[simp] theorem putChain_slot (c : Nat) (k : ChainSt) (s : State) : (putChain c k s).slot = s.slot := rfl

@[simp] theorem firstUnbuilt_putChain (c : Nat) (k : ChainSt) (s : State) : firstUnbuilt (putChain c k s) = firstUnbuilt s := rfl

/-- Raising an event reaches no chain. -/
@[simp] theorem raise_rfc (n : Nat) (s : State) : (raise n s).rfc = s.rfc := by rw [raise_only]

@[simp] theorem raiseW_rfc (n w : Nat) (s : State) : (raiseW n w s).rfc = s.rfc := by rw [raiseW_only]

theorem chainOf_congr {s t : State} (h : t.rfc = s.rfc) (c : Nat) : chainOf t c = chainOf s c := by rw [chainOf, chainOf, h]

/-- RFFE writes of a chain go out while the gate is held, and are lost otherwise (R162, R166). -/
def rffeSent (s : State) (w : List RffeWrite) : List RffeWrite := if gateHeld s then w else []

@[simp] theorem rffeSent_putChain (c : Nat) (k : ChainSt) (s : State) (w : List RffeWrite) : rffeSent (putChain c k s) w = rffeSent s w := rfl

@[simp] theorem rffeSend_putChain (c : Nat) (w : List RffeWrite) (k : ChainSt) (s : State) :
    rffeSend c w (putChain c k s) = putChain c { k with rffe := k.rffe ++ rffeSent s w } s := by
  unfold rffeSend rffeSent
  rw [gateHeld_putChain]
  cases gateHeld s <;> simp [withChain_put]

/-- A calibration that joins none: its steps, and the slots they take (R140, R150). -/
theorem askCal_fresh {c : Nat} {s : State} (h : (chainOf s c).cal = none) (steps : List Nat) (job : Nat) :
    askCal c steps job s = putChain c { chainOf s c with cal := some {
      steps := [1, 2, 3, 4, 5, 6].filter (fun i => steps.contains i), job := job, fromAsn := firstUnbuilt s,
      slots := cdiv (calUs (chainOf s c) ([1, 2, 3, 4, 5, 6].filter (fun i => steps.contains i))) s.slot.slotLenUs } } s := by
  unfold askCal
  by_cases hj : job = 0 <;> simp [withChain_put, h, hj]

end Sys2Proof.Proofs
end

section
/-!
PROOFS. The configuration of a radio chain (R10, R139-R142, R156, R160, R168, R169, R177, R568): first what each meaning comes to, in any state,
then the command path around it.
-/
namespace Sys2Proof.Proofs
open Machine Safety Laws

/-! RAD_CHAIN_CFG. -/

/-- A chain with the settings of RAD_CHAIN_CFG (R139, R177, R568). -/
def chainConfigured (p : RadChainCfgP) (k : ChainSt) : ChainSt := { k with
  centre := p.windowCentre, userPlans := plansAfter k p, plans := bindings p, ramps := (List.range 13).map (fun m => (m, nth 0 p.rampForPhy m)),
  rxFeGain := p.rxFeGain, couplerSrc := p.couplerSrc, cplFactor := p.cplFwd, mismatchRl := p.mismatchRl, backoffStep := p.backoffStep,
  maxBackoff := p.maxBackoff, autoRecal := p.autoRecal, seqOn := p.txOn, seqOff := p.txOff, seqWindow := p.rxWindow }

theorem radChainCfg_out {h : Hdr} {p : RadChainCfgP} {s : State} (hs : (chainOf s h.flow).service = 2) :
    radChainCfg h p s = refuse s stDegraded := by
  simp [radChainCfg, hs]

theorem radChainCfg_bad {h : Hdr} {p : RadChainCfgP} {s : State} (hs : (chainOf s h.flow).service ≠ 2)
    (hp : chainCfgOk (chainOf s h.flow) p = false) : radChainCfg h p s = refuse s stBadParam := by
  simp [radChainCfg, hs, hp]

theorem radChainCfg_busy {h : Hdr} {p : RadChainCfgP} {s : State} (hs : (chainOf s h.flow).service ≠ 2)
    (hp : chainCfgOk (chainOf s h.flow) p = true) (hb : chainCfgBusy s h.flow p = true) : radChainCfg h p s = refuse s stBusy := by
  simp [radChainCfg, hs, hp, hb]

theorem radChainCfg_sameWindow {h : Hdr} {p : RadChainCfgP} {s : State} (hs : (chainOf s h.flow).service ≠ 2)
    (hp : chainCfgOk (chainOf s h.flow) p = true) (hb : chainCfgBusy s h.flow p = false) (hw : p.windowCentre = (chainOf s h.flow).centre) :
    radChainCfg h p s = done (putChain h.flow (chainConfigured p (chainOf s h.flow)) s) := by
  simp only [radChainCfg, hs, hp, hb]
  simp [hw, withChain_put, chainConfigured]

/-- A window that moves has lost lock and waits for its steps 2 and 3, 6200 us of slots (R140, R148). -/
theorem radChainCfg_movedWindow {h : Hdr} {p : RadChainCfgP} {s : State} (hs : (chainOf s h.flow).service ≠ 2)
    (hp : chainCfgOk (chainOf s h.flow) p = true) (hb : chainCfgBusy s h.flow p = false) (hw : p.windowCentre ≠ (chainOf s h.flow).centre)
    (hc : (chainOf s h.flow).cal = none) :
    radChainCfg h p s = done (putChain h.flow { chainConfigured p (chainOf s h.flow) with
      rxLock := false, rffe := (chainOf s h.flow).rffe ++ rffeSent s p.rxWindow,
      cal := some { steps := [2, 3], fromAsn := firstUnbuilt s, slots := cdiv 6200 s.slot.slotLenUs } } s) := by
  simp only [radChainCfg, hs, hp, hb]
  simp [hw, withChain_put, chainConfigured, askCal_fresh, hc, calUs, nth]

/-! RAD_COEX_CFG. -/

/-- The ranges of RAD_COEX_CFG (R168). -/
def coexCfgOk (p : RadCoexCfgP) : Prop :=
  p.coexMode ≤ 1 ∧ p.grantPolarity ≤ 1 ∧ 10 ≤ p.reqLeadUs ∧ p.reqLeadUs ≤ 1000 ∧ p.priAck ≤ 1 ∧ p.abortOnRevoke ≤ 1

theorem coexCfgOk_iff (p : RadCoexCfgP) : coexCfgOk p ↔
    (decide (1 < p.coexMode) || decide (1 < p.grantPolarity) || decide (p.reqLeadUs < 10) || decide (1000 < p.reqLeadUs) ||
      decide (1 < p.priAck) || decide (1 < p.abortOnRevoke)) = false := by
  simp [coexCfgOk, and_assoc]

theorem radCoexCfg_out {h : Hdr} {p : RadCoexCfgP} {s : State} (hs : (chainOf s h.flow).service = 2) :
    radCoexCfg h p s = refuse s stDegraded := by
  simp [radCoexCfg, hs]

theorem radCoexCfg_bad {h : Hdr} {p : RadCoexCfgP} {s : State} (hs : (chainOf s h.flow).service ≠ 2) (hp : ¬ coexCfgOk p) :
    radCoexCfg h p s = refuse s stBadParam := by
  rw [coexCfgOk_iff, Bool.not_eq_false] at hp
  simp only [radCoexCfg, hs, hp, if_true, if_false]

theorem radCoexCfg_ok {h : Hdr} {p : RadCoexCfgP} {s : State} (hs : (chainOf s h.flow).service ≠ 2) (hp : coexCfgOk p) :
    radCoexCfg h p s = done (putChain h.flow { chainOf s h.flow with
      coexMode := p.coexMode, grantPolarity := p.grantPolarity, reqLeadUs := p.reqLeadUs, priMask := p.priMask, priAck := decide (p.priAck = 1),
      abortOnRevoke := decide (p.abortOnRevoke = 1) } s) := by
  rw [coexCfgOk_iff] at hp
  simp only [radCoexCfg, hs, hp]
  rfl

/-! RAD_AGC_CFG. -/

/-- The ranges of RAD_AGC_CFG (R156, R177). -/
def agcCfgOk (p : RadAgcCfgP) : Prop :=
  p.agcMode ≤ 1 ∧ -128 ≤ p.wbTarget ∧ p.wbTarget ≤ -40 ∧ -80 ≤ p.nbTarget ∧ p.nbTarget ≤ -24 ∧ 1 ≤ p.clipCount ∧ p.clipCount ≤ 64

theorem agcCfgOk_iff (p : RadAgcCfgP) : agcCfgOk p ↔
    (decide (1 < p.agcMode) || decide (p.wbTarget < -128) || decide (-40 < p.wbTarget) || decide (p.nbTarget < -80) ||
      decide (-24 < p.nbTarget) || decide (p.clipCount = 0) || decide (64 < p.clipCount)) = false := by
  simp [agcCfgOk, and_assoc, Nat.one_le_iff_ne_zero]

theorem radAgcCfg_out {h : Hdr} {p : RadAgcCfgP} {s : State} (hs : (chainOf s h.flow).service = 2) :
    radAgcCfg h p s = refuse s stDegraded := by
  simp [radAgcCfg, hs]

theorem radAgcCfg_bad {h : Hdr} {p : RadAgcCfgP} {s : State} (hs : (chainOf s h.flow).service ≠ 2) (hp : ¬ agcCfgOk p) :
    radAgcCfg h p s = refuse s stBadParam := by
  rw [agcCfgOk_iff, Bool.not_eq_false] at hp
  simp only [radAgcCfg, hs, hp, if_true, if_false]

theorem radAgcCfg_ok {h : Hdr} {p : RadAgcCfgP} {s : State} (hs : (chainOf s h.flow).service ≠ 2) (hp : agcCfgOk p) :
    radAgcCfg h p s = done (putChain h.flow { chainOf s h.flow with
      agcMode := p.agcMode, wbTarget := p.wbTarget, nbTarget := p.nbTarget, clipCount := p.clipCount } s) := by
  rw [agcCfgOk_iff] at hp
  simp only [radAgcCfg, hs, hp]
  rfl

/-! RAD_PA_RAMP. -/

/-- The ranges of RAD_PA_RAMP (R160). -/
def paRampOk (p : RadPaRampP) : Prop :=
  p.profile ≤ 7 ∧ 2 ≤ p.rampUs ∧ p.rampUs ≤ 32 ∧ p.paLeadUs ≤ 20 ∧ p.points.length = 16 ∧ ∀ x ∈ p.points, x ≤ 1023

theorem paRampOk_iff (p : RadPaRampP) : paRampOk p ↔
    (decide (7 < p.profile) || decide (p.rampUs < 2) || decide (32 < p.rampUs) || decide (20 < p.paLeadUs) ||
      decide (p.points.length ≠ 16) || p.points.any (1023 < ·)) = false := by
  simp [paRampOk, and_assoc, Nat.succ_le_iff]

/-- The ramp that RAD_PA_RAMP sets. -/
def rampOf (p : RadPaRampP) : RampProfile := { rampUs := p.rampUs, paLeadUs := p.paLeadUs, points := p.points }

theorem radPaRamp_out {h : Hdr} {p : RadPaRampP} {s : State} (hs : (chainOf s h.flow).service = 2) :
    radPaRamp h p s = refuse s stDegraded := by
  simp [radPaRamp, hs]

theorem radPaRamp_bad {h : Hdr} {p : RadPaRampP} {s : State} (hs : (chainOf s h.flow).service ≠ 2) (hp : ¬ paRampOk p) :
    radPaRamp h p s = refuse s stBadParam := by
  rw [paRampOk_iff, Bool.not_eq_false] at hp
  simp only [radPaRamp, hs, hp, if_true, if_false]

/-- A profile is replaced at once, or after the transmission in progress (R10). -/
theorem radPaRamp_ok {h : Hdr} {p : RadPaRampP} {s : State} (hs : (chainOf s h.flow).service ≠ 2) (hp : paRampOk p) :
    radPaRamp h p s = done (putChain h.flow (if transmitting (chainOf s h.flow) then
        { chainOf s h.flow with profileNext := tput (chainOf s h.flow).profileNext p.profile (rampOf p) }
      else { chainOf s h.flow with profiles := tput (chainOf s h.flow).profiles p.profile (rampOf p) }) s) := by
  rw [paRampOk_iff] at hp
  simp only [radPaRamp, hs, hp]
  rfl

theorem transmitting_iff (k : ChainSt) : transmitting k = true ↔ ∃ t ∈ k.txs, t.phase ≠ 0 := by simp [transmitting]

theorem radPaRamp_quiet {h : Hdr} {p : RadPaRampP} {s : State} (hs : (chainOf s h.flow).service ≠ 2) (hp : paRampOk p)
    (hq : ∀ t ∈ (chainOf s h.flow).txs, t.phase = 0) : radPaRamp h p s = done (putChain h.flow
      { chainOf s h.flow with profiles := tput (chainOf s h.flow).profiles p.profile (rampOf p) } s) := by
  rw [radPaRamp_ok hs hp, if_neg]
  rw [transmitting_iff]
  rintro ⟨t, ht, hn⟩
  exact hn (hq t ht)

theorem radPaRamp_sending {h : Hdr} {p : RadPaRampP} {s : State} (hs : (chainOf s h.flow).service ≠ 2) (hp : paRampOk p)
    (hq : ∃ t ∈ (chainOf s h.flow).txs, t.phase ≠ 0) : radPaRamp h p s = done (putChain h.flow
      { chainOf s h.flow with profileNext := tput (chainOf s h.flow).profileNext p.profile (rampOf p) } s) := by
  rw [radPaRamp_ok hs hp, if_pos ((transmitting_iff _).mpr hq)]

/-! RAD_BLANK_MAP. -/

/-- The ranges of RAD_BLANK_MAP (R169). -/
def blankMapOk (p : RadBlankMapP) : Prop := p.dist.length = 4 ∧ ∀ x ∈ p.dist, x ≤ 0xFFFF

theorem blankMapOk_iff (p : RadBlankMapP) : blankMapOk p ↔ (decide (p.dist.length ≠ 4) || p.dist.any (0xFFFF < ·)) = false := by
  simp [blankMapOk]

/-- A blanking map whose four distances of chain c are those of the list. -/
def mapRow (c : Nat) (dist : List Nat) (m : Tbl Nat) : Tbl Nat := (List.range 4).foldl (fun t i => tput t (4 * c + i) (nth 0 dist i)) m

theorem tfind_mapRow_row {r : Nat} (hr : r < 4) (c : Nat) (dist : List Nat) (m : Tbl Nat) :
    tfind (mapRow c dist m) (4 * c + r) = some (nth 0 dist r) := by
  obtain rfl | rfl | rfl | rfl : r = 0 ∨ r = 1 ∨ r = 2 ∨ r = 3 := by omega
  all_goals simp [mapRow, List.range_succ, tfind_tput]

theorem tfind_mapRow_other {c i : Nat} (hi : i < 4 * c ∨ 4 * c + 4 ≤ i) (dist : List Nat) (m : Tbl Nat) :
    tfind (mapRow c dist m) i = tfind m i := by
  have hn (r : Nat) (hr : r < 4) : 4 * c + r ≠ i := by omega
  simp only [mapRow, List.range_succ, List.range_zero, List.nil_append, List.cons_append, List.foldl_cons, List.foldl_nil, tfind_tput,
    hn 0 (by omega), hn 1 (by omega), hn 2 (by omega), hn 3 (by omega), if_false]

theorem radBlankMap_out {h : Hdr} {p : RadBlankMapP} {s : State} (hs : (chainOf s h.flow).service = 2) :
    radBlankMap h p s = refuse s stDegraded := by
  simp [radBlankMap, hs]

theorem radBlankMap_bad {h : Hdr} {p : RadBlankMapP} {s : State} (hs : (chainOf s h.flow).service ≠ 2) (hp : ¬ blankMapOk p) :
    radBlankMap h p s = refuse s stBadParam := by
  rw [blankMapOk_iff, Bool.not_eq_false] at hp
  simp only [radBlankMap, hs, hp, if_true, if_false]

theorem radBlankMap_ok {h : Hdr} {p : RadBlankMapP} {s : State} (hs : (chainOf s h.flow).service ≠ 2) (hp : blankMapOk p) :
    radBlankMap h p s = done (withRfc (fun r => { r with blankMap := mapRow h.flow p.dist r.blankMap }) s) := by
  rw [blankMapOk_iff] at hp
  simp only [radBlankMap, hs, hp]
  rfl

theorem blankDist_of_listed {s : State} {t r d : Nat} (h : tfind s.rfc.blankMap (4 * t + r) = some d) : blankDist s t r = d := by
  simp [blankDist, h]

theorem exec_radBlankMap_ok {h : Hdr} {p : RadBlankMapP} {s : State} (hr : Ready h (.radBlankMap p) s)
    (hs : (chainOf s h.flow).service ≠ 2) (hp : blankMapOk p) : ∃ t, exec (.radBlankMap h p) s = .next t ∧
      t = { s with hif := answered h (.radBlankMap p) stOk 0 [] s, rfc := { s.rfc with blankMap := t.rfc.blankMap } } ∧
      (∀ r < 4, blankDist t h.flow r = nth 0 p.dist r) ∧
      ∀ i, (i < 4 * h.flow ∨ 4 * h.flow + 4 ≤ i) → tfind t.rfc.blankMap i = tfind s.rfc.blankMap i :=
  ⟨_, agentRun_answers hr _ (radBlankMap_ok hs hp) rfl rfl rfl rfl, rfl, fun _ hx => blankDist_of_listed (tfind_mapRow_row hx ..),
    fun _ hi => tfind_mapRow_other hi ..⟩

/-- Settles O30: each command is Ready, so its reply and its effect are what its meaning comes to. -/
theorem radioConfiguration : Obligations.RadioConfiguration := by
  intro h s
  refine ⟨fun p hr => ?_, fun p hr => ?_, fun p hr => ?_, fun p hr => ?_, fun p hr => ?_⟩
  · exact ⟨fun hs => agentRun_refuses hr (radChainCfg_out hs), fun hs hp => agentRun_refuses hr (radChainCfg_bad hs hp),
      fun hs hp hb => agentRun_refuses hr (radChainCfg_busy hs hp hb),
      fun hs hp hb hw => agentRun_answers hr _ (radChainCfg_sameWindow hs hp hb hw) rfl rfl rfl rfl,
      fun hs hp hb hw hc => agentRun_answers hr _ (radChainCfg_movedWindow hs hp hb hw hc) rfl rfl rfl rfl⟩
  · exact ⟨fun hs => agentRun_refuses hr (radCoexCfg_out hs), fun hs hp => agentRun_refuses hr (radCoexCfg_bad hs hp),
      fun hs hp => agentRun_answers hr _ (radCoexCfg_ok hs hp) rfl rfl rfl rfl⟩
  · exact ⟨fun hs => agentRun_refuses hr (radAgcCfg_out hs), fun hs hp => agentRun_refuses hr (radAgcCfg_bad hs hp),
      fun hs hp => agentRun_answers hr _ (radAgcCfg_ok hs hp) rfl rfl rfl rfl⟩
  · exact ⟨fun hs => agentRun_refuses hr (radPaRamp_out hs), fun hs hp => agentRun_refuses hr (radPaRamp_bad hs hp),
      fun hs hp hq => agentRun_answers hr _ (radPaRamp_quiet hs hp hq) rfl rfl rfl rfl,
      fun hs hp hq => agentRun_answers hr _ (radPaRamp_sending hs hp hq) rfl rfl rfl rfl⟩
  · exact ⟨fun hs => agentRun_refuses hr (radBlankMap_out hs), fun hs hp => agentRun_refuses hr (radBlankMap_bad hs hp),
      exec_radBlankMap_ok hr⟩

end Sys2Proof.Proofs
end

section
/-!
PROOFS. Calibration and the aerial tuner (R117, R140, R148-R152, R165): first what each meaning and each event comes to, then the command path
around the commands.
-/
namespace Sys2Proof.Proofs
open Machine Safety Laws

/-- A command that is Ready and whose reply waits for an event of its chapter (R120). -/
theorem agentRun_waits {h : Hdr} {c : Cmd} {run : State → Res} {s t : State} (hr : Ready h c s)
    (he : run (inFlightWith h c s) = { st := t, wait := true }) (hh : t.hif = (inFlightWith h c s).hif) :
    agentRun h c run s = .next { t with hif := awaiting h c s } := by
  have hn := not_isFor (c := c) hr.2.1
  have hf : t.hif = { s.hif with flights := s.hif.flights ++ [newFlight h c s] } := hh
  rw [agentRun_ready hr, he]
  simp only [complete, withHif, hf, modFirst_append_new _ _ hn (isFor_new h c s)]
  rfl

/-! RAD_CAL (R117, R148, R150, R151). -/

theorem radCal_bad {h : Hdr} {p : RadCalP} {s : State} (hp : p.steps = 0 ∨ 63 < p.steps) : radCal h p s = refuse s stBadParam := by
  simp [radCal, hp]

theorem radCal_busy {h : Hdr} {p : RadCalP} {s : State} (h0 : p.steps ≠ 0) (hm : p.steps ≤ 63)
    (hb : (chainOf s h.flow).cal.isSome = true ∨ (chainOf s h.flow).testHold = true) : radCal h p s = refuse s stBusy := by
  simp only [radCal, Bool.or_eq_true, decide_eq_true_eq, h0, Nat.not_lt.mpr hm, or_self, if_false, hb, if_true]

/-- The steps that RAD_CAL asks for: every one on a chain out of service (R151). -/
def askedSteps (service steps : Nat) : List Nat := [1, 2, 3, 4, 5, 6].filter (fun i => (if service = 2 then [1, 2, 3, 4, 5, 6] else stepsOf steps).contains i)

theorem mem_askedSteps (service steps i : Nat) :
    i ∈ askedSteps service steps ↔ 1 ≤ i ∧ i ≤ 6 ∧ (service = 2 ∨ steps.testBit (i - 1) = true) := by
  have hi : i ∈ [1, 2, 3, 4, 5, 6] ↔ 1 ≤ i ∧ i ≤ 6 := by simp; omega
  by_cases hs : service = 2
  · simp only [askedSteps, hs, if_true, List.mem_filter, List.contains_iff_mem, hi]
    tauto
  · simp only [askedSteps, hs, if_false, stepsOf, bit, List.mem_filter, List.contains_iff_mem, hi]
    tauto

/-- The calibration that RAD_CAL asks for. -/
def askedCal (c steps : Nat) (s : State) : CalJob :=
  let l := askedSteps (chainOf s c).service steps
  { steps := l, job := freshJob s, fromAsn := firstUnbuilt s, slots := cdiv (calUs (chainOf s c) l) s.slot.slotLenUs }

theorem radCal_pending {h : Hdr} {p : RadCalP} {s : State} (h0 : p.steps ≠ 0) (hm : p.steps ≤ 63) (hc : (chainOf s h.flow).cal = none)
    (ht : (chainOf s h.flow).testHold = false) : radCal h p s =
      { st := tick1 (putChain h.flow { chainOf s h.flow with cal := some (askedCal h.flow p.steps s) } s), status := stPending, info := freshJob s } := by
  simp only [radCal, h0, Nat.not_lt.mpr hm, hc, ht, askCal_fresh hc]
  rfl

/-- RAD_CAL waits for its slots with ST_PENDING. -/
theorem exec_radCal_pending {h : Hdr} {p : RadCalP} {s : State} (hr : Ready h (.radCal p) s) (h0 : p.steps ≠ 0) (hm : p.steps ≤ 63)
    (hc : (chainOf s h.flow).cal = none) (hh : (chainOf s h.flow).testHold = false) : ∃ t j, exec (.radCal h p) s = .next t ∧
      1 ≤ j ∧ j ≤ 0xFFFF ∧ t = { s with hif := answered h (.radCal p) stPending j [] s, free := s.free + 1, rfc := t.rfc } ∧
      (∀ d, d ≠ h.flow → chainOf t d = chainOf s d) ∧ ∃ x, chainOf t h.flow = { chainOf s h.flow with cal := some x } ∧ x.job = j ∧
        x.running = false ∧ ∀ i, i ∈ x.steps ↔ 1 ≤ i ∧ i ≤ 6 ∧ ((chainOf s h.flow).service = 2 ∨ p.steps.testBit (i - 1) = true) := by
  obtain ⟨hl, hu⟩ := freshJob_range s
  exact ⟨_, freshJob s, agentRun_answers hr _ (radCal_pending h0 hm hc hh) rfl rfl rfl rfl, hl, hu, rfl,
    fun d hd => chainOf_putChain_other hd .., askedCal h.flow p.steps s, chainOf_putChain_same .., rfl, rfl, fun i => mem_askedSteps ..⟩

/-! CAL_START (R148, R150). -/

theorem chkFrameEnd_lane (n : Nat) (data : List Byte) (abort spawned : Bool) (u : Nat) (s : State) :
    (chkFrameEnd n data abort spawned u s).lane = s.lane := by
  have hr (v : Nat) (s : State) : (chkResult u data abort spawned v s).lane = s.lane := by
    rw [chkResult, raiseIf_only]
    rfl
  unfold chkFrameEnd
  extract_lets
  split
  · rfl
  · split
    · rfl
    · split
      · refine (hr ..).trans ?_
        split <;> rfl
      · rfl

theorem chkEnds_lane (n : Nat) (data : List Byte) (abort spawned : Bool) (s : State) : (chkEnds n data abort spawned s).lane = s.lane :=
  List.foldlRecOn (motive := fun t : State => t.lane = s.lane) (List.range 8) _ rfl (fun _ ht _ _ => (chkFrameEnd_lane ..).trans ht)

theorem physOf_congr {s t : State} (h : t.lane = s.lane) (p : Nat) : physOf t p = physOf s p := by rw [physOf, physOf, h]

theorem physOf_countLane (n i : Nat) (s : State) (q : Nat) : physOf (countLane n i s) q = physOf s q := by
  unfold countLane
  split <;> rfl

theorem physOf_loseFrame_other {p q : Nat} (h : q ≠ p) (cause : Option Nat) (s : State) : physOf (loseFrame p cause s) q = physOf s q := by
  unfold loseFrame
  split
  · rfl
  · next f _ =>
    extract_lets n ended counted
    have he : physOf ended q = physOf s q := by
      simp only [ended]
      split
      · exact physOf_congr (chkEnds_lane ..) q
      · rfl
    have hc : physOf counted q = physOf ended q := by
      cases cause with
      | none => rfl
      | some i => exact physOf_countLane ..
    rw [trigSnapshot, physOf_withLaneN, physOf_withPhys_other h, hc, he]

theorem physOf_endFrame_other {p q : Nat} (h : q ≠ p) (s : State) : physOf (endFrame p s) q = physOf s q := by
  unfold endFrame toPool
  dsimp only
  split
  · rw [physOf_tunePhys_other h, physOf_withPhys_other h, physOf_withPhys_other h]
  · exact physOf_withPhys_other h ..

/-- An abort on one physical lane leaves every other lane as it is. -/
theorem physOf_abortFrame_other {p q : Nat} (h : q ≠ p) (cause : Option Nat) (s : State) : physOf (abortFrame p cause s) q = physOf s q := by
  unfold abortFrame
  split
  · rw [physOf_endFrame_other h, physOf_loseFrame_other h]
  · rfl

/-- The frame of a physical lane tuned to chain c ends in ABORT. -/
def abortTuned (c p : Nat) (s : State) : State :=
  match (physOf s p).tune with
  | some u => if u.chain = c then abortFrame p none s else s
  | none => s

theorem endsFrames_abortTuned (c p : Nat) (s : State) : EndsFrames s (abortTuned c p s) := by
  unfold abortTuned
  split
  · exact .ite (endsFrames_abortFrame ..) (.refl s)
  · exact .refl s

theorem physOf_abortTuned_other {p q : Nat} (h : q ≠ p) (c : Nat) (s : State) : physOf (abortTuned c p s) q = physOf s q := by
  unfold abortTuned
  split
  · split
    · exact physOf_abortFrame_other h ..
    · rfl
  · rfl

theorem frame_abortTuned {c p : Nat} {u : LaneTune} {s : State} (hu : (physOf s p).tune = some u) (hc : u.chain = c) :
    (physOf (abortTuned c p s) p).frame = none := by
  simp only [abortTuned, hu, hc, if_true]
  exact frame_abortFrame ..

/-- Once every lane of the list has been seen, none tuned to the chain has a frame. -/
theorem frame_abortTuned_all {c p : Nat} {u : LaneTune} {l : List Nat} (hl : l.Nodup) (hp : p ∈ l) (hc : u.chain = c) {s : State}
    (hu : (physOf s p).tune = some u) : (physOf (l.foldl (fun s q => abortTuned c q s) s) p).frame = none := by
  induction l generalizing s with
  | nil => cases hp
  | cons q l ih =>
    obtain ⟨hq, hl⟩ := List.nodup_cons.mp hl
    by_cases hpq : p = q
    · subst hpq
      exact (EndsFrames.foldl (fun s q => endsFrames_abortTuned c q s) l _).frames p (frame_abortTuned hu hc)
    · exact ih hl ((List.mem_cons.mp hp).resolve_left hpq) (by rwa [physOf_abortTuned_other hpq])

/-- A chain whose calibration has started. -/
def calibrating (k : ChainSt) : ChainSt := { k with
  service := 1, rxLock := k.rxLock && !((k.cal.getD {}).steps.contains 3), cal := k.cal.map (fun j => { j with running := true }) }

theorem calStart_due {c : Nat} {s : State} (h : calDue s c = true) :
    calStart c s = (List.range 104).foldl (fun s p => abortTuned c p s) (putChain c (calibrating (chainOf s c)) s) := by
  unfold calStart
  rw [h]
  rfl

theorem calStart_starts {c : Nat} {s : State} (h : calDue s c = true) :
    chainOf (calStart c s) c = calibrating (chainOf s c) ∧ (calStart c s).sys = s.sys ∧ (calStart c s).tm = s.tm ∧ (calStart c s).sec = s.sec ∧
      ∀ p < 104, ∀ u, (physOf s p).tune = some u → u.chain = c → (physOf (calStart c s) p).frame = none := by
  have hf (p : Nat) (hp : p < 104) (u : LaneTune) (hu : (physOf s p).tune = some u) (hc : u.chain = c) :
      (physOf (calStart c s) p).frame = none := by
    rw [calStart_due h]
    exact frame_abortTuned_all List.nodup_range (List.mem_range.mpr hp) hc hu
  obtain ⟨l, k, e, he⟩ := (EndsFrames.foldl (fun s p => endsFrames_abortTuned c p s) (List.range 104) (putChain c (calibrating (chainOf s c)) s)).blocks
  rw [← calStart_due h] at he
  exact ⟨(chainOf_congr (congrArg (·.rfc) he) c).trans (chainOf_putChain_same ..), congrArg (·.sys) he, congrArg (·.tm) he,
    congrArg (·.sec) he, hf⟩

/-! CAL_DONE (R140, R151, R532). -/

/-- What a report does: it reaches the events and the degraded reasons; it clears no cause bit and changes no status word. -/
structure Reports (s t : State) : Prop where
  only : t = { s with evt := t.evt, hlth := t.hlth }
  words : t.evt.words = s.evt.words
  causes : ∀ n, s.evt.cause.testBit n = true → t.evt.cause.testBit n = true

theorem Reports.refl (s : State) : Reports s s := ⟨rfl, rfl, fun _ => id⟩

theorem Reports.trans {s t u : State} (h : Reports s t) (k : Reports t u) : Reports s u := by
  refine ⟨?_, k.words.trans h.words, fun n => k.causes n ∘ h.causes n⟩
  rw [k.only, h.only]

theorem reports_raise (n : Nat) (s : State) : Reports s (raise n s) := by
  refine ⟨?_, ?_, fun _ => raise_keeps_causes n⟩
  all_goals rw [raise_only]

theorem reports_degrade (b : Nat) (s : State) : Reports s (degrade b s) := by
  unfold degrade
  split
  · exact .refl s
  · have hs : Reports s (withHlth (fun h => { h with degraded := setBit h.degraded b }) s) := ⟨rfl, rfl, fun _ => id⟩
    exact hs.trans (reports_raise ..)

theorem reports_undegrade (b : Nat) (s : State) : Reports s (undegrade b s) := ⟨rfl, rfl, fun _ => id⟩

theorem degrade_sets (b : Nat) (s : State) : bit (degrade b s).hlth.degraded b = true := by
  unfold degrade
  split
  · next h => exact h
  · rw [raise_only]
    simp [bit, setBit]

/-- A chain whose calibration has ended, its rx_window sequence sent (R140, R151, R166). -/
def calEnded (failedStep : Nat) (degC : Int) (j : CalJob) (s : State) (k : ChainSt) : ChainSt := { k with
  cal := none, service := if failedStep = 0 then 0 else 2, failedStep := failedStep, dieTemp := degC,
  rxLock := if j.steps.contains 3 then failedStep = 0 || 3 < failedStep else k.rxLock,
  lastCalTemp := if j.steps.contains 2 && (failedStep = 0 || 2 < failedStep) then some degC else k.lastCalTemp,
  rffe := k.rffe ++ rffeSent s k.seqWindow }

/-- The end of a calibration once EV_CAL_DONE is raised. -/
def calReported (c failedStep : Nat) (degC : Int) (j : CalJob) (s : State) : State :=
  raiseW (0x021 + 8 * c) (calWord failedStep j.job) (putChain c (calEnded failedStep degC j s (chainOf s c)) s)

theorem calDone_running {c failedStep : Nat} {j : CalJob} {s : State} (hj : (chainOf s c).cal = some j) (hr : j.running = true)
    (hf : failedStep ≤ 6) (degC : Int) : calDone c failedStep degC s =
      if failedStep ≠ 0 then degrade 0 (raise (0x027 + 8 * c) (calReported c failedStep degC j s))
      else if chainsOut (calReported c failedStep degC j s) = 0 then undegrade 0 (calReported c failedStep degC j s)
      else calReported c failedStep degC j s := by
  simp only [calDone, hj, hr, Nat.not_lt.mpr hf, withChain_put, chainOf_putChain_same, rffeSend_putChain, calReported, calEnded]
  rfl

theorem reports_calDone {c failedStep : Nat} {j : CalJob} {s : State} (hj : (chainOf s c).cal = some j) (hr : j.running = true)
    (hf : failedStep ≤ 6) (degC : Int) : Reports (calReported c failedStep degC j s) (calDone c failedStep degC s) := by
  rw [calDone_running hj hr hf]
  split
  · exact (reports_raise ..).trans (reports_degrade ..)
  · split
    · exact reports_undegrade ..
    · exact .refl _

theorem calReported_only (c failedStep : Nat) (degC : Int) (j : CalJob) (s : State) : ∃ e, calReported c failedStep degC j s =
    { putChain c (calEnded failedStep degC j s (chainOf s c)) s with evt := e } :=
  ⟨_, raiseW_only ..⟩

theorem calDone_only {c failedStep : Nat} {j : CalJob} {s : State} (hj : (chainOf s c).cal = some j) (hr : j.running = true)
    (hf : failedStep ≤ 6) (degC : Int) : ∃ e g, calDone c failedStep degC s =
      { putChain c (calEnded failedStep degC j s (chainOf s c)) s with evt := e, hlth := g } := by
  obtain ⟨e, he⟩ := calReported_only c failedStep degC j s
  have ht := (reports_calDone hj hr hf degC).only
  rw [he] at ht
  exact ⟨_, _, ht⟩

theorem calDone_ends {c failedStep : Nat} {degC : Int} {j : CalJob} {s : State} (hj : (chainOf s c).cal = some j) (hr : j.running = true)
    (hf : failedStep ≤ 6) : chainOf (calDone c failedStep degC s) c = calEnded failedStep degC j s (chainOf s c) ∧
      (∀ d, d ≠ c → chainOf (calDone c failedStep degC s) d = chainOf s d) ∧
      tfind (calDone c failedStep degC s).evt.words (0x021 + 8 * c) = some (calWord failedStep j.job) ∧
      ((srcCfgOf s (0x021 + 8 * c)).enable = true → (calDone c failedStep degC s).evt.cause.testBit (0x021 + 8 * c) = true) ∧
      (failedStep ≠ 0 → bit (calDone c failedStep degC s).hlth.degraded 0 = true) := by
  have ht := reports_calDone hj hr hf degC
  obtain ⟨e, g, ho⟩ := calDone_only hj hr hf degC
  have hc := chainOf_congr (congrArg (·.rfc) ho)
  refine ⟨(hc c).trans (chainOf_putChain_same ..), fun d hd => (hc d).trans (chainOf_putChain_other hd ..), ?_, fun he => ht.causes _ (raiseW_sets _ he),
    fun h0 => ?_⟩
  · rw [ht.words, calReported, raiseW_words, tfind_tput, if_pos rfl]
  · rw [calDone_running hj hr hf, if_pos h0]
    exact degrade_sets ..

/-! AUTO_RECAL_TRIGGER (R152). -/

theorem autoRecal_within {c : Nat} {degC was : Int} {s : State} (hc : c ≤ 3) (hw : (chainOf s c).lastCalTemp = some was)
    (hd : (degC - was).natAbs < (chainOf s c).autoRecal) :
    autoRecal c degC s = putChain c { chainOf s c with dieTemp := degC } s := by
  simp [autoRecal, Nat.not_lt.mpr hc, withChain_put, hw, Nat.not_le.mpr hd]

/-- A drift that reaches the limit asks for steps 2 and 5, 14000 us of slots (R148, R152). -/
theorem autoRecal_drifted {c : Nat} {degC was : Int} {s : State} (hc : c ≤ 3) (hw : (chainOf s c).lastCalTemp = some was)
    (h0 : (chainOf s c).autoRecal ≠ 0) (hn : (chainOf s c).cal = none) (hs : (chainOf s c).service = 0)
    (hd : (chainOf s c).autoRecal ≤ (degC - was).natAbs) : autoRecal c degC s = putChain c { chainOf s c with
      dieTemp := degC, cal := some { steps := [2, 5], fromAsn := firstUnbuilt s, slots := cdiv 14000 s.slot.slotLenUs } } s := by
  simp [autoRecal, Nat.not_lt.mpr hc, withChain_put, hw, h0, hn, hs, hd, askCal_fresh, calUs, nth]

/-! RAD_TUNER and the end of a search (R165, R177). -/

/-- A chain with its tuner written to a state. -/
def tunerSet (t : TunerState) (s : State) (k : ChainSt) : ChainSt := { k with tunerState := some t, rffe := k.rffe ++ rffeSent s t.writes }

theorem setTuner_put (c : Nat) (t : TunerState) (s : State) : setTuner c t s = putChain c (tunerSet t s (chainOf s c)) s := by
  simp [setTuner, withChain_put, tunerSet]

/-- Every state has at most four writes (R165). -/
def tunerOk (p : RadTunerP) : Prop := ∀ x ∈ p.states, x.writes.length ≤ 4

theorem tunerOk.writes {p : RadTunerP} (h : tunerOk p) : p.states.any (fun t => 4 < t.writes.length) = false := by
  simpa [tunerOk] using h

theorem radTuner_badOp {h : Hdr} {p : RadTunerP} {s : State} (hs : (chainOf s h.flow).service ≠ 2) (hp : 2 < p.op) :
    radTuner h p s = refuse s stBadParam := by
  simp [radTuner, hs, hp]

theorem radTuner_endBackoff {h : Hdr} {p : RadTunerP} {s : State} (hs : (chainOf s h.flow).service ≠ 2) (hw : tunerOk p) (hp : p.op = 2) :
    radTuner h p s = done (putChain h.flow { chainOf s h.flow with backoff := 0 } s) := by
  simp only [radTuner, hs, hp, hw.writes]
  rfl

/-- One state is set, and the reply waits for the next reading. -/
theorem radTuner_set {h : Hdr} {p : RadTunerP} {s : State} (hs : (chainOf s h.flow).service ≠ 2) (hw : tunerOk p) (hp : p.op = 0)
    (hl : p.states.length = 1) (hn : (chainOf s h.flow).tunerSearch = none) (ht : (chainOf s h.flow).tunerWait = none) :
    radTuner h p s = {
      st := putChain h.flow { tunerSet (nth {} p.states 0) s (chainOf s h.flow) with tunerWait := some (h.qp, h.tag) } s, wait := true } := by
  simp [radTuner, hs, hp, hl, hn, ht, hw.writes, setTuner_put, withChain_put]

/-- The first candidate is set, and the search goes on as a job. -/
theorem radTuner_search {h : Hdr} {p : RadTunerP} {s : State} (hs : (chainOf s h.flow).service ≠ 2) (hw : tunerOk p) (hp : p.op = 1)
    (hl : 1 ≤ p.states.length) (hm : p.states.length ≤ 16) (hn : (chainOf s h.flow).tunerSearch = none) (ht : (chainOf s h.flow).tunerWait = none) :
    radTuner h p s = {
      st := tick1 (putChain h.flow { tunerSet (nth {} p.states 0) s (chainOf s h.flow) with
        tunerSearch := some { job := freshJob s, states := p.states, prev := (chainOf s h.flow).tunerState, startedNs := rawNs s } } s),
      status := stPending, info := freshJob s } := by
  have h0 : p.states ≠ [] := List.length_pos_iff.mp hl
  simp [radTuner, hs, hp, h0, Nat.not_lt.mpr hm, hn, ht, hw.writes, setTuner_put, withChain_put]

theorem tunerTimeout_searching {c : Nat} {x : TunerSearch} {s : State} (h : (chainOf s c).tunerSearch = some x) :
    ∃ k : ChainSt, tunerTimeout c s = raiseW (0x026 + 8 * c) (Config.tunerWord stTimeout 0 0 % 2 ^ 32) (putChain c k s) ∧
      k.tunerSearch = none ∧ k.tunerState = x.prev := by
  cases hp : x.prev with
  | none => exact ⟨{ chainOf s c with tunerSearch := none, tunerState := none }, by simp [tunerTimeout, h, hp, withChain_put], rfl, rfl⟩
  | some y =>
    exact ⟨tunerSet y s { chainOf s c with tunerSearch := none },
      by simp [tunerTimeout, h, hp, withChain_put, setTuner_put, tunerSet], rfl, rfl⟩

/-- A search that takes too long puts the state before it back, and changes nothing else but the events (R165). -/
theorem tunerTimeout_restores {c : Nat} {x : TunerSearch} {s : State} (h : (chainOf s c).tunerSearch = some x) :
    (∃ e r, tunerTimeout c s = { s with evt := e, rfc := r }) ∧ (chainOf (tunerTimeout c s) c).tunerSearch = none ∧
      (chainOf (tunerTimeout c s) c).tunerState = x.prev ∧ (tunerTimeout c s).evt.cause = causeAfter (0x026 + 8 * c) s := by
  obtain ⟨k, ht, hn, hp⟩ := tunerTimeout_searching h
  rw [ht, chainOf_congr (raiseW_rfc ..), chainOf_putChain_same]
  exact ⟨⟨_, _, raiseW_only ..⟩, hn, hp, raise_causeAfter ..⟩

/-- Settles O31: a command is Ready, so its reply is what its meaning comes to; a clause on an event chooses the branch of its row. -/
theorem calibrationAndTuner : Obligations.CalibrationAndTuner := by
  intro h s
  refine ⟨fun p hr => ?_, fun c hc => ?_, fun c failedStep degC j hj hr hf => ?_, fun c degC was hc hw h0 hn hs => ?_, fun p hr hs hw => ?_,
    fun c x hx => ?_⟩
  · exact ⟨fun hp => agentRun_refuses hr (radCal_bad hp), fun h0 hm hb => agentRun_refuses hr (radCal_busy h0 hm hb), exec_radCal_pending hr⟩
  · obtain ⟨hk, hsys, htm, hsec, hf⟩ := calStart_starts hc
    exact ⟨_, rfl, by rw [hk]; rfl, by rw [hk]; rfl, hsys, htm, hsec, hf⟩
  · obtain ⟨hk, ho, hw, he, hd⟩ := calDone_ends (degC := degC) hj hr hf
    obtain ⟨e, g, ht⟩ := calDone_only hj hr hf degC
    refine ⟨_, rfl, by rw [ht]; rfl, ho, ?_, ?_, ?_, ?_, ?_, ?_, hw, he, hd⟩
    all_goals rw [hk]
    all_goals simp +contextual [calEnded]
  · exact ⟨fun hd => congrArg Host.Outcome.next (autoRecal_within hc hw hd),
      fun hd => congrArg Host.Outcome.next (autoRecal_drifted hc hw h0 hn hs hd)⟩
  · refine ⟨fun hp => agentRun_refuses hr (radTuner_badOp hs hp), fun hp => agentRun_answers hr _ (radTuner_endBackoff hs hw hp) rfl rfl rfl rfl,
      fun hp hl hn ht => agentRun_waits hr (radTuner_set hs hw hp hl hn ht) rfl, fun hp hl hm hn ht => ?_⟩
    obtain ⟨hj, hk⟩ := freshJob_range s
    exact ⟨freshJob s, hj, hk, agentRun_answers hr _ (radTuner_search hs hw hp hl hm hn ht) rfl rfl rfl rfl⟩
  · obtain ⟨⟨e, r, ht⟩, hn, hp, hc⟩ := tunerTimeout_restores hx
    exact ⟨_, rfl, by rw [ht], hn, hp, hc⟩

end Sys2Proof.Proofs
end

section
/-!
PROOFS. Receive gain and raw transmissions (R153-R156, R177, R178): first what each meaning and each event comes to, then the command path around
RAD_TX_RAW.
-/
namespace Sys2Proof.Proofs
open Machine Safety Laws

/-! RAD_TX_RAW (R177, R178). -/

/-- The ranges of RAD_TX_RAW on a chain (R177). -/
def rawOk (k : ChainSt) (p : RadTxRawP) : Prop :=
  phyOk p.phyMode = true ∧ -40 ≤ p.powerHdbm ∧ p.powerHdbm ≤ 20 ∧ p.kind ≤ 1 ∧ p.cls ≤ 7 ∧ (p.kind = 0 → 9 ≤ p.length ∧ p.length ≤ 2047) ∧
    (p.kind = 1 → 1 ≤ p.durationUs ∧ p.durationUs ≤ 100000) ∧ (channelCentre k p.phyMode p.channel).isSome = true

/-- The check of the ranges, beside the channel, that RAD_TX_RAW makes. -/
def rawOutOfRange (p : RadTxRawP) : Bool :=
  !phyOk p.phyMode || p.powerHdbm < -40 || 20 < p.powerHdbm || 1 < p.kind || 7 < p.cls ||
    (p.kind = 0 && (p.length < 9 || 2047 < p.length)) || (p.kind = 1 && (p.durationUs = 0 || 100000 < p.durationUs))

theorem rawOk_iff (k : ChainSt) (p : RadTxRawP) :
    rawOk k p ↔ rawOutOfRange p = false ∧ (channelCentre k p.phyMode p.channel).isNone = false := by
  simp [rawOk, rawOutOfRange, and_assoc, Nat.one_le_iff_ne_zero]

/-- A raw transmission as it waits for the plan of its slot (R178). -/
def rawAsked (h : Hdr) (p : RadTxRawP) : RawTx := { qp := h.qp, tag := h.tag, p := p, actNs := if hflag h 1 = true then some h.actTime else none }

theorem radTxRaw_inService {h : Hdr} {p : RadTxRawP} {s : State} (hs : (chainOf s h.flow).service ≠ 2) :
    radTxRaw h p s =
      if rawOutOfRange p then refuse s stBadParam
      else if (channelCentre (chainOf s h.flow) p.phyMode p.channel).isNone then refuse s stBadParam
      else if (chainOf s h.flow).service = 1 || (chainOf s h.flow).testHold then refuse s stBusy
      else { st := putChain h.flow { chainOf s h.flow with raws := (chainOf s h.flow).raws ++ [rawAsked h p] } s, wait := true } :=
  if_neg hs

theorem radTxRaw_bad {h : Hdr} {p : RadTxRawP} {s : State} (hs : (chainOf s h.flow).service ≠ 2) (hp : ¬ rawOk (chainOf s h.flow) p) :
    radTxRaw h p s = refuse s stBadParam := by
  rw [rawOk_iff, not_and_or, Bool.not_eq_false, Bool.not_eq_false] at hp
  rw [radTxRaw_inService hs]
  rcases hp with hp | hp
  · rw [if_pos hp]
  · rw [if_pos hp, ite_self]

theorem radTxRaw_busy {h : Hdr} {p : RadTxRawP} {s : State} (hs : (chainOf s h.flow).service ≠ 2) (hp : rawOk (chainOf s h.flow) p)
    (hb : (chainOf s h.flow).service = 1 ∨ (chainOf s h.flow).testHold = true) : radTxRaw h p s = refuse s stBusy := by
  obtain ⟨hr, hc⟩ := (rawOk_iff ..).mp hp
  simp [radTxRaw_inService hs, hr, hc, hb]

theorem radTxRaw_waits {h : Hdr} {p : RadTxRawP} {s : State} (hp : rawOk (chainOf s h.flow) p) (hs : (chainOf s h.flow).service = 0)
    (ht : (chainOf s h.flow).testHold = false) : radTxRaw h p s =
      { st := putChain h.flow { chainOf s h.flow with raws := (chainOf s h.flow).raws ++ [rawAsked h p] } s, wait := true } := by
  obtain ⟨hr, hc⟩ := (rawOk_iff ..).mp hp
  rw [radTxRaw_inService (by omega), hr, hc, hs, ht]
  rfl

/-! The wideband step of a boundary (R154, R155). -/

/-- A chain after a boundary: the mode it runs in, then the step. -/
def agcStepped (power : List (Int × Nat)) (s : State) (c : Nat) : ChainSt := { chainOf s c with
  agcWide := wantsWide s c,
  gainIndex := if wantsWide s c && (chainOf s c).service = 0 then
      gainBy (wideStep (chainOf s c).wbTarget (nth (0, 0) power c).1 (nth (0, 0) power c).2) (chainOf s c).gainIndex
    else (chainOf s c).gainIndex }

/-- The chains of a list after a boundary. -/
def agcAll (power : List (Int × Nat)) (l : List Nat) (s : State) : State := l.foldl (fun s c => putChain c (agcStepped power s c) s) s

theorem agcBoundary_all (power : List (Int × Nat)) (s : State) : agcBoundary power s = agcAll power (List.range 4) s := rfl

theorem chainLanes_putChain (c d : Nat) (k : ChainSt) (s : State) : chainLanes (putChain c k s) d = chainLanes s d := rfl

theorem wantsWide_putChain_other {c d : Nat} (h : d ≠ c) (k : ChainSt) (s : State) : wantsWide (putChain c k s) d = wantsWide s d := by
  rw [wantsWide, wantsWide, chainOf_putChain_other h, chainLanes_putChain]

theorem agcStepped_putChain_other {c d : Nat} (h : d ≠ c) (power : List (Int × Nat)) (k : ChainSt) (s : State) :
    agcStepped power (putChain c k s) d = agcStepped power s d := by
  rw [agcStepped, wantsWide_putChain_other h, chainOf_putChain_other h, agcStepped]

theorem agcAll_rfc (power : List (Int × Nat)) (l : List Nat) (s : State) : ∃ r, agcAll power l s = { s with rfc := r } := by
  induction l generalizing s with
  | nil => exact ⟨_, rfl⟩
  | cons c l ih => exact ih (putChain c _ s)

theorem chainOf_agcAll_other {power : List (Int × Nat)} {l : List Nat} {c : Nat} (hc : c ∉ l) (s : State) :
    chainOf (agcAll power l s) c = chainOf s c := by
  induction l generalizing s with
  | nil => rfl
  | cons d l ih =>
    obtain ⟨hd, hl⟩ := List.ne_and_not_mem_of_not_mem_cons hc
    exact (ih hl _).trans (chainOf_putChain_other hd ..)

/-- Each chain of the list is stepped once. -/
theorem chainOf_agcAll {power : List (Int × Nat)} {l : List Nat} {c : Nat} (hl : l.Nodup) (hc : c ∈ l) (s : State) :
    chainOf (agcAll power l s) c = agcStepped power s c := by
  induction l generalizing s with
  | nil => cases hc
  | cons d l ih =>
    obtain ⟨hd, hl⟩ := List.nodup_cons.mp hl
    change chainOf (agcAll power l (putChain d (agcStepped power s d) s)) c = _
    by_cases hcd : c = d
    · subst hcd
      rw [chainOf_agcAll_other hd, chainOf_putChain_same]
    · rw [ih hl ((List.mem_cons.mp hc).resolve_left hcd), agcStepped_putChain_other hcd]

theorem rawSlotBoundary_running {s : State} (h : s.slot.running = true) (env : SlotEnv) : rawSlotBoundary env s = s := if_pos h

theorem rawSlotBoundary_stopped {s : State} (h : s.slot.running = false) (env : SlotEnv) :
    rawSlotBoundary env s = agcAll env.power (List.range 4) s := by
  rw [rawSlotBoundary, h, ← agcBoundary_all]
  rfl

theorem rawSlotBoundary_steps {s : State} (h : s.slot.running = false) (env : SlotEnv) : (∃ r, rawSlotBoundary env s = { s with rfc := r }) ∧
    ∀ c < 4, chainOf (rawSlotBoundary env s) c = agcStepped env.power s c := by
  rw [rawSlotBoundary_stopped h]
  exact ⟨agcAll_rfc .., fun c hc => chainOf_agcAll List.nodup_range (List.mem_range.mpr hc) s⟩

/-- A step of at most four indexes, none where the window was measured for under 100 us (R155). -/
theorem wideStep_range (target p : Int) (us : Nat) : -4 ≤ wideStep target p us ∧ wideStep target p us ≤ 4 := by
  unfold wideStep cdivI
  split_ifs <;> omega

theorem wideStep_short {us : Nat} (h : us < 100) (target p : Int) : wideStep target p us = 0 := if_pos h

/-- The step goes down where the power is more than 3.5 dB above its target, and up where it is as far below. -/
theorem wideStep_sign {us : Nat} (h : 100 ≤ us) (target p : Int) :
    (wideStep target p us < 0 ↔ 14 < p - target) ∧ (0 < wideStep target p us ↔ 14 < target - p) := by
  unfold wideStep cdivI
  split_ifs <;> omega

/-! The narrowband loop (R153). -/

theorem gainBy_down (n : Nat) {i : Nat} (h : i ≤ 23) : gainBy (-n) i = i - n := by
  unfold gainBy clampI
  omega

theorem gainBy_up (n i : Nat) : gainBy n i = min 23 (i + n) := by
  unfold gainBy clampI
  omega

/-- The only lane of chain c searches and listens, and the chain's gain is narrowband. -/
structure NarrowLoop (c n : Nat) (s : State) : Prop where
  lanes : chainLanes s c = [n]
  narrow : (chainOf s c).agcWide = false
  searches : (physOf s (lanePhys s n)).state = 0
  listening : listens s (lanePhys s n) = true

theorem nbAgc_loop {c n : Nat} {s : State} (h : NarrowLoop c n s) (level : Int) : nbAgc c level s =
    if 6 < level - (chainOf s c).nbTarget then putChain c { chainOf s c with gainIndex := gainBy (-1) (chainOf s c).gainIndex } s
    else if 6 < (chainOf s c).nbTarget - level then putChain c { chainOf s c with gainIndex := gainBy 1 (chainOf s c).gainIndex } s
    else s := by
  simp only [nbAgc, h.lanes, h.narrow, h.searches, h.listening, withChain_put]
  simp

theorem nbAgc_down {c n : Nat} {level : Int} {s : State} (h : NarrowLoop c n s) (hg : (chainOf s c).gainIndex ≤ 23)
    (hl : 6 < level - (chainOf s c).nbTarget) :
    nbAgc c level s = putChain c { chainOf s c with gainIndex := (chainOf s c).gainIndex - 1 } s := by
  rw [nbAgc_loop h, if_pos hl, ← gainBy_down 1 hg]
  rfl

theorem nbAgc_up {c n : Nat} {level : Int} {s : State} (h : NarrowLoop c n s) (hl : 6 < (chainOf s c).nbTarget - level) :
    nbAgc c level s = putChain c { chainOf s c with gainIndex := min 23 ((chainOf s c).gainIndex + 1) } s := by
  rw [nbAgc_loop h, if_neg (by omega), if_pos hl, ← gainBy_up 1]
  rfl

theorem nbAgc_within {c n : Nat} {level : Int} {s : State} (h : NarrowLoop c n s) (hl : (level - (chainOf s c).nbTarget).natAbs ≤ 6) :
    nbAgc c level s = s := by
  rw [nbAgc_loop h, if_neg (by omega), if_neg (by omega)]

/-! Clips (R156). -/

/-- The last clip step of a chain is less than 20 us ago. -/
def clippedSoon (k : ChainSt) (now : Nat) : Prop := ∃ at0, k.lastClipNs = some at0 ∧ now < at0 + 20000

/-- A chain one clip step lower. -/
def clipStepped (now : Nat) (k : ChainSt) : ChainSt := { k with
  gainIndex := k.gainIndex - 2, lastClipNs := some now, cntClip := min (k.cntClip + 1) 0xFFFFFFFF }

theorem adcClip_few {c clipped : Nat} {s : State} (h : clipped < (chainOf s c).clipCount) : adcClip c clipped s = s := by
  simp [adcClip, h]

theorem adcClip_soon {c : Nat} {s : State} (h : clippedSoon (chainOf s c) (2 * s.time.c)) (clipped : Nat) : adcClip c clipped s = s := by
  obtain ⟨at0, ha, hn⟩ := h
  simp [adcClip, ha, rawNs, Nat.not_le.mpr hn]

theorem adcClip_steps {c clipped : Nat} {s : State} (hc : c ≤ 3) (hg : (chainOf s c).gainIndex ≤ 23) (hn : (chainOf s c).clipCount ≤ clipped)
    (hs : ¬ clippedSoon (chainOf s c) (2 * s.time.c)) :
    adcClip c clipped s = raise (0x024 + 8 * c) (putChain c (clipStepped (2 * s.time.c) (chainOf s c)) s) := by
  have hstep : adcClip c clipped s = raise (0x024 + 8 * c) (putChain c { chainOf s c with
      gainIndex := gainBy (-2) (chainOf s c).gainIndex, lastClipNs := some (2 * s.time.c), cntClip := satInc (chainOf s c).cntClip } s) := by
    cases hl : (chainOf s c).lastClipNs with
    | none => simp [adcClip, hl, Nat.not_lt.mpr hc, Nat.not_lt.mpr hn, withChain_put, rawNs]
    | some at0 =>
      have ha : at0 + 20000 ≤ 2 * s.time.c := Nat.not_lt.mp fun h => hs ⟨at0, hl, h⟩
      simp [adcClip, hl, ha, Nat.not_lt.mpr hc, Nat.not_lt.mpr hn, withChain_put, rawNs]
  rw [hstep, clipStepped, ← gainBy_down 2 hg]
  rfl

/-- Settles O32: RAD_TX_RAW is Ready, so its reply is what its meaning comes to; a clause on an event chooses the branch of its row. -/
theorem gainAndRawTransmissions : Obligations.GainAndRawTransmissions := by
  intro h s
  refine ⟨fun p hr hs => ?_, fun env hr => congrArg Host.Outcome.next (rawSlotBoundary_running hr env), fun env hr => ?_, fun target p us => ?_,
    fun c n level hl hw hx hi => ?_, fun c clipped hc hg => ?_⟩
  · exact ⟨fun hp => agentRun_refuses hr (radTxRaw_bad hs hp), fun hp hb => agentRun_refuses hr (radTxRaw_busy hs hp hb),
      fun hp h0 ht => agentRun_waits hr (radTxRaw_waits hp h0 ht) rfl⟩
  · obtain ⟨⟨r, ht⟩, hk⟩ := rawSlotBoundary_steps hr env
    refine ⟨_, rfl, by rw [ht], fun c hc => ?_⟩
    rw [hk c hc]
    simp only [agcStepped, wantsWide, Bool.and_eq_true, decide_eq_true_eq]
  · obtain ⟨hl, hu⟩ := wideStep_range target p us
    exact ⟨hl, hu, fun hs => wideStep_short hs .., fun hs => wideStep_sign hs ..⟩
  · have hn : NarrowLoop c n s := ⟨hl, hw, hx, hi⟩
    exact fun hg => ⟨fun hl => congrArg Host.Outcome.next (nbAgc_down hn hg hl), fun hl => congrArg Host.Outcome.next (nbAgc_up hn hl),
      fun hl => congrArg Host.Outcome.next (nbAgc_within hn hl)⟩
  · exact ⟨fun hi => congrArg Host.Outcome.next (hi.elim adcClip_few (adcClip_soon · clipped)),
      fun hn hs => congrArg Host.Outcome.next (adcClip_steps hc hg hn hs)⟩

end Sys2Proof.Proofs
end

section
/-!
PROOFS. What the end of a transmission before its last symbol does to its chain: lines only fall, and no count, setting or routing of an event
changes (R162, R249, R260, R273, R544, R546).
-/
namespace Sys2Proof.Proofs
open Machine Safety Laws

/-- A chain on which a transmission has been stopped: of its lines none has risen, and of the rest only the transmissions it holds and the
hold of a test have changed. -/
structure LinesFall (k x : ChainSt) : Prop where
  only : ∃ en pa ramp req pri low blank txs raws hold, x = { k with
    txEn := en, paEn := pa, rampOn := ramp, coexReq := req, coexPri := pri, coexLowNs := low, blanking := blank, txs := txs, raws := raws,
    testHold := hold }
  txEn : x.txEn = true → k.txEn = true
  paEn : x.paEn = true → k.paEn = true
  rampOn : x.rampOn = true → k.rampOn = true
  coexReq : x.coexReq = true → k.coexReq = true

theorem LinesFall.refl (k : ChainSt) : LinesFall k k := ⟨⟨_, _, _, _, _, _, _, _, _, _, rfl⟩, id, id, id, id⟩

theorem LinesFall.trans {k x y : ChainSt} (h : LinesFall k x) (g : LinesFall x y) : LinesFall k y := by
  refine ⟨?_, h.txEn ∘ g.txEn, h.paEn ∘ g.paEn, h.rampOn ∘ g.rampOn, h.coexReq ∘ g.coexReq⟩
  obtain ⟨_, _, _, _, _, _, _, _, _, _, rfl⟩ := h.only
  obtain ⟨_, _, _, _, _, _, _, _, _, _, rfl⟩ := g.only
  exact ⟨_, _, _, _, _, _, _, _, _, _, rfl⟩

theorem linesFall_lists (k : ChainSt) (txs : List TxSeq) (raws : List RawTx) (hold : Bool) :
    LinesFall k { k with txs := txs, raws := raws, testHold := hold } := ⟨⟨_, _, _, _, _, _, _, _, _, _, rfl⟩, id, id, id, id⟩

theorem LinesFall.counts {k x : ChainSt} (h : LinesFall k x) :
    x.cntStandby = k.cntStandby ∧ x.cntBlanked = k.cntBlanked ∧ x.cntLate = k.cntLate := by
  obtain ⟨_, _, _, _, _, _, _, _, _, _, rfl⟩ := h.only
  exact ⟨rfl, rfl, rfl⟩

/-- What the end of an entry can do to the chains and to the routing of events. -/
structure EndsEntry (s t : State) : Prop where
  srcCfg : t.evt.srcCfg = s.evt.srcCfg
  chains : ∀ c, LinesFall (chainOf s c) (chainOf t c)

theorem EndsEntry.refl (s : State) : EndsEntry s s := ⟨rfl, fun _ => .refl _⟩

theorem EndsEntry.trans {s t u : State} (h : EndsEntry s t) (k : EndsEntry t u) : EndsEntry s u :=
  ⟨k.srcCfg.trans h.srcCfg, fun c => (h.chains c).trans (k.chains c)⟩

theorem EndsEntry.ite {p : Prop} [Decidable p] {s t u : State} (h : EndsEntry s t) (k : EndsEntry s u) : EndsEntry s (if p then t else u) := by
  split
  · exact h
  · exact k

theorem EndsEntry.srcCfgOf {s t : State} (h : EndsEntry s t) (n : Nat) : srcCfgOf t n = srcCfgOf s n := by
  rw [Machine.srcCfgOf, Machine.srcCfgOf, h.srcCfg]

/-- A function that reaches neither the radio nor the routing. -/
theorem endsEntry_beside {s t : State} (hr : t.rfc = s.rfc := by exact rfl) (he : t.evt.srcCfg = s.evt.srcCfg := by exact rfl) : EndsEntry s t :=
  ⟨he, fun c => by rw [chainOf_congr hr]; exact .refl _⟩

theorem endsEntry_withChain {f : ChainSt → ChainSt} (hf : ∀ k, LinesFall k (f k)) (c : Nat) (s : State) : EndsEntry s (withChain c f s) := by
  refine ⟨rfl, fun d => ?_⟩
  rw [withChain_put]
  by_cases hd : d = c
  · subst hd
    rw [chainOf_putChain_same]
    exact hf _
  · rw [chainOf_putChain_other hd]
    exact .refl _

theorem endsEntry_raise (n : Nat) (s : State) : EndsEntry s (raise n s) := endsEntry_beside (raise_rfc n s) (by rw [raise_only])

theorem endsEntry_noteDelta (f : DeltaRec → DeltaRec) (s : State) : EndsEntry s (noteDelta f s) := by
  unfold noteDelta
  split
  · exact endsEntry_beside
  · exact .refl s

theorem endsEntry_leaveQueue (q id : Nat) (sent : Bool) (s : State) : EndsEntry s (leaveQueue q id sent s) := by
  unfold leaveQueue
  split
  · exact .refl s
  · next f _ =>
    extract_lets left noted counted
    have hn : EndsEntry s noted := .trans (t := left) endsEntry_beside (endsEntry_noteDelta ..)
    have hc : EndsEntry noted counted := by
      simp only [counted]
      split
      · exact .ite endsEntry_beside (.refl _)
      · exact .refl _
    obtain ⟨tm, upd, ho⟩ := reachesCamps_offerQueue q (freeBuf f.buf counted)
    rw [ho]
    exact (hn.trans hc).trans endsEntry_beside

theorem endsEntry_txReport (e : TxEntry) (acked : Bool) (rssi snr : Int) (lqi : Nat) (s : State) :
    EndsEntry s (txReport e acked rssi snr lqi s) := .ite endsEntry_beside (.refl s)

theorem endsEntry_settleBackoff (e : TxEntry) (ok : Bool) (s : State) : EndsEntry s (settleBackoff e ok s) := by
  have hn (n : Nat) (f : NbrE → NbrE) (s : State) : EndsEntry s (withNbr n f s) := endsEntry_beside
  have ht (s : State) : EndsEntry s (tick1 s) := endsEntry_beside
  unfold settleBackoff
  exact .ite (.refl s) (.ite (((hn ..).trans (ht _)).trans (endsEntry_noteDelta ..)) ((hn ..).trans (endsEntry_noteDelta ..)))

/-- A failed attempt reaches the queues, the neighbours and the slot engine, but no chain (R260). -/
theorem endsEntry_failFrame (e : TxEntry) (s : State) : EndsEntry s (failFrame e s) := by
  have hc (i : Nat) (s : State) : EndsEntry s (slotCnt i s) := endsEntry_beside
  unfold failFrame
  split
  · exact .refl s
  · extract_lets settled
    have hs : EndsEntry s settled := ((hc ..).trans (hc ..)).trans (endsEntry_settleBackoff ..)
    refine hs.trans (.ite ?_ endsEntry_beside)
    exact (((endsEntry_txReport ..).trans (endsEntry_leaveQueue ..)).trans (hc ..)).trans (endsEntry_raise ..)

theorem endsEntry_beaconLost (status i : Nat) (s : State) : EndsEntry s (beaconLost status i s) := by
  have hl : EndsEntry s (withSuper i (fun u => { u with lastOk := false }) s) := endsEntry_beside
  have hc (s : State) : EndsEntry s (slotCnt 16 s) := endsEntry_beside
  exact hl.trans (.ite (.refl _) ((hc _).trans (endsEntry_raise ..)))

theorem endsEntry_endRaw (c status info : Nat) (t rl : Int) (valid : Bool) (s : State) : EndsEntry s (endRaw c status info t rl valid s) := by
  unfold endRaw
  split
  · exact .refl s
  · next r l _ =>
    have hr : EndsEntry s (withChain c (fun k => { k with raws := l }) s) := endsEntry_withChain (by exact fun k => linesFall_lists k ..) c s
    exact hr.trans endsEntry_beside

/-- A test that gives its chain back takes its lines low where it was transmitting (R546). -/
theorem endsEntry_freeTestChain (r : TestRun) (s : State) : EndsEntry s (freeTestChain r s) := by
  unfold freeTestChain
  extract_lets c live held freed
  have hh : EndsEntry s held := endsEntry_withChain (by exact fun k => linesFall_lists k ..) c s
  have hf : EndsEntry held freed := by
    refine .ite (endsEntry_withChain (fun k => ?_) c held) (.refl _)
    exact ⟨⟨_, _, _, _, _, _, _, _, _, _, rfl⟩, nofun, nofun, nofun, nofun⟩
  refine (hh.trans hf).trans ?_
  split
  · exact endsEntry_beside
  · exact .refl _

theorem endsEntry_endTest (status : Nat) (s : State) : EndsEntry s (endTest status s) := by
  unfold endTest
  split
  · exact .refl s
  · next r _ =>
    have hr : EndsEntry s (withTest (fun t => { t with run := none, last := some r, finalStatus := status }) s) := endsEntry_beside
    exact hr.trans (.ite (.refl _) (.ite (endsEntry_freeTestChain ..) (.ite endsEntry_beside (.ite endsEntry_beside endsEntry_beside))))

/-- Only the end of a raw transmission and of a test reach a chain. -/
theorem endsEntry_endEntry (status : Nat) (e : TxEntry) (s : State) : EndsEntry s (endEntry status e s) := by
  unfold endEntry
  split
  · exact (endsEntry_endTest ..).trans (endsEntry_raise ..)
  · exact .ite endsEntry_beside (endsEntry_failFrame ..)
  · exact .ite (.refl s) endsEntry_beside
  · exact endsEntry_beaconLost ..
  · exact endsEntry_endRaw ..
  · exact .refl s

theorem endsEntry_dropCoex (c : Nat) (s : State) : EndsEntry s (dropCoex c s) := by
  refine endsEntry_withChain (fun k => ?_) c s
  split
  · exact ⟨⟨_, _, _, _, _, _, _, _, _, _, rfl⟩, id, id, id, nofun⟩
  · exact .refl k

theorem endsEntry_popTx (c : Nat) (s : State) : EndsEntry s (popTx c s) :=
  endsEntry_withChain (by exact fun k => linesFall_lists k ..) c s

theorem endsEntry_abandonTx (c status : Nat) (e : TxEntry) (s : State) : EndsEntry s (abandonTx c status e s) :=
  ((endsEntry_dropCoex ..).trans (endsEntry_popTx ..)).trans (endsEntry_endEntry ..)

theorem coexReq_dropCoex (c : Nat) (s : State) : (chainOf (dropCoex c s) c).coexReq = false := by
  rw [dropCoex, withChain_put, chainOf_putChain_same]
  split
  · rfl
  · next h => simpa using h

theorem coexReq_abandonTx (c status : Nat) (e : TxEntry) (s : State) : (chainOf (abandonTx c status e s) c).coexReq = false := by
  have h := ((endsEntry_popTx c (dropCoex c s)).trans (endsEntry_endEntry status e _)).chains c
  exact Bool.eq_false_iff.mpr fun hq => by simpa [coexReq_dropCoex] using h.coexReq hq

end Sys2Proof.Proofs
end

section
/-!
PROOFS. The synthesiser and the lines of a transmission up to its modulation (R144-R147, R159-R162, R167, R168): what each step comes to, by the
phase of the chain's first transmission.
-/
namespace Sys2Proof.Proofs
open Machine Safety Laws

theorem modHead_put {c : Nat} {t : TxSeq} {l : List TxSeq} {s : State} (h : (chainOf s c).txs = t :: l) (f : TxSeq → TxSeq) :
    modHead c f s = putChain c { chainOf s c with txs := f t :: l } s := by
  simp [modHead, withChain_put, h]

/-! The synthesiser (R144, R145, R147). -/

/-- A chain whose synthesiser has been written: a carrier that is locked already reports lock at once. -/
def synthWritten (e : TxEntry) (now : Nat) (k : ChainSt) : ChainSt :=
  let same := decide (k.synthCarrier = some e.carrier) && !k.synthUp
  { k with txs := markWritten k.txs, synthCarrier := some e.carrier, synthWriteNs := now, txLock := same, synthUp := !same }

theorem synthWrite_inService {c : Nat} {e : TxEntry} {s : State} (h : toWrite (chainOf s c).txs = some e) (hs : (chainOf s c).service = 0) :
    synthWrite c s = putChain c (synthWritten e (2 * s.time.c) (chainOf s c)) s := by
  simp [synthWrite, h, hs, withChain_put, synthWritten, rawNs]

theorem synthLock_written {c : Nat} {s : State} (h : (chainOf s c).synthCarrier.isSome = true) :
    synthLock c s = putChain c { chainOf s c with txLock := true, synthUp := false } s := by
  simp [synthLock, Option.ne_none_iff_isSome.mpr h, withChain_put]

/-- Loss of lock outside a transmission that has passed its lock deadline stops nothing (R147). -/
theorem synthUnlock_quiet {c : Nat} {s : State} (hc : c ≤ 3)
    (h : ∀ t, (chainOf s c).txs.head? = some t → t.phase ≠ 5 ∧ t.phase ≠ 6) :
    synthUnlock c s = putChain c { chainOf s c with txLock := false, synthUp := true } s := by
  cases ht : (chainOf s c).txs.head? with
  | none => simp [synthUnlock, headTx, Nat.not_lt.mpr hc, withChain_put, ht]
  | some t =>
    obtain ⟨h5, h6⟩ := h t ht
    simp [synthUnlock, headTx, Nat.not_lt.mpr hc, withChain_put, ht, h5, h6]

/-! COEX_REQ and tx_on (R159, R166-R168). -/

/-- With coex_mode 0, or without the gate, the lines stay low. -/
theorem txCoexReq_noLines {c : Nat} {t : TxSeq} {l : List TxSeq} {s : State} (h : (chainOf s c).txs = t :: l) (hp : t.phase = 0)
    (hn : ¬ ((chainOf s c).coexMode = 1 ∧ gateHeld s = true)) :
    txCoexReq c s = putChain c { chainOf s c with txs := { t with phase := 1 } :: l } s := by
  have hl : (decide ((chainOf s c).coexMode = 1) && gateHeld s) = false := by simpa using hn
  simp [txCoexReq, headTx, h, hp, hl, modHead_put h]

theorem txCoexReq_lines {c : Nat} {t : TxSeq} {l : List TxSeq} {s : State} (h : (chainOf s c).txs = t :: l) (hp : t.phase = 0)
    (hm : (chainOf s c).coexMode = 1) (hg : gateHeld s = true) (hw : (chainOf s c).coexLowNs = 0 ∨ (chainOf s c).coexLowNs + 2000 ≤ 2 * s.time.c) :
    txCoexReq c s = putChain c { chainOf s c with
      txs := { t with phase := 1 } :: l, coexReq := true, coexPri := coexPriOf (chainOf s c) t.entry } s := by
  have hd : ¬ (¬ (chainOf s c).coexLowNs = 0 ∧ rawNs s < (chainOf s c).coexLowNs + 2000) := by
    rw [rawNs]
    omega
  simp [txCoexReq, headTx, h, hp, hm, hg, hd, modHead_put h, withChain_put, coexPriOf]

theorem txRffeOn_unsecured {c : Nat} {t : TxSeq} {l : List TxSeq} {s : State} (h : (chainOf s c).txs = t :: l) (hk : t.entry.kind ≤ 2)
    (hs : t.secured = false) : txRffeOn c s = s := by
  simp [txRffeOn, headTx, h, hk, hs]

theorem txRffeOn_secured {c : Nat} {t : TxSeq} {l : List TxSeq} {s : State} (h : (chainOf s c).txs = t :: l) (hp : t.phase = 1)
    (hs : 2 < t.entry.kind ∨ t.secured = true) : txRffeOn c s = putChain c { chainOf s c with
      txs := { t with phase := 2 } :: l, rffe := (chainOf s c).rffe ++ rffeSent s (chainOf s c).seqOn } s := by
  have hn : (decide (t.entry.kind ≤ 2) && !t.secured) = false := by
    rcases hs with hs | hs
    · simp [hs]
    · simp [hs]
  simp [txRffeOn, headTx, h, hp, hn, modHead_put h]

/-! The grant (R162, R168, R170). -/

/-- COEX_GRANT after polarity. -/
def grantAt (k : ChainSt) (level : Bool) : Bool := decide (level = decide (k.grantPolarity = 0))

theorem grantAt_eq (k : ChainSt) (level : Bool) : decide ((level = true) = (k.grantPolarity = 0)) = grantAt k level := by
  cases level <;> simp [grantAt]

theorem grantDeadline_waiting {c : Nat} {t : TxSeq} {l : List TxSeq} {s : State} (h : (chainOf s c).txs = t :: l) (hp : t.phase = 2)
    (level : Bool) : grantDeadline c level s =
      if gateHeld s = false then
        abandonTx c stStandby t.entry (putChain c { chainOf s c with
          coexGrant := grantAt (chainOf s c) level, cntStandby := satInc (chainOf s c).cntStandby } s)
      else if (chainOf s c).coexMode = 1 ∧ grantAt (chainOf s c) level = false then
        raise (0x025 + 8 * c) (abandonTx c stBlanked t.entry (putChain c { chainOf s c with
          coexGrant := grantAt (chainOf s c) level, cntBlanked := satInc (chainOf s c).cntBlanked } s))
      else
        blankLanes (putChain c { chainOf s c with
          coexGrant := grantAt (chainOf s c) level, txEn := true, blanking := true, blankUntilNs := none, blankCarrier := t.entry.carrier,
          blankDist := t.entry.blanks, txs := { t with phase := 3 } :: l } s) := by
  simp only [grantDeadline, headTx, h, hp, List.head?_cons, withChain_put, modHead, grantAt_eq, gateHeld_putChain, chainOf_putChain_same,
    putChain_putChain]
  simp

theorem endsFrames_blankLanes (s : State) : EndsFrames s (blankLanes s) := by
  refine .foldl (fun s p => ?_) _ s
  split
  · exact .ite (endsFrames_abortFrame ..) (.refl s)
  · exact .refl s

/-- Without the gate the transmission ends before TX_EN rises (R162). -/
theorem grantDeadline_noGate {c : Nat} {t : TxSeq} {l : List TxSeq} {s : State} (h : (chainOf s c).txs = t :: l) (hp : t.phase = 2)
    (hg : gateHeld s = false) (level : Bool) : ((chainOf (grantDeadline c level s) c).txEn = true → (chainOf s c).txEn = true) ∧
      (chainOf (grantDeadline c level s) c).cntStandby = min ((chainOf s c).cntStandby + 1) 0xFFFFFFFF ∧
      (chainOf (grantDeadline c level s) c).coexReq = false := by
  rw [grantDeadline_waiting h hp, if_pos hg]
  have hk := (endsEntry_abandonTx c stStandby t.entry (putChain c { chainOf s c with
    coexGrant := grantAt (chainOf s c) level, cntStandby := satInc (chainOf s c).cntStandby } s)).chains c
  rw [chainOf_putChain_same] at hk
  exact ⟨hk.txEn, hk.counts.1, coexReq_abandonTx ..⟩

/-- Without the grant it ends before TX_EN rises, and the chain says so (R168). -/
theorem grantDeadline_noGrant {c : Nat} {t : TxSeq} {l : List TxSeq} {level : Bool} {s : State} (h : (chainOf s c).txs = t :: l)
    (hp : t.phase = 2) (hg : gateHeld s = true) (hm : (chainOf s c).coexMode = 1) (hn : grantAt (chainOf s c) level = false) :
    ((chainOf (grantDeadline c level s) c).txEn = true → (chainOf s c).txEn = true) ∧
      (chainOf (grantDeadline c level s) c).cntBlanked = min ((chainOf s c).cntBlanked + 1) 0xFFFFFFFF ∧
      (chainOf (grantDeadline c level s) c).coexReq = false ∧
      ((srcCfgOf s (0x025 + 8 * c)).enable = true → (grantDeadline c level s).evt.cause.testBit (0x025 + 8 * c) = true) := by
  rw [grantDeadline_waiting h hp, if_neg (by simp [hg]), if_pos ⟨hm, hn⟩, chainOf_congr (raise_rfc ..)]
  have he := endsEntry_abandonTx c stBlanked t.entry (putChain c { chainOf s c with
    coexGrant := grantAt (chainOf s c) level, cntBlanked := satInc (chainOf s c).cntBlanked } s)
  have hk := he.chains c
  rw [chainOf_putChain_same] at hk
  exact ⟨hk.txEn, hk.counts.2.1, coexReq_abandonTx .., fun hs => raise_sets (by rw [he.srcCfgOf]; exact hs)⟩

/-- Else TX_EN rises and blanking begins: only lanes, check-value units and events follow (R162, R170). -/
theorem grantDeadline_granted {c : Nat} {t : TxSeq} {l : List TxSeq} {level : Bool} {s : State} (h : (chainOf s c).txs = t :: l)
    (hp : t.phase = 2) (hg : gateHeld s = true) (hm : (chainOf s c).coexMode ≠ 1 ∨ grantAt (chainOf s c) level = true) :
    chainOf (grantDeadline c level s) c = { chainOf s c with
      coexGrant := grantAt (chainOf s c) level, txEn := true, blanking := true, blankUntilNs := none, blankCarrier := t.entry.carrier,
      blankDist := t.entry.blanks, txs := { t with phase := 3 } :: l } ∧
      (grantDeadline c level s).tm = s.tm ∧ (grantDeadline c level s).sec = s.sec := by
  have hn : ¬ ((chainOf s c).coexMode = 1 ∧ grantAt (chainOf s c) level = false) := by
    rintro ⟨h1, h2⟩
    simp [h1, h2] at hm
  rw [grantDeadline_waiting h hp, if_neg (by simp [hg]), if_neg hn]
  obtain ⟨ln, ch, ev, he⟩ := (endsFrames_blankLanes (putChain c { chainOf s c with
    coexGrant := grantAt (chainOf s c) level, txEn := true, blanking := true, blankUntilNs := none, blankCarrier := t.entry.carrier,
    blankDist := t.entry.blanks, txs := { t with phase := 3 } :: l } s)).blocks
  exact ⟨(chainOf_congr (congrArg (·.rfc) he) c).trans (chainOf_putChain_same ..), congrArg (·.tm) he, congrArg (·.sec) he⟩

/-! PA_EN, the lock deadline and the modulation (R146, R159, R161). -/

theorem txPaEnable_granted {c : Nat} {t : TxSeq} {l : List TxSeq} {s : State} (h : (chainOf s c).txs = t :: l) (hp : t.phase = 3) :
    txPaEnable c s = putChain c { chainOf s c with txs := { t with phase := 4 } :: l, paEn := true } s := by
  simp [txPaEnable, headTx, h, hp, modHead_put h, withChain_put]

theorem lockDeadline_locked {c : Nat} {t : TxSeq} {l : List TxSeq} {s : State} (h : (chainOf s c).txs = t :: l) (hp : t.phase = 4)
    (hl : (chainOf s c).txLock = true) :
    lockDeadline c s = putChain c { chainOf s c with txs := { t with phase := 5 } :: l, rampOn := true } s := by
  simp [lockDeadline, headTx, h, hp, hl, modHead_put h, withChain_put]

/-- A chain released by its first transmission: its lines low, blanking 5 us more, tx_off sent, and the profiles that waited taken (R10, R159,
R166, R170). -/
def txReleased (s : State) (k : ChainSt) : ChainSt := { k with
  txs := k.txs.drop 1, txEn := false, paEn := false, rampOn := false, coexReq := false, coexPri := if k.coexReq = true then false else k.coexPri,
  coexLowNs := if k.coexReq = true then 2 * s.time.c else k.coexLowNs,
  blankUntilNs := if k.blanking = true then some (2 * s.time.c + 5000) else k.blankUntilNs, rffe := k.rffe ++ rffeSent s k.seqOff,
  profiles := k.profileNext.foldl (fun x e => tput x e.1 e.2) k.profiles, profileNext := [] }

theorem releaseTx_put (c : Nat) (s : State) : releaseTx c s = putChain c (txReleased s (chainOf s c)) s := by
  cases hq : (chainOf s c).coexReq with
  | false => simp [releaseTx, takeProfiles, popTx, dropCoex, withChain_put, txReleased, hq, rawNs]
  | true => simp [releaseTx, takeProfiles, popTx, dropCoex, withChain_put, txReleased, hq, rawNs]

theorem lockDeadline_unlocked {c : Nat} {t : TxSeq} {l : List TxSeq} {s : State} (h : (chainOf s c).txs = t :: l) (hp : t.phase = 4)
    (hl : (chainOf s c).txLock = false) : lockDeadline c s = raise (0x023 + 8 * c) (endEntry stSynthLate t.entry
      (putChain c (txReleased s { chainOf s c with cntLate := satInc (chainOf s c).cntLate }) s)) := by
  simp [lockDeadline, headTx, h, hp, hl, withChain_put, releaseTx_put]
  rfl

/-- Without lock the lines fall at once, and the chain says so (R146). -/
theorem lockDeadline_late {c : Nat} {t : TxSeq} {l : List TxSeq} {s : State} (h : (chainOf s c).txs = t :: l) (hp : t.phase = 4)
    (hl : (chainOf s c).txLock = false) :
    (chainOf (lockDeadline c s) c).txEn = false ∧ (chainOf (lockDeadline c s) c).paEn = false ∧ (chainOf (lockDeadline c s) c).rampOn = false ∧
      (chainOf (lockDeadline c s) c).coexReq = false ∧
      (chainOf (lockDeadline c s) c).cntLate = min ((chainOf s c).cntLate + 1) 0xFFFFFFFF ∧
      ((srcCfgOf s (0x023 + 8 * c)).enable = true → (lockDeadline c s).evt.cause.testBit (0x023 + 8 * c) = true) := by
  rw [lockDeadline_unlocked h hp hl, chainOf_congr (raise_rfc ..)]
  have he := endsEntry_endEntry stSynthLate t.entry (putChain c (txReleased s { chainOf s c with cntLate := satInc (chainOf s c).cntLate }) s)
  have hk := he.chains c
  rw [chainOf_putChain_same] at hk
  exact ⟨Bool.eq_false_iff.mpr fun hx => Bool.false_ne_true (hk.txEn hx), Bool.eq_false_iff.mpr fun hx => Bool.false_ne_true (hk.paEn hx),
    Bool.eq_false_iff.mpr fun hx => Bool.false_ne_true (hk.rampOn hx), Bool.eq_false_iff.mpr fun hx => Bool.false_ne_true (hk.coexReq hx), hk.counts.2.2,
    fun hs => raise_sets (by rw [he.srcCfgOf]; exact hs)⟩

/-- The frame goes out at its power less the back-off, no lower than -20 dBm (R161). -/
theorem txModulation_ramped {c : Nat} {t : TxSeq} {l : List TxSeq} {s : State} (h : (chainOf s c).txs = t :: l) (hp : t.phase = 5) :
    txModulation c s = withRfc (fun r => { r with sent := r.sent ++ [(c, max (-40) (t.entry.power - (chainOf s c).backoff), bytesOf s t)] })
      (putChain c { chainOf s c with txs := { t with phase := 6 } :: l } s) := by
  simp [txModulation, headTx, h, hp, modHead_put h, powerOf]

/-- Settles O33: the phase of the first transmission chooses the branch of each row, and the lemma on that branch says what it leaves. -/
theorem transmitSteps : Obligations.TransmitSteps := by
  intro c s
  refine ⟨fun e h hs => congrArg Host.Outcome.next (synthWrite_inService h hs), fun h => congrArg Host.Outcome.next (synthLock_written h),
    fun hc h => congrArg Host.Outcome.next (synthUnlock_quiet hc h), fun t l h hp => ?_, fun t l h hp => ?_, fun t l level h hp => ?_,
    fun t l h hp => congrArg Host.Outcome.next (txPaEnable_granted h hp), fun t l h hp => ?_,
    fun t l h hp => congrArg Host.Outcome.next (txModulation_ramped h hp)⟩
  · refine ⟨fun hn => congrArg Host.Outcome.next (txCoexReq_noLines h hp hn), fun hm hg hw => ?_⟩
    refine ⟨_, congrArg Host.Outcome.next (txCoexReq_lines h hp hm hg hw), ?_⟩
    rw [chainOf_putChain_same]
    exact ⟨rfl, rfl, fun hk => by simp [coexPriOf, hk, bit], fun hk => by simp [coexPriOf, hk]⟩
  · exact ⟨fun hk hs => congrArg Host.Outcome.next (txRffeOn_unsecured h hk hs), fun hs => congrArg Host.Outcome.next (txRffeOn_secured h hp hs)⟩
  · exact ⟨fun hg => ⟨_, rfl, grantDeadline_noGate h hp hg level⟩, fun hg hm hn => ⟨_, rfl, grantDeadline_noGrant h hp hg hm hn⟩,
      fun hg hm => ⟨_, rfl, grantDeadline_granted h hp hg hm⟩⟩
  · exact ⟨fun hl => congrArg Host.Outcome.next (lockDeadline_locked h hp hl), fun hl => ⟨_, rfl, lockDeadline_late h hp hl⟩⟩

end Sys2Proof.Proofs
end

section
/-!
PROOFS. A frame on its way through a receive lane (R188-R190, R192, R193, R208-R210): first what an abort and the end of a frame leave, then what
each row comes to, by the state of the lane.
-/
namespace Sys2Proof.Proofs
open Machine Safety Laws

/-- The state in which physical lane p is as given. -/
def putPhys (p : Nat) (x : PhysSt) (s : State) : State := { s with lane := { s.lane with phys := tput s.lane.phys p x } }

theorem withPhys_put (p : Nat) (f : PhysSt → PhysSt) (s : State) : withPhys p f s = putPhys p (f (physOf s p)) s := rfl

@[simp] theorem physOf_putPhys_same (p : Nat) (x : PhysSt) (s : State) : physOf (putPhys p x s) p = x := tget_tput_same ..

theorem physOf_putPhys_other {p q : Nat} (h : q ≠ p) (x : PhysSt) (s : State) : physOf (putPhys p x s) q = physOf s q :=
  tget_tput_other _ _ _ h.symm

@[simp] theorem physOf_trigSnapshot (n trigger : Nat) (s : State) (p : Nat) : physOf (trigSnapshot n trigger s) p = physOf s p := rfl

/-! What an abort leaves (R188, R208). -/

/-- A lane that is not spawned goes back to SEARCH as it is. -/
theorem endFrame_notSpawned {p : Nat} {s : State} (h : roleOf s p ≠ 2) :
    endFrame p s = putPhys p { physOf s p with state := 0, frame := none } s := by
  have hr : roleOf (putPhys p { physOf s p with state := 0, frame := none } s) p ≠ 2 := by rwa [roleOf, physOf_putPhys_same]
  exact if_neg hr

theorem state_endFrame (p : Nat) (s : State) : (physOf (endFrame p s) p).state = 0 := by
  unfold endFrame toPool
  dsimp only
  split
  · obtain ⟨_, _, ht⟩ := physOf_tunePhys_same p none
      (withPhys p (fun x => { x with role := some 1, logical := some 0 }) (withPhys p (fun x => { x with frame := none, state := 0 }) s))
    rw [ht, physOf_withPhys_same, physOf_withPhys_same]
  · rw [physOf_withPhys_same]

theorem cnt_endFrame (p : Nat) (s : State) : (endFrame p s).lane.cnt = s.lane.cnt := by
  unfold endFrame
  dsimp only
  split <;> rfl

theorem endFrame_only (p : Nat) (s : State) : endFrame p s = { s with lane := (endFrame p s).lane } := by
  unfold endFrame
  dsimp only
  split <;> rfl

theorem tm_endFrame (p : Nat) (s : State) : (endFrame p s).tm = s.tm := by rw [endFrame_only]

theorem cnt_countLane (n i : Nat) (s : State) : (countLane n i s).lane.cnt = bump s.lane.cnt i := by
  unfold countLane
  split <;> rfl

theorem countLane_only (n i : Nat) (s : State) : countLane n i s = { s with lane := (countLane n i s).lane } := by
  unfold countLane
  split <;> rfl

/-- A frame that reached PAYLOAD puts its end mark in the stream of the check-value units (R208). -/
def streamEnded (p : Nat) (f : RxFrame) (s : State) : State :=
  if (physOf s p).state = 3 then chkEnds (logicalOf s p) f.data true (roleOf s p = 2) s else s

theorem streamEnded_lane (p : Nat) (f : RxFrame) (s : State) : (streamEnded p f s).lane = s.lane := by
  unfold streamEnded
  split
  · exact chkEnds_lane ..
  · rfl

/-- An abort ends the frame's stream, counts its cause, lets the frame go, and starts a snapshot that waits for it. -/
theorem abortFrame_frame {p : Nat} {f : RxFrame} {s : State} (hf : (physOf s p).frame = some f) (i : Nat) :
    abortFrame p (some i) s = endFrame p (trigSnapshot (logicalOf s p) 3
      (withPhys p (fun x => { x with frame := none, state := 0 }) (countLane (logicalOf s p) i (streamEnded p f s)))) := by
  simp [abortFrame, loseFrame, hf, streamEnded]

theorem state_abortFrame {p : Nat} {f : RxFrame} {s : State} (hf : (physOf s p).frame = some f) (i : Nat) :
    (physOf (abortFrame p (some i) s) p).state = 0 := by
  rw [abortFrame_frame hf]
  exact state_endFrame ..

theorem cnt_abortFrame {p : Nat} {f : RxFrame} {s : State} (hf : (physOf s p).frame = some f) (i : Nat) :
    tget 0 (abortFrame p (some i) s).lane.cnt i = min (tget 0 s.lane.cnt i + 1) 0xFFFFFFFF := by
  rw [abortFrame_frame hf, cnt_endFrame]
  change tget 0 (countLane (logicalOf s p) i (streamEnded p f s)).lane.cnt i = _
  rw [cnt_countLane, streamEnded_lane, tget_bump, if_pos rfl]

/-- Before PAYLOAD an abort reaches the lanes alone. -/
theorem abortFrame_only {p : Nat} {f : RxFrame} {s : State} (hf : (physOf s p).frame = some f) (h3 : (physOf s p).state ≠ 3) (i : Nat) :
    abortFrame p (some i) s = { s with lane := (abortFrame p (some i) s).lane } := by
  have hs : streamEnded p f s = s := if_neg h3
  rw [abortFrame_frame hf, hs, endFrame_only, countLane_only]
  rfl

/-! The end of a frame reaches neither a chain nor the routing of events. -/

theorem endsEntry_raiseIf (b : Bool) (n : Nat) (s : State) : EndsEntry s (raiseIf b n s) := .ite (endsEntry_raise ..) (.refl s)

theorem endsEntry_chkFrameEnd (n : Nat) (data : List Byte) (abort spawned : Bool) (u : Nat) (s : State) :
    EndsEntry s (chkFrameEnd n data abort spawned u s) := by
  have hu (f : ChkSt → ChkSt) (s : State) : EndsEntry s (withChkU u f s) := endsEntry_beside
  unfold chkFrameEnd
  refine .ite (.refl s) (.ite (hu ..) (.ite ?_ (hu ..)))
  exact (EndsEntry.ite (.refl s) (hu ..)).trans ((hu ..).trans (endsEntry_raiseIf ..))

theorem endsEntry_chkEnds (n : Nat) (data : List Byte) (abort spawned : Bool) (s : State) : EndsEntry s (chkEnds n data abort spawned s) :=
  List.foldlRecOn (motive := EndsEntry s) (List.range 8) _ (.refl s) (fun _ ht _ _ => ht.trans (endsEntry_chkFrameEnd ..))

theorem endsEntry_abortFrame {p : Nat} {f : RxFrame} {s : State} (hf : (physOf s p).frame = some f) (i : Nat) :
    EndsEntry s (abortFrame p (some i) s) := by
  have hs : EndsEntry s (streamEnded p f s) := .ite (endsEntry_chkEnds ..) (.refl s)
  rw [abortFrame_frame hf, endFrame_only, countLane_only]
  exact hs.trans endsEntry_beside

/-! Preambles (R192, R193). -/

theorem preambleDetect_tuned {p : Nat} {u : LaneTune} {s : State} (hp : p < 104) (hr : roleOf s p = 0) (hu : (physOf s p).tune = some u)
    (corr : Nat) (rssi : Int) : preambleDetect p corr rssi s =
      if validPreamble s p corr (rssi - (chainOf s u.chain).rxFeGain) then preamble p (rssi - (chainOf s u.chain).rxFeGain) s else s := by
  simp [preambleDetect, hp, hr, hu]

theorem validPreamble_iff {p : Nat} {u : LaneTune} {s : State} (hu : (physOf s p).tune = some u) (corr : Nat) (r : Int) :
    validPreamble s p corr r = true ↔ listens s p = true ∧ (phyCfgOf s (logicalOf s p) u.phy).detThreshold ≤ corr ∧
      (phyCfgOf s (logicalOf s p) u.phy).edFloor ≤ r := by
  simp [validPreamble, hu, and_assoc]

/-- In SEARCH a valid preamble starts a frame. -/
theorem preamble_search {p : Nat} {u : LaneTune} {s : State} (hu : (physOf s p).tune = some u) (h0 : (physOf s p).state = 0) (r : Int) :
    preamble p r s = putPhys p { physOf s p with
      state := 1, frame := some { rssi := r, startNs := 2 * s.time.c, cfg := phyCfgOf s (logicalOf s p) u.phy } } s := by
  simp [preamble, takePreamble, startFrame, h0, hu, withPhys_put, rawNs]

/-- In PAYLOAD a preamble below the capture margin is ignored where no lane is spawned. -/
theorem preamble_belowMargin {p : Nat} {f : RxFrame} {r : Int} {s : State} (hf : (physOf s p).frame = some f) (h3 : (physOf s p).state = 3)
    (hr : r < f.rssi + (laneOf s (logicalOf s p)).captureMargin) (hn : spawnOf s (logicalOf s p) = none) : preamble p r s = s := by
  have hc : captures s p r = false := by simpa [captures, hf] using hr
  simp [preamble, h3, hc, hn]

/-! The states up to PAYLOAD (R188-R190, R202, R210). -/

theorem syncFieldEnd_preamble {p : Nat} {f : RxFrame} {s : State} (h1 : (physOf s p).state = 1) (hf : (physOf s p).frame = some f) :
    syncFieldEnd p s = trigSnapshot (logicalOf s p) 2
      (putPhys p { physOf s p with state := 2, frame := some { f with tsNs := selNs s, asn := s.slot.asn } } s) := by
  simp [syncFieldEnd, h1, hf, withPhys_put]

theorem maxPreamble_preamble {p : Nat} {s : State} (h1 : (physOf s p).state = 1) (hr : roleOf s p ≠ 2) :
    maxPreamble p s = putPhys p { physOf s p with state := 0, frame := none } s := by
  simp [maxPreamble, h1, endFrame_notSpawned hr]

theorem toPayload_put {p : Nat} {f : RxFrame} {s : State} (hf : (physOf s p).frame = some f) (hd : PhyHdr) (map : List Nat) :
    toPayload p hd map s = tick1 (putPhys p { physOf s p with
      state := 3, frame := some { f with hdr := hd, map := map, id := s.free, handle := Config.bufferHandle s.free % 2 ^ 32 } } s) := by
  simp [toPayload, withPhys_put, hf]

section
variable {p : Nat} {f : RxFrame} {u : LaneTune} {hd : PhyHdr} {s : State} (h2 : (physOf s p).state = 2) (hf : (physOf s p).frame = some f)
  (hu : (physOf s p).tune = some u)
include h2 hf hu

theorem headerCheck_bad (hb : headerBad f.cfg u.phy hd = true) : headerCheck p hd s = abortFrame p (some 2) s := by
  simp [headerCheck, h2, hf, hu, hb]

theorem headerCheck_payload (hb : headerBad f.cfg u.phy hd = false) (hz : u.phy ≠ 12) : headerCheck p hd s = toPayload p hd [] s := by
  simp [headerCheck, h2, hf, hu, hb, hz]

theorem headerCheck_noMap (hb : headerBad f.cfg u.phy hd = false) (hz : u.phy = 12) (hm : zaoMap s hd = none) :
    headerCheck p hd s = abortFrame p (some 2) (raise 0x045 (laneCnt 8 s)) := by
  rw [hz] at hb
  simp [headerCheck, h2, hf, hu, hb, hz, hm]

/-- A ZAO payload without a map ends the frame, and the lane says so (R202). -/
theorem headerCheck_noMap_ends (hb : headerBad f.cfg u.phy hd = false) (hz : u.phy = 12) (hm : zaoMap s hd = none) :
    (physOf (headerCheck p hd s) p).frame = none ∧ (physOf (headerCheck p hd s) p).state = 0 ∧
      (headerCheck p hd s).evt.cause = causeAfter 0x045 s := by
  have hp : physOf (raise 0x045 (laneCnt 8 s)) p = physOf s p := by rw [physOf, raise_lane]; rfl
  have hf' : (physOf (raise 0x045 (laneCnt 8 s)) p).frame = some f := hp ▸ hf
  have h3 : (physOf (raise 0x045 (laneCnt 8 s)) p).state ≠ 3 := by simp [hp, h2]
  rw [headerCheck_noMap h2 hf hu hb hz hm]
  refine ⟨frame_abortFrame .., state_abortFrame hf' 2, ?_⟩
  rw [abortFrame_only hf' h3]
  exact raise_causeAfter ..

end

/-! PAYLOAD and the end of the frame (R190, R209, R210). -/

theorem reserveFell_only (before : Nat) (s : State) : reserveFell before s = { s with evt := (reserveFell before s).evt } := raiseIf_only ..

section
variable {p : Nat} {f : RxFrame} {u : LaneTune} {s : State} (h3 : (physOf s p).state = 3) (hf : (physOf s p).frame = some f)
  (hu : (physOf s p).tune = some u)
include h3 hf hu

/-- Bytes take cells while there are any. -/
theorem cellAlloc_room {data : List Byte} (hz : s.fwall.frozen.contains (28 + u.chain) = false)
    (hc : cellsFor (f.data.length + data.length) ≤ freeCells s + f.cells) : cellAlloc p data false s =
      reserveFell (freeCells s) (putPhys p { physOf s p with frame := some { f with
        data := f.data ++ data, cells := cellsFor (f.data.length + data.length), staged := 0, queued := f.queued + cdiv data.length 4 } } s) := by
  simp only [cellAlloc, hf, hu, h3, hz, Nat.not_lt.mpr hc, withPhys_put]
  rfl

theorem cellAlloc_full {data : List Byte} (hc : freeCells s + f.cells < cellsFor (f.data.length + data.length)) :
    cellAlloc p data false s = noBuffer p s := by
  simp [cellAlloc, hf, hu, h3, hc]

theorem laneFrameEnd_payload (hz : u.phy ≠ 12) (fcsOk : Bool) (snr : Int) (tone : List Nat) :
    laneFrameEnd p fcsOk snr tone s = if fcsOk then frameDone p u f snr s else abortFrame p (some 1) s := by
  simp [laneFrameEnd, hf, hu, h3, hz]

end

/-- A no-buffer abort is counted and raises its event (R190). -/
theorem noBuffer_ends {p : Nat} {f : RxFrame} {s : State} (hf : (physOf s p).frame = some f) :
    (physOf (noBuffer p s) p).frame = none ∧ tget 0 (noBuffer p s).lane.cnt 7 = min (tget 0 s.lane.cnt 7 + 1) 0xFFFFFFFF ∧
      ((srcCfgOf s 0x043).enable = true → (noBuffer p s).evt.cause.testBit 0x043 = true) := by
  unfold noBuffer
  rw [physOf_congr (raise_lane ..), raise_lane]
  exact ⟨frame_abortFrame .., cnt_abortFrame hf 7, fun he => raise_sets (by rwa [(endsEntry_abortFrame hf 7).srcCfgOf])⟩

/-- The acknowledgement of a frame is a job of the slot engine. -/
theorem noteAckJob_only (u : LaneTune) (n : Nat) (f : RxFrame) (s : State) :
    ∃ b k, noteAckJob u n f s = { s with slot := b, free := k } := by
  unfold noteAckJob
  split
  · extract_lets job put
    split
    · exact ⟨_, _, rfl⟩
    · split
      · exact ⟨_, _, rfl⟩
      · split
        · exact ⟨_, _, rfl⟩
        · exact ⟨_, _, rfl⟩
  · exact ⟨_, _, rfl⟩

/-- A lane whose frame has ended in DONE: the frame is counted, its acknowledgement noted, and its record has joined the chain's queue (R188, R210,
R263). -/
def doneRecorded (p : Nat) (u : LaneTune) (f : RxFrame) (snr : Int) (s : State) : State :=
  withLane (fun b => { b with fabric := b.fabric ++ [(p, f.id, airRecord u (logicalOf s p) (decide (roleOf s p = 2)) f snr)] })
    (noteAckJob u (logicalOf s p) f (countLane (logicalOf s p) 0 (chkEnds (logicalOf s p) f.data false (roleOf s p = 2) s)))

theorem frameDone_doneRecorded (p : Nat) (u : LaneTune) (f : RxFrame) (snr : Int) (s : State) : frameDone p u f snr s =
    withTm (fun t => { t with bufs := t.bufs ++ [{ id := f.id, handle := f.handle, data := f.data, cells := f.cells }] })
      (endFrame p (doneRecorded p u f snr s)) := rfl

theorem doneRecorded_keeps (p : Nat) (u : LaneTune) (f : RxFrame) (snr : Int) (s : State) : (doneRecorded p u f snr s).lane.fabric =
      s.lane.fabric ++ [(p, f.id, airRecord u (logicalOf s p) (decide (roleOf s p = 2)) f snr)] ∧
    (doneRecorded p u f snr s).lane.cnt = bump s.lane.cnt 0 ∧ (doneRecorded p u f snr s).tm = s.tm := by
  have he := (endsFrames_chkEnds (logicalOf s p) f.data false (roleOf s p = 2) s).trans (endsFrames_countLane (logicalOf s p) 0 _)
  have hcnt := cnt_countLane (logicalOf s p) 0 (chkEnds (logicalOf s p) f.data false (roleOf s p = 2) s)
  rw [chkEnds_lane] at hcnt
  unfold doneRecorded
  generalize countLane (logicalOf s p) 0 (chkEnds (logicalOf s p) f.data false (roleOf s p = 2) s) = counted at he hcnt ⊢
  obtain ⟨_, _, _, hb⟩ := he.blocks
  obtain ⟨_, _, hn⟩ := noteAckJob_only u (logicalOf s p) f counted
  rw [hn]
  exact ⟨congrArg (· ++ _) he.fabric, hcnt, congrArg (·.tm) hb⟩

/-- In DONE the record joins the chain's queue and the cells stay with the frame in the buffer. -/
theorem frameDone_leaves (p : Nat) (u : LaneTune) (f : RxFrame) (snr : Int) (s : State) :
    (physOf (frameDone p u f snr s) p).frame = none ∧ (physOf (frameDone p u f snr s) p).state = 0 ∧
      (frameDone p u f snr s).lane.fabric =
        s.lane.fabric ++ [(p, f.id, airRecord u (logicalOf s p) (decide (roleOf s p = 2)) f snr)] ∧
      (frameDone p u f snr s).tm.bufs = s.tm.bufs ++ [{ id := f.id, handle := f.handle, data := f.data, cells := f.cells }] ∧
      tget 0 (frameDone p u f snr s).lane.cnt 0 = min (tget 0 s.lane.cnt 0 + 1) 0xFFFFFFFF := by
  obtain ⟨hfab, hcnt, htm⟩ := doneRecorded_keeps p u f snr s
  rw [frameDone_doneRecorded, physOf_congr (withTm_lane ..), withTm_lane, withTm_tm]
  refine ⟨frame_endFrame .., state_endFrame .., (endsFrames_endFrame ..).fabric.trans hfab, ?_, ?_⟩
  · rw [tm_endFrame, htm]
  · rw [cnt_endFrame, hcnt, tget_bump, if_pos rfl]

/-- Settles O36: the lane's state chooses the branch of each row, and the lemma on that branch says what it leaves. -/
theorem laneReception : Obligations.LaneReception := by
  intro p s
  refine ⟨fun corr rssi u hp hr hu => ⟨fun h => ?_, fun hl hc he h0 => ?_, fun f hf h3 hw hn => ?_⟩, fun f h1 hf => ?_,
    fun h1 hr => congrArg Host.Outcome.next (maxPreamble_preamble h1 hr), fun f u hd h2 hf hu => ⟨fun hb => ?_, fun hb hz => ?_, fun hb hz hm => ?_⟩,
    fun f u data h3 hf hu hz => ⟨fun hc => ?_, fun hc => ?_⟩, fun f u snr tone h3 hf hu hz => ⟨?_, ?_⟩⟩
  · refine congrArg Host.Outcome.next ((preambleDetect_tuned hp hr hu ..).trans (if_neg ?_))
    rw [validPreamble_iff hu]
    rintro ⟨hl, hc, he⟩
    rcases h with h | h | h
    · exact Bool.false_ne_true (h.symm.trans hl)
    · exact absurd hc (Nat.not_le.mpr h)
    · exact absurd he (Int.not_le.mpr h)
  · refine congrArg Host.Outcome.next ((preambleDetect_tuned hp hr hu ..).trans ?_)
    rw [if_pos ((validPreamble_iff hu ..).mpr ⟨hl, hc, he⟩)]
    exact preamble_search hu h0 _
  · refine congrArg Host.Outcome.next ((preambleDetect_tuned hp hr hu ..).trans ?_)
    rw [preamble_belowMargin hf h3 hw hn, ite_self]
  · refine ⟨_, congrArg Host.Outcome.next (syncFieldEnd_preamble h1 hf), rfl, ?_, fun q hq => ?_⟩
    · rw [physOf_trigSnapshot, physOf_putPhys_same]
    · rw [physOf_trigSnapshot, physOf_putPhys_other hq]
  · exact ⟨_, congrArg Host.Outcome.next (headerCheck_bad h2 hf hu hb), abortFrame_only hf (by simp [h2]) 2, frame_abortFrame ..,
      state_abortFrame hf 2, cnt_abortFrame hf 2⟩
  · exact congrArg Host.Outcome.next ((headerCheck_payload h2 hf hu hb hz).trans (toPayload_put hf ..))
  · exact ⟨_, rfl, headerCheck_noMap_ends h2 hf hu hb hz hm⟩
  · refine ⟨_, congrArg Host.Outcome.next (cellAlloc_room h3 hf hu hz hc), ?_, ?_⟩
    all_goals rw [reserveFell_only]; rfl
  · exact ⟨_, congrArg Host.Outcome.next (cellAlloc_full h3 hf hu hc), noBuffer_ends hf⟩
  · exact ⟨_, congrArg Host.Outcome.next (laneFrameEnd_payload h3 hf hu hz true snr tone), frameDone_leaves ..⟩
  · obtain ⟨l, k, e, hb⟩ := (endsFrames_abortFrame p (some 1) s).blocks
    exact ⟨_, congrArg Host.Outcome.next (laneFrameEnd_payload h3 hf hu hz false snr tone), frame_abortFrame .., state_abortFrame hf 1,
      (endsFrames_abortFrame ..).fabric, congrArg (·.tm) hb, cnt_abortFrame hf 1⟩

end Sys2Proof.Proofs
end

section
/-!
PROOFS. The time domains and the selected reading: what is read of a domain after a change to one, and what R225 makes of the selected reading
(R216, R219, R220, R225-R227).
-/
namespace Sys2Proof.Proofs
open Machine Safety Laws

/-! Domains. -/

@[simp] theorem domOf_setDom_same (i : Nat) (d : DomSt) (t : TimeSt) : domOf (setDom i d t) i = d := by
  unfold domOf setDom
  split <;> rfl

@[simp] theorem domOf_setDom_opposite (i : Nat) (d : DomSt) (t : TimeSt) : domOf (setDom i d t) (1 - i) = domOf t (1 - i) := by
  by_cases hi : i = 0
  · simp [domOf, setDom, hi]
  · simp [domOf, setDom, hi, show 1 - i = 0 by omega]

theorem setDom_only (i : Nat) (d : DomSt) (t : TimeSt) :
    setDom i d t = { t with domA := (setDom i d t).domA, domB := (setDom i d t).domB } := by
  unfold setDom
  split <;> rfl

@[simp] theorem setDom_c (i : Nat) (d : DomSt) (t : TimeSt) : (setDom i d t).c = t.c := by rw [setDom_only]

/-- The selected reading sees of a domain only what it reads (R219, R225). -/
theorem selAt_setDom {i : Nat} {d : DomSt} {t : TimeSt} (h : domAt d t.c = domAt (domOf t i) t.c) : selAt (setDom i d t) = selAt t := by
  have hT : domAt (selDom (setDom i d t)) t.c = domAt (selDom t) t.c := by
    simp only [domOf] at h
    simp only [selDom, domOf, setDom]
    split_ifs at h ⊢ <;> simp_all
  rw [selAt, setDom_c, hT, setDom_only]
  rfl

/-- A fold moves no reading at the cycle of the fold (R220). -/
theorem domAt_foldRate (r : Int) (d : DomSt) (c : Nat) : domAt (foldRate r c d c) c = domAt d c := by
  simp [domAt, foldRate, add_assoc]

/-! The rate of a domain (R220). -/

theorem domOf_setRate_same (i : Nat) (r : Int) (s : State) :
    domOf (setRate i r s).time i = foldRate r s.time.c (domOf s.time i) s.time.c := domOf_setDom_same ..

theorem domOf_setRate_opposite (i : Nat) (r : Int) (s : State) : domOf (setRate i r s).time (1 - i) = domOf s.time (1 - i) :=
  domOf_setDom_opposite ..

theorem setRate_c (i : Nat) (r : Int) (s : State) : (setRate i r s).time.c = s.time.c := setDom_c ..

theorem domAt_setRate (i : Nat) (r : Int) (s : State) :
    domAt (domOf (setRate i r s).time i) s.time.c = domAt (domOf s.time i) s.time.c := by
  rw [domOf_setRate_same, domAt_foldRate]

/-! The residual and the selected reading (R225, R226). -/

theorem residual_still {t : TimeSt} (h : t.slewing = false) : Machine.residual t = 0 := by simp [Machine.residual, h]

/-- No time of a slew has passed at the cycle that began it. -/
theorem residual_begun {t : TimeSt} (hs : t.slewing = true) (hc : t.e0C = t.c) : Machine.residual t = t.e0 := by
  simp only [Machine.residual, hs, hc, Nat.sub_self, Nat.mul_zero, Nat.zero_mul, Nat.zero_div, Nat.cast_zero, Int.sub_zero, Int.add_zero, if_true]
  split
  · next h => exact max_eq_right h
  · next h => exact min_eq_right (not_le.mp h).le

/-- What R225 makes of T_sel leaves the domains, the counter and the settings. -/
theorem reselect_only (before : Int) (jump : Bool) (t : TimeSt) : ∃ e0 e0C slewing holding holdS,
    reselect before jump t = { t with e0 := e0, e0C := e0C, slewing := slewing, holding := holding, holdS := holdS } := by
  unfold reselect
  dsimp only
  split_ifs
  all_goals exact ⟨_, _, _, _, _, rfl⟩

@[simp] theorem domOf_reselect (before : Int) (jump : Bool) (t : TimeSt) (i : Nat) : domOf (reselect before jump t) i = domOf t i := by
  obtain ⟨_, _, _, _, _, h⟩ := reselect_only before jump t
  rw [h]
  rfl

@[simp] theorem reselect_c (before : Int) (jump : Bool) (t : TimeSt) : (reselect before jump t).c = t.c := by
  obtain ⟨_, _, _, _, _, h⟩ := reselect_only before jump t
  rw [h]

/-- The rows of R225 below the first, with E' written out. -/
theorem reselect_rows (before : Int) (t : TimeSt) : reselect before false t =
    if 0 ≤ domAt (selDom t) t.c - before ∧ domAt (selDom t) t.c - before ≤ t.threshold * 65536 then
      { t with e0 := 0, slewing := false, holding := false }
    else if domAt (selDom t) t.c - before < 0 ∧ -(t.threshold * 65536 : Int) ≤ domAt (selDom t) t.c - before then
      { t with e0 := 0, slewing := false, holding := true, holdS := before }
    else { t with e0 := domAt (selDom t) t.c - before, e0C := t.c, slewing := true, holding := false } := by
  simp only [reselect, Bool.false_or, Bool.and_eq_true, decide_eq_true_eq]

/-- Past the first row of R225 the selected reading goes forward by E' where that is at most the threshold, and stays where it was otherwise. -/
theorem selAt_reselect (before : Int) (t : TimeSt) : selAt (reselect before false t) =
    if 0 ≤ domAt (selDom t) t.c - before ∧ domAt (selDom t) t.c - before ≤ t.threshold * 65536 then domAt (selDom t) t.c else before := by
  rw [reselect_rows]
  split_ifs with hj hh
  · rw [selAt, residual_still rfl]
    exact Int.sub_zero _
  · rw [selAt, residual_still rfl]
    exact max_eq_left (by rw [Int.sub_zero]; exact (sub_neg.mp hh.1).le)
  · rw [selAt, residual_begun rfl rfl]
    exact Int.sub_sub_self _ _

/-- Past the first row of R225 the selected reading never goes back (R227). -/
theorem le_selAt_reselect (before : Int) (t : TimeSt) : before ≤ selAt (reselect before false t) := by
  rw [selAt_reselect]
  split
  · next h => exact Int.sub_nonneg.mp h.1
  · exact le_rfl

/-! A step (R220, R223, R225). -/

/-- A domain stepped: its offset, and TRACKED as its mark says. -/
def steppedDom (inc : Int) (mark : Nat) (d : DomSt) : DomSt :=
  { d with o := d.o + inc, tracked := if mark = 1 then true else if mark = 2 then false else d.tracked }

theorem stepDomain_selected {i : Nat} {s : State} (hi : i = s.time.sel) (inc : Int) (mark : Nat) : stepDomain i inc mark s =
    withTime (fun t => reselect (selAt t) (!(domOf t i).tracked && !s.slot.running) (setDom i (steppedDom inc mark (domOf t i)) t)) s := by
  simp [stepDomain, steppedDom, withTime, hi]

theorem stepDomain_unselected {i : Nat} {s : State} (hi : i ≠ s.time.sel) (inc : Int) (mark : Nat) :
    stepDomain i inc mark s = withTime (fun t => setDom i (steppedDom inc mark (domOf t i)) t) s := by
  simp [stepDomain, steppedDom, withTime, hi]

@[simp] theorem domOf_stepDomain_same (i : Nat) (inc : Int) (mark : Nat) (s : State) :
    domOf (stepDomain i inc mark s).time i = steppedDom inc mark (domOf s.time i) := by
  by_cases hi : i = s.time.sel
  · simp [stepDomain_selected hi]
  · simp [stepDomain_unselected hi]

@[simp] theorem domOf_stepDomain_opposite (i : Nat) (inc : Int) (mark : Nat) (s : State) :
    domOf (stepDomain i inc mark s).time (1 - i) = domOf s.time (1 - i) := by
  by_cases hi : i = s.time.sel
  · simp [stepDomain_selected hi]
  · simp [stepDomain_unselected hi]

@[simp] theorem stepDomain_c (i : Nat) (inc : Int) (mark : Nat) (s : State) : (stepDomain i inc mark s).time.c = s.time.c := by
  by_cases hi : i = s.time.sel
  · simp [stepDomain_selected hi]
  · simp [stepDomain_unselected hi]

/-- A step of the selected domain takes the first row of R225 only where that domain is not tracked and the slot engine is stopped. -/
theorem selAt_le_stepDomain {i : Nat} {s : State} (hi : i = s.time.sel) (ht : (domOf s.time i).tracked = true ∨ s.slot.running = true)
    (inc : Int) (mark : Nat) : selAt s.time ≤ selAt (stepDomain i inc mark s).time := by
  have hj : (!(domOf s.time i).tracked && !s.slot.running) = false := by rcases ht with h | h <;> simp [h]
  rw [stepDomain_selected hi, withTime_time, hj]
  exact le_selAt_reselect ..

/-! Events that go with a change of time. -/

@[simp] theorem raiseW_time (n w : Nat) (s : State) : (raiseW n w s).time = s.time := by rw [raiseW_only]

@[simp] theorem raiseW_hif (n w : Nat) (s : State) : (raiseW n w s).hif = s.hif := by rw [raiseW_only]

theorem raiseW_causeAfter (n w : Nat) (s : State) : (raiseW n w s).evt.cause = causeAfter n s := raise_causeAfter ..

end Sys2Proof.Proofs
end

section
/-!
PROOFS. Steering of the time domains (R216, R220-R228, R232, R240, R241): first what each meaning and each event comes to, in any state, then
the command path around the commands.
-/
namespace Sys2Proof.Proofs
open Machine Safety Laws

/-! A TIME cycle (R216, R232). -/

theorem step_idle {s : State} (h : s.pending = []) : step s = .next (timeTick s) := by
  rw [step, h]

/-- The pulses that go on are those that end after the cycle. -/
theorem mem_pulseEnd_timeTick (s : State) (e : Nat × Nat) :
    e ∈ (timeTick s).time.pulseEnd ↔ e ∈ s.time.pulseEnd ∧ 2 * (s.time.c + 1) < e.2 := by
  simp [timeTick]

/-- A pin falls where one of its pulses has ended. -/
theorem testBit_timeOut_timeTick (s : State) (pin : Nat) : (timeTick s).time.timeOut.testBit pin =
    (s.time.timeOut.testBit pin && !s.time.pulseEnd.any (fun e => e.1 = pin && decide (e.2 ≤ 2 * (s.time.c + 1)))) := by
  have hf : (timeTick s).time.timeOut = List.foldl (fun c b => clrBit c b) s.time.timeOut
      ((s.time.pulseEnd.filter (fun e => decide (e.2 ≤ 2 * (s.time.c + 1)))).map Prod.fst) := by
    rw [List.foldl_map]
    rfl
  rw [hf, testBit_foldl_clrBit fun b => b]
  simp only [List.any_map, List.any_filter, Function.comp_def, eq_comm (a := pin), Bool.and_comm]

/-- Settles O2: an idle step is a TIME cycle, which counts one and ends pulses. -/
theorem idleStepCountsTime : Obligations.IdleStepCountsTime :=
  fun s hp => ⟨_, _, step_idle hp, mem_pulseEnd_timeTick s, testBit_timeOut_timeTick s⟩

/-! TIME_RATE (R220, R221). -/

theorem timeRate_bad {h : Hdr} {p : TimeRateP} {s : State} (hp : p.rate < -rateMax ∨ rateMax < p.rate) :
    timeRate h p s = refuse s stBadParam := by
  rw [timeRate, if_pos]
  simpa [or_comm] using hp

theorem timeRate_ok {h : Hdr} {p : TimeRateP} {s : State} (hl : -rateMax ≤ p.rate) (hh : p.rate ≤ rateMax)
    (hs : (domOf s.time h.flow).src = 0) :
    timeRate h p s = done (setRate h.flow p.rate s) (leS 4 (domOf s.time h.flow).r ++ zeros 4 ++ rawBytes s) := by
  rw [timeRate, if_neg (by simp [hl, hh]), if_neg (not_not.mpr hs)]

/-- Settles O39: the range is the meaning's first check; a rate within it goes through the fold, which moves no reading. -/
theorem rateRange : Obligations.RateRange := by
  intro h p s hr
  refine ⟨fun hp => agentRun_refuses hr (timeRate_bad hp), fun hl hh hs =>
    ⟨_, _, agentRun_answers hr _ (timeRate_ok hl hh hs) rfl (setRate_c ..) rfl rfl, rfl, ?_, setRate_c .., domOf_setRate_opposite ..,
      domAt_setRate ..⟩⟩
  exact congrArg DomSt.r (domOf_setRate_same ..)

/-! TIME_STEP (R220, R223-R225). -/

theorem timeStep_bad {h : Hdr} {p : TimeStepP} {s : State} (hp : 2 < p.markTracked) : timeStep h p s = refuse s stBadParam := if_pos hp

theorem timeStep_busy {h : Hdr} {p : TimeStepP} {s : State} (hp : p.markTracked ≤ 2) (hs : (domOf s.time h.flow).src ≠ 0) :
    timeStep h p s = refuse s stBusy := by
  simp [timeStep, Nat.not_lt.mpr hp, hs]

/-- The increment of TIME_STEP, in 2^-16 ns (R240). -/
def stepInc (p : TimeStepP) : Int := p.stepNs * 65536 + (p.stepFrac : Int)

theorem timeStep_ok {h : Hdr} {p : TimeStepP} {s : State} (hp : p.markTracked ≤ 2) (hs : (domOf s.time h.flow).src = 0) :
    timeStep h p s = done (stepDomain h.flow (stepInc p) p.markTracked s)
      (leS 8 (domAt (domOf (stepDomain h.flow (stepInc p) p.markTracked s).time h.flow) s.time.c / 65536) ++ le 8 (2 * s.time.c)) := by
  rw [timeStep, if_neg (Nat.not_lt.mpr hp), if_neg (not_not.mpr hs)]
  simp [stepInc, domReading, rawBytes, rawNs]

/-! TIME_SELECT (R225, R227, R228). -/

/-- The ranges of TIME_SELECT (R240). -/
def timeSelectOk (p : TimeSelectP) : Prop :=
  p.domain ≤ 1 ∧ p.stepThresholdNs ≤ 1000 ∧ 1 ≤ p.slewPpm ∧ p.slewPpm ≤ 50 ∧ p.force ≤ 1

theorem timeSelectOk_iff (p : TimeSelectP) : timeSelectOk p ↔
    ¬ (decide (1 < p.domain) || decide (1000 < p.stepThresholdNs) || decide (p.slewPpm = 0) || decide (50 < p.slewPpm) ||
      decide (1 < p.force)) = true := by
  simp [timeSelectOk, and_assoc, Nat.one_le_iff_ne_zero]

theorem timeSelect_bad {h : Hdr} {p : TimeSelectP} {s : State} (hp : ¬ timeSelectOk p) : timeSelect h p s = refuse s stBadParam := by
  rw [timeSelectOk_iff, not_not] at hp
  exact if_pos hp

/-- A TIME_SELECT of the domain already selected sets the threshold and the slew rate, and says so (R228). -/
theorem timeSelect_same {h : Hdr} {p : TimeSelectP} {s : State} (hp : timeSelectOk p) (hd : p.domain = s.time.sel) :
    timeSelect h p s = done (withTime (sameSelect p) s) (zeros 8 ++ le 1 (selMode (sameSelect p s.time))) := by
  rw [timeSelectOk_iff] at hp
  rw [timeSelect, if_neg hp, if_pos hd]
  rfl

theorem residual_sameSelect (p : TimeSelectP) (t : TimeSt) : Machine.residual (sameSelect p t) = Machine.residual t := by
  cases hs : t.slewing with
  | false => rw [residual_still hs, residual_still (t := sameSelect p t) hs]
  | true => exact residual_begun (t := sameSelect p t) hs rfl

theorem selAt_sameSelect (p : TimeSelectP) (t : TimeSt) : selAt (sameSelect p t) = selAt t := by
  rw [selAt, residual_sameSelect]
  rfl

theorem timeSelect_forced {h : Hdr} {p : TimeSelectP} {s : State} (hp : timeSelectOk p) (hd : p.domain ≠ s.time.sel) (hf : p.force = 1)
    (hr : s.slot.running = true) : timeSelect h p s = refuse s stBusy := by
  rw [timeSelectOk_iff] at hp
  rw [timeSelect, if_neg hp, if_neg hd]
  exact if_pos (by simp [hf, hr])

theorem timeSelect_untracked {h : Hdr} {p : TimeSelectP} {s : State} (hp : timeSelectOk p) (hd : p.domain ≠ s.time.sel)
    (ht : (domOf s.time p.domain).tracked = false) (ho : s.time.domA.tracked = true ∨ s.time.domB.tracked = true) :
    timeSelect h p s = refuse s stBusy := by
  rw [timeSelectOk_iff] at hp
  rw [← Bool.or_eq_true] at ho
  simp only [timeSelect, if_neg hp, if_neg hd, ht, ho, Bool.not_false, Bool.and_true, if_true, ite_self]

/-- The TIME block with the settings of a TIME_SELECT of the other domain, and what R225 makes of the selected reading. -/
def selected (p : TimeSelectP) (t : TimeSt) : TimeSt :=
  reselect (selAt t) (!(domOf t p.domain).tracked || p.force = 1)
    { t with sel := p.domain, threshold := p.stepThresholdNs, slewPpm := p.slewPpm }

theorem timeSelect_other {h : Hdr} {p : TimeSelectP} {s : State} (hp : timeSelectOk p) (hd : p.domain ≠ s.time.sel)
    (hf : p.force = 0 ∨ s.slot.running = false)
    (ht : (domOf s.time p.domain).tracked = true ∨ (s.time.domA.tracked = false ∧ s.time.domB.tracked = false)) :
    ∃ w data, timeSelect h p s = done (raiseW 0x104 w (withTime (selected p) s)) data := by
  rw [timeSelectOk_iff] at hp
  have hn : ¬ (decide (p.force = 1) && s.slot.running) = true := by rcases hf with h | h <;> simp [h]
  have hu : ¬ (!(domOf s.time p.domain).tracked && (s.time.domA.tracked || s.time.domB.tracked)) = true := by
    rcases ht with h | ⟨ha, hb⟩
    · simp [h]
    · simp [ha, hb]
  simp only [timeSelect, if_neg hp, if_neg hd, if_neg hn, if_neg hu]
  exact ⟨_, _, rfl⟩

/-- The domain selected is the one named, with the settings given, and no domain changes. -/
theorem selected_settings (p : TimeSelectP) (t : TimeSt) : (selected p t).sel = p.domain ∧ (selected p t).domA = t.domA ∧
    (selected p t).domB = t.domB ∧ (selected p t).threshold = p.stepThresholdNs ∧ (selected p t).slewPpm = p.slewPpm ∧
    (selected p t).c = t.c := by
  unfold selected
  obtain ⟨_, _, _, _, _, h⟩ := reselect_only (selAt t) (!(domOf t p.domain).tracked || p.force = 1)
    { t with sel := p.domain, threshold := p.stepThresholdNs, slewPpm := p.slewPpm }
  rw [h]
  exact ⟨rfl, rfl, rfl, rfl, rfl, rfl⟩

/-- Selecting a tracked domain without force never takes the selected reading back (R227). -/
theorem selAt_le_selected {p : TimeSelectP} {t : TimeSt} (ht : (domOf t p.domain).tracked = true) (hf : p.force = 0) :
    selAt t ≤ selAt (selected p t) := by
  have hj : (!(domOf t p.domain).tracked || decide (p.force = 1)) = false := by simp [ht, hf]
  rw [selected, hj]
  exact le_selAt_reselect ..

theorem exec_timeSelect_other {h : Hdr} {p : TimeSelectP} {s : State} (hr : Ready h (.timeSelect p) s) (hp : timeSelectOk p)
    (hd : p.domain ≠ s.time.sel) (hf : p.force = 0 ∨ s.slot.running = false)
    (ht : (domOf s.time p.domain).tracked = true ∨ (s.time.domA.tracked = false ∧ s.time.domB.tracked = false)) :
    ∃ t data, exec (.timeSelect h p) s = .next t ∧
      t = { s with hif := answered h (.timeSelect p) stOk 0 data s, time := t.time, evt := t.evt } ∧ t.time = selected p s.time ∧
      t.evt.cause = causeAfter 0x104 s := by
  obtain ⟨w, data, hx⟩ := timeSelect_other (h := h) (s := inFlightWith h (.timeSelect p) s) hp hd hf ht
  obtain ⟨_, _, _, _, _, hc⟩ := selected_settings p s.time
  refine ⟨_, data, agentRun_answers hr _ hx (raiseW_hif ..) (by rw [← hc]; exact congrArg TimeSt.c (raiseW_time ..)) rfl rfl, ?_,
    raiseW_time .., raiseW_causeAfter ..⟩
  simp only [done]
  rw [raiseW_only]
  rfl

/-! TIME_STATUS (R241). -/

theorem timeStatus_selected {h : Hdr} (hf : h.flow = 2) (p : TimeStatusP) (s : State) : timeStatus h p s =
    done s (leS 8 (selNs s) ++ le 8 (2 * s.time.c) ++ leS 4 (clampI (-2147483647) 2147483647 (Machine.residual s.time / 65536)) ++
      le 1 (timeStatusWord s % 256)) := if_pos hf

theorem timeStatus_domain {h : Hdr} (hf : h.flow ≠ 2) (p : TimeStatusP) (s : State) : timeStatus h p s =
    done s (leS 8 (domAt (domOf s.time h.flow) s.time.c / 65536) ++ le 8 (2 * s.time.c) ++ leS 4 (domOf s.time h.flow).r ++
      leS 4 (if (domOf s.time h.flow).src = 0 then 0 else (domOf s.time h.flow).lastOffset)) := if_neg hf

/-! The ends of a slew and of a hold, and the fold (R220, R225, R226). -/

theorem slewDone_ends {s : State} (hs : s.time.slewing = true) (he : Machine.residual s.time = 0) :
    slewDone s = raise 0x105 { s with time := { s.time with slewing := false, e0 := 0 } } := by
  simp [slewDone, hs, he, withTime]

theorem slewDone_early {s : State} (h : s.time.slewing = false ∨ Machine.residual s.time ≠ 0) : slewDone s = s := by
  rcases h with h | h <;> simp [slewDone, h]

theorem holdRelease_ends {s : State} (hh : s.time.holding = true) (hd : s.time.holdS ≤ domAt (selDom s.time) s.time.c) :
    holdRelease s = { s with time := { s.time with holding := false } } := by
  simp [holdRelease, hh, hd, withTime]

theorem holdRelease_early {s : State} (h : s.time.holding = false ∨ domAt (selDom s.time) s.time.c < s.time.holdS) : holdRelease s = s := by
  rcases h with h | h <;> simp [holdRelease, h]

theorem rateFold_folds {d : Nat} (hd : d ≤ 1) (s : State) : rateFold d s = setRate d (domOf s.time d).r s := if_neg (Nat.not_lt.mpr hd)

/-- Settles O40: each command is Ready, so its reply and its effect are what its meaning comes to. -/
theorem timeSteering : Obligations.TimeSteering := by
  intro h s
  refine ⟨fun p hr => ⟨fun hp => agentRun_refuses hr (timeStep_bad hp), fun hp hs => agentRun_refuses hr (timeStep_busy hp hs),
      fun hp hs => ?step⟩, fun p hr => ⟨fun hp => agentRun_refuses hr (timeSelect_bad hp),
      fun hp hd hf hs => agentRun_refuses hr (timeSelect_forced hp hd hf hs),
      fun hp hd ht ho => agentRun_refuses hr (timeSelect_untracked hp hd ht ho), fun hp hd => ?same, fun hp hd hf ht => ?other⟩,
    fun p hr => ⟨fun hf => agentRun_answers hr _ (timeStatus_selected hf ..) rfl rfl rfl rfl,
      fun hf => agentRun_answers hr _ (timeStatus_domain hf ..) rfl rfl rfl rfl⟩,
    fun hs he => congrArg Host.Outcome.next (slewDone_ends hs he), fun he => congrArg Host.Outcome.next (slewDone_early he),
    fun hh hd => congrArg Host.Outcome.next (holdRelease_ends hh hd), fun he => congrArg Host.Outcome.next (holdRelease_early he),
    fun d hd => ?fold⟩
  case step =>
    exact ⟨_, agentRun_answers hr _ (timeStep_ok hp hs) rfl (stepDomain_c ..) rfl rfl, rfl, domOf_stepDomain_same ..,
      domOf_stepDomain_opposite .., stepDomain_c .., fun hi ht => selAt_le_stepDomain (s := inFlightWith h (.timeStep p) s) hi ht ..⟩
  case same =>
    exact ⟨_, _, agentRun_answers hr _ (timeSelect_same hp hd) rfl rfl rfl rfl, rfl, rfl, selAt_sameSelect ..⟩
  case other =>
    obtain ⟨t, data, hx, ht', htime, hcause⟩ := exec_timeSelect_other hr hp hd hf ht
    obtain ⟨hsel, ha, hb, hth, hsl, _⟩ := selected_settings p s.time
    refine ⟨t, data, hx, ht', ?_⟩
    rw [htime]
    exact ⟨hsel, ha, hb, hth, hsl, hcause, selAt_le_selected⟩
  case fold =>
    refine ⟨_, congrArg Host.Outcome.next (rateFold_folds hd s), rfl, ?_, ?_, domAt_setRate .., setRate_c ..⟩
    all_goals
      rw [domOf_setRate_same]
      rfl

end Sys2Proof.Proofs
end

section
/-!
PROOFS. Comparators and captures (R229-R233, R238, R240): first what each meaning and each event comes to, in any state, then the command path
around the commands.
-/
namespace Sys2Proof.Proofs
open Machine Safety Laws

/-! TIME_TRIGGER (R229-R232). -/

/-- Comparators 2 to 11 are the host's (R229). -/
theorem cmpReserved_iff (n : Nat) : cmpReserved n = true ↔ n < 2 ∨ 12 ≤ n := by simp [cmpReserved]

theorem cmpReserved_host {n : Nat} (hl : 2 ≤ n) (hh : n ≤ 11) : ¬ cmpReserved n = true := by
  rw [cmpReserved_iff]
  omega

/-- The state in which comparator n is as given. -/
def putCmp (n : Nat) (c : CmpSt) (s : State) : State := { s with time := { s.time with cmps := tput s.time.cmps n c } }

theorem withCmp_put (n : Nat) (f : CmpSt → CmpSt) (s : State) : withCmp n f s = putCmp n (f (cmpOf s n)) s := rfl

theorem timeTrigger_badOp {h : Hdr} {p : TimeTriggerP} {s : State} (hp : 1 < p.op) : timeTrigger h p s = refuse s stBadParam := if_pos hp

theorem timeTrigger_reserved {h : Hdr} {p : TimeTriggerP} {s : State} (hp : p.op ≤ 1) (hn : h.flow - 0x100 < 2 ∨ 12 ≤ h.flow - 0x100) :
    timeTrigger h p s = refuse s stBusy := by
  simp only [timeTrigger, if_neg (Nat.not_lt.mpr hp), if_pos ((cmpReserved_iff _).mpr hn)]

theorem timeTrigger_disarm {h : Hdr} {p : TimeTriggerP} {s : State} (hp : p.op = 1) (hl : 2 ≤ h.flow - 0x100) (hh : h.flow - 0x100 ≤ 11) :
    timeTrigger h p s = done (disarm (h.flow - 0x100) s) := by
  simp only [timeTrigger, if_neg (Nat.not_lt.mpr hp.le), if_neg (cmpReserved_host hl hh), if_pos hp]

/-- A comparator that an arm has set, at this target (R231). -/
def armedCmp (p : TimeTriggerP) (target : Nat) (c : CmpSt) : CmpSt := { c with
  armed := true, ref := p.ref, target := target, period := p.periodNs, actions := p.actions, pin := p.pin, pinMode := p.pinMode,
  pulseNs := p.pulseNs, skipped := 0 }

/-- The pin of an arm is free: the arm has no PIN action, or no other armed comparator drives the pin (R232). -/
def pinFree (n : Nat) (p : TimeTriggerP) (s : State) : Prop := p.actions.testBit 1 = false ∨ pinTaken s n p.pin = false

theorem not_pinBusy {n : Nat} {p : TimeTriggerP} {s : State} (h : pinFree n p s) : ¬ (bit p.actions 1 && pinTaken s n p.pin) = true := by
  rcases h with h | h <;> simp [bit, h]

section Arm

variable {h : Hdr} {p : TimeTriggerP} {s : State} (hp : p.op = 0) (hl : 2 ≤ h.flow - 0x100) (hh : h.flow - 0x100 ≤ 11)

include hp hl hh

/-- An arm of a host comparator: the checks after those on the operation and the comparator (R230-R232). -/
theorem timeTrigger_arm : timeTrigger h p s =
      if triggerOk p = false then refuse s stBadParam
      else if refTracked s p.ref = false then refuse s stBusy
      else if bit p.actions 1 && pinTaken s (h.flow - 0x100) p.pin then refuse s stBusy
      else if p.periodNs = 0 && (p.targetNs : Int) ≤ refNs s p.ref then refuse (disarm (h.flow - 0x100) s) stPastTime
      else
        let t := nextTarget p.targetNs p.periodNs (refNs s p.ref)
        done (putCmp (h.flow - 0x100) (armedCmp p t (cmpOf s (h.flow - 0x100))) s) (le 8 t) := by
  simp only [timeTrigger, hp, if_neg (cmpReserved_host hl hh), Bool.not_eq_true', withCmp_put]
  rfl

theorem timeTrigger_badParam (hk : triggerOk p = false) : timeTrigger h p s = refuse s stBadParam := by
  rw [timeTrigger_arm hp hl hh, if_pos hk]

theorem timeTrigger_untracked (hk : triggerOk p = true) (ht : refTracked s p.ref = false) : timeTrigger h p s = refuse s stBusy := by
  rw [timeTrigger_arm hp hl hh, if_neg (ne_false_of_eq_true hk), if_pos ht]

theorem timeTrigger_past (hk : triggerOk p = true) (ht : refTracked s p.ref = true) (hf : pinFree (h.flow - 0x100) p s) (h0 : p.periodNs = 0)
    (hn : (p.targetNs : Int) ≤ refNs s p.ref) : timeTrigger h p s = refuse (disarm (h.flow - 0x100) s) stPastTime := by
  rw [timeTrigger_arm hp hl hh, if_neg (ne_false_of_eq_true hk), if_neg (ne_false_of_eq_true ht), if_neg (not_pinBusy hf),
    if_pos (by simp [h0, hn])]

theorem timeTrigger_arms (hk : triggerOk p = true) (ht : refTracked s p.ref = true) (hf : pinFree (h.flow - 0x100) p s)
    (hn : p.periodNs ≠ 0 ∨ refNs s p.ref < (p.targetNs : Int)) : timeTrigger h p s =
      done (putCmp (h.flow - 0x100) (armedCmp p (nextTarget p.targetNs p.periodNs (refNs s p.ref)) (cmpOf s (h.flow - 0x100))) s)
        (le 8 (nextTarget p.targetNs p.periodNs (refNs s p.ref))) := by
  have hlate : ¬ (decide (p.periodNs = 0) && decide ((p.targetNs : Int) ≤ refNs s p.ref)) = true := by
    rcases hn with h | h <;> simp [h]
  rw [timeTrigger_arm hp hl hh, if_neg (ne_false_of_eq_true hk), if_neg (ne_false_of_eq_true ht), if_neg (not_pinBusy hf), if_neg hlate]

end Arm

/-- The target that an arm starts at: its own where that lies ahead, else the first of its periods that does (R231). -/
theorem nextTarget_ahead {target period : Nat} {now : Int} (h : period ≠ 0 ∨ now < (target : Int)) :
    now < (nextTarget target period now : Int) ∧ (now < (target : Int) → nextTarget target period now = target) ∧
      ∃ k, nextTarget target period now = target + k * period := by
  by_cases ha : now < (target : Int)
  · have hx : nextTarget target period now = target := if_pos ha
    exact ⟨by rwa [hx], fun _ => hx, 0, by simp [hx]⟩
  · obtain ⟨hl, _, hk⟩ := nextTarget_first (target := target) (now := now) (Nat.pos_of_ne_zero (h.resolve_right ha)) (by omega)
    exact ⟨hl, fun hx => absurd hx ha, hk⟩

/-! TIME_CAPTURE_CFG and captures (R233, R238, R240). -/

/-- The state in which capture input i is as given. -/
def putCap (i : Nat) (c : CapSt) (s : State) : State := { s with time := { s.time with caps := tput s.time.caps i c } }

/-- The ranges of TIME_CAPTURE_CFG (R240). -/
def captureCfgOk (p : TimeCaptureCfgP) : Prop := p.input ≤ 4 ∧ p.edge ≤ 3 ∧ p.clear ≤ 1

theorem captureCfgOk_iff (p : TimeCaptureCfgP) : captureCfgOk p ↔
    ¬ (decide (4 < p.input) || decide (3 < p.edge) || decide (1 < p.clear)) = true := by
  simp [captureCfgOk, and_assoc]

theorem timeCaptureCfg_bad {h : Hdr} {p : TimeCaptureCfgP} {s : State} (hp : ¬ captureCfgOk p) :
    timeCaptureCfg h p s = refuse s stBadParam := by
  rw [captureCfgOk_iff, not_not] at hp
  exact if_pos hp

theorem timeCaptureCfg_ok {h : Hdr} {p : TimeCaptureCfgP} {s : State} (hp : captureCfgOk p) : timeCaptureCfg h p s =
    done (putCap p.input (if p.clear = 1 then { (tget {} s.time.caps p.input) with edgeSel := p.edge, queue := [], ovf := false }
      else { (tget {} s.time.caps p.input) with edgeSel := p.edge }) s) := by
  rw [captureCfgOk_iff] at hp
  exact if_neg hp

/-- The bit of EDGE_SEL that an edge needs (R238). -/
def edgeBit (falling : Bool) : Nat := if falling then 1 else 0

/-- What an edge of this cycle leaves in the queue (R233). -/
def edgeEntry (falling : Bool) (s : State) : CapEntry := { raw := rawNs s, a := refNs s 1, b := refNs s 2, falling := falling }

theorem timeInEdge_unselected {i : Nat} {falling : Bool} {s : State} (hi : i < 4)
    (he : (tget {} s.time.caps i).edgeSel.testBit (edgeBit falling) = false) : timeInEdge i falling s = s :=
  (if_pos hi).trans (if_pos (by rw [bit]; exact congrArg not he))

/-- A selected edge is lost where sixteen entries wait, and else joins them, with EV_TIME_CAPTURE where none did (R233). -/
theorem timeInEdge_selected {i : Nat} {falling : Bool} {s : State} (hi : i < 4)
    (he : (tget {} s.time.caps i).edgeSel.testBit (edgeBit falling) = true) : timeInEdge i falling s =
      if 16 ≤ (tget {} s.time.caps i).queue.length then raise 0x103 (putCap i { (tget {} s.time.caps i) with ovf := true } s)
      else raiseIf (tget {} s.time.caps i).queue.isEmpty 0x102
        (putCap i { (tget {} s.time.caps i) with queue := (tget {} s.time.caps i).queue ++ [edgeEntry falling s] } s) := by
  rw [timeInEdge, if_pos hi]
  exact if_neg (by rw [bit]; exact (congrArg not he).symm ▸ Bool.false_ne_true)

/-- What a read of CAP_RAW_LO returns: the raw time of the oldest entry, 0 from an empty queue (R238). -/
def frontRaw (q : List CapEntry) : Nat := match q.head? with | some e => s2n 32 e.raw | none => 0

theorem captureRead_pops {i : Nat} (hi : i < 5) (s : State) : captureRead i s = { s with
    time := { s.time with caps := tput s.time.caps i { (tget {} s.time.caps i) with
      latched := (tget {} s.time.caps i).queue.head?, queue := (tget {} s.time.caps i).queue.tail } },
    hif := { s.hif with readData := frontRaw (tget {} s.time.caps i).queue } } := by
  rw [captureRead, if_neg (Nat.not_le.mpr hi), ← List.drop_one]
  rfl

/-- The words that a read of SNAP_RAW_LO latches: each reading in two words, its low word first (R238). -/
theorem snapshotRead_words {r : Nat} (hr : r < 4) (s : State) :
    nth 0 (snapshotRead s).time.snap (2 * r) + 2 ^ 32 * nth 0 (snapshotRead s).time.snap (2 * r + 1) = s2n 64 (refNs s r) := by
  obtain rfl | rfl | rfl | rfl : r = 0 ∨ r = 1 ∨ r = 2 ∨ r = 3 := by omega
  all_goals exact Nat.mod_add_div ..

/-- Settles O41: each command is Ready, so its reply and its effect are what its meaning comes to; an edge goes by what waits in its queue. -/
theorem comparatorsAndCaptures : Obligations.ComparatorsAndCaptures := by
  intro h s
  refine ⟨fun p hr => ⟨fun hp => agentRun_refuses hr (timeTrigger_badOp hp), fun hp hn => agentRun_refuses hr (timeTrigger_reserved hp hn),
      fun hp hl hh => agentRun_answers hr _ (timeTrigger_disarm hp hl hh) rfl rfl rfl rfl,
      fun hp hl hh hk => agentRun_refuses hr (timeTrigger_badParam hp hl hh hk),
      fun ⟨hp, hl, hh, hk⟩ ht => agentRun_refuses hr (timeTrigger_untracked hp hl hh hk ht),
      fun ⟨hp, hl, hh, hk⟩ ht hf h0 hn => agentRun_answers hr _ (timeTrigger_past hp hl hh hk ht hf h0 hn) rfl rfl rfl rfl,
      fun ⟨hp, hl, hh, hk⟩ ht hf hn => ⟨_, _, agentRun_answers hr _ (timeTrigger_arms hp hl hh hk ht hf hn) rfl rfl rfl rfl, rfl,
        nextTarget_ahead hn⟩⟩,
    fun p hr => ⟨fun hp => agentRun_refuses hr (timeCaptureCfg_bad hp),
      fun hp => agentRun_answers hr _ (timeCaptureCfg_ok hp) rfl rfl rfl rfl⟩,
    fun i falling hi => ⟨fun he => congrArg Host.Outcome.next (timeInEdge_unselected hi he),
      fun he hq => congrArg Host.Outcome.next ((timeInEdge_selected hi he).trans (if_pos hq)), fun he hq => ?first, fun he hn hq => ?later⟩,
    fun i hi => congrArg Host.Outcome.next ((captureRead_pops hi s).trans ?read), _, rfl, rfl, fun r hr => snapshotRead_words hr s⟩
  case first =>
    refine congrArg Host.Outcome.next ((timeInEdge_selected hi he).trans ?_)
    rw [hq]
    rfl
  case read =>
    cases (tget {} s.time.caps i : CapSt).queue <;> rfl
  case later =>
    refine congrArg Host.Outcome.next ((timeInEdge_selected hi he).trans ?_)
    rw [if_neg (Nat.not_le.mpr hq), List.isEmpty_eq_false_iff.mpr hn]
    rfl

end Sys2Proof.Proofs
end

section
/-!
PROOFS. PTP and the followers of the time domains (R223, R224, R234-R236, R240): first what each meaning and each event comes to, in any state,
then the command path around the commands.
-/
namespace Sys2Proof.Proofs
open Machine Safety Laws

/-! TIME_PTP_PORT_CFG (R240). -/

/-- The ranges of TIME_PTP_PORT_CFG (R240). -/
def ptpPortOk (p : TimePtpPortCfgP) : Prop := p.enable ≤ 1 ∧ p.tcEnable ≤ 1 ∧ p.transports ≤ 7

theorem ptpPortOk_iff (p : TimePtpPortCfgP) : ptpPortOk p ↔
    ¬ (decide (1 < p.enable) || decide (1 < p.tcEnable) || decide (7 < p.transports)) = true := by
  simp [ptpPortOk, and_assoc]

theorem timePtpPortCfg_bad {h : Hdr} {p : TimePtpPortCfgP} {s : State} (hp : ¬ ptpPortOk p) :
    timePtpPortCfg h p s = refuse s stBadParam := by
  rw [ptpPortOk_iff, not_not] at hp
  exact if_pos hp

theorem timePtpPortCfg_ok {h : Hdr} {p : TimePtpPortCfgP} {s : State} (hp : ptpPortOk p) : timePtpPortCfg h p s =
    done (withTime (fun t => { t with ptp := tput t.ptp (h.flow - 0x200) {
      enable := p.enable = 1, tcEnable := p.tcEnable = 1, transports := p.transports, mapA := p.mapA, mapB := p.mapB,
      asymmetry := p.asymmetryNs } }) s) := by
  rw [ptpPortOk_iff] at hp
  exact if_neg hp

/-! TIME_DOMAIN_CFG (R224, R236, R240). -/

/-- The ranges of TIME_DOMAIN_CFG (R240). -/
def domainCfgOk (p : TimeDomainCfgP) : Prop :=
  p.src ≤ 3 ∧ (p.src = 1 ∨ p.src = 3 → p.port ≤ 4) ∧ 2 ≤ p.announceTimeout ∧ p.announceTimeout ≤ 10

theorem domainCfgOk_iff (p : TimeDomainCfgP) : domainCfgOk p ↔
    ¬ (decide (3 < p.src) || ((decide (p.src = 1) || decide (p.src = 3)) && decide (4 < p.port)) || decide (p.announceTimeout < 2) ||
      decide (10 < p.announceTimeout)) = true := by
  simp [domainCfgOk, and_assoc, Nat.succ_le_iff]

/-- The source asked for is one port and domainNumber that the other domain follows (R236). -/
def sourceTaken (p : TimeDomainCfgP) (o : DomSt) : Prop := p.src = 1 ∧ o.src = 1 ∧ o.port = p.port ∧ o.domainNumber = p.domainNumber

theorem sourceTaken_iff (p : TimeDomainCfgP) (o : DomSt) : sourceTaken p o ↔
    (decide (p.src = 1) && decide (o.src = 1) && decide (o.port = p.port) && decide (o.domainNumber = p.domainNumber)) = true := by
  simp [sourceTaken, and_assoc]

/-- The domain keeps the source that it has. -/
def sameSource (p : TimeDomainCfgP) (d : DomSt) : Bool := d.src = p.src && d.port = p.port && d.domainNumber = p.domainNumber

theorem sameSource_false {p : TimeDomainCfgP} {d : DomSt} (h : d.src ≠ p.src ∨ d.port ≠ p.port ∨ d.domainNumber ≠ p.domainNumber) :
    sameSource p d = false := by
  rcases h with h | h | h <;> simp [sameSource, h]

/-- A domain with the settings of TIME_DOMAIN_CFG: a new source starts its follower unlocked. -/
def followed (p : TimeDomainCfgP) (d : DomSt) : DomSt := { d with
  src := p.src, port := p.port, domainNumber := p.domainNumber, stepLimit := p.stepLimitNs, lockNs := p.lockNs, annTimeout := p.announceTimeout,
  locked := d.locked && sameSource p d, good := if sameSource p d then d.good else 0, lastOffset := if sameSource p d then d.lastOffset else 0 }

theorem timeDomainCfg_bad {h : Hdr} {p : TimeDomainCfgP} {s : State} (hp : ¬ domainCfgOk p) :
    timeDomainCfg h p s = refuse s stBadParam := by
  rw [domainCfgOk_iff, not_not] at hp
  exact if_pos hp

theorem timeDomainCfg_taken {h : Hdr} {p : TimeDomainCfgP} {s : State} (hp : domainCfgOk p) (ht : sourceTaken p (domOf s.time (1 - h.flow))) :
    timeDomainCfg h p s = refuse s stDuplicate := by
  rw [domainCfgOk_iff] at hp
  rw [sourceTaken_iff] at ht
  exact (if_neg hp).trans (if_pos ht)

theorem timeDomainCfg_ok {h : Hdr} {p : TimeDomainCfgP} {s : State} (hp : domainCfgOk p) (ht : ¬ sourceTaken p (domOf s.time (1 - h.flow))) :
    timeDomainCfg h p s = done (withTime (setDom h.flow (followed p (domOf s.time h.flow))) s) := by
  rw [domainCfgOk_iff] at hp
  rw [sourceTaken_iff] at ht
  exact (if_neg hp).trans (if_neg ht)

/-! The transparent clock (R234, R235). -/

theorem ptpEventRx_ignored {port : Nat} {msg : PtpMsg} {s : State}
    (h : 4 < port ∨ (ptpOf s port).enable = false ∨ (port < 2 ∧ (ptpOf s port).transports.testBit msg.transport = false)) :
    ptpEventRx port msg s = s := by
  refine if_pos ?_
  rcases h with h | h | ⟨h, ht⟩
  · simp [h]
  · simp [h]
  · simp [h, bit, ht]

theorem ptpEventRx_stamps {port : Nat} {msg : PtpMsg} {s : State} (hp : port ≤ 4) (he : (ptpOf s port).enable = true)
    (ht : 2 ≤ port ∨ (ptpOf s port).transports.testBit msg.transport = true) : ptpEventRx port msg s =
      withTime (fun t => { t with transit := t.transit ++ [{ id := msg.id, msg := msg, inPort := port, inC := t.c }] }) s := by
  refine if_neg ?_
  rcases ht with h | h
  · simp [he, Nat.not_lt.mpr hp, Nat.not_lt.mpr h]
  · simp [he, Nat.not_lt.mpr hp, bit, h]

/-- Both ports are transparent clocks, and the message leaves on a port that is not its own (R235). -/
def tcOn (port : Nat) (x : PtpTransit) (s : State) : Prop :=
  port ≤ 4 ∧ x.inPort ≠ port ∧ (ptpOf s x.inPort).tcEnable = true ∧ (ptpOf s port).tcEnable = true

theorem tcOn_iff (port : Nat) (x : PtpTransit) (s : State) : tcOn port x s ↔
    (decide (port ≤ 4) && decide (x.inPort ≠ port) && (ptpOf s x.inPort).tcEnable && (ptpOf s port).tcEnable) = true := by
  simp [tcOn, and_assoc]

/-- A message that has left, its correction raised by this much. -/
def egressed (port id : Nat) (x : PtpTransit) (add : Int) (s : State) : State := { s with time := { s.time with
  transit := s.time.transit.eraseP (fun y => decide (y.id = id)),
  ptpOut := s.time.ptpOut ++ [{ x.msg with correction := x.msg.correction + add, outPort := port }] } }

theorem ptpTcEgress_leaves {port id : Nat} {x : PtpTransit} {s : State} (hx : s.time.transit.find? (fun y => decide (y.id = id)) = some x)
    (hg : gated s = false) : ptpTcEgress port id s = egressed port id x
      (if decide (port ≤ 4) && decide (x.inPort ≠ port) && (ptpOf s x.inPort).tcEnable && (ptpOf s port).tcEnable then
        residence (s.time.c - x.inC) (mappedRate s x.inPort x.msg.domainNumber) else 0) s := by
  simp only [ptpTcEgress, hx]
  refine if_neg ?_
  have ht : gated (withTime (fun t => { t with transit := t.transit.eraseP (fun y => decide (y.id = id)) }) s) = gated s := rfl
  rw [ht, hg, Bool.and_false]
  exact Bool.false_ne_true

/-! The follower (R223, R224, R236). -/

/-- A domain with an offset measured: the last one, and how many in a row lay within lock_ns (R236). -/
def measured (offset : Int) (d : DomSt) : DomSt := { d with
  lastOffset := clampI (-2147483648) 2147483647 offset, good := if offset.natAbs ≤ d.lockNs then min 16 (d.good + 1) else 0 }

/-- What a follower steers its domain by: a step above step_limit, else a correction of the rate (R236). -/
def steered (i : Nat) (offset rateCorr : Int) (s : State) : State :=
  let u := withTime (setDom i (measured offset (domOf s.time i))) s
  if (domOf s.time i).stepLimit < offset.natAbs then stepDomain i (-offset * 65536) 0 u else correctRate i rateCorr u

/-- The state in which domain i is tracked and its follower locked, EV_PTP_LOCK raised (R236). -/
def lockedTo (i : Nat) (s : State) : State :=
  raise 0x106 (withTime (setDom i { domOf s.time i with tracked := true, locked := true }) s)

theorem ptpOffset_idle {i : Nat} {s : State} (hs : (domOf s.time i).src = 0 ∨ (domOf s.time i).src = 2) (offset rateCorr : Int) :
    ptpOffset i offset rateCorr s = s := by
  refine if_pos ?_
  rcases hs with h | h <;> simp [h]

theorem ptpOffset_follows {i : Nat} {s : State} (hi : i ≤ 1) (hs : (domOf s.time i).src = 1 ∨ (domOf s.time i).src = 3) (offset rateCorr : Int) :
    ptpOffset i offset rateCorr s =
      if 16 ≤ (domOf (steered i offset rateCorr s).time i).good && !(domOf (steered i offset rateCorr s).time i).locked then
        lockedTo i (steered i offset rateCorr s) else steered i offset rateCorr s :=
  if_neg (by rcases hs with h | h <;> simp [h, hi])

theorem steered_only (i : Nat) (offset rateCorr : Int) (s : State) :
    steered i offset rateCorr s = { s with time := (steered i offset rateCorr s).time } := by
  unfold steered
  dsimp only
  split <;> rfl

theorem domOf_steered_step {i : Nat} {offset : Int} {s : State} (h : (domOf s.time i).stepLimit < offset.natAbs) (rateCorr : Int) :
    domOf (steered i offset rateCorr s).time i = steppedDom (-offset * 65536) 0 (measured offset (domOf s.time i)) := by
  rw [steered, if_pos h, domOf_stepDomain_same, withTime_time, domOf_setDom_same]

theorem domOf_steered_rate {i : Nat} {offset : Int} {s : State} (h : offset.natAbs ≤ (domOf s.time i).stepLimit) (rateCorr : Int) :
    domOf (steered i offset rateCorr s).time i = foldRate (clampI (-rateMax) rateMax ((domOf s.time i).r + rateCorr)) s.time.c
      (measured offset (domOf s.time i)) s.time.c := by
  rw [steered, if_neg (Nat.not_lt.mpr h), correctRate, domOf_setRate_same, withTime_time, domOf_setDom_same, setDom_c]
  rfl

/-- Steering leaves what the follower has counted. -/
theorem steered_follower (i : Nat) (offset rateCorr : Int) (s : State) : ∃ o r k tracked, domOf (steered i offset rateCorr s).time i =
    { measured offset (domOf s.time i) with o := o, r := r, k := k, tracked := tracked } := by
  by_cases h : (domOf s.time i).stepLimit < offset.natAbs
  · exact ⟨_, _, _, _, domOf_steered_step h rateCorr⟩
  · exact ⟨_, _, _, _, domOf_steered_rate (Nat.not_lt.mp h) rateCorr⟩

theorem lockedTo_only (i : Nat) (s : State) : lockedTo i s = { s with time := (lockedTo i s).time, evt := (lockedTo i s).evt } := by
  rw [lockedTo, raise_only]
  rfl

@[simp] theorem domOf_lockedTo (i : Nat) (s : State) : domOf (lockedTo i s).time i = { domOf s.time i with tracked := true, locked := true } := by
  rw [lockedTo, raise_time, withTime_time, domOf_setDom_same]

/-- Whether it locks or not, a follower leaves of its domain what the steering made of it, but for TRACKED and LOCKED. -/
theorem ptpOffset_steers {i : Nat} {s : State} (hi : i ≤ 1) (hs : (domOf s.time i).src = 1 ∨ (domOf s.time i).src = 3) (offset rateCorr : Int) :
    let t := ptpOffset i offset rateCorr s
    t = { s with time := t.time, evt := t.evt } ∧ ∃ tracked locked,
      domOf t.time i = { domOf (steered i offset rateCorr s).time i with tracked := tracked, locked := locked } := by
  have ho := steered_only i offset rateCorr s
  rw [ptpOffset_follows hi hs]
  dsimp only
  split
  · refine ⟨?_, _, _, domOf_lockedTo ..⟩
    rw [lockedTo_only, ho]
  · refine ⟨?_, _, _, rfl⟩
    rw [ho]

/-- The sixteenth offset in a row within lock_ns locks an unlocked follower (R236). -/
theorem ptpOffset_locks {i : Nat} {offset : Int} {s : State} (hi : i ≤ 1) (hs : (domOf s.time i).src = 1 ∨ (domOf s.time i).src = 3)
    (ho : offset.natAbs ≤ (domOf s.time i).lockNs) (hg : 15 ≤ (domOf s.time i).good) (hl : (domOf s.time i).locked = false) (rateCorr : Int) :
    ptpOffset i offset rateCorr s = lockedTo i (steered i offset rateCorr s) := by
  obtain ⟨_, _, _, _, hd⟩ := steered_follower i offset rateCorr s
  rw [ptpOffset_follows hi hs]
  refine if_pos ?_
  simp [hd, measured, ho, hg, hl]

theorem lockedTo_cause (i : Nat) (offset rateCorr : Int) (s : State) :
    (lockedTo i (steered i offset rateCorr s)).evt.cause = causeAfter 0x106 s := by
  rw [lockedTo, raise_causeAfter, steered_only]
  rfl

/-! Holdover (R223, R236). -/

theorem ptpTimeout_loses {i : Nat} {s : State} (hi : i ≤ 1) (hs : (domOf s.time i).src = 1) : ptpTimeout i s = loseSource i s :=
  if_neg (by simp [hi, hs])

theorem ptpTimeout_idle {i : Nat} {s : State} (h : 1 < i ∨ (domOf s.time i).src ≠ 1) : ptpTimeout i s = s := if_pos (by simpa using h)

theorem loseSource_only (i : Nat) (s : State) : loseSource i s = { s with time := (loseSource i s).time, evt := (loseSource i s).evt } := by
  rw [loseSource, raise_only]
  rfl

theorem domOf_loseSource (i : Nat) (s : State) : domOf (loseSource i s).time i = { domOf s.time i with locked := false, good := 0 } := by
  rw [loseSource, raise_time, withTime_time, domOf_setDom_same]

theorem loseSource_cause (i : Nat) (s : State) : (loseSource i s).evt.cause = causeAfter 0x107 s := raise_causeAfter ..

/-- Settles O42: each command is Ready, so its reply and its effect are what its meaning comes to; an offset goes by the steering and the lock. -/
theorem ptpFollowers : Obligations.PtpFollowers := by
  intro h s
  refine ⟨fun p hr => ⟨fun hp => agentRun_refuses hr (timePtpPortCfg_bad hp),
      fun hp => agentRun_answers hr _ (timePtpPortCfg_ok hp) rfl rfl rfl rfl⟩,
    fun p hr => ⟨fun hp => agentRun_refuses hr (timeDomainCfg_bad hp), fun hp ht => agentRun_refuses hr (timeDomainCfg_taken hp ht),
      fun hp ht => ?source⟩,
    fun port msg => ⟨fun hx => congrArg Host.Outcome.next (ptpEventRx_ignored hx),
      fun hp he ht => congrArg Host.Outcome.next (ptpEventRx_stamps hp he ht)⟩,
    fun port id x hx hg => ⟨fun hon => ?corrected, fun hoff => ?plain⟩,
    fun i offset rateCorr hi => ⟨fun hs => congrArg Host.Outcome.next (ptpOffset_idle hs ..), fun hs => ?measured⟩,
    fun i hi hs => ⟨_, congrArg Host.Outcome.next (ptpTimeout_loses hi hs), loseSource_only i s, domOf_loseSource i s, loseSource_cause i s⟩,
    fun i hx => congrArg Host.Outcome.next (ptpTimeout_idle hx)⟩
  case source =>
    refine ⟨_, agentRun_answers hr _ (timeDomainCfg_ok hp ht) rfl (setDom_c ..) rfl rfl, rfl, domOf_setDom_opposite .., selAt_setDom rfl, ?_⟩
    intro x
    have hx : x = followed p (domOf s.time h.flow) := domOf_setDom_same ..
    rw [hx]
    refine ⟨rfl, fun hn => ?_⟩
    rw [followed, sameSource_false hn, Bool.and_false]
  case corrected =>
    exact congrArg Host.Outcome.next ((ptpTcEgress_leaves hx hg).trans (by rw [if_pos ((tcOn_iff ..).mp hon)]; rfl))
  case plain =>
    refine congrArg Host.Outcome.next ((ptpTcEgress_leaves hx hg).trans ?_)
    rw [if_neg (mt (tcOn_iff ..).mpr hoff), egressed, Int.add_zero]
  case measured =>
    obtain ⟨hfr, tracked, locked, hd⟩ := ptpOffset_steers hi hs offset rateCorr
    obtain ⟨_, _, _, _, hm⟩ := steered_follower i offset rateCorr s
    refine ⟨_, rfl, hfr, ?_, ?_, fun hst => ?_, fun hst => ?_, fun ho hg hl => ?_⟩
    · rw [hd, hm]
      rfl
    · rw [hd, hm]
      rfl
    · rw [hd, domOf_steered_step hst]
      exact ⟨by simp [steppedDom, measured, Int.sub_eq_add_neg], rfl⟩
    · rw [hd, domOf_steered_rate hst]
      rfl
    · rw [ptpOffset_locks hi hs ho hg hl, domOf_lockedTo]
      exact ⟨rfl, rfl, lockedTo_cause ..⟩

end Sys2Proof.Proofs
end

section
/-!
PROOFS. FRONT and follower mode (R275-R277, R289-R293): what each meaning and each event comes to, then the command path around the commands.
-/
namespace Sys2Proof.Proofs
open Machine Safety Laws

/-! The pending shift (R291, R307). -/

/-- Raising a source reaches the events, and no routing of them (R131, R132). -/
theorem raise_evt (n : Nat) (s : State) : ∃ e, raise n s = { s with evt := e } ∧ e.srcCfg = s.evt.srcCfg ∧ e.cause = causeAfter n s :=
  ⟨_, raise_only n s, rfl, raise_causeAfter n s⟩

@[simp] theorem raise_slot (n : Nat) (s : State) : (raise n s).slot = s.slot := by rw [raise_only]

theorem causeAfter_keeps (n : Nat) {k : Nat} {s : State} (h : s.evt.cause.testBit k = true) : (causeAfter n s).testBit k = true :=
  raise_causeAfter n s ▸ raise_keeps_causes n h

theorem raiseIf_keeps_causes (b : Bool) (i : Nat) {n : Nat} {s : State} (h : s.evt.cause.testBit n = true) :
    (raiseIf b i s).evt.cause.testBit n = true := by
  cases b with
  | false => exact h
  | true => exact raise_keeps_causes i h

theorem setShift_only (p : Int) (s : State) :
    setShift p s = { s with slot := { s.slot with frontP := p }, evt := (setShift p s).evt } := by
  rw [setShift, raiseIf_only]
  rfl

theorem setShift_keeps_causes (p : Int) {n : Nat} {s : State} (h : s.evt.cause.testBit n = true) : (setShift p s).evt.cause.testBit n = true :=
  raiseIf_keeps_causes _ _ h

/-- EV_FRONT_SLEW_DONE goes with a shift that was pending and is given up (R307). -/
theorem setShift_zero_cause (s : State) :
    (setShift 0 s).evt.cause = if s.slot.frontP = 0 then s.evt.cause else causeAfter 0x094 s := by
  by_cases h : s.slot.frontP = 0
  · simp [setShift, raiseIf, h]
  · have hs : setShift 0 s = raise 0x094 (withSlot (fun b => { b with frontP := 0 }) s) := by simp [setShift, raiseIf, h]
    rw [hs, raise_causeAfter, if_neg h]
    rfl

/-! SLOT_FRONT_CFG (R289-R293). -/

/-- The ranges of SLOT_FRONT_CFG with a source (R289, R290, R293). -/
def frontCfgOk (p : SlotFrontCfgP) (s : State) : Prop :=
  (p.src = 2 → p.port ≤ 2) ∧ (p.src = 1 → p.edge = 1 ∨ p.edge = 2) ∧ 1 ≤ p.periodSlots ∧ p.periodSlots ≤ 0xFFFF ∧ p.anchorAsn < 2 ^ 40 ∧
    p.offsetNs.natAbs ≤ 500 * s.slot.slotLenUs ∧ 1 ≤ p.windowUs ∧ p.windowUs ≤ 5000 ∧ p.maxShiftUs ≤ 500 ∧ 1 ≤ p.lossCount ∧
    p.lossCount ≤ 255 ∧ p.maxShiftUs + 3 ≤ leastGuard s ∧ 2 * p.windowUs < p.periodSlots * s.slot.slotLenUs

/-- The same as the test of the model. -/
def frontCfgBad (p : SlotFrontCfgP) (s : State) : Bool :=
  (p.src = 2 && 2 < p.port) || (p.src = 1 && p.edge ≠ 1 && p.edge ≠ 2) || p.periodSlots = 0 || 0xFFFF < p.periodSlots ||
    2 ^ 40 ≤ p.anchorAsn || 500 * s.slot.slotLenUs < p.offsetNs.natAbs || p.windowUs = 0 || 5000 < p.windowUs || 500 < p.maxShiftUs ||
    p.lossCount = 0 || 255 < p.lossCount || leastGuard s < p.maxShiftUs + 3 || p.periodSlots * s.slot.slotLenUs ≤ 2 * p.windowUs

theorem frontCfgOk_iff (p : SlotFrontCfgP) (s : State) : frontCfgOk p s ↔ ¬ frontCfgBad p s = true := by
  simp only [frontCfgOk, frontCfgBad, Bool.or_eq_true, Bool.and_eq_true, decide_eq_true_eq, ne_eq]
  omega

/-- The settings that SLOT_FRONT_CFG puts in force, the lock afresh. -/
def frontSet (p : SlotFrontCfgP) (b : SlotSt) : SlotSt := { b with
  frontSrc := p.src, frontPort := p.port, frontEdge := p.edge, frontPeriod := p.periodSlots, frontAnchor := p.anchorAsn,
  frontOffset := p.offsetNs, frontWindow := p.windowUs, frontMaxShift := p.maxShiftUs, frontLockNs := p.lockNs,
  frontLossCount := p.lossCount, frontLocked := false, frontGood := 0, frontBad := 0 }

section
variable {h : Hdr} {p : SlotFrontCfgP} {s : State}

theorem slotFrontCfg_badSource (hp : 2 < p.src) : slotFrontCfg h p s = refuse s stBadParam := if_pos hp

theorem slotFrontCfg_follower (hp : p.src ≤ 2) (hf : s.slot.follower = true) : slotFrontCfg h p s = refuse s stBusy := by
  rw [slotFrontCfg, if_neg (Nat.not_lt.mpr hp), if_pos hf]

theorem slotFrontCfg_source (hp : p.src ≤ 2) (h0 : p.src ≠ 0) (hf : s.slot.follower = false) :
    slotFrontCfg h p s = if frontCfgBad p s then refuse s stBadParam else done (withSlot (frontSet p) s) := by
  rw [slotFrontCfg, if_neg (Nat.not_lt.mpr hp), if_neg (by simp [hf]), if_neg h0]
  rfl

theorem slotFrontCfg_bad (hp : p.src ≤ 2) (h0 : p.src ≠ 0) (hf : s.slot.follower = false) (hk : ¬ frontCfgOk p s) :
    slotFrontCfg h p s = refuse s stBadParam := by
  rw [frontCfgOk_iff, not_not] at hk
  rw [slotFrontCfg_source hp h0 hf, if_pos hk]

theorem slotFrontCfg_ok (hp : p.src ≤ 2) (h0 : p.src ≠ 0) (hf : s.slot.follower = false) (hk : frontCfgOk p s) :
    slotFrontCfg h p s = done (withSlot (frontSet p) s) := by
  rw [frontCfgOk_iff] at hk
  rw [slotFrontCfg_source hp h0 hf, if_neg hk]

/-- FRONT with its source off: no lock, no pending shift. -/
def frontOff (b : SlotSt) : SlotSt := { b with frontSrc := 0, frontLocked := false, frontGood := 0, frontBad := 0 }

theorem slotFrontCfg_off (h0 : p.src = 0) (hf : s.slot.follower = false) :
    slotFrontCfg h p s = done (setShift 0 (withSlot frontOff s)) := by
  rw [slotFrontCfg, if_neg (by omega), if_neg (by simp [hf]), if_pos h0]
  rfl

theorem exec_slotFrontCfg_off (hr : Ready h (.slotFrontCfg p) s) (h0 : p.src = 0) (hf : s.slot.follower = false) :
    ∃ t, exec (.slotFrontCfg h p) s = .next t ∧
      t = { s with
        hif := answered h (.slotFrontCfg p) stOk 0 [] s, evt := t.evt,
        slot := { s.slot with frontSrc := 0, frontLocked := false, frontGood := 0, frontBad := 0, frontP := 0 } } ∧
      t.evt.cause = (if s.slot.frontP = 0 then s.evt.cause else causeAfter 0x094 s) := by
  refine ⟨_, agentRun_answers hr _ (slotFrontCfg_off h0 hf) ?_ ?_ rfl rfl, ?_, setShift_zero_cause _⟩
  all_goals
    rw [done, setShift_only]
    rfl

end

/-! The smallest end guard (R293). -/

theorem foldl_min_le (l : List Nat) (a : Nat) : l.foldl min a ≤ a ∧ ∀ x ∈ l, l.foldl min a ≤ x := by
  induction l generalizing a with
  | nil => simp
  | cons y l ih =>
    obtain ⟨ha, hl⟩ := ih (min a y)
    refine ⟨ha.trans (Nat.min_le_left ..), fun x hx => ?_⟩
    rcases List.mem_cons.mp hx with rfl | hx
    · exact ha.trans (Nat.min_le_right ..)
    · exact hl x hx

theorem leastGuard_le {f : Nat} (hf : f < 8) (s : State) : leastGuard s ≤ (sfOf s f).tmpl.endGuard :=
  (foldl_min_le ..).2 _ (List.mem_map_of_mem (List.mem_range.mpr hf))

/-! Positions (R289-R291). -/

/-- LOCKED cleared by a rejected or missing position, which counts toward loss_count. -/
def badPos (b : SlotSt) : SlotSt := { b with frontLocked := false, frontGood := 0, frontBad := min (b.frontBad + 1) 255 }

theorem frontBadPos_kept {s : State} (h : s.slot.frontBad + 1 < s.slot.frontLossCount ∨ s.slot.frontLost = true) :
    frontBadPos s = withSlot badPos s := by
  refine if_neg ?_
  simp only [Bool.and_eq_true, decide_eq_true_eq, Bool.not_eq_true']
  rintro ⟨hn, hl⟩
  rcases h with h | h
  · exact absurd hn (Nat.not_le.mpr h)
  · exact absurd h (by simpa using hl)

theorem frontBadPos_lost {s : State} (h : s.slot.frontLossCount ≤ s.slot.frontBad + 1) (hl : s.slot.frontLost = false) :
    frontBadPos s = setShift 0 (raise 0x092 (withSlot (fun b => { badPos b with frontLost := true }) s)) := by
  refine if_pos ?_
  simp only [Bool.and_eq_true, decide_eq_true_eq, Bool.not_eq_true']
  exact ⟨h, hl⟩

/-- What a rejected or missing position can do: it reaches the slot engine's LOST, pending shift and lock counters, and clears no cause bit. -/
theorem frontBadPos_only (s : State) : ∃ e lost p, frontBadPos s = { s with slot := { badPos s.slot with frontLost := lost, frontP := p }, evt := e } ∧
    ∀ n, s.evt.cause.testBit n = true → e.cause.testBit n = true := by
  by_cases h : s.slot.frontBad + 1 < s.slot.frontLossCount ∨ s.slot.frontLost = true
  · exact ⟨s.evt, s.slot.frontLost, s.slot.frontP, frontBadPos_kept h, fun _ => id⟩
  · obtain ⟨hn, hl⟩ := not_or.mp h
    obtain ⟨e, he, _, hc⟩ := raise_evt 0x092 (withSlot (fun b => { badPos b with frontLost := true }) s)
    rw [frontBadPos_lost (Nat.not_lt.mp hn) (by simpa using hl), he]
    refine ⟨_, true, 0, setShift_only .., fun n hn => setShift_keeps_causes 0 ?_⟩
    show e.cause.testBit n = true
    rw [hc]
    exact causeAfter_keeps 0x092 hn

/-- loss_count bad positions in a row lose the reference: EV_FRONT_LOST, and the pending shift is given up (R290). -/
theorem frontBadPos_loses {s : State} (h : s.slot.frontLossCount ≤ s.slot.frontBad + 1) (hl : s.slot.frontLost = false) :
    (frontBadPos s).slot.frontLost = true ∧ (frontBadPos s).slot.frontP = 0 ∧
      ((srcCfgOf s 0x092).enable = true → (frontBadPos s).evt.cause.testBit 0x092 = true) := by
  rw [frontBadPos_lost h hl]
  refine ⟨?_, ?_, fun he => setShift_keeps_causes 0 (raise_sets he)⟩
  all_goals rw [setShift_only]
  rw [raise_slot]
  rfl

theorem frontMissing_idle {s : State} (h : s.slot.running = false ∨ s.slot.frontSrc = 0) : frontMissing s = s :=
  if_pos (by simpa using h)

/-- The counters of FRONT with one higher (R307). -/
def countFront (i : Nat) (s : State) : State := withSlot (fun b => { b with frontCnt := bump b.frontCnt i }) s

theorem frontMissing_counts {s : State} (hr : s.slot.running = true) (hs : s.slot.frontSrc ≠ 0) : frontMissing s = frontBadPos (countFront 2 s) :=
  if_neg (by simp [hr, hs])

theorem frontError_rejected {e : Int} {s : State} (h : 1000 * s.slot.frontWindow < e.natAbs) :
    frontError e s = frontBadPos (raise 0x093 (countFront 1 s)) := if_pos h

theorem frontError_accepted {e : Int} {s : State} (h : e.natAbs ≤ 1000 * s.slot.frontWindow) :
    ∃ good locked ev, frontError e s = { s with
      slot := { s.slot with
        frontErr := e, frontLost := false, frontBad := 0, frontGood := good, frontLocked := locked, frontCnt := bump s.slot.frontCnt 0, frontP := e },
      evt := ev } := by
  unfold frontError
  rw [if_neg (Nat.not_lt.mpr h)]
  extract_lets good lock u
  rw [setShift_only, raiseIf_only]
  exact ⟨good, s.slot.frontLocked || lock, _, rfl⟩

/-- A capture reaches the capture inputs and the events, and no routing of them (R233). -/
theorem captureEdge_only (i : Nat) (falling : Bool) (s : State) : ∃ caps e, captureEdge i falling s = { s with
    time := { s.time with caps := caps }, evt := e } ∧ e.srcCfg = s.evt.srcCfg := by
  unfold captureEdge
  extract_lets c entry
  by_cases hs : (!bit c.edgeSel (if falling then 1 else 0)) = true
  · rw [if_pos hs]
    exact ⟨_, _, rfl, rfl⟩
  · rw [if_neg hs]
    by_cases hf : c.queue.length ≥ 16
    · obtain ⟨e, he, hc, _⟩ := raise_evt 0x103 (withCap i (fun c => { c with ovf := true }) s)
      rw [if_pos hf, he]
      exact ⟨_, e, rfl, hc⟩
    · rw [if_neg hf]
      cases c.queue.isEmpty with
      | false => exact ⟨_, _, rfl, rfl⟩
      | true =>
        obtain ⟨e, he, hc, _⟩ := raise_evt 0x102 (withCap i (fun c => { c with queue := c.queue ++ [entry] }) s)
        exact ⟨_, e, he, hc⟩

theorem frontInEdge_selected {falling : Bool} {s : State} (hr : s.slot.running = true) (hs : s.slot.frontSrc = 1)
    (he : s.slot.frontEdge = if falling = true then 2 else 1) :
    ∃ caps e, frontInEdge falling s = frontError (edgeError s) { s with time := { s.time with caps := caps }, evt := e } ∧
      e.srcCfg = s.evt.srcCfg := by
  obtain ⟨caps, e, hc, hv⟩ := captureEdge_only 4 falling s
  refine ⟨caps, e, ?_, hv⟩
  rw [frontInEdge, hc]
  exact if_pos (by simp [hr, hs, he])

/-! SLOT_FOLLOW_CFG (R275, R281, R292). -/

/-- The ranges of SLOT_FOLLOW_CFG (R281). -/
def followCfgOk (p : SlotFollowCfgP) : Prop :=
  p.enable ≤ 1 ∧ p.timeSource ≤ 0x7FFF ∧ 1 ≤ p.ebPeriodSlots ∧ p.ebPeriodSlots ≤ 0xFFFF ∧ p.driftPpb ≤ 20000 ∧ p.maxExtraGuardUs ≤ 2000

theorem followCfgOk_iff (p : SlotFollowCfgP) : followCfgOk p ↔
    ¬ (decide (1 < p.enable) || decide (0x7FFF < p.timeSource) || decide (p.ebPeriodSlots = 0) || decide (0xFFFF < p.ebPeriodSlots) ||
      decide (20000 < p.driftPpb) || decide (2000 < p.maxExtraGuardUs)) = true := by
  simp only [followCfgOk, Bool.or_eq_true, decide_eq_true_eq]
  omega

/-- Following is refused beside FRONT and without a domain that follows the air (R275, R292). -/
def followBusy (s : State) : Prop := s.slot.frontSrc ≠ 0 ∨ (s.time.domA.src ≠ 2 ∧ s.time.domB.src ≠ 2)

theorem followBusy_iff (s : State) : followBusy s ↔
    (decide (s.slot.frontSrc ≠ 0) || !(decide (s.time.domA.src = 2) || decide (s.time.domB.src = 2))) = true := by
  simp [followBusy]

/-- The settings that SLOT_FOLLOW_CFG puts in force: holdover ends where following does. -/
def followSet (p : SlotFollowCfgP) (now : Nat) (b : SlotSt) : SlotSt := { b with
  follower := p.enable = 1, timeSource := p.timeSource, ebPeriod := p.ebPeriodSlots, driftPpb := p.driftPpb,
  maxExtraGuard := p.maxExtraGuardUs, holdover := p.enable = 1 && b.holdover, guardLimit := p.enable = 1 && b.guardLimit,
  guardUs := if p.enable = 1 then b.guardUs else 0, misses := if p.enable = 1 then b.misses else 0,
  lastSyncNs := if b.follower then b.lastSyncNs else now }

theorem followSet_on {p : SlotFollowCfgP} (hp : p.enable = 1) (now : Nat) (b : SlotSt) : followSet p now b = { b with
    follower := true, timeSource := p.timeSource, ebPeriod := p.ebPeriodSlots, driftPpb := p.driftPpb,
    maxExtraGuard := p.maxExtraGuardUs, lastSyncNs := if b.follower = true then b.lastSyncNs else now } := by
  simp [followSet, hp]

section
variable {h : Hdr} {p : SlotFollowCfgP} {s : State}

theorem slotFollowCfg_bad (hp : ¬ followCfgOk p) : slotFollowCfg h p s = refuse s stBadParam := by
  rw [followCfgOk_iff, not_not] at hp
  exact if_pos hp

theorem slotFollowCfg_busy (hp : followCfgOk p) (he : p.enable = 1) (hb : followBusy s) : slotFollowCfg h p s = refuse s stBusy := by
  rw [followCfgOk_iff] at hp
  rw [followBusy_iff] at hb
  rw [slotFollowCfg, if_neg hp, if_pos (by simpa only [he, decide_true, Bool.true_and] using hb)]

theorem slotFollowCfg_ok (hp : followCfgOk p) (hb : p.enable = 1 → ¬ followBusy s) :
    slotFollowCfg h p s = done (withSlot (followSet p (rawNs s)) s) := by
  rw [followCfgOk_iff] at hp
  rw [slotFollowCfg, if_neg hp, if_neg ?_]
  · rfl
  · rw [Bool.and_eq_true, decide_eq_true_eq]
    exact fun hx => hb hx.1 ((followBusy_iff s).mpr hx.2)

end

/-! Missed beacons and the guard limit (R275-R277). -/

/-- A beacon period without a beacon counted (R275, R281). -/
def missed (b : SlotSt) : SlotSt := { b with misses := min (b.misses + 1) 0xFFFF, cnt := bump b.cnt 15 }

/-- The third in a row: a follower enters holdover (R275). -/
def missedThird (b : SlotSt) : SlotSt := { missed b with holdover := b.holdover || b.follower }

theorem missed_cnt (b : SlotSt) : tget 0 (missed b).cnt 15 = min (tget 0 b.cnt 15 + 1) 0xFFFFFFFF := (tget_bump ..).trans (if_pos rfl)

theorem beaconMiss_counts {s : State} (hr : s.slot.running = true) (hf : s.slot.follower = true ∨ isStandby s = true) :
    beaconMiss s = if s.slot.misses + 1 ≠ 3 then withSlot missed s
      else raise 0x085 (if s.slot.follower then withSlot (fun b => { b with holdover := true }) (withSlot missed s) else withSlot missed s) :=
  if_neg (by
    rw [hr]
    rcases hf with hf | hf <;> simp [hf])

theorem beaconMiss_other {s : State} (hr : s.slot.running = true) (hf : s.slot.follower = true ∨ isStandby s = true) (hm : s.slot.misses ≠ 2) :
    beaconMiss s = withSlot missed s := by
  rw [beaconMiss_counts hr hf, if_pos (by omega)]

/-- The third miss in a row (R275, R277). -/
theorem beaconMiss_third {s : State} (hr : s.slot.running = true) (hf : s.slot.follower = true ∨ isStandby s = true) (hm : s.slot.misses = 2) :
    beaconMiss s = raise 0x085 (withSlot missedThird s) := by
  rw [beaconMiss_counts hr hf, if_neg (by omega)]
  cases hw : s.slot.follower with
  | true => simp [withSlot, missedThird, hw, missed]
  | false => simp [withSlot, missedThird, hw, missed]

theorem exec_beaconPeriodMiss {s : State} (hr : s.slot.running = true) (hf : s.slot.follower = true ∨ isStandby s = true) :
    ∃ t, exec .beaconPeriodMiss s = .next t ∧ t = { s with slot := t.slot, evt := t.evt } ∧
      t.slot.misses = min (s.slot.misses + 1) 0xFFFF ∧ tget 0 t.slot.cnt 15 = min (tget 0 s.slot.cnt 15 + 1) 0xFFFFFFFF ∧
      (s.slot.misses = 2 → t.slot.holdover = (s.slot.holdover || s.slot.follower) ∧ t.evt.cause = causeAfter 0x085 s) ∧
      (s.slot.misses ≠ 2 → t.slot.holdover = s.slot.holdover ∧ t.evt = s.evt) := by
  by_cases hm : s.slot.misses = 2
  · obtain ⟨e, he, _, hc⟩ := raise_evt 0x085 (withSlot missedThird s)
    exact ⟨_, congrArg Host.Outcome.next ((beaconMiss_third hr hf hm).trans he), rfl, rfl, missed_cnt s.slot, fun _ => ⟨rfl, hc⟩,
      fun hx => absurd hm hx⟩
  · exact ⟨_, congrArg Host.Outcome.next (beaconMiss_other hr hf hm), rfl, rfl, missed_cnt s.slot, fun hx => absurd hx hm, fun _ => ⟨rfl, rfl⟩⟩

theorem guardReached_widens {s : State} (hh : s.slot.holdover = true) (hg : s.slot.guardLimit = false) : guardReached s =
    raise 0x087 { s with slot := { s.slot with guardLimit := true, guardUs := s.slot.maxExtraGuard } } :=
  if_neg (by simp [hh, hg])

theorem guardReached_idle {s : State} (h : s.slot.holdover = false ∨ s.slot.guardLimit = true) : guardReached s = s :=
  if_pos (by simpa using h)

/-- Settles O45: each command is Ready, so its reply and its effect are what its meaning comes to; a position is accepted, or counts toward the
loss of the reference. -/
theorem frontAndFollower : Obligations.FrontAndFollower := by
  intro h s
  refine ⟨fun p hr => ⟨fun hp => agentRun_refuses hr (slotFrontCfg_badSource hp), fun hp hf => agentRun_refuses hr (slotFrontCfg_follower hp hf),
      fun hp h0 hf hk => agentRun_refuses hr (slotFrontCfg_bad hp h0 hf hk),
      fun hp h0 hf hk => agentRun_answers hr _ (slotFrontCfg_ok hp h0 hf hk) rfl rfl rfl rfl, exec_slotFrontCfg_off hr⟩,
    fun f hg => Nat.not_lt.mp fun hf => absurd hg (Nat.not_lt.mpr (leastGuard_le hf s)),
    fun falling hr hs he => ?edge, fun hr hs => ?missing, fun hx => congrArg Host.Outcome.next (frontMissing_idle hx),
    fun p hr => ⟨fun hp => agentRun_refuses hr (slotFollowCfg_bad hp), fun hp he hb => agentRun_refuses hr (slotFollowCfg_busy hp he hb),
      fun hp he hb => ?follow, fun hp he => ?leave⟩,
    exec_beaconPeriodMiss, fun hh hg => congrArg Host.Outcome.next (guardReached_widens hh hg),
    fun hx => congrArg Host.Outcome.next (guardReached_idle hx)⟩
  case edge =>
    obtain ⟨caps, ev, hx, hv⟩ := frontInEdge_selected hr hs he
    refine ⟨fun hw => ?_, fun hw => ?_⟩
    · obtain ⟨_, _, _, ha⟩ := frontError_accepted (s := { s with time := { s.time with caps := caps }, evt := ev }) hw
      exact ⟨_, congrArg Host.Outcome.next (hx.trans ha), rfl, rfl, rfl, rfl, (tget_bump ..).trans (if_pos rfl)⟩
    · have hj := frontError_rejected (s := { s with time := { s.time with caps := caps }, evt := ev }) hw
      obtain ⟨_, _, _, hb, hc⟩ := frontBadPos_only (raise 0x093 (countFront 1 { s with time := { s.time with caps := caps }, evt := ev }))
      refine ⟨_, congrArg Host.Outcome.next ((hx.trans hj).trans hb), ?_, rfl, ?_, fun hn => hc _ (raise_sets ?_)⟩
      · rw [raise_only]
        rfl
      · rw [raise_only]
        exact (tget_bump ..).trans (if_pos rfl)
      · rw [← hn]
        show (tget _ ev.srcCfg _).enable = _
        rw [hv]
        rfl
  case missing =>
    obtain ⟨_, _, _, hb, _⟩ := frontBadPos_only (countFront 2 s)
    refine ⟨_, congrArg Host.Outcome.next (frontMissing_counts hr hs), ?_, ?_, ?_, fun hn => ?_, fun hn hl => frontBadPos_loses hn hl⟩
    · rw [hb]
      rfl
    · rw [hb]
      rfl
    · rw [hb]
      exact (tget_bump ..).trans (if_pos rfl)
    · rw [frontBadPos_kept (s := countFront 2 s) (.inl hn)]
      exact ⟨rfl, rfl⟩
  case follow =>
    refine (agentRun_answers hr _ (slotFollowCfg_ok hp fun _ => hb) rfl rfl rfl rfl).trans (congrArg Host.Outcome.next ?_)
    rw [done, withSlot, followSet_on he]
    rfl
  case leave =>
    refine ⟨_, agentRun_answers hr _ (slotFollowCfg_ok hp fun hx => absurd (he.symm.trans hx) (by decide)) rfl rfl rfl rfl, rfl, ?_⟩
    simp [done, followSet, he]

end Sys2Proof.Proofs
end

section
/-!
PROOFS. What the planning and the sending of frames leave of the slot engine, one rule per function: its clock, its lists, its plans and the block
TIME stay as they are; only its counters, its superframes and their reservations move.
-/
namespace Sys2Proof.Proofs
open Machine Safety Laws

/-- The slot engine but for its counters, its superframes and the reservations of their runs, with the block TIME. -/
def slotOwn (s : State) : SlotSt × TimeSt := ({ s.slot with cnt := [], preCnt := [], supers := [], runs := [] }, s.time)

/-! How it follows a branch and a fold. -/

@[simp] theorem slotOwn_ite (p : Prop) [Decidable p] (s t : State) : slotOwn (if p then s else t) = if p then slotOwn s else slotOwn t := apply_ite ..

/-- What each step of a fold keeps, the fold keeps. -/
theorem foldl_keeps {α β : Type} (g : State → β) {f : State → α → State} (hf : ∀ s x, g (f s x) = g s) (l : List α) (s : State) :
    g (l.foldl f s) = g s := by
  induction l generalizing s with
  | nil => rfl
  | cons x l ih => exact (ih _).trans (hf s x)

@[simp] theorem slotOwn_foldl {α : Type} {f : State → α → State} (hf : ∀ s x, slotOwn (f s x) = slotOwn s) (l : List α) (s : State) :
    slotOwn (l.foldl f s) = slotOwn s := foldl_keeps slotOwn hf l s

@[simp] theorem slotOwn_foldl_fst {α β : Type} {f : State × β → α → State × β} (hf : ∀ r x, slotOwn (f r x).1 = slotOwn r.1) (l : List α)
    (r : State × β) : slotOwn (l.foldl f r).1 = slotOwn r.1 := by
  induction l generalizing r with
  | nil => rfl
  | cons x l ih => exact (ih _).trans (hf r x)

theorem slotOwn_congr {s t : State} (h : t.slot = s.slot) (k : t.time = s.time) : slotOwn t = slotOwn s := by rw [slotOwn, slotOwn, h, k]

variable (s : State)

/-! Blocks, counters and events. -/

@[simp] theorem slotOwn_withRfc (f) : slotOwn (withRfc f s) = slotOwn s := rfl
@[simp] theorem slotOwn_withChain (c f) : slotOwn (withChain c f s) = slotOwn s := rfl
@[simp] theorem slotOwn_withLaneN (n f) : slotOwn (withLaneN n f s) = slotOwn s := rfl
@[simp] theorem slotOwn_withTm (f) : slotOwn (withTm f s) = slotOwn s := rfl
@[simp] theorem slotOwn_withQueue (q f) : slotOwn (withQueue q f s) = slotOwn s := rfl
@[simp] theorem slotOwn_withBudg (f) : slotOwn (withBudg f s) = slotOwn s := rfl
@[simp] theorem slotOwn_withNbr (n f) : slotOwn (withNbr n f s) = slotOwn s := rfl
@[simp] theorem slotOwn_withKey (n f) : slotOwn (withKey n f s) = slotOwn s := rfl
@[simp] theorem slotOwn_withLnk (f) : slotOwn (withLnk f s) = slotOwn s := rfl
@[simp] theorem slotOwn_withTwin (f) : slotOwn (withTwin f s) = slotOwn s := rfl
@[simp] theorem slotOwn_withTest (f) : slotOwn (withTest f s) = slotOwn s := rfl
@[simp] theorem slotOwn_withCamp (c f) : slotOwn (withCamp c f s) = slotOwn s := rfl
@[simp] theorem slotOwn_withCry (f) : slotOwn (withCry f s) = slotOwn s := rfl
@[simp] theorem slotOwn_withQueues {α : Type} (q : α → Nat) (g : α → QueueSt → QueueSt) (l : List α) :
    slotOwn (l.foldl (fun s x => withQueue (q x) (g x) s) s) = slotOwn s := slotOwn_foldl (fun s x => slotOwn_withQueue s (q x) (g x)) l s
@[simp] theorem slotOwn_secCnt (i) : slotOwn (secCnt i s) = slotOwn s := rfl
@[simp] theorem slotOwn_cryCnt (i) : slotOwn (cryCnt i s) = slotOwn s := rfl
@[simp] theorem slotOwn_tblCnt (i) : slotOwn (tblCnt i s) = slotOwn s := rfl
@[simp] theorem slotOwn_tmCnt (i) : slotOwn (tmCnt i s) = slotOwn s := rfl
@[simp] theorem slotOwn_portCnt (p i) : slotOwn (portCnt p i s) = slotOwn s := rfl
@[simp] theorem slotOwn_twinCnt (i) : slotOwn (twinCnt i s) = slotOwn s := rfl
@[simp] theorem slotOwn_slotCnt (i) : slotOwn (slotCnt i s) = slotOwn s := rfl
@[simp] theorem slotOwn_preCnt (i) : slotOwn (preCnt i s) = slotOwn s := rfl
@[simp] theorem slotOwn_withSuper (n f) : slotOwn (withSuper n f s) = slotOwn s := rfl
@[simp] theorem slotOwn_tick1 : slotOwn (tick1 s) = slotOwn s := rfl
@[simp] theorem slotOwn_complete (p r) : slotOwn (complete p r) = slotOwn r.st := rfl
@[simp] theorem slotOwn_raise (n) : slotOwn (raise n s) = slotOwn s := slotOwn_congr (raise_slot ..) (raise_time ..)
@[simp] theorem slotOwn_raiseIf (b n) : slotOwn (raiseIf b n s) = slotOwn s := by simp [raiseIf]
@[simp] theorem slotOwn_raiseW (n w) : slotOwn (raiseW n w s) = slotOwn s := by rw [raiseW_only]; rfl

@[simp] theorem slotOwn_noteDelta (f) : slotOwn (noteDelta f s) = slotOwn s := by simp [noteDelta]

/-! The air budget (R295-R301). -/

@[simp] theorem slotOwn_debitAll (bucket chain bands us) : slotOwn (debitAll bucket chain bands us s) = slotOwn s := rfl
@[simp] theorem slotOwn_nearCheck (bucket chain bands) : slotOwn (nearCheck bucket chain bands s) = slotOwn s := by simp [nearCheck]
@[simp] theorem slotOwn_budgetCheck (carrier phy chain us bucket) : slotOwn (budgetCheck carrier phy chain us bucket s).1 = slotOwn s := by
  simp [budgetCheck]
@[simp] theorem slotOwn_settleDebit (carrier phy chain bucket reserved sent) :
    slotOwn (settleDebit carrier phy chain bucket reserved sent s) = slotOwn s := rfl

/-! Frames chosen and bound (R354-R356). -/

@[simp] theorem slotOwn_evalShaper (q) : slotOwn (evalShaper q s) = slotOwn s := by
  obtain ⟨_, _, h⟩ := reachesCamps_evalShaper q s
  rw [h]
  rfl

@[simp] theorem slotOwn_offerQueue (q) : slotOwn (offerQueue q s) = slotOwn s := by
  obtain ⟨_, _, h⟩ := reachesCamps_offerQueue q s
  rw [h]
  rfl

@[simp] theorem slotOwn_withdraw (q p) : slotOwn (withdraw q p s) = slotOwn s := by
  obtain ⟨_, _, h⟩ := reachesCamps_withdraw q p s
  rw [h]
  rfl

@[simp] theorem slotOwn_chargeShaper (q f) : slotOwn (chargeShaper q f s) = slotOwn s := by simp [chargeShaper, withShaper]

@[simp] theorem slotOwn_bindFrame (q id) : slotOwn (bindFrame q id s) = slotOwn s := by
  unfold bindFrame
  split <;> simp

@[simp] theorem slotOwn_unbindFrame (q id) : slotOwn (unbindFrame q id s) = slotOwn s := rfl

@[simp] theorem slotOwn_tmNext (peer mask fits) : slotOwn (tmNext peer mask fits s).1 = slotOwn s := by
  unfold tmNext
  dsimp only
  (repeat' split) <;> simp

/-! FORECAST, the lane-plan builder (R245-R257, R268-R278). -/

@[simp] theorem slotOwn_precommit (pl e inSuper reserved) : slotOwn (precommit pl e inSuper reserved s).1 = slotOwn s := by simp [precommit]
@[simp] theorem slotOwn_placeTx (e pl) : slotOwn (placeTx e pl s).1 = slotOwn s := rfl

@[simp] theorem slotOwn_tryTx (t e l pl) : slotOwn (tryTx t e l pl s).1 = slotOwn s := by
  induction l generalizing pl s with
  | nil => rfl
  | cons x l ih =>
    rw [tryTx]
    dsimp only
    split <;> simp [ih]

@[simp] theorem slotOwn_reserveAck (t c f x ch lane pl) : slotOwn (reserveAck t c f x ch lane pl s).1 = slotOwn s := by simp [reserveAck]

@[simp] theorem slotOwn_tryRx (t f x ch l pl) : slotOwn (tryRx t f x ch l pl s).1 = slotOwn s := by
  induction l generalizing pl s with
  | nil => rfl
  | cons y l ih =>
    rw [tryRx]
    dsimp only
    split <;> simp [ih]

@[simp] theorem slotOwn_chooseFrame (t pl x) : slotOwn (chooseFrame t pl x s).1 = slotOwn s := by simp [chooseFrame]

@[simp] theorem slotOwn_doCell (x pl) : slotOwn (doCell x pl s).1 = slotOwn s := by
  unfold doCell
  dsimp only
  (repeat' split) <;> simp

@[simp] theorem slotOwn_doRx (x pl) : slotOwn (doRx x pl s).1 = slotOwn s := by
  unfold doRx
  dsimp only
  split <;> simp

@[simp] theorem slotOwn_doCells (pl) : slotOwn (doCells pl s).1 = slotOwn s := by
  simp [doCells, slotOwn_foldl (fun s (_ : Nat) => slotOwn_slotCnt s 13)]

@[simp] theorem slotOwn_doBeacon (i x pl) : slotOwn (doBeacon i x pl s).1 = slotOwn s := by
  unfold doBeacon
  dsimp only
  split <;> simp

@[simp] theorem slotOwn_fillRun (i peer f stop k t pl) : slotOwn (fillRun i peer f stop k t pl s).1 = slotOwn s := by
  induction k generalizing t pl s with
  | zero => rfl
  | succ k ih =>
    rw [fillRun]
    dsimp only
    split <;> simp [ih]

@[simp] theorem slotOwn_addRun (r : AckRes) : slotOwn (withSlot (fun b => { b with runs := b.runs ++ [r] }) s) = slotOwn s := rfl

@[simp] theorem slotOwn_doRun (i x d pl) : slotOwn (doRun i x d pl s).1 = slotOwn s := by
  unfold doRun
  dsimp only
  (repeat' split) <;> simp

@[simp] theorem slotOwn_superLane (i x pl) : slotOwn (superLane i x pl s).1 = slotOwn s := by
  unfold superLane
  dsimp only
  split <;> simp

@[simp] theorem slotOwn_doSuper (i pl) : slotOwn (doSuper i pl s).1 = slotOwn s := by simp [doSuper]

@[simp] theorem slotOwn_endRaw (c status info t rl valid) : slotOwn (endRaw c status info t rl valid s) = slotOwn s := by
  unfold endRaw
  split <;> simp

@[simp] theorem slotOwn_doRaw (c pl) : slotOwn (doRaw c pl s).1 = slotOwn s := by
  unfold doRaw
  dsimp only
  (repeat' split) <;> simp

/-- One more plan of the slots to come. -/
def addPlan (p : Plan) (o : SlotSt × TimeSt) : SlotSt × TimeSt := ({ o.1 with plans := o.1.plans ++ [p] }, o.2)

/-- A plan built joins the plans of the slots to come, and nothing else of the slot engine's own moves (R252, R278). -/
theorem slotOwn_buildPlan (n : Nat) : ∃ p, slotOwn (buildPlan n s) = addPlan p (slotOwn s) := by
  have planned (b : State) (p : Plan) (h : slotOwn b = slotOwn s) :
      slotOwn (withSlot (fun b => { b with plans := b.plans ++ [p] }) b) = addPlan p (slotOwn s) := congrArg (addPlan p) h
  exact ⟨_, planned _ _ (by simp)⟩

@[simp] theorem slotOwn_takeBack (n) : slotOwn (takeBack n s) = slotOwn s := by simp [takeBack]

end Sys2Proof.Proofs
end

section
/-!
PROOFS. The commands of the slot engine (R243-R246, R281, R282, R284-R288): what each meaning comes to in each of its cases, then the command
path around it.
-/
namespace Sys2Proof.Proofs
open Machine Safety Laws

/-! SLOT_CFG of a slotframe (R245). -/

/-- A hopping sequence that SLOT_CFG takes: its length in range, and every channel (R251). -/
def hopOk (p : SlotCfgP) : Prop := 1 ≤ p.hopLen ∧ p.hopLen ≤ 256 ∧ p.channels.length = p.hopLen ∧ ∀ x ∈ p.channels, x ≤ 0xFFFF

section
variable {h : Hdr} {p : SlotCfgP} {s : State}

theorem slotCfg_slotframe (hf : h.flow ≠ 0) : slotCfg h p s = slotTemplate h p s := if_pos hf

theorem slotCfg_badTemplate (hf : h.flow ≠ 0) (ht : tmplOk s p.tmpl = false) : slotCfg h p s = refuse s stBadParam := by
  rw [slotCfg_slotframe hf]
  exact if_pos (by simp [ht])

theorem slotCfg_template (hf : h.flow ≠ 0) (ht : tmplOk s p.tmpl = true) (h2 : hflag h 2 = false) :
    slotCfg h p s = done (withSf (h.flow - 0x100) (fun f => { f with tmpl := p.tmpl }) s) := by
  rw [slotCfg_slotframe hf]
  simp [slotTemplate, ht, h2]

theorem slotCfg_hop (hf : h.flow ≠ 0) (ht : tmplOk s p.tmpl = true) (h2 : hflag h 2 = true) (hp : hopOk p) :
    slotCfg h p s = done (withSf (h.flow - 0x100) (fun f => { f with tmpl := p.tmpl, hop := p.channels }) s) := by
  obtain ⟨h1, h256, hl, hc⟩ := hp
  have hany : p.channels.any (0xFFFF < ·) = false := by simpa using hc
  have h0 : p.hopLen ≠ 0 := by omega
  rw [slotCfg_slotframe hf]
  simp [slotTemplate, ht, h2, hany, hl, h0, Nat.not_lt.mpr h256]

/-! SLOT_CFG set (R246, R281). -/

theorem slotCfg_set (hf : h.flow = 0) (h0 : p.op = 0) : slotCfg h p s = slotSet h p s := by
  rw [slotCfg, if_neg (not_not.mpr hf), if_pos h0]

theorem slotCfg_badOp (hf : h.flow = 0) (ho : 2 < p.op) : slotCfg h p s = refuse s stBadParam := by
  rw [slotCfg, if_neg (not_not.mpr hf), if_neg (by omega), if_neg (by omega), if_neg (by omega)]

theorem slotCfg_badSet (hf : h.flow = 0) (h0 : p.op = 0) (hk : slotSetOk h p = false) : slotCfg h p s = refuse s stBadParam := by
  rw [slotCfg_set hf h0]
  exact if_pos (by simp [hk])

theorem slotCfg_lengthHeld (hf : h.flow = 0) (h0 : p.op = 0) (hk : slotSetOk h p = true) (hr : s.slot.running = true)
    (hl : p.slotLenUs ≠ s.slot.slotLenUs) : slotCfg h p s = refuse s stBusy := by
  rw [slotCfg_set hf h0, slotSet, if_neg (by simp [hk]), if_pos (by simp [hr, hl])]

/-- The block settings that SLOT_CFG puts in force. -/
def slotSettings (p : SlotCfgP) (b : SlotSt) : SlotSt := { b with
  slotLenUs := p.slotLenUs, maxRetries := p.maxRetries, minBe := p.minBe, maxBe := p.maxBe, preBytes := p.preBytes, fskTx := p.fskTx,
  ackUnknown := p.ackUnknown = 1, dupWindowMs := p.dupWindowMs, txReportRing := p.txReportRing, reportAll := p.reportAll = 1 }

/-- The same, and the beacon's fields where they come with it. -/
def slotSettingsOf (h : Hdr) (p : SlotCfgP) (b : SlotSt) : SlotSt := if hflag h 2 = true then { slotSettings p b with
  ebTemplate := p.ebTemplate, ebAsnOffset := p.ebAsnOffset, ebSecLevel := p.ebSecLevel, ebKeySlot := p.ebKeySlot } else slotSettings p b

theorem slotCfg_settings (hf : h.flow = 0) (h0 : p.op = 0) (hk : slotSetOk h p = true)
    (hl : s.slot.running = false ∨ p.slotLenUs = s.slot.slotLenUs) : slotCfg h p s = done (withSlot (slotSettingsOf h p) s) := by
  have hn : ¬ (s.slot.running && p.slotLenUs ≠ s.slot.slotLenUs) = true := by
    rcases hl with hl | hl <;> simp [hl]
  rw [slotCfg_set hf h0, slotSet, if_neg (by simp [hk]), if_neg hn]
  unfold slotSettingsOf withSlot
  split <;> rfl

/-! SLOT_CFG START (R243, R292). -/

theorem slotCfg_start (hf : h.flow = 0) (h1 : p.op = 1) : slotCfg h p s = slotStart p s := by
  rw [slotCfg, if_neg (not_not.mpr hf), if_neg (by omega), if_pos h1]

theorem slotCfg_startUntracked (hf : h.flow = 0) (h1 : p.op = 1) (ha : p.asnStart < 2 ^ 40) (ht : refTracked s 3 = false) :
    slotCfg h p s = refuse s stBusy := by
  rw [slotCfg_start hf h1, slotStart, if_neg (Nat.not_le.mpr ha), if_pos (by simp [ht])]

theorem slotCfg_startPast (hf : h.flow = 0) (h1 : p.op = 1) (ha : p.asnStart < 2 ^ 40) (ht : refTracked s 3 = true)
    (hp : (p.startTimeNs : Int) < selNs s + 2000 * (s.slot.slotLenUs : Int)) : slotCfg h p s = refuse s stPastTime := by
  rw [slotCfg_start hf h1, slotStart, if_neg (Nat.not_le.mpr ha), if_neg (by simp [ht]), if_pos hp]

theorem slotCfg_startRunning (hf : h.flow = 0) (h1 : p.op = 1) (ha : p.asnStart < 2 ^ 40) (ht : refTracked s 3 = true)
    (hp : selNs s + 2000 * (s.slot.slotLenUs : Int) ≤ (p.startTimeNs : Int)) (hr : s.slot.running = true) :
    slotCfg h p s = refuse s stBusy := by
  rw [slotCfg_start hf h1, slotStart, if_neg (Nat.not_le.mpr ha), if_neg (by simp [ht]), if_neg (Int.not_lt.mpr hp), if_pos hr]

/-- The slot engine at START: the slot before the first, F and P at 0 (R242, R243, R292). -/
def startSlot (p : SlotCfgP) (b : SlotSt) : SlotSt := { b with
  running := true, started := false, asnStart := p.asnStart, startNs := p.startTimeNs, asn := (p.asnStart + 2 ^ 40 - 1) % 2 ^ 40,
  boundaryNs := (p.startTimeNs : Int) - 1000 * b.slotLenUs, prevNs := (p.startTimeNs : Int) - 2000 * b.slotLenUs, frontF := 0, frontP := 0,
  plan := none, plans := [] }

theorem slotCfg_starts (hf : h.flow = 0) (h1 : p.op = 1) (ha : p.asnStart < 2 ^ 40) (ht : refTracked s 3 = true)
    (hp : selNs s + 2000 * (s.slot.slotLenUs : Int) ≤ (p.startTimeNs : Int)) (hr : s.slot.running = false) :
    slotCfg h p s = done (buildPlan (asnAdd p.asnStart 1) (buildPlan p.asnStart (armBoundary p.startTimeNs (withSlot (startSlot p) s)))) := by
  rw [slotCfg_start hf h1, slotStart, if_neg (Nat.not_le.mpr ha), if_neg (by simp [ht]), if_neg (Int.not_lt.mpr hp), if_neg (by simp [hr])]
  rfl

/-- Two plans built leave what is the slot engine's own but for its plans, and the block TIME. -/
theorem slotOwn_buildPlans (m n : Nat) (s : State) : ∃ x y, slotOwn (buildPlan n (buildPlan m s)) = addPlan y (addPlan x (slotOwn s)) := by
  obtain ⟨x, hx⟩ := slotOwn_buildPlan s m
  obtain ⟨y, hy⟩ := slotOwn_buildPlan (buildPlan m s) n
  exact ⟨x, y, hy.trans (congrArg (addPlan y) hx)⟩

theorem cmpOf_armBoundary (ns : Int) (s : State) : cmpOf (armBoundary ns s) 0 =
    { cmpOf s 0 with armed := true, ref := 3, target := ns.toNat, period := 0, actions := 0 } := by
  rw [armBoundary, cmpOf_withCmp, if_pos rfl]

/-- The slot before the first is one before asn_start (R242). -/
theorem asnAdd_pred {a : Nat} (ha : a < 2 ^ 40) : asnAdd ((a + 2 ^ 40 - 1) % 2 ^ 40) 1 = a := by
  simp only [asnAdd]
  omega

theorem exec_slotCfg_starts (hr : Ready h (.slotCfg p) s) (hf : h.flow = 0) (h1 : p.op = 1) (ha : p.asnStart < 2 ^ 40)
    (ht : refTracked s 3 = true) (hp : selNs s + 2000 * (s.slot.slotLenUs : Int) ≤ (p.startTimeNs : Int)) (hn : s.slot.running = false) :
    ∃ t, exec (.slotCfg h p) s = .next t ∧
      t.slot.running = true ∧ t.slot.started = false ∧ t.slot.asnStart = p.asnStart ∧ t.slot.startNs = p.startTimeNs ∧ t.slot.frontF = 0 ∧
      t.slot.frontP = 0 ∧ asnAdd t.slot.asn 1 = p.asnStart ∧ (cmpOf t 0).armed = true ∧ (cmpOf t 0).ref = 3 ∧ (cmpOf t 0).target = p.startTimeNs := by
  have hrun := slotCfg_starts (h := h) (p := p) (s := inFlightWith h (.slotCfg p) s) hf h1 ha ht hp hn
  have harm := cmpOf_armBoundary p.startTimeNs (withSlot (startSlot p) (inFlightWith h (.slotCfg p) s))
  obtain ⟨x, y, hown⟩ := slotOwn_buildPlans p.asnStart (asnAdd p.asnStart 1)
    (armBoundary p.startTimeNs (withSlot (startSlot p) (inFlightWith h (.slotCfg p) s)))
  generalize buildPlan _ (buildPlan _ _) = u at hrun hown
  have hcmp : cmpOf u 0 = _ := (congrArg (fun o : SlotSt × TimeSt => (tget {} o.2.cmps 0 : CmpSt)) hown).trans harm
  have slot {α : Type} (g : SlotSt → α) := congrArg (fun o : SlotSt × TimeSt => g o.1) hown
  exact ⟨_, (agentRun_ready hr).trans (congrArg (fun r => Host.Outcome.next (complete (isFor h (.slotCfg p)) r)) hrun),
    slot (·.running), slot (·.started), slot (·.asnStart), slot (·.startNs), slot (·.frontF), slot (·.frontP),
    (congrArg (asnAdd · 1) (slot (·.asn))).trans (asnAdd_pred ha), congrArg (·.armed) hcmp, congrArg (·.ref) hcmp, congrArg (·.target) hcmp⟩

/-! SLOT_CFG STOP (R244, R288). -/

theorem slotCfg_stop (hf : h.flow = 0) (h2 : p.op = 2) : slotCfg h p s = slotStop s := by
  rw [slotCfg, if_neg (not_not.mpr hf), if_neg (by omega), if_neg (by omega), if_pos h2]

theorem slotCfg_stopIdle (hf : h.flow = 0) (h2 : p.op = 2) (hr : s.slot.running = false) : slotCfg h p s = done s := by
  rw [slotCfg_stop hf h2]
  exact if_pos (by simp [hr])

/-- A slotframe without a pending activation. -/
def noPending (x : SfSt) : SfSt := { x with pendAsn := none, pendOff := false }

/-- The slot engine after STOP. -/
def stopSlot (b : SlotSt) : SlotSt := { b with stopPending := true, sfs := b.sfs.map (fun e => (e.1, noPending e.2)) }

theorem slotCfg_stops (hf : h.flow = 0) (h2 : p.op = 2) (hr : s.slot.running = true) : slotCfg h p s = done (withSlot stopSlot s) := by
  rw [slotCfg_stop hf h2]
  exact if_neg (by simp [hr])

/-- A function applied to every entry of a table, where it leaves the default. -/
theorem tget_map_entries {α : Type} {d : α} {f : α → α} (hd : f d = d) (t : Tbl α) (i : Nat) :
    tget d (t.map (fun e => (e.1, f e.2))) i = f (tget d t i) := by
  induction t with
  | nil => exact hd.symm
  | cons e t ih =>
    rw [List.map_cons, tget, tget]
    split
    · rfl
    · exact ih

theorem sfOf_stopped (s : State) (g : Nat) : sfOf (withSlot stopSlot s) g = noPending (sfOf s g) := tget_map_entries rfl ..

end

/-! SLOT_LIST_LOAD (R284). -/

section
variable {h : Hdr} {p : SlotListLoadP} {s : State}

/-- The reply of a SLOT_LIST_LOAD that is refused. -/
def loadRefuse (h : Hdr) (s : State) (st bad : Nat) : Res := { st := s, status := st, data := loadReply s (h.flow - 0x100) bad }

/-- The reply of a SLOT_LIST_LOAD that changes its slotframe. -/
def loadDone (h : Hdr) (s : State) (g : SfSt → SfSt) : Res :=
  let t := withSf (h.flow - 0x100) g s
  done t (loadReply t (h.flow - 0x100) 0xFFFFFFFF)

/-- The slot offset of the last cell staged. -/
def lastStaged (x : SfSt) : Nat := match (x.staged.getD []).getLast? with | some c => c.slotOffset | none => 0

theorem slotListLoad_pending (hp : (sfOf s (h.flow - 0x100)).pendAsn.isSome = true) :
    slotListLoad h p s = loadRefuse h s stBusy 0xFFFFFFFF := if_pos hp

theorem slotListLoad_badOp (hp : (sfOf s (h.flow - 0x100)).pendAsn = none) (ho : 2 < p.op) :
    slotListLoad h p s = loadRefuse h s stBadParam 0xFFFFFFFF := by
  unfold slotListLoad
  extract_lets f x no
  rw [if_neg (by simp [x, f, hp]), if_neg (by omega), if_neg (by omega), if_neg (by omega)]
  rfl

theorem slotListLoad_begin (hp : (sfOf s (h.flow - 0x100)).pendAsn = none) (ho : p.op = 0) (h1 : 1 ≤ p.sfLen) (hl : p.sfLen ≤ 0xFFFF) :
    slotListLoad h p s = loadDone h s fun x => { x with staged := some [], stagedLen := p.sfLen, staging := true, stagedReady := false } := by
  unfold slotListLoad
  extract_lets f x no
  rw [if_neg (by simp [x, f, hp]), if_pos ho, if_neg (by simp; omega)]
  rfl

theorem slotListLoad_notBegun (hp : (sfOf s (h.flow - 0x100)).pendAsn = none) (ho : p.op = 1 ∨ p.op = 2)
    (hs : (sfOf s (h.flow - 0x100)).staging = false) : slotListLoad h p s = loadRefuse h s stBusy 0xFFFFFFFF := by
  unfold slotListLoad
  extract_lets f x no
  have hx : (!x.staging) = true := by simp [x, f, hs]
  rcases ho with ho | ho
  · rw [if_neg (by simp [x, f, hp]), if_neg (by omega), if_pos ho, if_pos hx]
    rfl
  · rw [if_neg (by simp [x, f, hp]), if_neg (by omega), if_neg (by omega), if_pos ho, if_pos hx]
    rfl

/-- An append to a list begun, its cells in range: a bad cell refuses it, and so does a list too long. -/
theorem slotListLoad_append (hp : (sfOf s (h.flow - 0x100)).pendAsn = none) (ho : p.op = 1) (hs : (sfOf s (h.flow - 0x100)).staging = true)
    (ha : p.hostAddr % 16 = 0) (h1 : 1 ≤ p.cells.length) (hl : p.cells.length ≤ 1048576) :
    slotListLoad h p s = match firstBad (h.flow - 0x100) (sfOf s (h.flow - 0x100)).stagedLen 0 (lastStaged (sfOf s (h.flow - 0x100))) p.cells with
      | some i => loadRefuse h s stBadParam i
      | none => if 1048576 < stagedTotal s + p.cells.length then loadRefuse h s stNoRoom 0xFFFFFFFF
        else loadDone h s fun x => { x with staged := some ((sfOf s (h.flow - 0x100)).staged.getD [] ++ p.cells) } := by
  unfold slotListLoad
  extract_lets f x no
  rw [if_neg (by simp [x, f, hp]), if_neg (by omega), if_pos ho, if_neg (by simp [x, f, hs]), if_neg ?_]
  · rfl
  · simp only [ha, Bool.or_eq_true, decide_eq_true_eq]
    omega

theorem slotListLoad_badCell {i : Nat} (hp : (sfOf s (h.flow - 0x100)).pendAsn = none) (ho : p.op = 1)
    (hs : (sfOf s (h.flow - 0x100)).staging = true) (ha : p.hostAddr % 16 = 0) (h1 : 1 ≤ p.cells.length) (hl : p.cells.length ≤ 1048576)
    (hb : firstBad (h.flow - 0x100) (sfOf s (h.flow - 0x100)).stagedLen 0 (lastStaged (sfOf s (h.flow - 0x100))) p.cells = some i) :
    slotListLoad h p s = loadRefuse h s stBadParam i := by
  rw [slotListLoad_append hp ho hs ha h1 hl, hb]

theorem slotListLoad_appends (hp : (sfOf s (h.flow - 0x100)).pendAsn = none) (ho : p.op = 1)
    (hs : (sfOf s (h.flow - 0x100)).staging = true) (ha : p.hostAddr % 16 = 0) (h1 : 1 ≤ p.cells.length)
    (hb : firstBad (h.flow - 0x100) (sfOf s (h.flow - 0x100)).stagedLen 0 (lastStaged (sfOf s (h.flow - 0x100))) p.cells = none)
    (hl : stagedTotal s + p.cells.length ≤ 1048576) :
    slotListLoad h p s = loadDone h s fun x => { x with staged := some ((sfOf s (h.flow - 0x100)).staged.getD [] ++ p.cells) } := by
  rw [slotListLoad_append hp ho hs ha h1 (by omega), hb]
  exact if_neg (Nat.not_lt.mpr hl)

/-- A slotframe whose staged list is ended. -/
def listEnded (x : SfSt) : SfSt := { x with staging := false, stagedReady := true }

theorem slotListLoad_end (hp : (sfOf s (h.flow - 0x100)).pendAsn = none) (ho : p.op = 2) (hs : (sfOf s (h.flow - 0x100)).staging = true) :
    slotListLoad h p s = loadDone h s listEnded := by
  unfold slotListLoad
  extract_lets f x no
  rw [if_neg (by simp [x, f, hp]), if_neg (by omega), if_neg (by omega), if_pos ho, if_neg (by simp [x, f, hs])]
  rfl

theorem exec_slotListLoad_refused {st bad : Nat} (hr : Ready h (.slotListLoad p) s)
    (he : slotListLoad h p (inFlightWith h (.slotListLoad p) s) = loadRefuse h (inFlightWith h (.slotListLoad p) s) st bad) :
    exec (.slotListLoad h p) s = .next { s with hif := answered h (.slotListLoad p) st 0 (loadReply s (h.flow - 0x100) bad) s } :=
  agentRun_answers hr _ he rfl rfl rfl rfl

theorem exec_slotListLoad_changed {g : SfSt → SfSt} (hr : Ready h (.slotListLoad p) s)
    (he : slotListLoad h p (inFlightWith h (.slotListLoad p) s) = loadDone h (inFlightWith h (.slotListLoad p) s) g) :
    let f := h.flow - 0x100
    let y := g (sfOf s f)
    exec (.slotListLoad h p) s = .next { s with
      hif := answered h (.slotListLoad p) stOk 0 (le 4 (y.staged.getD []).length ++ le 4 0xFFFFFFFF) s,
      slot := { s.slot with sfs := tput s.slot.sfs f y } } := by
  intro f y
  have hx : sfOf (withSf f g (inFlightWith h (.slotListLoad p) s)) f = y := (tget_tmod ..).trans (if_pos rfl)
  refine (agentRun_answers hr _ he rfl rfl rfl rfl).trans ?_
  rw [loadDone, loadReply, hx]
  rfl

end

/-! SLOT_LIST_ACTIVATE (R286-R288). -/

section
variable {h : Hdr} {p : SlotListActivateP} {s : State}

theorem slotListActivate_bad (hp : 2 < p.op ∨ 2 ^ 40 ≤ p.asn) : slotListActivate h p s = refuse s stBadParam := if_pos (by simpa using hp)

theorem slotListActivate_on (ho : p.op = 0) (ha : p.asn < 2 ^ 40) : slotListActivate h p s = activateList false (h.flow - 0x100) p.asn s := by
  unfold slotListActivate
  extract_lets f
  rw [if_neg (by simp [ho]; omega), if_pos (by omega)]
  simp [ho, f]

/-- A slotframe whose staged list may become active: the list ended, no activation pending, and room for its cells (R286). -/
def mayActivate (f : Nat) (s : State) : Prop :=
  (sfOf s f).stagedReady = true ∧ (sfOf s f).pendAsn = none ∧ activeOthers s f + ((sfOf s f).staged.getD []).length ≤ 1048576

/-- How far the first slot not built yet is past a (R286). -/
def asnPast (a : Nat) (s : State) : Nat := (firstUnbuilt s + 2 ^ 40 - a) % 2 ^ 40

/-- The least period of the staged list of slotframe f. -/
def stagedPeriod (f : Nat) (s : State) : Nat := max 1 (sfOf s f).stagedLen

/-- The next start of the staged list (R286). -/
def nextStart (f : Nat) (s : State) : Nat := cdiv (firstUnbuilt s) (stagedPeriod f s) * stagedPeriod f s % 2 ^ 40

/-- A slotframe with its staged list's activation pending at a. -/
def pendingAt (a : Nat) (x : SfSt) : SfSt := { x with pendAsn := some a, pendOff := false }

/-- A slotframe whose staged list has become its active one. -/
def listOn (x : SfSt) : SfSt := { x with
  active := x.staged, activeLen := x.stagedLen, staged := none, stagedLen := 0, stagedReady := false, pendAsn := none, pendOff := false }

theorem activateList_busy {f a : Nat} (hb : (sfOf s f).stagedReady = false ∨ (sfOf s f).pendAsn.isSome = true) :
    activateList false f a s = refuse s stBusy := by
  refine if_pos ?_
  rcases hb with hb | hb <;> simp [hb]

/-- A list that may become active does by the first row of R286 that holds. -/
theorem activateList_ready {f a : Nat} (hm : mayActivate f s) :
    activateList false f a s =
      if !s.slot.running then done (applyList false f s) (le 5 (2 ^ 40 - 1))
      else if !asnBehind a (firstUnbuilt s) then done (withSf f (pendingAt a) s) (le 5 a)
      else if asnPast a s < stagedPeriod f s then
        { st := withSf f (pendingAt (nextStart f s)) s, status := stLateApplied, data := le 5 (nextStart f s) }
      else refuse s stPastTime := by
  obtain ⟨hr, hp, hl⟩ := hm
  unfold activateList
  extract_lets x u len d pend
  rw [if_neg (by simp [x, hr, hp]), if_neg (by simp [x, hl])]
  rfl

theorem noteDelta_twin (g : DeltaRec → DeltaRec) (s : State) : ∃ tw, noteDelta g s = { s with twin := tw } := by
  unfold noteDelta
  split
  · exact ⟨_, rfl⟩
  · exact ⟨s.twin, rfl⟩

/-- A list that becomes active reaches its slotframe, the twin's next delta and the event of it (R287). -/
theorem applyList_on (f : Nat) (s : State) :
    ∃ tw e, applyList false f s = { withSf f listOn s with twin := tw, evt := e } ∧ e.cause = causeAfter 0x090 s := by
  obtain ⟨tw, ht⟩ := noteDelta_twin (fun d => { d with lists := d.lists ++ [f] }) (withSf f listOn s)
  obtain ⟨e, he, -, hc⟩ := raise_evt 0x090 { withSf f listOn s with twin := tw }
  refine ⟨tw, e, ?_, hc⟩
  rw [← he, ← ht]
  rfl

theorem slotListActivate_stopped (ho : p.op = 0) (ha : p.asn < 2 ^ 40) (hm : mayActivate (h.flow - 0x100) s) (hr : s.slot.running = false) :
    slotListActivate h p s = done (applyList false (h.flow - 0x100) s) (le 5 (2 ^ 40 - 1)) := by
  rw [slotListActivate_on ho ha, activateList_ready hm, if_pos (by simp [hr])]

theorem exec_slotListActivate_on (hr : Ready h (.slotListActivate p) s) (ho : p.op = 0) (ha : p.asn < 2 ^ 40)
    (hm : mayActivate (h.flow - 0x100) s) (hn : s.slot.running = false) : ∃ t, exec (.slotListActivate h p) s = .next t ∧
      t = { s with hif := answered h (.slotListActivate p) stOk 0 (le 5 (2 ^ 40 - 1)) s, slot := t.slot, twin := t.twin, evt := t.evt } ∧
      t.slot = { s.slot with sfs := tput s.slot.sfs (h.flow - 0x100) (listOn (sfOf s (h.flow - 0x100))) } ∧
      t.evt.cause = causeAfter 0x090 s := by
  obtain ⟨tw, e, happ, hc⟩ := applyList_on (h.flow - 0x100) (inFlightWith h (.slotListActivate p) s)
  have hrun := slotListActivate_stopped (h := h) (p := p) (s := inFlightWith h (.slotListActivate p) s) ho ha hm hn
  rw [happ] at hrun
  exact ⟨_, agentRun_answers hr _ hrun rfl rfl rfl rfl, rfl, rfl, hc⟩

/-- What a command that puts one slotframe's activation comes to. -/
theorem exec_slotListActivate_put {g : SfSt → SfSt} {st : Nat} {d : List Byte} (hr : Ready h (.slotListActivate p) s)
    (he : slotListActivate h p (inFlightWith h (.slotListActivate p) s) =
      { st := withSf (h.flow - 0x100) g (inFlightWith h (.slotListActivate p) s), status := st, data := d }) :
    exec (.slotListActivate h p) s = .next { s with
      hif := answered h (.slotListActivate p) st 0 d s,
      slot := { s.slot with sfs := tput s.slot.sfs (h.flow - 0x100) (g (sfOf s (h.flow - 0x100))) } } :=
  agentRun_answers hr _ he rfl rfl rfl rfl

theorem slotListActivate_pends (ho : p.op = 0) (ha : p.asn < 2 ^ 40) (hm : mayActivate (h.flow - 0x100) s) (hr : s.slot.running = true)
    (hb : asnBehind p.asn (firstUnbuilt s) = false) :
    slotListActivate h p s = done (withSf (h.flow - 0x100) (pendingAt p.asn) s) (le 5 p.asn) := by
  rw [slotListActivate_on ho ha, activateList_ready hm, if_neg (by simp [hr]), if_pos (by simp [hb])]

theorem slotListActivate_late (ho : p.op = 0) (ha : p.asn < 2 ^ 40) (hm : mayActivate (h.flow - 0x100) s) (hr : s.slot.running = true)
    (hb : asnBehind p.asn (firstUnbuilt s) = true) (hl : asnPast p.asn s < stagedPeriod (h.flow - 0x100) s) :
    let t := nextStart (h.flow - 0x100) s
    slotListActivate h p s = { st := withSf (h.flow - 0x100) (pendingAt t) s, status := stLateApplied, data := le 5 t } := by
  rw [slotListActivate_on ho ha, activateList_ready hm, if_neg (by simp [hr]), if_neg (by simp [hb]), if_pos hl]

theorem slotListActivate_past (ho : p.op = 0) (ha : p.asn < 2 ^ 40) (hm : mayActivate (h.flow - 0x100) s) (hr : s.slot.running = true)
    (hb : asnBehind p.asn (firstUnbuilt s) = true) (hl : stagedPeriod (h.flow - 0x100) s ≤ asnPast p.asn s) :
    slotListActivate h p s = refuse s stPastTime := by
  rw [slotListActivate_on ho ha, activateList_ready hm, if_neg (by simp [hr]), if_neg (by simp [hb]), if_neg (Nat.not_lt.mpr hl)]

/-- A cancel, by what is pending (R288). -/
theorem slotListActivate_cancel (ho : p.op = 2) (ha : p.asn < 2 ^ 40) :
    slotListActivate h p s = match (sfOf s (h.flow - 0x100)).pendAsn with
      | none => done s (le 5 (2 ^ 40 - 1))
      | some a => if asnBehind a (firstUnbuilt s) then refuse s stBusy else done (withSf (h.flow - 0x100) noPending s) (le 5 a) := by
  unfold slotListActivate
  extract_lets f
  rw [if_neg (by simp [ho]; omega), if_neg (by omega)]
  rfl

theorem slotListActivate_cancelNone (ho : p.op = 2) (ha : p.asn < 2 ^ 40) (hp : (sfOf s (h.flow - 0x100)).pendAsn = none) :
    slotListActivate h p s = done s (le 5 (2 ^ 40 - 1)) := by rw [slotListActivate_cancel ho ha, hp]

theorem slotListActivate_cancelLate {a : Nat} (ho : p.op = 2) (ha : p.asn < 2 ^ 40) (hp : (sfOf s (h.flow - 0x100)).pendAsn = some a)
    (hb : asnBehind a (firstUnbuilt s) = true) : slotListActivate h p s = refuse s stBusy := by
  rw [slotListActivate_cancel ho ha, hp]
  exact if_pos hb

theorem slotListActivate_cancels {a : Nat} (ho : p.op = 2) (ha : p.asn < 2 ^ 40) (hp : (sfOf s (h.flow - 0x100)).pendAsn = some a)
    (hb : asnBehind a (firstUnbuilt s) = false) : slotListActivate h p s = done (withSf (h.flow - 0x100) noPending s) (le 5 a) := by
  rw [slotListActivate_cancel ho ha, hp]
  exact if_neg (by simp [hb])

end

/-! SLOT_STATUS (R281). -/

section
variable {h : Hdr} {p : SlotStatusP} {s : State}

theorem slotStatus_state (ho : p.op = 0) :
    slotStatus h p s = done s (le 5 s.slot.asn ++ le 1 (slotStatusWord s) ++ le 2 s.slot.guardUs ++ le 2 s.slot.timeSource ++
      le 1 (min s.slot.misses 255) ++ zeros 1 ++ leS 8 s.slot.boundaryNs) := if_pos ho

/-- The counters of the slot engine, as SLOT_STATUS writes them. -/
def slotCounters (s : State) : List Byte := (List.range 17).flatMap (fun i => le 4 (tget 0 s.slot.cnt i))

theorem slotStatus_counters (ho : p.op = 1) (hc : p.clear ≤ 1) :
    slotStatus h p s = done { s with
      hostMem := if p.bufferAddr = 0 then s.hostMem else memWrite s.hostMem p.bufferAddr (slotCounters s),
      slot := if p.clear = 1 then { s.slot with cnt := [] } else s.slot } := by
  unfold slotStatus
  extract_lets b s1
  rw [if_neg (by omega), if_pos (by simp [ho, hc])]
  have hs : s1 = { s with hostMem := if p.bufferAddr = 0 then s.hostMem else memWrite s.hostMem p.bufferAddr (slotCounters s) } := by
    simp only [s1, toHost]
    split <;> rfl
  rw [hs]
  split <;> rfl

end
/-! Frames that wait, whole but for being bound and charged (R354, R355). -/

/-- A frame but for its marks. -/
def unmarked (f : QFrame) : QFrame := { f with bound := false, charged := false }

/-- The frames of queue q, in order, but for their marks. -/
def waitingFrames (s : State) (q : Nat) : List QFrame := (queueOf s q).frames.map unmarked

theorem waitingFrames_congr {s t : State} (h : t.tm.queues = s.tm.queues) (q : Nat) : waitingFrames t q = waitingFrames s q := by
  rw [waitingFrames, waitingFrames, queueOf, queueOf, h]

theorem waitingFrames_withQueue {p : Nat} {f : QueueSt → QueueSt} (s : State) (q : Nat)
    (hf : ∀ x, (f x).frames.map unmarked = x.frames.map unmarked := by exact fun _ => rfl) :
    waitingFrames (withQueue p f s) q = waitingFrames s q := by
  rw [waitingFrames, queueOf_withQueue]
  split
  · exact hf _
  · rfl

/-- Marking a frame leaves it as it was but for its marks. -/
theorem map_unmarked {P : QFrame → Prop} [DecidablePred P] {g : QFrame → QFrame} (l : List QFrame)
    (hg : ∀ y, unmarked (g y) = unmarked y := by exact fun _ => rfl) : (l.map (fun y => if P y then g y else y)).map unmarked = l.map unmarked := by
  rw [List.map_map]
  refine List.map_congr_left fun y _ => ?_
  simp only [Function.comp_apply]
  split
  · exact hg y
  · rfl

theorem waitingFrames_evalShaper (p : Nat) (s : State) (q : Nat) : waitingFrames (evalShaper p s) q = waitingFrames s q := by
  refine waitingFrames_congr ?_ q
  unfold evalShaper
  extract_lets k
  split
  · rfl
  · split <;> rfl

theorem waitingFrames_chargeShaper (p : Nat) (f : QFrame) (s : State) (q : Nat) : waitingFrames (chargeShaper p f s) q = waitingFrames s q := by
  refine waitingFrames_congr ?_ q
  unfold chargeShaper
  extract_lets k
  split <;> rfl

theorem waitingFrames_offerQueue (p : Nat) (s : State) (q : Nat) : waitingFrames (offerQueue p s) q = waitingFrames s q := by
  unfold offerQueue
  extract_lets u x l out
  have hu : waitingFrames u q = waitingFrames s q := waitingFrames_evalShaper ..
  have ho (t : State) : waitingFrames (out t) q = waitingFrames t q := rfl
  split
  · rw [ho]
    split
    · exact hu
    · exact (waitingFrames_withQueue u q).trans hu
  · split
    · exact (ho u).trans hu
    · split
      · split
        · split <;> exact hu
        · exact (ho u).trans hu
      · exact hu

theorem waitingFrames_unbindFrame (p id : Nat) (s : State) (q : Nat) : waitingFrames (unbindFrame p id s) q = waitingFrames s q :=
  waitingFrames_withQueue s q fun x => map_unmarked x.frames

theorem waitingFrames_bindFrame (p id : Nat) (s : State) (q : Nat) : waitingFrames (bindFrame p id s) q = waitingFrames s q := by
  unfold bindFrame
  split
  · rfl
  · rw [waitingFrames_evalShaper, waitingFrames_withQueue _ _ fun x => map_unmarked x.frames, waitingFrames_chargeShaper]

/-- Class-0 substitution marks frames, and no more of them (R257). -/
theorem waitingFrames_substitute (p id : Nat) (s : State) (q : Nat) : waitingFrames (substitute p id s) q = waitingFrames s q := by
  unfold substitute
  split
  · rfl
  · split
    · rfl
    · split
      · rfl
      · extract_lets old new bound swapped counted lane laned
        have hb : waitingFrames bound q = waitingFrames s q := (waitingFrames_bindFrame ..).trans (waitingFrames_unbindFrame ..)
        have hl : laned.tm = counted.tm := by
          simp only [laned]
          split
          · split <;> rfl
          · rfl
        exact (waitingFrames_congr (t := laned) (congrArg (·.queues) hl) q).trans hb

/-- A frame admitted waits behind the others of its queue (R350). -/
theorem waitingFrames_admitFrame {s : State} {q : Nat} {f : QFrame} (h : admission s q f 0 = 0) :
    waitingFrames (admitFrame q f 0 s).1 q = waitingFrames s q ++ [unmarked { f with arrivedNs := rawNs s }] := by
  unfold admitFrame
  extract_lets why u v
  rw [if_neg (not_not.mpr h)]
  have hv : v.tm.queues = u.tm.queues := by
    simp only [v]
    split <;> rfl
  rw [waitingFrames_offerQueue, waitingFrames_congr hv, waitingFrames, queueOf_withQueue, if_pos rfl, List.map_append]
  rfl

/-! SLOT_TX (R282). -/

/-- The ranges of SLOT_TX. -/
def slotTxOk (p : SlotTxP) (s : State) : Prop :=
  (p.neighbour < 0x8000 ∨ p.neighbour = 0xFFFF) ∧ 9 ≤ p.data.length ∧ p.data.length ≤ 2047 ∧ p.cls ≤ 7 ∧ isAirQueue s p.queue = true ∧
    p.ackReq ≤ 1 ∧ p.secLevel ≤ 7

/-- The same as the test of the model. -/
def slotTxBad (p : SlotTxP) (s : State) : Bool :=
  (0x8000 ≤ p.neighbour && p.neighbour ≠ 0xFFFF) || p.data.length < 9 || 2047 < p.data.length || 7 < p.cls || !isAirQueue s p.queue ||
    1 < p.ackReq || 7 < p.secLevel

theorem slotTxOk_iff (p : SlotTxP) (s : State) : slotTxOk p s ↔ ¬ slotTxBad p s = true := by
  simp only [slotTxOk, slotTxBad, Bool.or_eq_true, Bool.and_eq_true, decide_eq_true_eq, ne_eq, Bool.not_eq_true']
  cases isAirQueue s p.queue
  · simp
  · simp only [true_and, Bool.true_eq_false, or_false]
    omega

/-- The frame of a SLOT_TX, as it comes to its queue. -/
def slotTxFrame (p : SlotTxP) (s : State) : QFrame :=
  { id := s.free, buf := s.free, data := p.data, cls := p.cls, neighbour := p.neighbour, ackReq := p.ackReq = 1, secLevel := p.secLevel,
    frame := { data := p.data, srcPort := 5, cls := p.cls } }

section
variable {h : Hdr} {p : SlotTxP} {s : State}

theorem slotTx_bad (hk : ¬ slotTxOk p s) : slotTx h p s = refuse s stBadParam := by
  rw [slotTxOk_iff, not_not] at hk
  exact if_pos hk

theorem slotTx_stopped (hk : slotTxOk p s) (hr : s.slot.running = false) : slotTx h p s = refuse s stBusy := by
  rw [slotTxOk_iff] at hk
  exact (if_neg hk).trans (if_pos (by simp [hr]))

/-- A frame of SLOT_TX that finds cells and room in its queue is admitted, whatever substitution then does (R257, R351). -/
theorem slotTx_admitted (hk : slotTxOk p s) (hr : s.slot.running = true) (h0 : p.secLevel = 0)
    (hc : cellsFor p.data.length + s.tm.reserve ≤ freeCells s)
    (hb : queueBytes (queueOf s p.queue) + p.data.length ≤ (queueOf s p.queue).maxBytes)
    (hf : (queueOf s p.queue).frames.length < (queueOf s p.queue).maxFrames)
    (hn : ((queueOf s p.queue).frames.filter (fun f => decide (f.neighbour = p.neighbour))).length < (queueOf s p.queue).nbCap) :
    ∃ u info data ns, slotTx h p s = { st := u, info := info, data := data } ∧ u.sec = s.sec ∧ u.hostMem = s.hostMem ∧
      waitingFrames u p.queue = waitingFrames s p.queue ++ [unmarked { slotTxFrame p s with arrivedNs := ns }] := by
  obtain ⟨b, ev, n, ha, hbc⟩ := allocBuf_room (data := p.data) (s := s) (by omega)
  set t : State := { withTm (fun t => { t with bufs := t.bufs ++ [b] }) s with evt := ev, free := s.free + 1 } with ht
  have hcells : freeCells t = freeCells s - b.cells := (freeCells_congr rfl rfl).trans (freeCells_withBuf s b)
  have hw : admission t p.queue (slotTxFrame p s) 0 = 0 :=
    admission_room (by rw [hcells, hbc]; show s.tm.reserve ≤ _; omega) (fun _ => hn) hb hf
  have hrun : slotTx h p s =
      { st := substitute p.queue s.free (admitFrame p.queue (slotTxFrame p s) 0 (tick1 t)).1, info := freshJob t, data := le 4 n } := by
    rw [slotTxOk_iff] at hk
    refine (if_neg hk).trans ((if_neg (by simp [hr])).trans ((if_neg (by simp [h0])).trans ?_))
    rw [ha]
    exact if_neg (not_not.mpr hw)
  obtain ⟨-, ⟨_, _, _, _, hj⟩, -⟩ := admitFrame_joins (s := tick1 t) hw
  obtain ⟨_, _, _, _, hs⟩ := (schedules_substitute p.queue s.free (admitFrame p.queue (slotTxFrame p s) 0 (tick1 t)).1).blocks
  refine ⟨_, _, _, rawNs (tick1 t), hrun, ?_, ?_, (waitingFrames_substitute ..).trans (waitingFrames_admitFrame hw)⟩
  · rw [hs, hj]
    rfl
  · rw [hs, hj]
    rfl

theorem exec_slotTx_admitted (hr : Ready h (.slotTx p) s) (hk : slotTxOk p s) (hn : s.slot.running = true) (h0 : p.secLevel = 0)
    (hc : cellsFor p.data.length + s.tm.reserve ≤ freeCells s)
    (hb : queueBytes (queueOf s p.queue) + p.data.length ≤ (queueOf s p.queue).maxBytes)
    (hf : (queueOf s p.queue).frames.length < (queueOf s p.queue).maxFrames)
    (hcap : ((queueOf s p.queue).frames.filter (fun f => decide (f.neighbour = p.neighbour))).length < (queueOf s p.queue).nbCap) :
    ∃ t, exec (.slotTx h p) s = .next t ∧
      (∃ f ∈ (queueOf t p.queue).frames, f.data = p.data ∧ f.neighbour = p.neighbour ∧ f.cls = p.cls ∧ f.ackReq = decide (p.ackReq = 1)) ∧
      (queueOf t p.queue).frames.length = (queueOf s p.queue).frames.length + 1 ∧ t.sec = s.sec ∧ t.hostMem = s.hostMem := by
  obtain ⟨u, info, data, ns, hrun, hsec, hmem, hw⟩ := slotTx_admitted (h := h) (p := p) (s := inFlightWith h (.slotTx p) s) hk hn h0 hc hb hf hcap
  refine ⟨_, (agentRun_ready hr).trans (congrArg (fun r => Host.Outcome.next (complete (isFor h (.slotTx p)) r)) hrun), ?_, ?_, hsec, hmem⟩
  · have hmemw : unmarked { slotTxFrame p (inFlightWith h (.slotTx p) s) with arrivedNs := ns } ∈ waitingFrames u p.queue :=
      hw ▸ List.mem_append_right _ (List.mem_singleton.mpr rfl)
    obtain ⟨f, hfm, hfe⟩ := List.mem_map.mp hmemw
    have part {α : Type} (g : QFrame → α) := congrArg g hfe
    exact ⟨f, hfm, part (·.data), part (·.neighbour), part (·.cls), part (·.ackReq)⟩
  · have hl := congrArg List.length hw
    rwa [List.length_append, waitingFrames, waitingFrames, List.length_map, List.length_map] at hl

end

/-- Settles O43: each clause is the meaning of its command in one case, under the command path; START rests on what building two plans leaves of the
slot engine, and SLOT_TX on what substitution leaves of the frames that wait. -/
theorem slotCommands : Obligations.SlotCommands := by
  unfold Obligations.SlotCommands
  intro h s
  refine ⟨fun p hr => ⟨?badOp, ?badTmpl, ?tmpl, ?hop, ?badSet, ?held, ?set, ?untracked, ?past, ?running, ?start, ?stopIdle, ?stop⟩,
    fun p hr => ⟨?pending, ?loadOp, ?begin, ?notBegun, ?badCell, ?append, ?finish⟩,
    fun p hr => ⟨?actBad, ?actBusy, ?actOn, ?actPend, ?actPast, ?actLate, ?cancelNone, ?cancelLate, ?cancel⟩,
    fun p hr => ⟨?state, ?counters⟩, fun p hr => ⟨?txBad, ?txStopped, ?tx⟩⟩
  case badOp => exact fun hf ho => agentRun_refuses hr (slotCfg_badOp hf ho)
  case badTmpl => exact fun hf ht => agentRun_refuses hr (slotCfg_badTemplate hf ht)
  case tmpl => exact fun hf ht h2 => agentRun_answers hr _ (slotCfg_template hf ht h2) rfl rfl rfl rfl
  case hop => exact fun hf ht h2 h1 h256 hl hc => agentRun_answers hr _ (slotCfg_hop hf ht h2 ⟨h1, h256, hl, hc⟩) rfl rfl rfl rfl
  case badSet => exact fun hf h0 hk => agentRun_refuses hr (slotCfg_badSet hf h0 hk)
  case held => exact fun hf h0 hk hn hl => agentRun_refuses hr (slotCfg_lengthHeld hf h0 hk hn hl)
  case set => exact fun hf h0 hk hl => agentRun_answers hr _ (slotCfg_settings hf h0 hk hl) rfl rfl rfl rfl
  case untracked => exact fun hf h1 ha ht => agentRun_refuses hr (slotCfg_startUntracked hf h1 ha ht)
  case past =>
    rintro ⟨hf, h1, ha, ht⟩ hp
    exact agentRun_refuses hr (slotCfg_startPast hf h1 ha ht hp)
  case running =>
    rintro ⟨hf, h1, ha, ht⟩ hp hn
    exact agentRun_refuses hr (slotCfg_startRunning hf h1 ha ht hp hn)
  case start =>
    rintro ⟨hf, h1, ha, ht⟩ hp hn
    exact exec_slotCfg_starts hr hf h1 ha ht hp hn
  case stopIdle => exact fun hf h2 hn => agentRun_answers hr _ (slotCfg_stopIdle hf h2 hn) rfl rfl rfl rfl
  case stop =>
    intro hf h2 hn
    refine ⟨_, agentRun_answers hr _ (slotCfg_stops hf h2 hn) rfl rfl rfl rfl, rfl, fun g => ?_⟩
    have hg : sfOf (withSlot stopSlot (inFlightWith h (.slotCfg p) s)) g = noPending (sfOf s g) := sfOf_stopped ..
    exact ⟨congrArg (·.pendAsn) hg, congrArg (·.active) hg⟩
  case pending => exact fun hp => exec_slotListLoad_refused hr (slotListLoad_pending hp)
  case loadOp => exact fun hp ho => exec_slotListLoad_refused hr (slotListLoad_badOp hp ho)
  case begin => exact fun hp ho h1 hl => exec_slotListLoad_changed hr (slotListLoad_begin hp ho h1 hl)
  case notBegun => exact fun hp ho hs => exec_slotListLoad_refused hr (slotListLoad_notBegun hp ho hs)
  case badCell => exact fun i hp ho hs ha h1 hl hb => exec_slotListLoad_refused hr (slotListLoad_badCell hp ho hs ha h1 hl hb)
  case append => exact fun hp ho hs ha h1 hb hl => exec_slotListLoad_changed hr (slotListLoad_appends hp ho hs ha h1 hb hl)
  case finish => exact fun hp ho hs => exec_slotListLoad_changed (g := listEnded) hr (slotListLoad_end hp ho hs)
  case actBad => exact fun hp => agentRun_refuses hr (slotListActivate_bad hp)
  case actBusy => exact fun ho ha hb => agentRun_refuses hr ((slotListActivate_on ho ha).trans (activateList_busy hb))
  case actOn =>
    rintro ⟨ho, ha, hm⟩ hn
    exact exec_slotListActivate_on hr ho ha hm hn
  case actPend =>
    rintro ⟨ho, ha, hm⟩ hn hb
    exact exec_slotListActivate_put hr (slotListActivate_pends ho ha hm hn hb)
  case actPast =>
    rintro ⟨ho, ha, hm⟩ hn hb hl
    exact agentRun_refuses hr (slotListActivate_past ho ha hm hn hb hl)
  case actLate =>
    rintro ⟨ho, ha, hm⟩ hn hb hl
    exact exec_slotListActivate_put hr (slotListActivate_late ho ha hm hn hb hl)
  case cancelNone => exact fun ho ha hp => agentRun_answers hr _ (slotListActivate_cancelNone ho ha hp) rfl rfl rfl rfl
  case cancelLate => exact fun a ho ha hp hb => agentRun_refuses hr (slotListActivate_cancelLate ho ha hp hb)
  case cancel => exact fun a ho ha hp hb => exec_slotListActivate_put hr (slotListActivate_cancels ho ha hp hb)
  case state => exact fun ho => agentRun_answers hr _ (slotStatus_state ho) rfl rfl rfl rfl
  case counters => exact fun ho hc => agentRun_answers hr _ (slotStatus_counters ho hc) rfl rfl rfl rfl
  case txBad => exact fun hk => agentRun_refuses hr (slotTx_bad hk)
  case txStopped => exact fun hk hn => agentRun_refuses hr (slotTx_stopped hk hn)
  case tx => exact fun hk hn h0 hc hb hf hcap => exec_slotTx_admitted hr hk hn h0 hc hb hf hcap

end Sys2Proof.Proofs
end

section
/-!
PROOFS. What a boundary's work beside the slot engine leaves of it, one rule per function: lanes, keys, link frames, the twin, tests and
campaigns (R184, R448, R471, R477, R481, R546).
-/
namespace Sys2Proof.Proofs
open Machine Safety Laws

variable (s : State)

/-! Blocks and counters. -/

@[simp] theorem slotOwn_withPhys (p f) : slotOwn (withPhys p f s) = slotOwn s := rfl
@[simp] theorem slotOwn_withSec (f) : slotOwn (withSec f s) = slotOwn s := rfl
@[simp] theorem slotOwn_withTbl (f) : slotOwn (withTbl f s) = slotOwn s := rfl
@[simp] theorem slotOwn_withPcie (f) : slotOwn (withPcie f s) = slotOwn s := rfl
@[simp] theorem slotOwn_withEthP (e f) : slotOwn (withEthP e f s) = slotOwn s := rfl
@[simp] theorem slotOwn_withPort (p f) : slotOwn (withPort p f s) = slotOwn s := rfl

/-! Entries that end (R162, R273, R544, R546). -/

@[simp] theorem slotOwn_beaconLost (status i) : slotOwn (beaconLost status i s) = slotOwn s := by simp [beaconLost]

@[simp] theorem slotOwn_freeTestChain (r) : slotOwn (freeTestChain r s) = slotOwn s := by
  unfold freeTestChain
  dsimp only
  split <;> simp

@[simp] theorem slotOwn_endTest (status) : slotOwn (endTest status s) = slotOwn s := by
  unfold endTest
  split <;> simp

/-- An entry that ends with ST_STANDBY fails no frame. -/
@[simp] theorem slotOwn_endEntry (e) : slotOwn (endEntry stStandby e s) = slotOwn s := by
  unfold endEntry
  split <;> simp

/-! Lanes (R180, R184, R186). -/

@[simp] theorem slotOwn_tunePhys (p u) : slotOwn (tunePhys p u s) = slotOwn s := rfl
@[simp] theorem slotOwn_boundaryEntry (n e) : slotOwn (boundaryEntry n e s) = slotOwn s := by simp [boundaryEntry, takeEntry]

@[simp] theorem slotOwn_takeEntries : slotOwn (takeEntries s) = slotOwn s := by
  refine slotOwn_foldl (fun s n => ?_) _ _
  split <;> simp

@[simp] theorem slotOwn_abortFrame (p cause) : slotOwn (abortFrame p cause s) = slotOwn s := by
  obtain ⟨_, _, _, h⟩ := (endsFrames_abortFrame p cause s).blocks
  rw [h]
  rfl

/-! Keys (R373, R379-R386). -/

@[simp] theorem slotOwn_keyEvent (n slot) : slotOwn (keyEvent n slot s) = slotOwn s := by simp [keyEvent]
@[simp] theorem slotOwn_noteKey (slot) : slotOwn (noteKey slot s) = slotOwn s := by simp [noteKey]

@[simp] theorem slotOwn_orphan (k p g) : slotOwn (orphan k p g s).1 = slotOwn s := by
  induction k generalizing p g s with
  | zero => rfl
  | succ k ih => simp [orphan, ih]

@[simp] theorem slotOwn_orphanBy (p g) : slotOwn (orphanBy p g s).1 = slotOwn s := by simp [orphanBy]
@[simp] theorem slotOwn_takeGen (slot m overlapMs) : slotOwn (takeGen slot m overlapMs s) = slotOwn s := by simp [takeGen]
@[simp] theorem slotOwn_abortMessages (slot gen) : slotOwn (abortMessages slot gen s) = slotOwn s := by simp [abortMessages]

@[simp] theorem slotOwn_abortRetiring (slot) : slotOwn (abortRetiring slot s) = slotOwn s := by
  unfold abortRetiring
  dsimp only
  split <;> simp

@[simp] theorem slotOwn_keyRefuse (slot status) : slotOwn (keyRefuse slot status s).st = slotOwn s := by simp [keyRefuse]
@[simp] theorem slotOwn_drawUse (slot) : slotOwn (drawUse slot s).st = slotOwn s := by simp [drawUse]

@[simp] theorem slotOwn_commitAtLimit (slot) : slotOwn (commitAtLimit slot s) = slotOwn s := by
  unfold commitAtLimit
  dsimp only
  (repeat' split) <;> simp

@[simp] theorem slotOwn_useKey (slot bitNo) : slotOwn (useKey slot bitNo s).st = slotOwn s := by simp [useKey]
@[simp] theorem slotOwn_wrapKey (wkey binding m) : slotOwn (wrapKey wkey binding m s).1 = slotOwn s := rfl

/-! Link frames (R458, R459, R468). -/

@[simp] theorem slotOwn_putOnWire (p f) : slotOwn (putOnWire p f s) = slotOwn s := by simp [putOnWire]
@[simp] theorem slotOwn_sealLink (p f) : slotOwn (sealLink p f s) = slotOwn s := by simp [sealLink]
@[simp] theorem slotOwn_transmit (p f) : slotOwn (transmit p f s) = slotOwn s := by simp [transmit]
@[simp] theorem slotOwn_newFrame (vl kind dst body msg) : slotOwn (newFrame vl kind dst body msg s).1 = slotOwn s := rfl
@[simp] theorem slotOwn_toPeer (p vl kind body msg) : slotOwn (toPeer p vl kind body msg s) = slotOwn s := by simp [toPeer]
@[simp] theorem slotOwn_tellBoundary : slotOwn (tellBoundary s) = slotOwn s := by simp [tellBoundary]
@[simp] theorem slotOwn_sendTwin (kind l) : slotOwn (sendTwin kind l s) = slotOwn s := by simp [sendTwin]

/-! The twin (R471, R477, R479, R481). -/

@[simp] theorem slotOwn_keyEntry (d) : slotOwn (keyEntry d s).1 = slotOwn s := by simp [keyEntry]
@[simp] theorem slotOwn_deltaOf : slotOwn (deltaOf s).1 = slotOwn s := by simp [deltaOf]

@[simp] theorem slotOwn_sendDelta : slotOwn (sendDelta s) = slotOwn s := by
  generalize ht : sendDelta s = t
  unfold sendDelta at ht
  dsimp only at ht
  subst ht
  rw [slotOwn_ite, slotOwn_ite, slotOwn_sendTwin, slotOwn_withTwin, ite_self, slotOwn_sendTwin, slotOwn_twinCnt, slotOwn_withTwin,
    slotOwn_deltaOf, ite_self]

@[simp] theorem slotOwn_takeSnapshot : slotOwn (takeSnapshot s) = slotOwn s := by
  unfold takeSnapshot
  split <;> simp

@[simp] theorem slotOwn_silence (c) : slotOwn (silence c s) = slotOwn s := by
  unfold silence
  split <;> simp [dropCoex, popTx, takeProfiles]

@[simp] theorem slotOwn_gatesOff : slotOwn (gatesOff s) = slotOwn s := by
  unfold gatesOff
  dsimp only
  (repeat' split) <;> simp

@[simp] theorem slotOwn_stepCounters : slotOwn (stepCounters s) = slotOwn s := rfl

@[simp] theorem slotOwn_gateSwitch : slotOwn (gateSwitch s) = slotOwn s := by
  unfold gateSwitch
  (repeat' split) <;> simp

/-! Tests (R546). -/

@[simp] theorem slotOwn_placeTests (r carrier air gap bytes n t pl) : slotOwn (placeTests r carrier air gap bytes n t pl s) = slotOwn s := by
  induction n generalizing t pl s with
  | zero => rfl
  | succ n ih =>
    rw [placeTests]
    dsimp only
    split <;> simp [ih]

@[simp] theorem slotOwn_beginTest : slotOwn (beginTest s) = slotOwn s := by
  unfold beginTest
  split
  · rfl
  · extract_lets c held quiet
    have hq : slotOwn quiet = slotOwn s := by
      refine (slotOwn_foldl (fun s p => ?_) _ held).trans rfl
      split
      · simp
      · rfl
    split
    · exact hq
    · simp [hq]

@[simp] theorem slotOwn_testBoundary : slotOwn (testBoundary s) = slotOwn s := by
  unfold testBoundary
  split <;> simp

/-! Campaigns (R448-R451). -/

@[simp] theorem slotOwn_freeBuf (id) : slotOwn (freeBuf id s) = slotOwn s := rfl

theorem slotOwn_allocBuf {data : List Byte} {s t : State} {x : Nat × Nat} (h : allocBuf data s = some (t, x)) : slotOwn t = slotOwn s := by
  unfold allocBuf at h
  split at h
  · cases h
  · cases h
    simp [reserveFell]

@[simp] theorem slotOwn_dropEvents (why q) : slotOwn (dropEvents why q s) = slotOwn s := by simp [dropEvents]
@[simp] theorem slotOwn_admitFrame (q f colour) : slotOwn (admitFrame q f colour s).1 = slotOwn s := by simp [admitFrame]

theorem slotOwn_putDrop {q : Nat} {d : DropRec} {addr port : Nat} {x : QFrame} {s t : State} (h : putDrop q d addr port x s = some t) :
    slotOwn t = slotOwn s := by
  unfold putDrop at h
  dsimp only at h
  split at h
  · cases h
  · next ha =>
    split at h
    · cases h
    · cases h
      simp [slotOwn_allocBuf ha]

@[simp] theorem slotOwn_fillWindow (c n) : slotOwn (fillWindow c n s) = slotOwn s := by
  induction n generalizing s with
  | zero => rfl
  | succ n ih =>
    rw [fillWindow]
    dsimp only
    split
    · rfl
    · split
      · simp
      · split
        · rfl
        · next h => simp [ih, slotOwn_putDrop h]

@[simp] theorem slotOwn_endRound (c) : slotOwn (endRound c s) = slotOwn s := by simp [endRound]
@[simp] theorem slotOwn_memberFail (c) : slotOwn (memberFail c s) = slotOwn s := by simp [memberFail]
@[simp] theorem slotOwn_putMember (c i m) : slotOwn (putMember c i m s) = slotOwn s := by simp [putMember]
@[simp] theorem slotOwn_endVisit (c i) : slotOwn (endVisit c i s) = slotOwn s := by simp [endVisit]
@[simp] theorem slotOwn_passDone (c i) : slotOwn (passDone c i s) = slotOwn s := by simp [passDone]

@[simp] theorem slotOwn_parityMiss : slotOwn (parityMiss s) = slotOwn s := by simp [parityMiss]

@[simp] theorem slotOwn_trieLookup (dst) : slotOwn (trieLookup dst s).1 = slotOwn s := by
  unfold trieLookup
  dsimp only
  split <;> simp

@[simp] theorem slotOwn_nodeLookup (kind panId addr) : slotOwn (nodeLookup kind panId addr s).1 = slotOwn s := by
  unfold nodeLookup
  dsimp only
  split <;> simp

@[simp] theorem slotOwn_nbrLookup (n) : slotOwn (nbrLookup n s).1 = slotOwn s := by simp [nbrLookup]
@[simp] theorem slotOwn_nodeHit (pos) : slotOwn (nodeHit pos s) = slotOwn s := rfl

@[simp] theorem slotOwn_repairRoute (addr port) : slotOwn (repairRoute addr port s).1 = slotOwn s := by
  unfold repairRoute
  dsimp only
  (repeat' split) <;> simp

@[simp] theorem slotOwn_fillVisit (c i n) : slotOwn (fillVisit c i n s) = slotOwn s := by
  induction n generalizing s with
  | zero => rfl
  | succ n ih =>
    rw [fillVisit]
    dsimp only
    split
    · rfl
    · split
      · rfl
      · split
        · simp
        · split
          · simp
          · next h => simp [ih, slotOwn_putDrop h]

@[simp] theorem slotOwn_openVisits (c) : slotOwn (openVisits c s) = slotOwn s := by simp [openVisits]
@[simp] theorem slotOwn_serveCamp (c) : slotOwn (serveCamp c s) = slotOwn s := by simp [serveCamp]
@[simp] theorem slotOwn_serveCamps : slotOwn (serveCamps s) = slotOwn s := by simp [serveCamps]

end Sys2Proof.Proofs
end

section
/-!
PROOFS. Slot boundaries, stops and superframes (R242-R244, R268-R272, R299): what a reservation's end reaches, the clock of the slot engine across a
boundary, what a stop leaves, and the superframe's command and events.
-/
namespace Sys2Proof.Proofs
open Machine Safety Laws

/-! Reservations that end (R299). -/

theorem settleRes_budg (r : AckRes) (s : State) : ∃ b, settleRes r s = { s with budg := b } := by
  unfold settleRes
  split
  · exact ⟨_, rfl⟩
  · exact ⟨s.budg, rfl⟩

theorem settleAll_budg (l : List AckRes) (s : State) : ∃ b, l.foldl (fun s r => settleRes r s) s = { s with budg := b } := by
  induction l generalizing s with
  | nil => exact ⟨s.budg, rfl⟩
  | cons r l ih =>
    obtain ⟨b, hb⟩ := settleRes_budg r s
    obtain ⟨b', hb'⟩ := ih { s with budg := b }
    exact ⟨b', by rw [List.foldl_cons, hb, hb']⟩

theorem endSlot_budg (s : State) : ∃ b, endSlot s = { s with budg := b } := by
  unfold endSlot
  split
  · exact ⟨s.budg, rfl⟩
  · exact settleAll_budg ..

theorem settleRuns_only (n : Nat) (s : State) :
    ∃ l b, settleRuns n s = { s with slot := { s.slot with runs := l }, budg := b } := by
  obtain ⟨b, hb⟩ := settleAll_budg (s.slot.runs.filter fun r => r.super = some n && boundaryOf s r.asn + 1000 * (r.fromUs : Int) ≤ selNs s)
    (withSlot (fun b => { b with runs := b.runs.filter fun r =>
      !(r.super = some n && boundaryOf s r.asn + 1000 * (r.fromUs : Int) ≤ selNs s) }) s)
  exact ⟨_, b, hb⟩

@[simp] theorem slotOwn_endSlot (s : State) : slotOwn (endSlot s) = slotOwn s := by
  obtain ⟨_, h⟩ := endSlot_budg s
  rw [h]
  rfl

/-! What a stop leaves (R244). -/

/-- What fills the cause bits and holds the keys. -/
def alarms (s : State) : EvtSt × SecSt := (s.evt, s.sec)

theorem alarms_withSlot (f : SlotSt → SlotSt) (s : State) : alarms (withSlot f s) = alarms s := rfl

theorem alarms_disarm (n : Nat) (s : State) : alarms (disarm n s) = alarms s := rfl

theorem alarms_endSlot (s : State) : alarms (endSlot s) = alarms s := by
  obtain ⟨_, h⟩ := endSlot_budg s
  rw [h]
  rfl

theorem alarms_takeBack (n : Nat) (s : State) : alarms (takeBack n s) = alarms s := by
  refine foldl_keeps alarms (fun s c => ?_) _ s
  refine (foldl_keeps alarms (fun s t => ?_) _ _).trans rfl
  split
  · rfl
  · split <;> rfl

theorem alarms_boundaryEntry (n : Nat) (e : Option LaneEntry) (s : State) : alarms (boundaryEntry n e s) = alarms s := by
  unfold boundaryEntry
  split <;> rfl

theorem alarms_takeEntries (s : State) : alarms (takeEntries s) = alarms s := by
  refine foldl_keeps alarms (fun s n => ?_) _ s
  split
  · split
    · exact alarms_boundaryEntry ..
    · rfl
  · rfl

/-- A stopped slot engine: no plan. -/
def stopped (b : SlotSt) : SlotSt := { b with running := false, stopPending := false, plan := none, plans := [] }

/-- What is the slot engine's own after a stop: stopped, and comparator 0 released (R231, R244). -/
def stopsOwn (o : SlotSt × TimeSt) : SlotSt × TimeSt :=
  (stopped o.1, { o.2 with cmps := tmod {} o.2.cmps 0 (fun c => { c with armed := false }) })

theorem slotOwn_disarm (s : State) : slotOwn (disarm 0 s) =
    ((slotOwn s).1, { (slotOwn s).2 with cmps := tmod {} (slotOwn s).2.cmps 0 (fun c => { c with armed := false }) }) := rfl

theorem slotOwn_stopped (s : State) : slotOwn (withSlot stopped s) = (stopped (slotOwn s).1, (slotOwn s).2) := rfl

/-- The slot ended and the plans of later ones taken back (R244, R299). -/
def plansTaken (s : State) : State := (s.slot.plans.map (·.asn)).foldl (fun s n => takeBack n s) (endSlot s)

theorem slotOwn_plansTaken (s : State) : slotOwn (plansTaken s) = slotOwn s := by simp [plansTaken]

theorem alarms_plansTaken (s : State) : alarms (plansTaken s) = alarms s :=
  (foldl_keeps alarms (fun s n => alarms_takeBack n s) _ _).trans (alarms_endSlot s)

theorem stopEffect_eq (s : State) : stopEffect s = raise 0x081 (disarm 0 (takeEntries (withSlot stopped (plansTaken s)))) := rfl

/-- A stop: later plans taken back, nothing planned, and EV_SLOT_STOPPED (R244). -/
theorem stopEffect_raises (s : State) :
    ∃ u, stopEffect s = raise 0x081 u ∧ slotOwn u = stopsOwn (slotOwn s) ∧ alarms u = alarms s := by
  refine ⟨_, stopEffect_eq s, ?_, ?_⟩
  · rw [slotOwn_disarm, slotOwn_takeEntries, slotOwn_stopped, slotOwn_plansTaken]
    rfl
  · rw [alarms_disarm, alarms_takeEntries, alarms_withSlot, alarms_plansTaken]

theorem slotOwn_stopEffect (s : State) : slotOwn (stopEffect s) = stopsOwn (slotOwn s) := by
  obtain ⟨u, hu, hown, -⟩ := stopEffect_raises s
  rw [hu, slotOwn_raise, hown]

/-- A slot engine stopped, whatever else: not running, no stop pending, no plan, its ASN that of o. -/
theorem stopped_of_own {t : State} {o : SlotSt × TimeSt} (h : slotOwn t = stopsOwn o) :
    t.slot.running = false ∧ t.slot.stopPending = false ∧ t.slot.plan = none ∧ t.slot.plans = [] ∧ t.slot.asn = o.1.asn := by
  have part {α : Type} (g : SlotSt → α) := congrArg (fun o : SlotSt × TimeSt => g o.1) h
  exact ⟨part (·.running), part (·.stopPending), part (·.plan), part (·.plans), part (·.asn)⟩

theorem released_of_own {t : State} {o : SlotSt × TimeSt} (h : slotOwn t = stopsOwn o) : (cmpOf t 0).armed = false := by
  have hc : cmpOf t 0 = _ := congrArg (fun o : SlotSt × TimeSt => (tget {} o.2.cmps 0 : CmpSt)) h
  rw [hc, stopsOwn, tget_tmod, if_pos rfl]

/-! SLOT_STOP_EFFECT (R244). -/

theorem slotStopEffect_stops {s : State} (hr : s.slot.running = true) (hp : s.slot.stopPending = true) : slotStopEffect s = stopEffect s :=
  if_pos (by simp [hr, hp])

theorem slotStopEffect_idle {s : State} (h : s.slot.running = false ∨ s.slot.stopPending = false) : slotStopEffect s = s := by
  refine if_neg ?_
  rcases h with h | h <;> simp [h]

theorem exec_slotStopEffect_stops {s : State} (hr : s.slot.running = true) (hp : s.slot.stopPending = true) :
    ∃ t, exec .slotStopEffect s = .next t ∧
      t.slot.running = false ∧ t.slot.stopPending = false ∧ t.slot.plan = none ∧ t.slot.plans = [] ∧ (cmpOf t 0).armed = false ∧
      t.evt.cause = causeAfter 0x081 s ∧ t.sec = s.sec := by
  have hown := slotOwn_stopEffect s
  obtain ⟨hrun, hpend, hplan, hplans, -⟩ := stopped_of_own hown
  obtain ⟨u, hu, -, ha⟩ := stopEffect_raises s
  obtain ⟨hevt, hsec⟩ := Prod.ext_iff.mp ha
  refine ⟨_, congrArg Host.Outcome.next (slotStopEffect_stops hr hp), hrun, hpend, hplan, hplans, released_of_own hown, ?_, ?_⟩
  · rw [hu, raise_causeAfter, causeAfter, causeAfter, srcCfgOf, srcCfgOf, show u.evt = s.evt from hevt]
  · rw [hu, raise_only]
    exact hsec

/-! The clock of the slot engine across a boundary (R242). -/

/-- Running, ASN, the boundary before and whether the first has passed. -/
def slotClock (s : State) : Bool × Nat × Int × Bool := (s.slot.running, s.slot.asn, s.slot.prevNs, s.slot.started)

/-- The same of what is the slot engine's own. -/
def ownClock (o : SlotSt × TimeSt) : Bool × Nat × Int × Bool := (o.1.running, o.1.asn, o.1.prevNs, o.1.started)

theorem slotClock_eq (s : State) : slotClock s = ownClock (slotOwn s) := rfl

/-- The clock of the next slot (R242). -/
def nextClock (o : SlotSt × TimeSt) : Bool × Nat × Int × Bool := (o.1.running, asnAdd o.1.asn 1, o.1.boundaryNs, true)

theorem slotClock_of_own {s t : State} (h : slotOwn t = slotOwn s) : slotClock t = slotClock s := by rw [slotClock_eq, slotClock_eq, h]

theorem slotClock_nextSlot (s : State) : slotClock (nextSlot s) = nextClock (slotOwn s) :=
  (slotClock_of_own (slotOwn_raiseIf ..)).trans rfl

theorem slotClock_frontStep (s : State) : slotClock (frontStep s) = slotClock s := by
  unfold frontStep
  extract_lets m d u
  have hu : slotClock u = slotClock s := by
    simp only [u]
    rw [setShift_only]
    rfl
  exact hu

theorem slotOwn_fallback (p : Plan) (s : State) : slotOwn (fallback p s) = slotOwn s := by simp [fallback]

theorem slotClock_freezePlans (late : Bool) (s : State) : slotClock (freezePlans late s) = slotClock s := by
  unfold freezePlans
  split
  · rfl
  next p q l _ =>
    split
    · exact Eq.trans (b := slotClock (fallback q s)) rfl (slotClock_of_own (slotOwn_fallback q s))
    · rfl
  · rfl

theorem slotClock_applyList (off : Bool) (f : Nat) (s : State) : slotClock (applyList off f s) = slotClock s := by
  unfold applyList
  refine (slotClock_of_own (slotOwn_raise ..)).trans ((slotClock_of_own (slotOwn_noteDelta ..)).trans rfl)

theorem slotClock_activations (s : State) : slotClock (activations s) = slotClock s := by
  refine foldl_keeps slotClock (fun s f => ?_) _ s
  split
  · split
    · exact slotClock_applyList ..
    · rfl
  · rfl

theorem slotClock_agcBoundary (power : List (Int × Nat)) (s : State) : slotClock (agcBoundary power s) = slotClock s := by
  obtain ⟨_, h⟩ := agcAll_rfc power (List.range 4) s
  rw [agcBoundary_all, h]
  rfl

theorem slotClock_guardNow (s : State) : slotClock (guardNow s) = slotClock s := by
  unfold guardNow
  split <;> rfl

theorem slotClock_buildPlan (n : Nat) (s : State) : slotClock (buildPlan n s) = slotClock s := by
  obtain ⟨p, h⟩ := slotOwn_buildPlan s n
  rw [slotClock_eq, h]
  rfl

/-- A boundary is the next slot: ASN one higher, and the boundary that was becomes the previous one (R242). -/
theorem slotClock_boundaryCore (env : SlotEnv) (s : State) : slotClock (boundaryCore env s) = nextClock (slotOwn s) := by
  unfold boundaryCore
  rw [slotClock_buildPlan, slotClock_guardNow, slotClock_agcBoundary, slotClock_activations, slotClock_of_own (slotOwn_takeEntries _),
    slotClock_freezePlans, slotClock_frontStep, slotClock_nextSlot, slotOwn_endSlot]

/-! SLOT_BOUNDARY (R242-R244). -/

/-- What a boundary does after the slot engine: gates, snapshot, reports, tests and campaigns. -/
def afterBoundary (s : State) : State :=
  serveCamps (testBoundary (tellBoundary (takeSnapshot (withTwin (fun t => { t with live := true, synced := false }) (gateSwitch s)))))

theorem slotOwn_afterBoundary (s : State) : slotOwn (afterBoundary s) = slotOwn s := by simp [afterBoundary]

section
variable {env : SlotEnv} {s : State}

theorem slotBoundary_idle (h : s.slot.running = false ∨ s.sys.devState ≠ .run) : slotBoundary env s = s := by
  refine if_pos ?_
  rcases h with h | h <;> simp [h]

theorem slotBoundary_runs (hr : s.slot.running = true) (hd : s.sys.devState = .run) : slotBoundary env s =
    afterBoundary (if (sendDelta s).slot.stopPending then stopEffect (sendDelta s) else boundaryCore env (sendDelta s)) :=
  if_neg (by simp [hr, hd])

theorem sendDelta_stopPending : (sendDelta s).slot.stopPending = s.slot.stopPending :=
  congrArg (fun o : SlotSt × TimeSt => o.1.stopPending) (slotOwn_sendDelta s)

theorem slotBoundary_next (hr : s.slot.running = true) (hd : s.sys.devState = .run) (hp : s.slot.stopPending = false) :
    slotClock (slotBoundary env s) = (true, asnAdd s.slot.asn 1, s.slot.boundaryNs, true) := by
  rw [slotBoundary_runs hr hd, sendDelta_stopPending, if_neg (by simp [hp]), slotClock_of_own (slotOwn_afterBoundary _), slotClock_boundaryCore,
    slotOwn_sendDelta]
  exact congrArg (·, asnAdd s.slot.asn 1, s.slot.boundaryNs, true) hr

theorem slotBoundary_stops (hr : s.slot.running = true) (hd : s.sys.devState = .run) (hp : s.slot.stopPending = true) :
    slotOwn (slotBoundary env s) = stopsOwn (slotOwn s) := by
  rw [slotBoundary_runs hr hd, sendDelta_stopPending, if_pos hp, slotOwn_afterBoundary, slotOwn_stopEffect, slotOwn_sendDelta]

end

/-! SLOT_SUPERFRAME_CFG (R268-R270). -/

section
variable {h : Hdr} {p : SlotSuperframeCfgP} {s : State}

/-- The centre frequency that SLOT_SUPERFRAME_CFG names. -/
def superCentre (p : SlotSuperframeCfgP) (s : State) : Nat := (channelCentre (chainOf s p.chain) p.phyMode p.channel).getD 0

/-- A superframe disabled. -/
def superOff (u : SuperSt) : SuperSt := { u with enabled := false, phase := 0 }

/-- A superframe enabled with its settings. -/
def superOn (p : SlotSuperframeCfgP) (u : SuperSt) : SuperSt := { u with
  enabled := true, chain := p.chain, channel := p.channel, phy := p.phyMode, bo := p.bo, so := p.so, anchorAsn := p.anchorAsn,
  anchorOffset := p.anchorOffsetUs, turnaround := p.ackTurnaroundUs, template := p.template, descs := p.descs, phase := 0 }

theorem slotSuperframeCfg_off (ho : p.op = 0) : slotSuperframeCfg h p s = done (withSuper (h.flow - 0x200) superOff s) := if_pos ho

theorem slotSuperframeCfg_bad (hb : 1 < p.op ∨ (p.op = 1 ∧ 3 < p.chain)) : slotSuperframeCfg h p s = refuse s stBadParam := by
  refine (if_neg (by omega)).trans (if_pos ?_)
  simp only [Bool.or_eq_true, decide_eq_true_eq]
  omega

/-- An enable on a chain that exists: the first check that fails refuses it. -/
theorem slotSuperframeCfg_enable (ho : p.op = 1) (hc : p.chain ≤ 3) : slotSuperframeCfg h p s =
    if (chainOf s p.chain).service = 2 then refuse s stDegraded
    else if !superOk s p then refuse s stBadParam
    else if superTwin s (h.flow - 0x200) (superCentre p s) then refuse s stDuplicate
    else done (withSuper (h.flow - 0x200) (superOn p) s) := by
  refine (if_neg (by omega)).trans (if_neg ?_)
  simp only [Bool.or_eq_true, decide_eq_true_eq]
  omega

theorem slotSuperframeCfg_degraded (ho : p.op = 1) (hc : p.chain ≤ 3) (hd : (chainOf s p.chain).service = 2) :
    slotSuperframeCfg h p s = refuse s stDegraded := by rw [slotSuperframeCfg_enable ho hc, if_pos hd]

theorem slotSuperframeCfg_range (ho : p.op = 1) (hc : p.chain ≤ 3) (hd : (chainOf s p.chain).service ≠ 2) (hk : superOk s p = false) :
    slotSuperframeCfg h p s = refuse s stBadParam := by rw [slotSuperframeCfg_enable ho hc, if_neg hd, if_pos (by simp [hk])]

theorem slotSuperframeCfg_twin (ho : p.op = 1) (hc : p.chain ≤ 3) (hd : (chainOf s p.chain).service ≠ 2) (hk : superOk s p = true)
    (ht : superTwin s (h.flow - 0x200) (superCentre p s) = true) : slotSuperframeCfg h p s = refuse s stDuplicate := by
  rw [slotSuperframeCfg_enable ho hc, if_neg hd, if_neg (by simp [hk]), if_pos ht]

theorem slotSuperframeCfg_on (ho : p.op = 1) (hc : p.chain ≤ 3) (hd : (chainOf s p.chain).service ≠ 2) (hk : superOk s p = true)
    (ht : superTwin s (h.flow - 0x200) (superCentre p s) = false) :
    slotSuperframeCfg h p s = done (withSuper (h.flow - 0x200) (superOn p) s) := by
  rw [slotSuperframeCfg_enable ho hc, if_neg hd, if_neg (by simp [hk]), if_neg (by simp [ht])]

/-- Parameters in their ranges leave the beacon's slots room in the slot (R268-R270). -/
theorem superOk_ranges (hk : superOk s p = true) : p.phyMode ≠ 6 ∧ p.so ≤ p.bo ∧ p.bo ≤ 14 ∧ p.anchorOffsetUs < s.slot.slotLenUs ∧
    16 * (baseSlotUs p.phyMode * 2 ^ p.so) + 1000 ≤ s.slot.slotLenUs := by
  simp only [superOk, Bool.and_eq_true, decide_eq_true_eq] at hk
  tauto

/-- What a command that puts one superframe comes to. -/
theorem exec_slotSuperframeCfg_put {g : SuperSt → SuperSt} (hr : Ready h (.slotSuperframeCfg p) s)
    (he : slotSuperframeCfg h p (inFlightWith h (.slotSuperframeCfg p) s) =
      done (withSuper (h.flow - 0x200) g (inFlightWith h (.slotSuperframeCfg p) s))) :
    exec (.slotSuperframeCfg h p) s = .next { s with
      hif := answered h (.slotSuperframeCfg p) stOk 0 [] s,
      slot := { s.slot with supers := tput s.slot.supers (h.flow - 0x200) (g (superOf s (h.flow - 0x200))) } } :=
  agentRun_answers hr _ he rfl rfl rfl rfl

end

/-! SUPERFRAME_EVENT (R268, R272). -/

theorem superOf_withSuper (n m : Nat) (f : SuperSt → SuperSt) (s : State) :
    superOf (withSuper n f s) m = if n = m then f (superOf s m) else superOf s m := tget_tmod ..

theorem superframeEvent_idle {n kind : Nat} {s : State} (h : (superOf s n).enabled = false ∨ s.slot.running = false) :
    superframeEvent n kind s = s := by
  refine if_pos ?_
  rcases h with h | h <;> simp [h]

/-- A superframe after one of its events. -/
def superStep (kind : Nat) (u : SuperSt) : SuperSt := { u with phase := (kind + 1) % 4 }

theorem superframeEvent_runs {n kind : Nat} {s : State} (hn : n ≤ 7) (hk : kind ≤ 3) (he : (superOf s n).enabled = true)
    (hr : s.slot.running = true) :
    superframeEvent n kind s = withSuper n (superStep kind) (if kind = 0 || kind = 3 then settleRuns n s else s) :=
  if_neg (by simp [he, hr]; omega)

/-- An event steps the superframe's phase; a beacon and the end of the active period also settle its runs (R272, R299). -/
theorem superframeEvent_only {n kind : Nat} {s : State} (hn : n ≤ 7) (hk : kind ≤ 3) (he : (superOf s n).enabled = true)
    (hr : s.slot.running = true) :
    ∃ l b, superframeEvent n kind s = withSuper n (superStep kind) { s with slot := { s.slot with runs := l }, budg := b } ∧
      (kind = 1 ∨ kind = 2 → b = s.budg) := by
  by_cases hs : kind = 0 ∨ kind = 3
  · obtain ⟨l, b, h⟩ := settleRuns_only n s
    refine ⟨l, b, ?_, by omega⟩
    rw [superframeEvent_runs hn hk he hr, if_pos (by simpa using hs), h]
  · refine ⟨s.slot.runs, s.budg, ?_, fun _ => rfl⟩
    rw [superframeEvent_runs hn hk he hr, if_neg (by simpa using hs)]

theorem exec_superframeEvent_runs {n kind : Nat} {s : State} (hn : n ≤ 7) (hk : kind ≤ 3) (he : (superOf s n).enabled = true)
    (hr : s.slot.running = true) : ∃ t, exec (.superframeEvent n kind) s = .next t ∧
      superOf t n = { superOf s n with phase := (kind + 1) % 4 } ∧ (∀ m, m ≠ n → superOf t m = superOf s m) ∧
      t = { s with slot := t.slot, budg := t.budg } ∧ (kind = 1 ∨ kind = 2 → t.budg = s.budg) := by
  obtain ⟨l, b, h, hb⟩ := superframeEvent_only hn hk he hr
  exact ⟨_, congrArg Host.Outcome.next h, (superOf_withSuper ..).trans (if_pos rfl),
    fun m hm => (superOf_withSuper ..).trans (if_neg hm.symm), rfl, hb⟩

/-- Settles O44: a boundary and a stop by what the rest of their work leaves of the slot engine; a superframe's command and events by the one entry
they put. -/
theorem slotBoundariesAndSuperframes : Obligations.SlotBoundariesAndSuperframes := by
  unfold Obligations.SlotBoundariesAndSuperframes
  intro h s
  refine ⟨?idle, ?next, ?stop, exec_slotStopEffect_stops, ?noStop, fun p hr => ⟨?off, ?bad, ?degraded, ?range, ?ranges, ?twin, ?on⟩,
    fun n kind => exec_superframeEvent_runs, ?noEvent⟩
  case idle => exact fun env hi => congrArg Host.Outcome.next (slotBoundary_idle hi)
  case next =>
    intro env hr hd hp
    have hc := slotBoundary_next (env := env) hr hd hp
    have part {α : Type} (g : Bool × Nat × Int × Bool → α) := congrArg g hc
    exact ⟨_, rfl, part (·.1), part (·.2.1), part (·.2.2.1), part (·.2.2.2)⟩
  case stop =>
    intro env hr hd hp
    obtain ⟨hrun, hpend, hplan, hplans, hasn⟩ := stopped_of_own (slotBoundary_stops (env := env) hr hd hp)
    exact ⟨_, rfl, hrun, hpend, hplan, hplans, hasn⟩
  case noStop => exact fun hi => congrArg Host.Outcome.next (slotStopEffect_idle hi)
  case off => exact fun ho => exec_slotSuperframeCfg_put hr (slotSuperframeCfg_off ho)
  case bad => exact fun hb => agentRun_refuses hr (slotSuperframeCfg_bad hb)
  case degraded => exact fun ho hc hd => agentRun_refuses hr (slotSuperframeCfg_degraded ho hc hd)
  case range => exact fun ho hc hd hk => agentRun_refuses hr (slotSuperframeCfg_range ho hc hd hk)
  case ranges => exact superOk_ranges
  case twin => exact fun ho hc hd hk ht => agentRun_refuses hr (slotSuperframeCfg_twin ho hc hd hk ht)
  case on => exact fun ho hc hd hk ht => exec_slotSuperframeCfg_put hr (slotSuperframeCfg_on ho hc hd hk ht)
  case noEvent => exact fun n kind hi => congrArg Host.Outcome.next (superframeEvent_idle hi)

end Sys2Proof.Proofs
end

section
/-!
PROOFS. The air budget's commands and its history (R295, R297, R300-R302, R309), and the commands of the traffic manager (R343, R349, R350, R357,
R361, R362): what each meaning comes to, then the command path around it.
-/
namespace Sys2Proof.Proofs
open Machine Safety Laws

/-! BUDG_REGION_LOAD (R295, R300). -/

/-- Two sub-bands share no more than an edge. -/
def ShareAtMostEdge (e f : SubBand) : Prop := e.fHigh ≤ f.fLow ∨ f.fHigh ≤ e.fLow

theorem apart_iff (l : List SubBand) : apart l = true ↔ l.Pairwise ShareAtMostEdge := by
  induction l with
  | nil => simp [apart]
  | cons e l ih => simp [apart, ShareAtMostEdge, ih]

theorem subBandOk_iff (e : SubBand) : subBandOk e = true ↔ e.fLow < e.fHigh ∧ e.chainPpm ≤ 1000000 ∧ e.aggPpm ≤ 1000000 := by
  simp [subBandOk, and_assoc]

/-- The ranges of BUDG_REGION_LOAD (R295). -/
def regionOk (p : BudgRegionLoadP) : Prop :=
  60 ≤ p.windowS ∧ p.windowS ≤ 7200 ∧ 50 ≤ p.warnPct ∧ p.warnPct ≤ 100 ∧ 1 ≤ p.entries.length ∧ p.entries.length ≤ 32 ∧
    (∀ e ∈ p.entries, e.fLow < e.fHigh ∧ e.chainPpm ≤ 1000000 ∧ e.aggPpm ≤ 1000000) ∧
    p.entries.Pairwise ShareAtMostEdge

theorem regionOk_iff (p : BudgRegionLoadP) : regionOk p ↔
    ¬ (decide (p.windowS < 60) || decide (7200 < p.windowS) || decide (p.warnPct < 50) || decide (100 < p.warnPct) || p.entries.isEmpty ||
      decide (32 < p.entries.length) || !p.entries.all subBandOk || !apart p.entries) = true := by
  simp [regionOk, ← apart_iff, ← subBandOk_iff, and_assoc, Nat.one_le_iff_ne_zero]

/-- The sub-band of an entry. -/
def bandOf (e : SubBand) : Band :=
  { fLow := e.fLow, fHigh := e.fHigh, chainPpm := e.chainPpm, aggPpm := e.aggPpm, maxOnMs := e.maxOnMs }

/-- Where the sub-band with the edges of b stands. -/
def placeOf (new : List Band) (b : Band) : Option Nat :=
  (List.range new.length).find? (fun i => (nth {} new i).fLow = b.fLow && (nth {} new i).fHigh = b.fHigh)

/-- The debits of the sub-bands whose edges stay, under their new numbers. -/
def carriedDebits (new old : List Band) (debits : List Debit) : List Debit :=
  debits.filterMap (fun d => (placeOf new (nth {} old d.band)).map (fun i => { d with band := i }))

/-- The region of BUDG_REGION_LOAD in force. -/
def loadRegion (p : BudgRegionLoadP) (b : BudgSt) : BudgSt := { b with
  loaded := true, regionId := p.regionId, windowS := p.windowS, warnPct := p.warnPct, bands := p.entries.map bandOf,
  debits := carriedDebits (p.entries.map bandOf) b.bands b.debits, refused := [], nearSeen := [] }

section
variable {h : Hdr} {p : BudgRegionLoadP} {s : State}

theorem budgRegionLoad_bad (hp : ¬ regionOk p) : budgRegionLoad h p s = refuse s stBadParam := by
  rw [regionOk_iff, not_not] at hp
  exact if_pos hp

theorem budgRegionLoad_ok (hp : regionOk p) : budgRegionLoad h p s = done (withBudg (loadRegion p) s) := by
  rw [regionOk_iff] at hp
  exact if_neg hp

end

/-- Entries that share no more than an edge begin at different frequencies. -/
theorem fLow_ne_of_pairwise {l : List SubBand} (hb : ∀ e ∈ l, e.fLow < e.fHigh)
    (ha : l.Pairwise ShareAtMostEdge) {i j : Nat} (hj : j < i) (hi : i < l.length) :
    (nth {} l j).fLow ≠ (nth {} l i).fLow := by
  have hjl := hj.trans hi
  have hd : l[j].fHigh ≤ l[i].fLow ∨ l[i].fHigh ≤ l[j].fLow := List.pairwise_iff_getElem.mp ha j i hjl hi hj
  have hbi := hb _ (List.getElem_mem hi)
  have hbj := hb _ (List.getElem_mem hjl)
  simp only [nth, List.getD_eq_getElem, hi, hjl]
  omega

theorem nth_map_bandOf (l : List SubBand) (i : Nat) : nth {} (l.map bandOf) i = bandOf (nth {} l i) := List.getD_map l {} bandOf

theorem placeOf_eq_some {l : List SubBand} {b : Band} (hb : ∀ e ∈ l, e.fLow < e.fHigh)
    (ha : l.Pairwise ShareAtMostEdge) {i : Nat} (hi : i < l.length) (hl : (nth {} l i).fLow = b.fLow)
    (hh : (nth {} l i).fHigh = b.fHigh) : placeOf (l.map bandOf) b = some i := by
  refine List.find?_range_eq_some.mpr ⟨?_, ?_, fun j hj => ?_⟩
  · simp [nth_map_bandOf, bandOf, hl, hh]
  · simpa using hi
  · have hne : (nth {} l j).fLow ≠ b.fLow := hl ▸ fLow_ne_of_pairwise hb ha hj hi
    simp [nth_map_bandOf, bandOf, hne]

theorem mem_carriedDebits {new old : List Band} {debits : List Debit} {d : Debit} (hd : d ∈ debits) {i : Nat}
    (hi : placeOf new (nth {} old d.band) = some i) : { d with band := i } ∈ carriedDebits new old debits :=
  List.mem_filterMap.mpr ⟨d, hd, by rw [hi]; rfl⟩

theorem carriedDebits_length_le (new old : List Band) (debits : List Debit) : (carriedDebits new old debits).length ≤ debits.length :=
  List.length_filterMap_le ..

theorem exec_budgRegionLoad_ok {h : Hdr} {p : BudgRegionLoadP} {s : State} (hr : Ready h (.budgRegionLoad p) s) (hp : regionOk p) :
    ∃ t, exec (.budgRegionLoad h p) s = .next t ∧ t = { s with
        hif := answered h (.budgRegionLoad p) stOk 0 [] s, budg := { loadRegion p s.budg with debits := t.budg.debits } } ∧
      (∀ d ∈ s.budg.debits, ∀ i < p.entries.length, (nth {} p.entries i).fLow = (nth {} s.budg.bands d.band).fLow →
        (nth {} p.entries i).fHigh = (nth {} s.budg.bands d.band).fHigh → { d with band := i } ∈ t.budg.debits) ∧
      t.budg.debits.length ≤ s.budg.debits.length := by
  have ⟨_, _, _, _, _, _, hb, ha⟩ := hp
  refine ⟨_, agentRun_answers hr _ (budgRegionLoad_ok hp) rfl rfl rfl rfl, rfl, fun d hd i hi hl hh => ?_, carriedDebits_length_le ..⟩
  exact mem_carriedDebits hd (placeOf_eq_some (fun e he => (hb e he).1) ha hi hl hh)

/-! BUDG_STATUS (R309). -/

section
variable {h : Hdr} {p : BudgStatusP} {s : State}

theorem budgStatus_bad (hp : 31 < p.subband ∨ 1 < p.clear) : budgStatus h p s = refuse s stBadParam := if_pos (by simpa using hp)

theorem budgStatus_ok (hb : p.subband ≤ 31) (hc : p.clear ≤ 1) : budgStatus h p s =
    done (withBudg (fun b => if p.clear = 1 then { b with cnt := [] } else b) s)
      (le 4 (usageMs s p.subband 4) ++ (List.range 4).flatMap (fun k => le 4 (usageMs s p.subband k)) ++ le 2 (nth {} s.budg.bands p.subband).fLow ++
        le 1 (b2n ((List.range 5).any (fun k => atWarn s p.subband k (rawSec s))))) := by
  rw [budgStatus, if_neg (by simp [hb, hc])]
  split <;> rfl

end

/-! BUDGET_BUCKET_EXPIRY (R300-R302). -/

/-- The history without what is 7,200 s old, and without the marks of the buckets that have ended. -/
def expireHistory (now : Nat) (b : BudgSt) : BudgSt := { b with
  debits := b.debits.filter (fun d => now < d.bucket + 7200), refused := b.refused.filter (fun x => now ≤ x.2),
  nearSeen := b.nearSeen.filter (fun x => now ≤ x.2) }

/-- Every scope is below its warning level (R301). -/
def AllBelowWarn (s : State) : Prop := ∀ j < s.budg.bands.length, ∀ k < 5, atWarn s j k (rawSec s) = false

theorem allBelowWarn_iff (s : State) : AllBelowWarn s ↔
    (List.range s.budg.bands.length).all (fun j => (List.range 5).all (fun k => !atWarn s j k (rawSec s))) = true := by
  simp only [AllBelowWarn, List.all_eq_true, List.mem_range, Bool.not_eq_true']

section
variable {s : State}

theorem budgetExpiry_clears (hw : AllBelowWarn (withBudg (expireHistory (rawSec s)) s)) :
    budgetExpiry s = withBudg (fun b => { b with near := false }) (withBudg (expireHistory (rawSec s)) s) :=
  if_pos ((allBelowWarn_iff _).mp hw)

theorem budgetExpiry_keeps (hw : ¬ AllBelowWarn (withBudg (expireHistory (rawSec s)) s)) :
    budgetExpiry s = withBudg (expireHistory (rawSec s)) s :=
  if_neg (hw ∘ (allBelowWarn_iff _).mpr)

/-- NEAR clears where every scope is below its warning level, by what is left of the history. -/
theorem exec_budgetBucketExpiry (s : State) : ∃ t, exec .budgetBucketExpiry s = .next t ∧
    t = { s with budg := { expireHistory (rawSec s) s.budg with near := t.budg.near } } ∧
    ((∀ j < s.budg.bands.length, ∀ k < 5, atWarn t j k (rawSec s) = false) → t.budg.near = false) ∧
    ((∃ j < s.budg.bands.length, ∃ k < 5, atWarn t j k (rawSec s) = true) → t.budg.near = s.budg.near) := by
  by_cases hw : AllBelowWarn (withBudg (expireHistory (rawSec s)) s)
  · refine ⟨_, congrArg Host.Outcome.next (budgetExpiry_clears hw), rfl, fun _ => rfl, fun ⟨j, hj, k, hk, ht⟩ => ?_⟩
    exact absurd ((hw j hj k hk).symm.trans ht) Bool.false_ne_true
  · exact ⟨_, congrArg Host.Outcome.next (budgetExpiry_keeps hw), rfl, fun ht => absurd ht hw, fun _ => rfl⟩

end

/-! What offering a queue's frames can do (R353, R355, R356). -/

/-- The queues with the deficit of queue q back to 0 where it holds no frame (R353). -/
def resetDeficit (q : Nat) (l : Tbl QueueSt) : Tbl QueueSt :=
  if (tget {} l q).frames = [] ∧ (tget {} l q).deficit ≠ 0 then tmod {} l q (fun x => { x with deficit := 0 }) else l

theorem resetDeficit_kept {q : Nat} {l : Tbl QueueSt} (hx : (tget {} l q).frames ≠ [] ∨ (tget {} l q).deficit = 0) : resetDeficit q l = l :=
  if_neg fun h => hx.elim (· h.1) h.2

theorem resetDeficit_others {q r : Nat} (l : Tbl QueueSt) (hr : r ≠ q) : tget {} (resetDeficit q l) r = tget {} l r := by
  unfold resetDeficit
  split
  · rw [tget_tmod, if_neg hr.symm]
  · rfl

theorem resetDeficit_same (q : Nat) (l : Tbl QueueSt) : tget {} (resetDeficit q l) q =
    { tget {} l q with deficit := if (tget {} l q).frames = [] then 0 else (tget {} l q).deficit } := by
  unfold resetDeficit
  split
  next hx => rw [tget_tmod, if_pos rfl, if_pos hx.1]
  next hx =>
    split
    next hf => exact congrArg (fun d => { tget {} l q with deficit := d }) (not_not.mp (not_and.mp hx hf))
    next => rfl

theorem resetDeficit_frames (q r : Nat) (l : Tbl QueueSt) : (tget {} (resetDeficit q l) r).frames = (tget {} l r).frames := by
  by_cases hr : r = q
  · rw [hr, resetDeficit_same]
  · rw [resetDeficit_others l hr]

/-- Shapers with the rate and the burst of those before. -/
def SameSettings (l m : Tbl ShaperSt) : Prop := ∀ k, (tget {} m k).rate = (tget {} l k).rate ∧ (tget {} m k).burst = (tget {} l k).burst

theorem placeWheel_settings (s : State) (te : Nat) (x : ShaperSt) : (placeWheel s te x).rate = x.rate ∧ (placeWheel s te x).burst = x.burst := by
  unfold placeWheel
  extract_lets d
  split
  · exact ⟨rfl, rfl⟩
  · split <;> exact ⟨rfl, rfl⟩

theorem sameSettings_tmod {f : ShaperSt → ShaperSt} (hf : ∀ x, (f x).rate = x.rate ∧ (f x).burst = x.burst) (k : Nat) (l : Tbl ShaperSt) :
    SameSettings l (tmod {} l k f) := by
  intro j
  rw [tget_tmod]
  split
  · exact hf _
  · exact ⟨rfl, rfl⟩

theorem evalShaper_only (q : Nat) (s : State) : ∃ l, evalShaper q s = withTm (fun t => { t with shapers := l }) s ∧ SameSettings s.tm.shapers l := by
  unfold evalShaper
  extract_lets k
  split
  · exact ⟨s.tm.shapers, rfl, fun _ => ⟨rfl, rfl⟩⟩
  · split
    · exact ⟨s.tm.shapers, rfl, fun _ => ⟨rfl, rfl⟩⟩
    · refine ⟨_, rfl, sameSettings_tmod (fun x => ?_) _ _⟩
      extract_lets y
      split
      · exact ⟨rfl, rfl⟩
      · exact placeWheel_settings s _ y

/-- What offering a queue can do: it reaches the active lists and the visits, the deficit of that queue, and no shaper's settings. -/
theorem offerQueue_only (q : Nat) (s : State) : ∃ active visit shapers, SameSettings s.tm.shapers shapers ∧ offerQueue q s = withTm (fun t => { t with
    active := active, drrVisit := visit, shapers := shapers, queues := resetDeficit q s.tm.queues }) s := by
  obtain ⟨m, hm, hs⟩ := evalShaper_only q s
  unfold offerQueue
  rw [hm]
  extract_lets u x l out
  suffices ho : ∃ active visit, _ = withTm (fun t => { t with active := active, drrVisit := visit, queues := resetDeficit q s.tm.queues }) u by
    obtain ⟨active, visit, ho⟩ := ho
    exact ⟨active, visit, m, hs, ho⟩
  split
  next hf =>
    have hf : x.frames = [] := List.isEmpty_iff.mp hf
    split
    next hd =>
      rw [resetDeficit_kept (l := s.tm.queues) (.inr hd)]
      exact ⟨_, _, rfl⟩
    next hd =>
      rw [resetDeficit, if_pos ⟨hf, hd⟩]
      exact ⟨_, _, rfl⟩
  next hf =>
    rw [resetDeficit_kept (l := s.tm.queues) (.inl fun hx => hf (List.isEmpty_iff.mpr hx))]
    split
    · exact ⟨_, _, rfl⟩
    · split
      · split
        · split <;> exact ⟨_, _, rfl⟩
        · exact ⟨_, _, rfl⟩
      · exact ⟨_, _, rfl⟩

/-! A command of the traffic manager. -/

/-- A command that is Ready and whose meaning puts the traffic manager. -/
theorem agentRun_putsTm {h : Hdr} {c : Cmd} {run : State → Res} {s : State} {tm : TmSt} {data : List Byte} (hr : Ready h c s)
    (he : run (inFlightWith h c s) = done (withTm (fun _ => tm) (inFlightWith h c s)) data) :
    agentRun h c run s = .next { s with hif := answered h c stOk 0 data s, tm := tm } :=
  agentRun_answers hr _ he rfl rfl rfl rfl

/-! TM_QUEUE_CFG (R350). -/

/-- The settings of TM_QUEUE_CFG. -/
def queueSet (p : TmQueueCfgP) (x : QueueSt) : QueueSt := { x with
  port := p.port, cls := p.cls, ring := p.ring, quantum := p.quantum, maxBytes := p.maxBytes, maxFrames := p.maxFrames,
  yellowPct := p.yellowPct, shaper := p.shaper, nbCap := p.nbCap }

/-- The active lists once queue q has the port and class of TM_QUEUE_CFG: it leaves its port's list, but where it keeps the port in a class other
than 0. -/
def leaveActive (q : Nat) (p : TmQueueCfgP) (x : QueueSt) (l : Tbl (List Nat)) : Tbl (List Nat) :=
  tput l x.port ((tget [] l x.port).filter (fun r => r ≠ q || p.cls ≠ 0 && p.port = x.port))

/-- A queue that holds frames keeps its port, and the queue for unknown sources stays on port 5 (R350). -/
def queueCfgBusy (q : Nat) (p : TmQueueCfgP) (s : State) : Prop :=
  (p.port ≠ (queueOf s q).port ∧ (queueOf s q).frames ≠ []) ∨ (q = s.tm.unknownQueue ∧ p.port ≠ 5)

theorem queueCfgBusy_iff (q : Nat) (p : TmQueueCfgP) (s : State) : queueCfgBusy q p s ↔
    ((decide (p.port ≠ (queueOf s q).port) && !(queueOf s q).frames.isEmpty) || (decide (q = s.tm.unknownQueue) && decide (p.port ≠ 5))) = true := by
  simp [queueCfgBusy]

theorem queueCfgOk_twinPort {p : TmQueueCfgP} {s : State} (hp : p.port = 4) (hr : (portOf s 2).role = 1) : queueCfgOk p s = false := by
  simp [queueCfgOk, hp, hr]

section
variable {h : Hdr} {p : TmQueueCfgP} {s : State}

theorem tmQueueCfg_bad (hk : queueCfgOk p s = false) : tmQueueCfg h p s = refuse s stBadParam := if_pos (by simp [hk])

theorem tmQueueCfg_busy (hk : queueCfgOk p s = true) (hb : queueCfgBusy h.flow p s) : tmQueueCfg h p s = refuse s stBusy := by
  rw [queueCfgBusy_iff] at hb
  exact (if_neg (by simp [hk])).trans (if_pos hb)

theorem tmQueueCfg_ok (hk : queueCfgOk p s = true) (hb : ¬ queueCfgBusy h.flow p s) : tmQueueCfg h p s =
    done (offerQueue h.flow (withQueue h.flow (queueSet p) (withTm (fun t => { t with
      active := leaveActive h.flow p (queueOf s h.flow) t.active }) s))) := by
  rw [queueCfgBusy_iff] at hb
  exact (if_neg (by simp [hk])).trans (if_neg hb)

theorem tmQueueCfg_only (hk : queueCfgOk p s = true) (hb : ¬ queueCfgBusy h.flow p s) : ∃ tm, tmQueueCfg h p s = done (withTm (fun _ => tm) s) ∧
    tm.queues = resetDeficit h.flow (tmod {} s.tm.queues h.flow (queueSet p)) := by
  obtain ⟨_, _, _, _, ho⟩ := offerQueue_only h.flow (withQueue h.flow (queueSet p) (withTm (fun t => { t with
      active := leaveActive h.flow p (queueOf s h.flow) t.active }) s))
  exact ⟨_, (tmQueueCfg_ok hk hb).trans (congrArg done ho), rfl⟩

end

theorem exec_tmQueueCfg_ok {h : Hdr} {p : TmQueueCfgP} {s : State} (hr : Ready h (.tmQueueCfg p) s) (hk : queueCfgOk p s = true)
    (hb : ¬ queueCfgBusy h.flow p s) :
    ∃ t, exec (.tmQueueCfg h p) s = .next t ∧ t = { s with hif := answered h (.tmQueueCfg p) stOk 0 [] s, tm := t.tm } ∧
      queueOf t h.flow = { queueSet p (queueOf s h.flow) with deficit := (queueOf t h.flow).deficit } ∧
      ((queueOf s h.flow).frames = [] → (queueOf t h.flow).deficit = 0) ∧ ∀ q, q ≠ h.flow → queueOf t q = queueOf s q := by
  obtain ⟨tm, he, hq⟩ := tmQueueCfg_only (h := h) (s := inFlightWith h (.tmQueueCfg p) s) hk hb
  have hset : tget {} (tmod {} s.tm.queues h.flow (queueSet p)) h.flow = queueSet p (queueOf s h.flow) := (tget_tmod ..).trans (if_pos rfl)
  have hx := hq ▸ resetDeficit_same h.flow (tmod {} s.tm.queues h.flow (queueSet p))
  rw [hset] at hx
  refine ⟨_, agentRun_putsTm hr he, rfl, ?_, fun hf => ?_, fun q hne => ?_⟩
  · exact hx.trans (congrArg (fun d => { queueSet p (queueOf s h.flow) with deficit := d }) (congrArg (·.deficit) hx).symm)
  · exact (congrArg (·.deficit) hx).trans (if_pos hf)
  · rw [queueOf, hq]
    exact (resetDeficit_others _ hne).trans ((tget_tmod ..).trans (if_neg hne.symm))

/-! TM_METER_CFG (R349). -/

/-- The settings of TM_METER_CFG, with full buckets (R349). -/
def meterSet (p : TmMeterCfgP) (now : Nat) (m : MeterSt) : MeterSt := { m with
  mode := p.mode, aware := p.colourAware = 1, redAction := p.redAction, cirKbps := p.cirKbps, cbs := p.cbs, pirKbps := p.pirKbps,
  pbsEbs := p.pbsEbs, tc := 256 * p.cbs, tp := 256 * p.pbsEbs, lastNs := now, cRem := 0, pRem := 0 }

section
variable {h : Hdr} {p : TmMeterCfgP} {s : State}

theorem tmMeterCfg_bad (hk : meterCfgOk p = false) : tmMeterCfg h p s = refuse s stBadParam := if_pos (by simp [hk])

theorem tmMeterCfg_ok (hk : meterCfgOk p = true) : tmMeterCfg h p s =
    done (withTm (fun t => { t with meters := tmod {} t.meters (h.flow - 0x1000) (meterSet p (rawNs s)) }) s) :=
  if_neg (by simp [hk])

end

/-! TM_SHAPER_CFG (R357). -/

/-- The ranges of TM_SHAPER_CFG (R357). -/
def shaperCfgOk (p : TmShaperCfgP) : Prop :=
  10 ≤ p.rate10bps ∧ p.rate10bps ≤ 4000000000 ∧ 2048 ≤ p.burst ∧ p.burst ≤ 16777216 ∧ p.tokenOnChange ≤ 1

theorem shaperCfgOk_iff (p : TmShaperCfgP) : shaperCfgOk p ↔
    ¬ (decide (p.rate10bps < 10) || decide (4000000000 < p.rate10bps) || decide (p.burst < 2048) || decide (16777216 < p.burst) ||
      decide (1 < p.tokenOnChange)) = true := by
  simp [shaperCfgOk, and_assoc]

/-- The settings of TM_SHAPER_CFG, off the wheel with its tokens full or empty (R357). -/
def shaperSet (p : TmShaperCfgP) (now : Nat) (x : ShaperSt) : ShaperSt := { x with
  rate := p.rate10bps, burst := p.burst, t := if p.tokenOnChange = 0 then 256 * p.burst else 0, lastNs := now, rem := 0, wheel := none }

/-- What offering queues can do to them and to the shapers: their frames stay, and the shapers' settings. -/
structure Offered (s t : State) : Prop where
  tm : t = { s with tm := t.tm }
  frames : ∀ q, (queueOf t q).frames = (queueOf s q).frames
  settings : SameSettings s.tm.shapers t.tm.shapers

theorem Offered.refl (s : State) : Offered s s := ⟨rfl, fun _ => rfl, fun _ => ⟨rfl, rfl⟩⟩

theorem Offered.offerQueue {s t : State} (ho : Offered s t) (q : Nat) : Offered s (offerQueue q t) := by
  obtain ⟨_, _, _, hs, h⟩ := offerQueue_only q t
  rw [h]
  refine ⟨?_, fun r => (resetDeficit_frames q r t.tm.queues).trans (ho.frames r), fun k => ?_⟩
  · rw [ho.tm]
    rfl
  · exact ⟨(hs k).1.trans (ho.settings k).1, (hs k).2.trans (ho.settings k).2⟩

theorem offered_foldl (l : List Nat) (s : State) : Offered s (l.foldl (fun s q => offerQueue q s) s) :=
  List.foldlRecOn l _ (.refl s) fun _ ho q _ => ho.offerQueue q

section
variable {h : Hdr} {p : TmShaperCfgP} {s : State}

theorem tmShaperCfg_bad (hp : ¬ shaperCfgOk p) : tmShaperCfg h p s = refuse s stBadParam := by
  rw [shaperCfgOk_iff, not_not] at hp
  exact if_pos hp

theorem tmShaperCfg_ok (hp : shaperCfgOk p) : tmShaperCfg h p s =
    done ((queuesOfShaper s (h.flow - 0x3000)).foldl (fun s q => offerQueue q s) (withShaper (h.flow - 0x3000) (shaperSet p (rawNs s)) s)) := by
  rw [shaperCfgOk_iff] at hp
  exact if_neg hp

theorem tmShaperCfg_only (hp : shaperCfgOk p) : ∃ tm, tmShaperCfg h p s = done (withTm (fun _ => tm) s) ∧
    Offered (withShaper (h.flow - 0x3000) (shaperSet p (rawNs s)) s) (withTm (fun _ => tm) s) ∧
    (queuesOfShaper s (h.flow - 0x3000) = [] → tm = { s.tm with shapers := tmod {} s.tm.shapers (h.flow - 0x3000) (shaperSet p (rawNs s)) }) := by
  have ho := offered_foldl (queuesOfShaper s (h.flow - 0x3000)) (withShaper (h.flow - 0x3000) (shaperSet p (rawNs s)) s)
  refine ⟨_, (tmShaperCfg_ok hp).trans (congrArg done ho.tm), ⟨rfl, ho.frames, ho.settings⟩, fun hn => ?_⟩
  rw [hn]
  rfl

end

theorem exec_tmShaperCfg_ok {h : Hdr} {p : TmShaperCfgP} {s : State} (hr : Ready h (.tmShaperCfg p) s) (hp : shaperCfgOk p) :
    ∃ t, exec (.tmShaperCfg h p) s = .next t ∧ t = { s with hif := answered h (.tmShaperCfg p) stOk 0 [] s, tm := t.tm } ∧
      (shaperOf t (h.flow - 0x3000)).rate = p.rate10bps ∧ (shaperOf t (h.flow - 0x3000)).burst = p.burst ∧
      (∀ q, (queueOf t q).frames = (queueOf s q).frames) ∧
      (queuesOfShaper s (h.flow - 0x3000) = [] →
        t.tm = { s.tm with shapers := tmod {} s.tm.shapers (h.flow - 0x3000) (shaperSet p (rawNs s)) }) := by
  obtain ⟨tm, he, ho, hn⟩ := tmShaperCfg_only (h := h) (s := inFlightWith h (.tmShaperCfg p) s) hp
  obtain ⟨hrate, hburst⟩ := ho.settings (h.flow - 0x3000)
  have hset : tget {} (tmod {} s.tm.shapers (h.flow - 0x3000) (shaperSet p (rawNs s))) (h.flow - 0x3000) =
      shaperSet p (rawNs s) (shaperOf s (h.flow - 0x3000)) := (tget_tmod ..).trans (if_pos rfl)
  exact ⟨_, agentRun_putsTm hr he, rfl, hrate.trans (congrArg (·.rate) hset), hburst.trans (congrArg (·.burst) hset), ho.frames, hn⟩

/-! TM_CLASS_MAP (R343, R344). -/

section
variable {h : Hdr} {p : TmClassMapP} {s : State}

theorem tmClassMap_badOp (ho : 4 < p.op) : tmClassMap h p s = refuse s stBadParam := by
  rw [tmClassMap, if_neg (by omega), if_neg (by omega), if_neg (by omega), if_neg (by omega), if_neg (by omega)]

theorem tmClassMap_badProfile (ho : p.op = 0) (hb : 4095 < p.index ∨ profileOk p.entry = false) : tmClassMap h p s = refuse s stBadParam := by
  rw [tmClassMap, if_pos ho, if_pos (by simpa using hb)]

theorem tmClassMap_profile (ho : p.op = 0) (hi : p.index ≤ 4095) (he : profileOk p.entry = true) :
    tmClassMap h p s = done (withTm (fun t => { t with profiles := tput t.profiles p.index p.entry }) s) := by
  rw [tmClassMap, if_pos ho, if_neg (by simp [hi, he])]

theorem tmClassMap_dscpClass (ho : p.op = 1) (hl : p.map.length = 64) (hm : ∀ x ∈ p.map, x ≤ 7) :
    tmClassMap h p s = done (withTm (fun t => { t with dscpClass := mapTable p.map }) s) := by
  rw [tmClassMap, if_neg (by omega), if_pos ho, if_neg (by simpa [hl] using hm)]

theorem tmClassMap_dscpColour (ho : p.op = 2) (hl : p.map.length = 64) (hm : ∀ x ∈ p.map, x ≤ 2) :
    tmClassMap h p s = done (withTm (fun t => { t with dscpColour := mapTable p.map }) s) := by
  rw [tmClassMap, if_neg (by omega), if_neg (by omega), if_pos ho, if_neg (by simpa [hl] using hm)]

theorem tmClassMap_portEntry (ho : p.op = 3) (hi : p.index ≤ 15) (hc : p.cls ≤ 7) (he : p.enable ≤ 1) :
    tmClassMap h p s = done (withTm (fun _ => { s.tm with
      portTable := if p.enable = 1 then tput s.tm.portTable p.index (p.udpPort, p.cls) else tdel s.tm.portTable p.index }) s) := by
  rw [tmClassMap, if_neg (by omega), if_neg (by omega), if_neg (by omega), if_pos ho, if_neg (by simp [hi, hc, he])]
  rfl

theorem tmClassMap_portPut (ho : p.op = 3) (hi : p.index ≤ 15) (hc : p.cls ≤ 7) (he : p.enable = 1) : tmClassMap h p s =
    done (withTm (fun _ => { s.tm with portTable := tput s.tm.portTable p.index (p.udpPort, p.cls) }) s) := by
  rw [tmClassMap_portEntry ho hi hc he.le, if_pos he]

theorem tmClassMap_portDel (ho : p.op = 3) (hi : p.index ≤ 15) (hc : p.cls ≤ 7) (he : p.enable = 0) : tmClassMap h p s =
    done (withTm (fun _ => { s.tm with portTable := tdel s.tm.portTable p.index }) s) := by
  rw [tmClassMap_portEntry ho hi hc (by omega), if_neg (by omega)]

theorem tmClassMap_badUnknownQueue (ho : p.op = 4)
    (hb : 4095 < p.unknownQueue ∨ (queueOf s p.unknownQueue).port ≠ 5 ∨ 8192 < p.reserveCells) : tmClassMap h p s = refuse s stBadParam := by
  rw [tmClassMap, if_neg (by omega), if_neg (by omega), if_neg (by omega), if_neg (by omega), if_pos ho,
    if_pos (by simpa [or_assoc] using hb)]

theorem tmClassMap_unknownQueue (ho : p.op = 4) (hq : p.unknownQueue ≤ 4095) (h5 : (queueOf s p.unknownQueue).port = 5)
    (hc : p.reserveCells ≤ 8192) :
    tmClassMap h p s = done (withTm (fun t => { t with unknownQueue := p.unknownQueue, reserve := p.reserveCells }) s) := by
  rw [tmClassMap, if_neg (by omega), if_neg (by omega), if_neg (by omega), if_neg (by omega), if_pos ho, if_neg (by simp [hq, h5, hc])]

end

/-! TM_STATS (R362). -/

theorem ite_withTm (p : Prop) [Decidable p] (f : TmSt → TmSt) (s : State) :
    (if p then withTm f s else s) = withTm (fun _ => if p then f s.tm else s.tm) s := by
  split <;> rfl

section
variable {h : Hdr} {p : TmStatsP} {s : State}

theorem tmStats_bad (hc : 1 < p.clear) : tmStats h p s = refuse s stBadParam := if_pos hc

theorem tmStats_queue (hc : p.clear ≤ 1) (hf : h.flow < 0x1000) : tmStats h p s =
    done (withTm (fun _ => if p.clear = 1 then
        { s.tm with queues := tput s.tm.queues h.flow { queueOf s h.flow with sent := 0, dropped := 0 } } else s.tm) s)
      (le 4 (queueBytes (queueOf s h.flow)) ++ le 2 (queueOf s h.flow).frames.length ++ le 4 (queueOf s h.flow).sent ++
        le 4 (queueOf s h.flow).dropped ++ leS 4 (queueOf s h.flow).deficit) := by
  rw [tmStats, if_neg (Nat.not_lt.mpr hc), if_pos hf]
  exact congrArg (done · _) (ite_withTm ..)

theorem tmStats_meter (hc : p.clear ≤ 1) (hq : 0x1000 ≤ h.flow) (hf : h.flow < 0x3000) : tmStats h p s =
    done (withTm (fun _ => if p.clear = 1 then
        { s.tm with meters := tput s.tm.meters (h.flow - 0x1000) { meterOf s (h.flow - 0x1000) with green := 0, yellow := 0, red := 0 } } else s.tm) s)
      (le 4 (meterOf s (h.flow - 0x1000)).green ++ le 4 (meterOf s (h.flow - 0x1000)).yellow ++ le 4 (meterOf s (h.flow - 0x1000)).red ++
        le 4 ((meterOf s (h.flow - 0x1000)).tc / 256) ++ le 4 ((meterOf s (h.flow - 0x1000)).tp / 256)) := by
  rw [tmStats, if_neg (Nat.not_lt.mpr hc), if_neg (Nat.not_lt.mpr hq), if_pos hf]
  exact congrArg (done · _) (ite_withTm ..)

theorem tmStats_shaper (hc : p.clear ≤ 1) (hf : 0x3000 ≤ h.flow) : ∃ data, tmStats h p s =
    done (withTm (fun _ => if p.clear = 1 then
        { s.tm with shapers := tput s.tm.shapers (h.flow - 0x3000) { shaperOf s (h.flow - 0x3000) with released := 0 } } else s.tm) s) data := by
  rw [tmStats, if_neg (Nat.not_lt.mpr hc), if_neg (by omega), if_neg (Nat.not_lt.mpr hf)]
  exact ⟨_, congrArg (done · _) (ite_withTm ..)⟩

end

/-- Settles O46: each command is Ready, so its reply and its effect are what its meaning comes to; the history's expiry goes by whether every scope is
below its warning level. -/
theorem budgetAndTrafficCommands : Obligations.BudgetAndTrafficCommands := by
  refine ⟨fun h s => ⟨fun p hr => ⟨fun hp => agentRun_refuses hr (budgRegionLoad_bad hp), exec_budgRegionLoad_ok hr⟩,
      fun p hr => ⟨fun hp => agentRun_refuses hr (budgStatus_bad hp),
        fun hb hc => agentRun_answers hr _ (budgStatus_ok hb hc) rfl rfl rfl rfl⟩,
      exec_budgetBucketExpiry s⟩,
    fun h s => ⟨fun p hr => ⟨fun hk => agentRun_refuses hr (tmQueueCfg_bad hk), queueCfgOk_twinPort,
        fun hk hb => agentRun_refuses hr (tmQueueCfg_busy hk hb), exec_tmQueueCfg_ok hr⟩,
      fun p hr => ⟨fun hk => agentRun_refuses hr (tmMeterCfg_bad hk), fun hk => agentRun_putsTm hr (tmMeterCfg_ok hk)⟩,
      fun p hr => ⟨fun hp => agentRun_refuses hr (tmShaperCfg_bad hp), exec_tmShaperCfg_ok hr⟩, fun p hr => ?classMap,
      fun p hr => ⟨fun hc => agentRun_refuses hr (tmStats_bad hc), fun hc hf => agentRun_putsTm hr (tmStats_queue hc hf),
        fun hc hq hf => agentRun_putsTm hr (tmStats_meter hc hq hf), ?shaperStats⟩⟩⟩
  case classMap =>
    exact ⟨fun ho => agentRun_refuses hr (tmClassMap_badOp ho), fun ho hb => agentRun_refuses hr (tmClassMap_badProfile ho hb),
      fun ho hi he => agentRun_putsTm hr (tmClassMap_profile ho hi he), fun ho hl hm => agentRun_putsTm hr (tmClassMap_dscpClass ho hl hm),
      fun ho hl hm => agentRun_putsTm hr (tmClassMap_dscpColour ho hl hm),
      fun ho hi hc he => agentRun_putsTm hr (tmClassMap_portPut ho hi hc he),
      fun ho hi hc he => agentRun_putsTm hr (tmClassMap_portDel ho hi hc he),
      fun ho hb => agentRun_refuses hr (tmClassMap_badUnknownQueue ho hb),
      fun ho hq h5 hc => agentRun_putsTm hr (tmClassMap_unknownQueue ho hq h5 hc)⟩
  case shaperStats =>
    intro hc hf
    obtain ⟨data, he⟩ := tmStats_shaper (s := inFlightWith h (.tmStats p) s) hc hf
    exact ⟨data, agentRun_putsTm hr he⟩

end Sys2Proof.Proofs
end

section
/-!
PROOFS. The node table's commands (R311, R316, R329): the way that holds a key once an entry is placed, then what each meaning comes to and the
command path around it.
-/
namespace Sys2Proof.Proofs
open Machine Safety Laws

/-! A command of the tables. -/

/-- A command that is Ready and whose meaning puts the tables. -/
theorem agentRun_putsTbl {h : Hdr} {c : Cmd} {run : State → Res} {s : State} {tbl : TblSt} {data : List Byte} (hr : Ready h c s)
    (he : run (inFlightWith h c s) = done (withTbl (fun _ => tbl) (inFlightWith h c s)) data) :
    agentRun h c run s = .next { s with hif := answered h c stOk 0 data s, tbl := tbl } :=
  agentRun_answers hr _ he rfl rfl rfl rfl

/-- A command that is Ready and whose meaning answers and changes nothing. -/
theorem agentRun_reads {h : Hdr} {c : Cmd} {run : State → Res} {s : State} {data : List Byte} (hr : Ready h c s)
    (he : run (inFlightWith h c s) = done (inFlightWith h c s) data) :
    agentRun h c run s = .next { s with hif := answered h c stOk 0 data s } :=
  agentRun_answers hr _ he rfl rfl rfl rfl

theorem raiseIf_evt (b : Bool) (n : Nat) (s : State) : ∃ e, raiseIf b n s = { s with evt := e } := ⟨_, raiseIf_only b n s⟩

/-! The way of a key (R314, R315). -/

/-- The entry at a way, where it holds the key. -/
def nodeAt (kind panId addr : Nat) (n : Tbl NodeE) (w : Nat) : Option (Nat × NodeE) :=
  ((tfind n w).filter (fun e => e.kind = kind && e.panId = panId && e.addr = addr)).map (w, ·)

section
variable {kind panId addr w : Nat} {n : Tbl NodeE} {e : NodeE} {s : State}

theorem findNode_eq (kind panId addr : Nat) (s : State) :
    findNode s kind panId addr = (waysOf s panId addr).findSome? (nodeAt kind panId addr s.tbl.nodes) := by
  unfold findNode
  congr 1
  funext w
  unfold nodeAt
  cases tfind s.tbl.nodes w with
  | none => rfl
  | some e => by_cases hk : (e.kind = kind && e.panId = panId && e.addr = addr) = true <;> simp [Option.filter, hk]

theorem nodeAt_eq_some {x : Nat × NodeE} (h : nodeAt kind panId addr n w = some x) : x.1 = w ∧ tfind n w = some x.2 := by
  obtain ⟨e, he, rfl⟩ := Option.map_eq_some_iff.mp h
  exact ⟨rfl, (Option.filter_eq_some_iff.mp he).1⟩

theorem nodeAt_tput_same (hk : e.kind = kind ∧ e.panId = panId ∧ e.addr = addr) : nodeAt kind panId addr (tput n w e) w = some (w, e) := by
  simp [nodeAt, tfind_tput, hk, Option.filter]

theorem nodeAt_tput_other {v : Nat} (hv : w ≠ v) : nodeAt kind panId addr (tput n w e) v = nodeAt kind panId addr n v := by
  rw [nodeAt, tfind_tput, if_neg hv, nodeAt]

/-- A way of the key comes before every other that holds the key. -/
def FirstFor (kind panId addr : Nat) (n : Tbl NodeE) (ways : List Nat) (w : Nat) : Prop :=
  ∃ before after, ways = before ++ w :: after ∧ ∀ v ∈ before, w ≠ v ∧ nodeAt kind panId addr n v = none

/-- An entry of the key put there is the one that a search of the ways finds. -/
theorem FirstFor.finds_put {ways : List Nat} (hf : FirstFor kind panId addr n ways w) (hk : e.kind = kind ∧ e.panId = panId ∧ e.addr = addr) :
    ways.findSome? (nodeAt kind panId addr (tput n w e)) = some (w, e) := by
  obtain ⟨before, after, hw, hb⟩ := hf
  exact List.findSome?_eq_some_iff.mpr ⟨before, w, after, hw, nodeAt_tput_same hk,
    fun v hv => (nodeAt_tput_other (hb v hv).1).trans (hb v hv).2⟩

/-- The way that holds the key. -/
theorem firstFor_of_present (h : findNode s kind panId addr = some (w, e)) : FirstFor kind panId addr s.tbl.nodes (waysOf s panId addr) w := by
  rw [findNode_eq] at h
  obtain ⟨before, v, after, hw, hv, hb⟩ := List.findSome?_eq_some_iff.mp h
  obtain rfl : w = v := (nodeAt_eq_some hv).1
  refine ⟨before, after, hw, fun u hu => ⟨?_, hb u hu⟩⟩
  rintro rfl
  exact nomatch hv.symm.trans (hb w hu)

/-- The first free way, where none holds the key. -/
theorem firstFor_of_free (h : findNode s kind panId addr = none)
    (hf : (waysOf s panId addr).find? (fun w => (tfind s.tbl.nodes w).isNone) = some w) :
    FirstFor kind panId addr s.tbl.nodes (waysOf s panId addr) w := by
  rw [findNode_eq, List.findSome?_eq_none_iff] at h
  obtain ⟨hw, before, after, hs, hb⟩ := List.find?_eq_some_iff_append.mp hf
  refine ⟨before, after, hs, fun v hv => ⟨?_, h v (by simp [hs, hv])⟩⟩
  rintro rfl
  have hn := hb w hv
  rw [hw] at hn
  exact absurd hn Bool.false_ne_true

theorem tfind_of_findNode (h : findNode s kind panId addr = some (w, e)) : tfind s.tbl.nodes w = some e := by
  rw [findNode_eq] at h
  obtain ⟨_, v, _, _, hv, _⟩ := List.findSome?_eq_some_iff.mp h
  obtain ⟨rfl, he⟩ := nodeAt_eq_some hv
  exact he

end

/-! TBL_NODE_INSERT (R316, R329). -/

/-- The ranges of TBL_NODE_INSERT (R311). -/
def nodeInsertOk (p : TblNodeInsertP) : Prop := keyOk p.kind p.panId p.addr = true ∧ p.flags < 16 ∧ p.nextHop ≤ 0x7FFF

theorem nodeInsertOk_iff (p : TblNodeInsertP) : nodeInsertOk p ↔
    ¬ (!keyOk p.kind p.panId p.addr || decide (16 ≤ p.flags) || decide (0x7FFF < p.nextHop)) = true := by
  simp [nodeInsertOk, and_assoc]

theorem insertReply_placed (w : Nat) : insertReply w 0 none = le 4 w ++ le 2 0 := List.append_nil _

/-- An entry placed: it reaches its position, the marks of open locks, and the events. -/
theorem placeNode_only (pos : Nat) (x : NodeE) (s : State) :
    ∃ locks e, placeNode pos x s = { s with tbl := { s.tbl with nodes := tput s.tbl.nodes pos x, locks := locks }, evt := e } := by
  obtain ⟨e, he⟩ := raiseIf_evt (nodeNear _ (nodeCount s)) 0xC5 (withTbl (fun t => { t with
    nodes := tput t.nodes pos x,
    locks := t.locks.map (fun l => if isLock x.kind x.panId x.addr l && !l.holdoff then { l with inserted := true } else l) }) s)
  exact ⟨_, e, he⟩

section
variable {h : Hdr} {p : TblNodeInsertP} {s : State}

theorem tblNodeInsert_bad (hp : ¬ nodeInsertOk p) : tblNodeInsert h p s = refuse s stBadParam := by
  rw [nodeInsertOk_iff, not_not] at hp
  exact if_pos hp

theorem tblNodeInsert_duplicate (hp : nodeInsertOk p) (hs : (findNode s p.kind p.panId p.addr).isSome = true) (hb : p.flags.testBit 3 = false) :
    tblNodeInsert h p s = refuse s stDuplicate := by
  rw [nodeInsertOk_iff] at hp
  obtain ⟨x, hw⟩ := Option.isSome_iff_exists.mp hs
  simp only [tblNodeInsert, if_neg hp, hw, bit, hb, Bool.false_eq_true, if_false]

theorem tblNodeInsert_replaces {w : Nat} {e : NodeE} (hp : nodeInsertOk p) (hw : findNode s p.kind p.panId p.addr = some (w, e))
    (hb : p.flags.testBit 3 = true) : tblNodeInsert h p s = done (placeNode w (newNode p s) s) (le 4 w ++ le 2 0) := by
  rw [nodeInsertOk_iff] at hp
  simp only [tblNodeInsert, if_neg hp, hw, bit, hb, if_true, insertReply_placed]

theorem tblNodeInsert_free {w : Nat} (hp : nodeInsertOk p) (hn : findNode s p.kind p.panId p.addr = none)
    (hw : (waysOf s p.panId p.addr).find? (fun w => (tfind s.tbl.nodes w).isNone) = some w) :
    tblNodeInsert h p s = done (placeNode w (newNode p s) s) (le 4 w ++ le 2 0) := by
  rw [nodeInsertOk_iff] at hp
  simp only [tblNodeInsert, if_neg hp, hn, hw, insertReply_placed]

/-- What an insert that places its entry at a way comes to: a search finds it there. -/
theorem exec_tblNodeInsert_places {w : Nat} (hr : Ready h (.tblNodeInsert p) s)
    (hf : FirstFor p.kind p.panId p.addr s.tbl.nodes (waysOf s p.panId p.addr) w)
    (he : tblNodeInsert h p (inFlightWith h (.tblNodeInsert p) s) =
      done (placeNode w (newNode p s) (inFlightWith h (.tblNodeInsert p) s)) (le 4 w ++ le 2 0)) :
    ∃ t, exec (.tblNodeInsert h p) s = .next t ∧
      t = { s with hif := answered h (.tblNodeInsert p) stOk 0 (le 4 w ++ le 2 0) s, tbl := t.tbl, evt := t.evt } ∧
      findNode t p.kind p.panId p.addr = some (w, newNode p s) ∧ t.tbl.nodes = tput s.tbl.nodes w (newNode p s) := by
  obtain ⟨locks, e, ht⟩ := placeNode_only w (newNode p s) (inFlightWith h (.tblNodeInsert p) s)
  rw [ht] at he
  exact ⟨_, agentRun_answers hr _ he rfl rfl rfl rfl, rfl, (findNode_eq ..).trans (hf.finds_put ⟨rfl, rfl, rfl⟩), rfl⟩

end

/-! TBL_NODE_DELETE (R329). -/

/-- The ranges of TBL_NODE_DELETE (R311). -/
def nodeDeleteOk (p : TblNodeDeleteP) : Prop := keyOk p.kind p.panId p.addr = true ∧ p.force ≤ 1

theorem nodeDeleteOk_iff (p : TblNodeDeleteP) : nodeDeleteOk p ↔ ¬ (!keyOk p.kind p.panId p.addr || decide (1 < p.force)) = true := by
  simp [nodeDeleteOk]

section
variable {h : Hdr} {p : TblNodeDeleteP} {s : State}

theorem tblNodeDelete_bad (hp : ¬ nodeDeleteOk p) : tblNodeDelete h p s = refuse s stBadParam := by
  rw [nodeDeleteOk_iff, not_not] at hp
  exact if_pos hp

theorem tblNodeDelete_absent (hp : nodeDeleteOk p) (hn : findNode s p.kind p.panId p.addr = none) : tblNodeDelete h p s = done s [0] := by
  rw [nodeDeleteOk_iff] at hp
  simp only [tblNodeDelete, if_neg hp, hn]

/-- A key that is present: a static node goes by force only. -/
theorem tblNodeDelete_present {w : Nat} {e : NodeE} (hp : nodeDeleteOk p) (hw : findNode s p.kind p.panId p.addr = some (w, e)) :
    tblNodeDelete h p s =
      if e.static && p.force = 0 then refuse s stBusy else done (withTbl (fun t => { t with nodes := tdel t.nodes w }) s) [1] := by
  rw [nodeDeleteOk_iff] at hp
  simp only [tblNodeDelete, if_neg hp, hw]

theorem tblNodeDelete_static {w : Nat} {e : NodeE} (hp : nodeDeleteOk p) (hw : findNode s p.kind p.panId p.addr = some (w, e))
    (hs : e.static = true) (h0 : p.force = 0) : tblNodeDelete h p s = refuse s stBusy := by
  rw [tblNodeDelete_present hp hw, if_pos (by simp [hs, h0])]

theorem tblNodeDelete_removes {w : Nat} {e : NodeE} (hp : nodeDeleteOk p) (hw : findNode s p.kind p.panId p.addr = some (w, e))
    (hs : e.static = false ∨ p.force = 1) : tblNodeDelete h p s = done (withTbl (fun t => { t with nodes := tdel t.nodes w }) s) [1] := by
  rw [tblNodeDelete_present hp hw, if_neg]
  rcases hs with hs | hs <;> simp [hs]

end

end Sys2Proof.Proofs
end

section
/-!
PROOFS. The prefixes, the lookup and the settings of the tables (R322-R325, R337-R340): what each meaning comes to, then the command path around
it.
-/
namespace Sys2Proof.Proofs
open Machine Safety Laws

/-! TBL_PREFIX_ADD (R322, R324). -/

/-- The entry is of these leading bits and this length (R322). -/
def samePrefix (pfx plen : Nat) (q : PrefixE) : Bool := decide (q.pfx = pfx) && decide (q.plen = plen)

/-- The entry of TBL_PREFIX_ADD, before it has a result. -/
def prefixOf (p : TblPrefixAddP) : PrefixE :=
  { pfx := p.pfx, plen := p.plen, action := p.action, port := p.port, panId := p.panId, tmProfile := p.tmProfile }

/-- The ranges of TBL_PREFIX_ADD (R322). -/
def prefixAddOk (p : TblPrefixAddP) : Prop := p.plen ≤ 64 ∧ lead p.pfx p.plen = p.pfx ∧ p.action ≤ 3 ∧ p.port ≤ 7 ∧ p.replace ≤ 1

theorem prefixAddOk_iff (p : TblPrefixAddP) : prefixAddOk p ↔
    ¬ (decide (64 < p.plen) || decide (lead p.pfx p.plen ≠ p.pfx) || decide (3 < p.action) || decide (7 < p.port) ||
      decide (1 < p.replace)) = true := by
  simp [prefixAddOk, and_assoc]

/-- The prefixes replaced: it reaches them, the high marks of the pools, and the events. -/
theorem setPrefixes_only (ps : List PrefixE) (s : State) :
    ∃ high e, setPrefixes ps s = { s with tbl := { s.tbl with prefixes := ps, poolHigh := high }, evt := e } := by
  unfold setPrefixes
  extract_lets was now low u
  obtain ⟨e, he⟩ := raiseIf_evt low 0xC6 u
  exact ⟨_, e, he⟩

/-- An entry put in the place of the first one of its name is the one that a search finds. -/
theorem find_samePrefix_replaced {pfx plen : Nat} {ps : List PrefixE} {q x : PrefixE} (hq : ps.find? (samePrefix pfx plen) = some q)
    (hx : samePrefix pfx plen x = true) :
    (ps.map (fun y => if y = q then x else y)).find? (samePrefix pfx plen) = some x := by
  obtain ⟨hs, before, after, rfl, hb⟩ := List.find?_eq_some_iff_append.mp hq
  have hbefore : before.map (fun y => if y = q then x else y) = before := by
    refine (List.map_congr_left fun y hy => if_neg ?_).trans (List.map_id' before)
    rintro rfl
    have hn := hb y hy
    rw [hs] at hn
    exact Bool.false_ne_true hn
  refine List.find?_eq_some_iff_append.mpr ⟨hx, before, after.map (fun y => if y = q then x else y), ?_, hb⟩
  simp [hbefore]

/-- A new entry takes a result that no other holds: there are more numbers to look through than prefixes. -/
theorem takeResult_fresh (s : State) : ∀ q ∈ s.tbl.prefixes, q.result ≠ takeResult s := by
  suffices hf : takeResult s ∉ s.tbl.prefixes.map (·.result) from fun q hq he => hf (List.mem_map.mpr ⟨q, hq, he⟩)
  unfold takeResult
  extract_lets d used
  change _ ∉ used
  split
  next hd => simpa using (Bool.and_eq_true_iff.mp hd).2
  next =>
    have hex : ∃ i ∈ List.range (used.length + 1), i ∉ used := by
      by_contra hn
      push Not at hn
      have hl := (List.nodup_range.subperm (fun i hi => hn i hi)).length_le
      simp at hl
    obtain ⟨i, hi, hu⟩ := hex
    cases hfind : (List.range (used.length + 1)).find? (fun i => !used.contains i) with
    | none => exact absurd (List.find?_eq_none.mp hfind i hi) (by simpa using hu)
    | some j => simpa using List.find?_some hfind

section
variable {h : Hdr} {p : TblPrefixAddP} {s : State}

theorem tblPrefixAdd_bad (hp : ¬ prefixAddOk p) : tblPrefixAdd h p s = refuse s stBadParam := by
  rw [prefixAddOk_iff, not_not] at hp
  exact if_pos hp

/-- An entry that is present is replaced or refused. -/
theorem tblPrefixAdd_present {q : PrefixE} (hp : prefixAddOk p) (hq : s.tbl.prefixes.find? (samePrefix p.pfx p.plen) = some q) :
    tblPrefixAdd h p s = if p.replace = 0 then refuse s stDuplicate
      else done (setPrefixes (s.tbl.prefixes.map (fun x => if x = q then { prefixOf p with result := q.result } else x)) s)
        (le 2 q.result ++ zeros 6) := by
  rw [prefixAddOk_iff] at hp
  unfold samePrefix at hq
  simp only [tblPrefixAdd, if_neg hp, hq, prefixOf]

/-- An entry that is new takes a fresh result, where there is room for it. -/
theorem tblPrefixAdd_absent (hp : prefixAddOk p) (hn : s.tbl.prefixes.find? (samePrefix p.pfx p.plen) = none) : ∃ data,
    tblPrefixAdd h p s =
      if 65536 ≤ s.tbl.prefixes.length || (poolUse (s.tbl.prefixes ++ [{ prefixOf p with result := takeResult s }])).any (896 < ·) then
        refuse s stNoRoom
      else done (tick1 (setPrefixes (s.tbl.prefixes ++ [{ prefixOf p with result := takeResult s }]) s)) data := by
  rw [prefixAddOk_iff] at hp
  unfold samePrefix at hn
  simp only [tblPrefixAdd, if_neg hp, hn, prefixOf]
  exact ⟨_, rfl⟩

theorem tblPrefixAdd_duplicate {q : PrefixE} (hp : prefixAddOk p) (hq : s.tbl.prefixes.find? (samePrefix p.pfx p.plen) = some q)
    (h0 : p.replace = 0) : tblPrefixAdd h p s = refuse s stDuplicate := by rw [tblPrefixAdd_present hp hq, if_pos h0]

theorem tblPrefixAdd_full (hp : prefixAddOk p) (hn : s.tbl.prefixes.find? (samePrefix p.pfx p.plen) = none) (hl : 65536 ≤ s.tbl.prefixes.length) :
    tblPrefixAdd h p s = refuse s stNoRoom := by
  obtain ⟨_, he⟩ := tblPrefixAdd_absent (h := h) hp hn
  rw [he, if_pos (by simp [hl])]

theorem exec_tblPrefixAdd_replaces {q : PrefixE} (hr : Ready h (.tblPrefixAdd p) s) (hp : prefixAddOk p)
    (hq : s.tbl.prefixes.find? (samePrefix p.pfx p.plen) = some q) (h1 : p.replace = 1) : ∃ t, exec (.tblPrefixAdd h p) s = .next t ∧
      t = { s with hif := answered h (.tblPrefixAdd p) stOk 0 (le 2 q.result ++ zeros 6) s, tbl := t.tbl, evt := t.evt } ∧
      t.tbl.prefixes.find? (samePrefix p.pfx p.plen) = some { prefixOf p with result := q.result } := by
  have he := tblPrefixAdd_present (h := h) (s := inFlightWith h (.tblPrefixAdd p) s) hp hq
  obtain ⟨high, e, ht⟩ := setPrefixes_only (s.tbl.prefixes.map (fun x => if x = q then { prefixOf p with result := q.result } else x))
    (inFlightWith h (.tblPrefixAdd p) s)
  rw [if_neg (by omega), inFlightWith_at_tbl, ht] at he
  exact ⟨_, agentRun_answers hr _ he rfl rfl rfl rfl, rfl, find_samePrefix_replaced hq (by simp [samePrefix, prefixOf])⟩

theorem exec_tblPrefixAdd_new (hr : Ready h (.tblPrefixAdd p) s) (hp : prefixAddOk p)
    (hn : s.tbl.prefixes.find? (samePrefix p.pfx p.plen) = none) (hl : s.tbl.prefixes.length < 65536)
    (hroom : ∀ r, (poolUse (s.tbl.prefixes ++ [{ prefixOf p with result := r }])).all (fun n => decide (n ≤ 896)) = true) :
    ∃ t r data, exec (.tblPrefixAdd h p) s = .next t ∧
      t = { s with free := s.free + 1, hif := answered h (.tblPrefixAdd p) stOk 0 data s, tbl := t.tbl, evt := t.evt } ∧
      t.tbl.prefixes = s.tbl.prefixes ++ [{ prefixOf p with result := r }] ∧ ∀ q ∈ s.tbl.prefixes, q.result ≠ r := by
  obtain ⟨data, he⟩ := tblPrefixAdd_absent (h := h) (s := inFlightWith h (.tblPrefixAdd p) s) hp hn
  obtain ⟨high, e, ht⟩ := setPrefixes_only (s.tbl.prefixes ++ [{ prefixOf p with result := takeResult s }]) (inFlightWith h (.tblPrefixAdd p) s)
  have hfits : ¬ (decide (65536 ≤ s.tbl.prefixes.length) ||
      (poolUse (s.tbl.prefixes ++ [{ prefixOf p with result := takeResult s }])).any (896 < ·)) = true := by
    simpa [hl] using hroom (takeResult s)
  rw [inFlightWith_at_tbl, inFlightWith_takeResult, if_neg hfits, ht] at he
  exact ⟨_, _, data, agentRun_answers hr _ he rfl rfl rfl rfl, rfl, rfl, takeResult_fresh s⟩

end

/-! TBL_PREFIX_DEL (R324). -/

/-- The prefixes without the one named. -/
def prefixesWithout (pfx plen : Nat) (s : State) : List PrefixE := s.tbl.prefixes.filter (fun q => !(samePrefix pfx plen q))

section
variable {h : Hdr} {p : TblPrefixDelP} {s : State}

theorem tblPrefixDel_bad (hl : 64 < p.plen) : tblPrefixDel h p s = refuse s stBadParam := if_pos hl

theorem tblPrefixDel_absent (hl : p.plen ≤ 64) (hk : prefixesWithout p.pfx p.plen s = s.tbl.prefixes) : tblPrefixDel h p s = done s [0] :=
  (if_neg hl.not_gt).trans (if_pos (congrArg List.length hk))

theorem tblPrefixDel_present (hl : p.plen ≤ 64) (hk : prefixesWithout p.pfx p.plen s ≠ s.tbl.prefixes) :
    tblPrefixDel h p s = done (setPrefixes (prefixesWithout p.pfx p.plen s) s) [1] :=
  (if_neg hl.not_gt).trans (if_neg fun hn => hk (List.filter_eq_self.mpr (List.length_filter_eq_length_iff.mp hn)))

theorem exec_tblPrefixDel_present (hr : Ready h (.tblPrefixDel p) s) (hl : p.plen ≤ 64)
    (hk : prefixesWithout p.pfx p.plen s ≠ s.tbl.prefixes) : ∃ t, exec (.tblPrefixDel h p) s = .next t ∧
      t = { s with hif := answered h (.tblPrefixDel p) stOk 0 [1] s, tbl := t.tbl, evt := t.evt } ∧
      t.tbl.prefixes = prefixesWithout p.pfx p.plen s := by
  have he := tblPrefixDel_present (h := h) (s := inFlightWith h (.tblPrefixDel p) s) hl hk
  obtain ⟨high, e, ht⟩ := setPrefixes_only (prefixesWithout p.pfx p.plen s) (inFlightWith h (.tblPrefixDel p) s)
  rw [show prefixesWithout p.pfx p.plen (inFlightWith h (.tblPrefixDel p) s) = prefixesWithout p.pfx p.plen s from rfl, ht] at he
  exact ⟨_, agentRun_answers hr _ he rfl rfl rfl rfl, rfl, rfl⟩

end

/-! TBL_LOOKUP (R340). -/

/-- A node changed at one position reads as changed there. -/
theorem tfind_mapAt {α : Type} (t : Tbl α) (i : Nat) (f : α → α) :
    tfind (t.map (fun e => if e.1 = i then (e.1, f e.2) else e)) i = (tfind t i).map f := by
  induction t with
  | nil => rfl
  | cons e t ih =>
    obtain ⟨k, v⟩ := e
    by_cases hk : k = i <;> simp [tfind, hk, ih]

theorem tfind_withNode (pos : Nat) (f : NodeE → NodeE) (s : State) : tfind (withNode pos f s).tbl.nodes pos = (tfind s.tbl.nodes pos).map f :=
  tfind_mapAt ..

section
variable {h : Hdr} {p : TblLookupP} {s : State}

theorem tblLookup_bad (hp : 1 < p.setHit) : tblLookup h p s = refuse s stBadParam := if_pos hp

theorem tblLookup_noNode (hp : p.setHit ≤ 1) (hf : h.flow = 0) (hk : keyOk p.kind p.panId p.addr = true)
    (hn : findNode s p.kind p.panId p.addr = none) : tblLookup h p s = done s [0] := by
  simp only [tblLookup, if_neg hp.not_gt, if_pos hf, hk, hn, Bool.not_true, Bool.false_eq_true, if_false]

theorem tblLookup_node {w : Nat} {e : NodeE} (hp : p.setHit = 0) (hf : h.flow = 0) (hk : keyOk p.kind p.panId p.addr = true)
    (hw : findNode s p.kind p.panId p.addr = some (w, e)) (hb : e.bad = false) (h0 : p.bufferAddr = 0) :
    tblLookup h p s = done (withNode w (fun _ => e) s)
      ([1] ++ le 1 (nodeFlags e) ++ le 2 e.nextHop ++ le 4 w ++ le 4 e.learnTime ++ le 2 e.tmProfile) := by
  rw [tblLookup, if_neg (by omega), if_pos hf, if_neg (by simp [hk]), hw]
  dsimp only
  rw [if_neg (by simp [hb]), toHost, if_pos h0]
  simp only [hp, zero_ne_one, decide_false, Bool.or_false]

theorem tblLookup_noPrefix (hp : p.setHit ≤ 1) (hf : h.flow = 1) (hn : longest s p.addr = none) : tblLookup h p s = done s [0] := by
  simp only [tblLookup, if_neg hp.not_gt, hf, one_ne_zero, if_false, if_true, hn]

theorem tblLookup_noNbr (hp : p.setHit ≤ 1) (hf : 0x8000 ≤ h.flow) (hv : (nbrOf s (h.flow - 0x8000)).valid = false) :
    tblLookup h p s = done s [0] := by
  simp only [tblLookup, if_neg hp.not_gt, if_neg (show h.flow ≠ 0 by omega), if_neg (show h.flow ≠ 1 by omega), hv, Bool.not_false, if_true]

theorem exec_tblLookup_node {w : Nat} {e : NodeE} (hr : Ready h (.tblLookup p) s) (hp : p.setHit = 0) (hf : h.flow = 0)
    (hk : keyOk p.kind p.panId p.addr = true) (hw : findNode s p.kind p.panId p.addr = some (w, e)) (hb : e.bad = false)
    (h0 : p.bufferAddr = 0) : ∃ t, exec (.tblLookup h p) s = .next t ∧
      t.hif = answered h (.tblLookup p) stOk 0 ([1] ++ le 1 (nodeFlags e) ++ le 2 e.nextHop ++ le 4 w ++ le 4 e.learnTime ++ le 2 e.tmProfile) s ∧
      t.hostMem = s.hostMem ∧ tfind t.tbl.nodes w = some e ∧ t.evt = s.evt := by
  have he := tblLookup_node (s := inFlightWith h (.tblLookup p) s) hp hf hk hw hb h0
  refine ⟨_, agentRun_answers hr _ he rfl rfl rfl rfl, rfl, rfl, ?_, rfl⟩
  exact (tfind_withNode ..).trans (congrArg (Option.map fun _ => e) (tfind_of_findNode hw))

end

/-! TBL_STATUS, TBL_AGING_CFG and TBL_EVICT_POLICY (R339). -/

section
variable {h : Hdr} {s : State}

theorem ite_withTbl (q : Prop) [Decidable q] (f : TblSt → TblSt) (s : State) :
    (if q then withTbl f s else s) = { s with tbl := if q then f s.tbl else s.tbl } := by
  split <;> rfl

theorem tblStatus_bad {p : TblStatusP} (hp : 1 < p.clear) : tblStatus h p s = refuse s stBadParam := if_pos hp

theorem tblStatus_ok {p : TblStatusP} (hp : p.clear ≤ 1) : tblStatus h p s =
    done { s with
        hostMem := if p.bufferAddr = 0 then s.hostMem
          else memWrite s.hostMem p.bufferAddr ((List.range 13).flatMap (fun i => le 4 (tget 0 s.tbl.cnt i))),
        tbl := if p.clear = 1 then { s.tbl with cnt := [] } else s.tbl }
      (le 4 (nodeCount s) ++ le 2 (nbrCount s) ++ le 4 s.tbl.prefixes.length ++ le 2 (pinCount s) ++ le 2 s.tbl.locks.length ++
        le 2 (learnUnread s)) := by
  rw [tblStatus, if_neg hp.not_gt]
  dsimp only
  rw [ite_withTbl, toHost_only, toHost_hostMem]

/-- The ranges of TBL_AGING_CFG (R339). -/
def agingCfgOk (p : TblAgingCfgP) : Prop := p.table ≤ 1 ∧ (p.periodS = 0 ∨ (60 ≤ p.periodS ∧ p.periodS ≤ 86400))

theorem agingCfgOk_iff (p : TblAgingCfgP) : agingCfgOk p ↔
    ¬ (decide (1 < p.table) || !(decide (p.periodS = 0) || (decide (60 ≤ p.periodS) && decide (p.periodS ≤ 86400)))) = true := by
  simp [agingCfgOk, or_iff_not_imp_left]

theorem tblAgingCfg_bad {p : TblAgingCfgP} (hp : ¬ agingCfgOk p) : tblAgingCfg h p s = refuse s stBadParam := by
  rw [agingCfgOk_iff, not_not] at hp
  exact if_pos hp

theorem tblAgingCfg_ok {p : TblAgingCfgP} (hp : agingCfgOk p) : tblAgingCfg h p s =
    done (withTbl (fun t => if p.table = 0 then { t with ageNode := p.periodS } else { t with ageNbr := p.periodS }) s) := by
  rw [agingCfgOk_iff] at hp
  exact if_neg hp

/-- The ranges of TBL_EVICT_POLICY (R339). -/
def evictPolicyOk (p : TblEvictPolicyP) : Prop := p.policy ≤ 2 ∧ 16 ≤ p.maxKicks ∧ p.maxKicks ≤ 1024

theorem evictPolicyOk_iff (p : TblEvictPolicyP) : evictPolicyOk p ↔
    ¬ (decide (2 < p.policy) || decide (p.maxKicks < 16) || decide (1024 < p.maxKicks)) = true := by
  simp [evictPolicyOk, and_assoc]

theorem tblEvictPolicy_bad {p : TblEvictPolicyP} (hp : ¬ evictPolicyOk p) : tblEvictPolicy h p s = refuse s stBadParam := by
  rw [evictPolicyOk_iff, not_not] at hp
  exact if_pos hp

theorem tblEvictPolicy_ok {p : TblEvictPolicyP} (hp : evictPolicyOk p) : tblEvictPolicy h p s =
    done (withTbl (fun t => { t with evictPolicy := p.policy, maxKicks := p.maxKicks }) s) := by
  rw [evictPolicyOk_iff] at hp
  exact if_neg hp

end

/-! TBL_CFG (R337, R339). -/

/-- The learn ring moves. -/
def learnMoves (p : TblCfgP) (s : State) : Prop := p.learnBase ≠ s.tbl.learnBase ∨ p.learnLog2 ≠ s.tbl.learnLog2

theorem learnMoves_iff (p : TblCfgP) (s : State) : learnMoves p s ↔
    (decide (p.learnBase ≠ s.tbl.learnBase) || decide (p.learnLog2 ≠ s.tbl.learnLog2)) = true := by simp [learnMoves]

/-- The hash seed stays while there are nodes, and the learn ring while it is in use. -/
def tblCfgBusy (p : TblCfgP) (s : State) : Prop :=
  (p.hashSeed ≠ s.tbl.hashSeed ∧ nodeCount s ≠ 0) ∨ (learnMoves p s ∧ s.tbl.learnEnable = true)

theorem tblCfgBusy_iff (p : TblCfgP) (s : State) : tblCfgBusy p s ↔
    ((decide (p.hashSeed ≠ s.tbl.hashSeed) && decide (nodeCount s ≠ 0)) ||
      ((decide (p.learnBase ≠ s.tbl.learnBase) || decide (p.learnLog2 ≠ s.tbl.learnLog2)) && s.tbl.learnEnable)) = true := by
  simp [tblCfgBusy, learnMoves_iff]

/-- The settings of TBL_CFG. -/
def tblSet (p : TblCfgP) (t : TblSt) : TblSt := { t with
  hashSeed := p.hashSeed, airPanId := p.airPanId, nearPct := p.nearPct, unknownRing := p.unknownRing, learnEnable := decide (p.learnEnable = 1),
  learnBase := p.learnBase, learnLog2 := p.learnLog2, windowMs := p.windowMs, holdoffMs := p.holdoffMs, peerPorts := p.peerPorts }

/-- A learn ring at its first record. -/
def learnStart (t : TblSt) : TblSt := { t with learnHead := 0, learnTail := 0, learnPhase := true }

section
variable {h : Hdr} {p : TblCfgP} {s : State}

theorem tblCfg_bad (hk : tblCfgOk p = false) : tblCfg h p s = refuse s stBadParam := if_pos (by simp [hk])

theorem tblCfg_busy (hk : tblCfgOk p = true) (hb : tblCfgBusy p s) : tblCfg h p s = refuse s stBusy :=
  (if_neg (by simp [hk])).trans (if_pos ((tblCfgBusy_iff p s).mp hb))

theorem tblCfg_ok (hk : tblCfgOk p = true) (hb : ¬ tblCfgBusy p s) : tblCfg h p s = done (withTbl (fun t =>
    tblSet p (if decide (p.learnBase ≠ s.tbl.learnBase) || decide (p.learnLog2 ≠ s.tbl.learnLog2) then learnStart t else t)) s) :=
  (if_neg (by simp [hk])).trans (if_neg (hb ∘ (tblCfgBusy_iff p s).mpr))

theorem tblCfg_moves (hk : tblCfgOk p = true) (hb : ¬ tblCfgBusy p s) (hm : learnMoves p s) :
    tblCfg h p s = done (withTbl (fun t => tblSet p (learnStart t)) s) := by
  simp only [tblCfg_ok hk hb, if_pos ((learnMoves_iff p s).mp hm)]

theorem tblCfg_stays (hk : tblCfgOk p = true) (hb : ¬ tblCfgBusy p s) (hm : ¬ learnMoves p s) : tblCfg h p s = done (withTbl (tblSet p) s) := by
  simp only [tblCfg_ok hk hb, if_neg (hm ∘ (learnMoves_iff p s).mpr)]

theorem exec_tblCfg_ok (hr : Ready h (.tblCfg p) s) (hk : tblCfgOk p = true) (hb : ¬ tblCfgBusy p s) : ∃ t, exec (.tblCfg h p) s = .next t ∧
      t = { s with hif := answered h (.tblCfg p) stOk 0 [] s, tbl := { tblSet p s.tbl with
        learnHead := t.tbl.learnHead, learnTail := t.tbl.learnTail, learnPhase := t.tbl.learnPhase } } ∧
      (learnMoves p s → t.tbl.learnHead = 0 ∧ t.tbl.learnTail = 0 ∧ t.tbl.learnPhase = true) ∧
      (¬ learnMoves p s → t.tbl.learnHead = s.tbl.learnHead ∧ t.tbl.learnTail = s.tbl.learnTail ∧ t.tbl.learnPhase = s.tbl.learnPhase) := by
  by_cases hm : learnMoves p s
  · exact ⟨_, agentRun_putsTbl hr (tblCfg_moves hk hb hm), rfl, fun _ => ⟨rfl, rfl, rfl⟩, fun hn => absurd hm hn⟩
  · exact ⟨_, agentRun_putsTbl hr (tblCfg_stays hk hb hm), rfl, fun hn => absurd hn hm, fun _ => ⟨rfl, rfl, rfl⟩⟩

end

/-- Settles O49: each command is Ready, so its reply and its effect are what its meaning comes to. -/
theorem nodeAndPrefixTables : Obligations.NodeAndPrefixTables := by
  unfold Obligations.NodeAndPrefixTables
  intro h s
  refine ⟨fun p hr => ?insert, fun p hr => ?delete, fun p hr => ?add, fun p hr => ?del, fun p hr => ?lookup, fun p hr => ?status,
    fun p hr => ⟨fun hp => agentRun_refuses hr (tblAgingCfg_bad hp), fun hp => agentRun_putsTbl hr (tblAgingCfg_ok hp)⟩,
    fun p hr => ⟨fun hp => agentRun_refuses hr (tblEvictPolicy_bad hp), fun hp => agentRun_putsTbl hr (tblEvictPolicy_ok hp)⟩,
    fun p hr => ⟨fun hk => agentRun_refuses hr (tblCfg_bad hk), fun hk hb => agentRun_refuses hr (tblCfg_busy hk hb), exec_tblCfg_ok hr⟩⟩
  case insert =>
    exact ⟨fun hp => agentRun_refuses hr (tblNodeInsert_bad hp), fun hp hs hb => agentRun_refuses hr (tblNodeInsert_duplicate hp hs hb),
      fun w e hp hw hb => exec_tblNodeInsert_places hr (firstFor_of_present hw) (tblNodeInsert_replaces hp hw hb),
      fun w hp hn hf => exec_tblNodeInsert_places hr (firstFor_of_free hn hf) (tblNodeInsert_free hp hn hf)⟩
  case delete =>
    exact ⟨fun hp => agentRun_refuses hr (tblNodeDelete_bad hp), fun hp hn => agentRun_reads hr (tblNodeDelete_absent hp hn),
      fun w e hp hw => ⟨fun hs h0 => agentRun_refuses hr (tblNodeDelete_static hp hw hs h0),
        fun hs => agentRun_putsTbl hr (tblNodeDelete_removes hp hw hs)⟩⟩
  case add =>
    exact ⟨fun hp => agentRun_refuses hr (tblPrefixAdd_bad hp), fun q hp hq h0 => agentRun_refuses hr (tblPrefixAdd_duplicate hp hq h0),
      fun q => exec_tblPrefixAdd_replaces hr, fun hp hn hl => agentRun_refuses hr (tblPrefixAdd_full hp hn hl), exec_tblPrefixAdd_new hr⟩
  case del =>
    exact ⟨fun hl => agentRun_refuses hr (tblPrefixDel_bad hl), fun hl hk => agentRun_reads hr (tblPrefixDel_absent hl hk),
      exec_tblPrefixDel_present hr⟩
  case lookup =>
    exact ⟨fun hp => agentRun_refuses hr (tblLookup_bad hp), fun hp hf hk hn => agentRun_reads hr (tblLookup_noNode hp hf hk hn),
      fun w e => exec_tblLookup_node hr, fun hp hf hn => agentRun_reads hr (tblLookup_noPrefix hp hf hn),
      fun hp hf hv => agentRun_reads hr (tblLookup_noNbr hp hf hv)⟩
  case status =>
    exact ⟨fun hp => agentRun_refuses hr (tblStatus_bad hp), fun hp => agentRun_answers hr _ (tblStatus_ok hp) rfl rfl rfl rfl⟩

end Sys2Proof.Proofs
end

section
/-!
PROOFS. The neighbour table, learning and aging (R318-R321, R328, R331-R336): what a record, a drop and a removal leave, then what each meaning
and each event comes to.
-/
namespace Sys2Proof.Proofs
open Machine Safety Laws

/-! An entry deleted reads as the default; every other entry reads as before. -/

theorem tget_eq_tfind {α : Type} (d : α) (t : Tbl α) (i : Nat) : tget d t i = (tfind t i).getD d := by
  induction t with
  | nil => rfl
  | cons e t ih =>
    simp only [tget, tfind, ih]
    split <;> rfl

theorem tget_tdel {α : Type} (d : α) (t : Tbl α) (i j : Nat) : tget d (tdel t i) j = if i = j then d else tget d t j := by
  rw [tget_eq_tfind, tfind_tdel, tget_eq_tfind]
  split <;> rfl

/-! TBL_NEIGHBOUR_SET (R318-R321). -/

/-- The ranges of a TBL_NEIGHBOUR_SET that sets an entry. -/
def nbrSetOk (p : TblNeighbourSetP) : Prop := p.op = 0 ∧ p.flags < 64 ∧ p.keySlot ≤ 0xFFF

/-- The entry may be set: it is free or may be replaced, and no other holds its addresses (R320). -/
def nbrMine (n : Nat) (p : TblNeighbourSetP) (s : State) : Prop :=
  nbrSetOk p ∧ ((nbrOf s n).valid = true → p.flags.testBit 4 = true) ∧ nbrTaken s n p.eui64 p.short p.panId = false

/-- The entry before the host's fields: its window starts afresh where the entry is new or takes another slot (R320). -/
def nbrWindow (p : TblNeighbourSetP) (gen : Nat) (e : NbrE) : NbrE :=
  if !e.valid then startWindow gen p.rxHStart {} else if e.keySlot ≠ p.keySlot then startWindow gen p.rxHStart e else e

/-- The entry that TBL_NEIGHBOUR_SET writes. -/
def nbrSet (p : TblNeighbourSetP) (gen : Nat) (e : NbrE) : NbrE :=
  nbrHost p (if p.flags.testBit 5 then resetLink (nbrWindow p gen e) else nbrWindow p gen e)

/-- The tables with a neighbour entry put. -/
def putNbr (n : Nat) (e : NbrE) (t : TblSt) : TblSt := { t with nbrs := tput t.nbrs n e }

section
variable (p : TblNeighbourSetP) (gen : Nat) (e : NbrE)

theorem nbrWindow_starts (he : e.valid = false ∨ e.keySlot ≠ p.keySlot) :
    (nbrWindow p gen e).keyGen = gen ∧ (nbrWindow p gen e).rxH = p.rxHStart ∧ (nbrWindow p gen e).rxMap = 0 := by
  unfold nbrWindow
  split
  · exact ⟨rfl, rfl, rfl⟩
  next hv =>
    rw [if_pos (he.resolve_left (by simpa using hv))]
    exact ⟨rfl, rfl, rfl⟩

theorem nbrWindow_stays (hv : e.valid = true) (hk : e.keySlot = p.keySlot) : nbrWindow p gen e = e := by
  simp [nbrWindow, hv, hk]

/-- Neither the host's fields nor a reset of the link reach the window. -/
theorem nbrSet_window : (nbrSet p gen e).keyGen = (nbrWindow p gen e).keyGen ∧ (nbrSet p gen e).rxH = (nbrWindow p gen e).rxH ∧
    (nbrSet p gen e).rxMap = (nbrWindow p gen e).rxMap := by
  unfold nbrSet
  split <;> exact ⟨rfl, rfl, rfl⟩

theorem nbrSet_resets (h5 : p.flags.testBit 5 = true) :
    (nbrSet p gen e).upMap = [] ∧ (nbrSet p gen e).downMap = [] ∧ (nbrSet p gen e).be = 0 ∧ (nbrSet p gen e).backoff = 0 := by
  rw [nbrSet, if_pos h5]
  exact ⟨rfl, rfl, rfl, rfl⟩

end

section
variable {h : Hdr} {p : TblNeighbourSetP} {s : State}

theorem tblNeighbourSet_bad (hp : 1 < p.op ∨ 64 ≤ p.flags ∨ 0xFFF < p.keySlot) : tblNeighbourSet h p s = refuse s stBadParam :=
  if_pos (by simpa [or_assoc] using hp)

/-- In its ranges, an entry to be set: the first check that fails refuses it. -/
theorem tblNeighbourSet_ok (hp : nbrSetOk p) : tblNeighbourSet h p s =
    if (nbrOf s (h.flow - 0x8000)).valid && !bit p.flags 4 then refuse s stDuplicate
    else if nbrTaken s (h.flow - 0x8000) p.eui64 p.short p.panId then refuse s stDuplicate
    else if (slotOf s p.keySlot).state = 0 || (slotOf s p.keySlot).state = 4 then refuse s stKeyGone
    else if bit p.flags 1 && !pinRoom s (h.flow - 0x8000) then refuse s stNoRoom
    else done (withTbl (putNbr (h.flow - 0x8000) (nbrSet p (slotOf s p.keySlot).gen (nbrOf s (h.flow - 0x8000)))) s)
      (le 4 (nbrOf s (h.flow - 0x8000)).rxH ++ le 2 (nbrOf s (h.flow - 0x8000)).keyGen) := by
  obtain ⟨ho, hf, hk⟩ := hp
  exact (if_neg (by simp [ho, hf, hk])).trans (if_neg (by omega))

theorem tblNeighbourSet_present (hp : nbrSetOk p) (hv : (nbrOf s (h.flow - 0x8000)).valid = true) (h4 : p.flags.testBit 4 = false) :
    tblNeighbourSet h p s = refuse s stDuplicate := by
  rw [tblNeighbourSet_ok hp, if_pos (by simp [hv, bit, h4])]

theorem tblNeighbourSet_taken (hp : nbrSetOk p) (ht : nbrTaken s (h.flow - 0x8000) p.eui64 p.short p.panId = true) :
    tblNeighbourSet h p s = refuse s stDuplicate := by
  rw [tblNeighbourSet_ok hp, if_pos ht, ite_self]

/-- An entry that may be set: by its key slot and the room for pins. -/
theorem tblNeighbourSet_mine (hm : nbrMine (h.flow - 0x8000) p s) : tblNeighbourSet h p s =
    if (slotOf s p.keySlot).state = 0 || (slotOf s p.keySlot).state = 4 then refuse s stKeyGone
    else if bit p.flags 1 && !pinRoom s (h.flow - 0x8000) then refuse s stNoRoom
    else done (withTbl (putNbr (h.flow - 0x8000) (nbrSet p (slotOf s p.keySlot).gen (nbrOf s (h.flow - 0x8000)))) s)
      (le 4 (nbrOf s (h.flow - 0x8000)).rxH ++ le 2 (nbrOf s (h.flow - 0x8000)).keyGen) := by
  obtain ⟨hp, hv, ht⟩ := hm
  rw [tblNeighbourSet_ok hp, if_neg (by simpa [bit] using hv), if_neg (by simp [ht])]

theorem tblNeighbourSet_keyGone (hm : nbrMine (h.flow - 0x8000) p s) (hk : (slotOf s p.keySlot).state = 0 ∨ (slotOf s p.keySlot).state = 4) :
    tblNeighbourSet h p s = refuse s stKeyGone := by
  rw [tblNeighbourSet_mine hm, if_pos (by simpa using hk)]

theorem tblNeighbourSet_noPin (hm : nbrMine (h.flow - 0x8000) p s) (h0 : (slotOf s p.keySlot).state ≠ 0) (h4 : (slotOf s p.keySlot).state ≠ 4)
    (h1 : p.flags.testBit 1 = true) (hr : pinRoom s (h.flow - 0x8000) = false) : tblNeighbourSet h p s = refuse s stNoRoom := by
  rw [tblNeighbourSet_mine hm, if_neg (by simp [h0, h4]), if_pos (by simp [bit, h1, hr])]

theorem tblNeighbourSet_sets (hm : nbrMine (h.flow - 0x8000) p s) (h0 : (slotOf s p.keySlot).state ≠ 0) (h4 : (slotOf s p.keySlot).state ≠ 4)
    (h1 : p.flags.testBit 1 = false ∨ pinRoom s (h.flow - 0x8000) = true) : tblNeighbourSet h p s =
    done (withTbl (putNbr (h.flow - 0x8000) (nbrSet p (slotOf s p.keySlot).gen (nbrOf s (h.flow - 0x8000)))) s)
      (le 4 (nbrOf s (h.flow - 0x8000)).rxH ++ le 2 (nbrOf s (h.flow - 0x8000)).keyGen) := by
  rw [tblNeighbourSet_mine hm, if_neg (by simp [h0, h4]), if_neg]
  rcases h1 with h1 | h1 <;> simp [bit, h1]

/-- TBL_NEIGHBOUR_SET answered, with the entry put. -/
def nbrAnswered (h : Hdr) (p : TblNeighbourSetP) (x : NbrE) (s : State) : State := { s with
  hif := answered h (.tblNeighbourSet p) stOk 0 (le 4 (nbrOf s (h.flow - 0x8000)).rxH ++ le 2 (nbrOf s (h.flow - 0x8000)).keyGen) s,
  tbl := putNbr (h.flow - 0x8000) x s.tbl }

theorem nbrOf_nbrAnswered (x : NbrE) : nbrOf (nbrAnswered h p x s) (h.flow - 0x8000) = x := tget_tput_same ..

theorem exec_tblNeighbourSet_sets (hr : Ready h (.tblNeighbourSet p) s) (hm : nbrMine (h.flow - 0x8000) p s)
    (h0 : (slotOf s p.keySlot).state ≠ 0) (h4 : (slotOf s p.keySlot).state ≠ 4)
    (h1 : p.flags.testBit 1 = false ∨ pinRoom s (h.flow - 0x8000) = true) :
    exec (.tblNeighbourSet h p) s = .next (nbrAnswered h p (nbrSet p (slotOf s p.keySlot).gen (nbrOf s (h.flow - 0x8000))) s) :=
  agentRun_putsTbl hr (tblNeighbourSet_sets hm h0 h4 h1)

end

/-! A neighbour entry that leaves (R320, R321). -/

/-- What dropping frames can do: it reaches neither the tables nor HIF nor the time. -/
structure KeepsTables (s t : State) : Prop where
  tbl : t.tbl = s.tbl
  hif : t.hif = s.hif
  time : t.time = s.time

theorem KeepsTables.refl (s : State) : KeepsTables s s := ⟨rfl, rfl, rfl⟩

theorem KeepsTables.trans {s t u : State} (h : KeepsTables s t) (k : KeepsTables t u) : KeepsTables s u :=
  ⟨k.tbl.trans h.tbl, k.hif.trans h.hif, k.time.trans h.time⟩

theorem Sends.keepsTables {s t : State} (h : Sends s t) : KeepsTables s t := by
  obtain ⟨_, _, _, _, _, _, rfl⟩ := h.blocks
  exact ⟨rfl, rfl, rfl⟩

@[simp] theorem raise_tbl (n : Nat) (s : State) : (raise n s).tbl = s.tbl := by rw [raise_only]

theorem keepsTables_dropFrames (q : QFrame → Bool) (s : State) : KeepsTables s (dropFrames q s) := by
  refine List.foldlRecOn (motive := KeepsTables s) _ _ (.refl s) fun t ht x _ => ht.trans ?_
  have hl := (sends_leaveQueue x.1 x.2 false t).keepsTables
  exact ⟨(raise_tbl ..).trans hl.tbl, (raise_hif ..).trans hl.hif, (raise_time ..).trans hl.time⟩

theorem invalidateNbr_hif_time (n : Nat) (s : State) : (invalidateNbr n s).hif = s.hif ∧ (invalidateNbr n s).time = s.time := by
  unfold invalidateNbr
  split
  · exact ⟨rfl, rfl⟩
  · have hk := keepsTables_dropFrames (fun f => f.neighbour = n) (withTbl (fun t => { t with
      nbrs := tdel t.nbrs n, nbrCache := tput t.nbrCache (n % 2048) ((tget [] t.nbrCache (n % 2048)).filter (· ≠ n)) }) s)
    exact ⟨hk.hif, hk.time⟩

/-- An entry made invalid is empty; no other entry changes. -/
theorem nbrOf_invalidateNbr (n m : Nat) (s : State) :
    nbrOf (invalidateNbr n s) m = if n = m ∧ (nbrOf s n).valid = true then {} else nbrOf s m := by
  unfold invalidateNbr
  split
  next hv => rw [if_neg (by simpa using fun _ => hv)]
  next hv =>
    have hv : (nbrOf s n).valid = true := by simpa using hv
    rw [nbrOf, (keepsTables_dropFrames ..).tbl, withTbl_tbl, tget_tdel]
    simp only [hv, and_true]
    rfl

section
variable {h : Hdr} {p : TblNeighbourSetP} {s : State}

theorem tblNeighbourSet_removes (ho : p.op = 1) (hf : p.flags < 64) (hk : p.keySlot ≤ 0xFFF) : tblNeighbourSet h p s =
    done (invalidateNbr (h.flow - 0x8000) s) (le 4 (nbrOf s (h.flow - 0x8000)).rxH ++ le 2 (nbrOf s (h.flow - 0x8000)).keyGen) :=
  (if_neg (by simp [ho, hf, hk])).trans (if_pos ho)

theorem exec_tblNeighbourSet_removes (hr : Ready h (.tblNeighbourSet p) s) (ho : p.op = 1) (hf : p.flags < 64) (hk : p.keySlot ≤ 0xFFF) :
    ∃ t, exec (.tblNeighbourSet h p) s = .next t ∧
      ((nbrOf s (h.flow - 0x8000)).valid = true → nbrOf t (h.flow - 0x8000) = {}) ∧ ∀ m, m ≠ h.flow - 0x8000 → nbrOf t m = nbrOf s m := by
  obtain ⟨hhif, htime⟩ := invalidateNbr_hif_time (h.flow - 0x8000) (inFlightWith h (.tblNeighbourSet p) s)
  have hn (m : Nat) := nbrOf_invalidateNbr (h.flow - 0x8000) m (inFlightWith h (.tblNeighbourSet p) s)
  exact ⟨_, agentRun_answers hr _ (tblNeighbourSet_removes ho hf hk) hhif (congrArg (·.c) htime) rfl rfl,
    fun hv => (hn _).trans (if_pos ⟨rfl, hv⟩), fun m hm => (hn m).trans (if_neg fun hx => hm hx.1.symm)⟩

end

/-! Learn records (R335, R336). -/

@[simp] theorem tblCnt_evt (i : Nat) (s : State) : (tblCnt i s).evt = s.evt := rfl

@[simp] theorem hostWrite_evt (a : Nat) (bs : List Byte) (s : State) : (hostWrite a bs s).evt = s.evt := rfl

theorem causeAfter_congr (n : Nat) {s t : State} (h : t.evt = s.evt) : causeAfter n t = causeAfter n s := by
  rw [causeAfter, causeAfter, srcCfgOf, srcCfgOf, h]

@[simp] theorem hostWrite_time (a : Nat) (bs : List Byte) (s : State) : (hostWrite a bs s).time = s.time := rfl

@[simp] theorem hostWrite_tbl (a : Nat) (bs : List Byte) (s : State) : (hostWrite a bs s).tbl = s.tbl := rfl

theorem tblCnt_counted (i : Nat) (s : State) : tget 0 (tblCnt i s).tbl.cnt i = min (tget 0 s.tbl.cnt i + 1) 0xFFFFFFFF :=
  (tget_bump ..).trans (if_pos rfl)

section
variable {kind : Nat} {body : List Byte} {s : State}

theorem putRecord_off (he : s.tbl.learnEnable = false) : putRecord kind body s = s := if_pos (by simp [he])

theorem putRecord_full (he : s.tbl.learnEnable = true) (hf : learnFull s = true) : putRecord kind body s = raise 0xC2 (tblCnt 9 s) :=
  (if_neg (by simp [he])).trans (if_pos hf)

/-- The learn ring one record on; PHASE turns where it wraps. -/
def learnAdvance (t : TblSt) : TblSt := { t with
  learnTail := if t.learnTail + 1 = 2 ^ t.learnLog2 then 0 else t.learnTail + 1,
  learnPhase := if t.learnTail + 1 = 2 ^ t.learnLog2 then !t.learnPhase else t.learnPhase }

theorem putRecord_room (he : s.tbl.learnEnable = true) (hf : learnFull s = false) : putRecord kind body s =
    raise 0xC1 (tblCnt 7 (withTbl learnAdvance (hostWrite (s.tbl.learnBase + 64 * s.tbl.learnTail)
      (le 1 (kind + 128 * b2n s.tbl.learnPhase) ++ fit 63 body) s))) :=
  (if_neg (by simp [he])).trans (if_neg (by simp [hf]))

/-- A record written is counted, and its event raised (R336). -/
theorem putRecord_written (he : s.tbl.learnEnable = true) (hf : learnFull s = false) :
    tget 0 (putRecord kind body s).tbl.cnt 7 = min (tget 0 s.tbl.cnt 7 + 1) 0xFFFFFFFF ∧
      (putRecord kind body s).evt.cause = causeAfter 0xC1 s := by
  rw [putRecord_room he hf, raise_tbl, raise_causeAfter, tblCnt_counted]
  exact ⟨by simp [learnAdvance], causeAfter_congr 0xC1 (by simp)⟩

/-- A record that a full ring drops is counted, and its event raised (R336). -/
theorem putRecord_dropped (he : s.tbl.learnEnable = true) (hf : learnFull s = true) : (putRecord kind body s).hostMem = s.hostMem ∧
    tget 0 (putRecord kind body s).tbl.cnt 9 = min (tget 0 s.tbl.cnt 9 + 1) 0xFFFFFFFF ∧
      (putRecord kind body s).evt.cause = causeAfter 0xC2 s := by
  rw [putRecord_full he hf, raise_hostMem, raise_tbl, raise_causeAfter, tblCnt_counted]
  exact ⟨rfl, rfl, causeAfter_congr 0xC2 (tblCnt_evt ..)⟩

end

/-- What a learn record can do to the tables: it reaches neither nodes nor locks nor the time, and of the counters only those of records
(R337). -/
structure WritesRecord (s t : State) : Prop where
  nodes : t.tbl.nodes = s.tbl.nodes
  locks : t.tbl.locks = s.tbl.locks
  holdoffMs : t.tbl.holdoffMs = s.tbl.holdoffMs
  time : t.time = s.time
  cnt : ∀ i, i ≠ 7 → i ≠ 9 → tget 0 t.tbl.cnt i = tget 0 s.tbl.cnt i

theorem WritesRecord.raise {s t : State} (h : WritesRecord s t) (n : Nat) : WritesRecord s (raise n t) := by
  obtain ⟨hn, hl, hh, ht, hc⟩ := h
  constructor <;> simpa only [raise_tbl, raise_time]

theorem WritesRecord.count {s t : State} (h : WritesRecord s t) {k : Nat} (hk : k = 7 ∨ k = 9) : WritesRecord s (tblCnt k t) :=
  ⟨h.nodes, h.locks, h.holdoffMs, h.time, fun i h7 h9 => ((tget_bump ..).trans (if_neg (by omega))).trans (h.cnt i h7 h9)⟩

theorem WritesRecord.refl (s : State) : WritesRecord s s := ⟨rfl, rfl, rfl, rfl, fun _ _ _ => rfl⟩

theorem writesRecord_advance (a : Nat) (bs : List Byte) (s : State) : WritesRecord s (withTbl learnAdvance (hostWrite a bs s)) := by
  constructor <;> simp [learnAdvance]

theorem writesRecord_putRecord (kind : Nat) (body : List Byte) (s : State) : WritesRecord s (putRecord kind body s) := by
  cases he : s.tbl.learnEnable with
  | false =>
    rw [putRecord_off he]
    exact .refl s
  | true =>
    cases hf : learnFull s with
    | true =>
      rw [putRecord_full he hf]
      exact ((WritesRecord.refl s).count (.inr rfl)).raise 0xC2
    | false =>
      rw [putRecord_room he hf]
      exact ((writesRecord_advance ..).count (.inl rfl)).raise 0xC1

/-! Learn locks (R334). -/

/-- The lock of a key whose window has ended, in its holdoff. -/
def heldOff (kind panId addr now : Nat) (t : TblSt) : TblSt := { t with
  locks := t.locks.map (fun x => if isLock kind panId addr x then { x with holdoff := true, dueNs := now + t.holdoffMs * 1000000 } else x) }

section
variable {kind panId addr : Nat} {s : State}

theorem learnWindow_idle (hl : ∀ l ∈ s.tbl.locks, isLock kind panId addr l = true → l.holdoff = true ∨ rawNs s < l.dueNs) :
    learnWindow kind panId addr s = s := by
  unfold learnWindow
  split
  · rfl
  next l hf => exact if_pos (by simpa using hl l (List.mem_of_find?_eq_some hf) (List.find?_some hf))

theorem learnWindow_due {l : LearnLock} (hl : s.tbl.locks.find? (isLock kind panId addr) = some l) (hh : l.holdoff = false)
    (hd : l.dueNs ≤ rawNs s) : learnWindow kind panId addr s =
      withTbl (heldOff kind panId addr (rawNs (learnRecord l false s))) (learnRecord l false s) := by
  simp only [learnWindow, hl]
  exact if_neg (by simpa [hh] using hd)

theorem exec_learnWindowExpiry_due {l : LearnLock} (hl : s.tbl.locks = [l]) (hk : isLock kind panId addr l = true) (hh : l.holdoff = false)
    (hd : l.dueNs ≤ 2 * s.time.c) : ∃ t, exec (.learnWindowExpiry kind panId addr) s = .next t ∧
      t.tbl.locks = [{ l with holdoff := true, dueNs := 2 * s.time.c + s.tbl.holdoffMs * 1000000 }] ∧
      (s.tbl.learnEnable = true → learnFull s = false → tget 0 t.tbl.cnt 7 = min (tget 0 s.tbl.cnt 7 + 1) 0xFFFFFFFF ∧
        t.evt.cause = causeAfter 0xC1 s) ∧
      (s.tbl.learnEnable = true → learnFull s = true → t.hostMem = s.hostMem ∧ tget 0 t.tbl.cnt 9 = min (tget 0 s.tbl.cnt 9 + 1) 0xFFFFFFFF ∧
        t.evt.cause = causeAfter 0xC2 s) := by
  have hdue := learnWindow_due (kind := kind) (panId := panId) (addr := addr) (by simp [hl, hk]) hh hd
  refine ⟨_, congrArg Host.Outcome.next hdue, ?_, fun he hf => putRecord_written he hf, fun he hf => putRecord_dropped he hf⟩
  have hw : WritesRecord s (learnRecord l false s) := writesRecord_putRecord ..
  simp [heldOff, rawNs, hw.locks, hw.holdoffMs, hw.time, hl, hk]

end

/-! LEARN_HEAD_WRITE (R337). -/

section
variable {v : Nat} {s : State}

theorem learnHeadWrite_inRange (hz : pfFrozen s 0 = false) (hv : v % 65536 < 2 ^ s.tbl.learnLog2) :
    learnHeadWrite v s = withTbl (fun t => { t with learnHead := v % 65536 }) s := if_neg (by simpa [hz] using hv)

theorem learnHeadWrite_ignored (hv : 2 ^ s.tbl.learnLog2 ≤ v % 65536) : learnHeadWrite v s = s := if_pos (by simp [hv])

end

/-! AGING_SWEEP_VISIT and TBL_PARITY_REPAIR of a node (R328, R331, R332). -/

/-- A node that leaves: its position is free, and of the counters only those of records may change. -/
theorem removeNode_leaves (record pos : Nat) (e : NodeE) (s : State) : tfind (removeNode record pos e s).tbl.nodes pos = none ∧
    ∀ i, i ≠ 7 → i ≠ 9 → tget 0 (removeNode record pos e s).tbl.cnt i = tget 0 s.tbl.cnt i := by
  unfold removeNode
  extract_lets freed noted
  have hn : noted.tbl = { s.tbl with nodes := tdel s.tbl.nodes pos } := (sends_noteDelta _ freed).keepsTables.tbl
  have hw : WritesRecord noted (goneRecord record 0 e.kind e.panId e.addr pos noted) := writesRecord_putRecord ..
  refine ⟨?_, fun i h7 h9 => (hw.cnt i h7 h9).trans (congrArg (tget 0 ·.cnt i) hn)⟩
  rw [hw.nodes, hn, tfind_tdel, if_pos rfl]

section
variable {i : Nat} {e : NodeE} {hit : Bool} {s : State}

/-- A visit to a node that ages, by its HIT and MARK bits (R331, R332). -/
theorem agingVisit_node (hf : tfind s.tbl.nodes i = some e) : agingVisit 0 i hit s =
    if s.tbl.ageNode = 0 || e.static then s
    else if e.hit then withNode i (fun e => { e with hit := false, mark := false }) s
    else if !e.mark then withNode i (fun e => { e with mark := true }) s
    else if hit then tblCnt 11 (nodeHit i s)
    else removeNode 2 i e (tblCnt 10 s) := by
  simp only [agingVisit, if_true, hf]

theorem agingVisit_exempt (hf : tfind s.tbl.nodes i = some e) (hx : s.tbl.ageNode = 0 ∨ e.static = true) : agingVisit 0 i hit s = s := by
  rw [agingVisit_node hf, if_pos (by simpa using hx)]

theorem agingVisit_ages (hf : tfind s.tbl.nodes i = some e) (ha : s.tbl.ageNode ≠ 0) (hs : e.static = false) :
    (e.hit = true → tfind (agingVisit 0 i hit s).tbl.nodes i = some { e with hit := false, mark := false }) ∧
    (e.hit = false → e.mark = false → tfind (agingVisit 0 i hit s).tbl.nodes i = some { e with mark := true }) ∧
    (e.hit = false → e.mark = true → hit = true → tfind (agingVisit 0 i hit s).tbl.nodes i = some { e with hit := true }) ∧
    (e.hit = false → e.mark = true → hit = false → tfind (agingVisit 0 i hit s).tbl.nodes i = none ∧
      tget 0 (agingVisit 0 i hit s).tbl.cnt 10 = min (tget 0 s.tbl.cnt 10 + 1) 0xFFFFFFFF) := by
  rw [agingVisit_node hf, if_neg (by simp [ha, hs])]
  refine ⟨fun hh => ?_, fun hh hm => ?_, fun hh hm hn => ?_, fun hh hm hn => ?_⟩
  · rw [if_pos hh, tfind_withNode, hf, Option.map_some]
  · rw [if_neg (by simp [hh]), if_pos (by simp [hm]), tfind_withNode, hf, Option.map_some]
  · rw [if_neg (by simp [hh]), if_neg (by simp [hm]), if_pos hn]
    exact (tfind_withNode i (fun e => { e with hit := true }) s).trans (congrArg _ hf)
  · rw [if_neg (by simp [hh]), if_neg (by simp [hm]), if_neg (by simp [hn])]
    obtain ⟨hgone, hcnt⟩ := removeNode_leaves 2 i e (tblCnt 10 s)
    exact ⟨hgone, (hcnt 10 (by decide) (by decide)).trans (tblCnt_counted ..)⟩

theorem parityRepair_node (hf : tfind s.tbl.nodes i = some e) : tfind (parityRepair 0 i s).tbl.nodes i = none ∧
    (e.bad = true → tget 0 (parityRepair 0 i s).tbl.cnt 6 = tget 0 s.tbl.cnt 6) ∧
    (e.bad = false → tget 0 (parityRepair 0 i s).tbl.cnt 6 = min (tget 0 s.tbl.cnt 6 + 1) 0xFFFFFFFF) := by
  have hr : parityRepair 0 i s = removeNode 4 i e (if e.bad then s else parityMiss s) := by simp only [parityRepair, if_true, hf]
  obtain ⟨hgone, hcnt⟩ := removeNode_leaves 4 i e (if e.bad then s else parityMiss s)
  rw [hr, hcnt 6 (by decide) (by decide)]
  refine ⟨hgone, fun hb => by rw [if_pos hb], fun hb => ?_⟩
  rw [if_neg (by simp [hb]), parityMiss, raise_tbl, tblCnt_counted]

end

/-! AIR_RECORD_PROCESS (R23, R258). -/

section
variable {p id : Nat} {f : AirFrame} {r : AirRec} {s : State}

theorem airRecordProcess_none (hn : s.lane.fabric.find? (fun x => decide (x.1 = p)) = none) : airRecordProcess p f s = s := by
  simp only [airRecordProcess, hn]

theorem airRecordProcess_ack (hf : s.lane.fabric.find? (fun x => decide (x.1 = p)) = some (p, id, r)) (ha : f.isAck = true) :
    airRecordProcess p f s = discard id (withSlot (fun b => { b with acks := b.acks.filter (fun j => decide (j.buffer ≠ r.buffer)) })
      (withLane (fun b => { b with fabric := b.fabric.eraseP (fun x => decide (x.1 = p)) }) s)) := by
  simp only [airRecordProcess, hf, ha, if_true]

end

/-- Settles O50: TBL_NEIGHBOUR_SET is Ready, so its reply is what its meaning comes to; a clause on an event chooses the branch of its row. -/
theorem neighboursLearningAging : Obligations.NeighboursLearningAging := by
  unfold Obligations.NeighboursLearningAging
  intro h s
  refine ⟨fun p hr => ⟨fun hp => agentRun_refuses hr (tblNeighbourSet_bad hp),
      fun hp hv h4 => agentRun_refuses hr (tblNeighbourSet_present hp hv h4),
      fun hp ht => agentRun_refuses hr (tblNeighbourSet_taken hp ht), fun hm hk => agentRun_refuses hr (tblNeighbourSet_keyGone hm hk),
      fun hm h0 h4 h1 hn => agentRun_refuses hr (tblNeighbourSet_noPin hm h0 h4 h1 hn), ?sets⟩,
    fun p => exec_tblNeighbourSet_removes, fun kind pan addr hl => congrArg Host.Outcome.next (learnWindow_idle hl),
    fun kind pan addr l => exec_learnWindowExpiry_due, fun _ _ _ => rfl,
    fun v hz => ⟨fun hv => congrArg Host.Outcome.next (learnHeadWrite_inRange hz hv),
      fun hv => congrArg Host.Outcome.next (learnHeadWrite_ignored hv)⟩,
    fun i e hit hf => ⟨fun hx => congrArg Host.Outcome.next (agingVisit_exempt hf hx), fun ha hs => ⟨_, rfl, agingVisit_ages hf ha hs⟩⟩,
    fun i e hf => ⟨_, rfl, parityRepair_node hf⟩, fun p f hn => congrArg Host.Outcome.next (airRecordProcess_none hn),
    fun p f id r hf ha => congrArg Host.Outcome.next (airRecordProcess_ack hf ha)⟩
  case sets =>
    intro hm h0 h4 h1
    have hx := nbrOf_nbrAnswered (h := h) (p := p) (s := s) (nbrSet p (slotOf s p.keySlot).gen (nbrOf s (h.flow - 0x8000)))
    obtain ⟨hgen, hrx, hmap⟩ := nbrSet_window p (slotOf s p.keySlot).gen (nbrOf s (h.flow - 0x8000))
    refine ⟨_, exec_tblNeighbourSet_sets hr hm h0 h4 h1, congrArg (nbrAnswered h p · s) hx.symm, ?_⟩
    dsimp only
    rw [hx, hgen, hrx, hmap]
    refine ⟨rfl, rfl, rfl, rfl, rfl, rfl, rfl, rfl, rfl, nbrWindow_starts _ _ _, fun hv hk => ?_, nbrSet_resets _ _ _⟩
    rw [nbrWindow_stays _ _ _ hv hk]
    exact ⟨rfl, rfl, rfl⟩

end Sys2Proof.Proofs
end

section
/-!
PROOFS. The register values after reset that the summary gives in brackets (R564): a register is found by its offset, which no other register of
its block has.
-/
namespace Sys2Proof.Proofs
open Machine Safety Laws

/-- A register that is no RC counter reads the one value that its block lists at its offset. -/
theorem regRead_of_listed {s : State} {a b v : Nat} (hb : a / 0x10000 = b) (h : (a, v) ∈ roRegs b s)
    (hu : ∀ x ∈ roRegs b s, x.1 = a → x.2 = v) : regRead s a = v := by
  obtain ⟨x, hx⟩ : ∃ x, (roRegs b s).find? (·.1 = a) = some x := by
    rw [← Option.isSome_iff_exists, List.find?_isSome]
    exact ⟨_, h, by simp⟩
  have hv := hu x (List.mem_of_find?_eq_some hx) (by simpa using List.find?_some hx)
  simp [regRead, blockRegs, hb, List.find?_append, hx, hv]

theorem mem_regRow {base step n : Nat} {f : Nat → Nat} {x : Nat × Nat} :
    x ∈ regRow base step n f ↔ ∃ i < n, x = (base + step * i, f i) := by
  simp [regRow, eq_comm]

/-! HIF: the queue pairs and the data rings (R99, R501). -/

theorem mem_hifRegs {s : State} {x : Nat × Nat} : x ∈ roRegs 2 s ↔
    ((∃ i < 128, x = (0x20000 + 4 * i, 0)) ∨ (∃ i < 64, x = (0x20200 + 4 * i, 0))) ∨ (∃ n < 64, x ∈ qpRegs s n) ∨
      ∃ r < 32, x ∈ ringRegs (0x22000 + 0x20 * r) (thOf s r) ∨ x ∈ ringRegs (0x22400 + 0x20 * r) (fhOf s r) := by
  simp only [roRegs, hifRegs, List.mem_append, List.mem_flatMap, mem_regRow, List.mem_range, thOf, fhOf, or_assoc]

theorem regRead_qpCtrl {q : Nat} (hq : q < 64) (s : State) : regRead s (0x21010 + 0x40 * q) = qpCtrlWord (qpOf s q) := by
  refine regRead_of_listed (b := 2) (by omega) (mem_hifRegs.mpr (.inr (.inl ⟨q, hq, mem_regRow.mpr ⟨4, by decide, ?_⟩⟩))) fun x hx ha => ?_
  · exact Prod.ext (by dsimp only; omega) rfl
  · rw [mem_hifRegs] at hx
    simp only [qpRegs, ringRegs, mem_regRow] at hx
    obtain (⟨i, hi, rfl⟩ | ⟨i, hi, rfl⟩) | ⟨n, hn, i, hi, rfl⟩ | ⟨r, hr, ⟨i, hi, rfl⟩ | ⟨i, hi, rfl⟩⟩ := hx <;> dsimp only at ha ⊢
    · omega
    · omega
    · obtain ⟨rfl, rfl⟩ : n = q ∧ i = 4 := by omega
      rfl
    · omega
    · omega

/-- RING_CFG of a data ring. -/
def ringCfgWord (r : DataRing) : Nat := b2n r.enable + 2 * r.log2 + 256 * r.coalCount + 65536 * r.coalTime

theorem regRead_thCfg {r : Nat} (hr : r < 32) (s : State) : regRead s (0x22008 + 0x20 * r) = ringCfgWord (thOf s r) := by
  refine regRead_of_listed (b := 2) (by omega) (mem_hifRegs.mpr (.inr (.inr ⟨r, hr, .inl (mem_regRow.mpr ⟨2, by decide, ?_⟩)⟩))) fun x hx ha => ?_
  · exact Prod.ext (by dsimp only; omega) rfl
  · rw [mem_hifRegs] at hx
    simp only [qpRegs, ringRegs, mem_regRow] at hx
    obtain (⟨i, hi, rfl⟩ | ⟨i, hi, rfl⟩) | ⟨n, hn, i, hi, rfl⟩ | ⟨q, hq, ⟨i, hi, rfl⟩ | ⟨i, hi, rfl⟩⟩ := hx <;> dsimp only at ha ⊢
    · omega
    · omega
    · omega
    · obtain ⟨rfl, rfl⟩ : q = r ∧ i = 2 := by omega
      rfl
    · omega

theorem regRead_fhCfg {r : Nat} (hr : r < 32) (s : State) : regRead s (0x22408 + 0x20 * r) = ringCfgWord (fhOf s r) := by
  refine regRead_of_listed (b := 2) (by omega) (mem_hifRegs.mpr (.inr (.inr ⟨r, hr, .inr (mem_regRow.mpr ⟨2, by decide, ?_⟩)⟩))) fun x hx ha => ?_
  · exact Prod.ext (by dsimp only; omega) rfl
  · rw [mem_hifRegs] at hx
    simp only [qpRegs, ringRegs, mem_regRow] at hx
    obtain (⟨i, hi, rfl⟩ | ⟨i, hi, rfl⟩) | ⟨n, hn, i, hi, rfl⟩ | ⟨q, hq, ⟨i, hi, rfl⟩ | ⟨i, hi, rfl⟩⟩ := hx <;> dsimp only at ha ⊢
    · omega
    · omega
    · omega
    · omega
    · obtain ⟨rfl, rfl⟩ : q = r ∧ i = 2 := by omega
      rfl

/-! EVT and LANE (R131, R212). -/

theorem regRead_srcCfg {n : Nat} (hn : n < 384) (s : State) : regRead s (0x31000 + 4 * n) = Machine.srcCfgWord (srcCfgOf s n) := by
  have hm {x : Nat × Nat} : x ∈ roRegs 3 s ↔ x = (0x30000, summaryWord s) ∨ x ∈ regRow 0x30100 4 12 (causeWord s) ∨
      x ∈ regRow 0x30200 4 8 (tget 0 s.evt.irqSel) ∨ x ∈ regRow 0x31000 4 384 (fun n => Machine.srcCfgWord (srcCfgOf s n)) := by
    simp only [roRegs, evtRegs, List.mem_append, List.mem_singleton, or_assoc]
  refine regRead_of_listed (b := 3) (by omega) (hm.mpr (.inr (.inr (.inr (mem_regRow.mpr ⟨n, hn, rfl⟩))))) fun x hx ha => ?_
  rw [hm] at hx
  simp only [mem_regRow] at hx
  obtain rfl | ⟨i, hi, rfl⟩ | ⟨i, hi, rfl⟩ | ⟨i, hi, rfl⟩ := hx <;> dsimp only at ha ⊢
  · omega
  · omega
  · omega
  · obtain rfl : i = n := by omega
    rfl

theorem mem_laneRegs {s : State} {x : Nat × Nat} : x ∈ roRegs 5 s ↔
    x ∈ regRow 0x50000 4 96 (lmapWord s) ∨ x ∈ regRow 0x50400 4 104 (pstatusWord s) ∨ x = (0x50800, spareWord s) := by
  simp only [roRegs, laneRegs, List.mem_append, List.mem_singleton, or_assoc]

theorem regRead_lmap {n : Nat} (hn : n < 96) (s : State) : regRead s (0x50000 + 4 * n) = lmapWord s n := by
  refine regRead_of_listed (b := 5) (by omega) (mem_laneRegs.mpr (.inl (mem_regRow.mpr ⟨n, hn, rfl⟩))) fun x hx ha => ?_
  rw [mem_laneRegs] at hx
  simp only [mem_regRow] at hx
  obtain ⟨i, hi, rfl⟩ | ⟨i, hi, rfl⟩ | rfl := hx <;> dsimp only at ha ⊢
  · obtain rfl : i = n := by omega
    rfl
  · omega
  · omega

theorem regRead_pstatus {p : Nat} (hp : p < 104) (s : State) : regRead s (0x50400 + 4 * p) = pstatusWord s p := by
  refine regRead_of_listed (b := 5) (by omega) (mem_laneRegs.mpr (.inr (.inl (mem_regRow.mpr ⟨p, hp, rfl⟩)))) fun x hx ha => ?_
  rw [mem_laneRegs] at hx
  simp only [mem_regRow] at hx
  obtain ⟨i, hi, rfl⟩ | ⟨i, hi, rfl⟩ | rfl := hx <;> dsimp only at ha ⊢
  · omega
  · obtain rfl : i = p := by omega
    rfl
  · omega

/-! What these registers show at reset. -/

theorem qpCtrlWord_reset {q : Nat} (hq : q < 64) : qpCtrlWord (qpOf State.reset q) = 0x910 := by
  have h : qpOf State.reset q = {} := if_neg (by omega)
  rw [h]
  rfl

theorem pstatusWord_reset (p : Nat) : pstatusWord State.reset p = if p < 96 then 0x40 * p else 0x10 := by
  have hp : physOf State.reset p = {} := rfl
  have hl : b2n (listens State.reset p) = 0 := by simp [listens, hp, b2n]
  by_cases h : p < 96 <;> simp [pstatusWord, roleOf, logicalOf, hp, hl, h]

theorem srcCfgWord_reset (n : Nat) : Machine.srcCfgWord (srcCfgOf State.reset n) = 0x100 + defaultVector n := by
  have hc : srcCfgOf State.reset n = { vector := defaultVector n } := rfl
  simp only [Machine.srcCfgWord, hc, b2n, Bool.false_eq_true, if_false, if_true]
  omega

/-- Settles O3: a register of a row by its offset, a register on its own by its place in the map. -/
theorem resetRegisterValues : Obligations.ResetRegisterValues := by
  unfold Obligations.ResetRegisterValues
  refine ⟨fun q hq => ?_, fun r hr => ⟨?_, ?_⟩, fun n hn => ?_, by decide +kernel, fun n hn => ?_, fun p hp => ?_, by decide +kernel, by decide +kernel,
    by decide +kernel, by decide +kernel, by decide +kernel, by decide +kernel, by decide +kernel, by decide +kernel, by decide +kernel,
    by decide +kernel, by decide +kernel⟩
  · rw [regRead_qpCtrl hq, qpCtrlWord_reset hq]
  · rw [regRead_thCfg hr]
    rfl
  · rw [regRead_fhCfg hr]
    rfl
  · rw [regRead_srcCfg hn, srcCfgWord_reset]
  · rw [regRead_lmap hn]
    rfl
  · rw [regRead_pstatus hp, pstatusWord_reset]

end Sys2Proof.Proofs
end

section
/-!
PROOFS. Frames at the traffic manager (R342, R351, R352, R356): admission and drops, the choice of a class-0 frame, and the wheel.
-/
namespace Sys2Proof.Proofs
open Machine Safety Laws

/-! What the work after an admission leaves of the queues and of the frames still to come. -/

/-- What identifies a frame in its queue, whatever plan it is bound to. -/
def frameIdentity (f : QFrame) : Nat × List Byte × Nat × Nat := (f.id, f.data, f.cls, f.neighbour)

/-- The frames still to come are as before, and so is every queue, but for the marks on its frames. -/
structure KeepsFrames (s t : State) : Prop where
  arriving : t.tm.arriving = s.tm.arriving
  frames : ∀ q, (queueOf t q).frames.map frameIdentity = (queueOf s q).frames.map frameIdentity

theorem KeepsFrames.refl (s : State) : KeepsFrames s s := ⟨rfl, fun _ => rfl⟩

theorem KeepsFrames.trans {s t u : State} (h : KeepsFrames s t) (k : KeepsFrames t u) : KeepsFrames s u :=
  ⟨k.arriving.trans h.arriving, fun q => (k.frames q).trans (h.frames q)⟩

/-- A change beside the traffic manager. -/
theorem keepsFrames_beside {s t : State} (h : t.tm = s.tm) : KeepsFrames s t := ⟨by rw [h], fun q => by rw [queueOf, queueOf, h]⟩

/-- A change of one queue that leaves its frames what they are. -/
theorem keepsFrames_withQueue (q : Nat) (f : QueueSt → QueueSt) (s : State)
    (hf : ∀ x, (f x).frames.map frameIdentity = x.frames.map frameIdentity) : KeepsFrames s (withQueue q f s) := by
  refine ⟨rfl, fun r => ?_⟩
  rw [queueOf_withQueue]
  split
  · exact hf _
  · rfl

/-- Marks on frames. -/
theorem map_frameIdentity_marked {p : QFrame → Prop} [DecidablePred p] {g : QFrame → QFrame} (l : List QFrame)
    (hg : ∀ f, frameIdentity (g f) = frameIdentity f := by exact fun _ => rfl) :
    (l.map (fun y => if p y then g y else y)).map frameIdentity = l.map frameIdentity := by
  rw [List.map_map]
  refine List.map_congr_left fun f _ => ?_
  simp only [Function.comp_apply]
  split
  · exact hg f
  · rfl

theorem keepsFrames_evalShaper (q : Nat) (s : State) : KeepsFrames s (evalShaper q s) := by
  obtain ⟨l, h, -⟩ := evalShaper_only q s
  rw [h]
  exact ⟨rfl, fun _ => rfl⟩

theorem keepsFrames_chargeShaper (q : Nat) (f : QFrame) (s : State) : KeepsFrames s (chargeShaper q f s) := by
  unfold chargeShaper
  extract_lets k
  split
  · exact .refl s
  · exact ⟨rfl, fun _ => rfl⟩

theorem keepsFrames_bindFrame (q id : Nat) (s : State) : KeepsFrames s (bindFrame q id s) := by
  unfold bindFrame
  split
  · exact .refl s
  · exact ((keepsFrames_chargeShaper ..).trans (keepsFrames_withQueue _ _ _ fun x => map_frameIdentity_marked x.frames)).trans
      (keepsFrames_evalShaper ..)

/-- Class-0 substitution moves a binding from one frame to another (R257). -/
theorem keepsFrames_substitute (q id : Nat) (s : State) : KeepsFrames s (substitute q id s) := by
  unfold substitute
  split
  · exact .refl s
  · split
    · exact .refl s
    · split
      · exact .refl s
      · extract_lets old new bound swapped counted lane laned
        have hb : KeepsFrames s bound := 
          (keepsFrames_withQueue _ _ _ fun x => map_frameIdentity_marked x.frames).trans (keepsFrames_bindFrame ..)
        have hl : laned.tm = bound.tm := by
          simp only [laned]
          repeat' split
          all_goals rfl
        exact hb.trans (keepsFrames_beside hl)

/-! Admission (R342, R351). -/

/-- A frame in its class. -/
def classed (cls : Nat) (x : QFrame) : QFrame := { x with cls := cls, frame := { x.frame with cls := cls } }

/-- The first frame has come to the classifier and is green. -/
def firstTaken (rest : List (Nat × QFrame)) (s : State) : State := tmCnt 1 (withTm (fun b => { b with arriving := rest }) s)

/-- A frame whose profile names no meter comes to the queue of its profile and class, green. -/
theorem tmEnqueue_unmetered {s : State} {prof : Nat} {x : QFrame} {rest : List (Nat × QFrame)} (ha : s.tm.arriving = (prof, x) :: rest)
    (hf : x.frame.unknown = false) (hp : prof < 4096) (hm : bit (tget 0 s.tm.profiles prof) 17 = false) :
    let pr := tget 0 s.tm.profiles prof
    let cls := classOf s pr x.frame
    let n := pr % 4096 + (if bit pr 12 then cls else 0)
    let r := admitFrame n (classed cls x) 0 (firstTaken rest s)
    tmEnqueue s = if r.2 then substitute n x.id r.1 else r.1 := by
  have hd : prof / 4096 = 0 := by omega
  have hr : prof % 4096 = prof := by omega
  have hcl (f) : classOf (withTm (fun b => { b with arriving := rest }) s) (tget 0 s.tm.profiles prof) f =
      classOf s (tget 0 s.tm.profiles prof) f := rfl
  simp [tmEnqueue, ha, classifyAdmit, hf, hd, hr, hm, hcl, classed, firstTaken]

/-- A frame that its queue admits is its last, and beside the traffic manager nothing changes. -/
theorem admitFrame_takes {s : State} {q : Nat} {f : QFrame} (h : admission s q f 0 = 0) :
    ∃ tm, admitFrame q f 0 s = ({ s with tm := tm }, true) ∧ tm.arriving = s.tm.arriving ∧
      (tget {} tm.queues q).frames = (queueOf s q).frames ++ [{ f with arrivedNs := rawNs s }] := by
  unfold admitFrame
  extract_lets why joined counted
  rw [if_neg (not_not.mpr h)]
  have hc : ∃ c, counted = withTm (fun t => { t with cnt := c }) joined := by
    simp only [counted]
    split
    · exact ⟨_, rfl⟩
    · exact ⟨_, rfl⟩
  obtain ⟨c, hc⟩ := hc
  obtain ⟨active, visit, shapers, -, ho⟩ := offerQueue_only q counted
  rw [ho, hc]
  refine ⟨_, rfl, rfl, (resetDeficit_frames q q _).trans ?_⟩
  have hj : (queueOf joined q).frames = (queueOf s q).frames ++ [{ f with arrivedNs := rawNs s }] := by
    rw [queueOf_withQueue, if_pos rfl]
  exact hj

/-- A queue outside port 6 that holds its most frames refuses a green frame (R351). -/
theorem admission_full {s : State} {q : Nat} {f : QFrame} (hr : s.tm.reserve ≤ freeCells s) (hp : (queueOf s q).port ≠ 6)
    (hf : (queueOf s q).maxFrames ≤ (queueOf s q).frames.length) : admission s q f 0 = 7 := by
  simp [admission, Nat.not_lt.mpr hr, hp, hf]

theorem dropEvents_full (q : Nat) (s : State) :
    ∃ e, dropEvents 7 q s = { withQueue q (fun x => { x with lastFullNs := some (rawNs s) }) s with evt := e } := by
  unfold dropEvents
  extract_lets last t
  exact ⟨_, raiseIf_only _ _ t⟩

/-- A frame dropped at a full queue: counted there and in its class of drops, and its cells freed. -/
theorem admitFrame_dropsFull {s : State} {q : Nat} {f : QFrame} (h : admission s q f 0 = 7) :
    ∃ tm e, admitFrame q f 0 s = ({ s with tm := tm, evt := e }, false) ∧ tm.arriving = s.tm.arriving ∧
      (tget {} tm.queues q).frames = (queueOf s q).frames ∧ (tget {} tm.queues q).dropped = satInc (queueOf s q).dropped ∧
      tm.cnt = bump s.tm.cnt 7 ∧ tm.bufs = s.tm.bufs.filter (·.id ≠ f.buf) := by
  set t := tmCnt 7 (withQueue q (fun x => { x with dropped := satInc x.dropped }) s) with ht
  have ha : admitFrame q f 0 s = (freeBuf f.buf (dropEvents 7 q t), false) := by simp [admitFrame, h, ht]
  obtain ⟨e, he⟩ := dropEvents_full q t
  have hq := (queueOf_withQueue q q (fun x => { x with lastFullNs := some (rawNs t) }) t).trans (if_pos rfl)
  have hd := (queueOf_withQueue q q (fun x => { x with dropped := satInc x.dropped }) s).trans (if_pos rfl)
  rw [ha, he]
  exact ⟨_, e, rfl, rfl, (congrArg (·.frames) hq).trans (congrArg (·.frames) hd), (congrArg (·.dropped) hq).trans (congrArg (·.dropped) hd), rfl, rfl⟩

/-! The next frame of a port: class 0 first (R352). -/

theorem evalShapers_only (l : List (Nat × QueueSt)) (s : State) :
    ∃ sh, l.foldl (fun s e => evalShaper e.1 s) s = withTm (fun t => { t with shapers := sh }) s := by
  induction l generalizing s with
  | nil => exact ⟨_, rfl⟩
  | cons e l ih =>
    obtain ⟨sh, h, -⟩ := evalShaper_only e.1 s
    rw [List.foldl_cons, h]
    obtain ⟨sh', h'⟩ := ih (withTm (fun t => { t with shapers := sh }) s)
    exact ⟨sh', h'⟩

/-- The class-0 queue that goes next is one of the port's, and offers its head. -/
theorem mem_of_nextStrict {s : State} {port : Nat} {skip : Nat → Bool} {q : Nat} {f : QFrame} (h : nextStrict s port skip = some (q, f)) :
    ∃ x, (q, x) ∈ s.tm.queues ∧ x.port = port ∧ x.cls = 0 ∧ x.frames.head? = some f := by
  unfold nextStrict at h
  extract_lets c at h
  have hm : (q, f) ∈ c := by
    split at h
    · rcases Option.or_eq_some_iff.mp h with h | ⟨-, h⟩
      · exact List.mem_of_find?_eq_some h
      · exact List.mem_of_head? h
    · exact List.mem_of_head? h
  obtain ⟨⟨n, x⟩, hx, he⟩ := List.mem_filterMap.mp hm
  dsimp only at he
  split at he
  · next hc =>
    simp only [Bool.and_eq_true, decide_eq_true_eq] at hc
    split at he
    · next g hg =>
      split at he
      · simp only [Option.some.injEq, Prod.mk.injEq] at he
        obtain ⟨rfl, rfl⟩ := he
        exact ⟨x, hx, hc.1.1, hc.1.2, hg⟩
      · cases he
    · cases he
  · cases he

/-- Where a class-0 queue without a shaper offers a frame, some class-0 queue goes next. -/
theorem nextStrict_isSome {s : State} {port q : Nat} {x : QueueSt} {f : QFrame} (hm : (q, x) ∈ s.tm.queues) (hq : queueOf s q = x)
    (hp : x.port = port) (hc : x.cls = 0) (hf : x.frames.head? = some f) (hs : x.shaper = 0xFFFF) :
    (nextStrict s port (fun _ => false)).isSome := by
  have he : eligible s q f = true := by simp [eligible, hq, hs]
  unfold nextStrict
  extract_lets c
  have hc : (q, f) ∈ c := List.mem_filterMap.mpr ⟨(q, x), hm, by simp [hp, hc, hf, he]⟩
  have hh : c.head?.isSome := by
    rw [List.isSome_head?]
    exact List.ne_nil_of_mem hc
  split
  · simp [hh]
  · exact hh

theorem nextFrame_strict {s : State} {port q : Nat} {x : QueueSt} {f : QFrame} (hm : (q, x) ∈ s.tm.queues) (hq : queueOf s q = x)
    (hp : x.port = port) (hc : x.cls = 0) (hf : x.frames.head? = some f) (hs : x.shaper = 0xFFFF) :
    ∃ q' x' f', (nextFrame port (fun _ => false) s).2 = some (q', f') ∧ (q', x') ∈ s.tm.queues ∧ x'.port = port ∧ x'.cls = 0 ∧
      x'.frames.head? = some f' := by
  unfold nextFrame
  extract_lets u
  obtain ⟨sh, hu⟩ : ∃ sh, u = withTm (fun t => { t with shapers := sh }) s := evalShapers_only ..
  obtain ⟨⟨q', f'⟩, hn⟩ := Option.isSome_iff_exists.mp (nextStrict_isSome (s := u) (by rw [hu]; exact hm) (by rw [hu]; exact hq) hp hc hf hs)
  obtain ⟨x', hm', hx'⟩ := mem_of_nextStrict hn
  rw [hu] at hm'
  rw [hn]
  exact ⟨q', x', f', rfl, hm', hx'⟩

/-! The wheel (R356). -/

theorem shaperOf_withShaper_same (k : Nat) (f : ShaperSt → ShaperSt) (s : State) : shaperOf (withShaper k f s) k = f (shaperOf s k) := by
  rw [shaperOf, withShaper, withTm_tm, tget_tmod, if_pos rfl, shaperOf]

/-- No shaper stands in a bucket. -/
theorem map_fst_filter_nil {α : Type} {p : Nat × α → Bool} {l : List (Nat × α)} (h : ∀ e ∈ l, p e = false) : (l.filter p).map (·.1) = [] := by
  rw [List.map_eq_nil_iff, List.filter_eq_nil_iff]
  simpa using h

theorem wheelFine_empty {s : State}
    (h : ∀ e ∈ s.tm.shapers, e.2.wheel.isSome = true → e.2.coarse = false → e.2.bucket ≠ (s.tm.finePos + 1) % 4096) :
    wheelFine s = { s with tm := { s.tm with finePos := (s.tm.finePos + 1) % 4096 } } := by
  unfold wheelFine
  extract_lets pos t due ripe now moved
  have hd : due = [] := map_fst_filter_nil fun e he => by
    have := h e he
    cases hw : e.2.wheel.isSome <;> cases hc : e.2.coarse <;> simp_all [pos]
  have hn : ripe = [] := by simp [ripe, hd]
  simp only [moved, now, hn, hd]
  rfl

theorem wheelCoarse_empty {s : State}
    (h : ∀ e ∈ s.tm.shapers, e.2.wheel.isSome = true → e.2.coarse = true → e.2.bucket ≠ (s.tm.coarsePos + 1) % 4096) :
    wheelCoarse s = { s with tm := { s.tm with coarsePos := (s.tm.coarsePos + 1) % 4096 } } := by
  unfold wheelCoarse
  extract_lets pos t due
  have hd : due = [] := map_fst_filter_nil fun e he => by
    have := h e he
    cases hw : e.2.wheel.isSome <;> cases hc : e.2.coarse <;> simp_all [pos]
  simp only [hd]
  rfl

/-- A shaper without queues comes off the wheel: beside the traffic manager only the event of a late release. -/
theorem releaseShaper_unused {k : Nat} {s : State} (h : queuesOfShaper s k = []) :
    ∃ tm e, releaseShaper k s = { s with tm := tm, evt := e } ∧ (tget {} tm.shapers k).wheel = none ∧ tm.finePos = s.tm.finePos := by
  unfold releaseShaper
  extract_lets x te late off counted warned
  have hoff : (shaperOf off k).wheel = none := congrArg (·.wheel) (shaperOf_withShaper_same ..)
  have hq : queuesOfShaper warned k = queuesOfShaper s k := by
    simp only [warned, counted]
    split
    · split
      · rfl
      · rw [raise_only]; rfl
    · rfl
  rw [hq, h, List.foldl_nil]
  simp only [warned, counted]
  split
  · split
    · exact ⟨_, _, rfl, hoff, rfl⟩
    · rw [raise_only]
      exact ⟨_, _, rfl, hoff, rfl⟩
  · exact ⟨_, _, rfl, hoff, rfl⟩

/-- The one shaper, due in the bucket reached, is released. -/
theorem wheelFine_releases {s : State} {k te : Nat} {x : ShaperSt} (hs : s.tm.shapers = [(k, x)]) (hw : x.wheel = some te)
    (hc : x.coarse = false) (hb : x.bucket = (s.tm.finePos + 1) % 4096) (ht : 1000 * te ≤ 2 * s.time.c) :
    wheelFine s = releaseShaper k (withTm (fun t => { t with finePos := (s.tm.finePos + 1) % 4096 }) s) := by
  unfold wheelFine
  extract_lets pos t due ripe now moved
  have hd : due = [k] := by
    simp [due, t, hs, hw, hc, hb, pos]
  have hx : shaperOf t k = x := by simp [shaperOf, t, hs, tget]
  have hn : now = [k] := by
    have : 1000 * te ≤ rawNs t := ht
    simp [now, ripe, hd, hx, hw, this]
  have hm : moved = t := by simp [moved, hd, hn]
  rw [hm, hn]
  rfl

/-- A shaper placed within 4,096 us goes to a fine bucket. -/
theorem placeWheel_near {s : State} {te : Nat} (h : te - rawNs s / 1000 < 4096) (x : ShaperSt) : (placeWheel s te x).coarse = false := by
  simp [placeWheel, h]

/-- The coarse wheel one bucket on. -/
def coarseStepped (s : State) : State := withTm (fun t => { t with coarsePos := (s.tm.coarsePos + 1) % 4096 }) s

theorem wheelCoarse_moves {s : State} {k te : Nat} {x : ShaperSt} (hs : s.tm.shapers = [(k, x)]) (hw : x.wheel = some te)
    (hc : x.coarse = true) (hb : x.bucket = (s.tm.coarsePos + 1) % 4096) :
    wheelCoarse s = withShaper k (fun x => placeWheel (coarseStepped s) (max (x.wheel.getD 0) (rawNs s / 1000 + 1)) x) (coarseStepped s) := by
  unfold wheelCoarse
  extract_lets pos t due
  have hd : due = [k] := by
    simp [due, t, hs, hw, hc, hb, pos]
  rw [hd]
  rfl

/-- Settles O47: the frame that came by the admission of its queue, the choice of a port by its class-0 queues, the wheel by the bucket reached. -/
theorem trafficManagerFlow : Obligations.TrafficManagerFlow := by
  unfold Obligations.TrafficManagerFlow
  intro s
  refine ⟨fun h => ?_, fun prof x rest ha hu hp hm => ?_, fun port q x f hm hq hp hc hf hs => nextFrame_strict hm hq hp hc hf hs,
    ⟨fun h => congrArg _ (wheelFine_empty h), fun k x te hs hw hc hb ht hq => ?_⟩,
    fun h => congrArg _ (wheelCoarse_empty h), fun k x te hs hw hc hb ht => ?_⟩
  · exact congrArg Host.Outcome.next (by rw [tmEnqueue, h])
  · intro pr cls n q hr
    have hx : exec .tmEnqueue s = .next (tmEnqueue s) := rfl
    rw [hx, tmEnqueue_unmetered ha hu hp hm]
    set u := firstTaken rest s with hu
    set y := classed cls x with hy
    refine ⟨fun hb hf hn => ?_, fun hport hf => ?_⟩
    · have hadm : admission u n y 0 = 0 := admission_room (s := u) (q := n) (f := y) hr hn hb hf
      obtain ⟨tm, ht, harr, hfr⟩ := admitFrame_takes hadm
      have hk := keepsFrames_substitute n x.id { u with tm := tm }
      obtain ⟨_, _, _, _, hblocks⟩ := (schedules_substitute n x.id { u with tm := tm }).blocks
      have hq : (queueOf { u with tm := tm } n).frames = q.frames ++ [{ y with arrivedNs := rawNs u }] := hfr
      have hids := hk.frames n
      rw [hq, List.map_append] at hids
      refine ⟨_, congrArg Host.Outcome.next ?_, hk.arriving.trans harr, by simpa using congrArg List.length hids, ?_,
        congrArg (·.hif) hblocks, congrArg (·.sec) hblocks⟩
      · exact (congrArg (fun r : State × Bool => if r.2 then substitute n x.id r.1 else r.1) ht :)
      · have hin : frameIdentity y ∈ (queueOf (substitute n x.id { u with tm := tm }) n).frames.map frameIdentity := by
          rw [hids]
          simp [frameIdentity]
        obtain ⟨z, hz, he⟩ := List.mem_map.mp hin
        simp only [frameIdentity, Prod.mk.injEq] at he
        exact ⟨z, hz, he⟩
    · obtain ⟨tm, e, ht, harr, hfr, hdrop, hcnt, hbufs⟩ := admitFrame_dropsFull (admission_full (s := u) (q := n) (f := y) hr hport hf)
      refine ⟨{ u with tm := tm, evt := e }, congrArg Host.Outcome.next ?_, harr, hfr, hdrop, ?_, hbufs⟩
      · exact (congrArg (fun r : State × Bool => if r.2 then substitute n x.id r.1 else r.1) ht :)
      · show tget 0 tm.cnt 7 = _
        rw [hcnt, tget_bump, if_pos rfl, hu]
        simp [firstTaken, tmCnt, tget_bump]
  · rw [show exec .wheelFineAdvance s = .next (wheelFine s) from rfl, wheelFine_releases hs hw hc hb ht]
    obtain ⟨tm, e, hrel, hoff, hpos⟩ := releaseShaper_unused (k := k)
      (s := withTm (fun t => { t with finePos := (s.tm.finePos + 1) % 4096 }) s) hq
    rw [hrel]
    exact ⟨_, rfl, rfl, hoff, hpos⟩
  · rw [show exec .wheelCoarseAdvance s = .next (wheelCoarse s) from rfl, wheelCoarse_moves hs hw hc hb]
    refine ⟨_, rfl, rfl, ?_, rfl⟩
    rw [shaperOf_withShaper_same]
    refine placeWheel_near ?_ _
    have hx : (shaperOf (coarseStepped s) k).wheel.getD 0 = te := by
      simp [coarseStepped, shaperOf, hs, tget, hw]
    have hr : rawNs (coarseStepped s) = rawNs s := rfl
    have hn : rawNs s = 2 * s.time.c := rfl
    rw [hx, hr, hn]
    omega

end Sys2Proof.Proofs
end

section
/-!
PROOFS. The check-value units (R418-R423, R425): what CRY_CHK_CFG comes to, the context of a unit read back from its 16 bytes, and the registers.
-/
namespace Sys2Proof.Proofs
open Machine Safety Laws

/-! Little-endian numbers. -/

theorem ofLe_append (l m : List Byte) : ofLe (l ++ m) = ofLe l + 256 ^ l.length * ofLe m := by
  induction l with
  | nil => simp [ofLe]
  | cons b l ih =>
    simp only [List.cons_append, ofLe, ih, List.length_cons, pow_succ]
    ring

theorem length_le (k n : Nat) : (le k n).length = k := by simp [le]

/-- The bytes of a number that they hold give it back. -/
theorem ofLe_le (k n : Nat) : ofLe (le k n) = n % 256 ^ k := by
  induction k with
  | zero => simp [le, ofLe, Nat.mod_one]
  | succ k ih =>
    have h : le (k + 1) n = le k n ++ [BitVec.ofNat 8 (n / 2 ^ (8 * k))] := by simp [le, List.range_succ]
    have hp : (2 : Nat) ^ (8 * k) = 256 ^ k := by rw [pow_mul]; norm_num
    rw [h, ofLe_append, ih, length_le, hp, pow_succ, Nat.mod_mul]
    simp [ofLe]

/-! The context of a unit (R425). -/

/-- The context of a unit, byte by byte. -/
theorem chkContext_bytes {x : ChkSt} (hl : x.attached.getD 0 ≤ 95) (hp : x.poly ≤ 2) (hm : x.mode ≤ 1) :
    let b := fun i => (nth 0 (chkContext x) i).toNat
    b 0 = x.poly ∧ b 1 = x.mode + 2 * b2n x.skipAbort + 4 * b2n x.expectEn ∧ b 2 = x.attached.getD 0 ∧ b 3 = 0 := by
  have hs : b2n x.skipAbort ≤ 1 := by cases x.skipAbort <;> decide
  have he : b2n x.expectEn ≤ 1 := by cases x.expectEn <;> decide
  refine ⟨?_, ?_, ?_, ?_⟩ <;> simp [chkContext, le, nth] <;> omega

/-- The flag byte of the context, bit by bit. -/
theorem chkFlags_bits {m : Nat} (hm : m ≤ 1) (a b : Bool) :
    m + 2 * b2n a + 4 * b2n b < 8 ∧ (m + 2 * b2n a + 4 * b2n b) % 2 = m ∧ bit (m + 2 * b2n a + 4 * b2n b) 1 = a ∧ bit (m + 2 * b2n a + 4 * b2n b) 2 = b := by
  interval_cases m <;> revert a b <;> decide

theorem length_chkContext (x : ChkSt) : (chkContext x).length = 16 := by simp [chkContext, length_le]

/-- Four bytes of the context at an offset. -/
theorem chkContext_words {x : ChkSt} (hi : x.init < 2 ^ 32) (he : x.expect < 2 ^ 32) (hv : x.value < 2 ^ 32) :
    ofLe (((chkContext x).drop 4).take 4) = x.init ∧ ofLe (((chkContext x).drop 8).take 4) = x.expect ∧
      ofLe ((chkContext x).drop 12) = x.value := by
  have h1 : ((chkContext x).drop 4).take 4 = le 4 x.init := by simp [chkContext, le]
  have h2 : ((chkContext x).drop 8).take 4 = le 4 x.expect := by simp [chkContext, le]
  have h3 : (chkContext x).drop 12 = le 4 x.value := by simp [chkContext, le, List.range_succ]
  rw [h1, h2, h3, ofLe_le, ofLe_le, ofLe_le]
  omega

/-- A unit with the settings of CRY_CHK_CFG op 0 (R418). -/
def chkAttached (p : CryChkCfgP) (c : ChkSt) : ChkSt := { c with
  attached := some p.lane, poly := p.poly, mode := p.mode, skipAbort := p.skipAbort = 1, expectEn := p.expectEn = 1,
  init := p.init, expect := p.expect, value := crcStart p.poly p.init }

/-- A unit with a saved context restored (R425). -/
def chkRestored (x c : ChkSt) : ChkSt := { c with
  pause := false, paused := false, attached := x.attached, poly := x.poly, mode := x.mode, skipAbort := x.skipAbort, expectEn := x.expectEn,
  init := x.init, expect := x.expect, value := x.value }

/-! CRY_CHK_CFG (R418, R421, R425). -/

theorem cryChkCfg_badOp {h : Hdr} {p : CryChkCfgP} (ho : 3 < p.op) (s : State) : cryChkCfg h p s = refuse s stBadParam := by
  have h0 : p.op ≠ 0 := by omega
  have h1 : p.op ≠ 1 := by omega
  have h2 : p.op ≠ 2 := by omega
  have h3 : p.op ≠ 3 := by omega
  simp [cryChkCfg, h0, h1, h2, h3]

/-- The ranges of op 0. -/
def chkCfgOk (p : CryChkCfgP) : Prop := p.lane ≤ 95 ∧ p.poly ≤ 2 ∧ p.mode ≤ 1 ∧ p.skipAbort ≤ 1 ∧ p.expectEn ≤ 1

theorem cryChkCfg_badRange {h : Hdr} {p : CryChkCfgP} (ho : p.op = 0) (hp : ¬ chkCfgOk p) (s : State) :
    cryChkCfg h p s = refuse s stBadParam := by
  rw [cryChkCfg, if_pos ho, if_pos]
  simp only [Bool.or_eq_true, decide_eq_true_eq]
  unfold chkCfgOk at hp
  omega

theorem cryChkCfg_attaches {h : Hdr} {p : CryChkCfgP} (ho : p.op = 0) (hp : chkCfgOk p) (s : State) :
    cryChkCfg h p s = done (withChkU (h.flow - 0x100) (chkAttached p) s) := by
  rw [cryChkCfg, if_pos ho, if_neg]
  · rfl
  · simp only [Bool.or_eq_true, decide_eq_true_eq]
    unfold chkCfgOk at hp
    omega

theorem cryChkCfg_detaches {h : Hdr} {p : CryChkCfgP} (ho : p.op = 1) (s : State) :
    cryChkCfg h p s = done (withChkU (h.flow - 0x100) (fun c => { c with attached := none }) s) := by
  simp [cryChkCfg, ho]

theorem cryChkCfg_saves {h : Hdr} {p : CryChkCfgP} (ho : p.op = 2) {s : State} (hp : (chkOf s (h.flow - 0x100)).paused = true) :
    cryChkCfg h p s = done s (chkContext (chkOf s (h.flow - 0x100))) := by
  simp [cryChkCfg, ho, hp]

theorem cryChkCfg_waits {h : Hdr} {p : CryChkCfgP} (ho : p.op = 2) {s : State} (hp : (chkOf s (h.flow - 0x100)).paused = false) :
    cryChkCfg h p s = { st := withChkU (h.flow - 0x100) (fun c => { c with saveWait := some (h.qp, h.tag) }) s, wait := true } := by
  simp [cryChkCfg, ho, hp]

theorem cryChkCfg_badContext {h : Hdr} {p : CryChkCfgP} (ho : p.op = 3) (hc : p.context.length ≠ 16) (s : State) :
    cryChkCfg h p s = refuse s stBadParam := by
  simp [cryChkCfg, ho, hc]

theorem cryChkCfg_restores {h : Hdr} {p : CryChkCfgP} {x : ChkSt} (ho : p.op = 3) (hc : p.context = chkContext x)
    (ha : x.attached.isSome = true) (hl : x.attached.getD 0 ≤ 95) (hp : x.poly ≤ 2) (hm : x.mode ≤ 1) (hi : x.init < 2 ^ 32)
    (he : x.expect < 2 ^ 32) (hv : x.value < 2 ^ crcWidth x.poly) (s : State) :
    cryChkCfg h p s = done (withChkU (h.flow - 0x100) (chkRestored x) s) := by
  obtain ⟨b0, b1, b2, b3⟩ := chkContext_bytes hl hp hm
  have hw : 2 ^ crcWidth x.poly ≤ 2 ^ 32 := by
    unfold crcWidth
    split <;> decide
  obtain ⟨w1, w2, w3⟩ := chkContext_words hi he (hv.trans_le hw)
  obtain ⟨hlt, hmode, hskip, hexp⟩ := chkFlags_bits hm x.skipAbort x.expectEn
  have hatt : some (x.attached.getD 0) = x.attached := by
    obtain ⟨n, hn⟩ := Option.isSome_iff_exists.mp ha
    rw [hn]
    rfl
  have hval : chkWidth x.poly x.value = x.value := Nat.mod_eq_of_lt hv
  have h0 : p.op ≠ 0 := by omega
  have h1 : p.op ≠ 1 := by omega
  have h2 : p.op ≠ 2 := by omega
  simp only [cryChkCfg, if_neg h0, if_neg h1, if_neg h2, if_pos ho, hc]
  rw [if_neg]
  · simp only [b0, b1, b2, w1, w2, w3, hskip, hexp, hmode, hatt, hval]
    rfl
  · simp only [b0, b1, b2, b3, length_chkContext, Bool.or_eq_true, decide_eq_true_eq]
    omega

/-- A command that is Ready and whose meaning puts one check-value unit. -/
theorem agentRun_putsChk {h : Hdr} {p : CryChkCfgP} {s : State} {f : ChkSt → ChkSt} (hr : Ready h (.cryChkCfg p) s)
    (he : ∀ s, cryChkCfg h p s = done (withChkU (h.flow - 0x100) f s)) :
    exec (.cryChkCfg h p) s = .next { s with
      hif := answered h (.cryChkCfg p) stOk 0 [] s, chk := tput s.chk (h.flow - 0x100) (f (chkOf s (h.flow - 0x100))) } :=
  agentRun_answers hr _ (he _) rfl rfl rfl rfl

theorem chkOf_withChkU_same (u : Nat) (f : ChkSt → ChkSt) (s : State) : chkOf (withChkU u f s) u = f (chkOf s u) := tget_tput_same ..

/-! PAUSE, VALUE and RES_INFO (R421, R423). -/

theorem chkPauseTake_inFrame {u : Nat} {s : State} (h : atBoundary s u = false) : chkPauseTake u s = s := by simp [chkPauseTake, h]

/-- A pause that no save waits for (R421). -/
theorem chkPauseTake_noSave {u : Nat} {s : State} (h : atBoundary s u = true) (hw : (chkOf s u).saveWait = none) :
    chkPauseTake u s = { s with chk := tput s.chk u { chkOf s u with paused := (chkOf s u).pause } } := by
  unfold chkPauseTake
  extract_lets t c
  have hc : c = { chkOf s u with paused := (chkOf s u).pause } := chkOf_withChkU_same ..
  have hn : { c with saveWait := none } = c := by rw [hc, hw.symm]
  rw [if_neg (by simp [h])]
  split
  · have hcw : c.saveWait = none := by rw [hc]; exact hw
    have ht : withChkU u (fun c => { c with saveWait := none }) t = t := by
      have : tget {} t.chk u = c := rfl
      simp only [withChkU, withChk, tmod, this, hn]
      simp only [t, withChkU, withChk, tmod, tput_tput, hc]
      rfl
    rw [hcw, ht]
    rfl
  · rfl

theorem finishWait_hif (who : Option (Nat × Nat)) (st : Nat) (data : List Byte) (s : State) : ∃ f, finishWait who st data s = { s with hif := f } := by
  unfold finishWait
  split
  · exact ⟨_, rfl⟩
  · exact ⟨_, rfl⟩

/-- A save that waits is answered once the pause takes effect (R421). -/
theorem chkPauseTake_answersSave {u : Nat} {s : State} (h : atBoundary s u = true) (hp : (chkOf s u).pause = true) :
    ∃ f k, chkPauseTake u s = { s with hif := f, chk := k } ∧ tget {} k u = { chkOf s u with paused := true, saveWait := none } := by
  unfold chkPauseTake
  extract_lets t c
  have hc : c = { chkOf s u with paused := true } := hp ▸ chkOf_withChkU_same ..
  rw [if_neg (by simp [h]), if_pos (by rw [hc])]
  obtain ⟨f, hf⟩ := finishWait_hif c.saveWait stOk (chkContext c) (withChkU u (fun c => { c with saveWait := none }) t)
  rw [hf]
  exact ⟨f, _, rfl, (chkOf_withChkU_same u (fun c => { c with saveWait := none }) t).trans (congrArg (fun c : ChkSt => { c with saveWait := none }) hc)⟩

theorem chkResultRead_takes {u : Nat} (hu : u < 8) (s : State) :
    ∃ d, chkResultRead u s = { s with
      chk := tput s.chk u { chkOf s u with latched := (chkOf s u).results.head?, results := (chkOf s u).results.tail },
      hif := { s.hif with readData := d } } ∧ d = resInfoWord (chkOf s u).results.head? := by
  unfold chkResultRead
  rw [if_neg (by omega)]
  refine ⟨_, rfl, ?_⟩
  have : chkOf (withChkU u (fun c => { c with latched := c.results.head?, results := c.results.tail }) s) u =
      { chkOf s u with latched := (chkOf s u).results.head?, results := (chkOf s u).results.tail } := chkOf_withChkU_same ..
  rw [this]

/-- Settles O53: CRY_CHK_CFG is Ready, so its reply is what its meaning comes to; a pause goes by the frame boundary and the save that waits. -/
theorem checkValueUnits : Obligations.CheckValueUnits := by
  unfold Obligations.CheckValueUnits
  intro h s
  refine ⟨fun p hr => ⟨fun ho => ?_, fun ho hp => agentRun_putsChk hr (cryChkCfg_attaches ho hp), fun ho => agentRun_putsChk hr (cryChkCfg_detaches ho),
    fun ho hp => ?_, fun ho hp => ?_, fun ho hc => agentRun_refuses hr (cryChkCfg_badContext ho hc _),
    fun x ho hc ha hl hp hm hi he hv => agentRun_putsChk hr (cryChkCfg_restores ho hc ha hl hp hm hi he hv)⟩,
    fun u v hu hz => ?_, fun u hu hb hw => ?_, fun u hb => ?_, fun u qp tag hu hb hp hw => ?_, fun u v hu hz => ?_, fun u hu => ?_⟩
  · rcases ho with ho | ⟨ho, hp⟩
    · exact agentRun_refuses hr (cryChkCfg_badOp ho _)
    · exact agentRun_refuses hr (cryChkCfg_badRange ho hp _)
  · exact agentRun_answers hr _ (cryChkCfg_saves (s := inFlightWith h (.cryChkCfg p) s) ho hp) rfl rfl rfl rfl
  · exact agentRun_waits hr (cryChkCfg_waits (s := inFlightWith h (.cryChkCfg p) s) ho hp) rfl
  · have : chkPauseWrite u v s = withChkU u (fun c => { c with pause := bit v 0 }) s := if_neg (by simp [hz]; omega)
    exact congrArg Host.Outcome.next this
  · exact congrArg Host.Outcome.next ((if_neg (by omega)).trans (chkPauseTake_noSave hb hw))
  · refine congrArg Host.Outcome.next ?_
    split
    · rfl
    · exact chkPauseTake_inFrame hb
  · obtain ⟨f, k, ht, hk⟩ := chkPauseTake_answersSave hb hp
    exact ⟨_, congrArg Host.Outcome.next ((if_neg (by omega)).trans ht), rfl, hk⟩
  · have : chkValueWrite u v s =
        withChkU u (fun c => if c.paused then { c with value := chkWidth c.poly v } else { c with writeIgnored := true }) s :=
      if_neg (by simp [hz]; omega)
    exact congrArg Host.Outcome.next this
  · obtain ⟨d, ht, hd⟩ := chkResultRead_takes hu s
    refine ⟨_, congrArg Host.Outcome.next ht, rfl, hd.trans ?_⟩
    cases (chkOf s u).results.head? <;> rfl

end Sys2Proof.Proofs
end

section
/-!
PROOFS. The cipher engines (R373, R383, R399-R412, R415, R425): requests and uses of a live key, then what each meaning comes to, then the
command path around it, and the nonce journal.
-/
namespace Sys2Proof.Proofs
open Machine Safety Laws

/-! Requests and uses of a live key (R373, R383). -/

theorem keyStatus_live {s : State} {n b : Nat} (hs : (slotOf s n).state = 1) (hb : (slotOf s n).mat.engines.testBit b = true) :
    keyStatus s n b = stOk := by
  simp [keyStatus, hs, bit, hb]

/-- A request that a live key serves counts, and draws nothing. -/
theorem requestKey_live {s : State} {n b : Nat} (hs : (slotOf s n).state = 1) (hb : (slotOf s n).mat.engines.testBit b = true) :
    requestKey n b s = { st := secCnt 0 s, mat := (slotOf s n).mat, gen := (slotOf s n).gen } := by
  simp [requestKey, keyStatus_live hs hb]

/-- Below its limit a key makes no automatic commit (R383). -/
theorem commitAtLimit_below {s : State} {n : Nat} (h : (slotOf s n).mat.usageCount < (slotOf s n).mat.usageLimit) : commitAtLimit n s = s := by
  simp [commitAtLimit, h]

theorem useKey_live {s : State} {n b : Nat} (hs : (slotOf s n).state = 1) (hb : (slotOf s n).mat.engines.testBit b = true)
    (hu : (slotOf s n).mat.usageCount < (slotOf s n).mat.usageLimit) : useKey n b s = drawUse n s := by
  simp [useKey, keyStatus_live hs hb, commitAtLimit_below hu, hu, bit, hb]

/-- A key with one use drawn (R383). -/
def used (k : KeySlotSt) : KeySlotSt := { k with mat := { k.mat with usageCount := k.mat.usageCount + 1 } }

theorem keyEvent_only (n slot : Nat) (s : State) : ∃ e l, keyEvent n slot s = { s with evt := e, sec := { s.sec with lastEvent := l } } := by
  unfold keyEvent
  rw [raise_only]
  exact ⟨_, _, rfl⟩

/-- A use draws USAGE_COUNT of its slot, and beside it reaches the counters and events of the island. -/
theorem drawUse_draws (n : Nat) (s : State) : ∃ e c l, drawUse n s = {
    st := { s with evt := e, sec := { s.sec with slots := tput s.sec.slots n (used (slotOf s n)), cnt := c, lastEvent := l } },
    mat := (slotOf s n).mat, gen := (slotOf s n).gen, counter := (slotOf s n).mat.usageCount } := by
  unfold drawUse
  extract_lets m drawn warned checked
  have hd : drawn = { s with sec := { s.sec with slots := tput s.sec.slots n (used (slotOf s n)), cnt := bump s.sec.cnt 0 } } := rfl
  obtain ⟨e, l, hw⟩ : ∃ e l, warned = { drawn with evt := e, sec := { drawn.sec with lastEvent := l } } := by
    simp only [warned]
    split
    · exact keyEvent_only ..
    · exact ⟨_, _, rfl⟩
  obtain ⟨e', l', hc⟩ : ∃ e l, checked = { warned with evt := e, sec := { warned.sec with lastEvent := l } } := by
    simp only [checked]
    split
    · exact keyEvent_only ..
    · exact ⟨_, _, rfl⟩
  have hg : (slotOf checked n).gen = (slotOf s n).gen := by
    rw [hc, hw, hd]
    simp [slotOf, used]
  refine ⟨e', bump s.sec.cnt 0, l', ?_⟩
  rw [hg, hc, hw, hd]

/-! CRY_OP (R399, R402, R403, R409, R425). -/

/-- Host memory with an output at OUT_ADDR, where it names a buffer. -/
def outputAt (a : Nat) (b : List Byte) (s : State) : List Host.Cell := if a = 0 then s.hostMem else memWrite s.hostMem a b

theorem toHost_outputAt (a : Nat) (b : List Byte) (s : State) : toHost a b s = { s with hostMem := outputAt a b s } := by
  rw [toHost_only, toHost_hostMem]
  rfl

/-- The ranges of CRY_OP. -/
def cryOpOk (p : CryOpP) : Prop := p.op ≤ 1 ∧ p.slot < 4096 ∧ p.aad.length ≤ 4096 ∧ p.input.length ≤ 16384 ∧ p.outAddr % 8 = 0

theorem cryOp_bad {h : Hdr} {p : CryOpP} (hp : ¬ cryOpOk p) (s : State) : cryOp h p s = refuse s stBadParam := by
  rw [cryOp, if_pos]
  simp only [Bool.or_eq_true, decide_eq_true_eq]
  unfold cryOpOk at hp
  omega

theorem cryOp_engine {h : Hdr} {p : CryOpP} (hp : cryOpOk p) (s : State) :
    cryOp h p s = if h.flow = 0 then cryCcm p s else if h.flow = 1 then cryGcm p s else cryXts p s := by
  rw [cryOp, if_neg]
  simp only [Bool.or_eq_true, decide_eq_true_eq]
  unfold cryOpOk at hp
  omega

theorem cryCcm_badLevel {p : CryOpP} (hl : p.secLevel = 0 ∨ 7 < p.secLevel) (s : State) : cryCcm p s = refuse s stBadParam := by
  simp [cryCcm, hl]

/-- A seal: the output, and a use of the key, after which its material is as said. -/
structure Seals (p : CryOpP) (mat : KeyMat) (out : List Byte) (reply : List Byte) (s : State) (r : Res) : Prop where
  reply : r = done r.st reply
  blocks : ∃ e sec cry, r.st = { s with evt := e, sec := sec, cry := cry, hostMem := outputAt p.outAddr out s }
  slots : r.st.sec.slots = tput s.sec.slots p.slot { slotOf s p.slot with mat := mat }

/-- The key of a slot serves an engine, and a use of it can be drawn now (R373, R383, R413). -/
def Drawable (s : State) (n b : Nat) : Prop :=
  (slotOf s n).state = 1 ∧ (slotOf s n).mat.engines.testBit b = true ∧ (slotOf s n).mat.usageCount < (slotOf s n).mat.usageLimit ∧
    drawReady s n = true

theorem cryCcm_seals {p : CryOpP} {s : State} (hl : 1 ≤ p.secLevel) (hl7 : p.secLevel ≤ 7) (ho : p.op = 0) (hk : Drawable s p.slot 0) :
    let m := (slotOf s p.slot).mat
    let r := ccmSeal m.key p.srcAddr m.usageCount p.secLevel p.aad p.input
    Seals p { m with usageCount := m.usageCount + 1 } (r.1 ++ r.2) (cryReply 0 m.usageCount) s (cryCcm p s) := by
  obtain ⟨hs, hb, hu, hd⟩ := hk
  obtain ⟨e, c, l, hdraw⟩ := drawUse_draws p.slot s
  have h1 : p.secLevel ≠ 0 := by omega
  have h2 : ¬ 7 < p.secLevel := by omega
  intro m r
  have hr : cryCcm p s = done (toHost p.outAddr (r.1 ++ r.2) (cryCnt 0 (drawUse p.slot s).st)) (cryReply 0 m.usageCount) := by
    simp [cryCcm, h1, h2, ho, hd, useKey_live hs hb hu, hdraw, r, m]
  rw [hr, hdraw, toHost_outputAt]
  exact ⟨rfl, ⟨_, _, _, rfl⟩, rfl⟩

/-- The key of a slot serves an engine. -/
def Serves (s : State) (n b : Nat) : Prop := (slotOf s n).state = 1 ∧ (slotOf s n).mat.engines.testBit b = true

/-- An open: the plaintext, or ST_AUTH_FAIL and zeros; no use of the key. -/
structure Opens (p : CryOpP) (got : Option (List Byte)) (s : State) (r : Res) : Prop where
  blocks : ∃ sec cry, r.st = { s with sec := sec, cry := cry, hostMem := outputAt p.outAddr (got.getD (zeros p.input.length)) s }
  slots : r.st.sec.slots = s.sec.slots
  reply : r = match got with
    | some _ => done r.st (cryReply 0 0)
    | none => refuse r.st stAuthFail

theorem cryCcm_opens {p : CryOpP} {s : State} (hl : 1 ≤ p.secLevel) (hl7 : p.secLevel ≤ 7) (ho : p.op = 1) (hk : Serves s p.slot 0) :
    Opens p (ccmOpen (slotOf s p.slot).mat.key p.srcAddr p.frameCounter p.secLevel p.aad p.input p.tag) s (cryCcm p s) := by
  have h1 : p.secLevel ≠ 0 := by omega
  have h2 : ¬ 7 < p.secLevel := by omega
  simp only [cryCcm, h1, h2, ho, requestKey_live hk.1 hk.2, toHost_outputAt, decide_false, Bool.or_self, Bool.false_eq_true, if_false, ne_eq,
    not_true_eq_false, one_ne_zero]
  cases ccmOpen (slotOf s p.slot).mat.key p.srcAddr p.frameCounter p.secLevel p.aad p.input p.tag with
  | none => exact ⟨⟨_, _, rfl⟩, rfl, rfl⟩
  | some b => exact ⟨⟨_, _, rfl⟩, rfl, rfl⟩

theorem cryGcm_opens {p : CryOpP} {s : State} (ho : p.op = 1) (hi : p.iv.length = 12) (hk : Serves s p.slot 1) :
    Opens p (gcmOpen (slotOf s p.slot).mat.key p.iv p.aad p.input p.tag) s (cryGcm p s) := by
  simp only [cryGcm, ho, hi, requestKey_live hk.1 hk.2, toHost_outputAt, decide_false, decide_true, Bool.true_or, Bool.and_false, Bool.false_and,
    Bool.false_eq_true, if_false, ne_eq, not_true_eq_false, one_ne_zero]
  cases gcmOpen (slotOf s p.slot).mat.key p.iv p.aad p.input p.tag with
  | none => exact ⟨⟨_, _, rfl⟩, rfl, rfl⟩
  | some b => exact ⟨⟨_, _, rfl⟩, rfl, rfl⟩

/-- NONCE_MODE 0: the IV is the host's (R402). -/
theorem cryGcm_sealsHostIv {p : CryOpP} {s : State} (ho : p.op = 0) (hi : p.iv.length = 12) (hn : (slotOf s p.slot).mat.nonceMode = 0)
    (hk : Drawable s p.slot 1) :
    let m := (slotOf s p.slot).mat
    let r := gcmSeal m.key p.iv p.aad p.input
    Seals p { m with usageCount := m.usageCount + 1 } (r.1 ++ r.2) (cryReply 0 m.usageCount) s (cryGcm p s) := by
  obtain ⟨hs, hb, hu, hd⟩ := hk
  obtain ⟨e, c, l, hdraw⟩ := drawUse_draws p.slot s
  intro m r
  have hr : cryGcm p s = done (toHost p.outAddr (r.1 ++ r.2) (cryCnt 2 (drawUse p.slot s).st)) (cryReply 0 m.usageCount) := by
    simp [cryGcm, ho, hi, hn, hd, keyStatus_live hs hb, commitAtLimit_below hu, useKey_live hs hb hu, hdraw, r, m]
  rw [hr, hdraw, toHost_outputAt]
  exact ⟨rfl, ⟨_, _, _, rfl⟩, rfl⟩

/-- NONCE_MODE 1: the IV is drawn, and NC moves on by one (R409). -/
theorem cryGcm_sealsDrawnIv {p : CryOpP} {s : State} (ho : p.op = 0) (hn : (slotOf s p.slot).mat.nonceMode = 1)
    (hc : (slotOf s p.slot).mat.nc ≠ 2 ^ 64 - 1) (hr : nonceReady s (slotOf s p.slot).mat = true) (hk : Drawable s p.slot 1) :
    let m := (slotOf s p.slot).mat
    let r := gcmSeal m.key (be 4 m.nonceFixed ++ be 8 m.nc) p.aad p.input
    Seals p (drawNonce { m with usageCount := m.usageCount + 1 }) (r.1 ++ r.2) (cryReply m.nc m.usageCount) s (cryGcm p s) := by
  obtain ⟨hs, hb, hu, hd⟩ := hk
  obtain ⟨e, c, l, hdraw⟩ := drawUse_draws p.slot s
  intro m r
  have hgcm : cryGcm p s = done (toHost p.outAddr (r.1 ++ r.2) (cryCnt 2
      (withKey p.slot (fun k => { k with mat := drawNonce k.mat }) (drawUse p.slot s).st))) (cryReply m.nc m.usageCount) := by
    have hc : (slotOf s p.slot).mat.nc ≠ 18446744073709551615 := hc
    simp [cryGcm, ho, hn, hd, hc, hr, keyStatus_live hs hb, commitAtLimit_below hu, useKey_live hs hb hu, hdraw, r, m]
  have hslots : (withKey p.slot (fun k => { k with mat := drawNonce k.mat }) (drawUse p.slot s).st).sec.slots =
      tput s.sec.slots p.slot { slotOf s p.slot with mat := drawNonce { m with usageCount := m.usageCount + 1 } } := by
    rw [hdraw]
    simp [withKey, tmod, tput_tput, used, m]
  rw [hgcm, toHost_outputAt]
  refine ⟨rfl, ?_, hslots⟩
  rw [hdraw]
  exact ⟨_, _, _, rfl⟩

theorem cryXts_opens {p : CryOpP} {s : State} (h16 : 16 ≤ p.unit) (hu : p.unit ≤ 4096) (hm : p.unit % 16 = 0) (hl : p.input.length % p.unit = 0)
    (hk : Serves s p.slot 3) :
    Opens p (some (xtsRun (slotOf s p.slot).mat.key (decide (p.op = 1)) p.tweak p.unit p.input)) s (cryXts p s) := by
  have h1 : ¬ p.unit < 16 := by omega
  have h2 : ¬ 4096 < p.unit := by omega
  have h3 : max p.unit 1 = p.unit := by omega
  simp only [cryXts, h1, h2, h3, hm, hl, requestKey_live hk.1 hk.2, toHost_outputAt, decide_false, Bool.or_self, Bool.false_eq_true, if_false, ne_eq,
    not_true_eq_false]
  exact ⟨⟨_, _, rfl⟩, rfl, rfl⟩

/-- What a seal leaves of the machine. -/
theorem exec_cryOp_seals {h : Hdr} {p : CryOpP} {s : State} {mat : KeyMat} {out reply : List Byte} (hr : Ready h (.cryOp p) s)
    (hs : Seals p mat out reply (inFlightWith h (.cryOp p) s) (cryOp h p (inFlightWith h (.cryOp p) s))) :
    ∃ t, exec (.cryOp h p) s = .next t ∧ t.hif = answered h (.cryOp p) stOk 0 reply s ∧ t.hostMem = outputAt p.outAddr out s ∧
      t.flash = s.flash ∧ slotOf t p.slot = { slotOf s p.slot with mat := mat } ∧ ∀ n, n ≠ p.slot → slotOf t n = slotOf s n := by
  obtain ⟨he, ⟨e, sec, cry, hb⟩, hk⟩ := hs
  have hkey (n) : tget {} (cryOp h p (inFlightWith h (.cryOp p) s)).st.sec.slots n =
      if p.slot = n then { slotOf s p.slot with mat := mat } else slotOf s n := by
    rw [hk, tget_tput]
    rfl
  refine ⟨_, agentRun_answers hr _ he (congrArg (·.hif) hb) (congrArg (·.time.c) hb) rfl rfl, rfl, congrArg (·.hostMem) hb, congrArg (·.flash) hb,
    (hkey _).trans (if_pos rfl), fun n hn => (hkey n).trans (if_neg hn.symm)⟩

/-- What the host sees of an open. -/
def Opened (h : Hdr) (p : CryOpP) (s t : State) : Option (List Byte) → Prop
  | some b => t.hif = answered h (.cryOp p) stOk 0 (cryReply 0 0) s ∧ t.hostMem = outputAt p.outAddr b s
  | none => t.hif = answered h (.cryOp p) stAuthFail 0 [] s ∧ t.hostMem = outputAt p.outAddr (zeros p.input.length) s

/-- What an open leaves of the machine. -/
theorem exec_cryOp_opens {h : Hdr} {p : CryOpP} {s : State} {got : Option (List Byte)} (hr : Ready h (.cryOp p) s)
    (hs : Opens p got (inFlightWith h (.cryOp p) s) (cryOp h p (inFlightWith h (.cryOp p) s))) :
    ∃ t, exec (.cryOp h p) s = .next t ∧ t = { s with hif := t.hif, hostMem := t.hostMem, cry := t.cry, sec := t.sec } ∧
      t.sec.slots = s.sec.slots ∧ Opened h p s t got := by
  obtain ⟨⟨sec, cry, hb⟩, hk, he⟩ := hs
  cases got with
  | none =>
    refine ⟨_, agentRun_answers hr _ he (congrArg (·.hif) hb) (congrArg (·.time.c) hb) rfl rfl, ?_, hk, rfl, congrArg (·.hostMem) hb⟩
    simp only [refuse, hb]
    rfl
  | some b =>
    refine ⟨_, agentRun_answers hr _ he (congrArg (·.hif) hb) (congrArg (·.time.c) hb) rfl rfl, ?_, hk, rfl, congrArg (·.hostMem) hb⟩
    simp only [done, hb]
    rfl

/-! CRY_SIGN and CRY_VERIFY (R407). -/

def crySignOk (p : CrySignP) : Prop := p.digest.length = 32 ∧ p.slot < 4096 ∧ p.sigAddr % 8 = 0

theorem crySign_bad {h : Hdr} {p : CrySignP} (hp : ¬ crySignOk p) (s : State) : crySign h p s = refuse s stBadParam := by
  rw [crySign, if_pos]
  simp only [Bool.or_eq_true, decide_eq_true_eq]
  unfold crySignOk at hp
  omega

theorem crySign_inRange {p : CrySignP} (hp : crySignOk p) : ¬ ((p.digest.length ≠ 32 || 4096 ≤ p.slot || p.sigAddr % 8 ≠ 0) = true) := by
  simp only [Bool.or_eq_true, decide_eq_true_eq]
  unfold crySignOk at hp
  omega

/-- Any slot but 2 is refused, with a KEY_DENIED event of the slot. -/
theorem crySign_otherSlot {h : Hdr} {p : CrySignP} (hp : crySignOk p) (h2 : p.slot ≠ 2) (s : State) :
    crySign h p s = refuse (keyEvent 4 p.slot (secCnt 1 s)) stKeyDenied := by
  simp only [crySign, if_neg (crySign_inRange hp), if_pos h2]
  rfl

theorem crySign_noIdentity {h : Hdr} {p : CrySignP} (hp : crySignOk p) (h2 : p.slot = 2) {s : State} (hi : s.flash.identity = false) :
    crySign h p s = refuse s stBusy := by
  simp only [crySign, if_neg (crySign_inRange hp)]
  simp [h2, hi]

/-- A signature is a use of slot 2 (R407). -/
theorem crySign_signs {h : Hdr} {p : CrySignP} (hp : crySignOk p) (h2 : p.slot = 2) {s : State} (hi : s.flash.identity = true)
    (hs : (slotOf s 2).state = 1) (hb : (slotOf s 2).mat.engines.testBit 6 = true) (hu : (slotOf s 2).mat.usageCount < (slotOf s 2).mat.usageLimit) :
    ∃ sig e sec, crySign h p s = done { s with free := s.free + 1, evt := e, sec := sec, hostMem := outputAt p.sigAddr sig s } ∧
      sec.slots = tput s.sec.slots 2 (used (slotOf s 2)) := by
  obtain ⟨hd, hl, ha⟩ := hp
  obtain ⟨e, c, l, hdraw⟩ := drawUse_draws 2 s
  have hn : ¬ 4096 ≤ p.slot := by omega
  have hr : crySign h p s = done (toHost p.sigAddr (rsaSign (fit 384 (Config.identityModulus s.flash.identityEpoch))
      (Config.identityExponent s.flash.identityEpoch) p.digest (randomBytes (drawUse 2 s).st 32)) (tick1 (drawUse 2 s).st)) := by
    simp [crySign, hd, ha, h2, hi, useKey_live hs hb hu, hdraw]
  rw [hr, hdraw, toHost_outputAt]
  exact ⟨_, _, _, rfl, rfl⟩

def cryVerifyOk (p : CryVerifyP) : Prop :=
  (p.exponent = 3 ∨ p.exponent = 65537) ∧ p.modulus.length = 384 ∧ p.digest.length = 32 ∧ p.signature.length = 384

theorem cryVerify_bad {h : Hdr} {p : CryVerifyP} (hp : ¬ cryVerifyOk p) (s : State) : cryVerify h p s = refuse s stBadParam := by
  rw [cryVerify, if_pos]
  simp only [Bool.or_eq_true, Bool.and_eq_true, decide_eq_true_eq]
  unfold cryVerifyOk at hp
  omega

theorem cryVerify_inRange {h : Hdr} {p : CryVerifyP} (hp : cryVerifyOk p) (s : State) :
    cryVerify h p s = if rsaVerify p.modulus p.exponent p.digest p.signature then done s else refuse s stSigFail := by
  rw [cryVerify, if_neg]
  simp only [Bool.or_eq_true, Bool.and_eq_true, decide_eq_true_eq]
  unfold cryVerifyOk at hp
  omega

/-! CRY_HASH (R408). -/

def cryHashOk (p : CryHashP) : Prop :=
  p.op ≤ 3 ∧ p.mode ≤ 1 ∧ p.context < 16 ∧ p.slot < 4096 ∧ p.input.length ≤ 16384 ∧ p.outAddr % 8 = 0

theorem cryHash_bad {h : Hdr} {p : CryHashP} (hp : ¬ cryHashOk p) (s : State) : cryHash h p s = refuse s stBadParam := by
  rw [cryHash, if_pos]
  simp only [Bool.or_eq_true, decide_eq_true_eq]
  unfold cryHashOk at hp
  omega

/-- CRY_HASH past its ranges. -/
theorem cryHash_inRange {p : CryHashP} (hp : cryHashOk p) :
    ¬ ((3 < p.op || 1 < p.mode || 16 ≤ p.context || 4096 ≤ p.slot || 16384 < p.input.length || p.outAddr % 8 ≠ 0) = true) := by
  simp only [Bool.or_eq_true, decide_eq_true_eq]
  unfold cryHashOk at hp
  omega

theorem cryHash_wholeSha {h : Hdr} {p : CryHashP} (hp : cryHashOk p) (ho : p.op = 0) (hm : p.mode = 0) (s : State) :
    cryHash h p s = done { s with hostMem := outputAt p.outAddr (sha256 p.input) s } ((sha256 p.input).take 24) := by
  rw [← toHost_outputAt]
  simp only [cryHash, if_neg (cryHash_inRange hp)]
  simp [ho, hm, hashOf]

theorem cryHash_contextTaken {h : Hdr} {p : CryHashP} (hp : cryHashOk p) (ho : p.op = 1) {s : State}
    (hc : (tfind s.cry.hashes p.context).isSome = true) : cryHash h p s = refuse s stBusy := by
  simp only [cryHash, if_neg (cryHash_inRange hp)]
  simp [ho, hc]

theorem cryHash_startsSha {h : Hdr} {p : CryHashP} (hp : cryHashOk p) (ho : p.op = 1) (hm : p.mode = 0) {s : State}
    (hc : tfind s.cry.hashes p.context = none) :
    cryHash h p s = done (withCry (fun x => { x with hashes := tput x.hashes p.context { mode := 0, key := [], data := p.input } }) s) := by
  simp only [cryHash, if_neg (cryHash_inRange hp)]
  simp [ho, hm, hc]

theorem cryHash_noContext {h : Hdr} {p : CryHashP} (hp : cryHashOk p) (ho : 2 ≤ p.op) {s : State}
    (hc : tfind s.cry.hashes p.context = none) : cryHash h p s = refuse s stBadParam := by
  have h1 : p.op ≠ 1 := by omega
  have h2 : ¬ p.op ≤ 1 := by omega
  simp only [cryHash, if_neg (cryHash_inRange hp)]
  simp [hc, h1, h2]

theorem cryHash_feeds {h : Hdr} {p : CryHashP} (hp : cryHashOk p) (ho : p.op = 2) {s : State} {x : HashCtx}
    (hc : tfind s.cry.hashes p.context = some x) :
    cryHash h p s = done (withCry (fun y => { y with hashes := tput y.hashes p.context { x with data := x.data ++ p.input } }) s) := by
  simp only [cryHash, if_neg (cryHash_inRange hp)]
  simp [ho, hc]

theorem cryHash_ends {h : Hdr} {p : CryHashP} (hp : cryHashOk p) (ho : p.op = 3) {s : State} {x : HashCtx}
    (hc : tfind s.cry.hashes p.context = some x) :
    let d := if x.mode = 1 then hmac x.key (x.data ++ p.input) else sha256 (x.data ++ p.input)
    cryHash h p s = done { s with cry := { s.cry with hashes := tdel s.cry.hashes p.context }, hostMem := outputAt p.outAddr d s } (d.take 24) := by
  intro d
  have ht := toHost_outputAt p.outAddr d (withCry (fun y => { y with hashes := tdel y.hashes p.context }) s)
  have hd : hashOf x.mode x.key (x.data ++ p.input) = d := rfl
  simp only [cryHash, if_neg (cryHash_inRange hp)]
  simp only [ho, hc, hd, ht]
  rfl

/-! CRY_XTS_REGION and CRY_STATUS (R411, R412, R426). -/

/-- The ranges of a region that is set. -/
def xtsRegionOk (p : CryXtsRegionP) : Prop :=
  16 ≤ p.region ∧ p.region < 64 ∧ p.op = 1 ∧ p.base % 4096 = 0 ∧ p.size % 4096 = 0 ∧ 4096 ≤ p.size ∧ p.size ≤ 2 ^ 34 ∧ p.slot < 4096

/-- Another enabled region shares an address with the one asked for. -/
def RegionClash (p : CryXtsRegionP) (s : State) : Prop :=
  ∃ e ∈ s.cry.regions, e.1 ≠ p.region ∧ e.2.enable = true ∧ e.2.base < p.base + p.size ∧ p.base < e.2.base + 4096 * e.2.pages

theorem cryXtsRegion_bad {h : Hdr} {p : CryXtsRegionP} (hp : p.region < 16 ∨ 64 ≤ p.region ∨ 1 < p.op) (s : State) :
    cryXtsRegion h p s = refuse s stBadParam := by
  rw [cryXtsRegion, if_pos]
  simpa [or_assoc] using hp

theorem cryXtsRegion_disables {h : Hdr} {p : CryXtsRegionP} (h16 : 16 ≤ p.region) (h64 : p.region < 64) (ho : p.op = 0) (s : State) :
    cryXtsRegion h p s = done (withCry (fun c => { c with regions := tput c.regions p.region {
      tget {} c.regions p.region with enable := false, reported := false } }) s) := by
  have h1 : ¬ p.region < 16 := by omega
  have h2 : ¬ 64 ≤ p.region := by omega
  simp [cryXtsRegion, h1, h2, ho, tmod]

theorem regionClash_iff {p : CryXtsRegionP} (hp : xtsRegionOk p) (s : State) :
    s.cry.regions.any (fun e => e.1 ≠ p.region && e.2.enable && overlap e.2.base e.2.pages p.base (p.size / 4096)) = true ↔ RegionClash p s := by
  have hz : 4096 * (p.size / 4096) = p.size := by
    unfold xtsRegionOk at hp
    omega
  simp only [overlap, hz, List.any_eq_true, Bool.and_eq_true, decide_eq_true_eq, RegionClash, and_assoc]

theorem cryXtsRegion_inRange {h : Hdr} {p : CryXtsRegionP} (hp : xtsRegionOk p) (s : State) :
    cryXtsRegion h p s = if s.cry.regions.any (fun e => e.1 ≠ p.region && e.2.enable && overlap e.2.base e.2.pages p.base (p.size / 4096))
      then refuse s stBadParam
      else if (requestKey p.slot 3 s).status ≠ stOk then refuse (requestKey p.slot 3 s).st (requestKey p.slot 3 s).status
      else done (withCry (fun c => { c with regions := tput c.regions p.region {
        base := p.base, pages := p.size / 4096, enable := true, slot := p.slot } }) s) := by
  unfold xtsRegionOk at hp
  rw [cryXtsRegion, if_neg, if_neg (by omega), if_neg]
  all_goals
    simp only [Bool.or_eq_true, decide_eq_true_eq]
    omega

theorem cryXtsRegion_sets {h : Hdr} {p : CryXtsRegionP} {s : State} (hp : xtsRegionOk p) (hc : ¬ RegionClash p s) (hk : (slotOf s p.slot).state = 1)
    (hb : (slotOf s p.slot).mat.engines.testBit 3 = true) :
    cryXtsRegion h p s = done (withCry (fun c => { c with regions := tput c.regions p.region {
      base := p.base, pages := p.size / 4096, enable := true, slot := p.slot } }) s) := by
  rw [cryXtsRegion_inRange hp, if_neg (mt (regionClash_iff hp s).mp hc), requestKey_live hk hb, if_neg (by simp)]

theorem cryStatus_bad {h : Hdr} {p : CryStatusP} (hp : ¬ (p.clear ≤ 1 ∧ p.bufferAddr % 8 = 0)) (s : State) :
    cryStatus h p s = refuse s stBadParam := by
  rw [cryStatus, if_pos]
  simp only [Bool.or_eq_true, decide_eq_true_eq]
  omega

theorem cryStatus_reports {h : Hdr} {p : CryStatusP} (hp : p.clear ≤ 1 ∧ p.bufferAddr % 8 = 0) (s : State) :
    cryStatus h p s = done { s with
      hostMem := outputAt p.bufferAddr ((List.range 10).flatMap (fun i => le 4 (tget 0 s.cry.cnt i))) s,
      cry := if p.clear = 1 then { s.cry with cnt := [] } else s.cry }
      (le 4 (cryStatusWord s) ++ le 4 (ccmCtxWord s) ++ le 2 s.flash.nonce.length ++ le 8 s.flash.nonceFloor) := by
  rw [cryStatus, if_neg (by simp only [Bool.or_eq_true, decide_eq_true_eq]; omega)]
  rw [toHost_outputAt]
  dsimp only
  split <;> rfl

/-! Suspended messages and the nonce journal (R405, R413-R416). -/

/-- A suspended message goes on when no message that waits is more urgent (R405). -/
theorem engineResume_resumes {s : State} {e : Nat} {x : EngMsg} {l : List EngMsg} (he : tget [] s.cry.msgs e = x :: l) (hx : x.suspended = true)
    (hl : ∀ y ∈ l, y.suspended = false → x.urgency ≤ y.urgency) :
    engineResume e s = withCry (fun c => { c with msgs := tput c.msgs e ({ x with suspended := false } :: l) }) s := by
  have hf : l.find? (fun y => !y.suspended && y.urgency < x.urgency) = none := by
    rw [List.find?_eq_none]
    intro y hy
    cases hs : y.suspended with
    | true => simp
    | false => simpa using hl y hy hs
  simp [engineResume, he, hx, hf]

/-- What a journal entry reaches: its own record is the last, and the floor never falls (R414, R415). -/
structure Journals (fp : List Byte) (v : Nat) (s t : State) : Prop where
  blocks : ∃ e c f, t = { s with evt := e, cry := c, flash := f }
  last : t.flash.nonce.getLast? = some { fp := fp, h := v, seq := t.flash.nonceSeq }
  floor : s.flash.nonceFloor ≤ t.flash.nonceFloor

theorem journalPut_journals (fp : List Byte) (v : Nat) (s : State) : Journals fp v s (journalPut fp v s) := by
  unfold journalPut
  extract_lets known room put
  obtain ⟨e, c, f, hroom, hf⟩ : ∃ e c f, room = { s with evt := e, cry := c, flash := f } ∧ s.flash.nonceFloor ≤ f.nonceFloor := by
    simp only [room]
    split
    · split
      · exact ⟨_, _, _, rfl, le_rfl⟩
      · rw [raise_only]
        exact ⟨_, _, _, rfl, le_max_left ..⟩
    · exact ⟨_, _, _, rfl, le_rfl⟩
  have hput : Journals fp v s put := by
    simp only [put, hroom]
    exact ⟨⟨_, _, _, rfl⟩, List.getLast?_concat, hf⟩
  split
  · obtain ⟨⟨e', c', f', hb⟩, hl, hf'⟩ := hput
    exact ⟨⟨e', { c' with compacting := true }, f', by rw [hb]; rfl⟩, hl, hf'⟩
  · exact hput

theorem flushLinks_none {s : State} (h : s.lnk.waiting = []) : flushLinks s = s := by
  unfold flushLinks
  rw [h]
  have hw : ({ s.lnk with waiting := [] } : LnkSt) = s.lnk := by
    rw [← h]
  simp [withLnk, hw]

theorem slotOf_withKey (n : Nat) (f : KeySlotSt → KeySlotSt) (s : State) : slotOf (withKey n f s) n = f (slotOf s n) :=
  tget_tput_same ..

theorem journalEntryDurable_idle {n : Nat} {s : State} (hw : (slotOf s n).mat.hWriting = none) : journalEntryDurable n s = s := by
  simp [journalEntryDurable, hw]

theorem journalEntryDurable_draws {n w : Nat} {s : State} (hw : (slotOf s n).mat.hWriting = some w) :
    (slotOf (journalEntryDurable n s) n).mat = { (slotOf s n).mat with hDurable := some w, hWriting := none, writeFails := 0 } ∧
      Journals (fingerprint s (slotOf s n).mat) w (withKey n (fun k => { k with mat :=
        { k.mat with hDurable := some w, hWriting := none, writeFails := 0 } }) s) (journalEntryDurable n s) := by
  have hj : Journals (fingerprint s (slotOf s n).mat) w (withKey n (fun k => { k with mat :=
      { k.mat with hDurable := some w, hWriting := none, writeFails := 0 } }) s) (journalEntryDurable n s) := by
    simp only [journalEntryDurable, hw]
    exact journalPut_journals ..
  refine ⟨?_, hj⟩
  obtain ⟨⟨e, c, f, hb⟩, -, -⟩ := hj
  rw [hb]
  exact congrArg (·.mat) (slotOf_withKey ..)

theorem journalWriteFail_idle {n : Nat} {s : State} (hw : (slotOf s n).mat.hWriting = none) : journalWriteFail n s = s := by
  simp [journalWriteFail, hw]

/-- A write that failed, counted at its key. -/
def failedWrite (n : Nat) (s : State) : State :=
  withKey n (fun k => { k with mat := { k.mat with writeFails := min 2 (k.mat.writeFails + 1) } }) s

theorem journalWriteFail_counts {n w : Nat} {s : State} (hw : (slotOf s n).mat.hWriting = some w) :
    journalWriteFail n s = if (slotOf s n).mat.writeFails = 0 then failedWrite n s else degrade 9 (raise 0xE1 (failedWrite n s)) := by
  simp [journalWriteFail, hw, failedWrite]

theorem degrade_only (b : Nat) (s : State) : ∃ e x, degrade b s = { s with evt := e, hlth := x } := by
  unfold degrade
  rw [raise_only]
  split
  · exact ⟨_, _, rfl⟩
  · exact ⟨_, _, rfl⟩

/-- The second failed write in a row degrades the part (R415). -/
theorem failedWrite_only (n : Nat) (s : State) : ∃ e x, degrade 9 (raise 0xE1 (failedWrite n s)) = { failedWrite n s with evt := e, hlth := x } := by
  obtain ⟨e, x, hd⟩ := degrade_only 9 (raise 0xE1 (failedWrite n s))
  rw [hd, raise_only]
  exact ⟨_, _, rfl⟩

theorem degrade_keeps_causes (b : Nat) {i : Nat} {s : State} (h : s.evt.cause.testBit i = true) : (degrade b s).evt.cause.testBit i = true := by
  unfold degrade
  split
  · exact h
  · exact raise_keeps_causes _ h

/-- A seal under a key that keeps its NC. -/
theorem exec_cryOp_sealsHost {h : Hdr} {p : CryOpP} {s : State} {out : List Byte} (hr : Ready h (.cryOp p) s) (hl : (slotOf s p.slot).state = 1)
    (hn : ¬ (h.flow = 1 ∧ (slotOf s p.slot).mat.nonceMode = 1))
    (hs : Seals p { (slotOf s p.slot).mat with usageCount := (slotOf s p.slot).mat.usageCount + 1 } out (cryReply 0 (slotOf s p.slot).mat.usageCount)
      (inFlightWith h (.cryOp p) s) (cryOp h p (inFlightWith h (.cryOp p) s))) :
    ∃ t, exec (.cryOp h p) s = .next t ∧ t.hif = answered h (.cryOp p) stOk 0 (cryReply 0 (slotOf s p.slot).mat.usageCount) s ∧
      t.hostMem = outputAt p.outAddr out s ∧ t.flash = s.flash ∧ (slotOf t p.slot).state = 1 ∧
      (slotOf t p.slot).mat.usageCount = (slotOf s p.slot).mat.usageCount + 1 ∧ (slotOf t p.slot).mat.key = (slotOf s p.slot).mat.key ∧
      (slotOf t p.slot).mat.nc = (if h.flow = 1 ∧ (slotOf s p.slot).mat.nonceMode = 1 then (slotOf s p.slot).mat.nc + 1 else (slotOf s p.slot).mat.nc) ∧
      ∀ n, n ≠ p.slot → slotOf t n = slotOf s n := by
  obtain ⟨t, he, hh, hm, hf, hk, ho⟩ := exec_cryOp_seals hr hs
  rw [if_neg hn]
  exact ⟨t, he, hh, hm, hf, by rw [hk]; exact hl, by rw [hk], by rw [hk], by rw [hk], ho⟩

/-- Settles O52: CRY_OP goes to the engine its flow names, and the other commands and events to their rules above. -/
theorem cipherEngines : Obligations.CipherEngines := by
  unfold Obligations.CipherEngines
  intro h s
  refine ⟨fun p hr => ?cryOp, fun p hr => ⟨fun hp => agentRun_refuses hr (crySign_bad hp _), fun hp h2 => ?otherSlot,
      fun hp h2 hi => agentRun_refuses hr (crySign_noIdentity hp h2 hi), fun hp h2 hi hs hb hu => ?signs⟩,
    fun p hr => ⟨fun hp => agentRun_refuses hr (cryVerify_bad hp _), fun hp hv => agentRun_refuses hr ?notVerified, fun hp hv => ?verified⟩,
    fun p hr => ⟨fun hp => agentRun_refuses hr (cryHash_bad hp _), fun hp ho hm => agentRun_answers hr _ (cryHash_wholeSha hp ho hm _) rfl rfl rfl rfl,
      fun hp ho hc => agentRun_refuses hr (cryHash_contextTaken hp ho hc),
      fun hp ho hm hc => agentRun_answers hr _ (cryHash_startsSha hp ho hm hc) rfl rfl rfl rfl,
      fun hp ho hc => agentRun_refuses hr (cryHash_noContext hp ho hc),
      fun x hp ho hc => agentRun_answers hr _ (cryHash_feeds hp ho hc) rfl rfl rfl rfl,
      fun x hp ho hc => agentRun_answers hr _ (cryHash_ends hp ho hc) rfl rfl rfl rfl⟩,
    fun p hr => ⟨fun hp => agentRun_refuses hr (cryXtsRegion_bad hp _),
      fun h16 h64 ho => agentRun_answers hr _ (cryXtsRegion_disables h16 h64 ho _) rfl rfl rfl rfl, fun hp hc => agentRun_refuses hr ?regionClash,
      fun hp hc hs hb => ?regionSet⟩,
    fun p hr => ⟨fun hp => agentRun_refuses hr (cryStatus_bad hp _), fun hp => agentRun_answers hr _ (cryStatus_reports hp _) rfl rfl rfl rfl⟩,
    fun e x l he hx hl => congrArg Host.Outcome.next (engineResume_resumes he hx hl), fun n w hq hw => ?entryDurable,
    fun n hw => ⟨congrArg Host.Outcome.next (journalWriteFail_idle hw), fun hq => ?noEntry⟩, fun n w hw => ?writeFails, fun hc => ?compacted, fun hc => ?notCompacting⟩
  case cryOp =>
    intro k m refused ok put opens live sealed
    let u := inFlightWith h (.cryOp p) s
    have hccm (hp : ok) (hf : h.flow = 0) (s : State) : cryOp h p s = cryCcm p s := by simp [cryOp_engine hp, hf]
    have hgcm (hp : ok) (hf : h.flow = 1) (s : State) : cryOp h p s = cryGcm p s := by simp [cryOp_engine hp, hf]
    have hxts (hp : ok) (hf : h.flow = 2) (s : State) : cryOp h p s = cryXts p s := by simp [cryOp_engine hp, hf]
    refine ⟨fun hp => agentRun_refuses hr (cryOp_bad hp _), fun hp hf hl => agentRun_refuses hr ?_,
      fun hp hf hl hl7 ho hb hk => exec_cryOp_sealsHost hr hk.1 (by omega) ?_, fun hp hf hl hl7 ho hs hb => exec_cryOp_opens hr ?_,
      fun hp hf ho hb hk hn hi => exec_cryOp_sealsHost hr hk.1 (fun hn' => ?_) ?_, fun hp hf ho hb hk hn hc hnr => ?_,
      fun hp hf ho hi hs hb => exec_cryOp_opens hr ?_, fun hp hf h16 hu hm hl hs hb => exec_cryOp_opens (got := some _) hr ?_⟩
    · exact (hccm hp hf _).trans (cryCcm_badLevel hl _)
    · rw [hccm hp hf]
      exact cryCcm_seals (s := u) hl hl7 ho ⟨hk.1, hb, hk.2⟩
    · rw [hccm hp hf]
      exact cryCcm_opens (s := u) hl hl7 ho ⟨hs, hb⟩
    · exact absurd (hn'.2.symm.trans hn) one_ne_zero
    · rw [hgcm hp hf]
      exact cryGcm_sealsHostIv (s := u) ho hi hn ⟨hk.1, hb, hk.2⟩
    · obtain ⟨t, he, hh, hm, hf', hk', ho'⟩ := exec_cryOp_seals hr (by rw [hgcm hp hf]; exact cryGcm_sealsDrawnIv (s := u) ho hn hc hnr ⟨hk.1, hb, hk.2⟩)
      refine ⟨t, he, hh, hm, hf', by rw [hk']; exact hk.1, by rw [hk']; rfl, by rw [hk']; rfl, ?_, ho'⟩
      rw [hk', if_pos ⟨hf, hn⟩]
      rfl
    · rw [hgcm hp hf]
      exact cryGcm_opens (s := u) ho hi ⟨hs, hb⟩
    · rw [hxts hp hf]
      exact cryXts_opens (s := u) h16 hu hm hl ⟨hs, hb⟩
  case otherSlot =>
    obtain ⟨e, l, hk⟩ := keyEvent_only 4 p.slot (secCnt 1 (inFlightWith h (.crySign p) s))
    exact ⟨_, agentRun_answers hr _ (crySign_otherSlot hp h2 _) (congrArg (·.hif) hk) (congrArg (·.time.c) hk) rfl rfl, rfl,
      congrArg (·.sec.slots) hk, congrArg (·.hostMem) hk⟩
  case signs =>
    obtain ⟨sig, e, sec, hsig, hk⟩ := crySign_signs (h := h) (s := inFlightWith h (.crySign p) s) hp h2 hi hs hb hu
    refine ⟨_, sig, agentRun_answers hr _ hsig rfl rfl rfl rfl, rfl, rfl, ?_⟩
    have : tget {} sec.slots 2 = used (slotOf s 2) := hk ▸ tget_tput_same ..
    exact congrArg (·.mat.usageCount) this
  case notVerified => simp [cryVerify_inRange hp, hv]
  case verified => exact agentRun_answers hr (done (inFlightWith h (.cryVerify p) s)) (by simp [cryVerify_inRange hp, hv]) rfl rfl rfl rfl
  case regionClash => exact (cryXtsRegion_inRange hp _).trans (if_pos ((regionClash_iff hp _).mpr hc))
  case regionSet =>
    have hx := cryXtsRegion_sets (h := h) (s := inFlightWith h (.cryXtsRegion p) s) hp hc hs hb
    exact ⟨_, agentRun_answers hr _ hx rfl rfl rfl rfl, rfl⟩
  case entryDurable =>
    obtain ⟨hm, ⟨e, c, f, hb⟩, hl, hf⟩ := journalEntryDurable_draws hw
    have hq' : (journalEntryDurable n s).lnk.waiting = [] := by rw [hb]; exact hq
    exact ⟨_, congrArg Host.Outcome.next (flushLinks_none hq'), hm, hl, hf⟩
  case noEntry => exact congrArg Host.Outcome.next ((congrArg flushLinks (journalEntryDurable_idle hw)).trans (flushLinks_none hq))
  case writeFails =>
    have hexec : exec (.journalWriteFail n) s = .next (if (slotOf s n).mat.writeFails = 0 then failedWrite n s
        else degrade 9 (raise 0xE1 (failedWrite n s))) := congrArg Host.Outcome.next (journalWriteFail_counts hw)
    obtain ⟨e, x, hb⟩ := failedWrite_only n s
    by_cases hz : (slotOf s n).mat.writeFails = 0
    · rw [if_pos hz] at hexec
      exact ⟨_, hexec, rfl, congrArg (·.mat) (slotOf_withKey ..), fun _ => ⟨rfl, rfl⟩, fun hn => absurd hz hn⟩
    · rw [if_neg hz] at hexec
      refine ⟨_, hexec, congrArg (·.flash) hb, ?_, fun h0 => absurd h0 hz, fun _ he => degrade_keeps_causes 9 (raise_sets he)⟩
      exact (congrArg (fun t => (slotOf t n).mat) hb).trans (congrArg (·.mat) (slotOf_withKey ..))
  case compacted => exact congrArg Host.Outcome.next (if_pos hc)
  case notCompacting => exact congrArg Host.Outcome.next (if_neg (by simp [hc]))

end Sys2Proof.Proofs
end

section
/-!
PROOFS. Own firmware (R431-R441, R456, R510): the journal, what each meaning and each event comes to, then the command path around the
commands.
-/
namespace Sys2Proof.Proofs
open Machine Safety Laws

/-! The journal of a slot (R435, R436). -/

/-- What an entry in a journal reaches: CNT of the unit and the journals. -/
def Entered (s t : State) : Prop :=
  ∃ c j, t = { s with upd := { s.upd with cnt := c }, flash := { s.flash with journal := j } }

theorem Entered.refl (s : State) : Entered s s := ⟨_, _, rfl⟩

theorem Entered.trans {s t u : State} (h : Entered s t) (k : Entered t u) : Entered s u := by
  obtain ⟨_, _, rfl⟩ := h
  obtain ⟨_, _, rfl⟩ := k
  exact ⟨_, _, rfl⟩

theorem journal_entered (x kind : Nat) (arg : List Byte) (s : State) : Entered s (journal x kind arg s) := by
  unfold journal
  extract_lets l seq m other
  split
  · exact ⟨_, _, rfl⟩
  · exact ⟨_, _, rfl⟩

theorem foldl_entered {α : Type} {f : State → α → State} (hf : ∀ s a, Entered s (f s a)) (l : List α) (s : State) : Entered s (l.foldl f s) := by
  induction l generalizing s with
  | nil => exact .refl s
  | cons a l ih => exact (hf s a).trans (ih _)

theorem mem_insertBy {α : Type} (r : α → α → Bool) (a : α) (l : List α) (x : α) : x ∈ insertBy r a l ↔ x = a ∨ x ∈ l := by
  induction l with
  | nil => simp [insertBy]
  | cons b l ih =>
    unfold insertBy
    split
    · simp
    · simp only [List.mem_cons, ih]
      tauto

theorem mem_isort {α : Type} (r : α → α → Bool) (l : List α) (x : α) : x ∈ isort r l ↔ x ∈ l := by
  induction l with
  | nil => rfl
  | cons a l ih => exact (mem_insertBy r a _ x).trans (by rw [List.mem_cons]; exact or_congr_right ih)

/-- Flushing HELD entries: every drop held is then in the journal, and nothing else of the image moves. -/
theorem flushHeld_enters (s : State) : ∃ c j n, flushHeld s = { s with
    upd := { s.upd with cnt := c, fw := { s.upd.fw with journaled := n } }, flash := { s.flash with journal := j } } ∧
    ∀ i ∈ s.upd.fw.held, i ∈ n := by
  unfold flushHeld
  extract_lets f new entered
  obtain ⟨c, j, he⟩ : Entered s entered := foldl_entered (fun s r => journal_entered ..) ..
  refine ⟨c, j, f.journaled ++ new, by rw [he]; rfl, fun i hi => ?_⟩
  by_cases hj : i ∈ f.journaled
  · exact List.mem_append_left _ hj
  · refine List.mem_append_right _ ((mem_isort ..).mpr (List.mem_filter.mpr ⟨hi, ?_⟩))
    simpa using hj

/-- What spoiling drops reaches: fewer are held, and none in writing is touched (R434, R437). -/
structure Spoils (s t : State) : Prop where
  blocks : ∃ c fw f, t = { s with upd := { s.upd with cnt := c, fw := fw }, flash := f }
  held : ∀ i ∈ t.upd.fw.held, i ∈ s.upd.fw.held
  pending : t.upd.fw.pendingDrops = s.upd.fw.pendingDrops

theorem Spoils.refl (s : State) : Spoils s s := ⟨⟨_, _, _, rfl⟩, fun _ h => h, rfl⟩

theorem Spoils.trans {s t u : State} (h : Spoils s t) (k : Spoils t u) : Spoils s u := by
  refine ⟨?_, fun i hi => h.held i (k.held i hi), k.pending.trans h.pending⟩
  obtain ⟨_, _, _, rfl⟩ := h.blocks
  obtain ⟨_, _, _, rfl⟩ := k.blocks
  exact ⟨_, _, _, rfl⟩

theorem Entered.spoils {s t : State} (h : Entered s t) : Spoils s t := by
  obtain ⟨_, _, rfl⟩ := h
  exact ⟨⟨_, _, _, rfl⟩, fun _ hi => hi, rfl⟩

theorem flushHeld_spoils (s : State) : Spoils s (flushHeld s) := by
  obtain ⟨_, _, _, hf, -⟩ := flushHeld_enters s
  rw [hf]
  exact ⟨⟨_, _, _, rfl⟩, fun _ hi => hi, rfl⟩

theorem spoil_spoils (a n : Nat) (s : State) : Spoils s (spoil a n s) := by
  unfold spoil
  extract_lets out entered kept
  have he : Spoils s entered := (flushHeld_spoils s).trans (journal_entered ..).spoils
  have hk : Spoils entered kept := ⟨⟨_, _, _, rfl⟩, fun i hi => (List.mem_filter.mp hi).1, rfl⟩
  exact (he.trans hk).trans ⟨⟨_, _, _, rfl⟩, fun _ hi => hi, rfl⟩

theorem foldl_spoils {α : Type} {f : State → α → State} (hf : ∀ s a, Spoils s (f s a)) (l : List α) (s : State) : Spoils s (l.foldl f s) := by
  induction l generalizing s with
  | nil => exact .refl s
  | cons a l ih => exact (hf s a).trans (ih _)

/-! UPD_OPEN of own firmware (R432). -/

/-- The ranges of UPD_OPEN, and a manifest of own firmware. -/
def fwOpenOk (p : UpdOpenP) : Prop :=
  p.replace ≤ 1 ∧ p.acceptMask ≤ 7 ∧ p.autoVerify ≤ 1 ∧ mfGood 0 p.manifest = true ∧ ownTarget p.manifest = true

/-- Signed by the fused key. -/
def Signed (m : List Byte) : Prop := signerKey m = Config.otpKeyHash ∧ sigGood m = true

theorem fwManifest_unsigned {m : List Byte} (hg : mfGood 0 m = true) (ho : ownTarget m = true) (hs : ¬ Signed m) (s : State) :
    fwManifest s m = stSigFail := by
  unfold Signed at hs
  by_cases hk : signerKey m = Config.otpKeyHash
  · have : sigGood m = false := by simpa [hk] using hs
    simp [fwManifest, hg, ho, hk, this]
  · simp [fwManifest, hg, ho, hk]

theorem fwManifest_signed {m : List Byte} (hg : mfGood 0 m = true) (ho : ownTarget m = true) (hs : Signed m) (s : State) :
    fwManifest s m = if mfSv m < s.otp.svBurnt then stRollback else if 1023 < mfSv m then stBadParam else stOk := by
  simp [fwManifest, hg, ho, hs.1, hs.2]

theorem openFw_bad {p : UpdOpenP} (hp : ¬ fwOpenOk p) (s : State) : openFw p s = refuse s stBadParam := by
  unfold openFw
  extract_lets st f
  by_cases hr : p.replace ≤ 1 ∧ p.acceptMask ≤ 7 ∧ p.autoVerify ≤ 1
  · have hst : st = stBadParam := by
      refine if_pos ?_
      simp only [Bool.or_eq_true, Bool.not_eq_true']
      unfold fwOpenOk at hp
      simpa [hr, or_iff_not_imp_left] using hp
    rw [hst]
    simp [stBadParam, stOk]
  · rw [if_pos]
    simp only [Bool.or_eq_true, decide_eq_true_eq]
    omega

theorem openFw_inRange {p : UpdOpenP} (hp : fwOpenOk p) : ¬ ((1 < p.replace || 7 < p.acceptMask || 1 < p.autoVerify) = true) := by
  simp only [Bool.or_eq_true, decide_eq_true_eq]
  unfold fwOpenOk at hp
  omega

theorem openFw_refuses {p : UpdOpenP} (hp : fwOpenOk p) {s : State} {st : Nat} (hm : fwManifest s p.manifest = st) (hs : st ≠ stOk) :
    openFw p s = refuse s st := by
  simp only [openFw, if_neg (openFw_inRange hp), hm, if_pos hs]

section
variable {p : UpdOpenP} {s : State} (hp : fwOpenOk p) (hm : fwManifest s p.manifest = stOk) (hd : s.sys.devState = .run)
include hp hm hd

/-- In RUN the image opens in the slot that does not run. -/
theorem openFw_onTrial (ht : s.sys.trial = true) : openFw p s = refuse s stBusy := by
  simp [openFw, openFw_inRange hp, hm, recoveryOpen, hd, ht]

theorem openFw_alreadyOpen (ht : s.sys.trial = false) (hs : s.upd.fw.state ≠ 0) (he : s.upd.fw.manifest = p.manifest) :
    openFw p s = done s (openReply s.upd.fw.held.length p.manifest) := by
  simp [openFw, openFw_inRange hp, hm, recoveryOpen, hd, ht, hs, he]

theorem openFw_otherOpen (ht : s.sys.trial = false) (hs : s.upd.fw.state ≠ 0) (he : s.upd.fw.manifest ≠ p.manifest) (hr : p.replace = 0) :
    openFw p s = refuse s stBusy := by
  simp only [openFw, if_neg (openFw_inRange hp), hm]
  simp [recoveryOpen, hd, ht, hs, he, hr]

/-- An image opened: its manifest in its slot, and no drop of it yet. -/
def openedFw (p : UpdOpenP) (f : FwUpd) : FwUpd := { f with
  state := 1, manifest := p.manifest, held := [], journaled := [], pendingDrops := [], acceptMask := p.acceptMask, intakePort := p.intakePort,
  autoVerify := decide (p.autoVerify = 1) }

theorem openFw_opens (ht : s.sys.trial = false) (ho : s.upd.fw.state = 0 ∨ (s.upd.fw.manifest ≠ p.manifest ∧ p.replace = 1)) :
    ∃ c j, openFw p s = done { s with
      upd := { s.upd with fw := openedFw p s.upd.fw, cnt := c },
      flash := { s.flash with
        slotManifest := tput s.flash.slotManifest (targetSlot s) p.manifest, slotImage := tput s.flash.slotImage (targetSlot s) [], journal := j } }
      (openReply 0 p.manifest) := by
  unfold openFw
  extract_lets st f x freed put opened
  have h1 : ¬ ((decide (f.state ≠ 0) && decide (f.manifest = p.manifest)) = true) := by
    simp only [Bool.and_eq_true, decide_eq_true_eq]
    tauto
  have h2 : ¬ ((decide (f.state ≠ 0) && decide (p.replace ≠ 1)) = true) := by
    simp only [Bool.and_eq_true, decide_eq_true_eq]
    tauto
  rw [if_neg (openFw_inRange hp), if_neg (not_not.mpr hm), if_neg (by simp [recoveryOpen, hd]), if_neg (by simp [hd, ht]), if_neg h1, if_neg h2]
  have hfreed : Entered s freed := by
    simp only [freed]
    split
    · exact journal_entered ..
    · exact .refl s
  obtain ⟨c, j, hf⟩ := hfreed
  obtain ⟨c', j', he⟩ := journal_entered x 1 (tagOf p.manifest) opened
  rw [he]
  simp only [opened, put, hf]
  exact ⟨_, _, rfl⟩
end

/-! UPD_BLOCK and DROP_INTAKE (R431, R433). -/

/-- The CNT that counts an outcome. -/
theorem countDrop_only (st : Nat) (s : State) : ∃ c, countDrop st s = { s with upd := { s.upd with cnt := c } } := ⟨_, rfl⟩

/-- The outcome of a drop of own firmware. -/
def fwDropCheck (s : State) (d : DropRec) : Nat :=
  dropCheck (decide (s.upd.fw.state ≠ 0)) s.upd.fw.manifest (fun i => s.upd.fw.held.contains i || (tfind s.upd.fw.pendingDrops i).isSome) d

theorem fwDrop_refused {d : DropRec} {s : State} (h : fwDropCheck s d ≠ stOk) : fwDrop d s = (countDrop (fwDropCheck s d) s, fwDropCheck s d) :=
  if_pos h

/-- A drop that checks is programmed: its read-back is to come. -/
theorem fwDrop_written {d : DropRec} {s : State} (h : fwDropCheck s d = stOk) : ∃ c, fwDrop d s = ({ s with upd := { s.upd with
    cnt := c, fw := { s.upd.fw with pendingDrops := tput s.upd.fw.pendingDrops d.index d.data } } }, stOk) := by
  unfold fwDrop
  extract_lets f st
  have hst : st = stOk := h
  rw [hst]
  exact ⟨_, rfl⟩

theorem dropCheck_badCrc {o : Bool} {m : List Byte} {g : Nat → Bool} {d : DropRec} (h : crc32c (dropHead d) ≠ d.crc) :
    dropCheck o m g d = stCheckFail := if_pos h

/-- One record alone: its own outcome. -/
theorem takeDrops_single (f : DropRec → State → State × Nat) (d : DropRec) (s : State) :
    takeDrops f 0 [d] (s, stOk, 0) = ((f d s).1, (f d s).2, if (f d s).2 = stOk then 1 else 0) := by
  simp [takeDrops, setBit]

theorem updBlock_badCount {h : Hdr} {p : UpdBlockP} (hp : p.records.length = 0 ∨ 15 < p.records.length) (s : State) :
    updBlock h p s = refuse s stBadParam := by
  rw [updBlock, if_pos]
  simpa using hp

section
variable {h : Hdr} {p : UpdBlockP} {d : DropRec} {s : State} (hp : p.records = [d]) (hd : s.sys.devState = .run)
include hp hd

theorem updBlock_own (hf : h.flow = 0) : updBlock h p s = blockFw h p s := by
  simp [updBlock, hp, hf, recoveryOpen, recoveryInit, hd]

theorem updBlock_verifying (hf : h.flow = 0) (hs : s.upd.fw.state = 2) : updBlock h p s = refuse s stBusy := by
  rw [updBlock_own hp hd hf, blockFw, if_pos hs]

/-- A path that accept_mask shuts: the drop is ignored (R433). -/
theorem updBlock_shut (hf : h.flow = 0) (hs : s.upd.fw.state ≠ 2) (hq : h.qp = 65) (ha : s.upd.fw.acceptMask.testBit 0 = false) :
    updBlock h p s = { st := withFw (fun f => { f with ignored := f.ignored + 1 }) s, status := stBadParam,
                       data := blockReply 0 s.upd.fw.held.length } := by
  rw [updBlock_own hp hd hf, blockFw, if_neg hs, if_pos (by simp [hq, bit, ha]), hp]
  rfl

theorem updBlock_takes (hf : h.flow = 0) (hs : s.upd.fw.state ≠ 2) (hq : h.qp ≠ 65 ∨ s.upd.fw.acceptMask.testBit 0 = true) :
    updBlock h p s = { st := (fwDrop d s).1, status := (fwDrop d s).2, data := blockReply (if (fwDrop d s).2 = stOk then 1 else 0) s.upd.fw.held.length,
                       wait := decide ((fwDrop d s).2 = stOk) } := by
  rw [updBlock_own hp hd hf, blockFw, if_neg hs, if_neg, hp, takeDrops_single]
  · dsimp only
    split <;> simp_all
  · simp only [bit, Bool.and_eq_true, decide_eq_true_eq, Bool.not_eq_true']
    rcases hq with hq | hq
    · exact fun hn => hq hn.1
    · exact fun hn => by simp [hq] at hn
end

/-! Drops of a campaign image (R445). -/

/-- A campaign with one more drop of its image. -/
def campWithDrop (k : CampSt) (d : DropRec) : CampSt := { k with drops := tput k.drops d.index d.data }

theorem campOf_withCamp (c : Nat) (f : CampSt → CampSt) (s : State) : campOf (withCamp c f s) c = f (campOf s c) := tget_tput_same ..

/-- An image that is not complete is not checked yet. -/
theorem campCheck_incomplete {c : Nat} {s : State} (h : (campOf s c).drops.length < mfDrops (campOf s c).manifest) : campCheck c s = s := by
  unfold campCheck
  rw [if_pos (by simp [h])]

theorem campDrop_incomplete {c : Nat} {d : DropRec} {s : State} (hk : 2 ≤ (campOf s c).state)
    (hc : dropCheck true (campOf s c).manifest (fun i => (tfind (campOf s c).drops i).isSome) d = stOk)
    (hl : (campWithDrop (campOf s c) d).drops.length < mfDrops (campOf s c).manifest) :
    ∃ n, campDrop c d s = ({ s with upd := { s.upd with cnt := n, camps := tput s.upd.camps c (campWithDrop (campOf s c) d) } }, stOk) := by
  unfold campDrop
  extract_lets k st
  have hst : st = stOk := by simpa [st, k, hk] using hc
  have hw : campOf (countDrop st (withCamp c (fun k => { k with drops := tput k.drops d.index d.data }) s)) c = campWithDrop k d :=
    campOf_withCamp c (fun k => campWithDrop k d) s
  rw [if_neg (not_not.mpr hst), campCheck_incomplete (by rw [hw]; exact hl), hst]
  exact ⟨_, rfl⟩

theorem updBlock_campaign {h : Hdr} {p : UpdBlockP} {d : DropRec} {s : State} (hp : p.records = [d]) (hd : s.sys.devState = .run) (hf : h.flow ≠ 0)
    (hk : 2 ≤ (campOf s (h.flow - 0x100)).state)
    (hc : dropCheck true (campOf s (h.flow - 0x100)).manifest (fun i => (tfind (campOf s (h.flow - 0x100)).drops i).isSome) d = stOk)
    (hl : (campWithDrop (campOf s (h.flow - 0x100)) d).drops.length < mfDrops (campOf s (h.flow - 0x100)).manifest) :
    let k := campWithDrop (campOf s (h.flow - 0x100)) d
    ∃ n, updBlock h p s = done { s with upd := { s.upd with cnt := n, camps := tput s.upd.camps (h.flow - 0x100) k } } (blockReply 1 k.drops.length) := by
  obtain ⟨n, hn⟩ := campDrop_incomplete hk hc hl
  refine ⟨n, ?_⟩
  simp only [updBlock, hp, takeDrops_single, hn]
  simp [hf, hd, done, campOf]

/-! UPD_STATUS and UPD_VERIFY (R437, R456). -/

theorem updStatus_bad {h : Hdr} {p : UpdStatusP} (hp : 1 < p.clear) (s : State) : updStatus h p s = refuse s stBadParam := by
  simp [updStatus, hp]

/-- Status reported: the bitmap or table at the buffer, and CNT cleared where asked. -/
def statusReported (p : UpdStatusP) (table : List Byte) (s : State) : State := { s with
  hostMem := outputAt p.bufferAddr table s, upd := if p.clear = 1 then { s.upd with cnt := [] } else s.upd }

theorem clear_toHost (p : UpdStatusP) (table : List Byte) (s : State) :
    (if p.clear = 1 then withUpd (fun u => { u with cnt := [] }) (toHost p.bufferAddr table s) else toHost p.bufferAddr table s) =
      statusReported p table s := by
  rw [toHost_outputAt, statusReported]
  split <;> rfl

theorem updStatus_own {h : Hdr} {p : UpdStatusP} (hp : p.clear ≤ 1) (hf : h.flow = 0) (s : State) :
    updStatus h p s = done (statusReported p (bitmapOf (mfDrops s.upd.fw.manifest) s.upd.fw.held.contains) s)
      (le 1 (fwStatusWord s) ++ zeros 3 ++ le 4 s.upd.fw.held.length ++ le 4 (mfDrops s.upd.fw.manifest) ++ le 4 (mfSv s.upd.fw.manifest) ++
        le 4 s.otp.svBurnt ++ le 4 s.upd.fw.imageVersion) := by
  simp only [updStatus, Nat.not_lt.mpr hp, hf, if_false, if_true, clear_toHost]

theorem updStatus_campaign {h : Hdr} {p : UpdStatusP} (hp : p.clear ≤ 1) (hf : h.flow ≠ 0) (s : State) :
    let k := campOf s (h.flow - 0x100)
    updStatus h p s = done (statusReported p ((List.range 4096).flatMap (fun i =>
        le 4 (k.members.filter (fun m => decide (m.2.state = 0) && !mapBit m.2.bitmap i)).length)) s)
      (le 1 k.state ++ le 1 k.round ++ zeros 2 ++ le 4 k.members.length ++ le 4 (membersIn k 0) ++ le 4 (membersIn k 1) ++
        le 4 (membersIn k 2 + membersIn k 3) ++ le 4 (membersIn k 4)) := by
  simp only [updStatus, Nat.not_lt.mpr hp, hf, if_false, clear_toHost]

/-- Nothing to verify, a verification on its way, or drops missing. -/
def VerifyBusy (s : State) : Prop := s.upd.fw.state = 0 ∨ s.upd.fw.state = 2 ∨ s.upd.fw.held.length < mfDrops s.upd.fw.manifest

theorem updVerify_busy {h : Hdr} {p : UpdVerifyP} {s : State} (hb : VerifyBusy s) : updVerify h p s = refuse s stBusy := by
  unfold VerifyBusy at hb
  rw [updVerify, if_pos]
  simpa [or_assoc] using hb

theorem updVerify_starts {h : Hdr} {p : UpdVerifyP} {s : State} (hb : ¬ VerifyBusy s) :
    updVerify h p s = { st := startVerify (freshJob s) s, status := stPending, info := freshJob s } := by
  unfold VerifyBusy at hb
  rw [updVerify, if_neg]
  simpa [or_assoc] using hb

/-! Boot record, trial and commit (R438-R442). -/

/-- What a burn of the security version reaches: the version never falls (R440, R442). -/
structure BurnsVersion (s t : State) : Prop where
  blocks : ∃ free evt otp hlth, t = { s with free := free, evt := evt, otp := otp, hlth := hlth }
  grows : s.otp.svBurnt ≤ t.otp.svBurnt

theorem BurnsVersion.refl (s : State) : BurnsVersion s s := ⟨⟨_, _, _, _, rfl⟩, le_rfl⟩

theorem BurnsVersion.trans {s t u : State} (h : BurnsVersion s t) (k : BurnsVersion t u) : BurnsVersion s u := by
  refine ⟨?_, h.grows.trans k.grows⟩
  obtain ⟨_, _, _, _, rfl⟩ := h.blocks
  obtain ⟨_, _, _, _, rfl⟩ := k.blocks
  exact ⟨_, _, _, _, rfl⟩

theorem BurnsClear.version {s t : State} (h : BurnsClear s t) : BurnsVersion s t := ⟨h.blocks, h.svBurnt.ge⟩

theorem burnsVersion_burnStep (n : Nat) (s : State) : BurnsVersion s (burnStep 0 n s) := by
  induction n generalizing s with
  | zero => exact .refl s
  | succ n ih =>
    rw [burnStep]
    cases openBank s 0 with
    | none => exact .refl s
    | some b =>
      have ht : BurnsVersion s (tick1 s) := ⟨⟨_, _, _, _, rfl⟩, le_rfl⟩
      dsimp only
      split
      · exact ht.trans ⟨⟨_, _, _, _, rfl⟩, Nat.le_succ _⟩
      · exact (ht.trans (burnsClear_retireBank ..).version).trans (ih _)

theorem burnsVersion_foldl (l : List Nat) (s : State) : BurnsVersion s (l.foldl (fun s _ => burnStep 0 16 s) s) := by
  induction l generalizing s with
  | nil => exact .refl s
  | cons i l ih => exact (burnsVersion_burnStep 16 s).trans (ih _)

/-- The version burnt to v, and BURN_PENDING. -/
theorem burnTo_burns (v : Nat) (s : State) : ∃ t b, BurnsVersion s t ∧ burnTo v s = withFw (fun f => { f with burnPending := b }) t :=
  ⟨_, _, burnsVersion_foldl .., rfl⟩

/-- What a commit leaves: no trial, and a boot record that names the slot that runs (R440). -/
structure Commits (s t : State) : Prop where
  hif : t.hif = s.hif
  time : t.time = s.time
  trial : t.sys.trial = false
  grows : s.otp.svBurnt ≤ t.otp.svBurnt
  boot : t.flash.bootRec = { s.flash.bootRec with
    valid := true, seq := (s.flash.bootRec.seq + 1) % 2 ^ 32, trial := false, committed := s.sys.bootSlot }

theorem commitSlot_commits (s : State) : Commits s (commitSlot s) := by
  unfold commitSlot
  extract_lets booted burnt
  obtain ⟨t, b, hb, ht⟩ := burnTo_burns booted.flash.bootRec.trialSv (withSys (fun x => { x with trial := false }) booted)
  obtain ⟨c, j, he⟩ := journal_entered burnt.sys.bootSlot 6 [] burnt
  have hg := hb.grows
  obtain ⟨_, _, _, _, hx⟩ := hb.blocks
  have hburnt : burnt = withFw (fun f => { f with burnPending := b }) t := ht
  rw [he, hburnt]
  exact ⟨by rw [hx]; rfl, by rw [hx]; rfl, by rw [hx]; rfl, hg, by rw [hx]; rfl⟩

theorem updActivate_bad {h : Hdr} {p : UpdActivateP} (hp : 2 < p.op ∨ 1 < p.restart) (s : State) : updActivate h p s = refuse s stBadParam := by
  rw [updActivate, if_pos]
  simpa using hp

section
variable {h : Hdr} {p : UpdActivateP} {s : State} (hp : s.sys.devState = .run ∧ p.op ≤ 2 ∧ p.restart ≤ 1)
include hp

theorem updActivate_inRun : updActivate h p s = if p.op = 0 then trialSlot p s else if s.sys.trial = false then refuse s stBusy
    else if p.op = 1 then done (commitSlot s) (activateReply (commitSlot s))
    else
      let t := writeBoot (fun b => { b with preferred := b.committed, trial := false }) s
      done (withSys (fun x => { x with resetNext := some .warm }) t) (activateReply t) := by
  obtain ⟨hd, ho, hr⟩ := hp
  rw [updActivate, if_neg (by simp [ho, hr]), if_neg (by simp [recoveryOpen, hd]), if_neg (by simp [hd])]
  simp only [Bool.not_eq_true']

theorem updActivate_unverified (h0 : p.op = 0) (h3 : s.upd.fw.state ≠ 3) (h4 : s.upd.fw.state ≠ 4) : updActivate h p s = refuse s stBusy := by
  rw [updActivate_inRun hp, if_pos h0, trialSlot, if_pos (by simp [h3, h4])]

theorem updActivate_noTrial (h0 : p.op ≠ 0) (ht : s.sys.trial = false) : updActivate h p s = refuse s stBusy := by
  rw [updActivate_inRun hp, if_neg h0, if_pos ht]

/-- The boot record that puts the verified slot on trial (R439). -/
def trialBoot (s : State) : BootRec := { s.flash.bootRec with
  valid := true, seq := (s.flash.bootRec.seq + 1) % 2 ^ 32, preferred := targetSlot s, trial := true, trialSv := mfSv s.upd.fw.manifest,
  trialTag := tagOf s.upd.fw.manifest }

theorem updActivate_trial (h0 : p.op = 0) (hv : s.upd.fw.state = 3 ∨ s.upd.fw.state = 4) : ∃ c j, updActivate h p s = done { s with
    upd := { s.upd with cnt := c, fw := { s.upd.fw with state := 4, commitAfterS := p.commitAfterS } },
    flash := { s.flash with bootRec := trialBoot s, journal := j },
    sys := { s.sys with resetNext := if p.restart = 1 then some .warm else s.sys.resetNext } }
    (le 4 ((s.flash.bootRec.seq + 1) % 2 ^ 32) ++ le 2 s.otp.svBurnt) := by
  rw [updActivate_inRun hp, if_pos h0]
  unfold trialSlot
  extract_lets m booted entered
  rw [if_neg (by simp; tauto)]
  obtain ⟨c, j, he⟩ := journal_entered (targetSlot booted) 5 [] (withFw (fun f => { f with state := 4, commitAfterS := p.commitAfterS }) booted)
  have hen : entered = _ := he
  rw [hen]
  refine ⟨c, j, ?_⟩
  split <;> rfl

theorem updActivate_commits (h1 : p.op = 1) (ht : s.sys.trial = true) :
    updActivate h p s = done (commitSlot s) (activateReply (commitSlot s)) := by
  rw [updActivate_inRun hp, if_neg (by omega), if_neg (by simp [ht]), if_pos h1]

theorem updActivate_reverts (h2 : p.op = 2) (ht : s.sys.trial = true) : updActivate h p s = done { s with
    sys := { s.sys with resetNext := some .warm },
    flash := { s.flash with bootRec := { s.flash.bootRec with
      valid := true, seq := (s.flash.bootRec.seq + 1) % 2 ^ 32, preferred := s.flash.bootRec.committed, trial := false } } }
    (le 4 ((s.flash.bootRec.seq + 1) % 2 ^ 32) ++ le 2 s.otp.svBurnt) := by
  rw [updActivate_inRun hp, if_neg (by omega), if_neg (by simp [ht]), if_neg (by omega)]
  rfl
end

/-! DROP_DURABLE (R431, R434, R436). -/

theorem settleBlocks_hif (bad : Nat) (s : State) : ∃ f, settleBlocks bad s = { s with hif := f } := ⟨_, rfl⟩

/-- A drop held once it reads back: it is in the slot's image, and the last one may start the verification. -/
structure Holds (i : Nat) (data : List Byte) (s t : State) : Prop where
  blocks : ∃ n e c fw f, t = { s with free := n, evt := e, upd := { s.upd with cnt := c, fw := fw }, flash := f }
  pending : t.upd.fw.pendingDrops = s.upd.fw.pendingDrops
  held : t.upd.fw.held = s.upd.fw.held ++ [i]
  image : tfind (tget [] t.flash.slotImage (targetSlot s)) i = some data

theorem dropHeld_holds (i : Nat) (data : List Byte) (s : State) : Holds i data s (dropHeld i data s) := by
  unfold dropHeld
  extract_lets x put held f full entered raised
  have hheld : Holds i data s held := ⟨⟨_, _, _, _, _, rfl⟩, rfl, rfl, by
    change tfind (tget [] (tput s.flash.slotImage x _) x) i = some data
    rw [tget_tput_same, tfind_tput, if_pos rfl]⟩
  have hentered : Holds i data s entered := by
    simp only [entered]
    split
    · obtain ⟨c, j, n, hf, -⟩ := flushHeld_enters held
      rw [hf]
      exact ⟨⟨_, _, _, _, _, rfl⟩, hheld.pending, hheld.held, hheld.image⟩
    · exact hheld
  have hraised : Holds i data s raised := by
    obtain ⟨⟨_, _, _, _, _, hb⟩, hp, hh, hi⟩ := hentered
    obtain ⟨e, he⟩ := raiseIf_evt full 0x0F7 entered
    have hraise : raised = { entered with evt := e } := he
    rw [hraise]
    exact ⟨⟨_, e, _, _, _, by rw [hb]⟩, hp, hh, hi⟩
  clear_value raised
  split
  · obtain ⟨⟨_, _, _, _, _, hb⟩, hp, hh, hi⟩ := hraised
    exact ⟨⟨_, _, _, _, _, by rw [startVerify, hb]; rfl⟩, hp, hh, hi⟩
  · exact hraised

/-! Health reports (R525, R532). -/

/-- What a report of the part's health reaches: events, no routing of them, and the health block. No cause bit is lost. -/
def Alerts (s t : State) : Prop :=
  ∃ e x, t = { s with evt := e, hlth := x } ∧ e.srcCfg = s.evt.srcCfg ∧ ∀ n, s.evt.cause.testBit n = true → e.cause.testBit n = true

theorem Alerts.refl (s : State) : Alerts s s := ⟨_, _, rfl, rfl, fun _ h => h⟩

theorem Alerts.trans {s t u : State} (h : Alerts s t) (k : Alerts t u) : Alerts s u := by
  obtain ⟨e, x, rfl, hc, hk⟩ := h
  obtain ⟨e', x', rfl, hc', hk'⟩ := k
  exact ⟨e', x', rfl, hc'.trans hc, fun n hn => hk' n (hk n hn)⟩

theorem Alerts.routing {s t : State} (h : Alerts s t) (n : Nat) : srcCfgOf t n = srcCfgOf s n := by
  obtain ⟨_, _, rfl, hc, -⟩ := h
  simp only [srcCfgOf, hc]

theorem alerts_raise (n : Nat) (s : State) : Alerts s (raise n s) := by
  have hk (i : Nat) (h : s.evt.cause.testBit i = true) := raise_keeps_causes n h
  rw [raise_only] at hk ⊢
  exact ⟨_, _, rfl, rfl, hk⟩

theorem alerts_raiseW (n w : Nat) (s : State) : Alerts s (raiseW n w s) := by
  have hw : Alerts s (withEvt (fun e => { e with words := tput e.words n w }) s) := ⟨_, _, rfl, rfl, fun _ h => h⟩
  exact hw.trans (alerts_raise ..)

theorem alerts_withHlth (f : HlthSt → HlthSt) (s : State) : Alerts s (withHlth f s) := ⟨_, _, rfl, rfl, fun _ h => h⟩

theorem alerts_degrade (b : Nat) (s : State) : Alerts s (degrade b s) := by
  unfold degrade
  split
  · exact .refl s
  · exact (alerts_withHlth ..).trans (alerts_raise ..)

theorem alerts_exhausted (kind : Nat) (s : State) : Alerts s (exhausted kind s) := (alerts_raiseW ..).trans (alerts_degrade ..)

/-- A flash block's replacement: a report, and one more block in the flash's list at most. -/
theorem remapBlock_alerts (b : Nat) (s : State) : ∃ f, Alerts (withFlash f s) (remapBlock b s).1 := by
  unfold remapBlock
  extract_lets counted
  have hc : Alerts s counted := alerts_withHlth ..
  split
  · exact ⟨id, hc⟩
  · split
    · exact ⟨id, hc.trans (alerts_exhausted ..)⟩
    · exact ⟨fun f => { f with flashRemaps := f.flashRemaps ++ [b] },
        (alerts_withHlth (fun h => { h with cnt := bump h.cnt 3 }) (withFlash _ s)).trans (alerts_raise ..)⟩

/-- What a drop that could be written nowhere reaches: fewer drops are held, and its event is raised (R434). -/
structure DropSpoilt (s t : State) : Prop where
  blocks : ∃ u e x f, t = { s with upd := u, evt := e, hlth := x, flash := f }
  pending : t.upd.fw.pendingDrops = s.upd.fw.pendingDrops
  held : ∀ j ∈ t.upd.fw.held, j ∈ s.upd.fw.held
  event : (srcCfgOf s 0xF2).enable = true → t.evt.cause.testBit 0xF2 = true

theorem Spoils.routing {s t : State} (h : Spoils s t) (n : Nat) : srcCfgOf t n = srcCfgOf s n := by
  obtain ⟨⟨_, _, _, rfl⟩, -, -⟩ := h
  rfl

theorem Spoils.dropSpoilt {f : FlashSt → FlashSt} {s t u : State} (hr : Alerts (withFlash f s) t) (hs : Spoils t u) :
    DropSpoilt s (raise 0x0F2 u) := by
  have hcfg : srcCfgOf u 0xF2 = srcCfgOf s 0xF2 := (hs.routing _).trans (hr.routing _)
  have he : (srcCfgOf s 0xF2).enable = true → (raise 0xF2 u).evt.cause.testBit 0xF2 = true := fun h => raise_sets (by rw [hcfg]; exact h)
  obtain ⟨_, _, rfl, -, -⟩ := hr
  obtain ⟨⟨_, _, _, rfl⟩, hh, hp⟩ := hs
  refine ⟨?_, by rw [raise_only]; exact hp, by rw [raise_only]; exact hh, he⟩
  rw [raise_only]
  exact ⟨_, _, _, _, rfl⟩

theorem dropSpoilt_spoils (i : Nat) (s : State) : DropSpoilt s (dropSpoilt i s) := by
  unfold dropSpoilt
  extract_lets x z b inBlock remapped
  obtain ⟨f, hr⟩ : ∃ f, Alerts (withFlash f s) remapped := remapBlock_alerts b s
  exact Spoils.dropSpoilt hr (foldl_spoils (fun s r => spoil_spoils ..) ..)

theorem dropDurable_idle {i : Nat} {a b : Bool} {s : State} (h : tfind s.upd.fw.pendingDrops i = none) : dropDurable i a b s = s := by
  simp only [dropDurable, h]

theorem dropDurable_held {i : Nat} {a b : Bool} {data : List Byte} {s : State} (h : tfind s.upd.fw.pendingDrops i = some data)
    (hk : a = true ∨ b = true) : ∃ f, dropDurable i a b s =
      { dropHeld i data (withFw (fun f => { f with pendingDrops := tdel f.pendingDrops i }) s) with hif := f } := by
  obtain ⟨f, hf⟩ := settleBlocks_hif 0xFFFFFFFF (dropHeld i data (withFw (fun f => { f with pendingDrops := tdel f.pendingDrops i }) s))
  refine ⟨f, ?_⟩
  rw [← hf]
  simp only [dropDurable, h]
  exact if_pos (by simpa using hk)

theorem dropDurable_lost {i : Nat} {a b : Bool} {data : List Byte} {s : State} (h : tfind s.upd.fw.pendingDrops i = some data)
    (hk : ¬ (a = true ∨ b = true)) : ∃ f, dropDurable i a b s =
      { dropSpoilt i (withFw (fun f => { f with pendingDrops := tdel f.pendingDrops i }) s) with hif := f } := by
  obtain ⟨f, hf⟩ := settleBlocks_hif i (dropSpoilt i (withFw (fun f => { f with pendingDrops := tdel f.pendingDrops i }) s))
  refine ⟨f, ?_⟩
  rw [← hf]
  simp only [dropDurable, h]
  exact if_neg (by simpa using hk)

/-! DROP_INTAKE (R433). -/

theorem dropIntake_ofPath {path : Nat} {d : DropRec} {l : List (Nat × DropRec)} {s : State} (hi : s.upd.intake = (path, d) :: l) (hp : path ≠ 1) :
    dropIntake s = if !bit s.upd.fw.acceptMask path
      then withFw (fun f => { f with ignored := f.ignored + 1 }) (withUpd (fun u => { u with intake := l }) s)
      else (fwDrop d (withUpd (fun u => { u with intake := l }) s)).1 := by
  simp only [dropIntake, hi, if_neg hp]
  rfl

theorem dropIntake_shut {path : Nat} {d : DropRec} {l : List (Nat × DropRec)} {s : State} (hi : s.upd.intake = (path, d) :: l) (hp : path ≠ 1)
    (ha : s.upd.fw.acceptMask.testBit path = false) :
    dropIntake s = withFw (fun f => { f with ignored := f.ignored + 1 }) (withUpd (fun u => { u with intake := l }) s) := by
  rw [dropIntake_ofPath hi hp, if_pos (by simp [bit, ha])]

theorem dropIntake_takes {path : Nat} {d : DropRec} {l : List (Nat × DropRec)} {s : State} (hi : s.upd.intake = (path, d) :: l) (hp : path ≠ 1)
    (ha : s.upd.fw.acceptMask.testBit path = true) : dropIntake s = (fwDrop d (withUpd (fun u => { u with intake := l }) s)).1 := by
  rw [dropIntake_ofPath hi hp, if_neg (by simp [bit, ha])]

/-! FW_VERIFY_DONE and AUTO_COMMIT_TIMER (R437, R441). -/

/-- The outcome of a verification: no fuse is burnt, and EV_FW_VERIFY is raised. -/
structure VerifyEnds (s t : State) : Prop where
  otp : t.otp = s.otp
  event : (srcCfgOf s 0xF0).enable = true → t.evt.cause.testBit 0xF0 = true

theorem verifyEnds_raiseW {s t : State} (w : Nat) (ho : t.otp = s.otp) (hc : srcCfgOf t 0xF0 = srcCfgOf s 0xF0) : VerifyEnds s (raiseW 0xF0 w t) :=
  ⟨by rw [raiseW_only]; exact ho, fun h => raiseW_sets w (hc ▸ h)⟩

/-- The segments that did not verify. -/
def badSegs (failed : Option Nat) (s : State) : List Nat :=
  (List.range (mfSegs s.upd.fw.manifest)).filter (fun i =>
    failed = some i || !segHashGood s.upd.fw.manifest (tget [] s.flash.slotImage (targetSlot s)) i)

theorem fwVerifyDone_idle {failed : Option Nat} {ok : Bool} {s : State} (h : s.upd.fw.state ≠ 2) : fwVerifyDone failed ok s = s := if_pos h

/-- The image verified: its hash is that of the manifest. -/
def hashGood (s : State) : Prop :=
  sha256 (imageOf s.upd.fw.manifest (tget [] s.flash.slotImage (targetSlot s))) = mfHash s.upd.fw.manifest

theorem fwVerifyDone_verified {failed : Option Nat} {s : State} (h : s.upd.fw.state = 2) (hb : badSegs failed s = []) (hh : hashGood s) :
    VerifyEnds s (fwVerifyDone failed true s) ∧ (fwVerifyDone failed true s).upd.fw = { s.upd.fw with state := 3 } ∧
      (fwVerifyDone failed true s).flash.slotImage = s.flash.slotImage := by
  obtain ⟨c, j, he⟩ := journal_entered (targetSlot s) 4 [] (withFw (fun f => { f with state := 3 }) s)
  have ht : fwVerifyDone failed true s = raiseW 0x0F0 (Config.outcomeWord 0x0F0 stOk 0 % 2 ^ 32)
      (journal (targetSlot s) 4 [] (withFw (fun f => { f with state := 3 }) s)) := by
    unfold fwVerifyDone
    extract_lets f m drops bad
    have hbad : bad = [] := hb
    rw [if_neg (not_not.mpr h), hbad]
    exact if_pos (by rw [Bool.true_and]; exact decide_eq_true hh)
  rw [ht]
  refine ⟨verifyEnds_raiseW _ (by rw [he]; rfl) (by rw [he]; rfl), ?_, ?_⟩
  · rw [raiseW_only]
    exact congrArg (·.upd.fw) he
  · rw [raiseW_only]
    exact congrArg (·.flash.slotImage) he

/-- The verification failed: the image is open again for the drops that a bad segment has lost (R437). -/
theorem fwVerifyDone_failed {failed : Option Nat} {ok : Bool} {s : State} (h : s.upd.fw.state = 2)
    (hb : badSegs failed s ≠ [] ∨ ¬ hashGood s ∨ ok = false) :
    VerifyEnds s (fwVerifyDone failed ok s) ∧ (fwVerifyDone failed ok s).upd.fw.state = 1 := by
  have key {t : State} (w : Nat) (ho : t.otp = s.otp) (hc : srcCfgOf t 0xF0 = srcCfgOf s 0xF0) :
      VerifyEnds s (raiseW 0xF0 w (withFw (fun f => { f with state := 1 }) t)) ∧
        (raiseW 0xF0 w (withFw (fun f => { f with state := 1 }) t)).upd.fw.state = 1 :=
    ⟨verifyEnds_raiseW w ho hc, by rw [raiseW_only]; rfl⟩
  unfold fwVerifyDone
  extract_lets f m drops bad z spoilt
  rw [if_neg (not_not.mpr h)]
  have hs : Spoils s spoilt := foldl_spoils (fun s b => by
    dsimp only
    split
    · exact .refl s
    · exact spoil_spoils ..) ..
  cases hd : bad.head? with
  | some i =>
    have hc := hs.routing 0xF0
    obtain ⟨_, _, _, hx⟩ := hs.blocks
    exact key _ (by rw [hx]) hc
  | none =>
    have hbad : badSegs failed s = [] := List.head?_eq_none_iff.mp hd
    have hn : ¬ ((ok && decide (sha256 (imageOf m drops) = mfHash m)) = true) := by
      rcases hb with hb | hb | hb
      · exact absurd hbad hb
      · exact fun hk => hb (show sha256 (imageOf m drops) = mfHash m from of_decide_eq_true ((Bool.and_eq_true _ _).mp hk).2)
      · simp [hb]
    exact (if_neg hn).symm ▸ key _ rfl rfl

/-- A trial that ran its time without a degraded reason (R441). -/
def CommitDue (s : State) : Prop := s.sys.devState = .run ∧ s.sys.trial = true ∧ s.upd.fw.commitAfterS ≠ 0 ∧ s.hlth.degraded = 0

theorem autoCommit_due {s : State} (h : CommitDue s) : autoCommit s = commitSlot s := by
  obtain ⟨hd, ht, hc, hg⟩ := h
  simp [autoCommit, hd, ht, hc, hg]

theorem autoCommit_notDue {s : State} (h : ¬ CommitDue s) : autoCommit s = s := by
  refine if_pos ?_
  simp only [Bool.or_eq_true, decide_eq_true_eq, Bool.not_eq_true']
  unfold CommitDue at h
  by_contra hn
  simp only [not_or, not_not, Bool.not_eq_false] at hn
  obtain ⟨⟨⟨hd, ht⟩, hc⟩, hg⟩ := hn
  exact h ⟨hd, ht, hc, hg⟩

/-! The command path. -/

/-- A command that is Ready and whose reply waits with what it holds already (R120, R431). -/
theorem agentRun_waitsWith {h : Hdr} {c : Cmd} {run : State → Res} {s t : State} {st : Nat} {data : List Byte} (hr : Ready h c s)
    (he : run (inFlightWith h c s) = { st := t, status := st, data := data, wait := true }) (hh : t.hif = (inFlightWith h c s).hif) :
    agentRun h c run s = .next { t with hif := { s.hif with
      flights := s.hif.flights ++ [{ newFlight h c s with waiting := true, status := st, data := data }] } } := by
  have hn := not_isFor (c := c) hr.2.1
  have hf : t.hif = { s.hif with flights := s.hif.flights ++ [newFlight h c s] } := hh
  rw [agentRun_ready hr, he]
  simp only [complete, withHif, hf, modFirst_append_new _ _ hn (isFor_new h c s)]
  rfl

/-- A flight of the command's own is the one that joined. -/
theorem flight_isNew {h : Hdr} {c : Cmd} {s : State} {g x : Flight} (hr : Ready h c s) (hg : g ∈ s.hif.flights ++ [x]) (hh : g.hdr = h)
    (hq : g.qp = h.qp) : g = x := by
  rcases List.mem_append.mp hg with hm | hm
  · exact absurd ⟨hq, by rw [hh]⟩ (hr.2.1 g hm)
  · exact List.mem_singleton.mp hm

/-- Settles O54: each command is Ready, so its reply is what its meaning comes to; each event comes to its rule above. -/
theorem firmwareUpdate : Obligations.FirmwareUpdate := by
  unfold Obligations.FirmwareUpdate
  intro h s f x
  refine ⟨fun p hr hf => ?opens, fun p hr => ⟨fun hp => agentRun_refuses hr (updBlock_badCount hp _), fun d hp hd => ⟨?verifying, ?shut, ?takes, ?camp⟩⟩,
    fun p hr => ⟨fun hp => agentRun_refuses hr (updStatus_bad hp _),
      fun hp hf => agentRun_answers hr _ (updStatus_own hp hf _) rfl (by rfl) rfl rfl,
      fun hp hf => agentRun_answers hr _ (updStatus_campaign hp hf _) rfl (by rfl) rfl rfl⟩,
    fun p hr => ⟨fun hb => agentRun_refuses hr (updVerify_busy hb),
      fun hb => agentRun_answers hr _ (updVerify_starts (s := inFlightWith h (.updVerify p) s) hb) rfl rfl rfl rfl⟩,
    fun p hr => ?activate, fun hi => ?noIntake, fun path d l hi hp => ?intake, fun i a b hn => ?notPending, fun i a b data hd => ?durable,
    fun hl => congrArg Host.Outcome.next (if_pos hl), fun hl => ?flush, fun bad ok hn => congrArg Host.Outcome.next (fwVerifyDone_idle hn),
    fun bad ok h2 => ?verified, fun hn => congrArg Host.Outcome.next (autoCommit_notDue hn), fun hd => ?commit⟩
  case opens =>
    intro m answer ok signed good
    let u := inFlightWith h (.updOpen p) s
    have hown : updOpen h p u = openFw p u := if_pos hf
    have hm (hk : ok) (hs : signed) : fwManifest u m = if mfSv m < s.otp.svBurnt then stRollback else if 1023 < mfSv m then stBadParam else stOk :=
      fwManifest_signed hk.2.2.2.1 hk.2.2.2.2 hs u
    have hpass (hg : good) : fwManifest u m = stOk := by
      obtain ⟨hk, hs, hv, hv', -⟩ := hg
      rw [hm hk hs, if_neg (by omega), if_neg (by omega)]
    refine ⟨fun hk => agentRun_refuses hr (hown.trans (openFw_bad hk _)),
      fun hk hs => agentRun_refuses hr (hown.trans (openFw_refuses hk (fwManifest_unsigned hk.2.2.2.1 hk.2.2.2.2 hs _) (by decide))),
      fun hk hs hv => agentRun_refuses hr (hown.trans (openFw_refuses hk ((hm hk hs).trans (if_pos hv)) (by decide))),
      fun hk hs hv hv' => agentRun_refuses hr (hown.trans (openFw_refuses hk
        ((hm hk hs).trans ((if_neg (by omega)).trans (if_pos hv'))) (by decide))),
      fun hg ht => agentRun_refuses hr (hown.trans (openFw_onTrial hg.1 (hpass hg) hg.2.2.2.2 ht)),
      fun hg ht hs he => agentRun_answers hr _ (hown.trans (openFw_alreadyOpen hg.1 (hpass hg) hg.2.2.2.2 ht hs he)) rfl rfl rfl rfl,
      fun hg ht hs he hp => agentRun_refuses hr (hown.trans (openFw_otherOpen hg.1 (hpass hg) hg.2.2.2.2 ht hs he hp)), fun hg ht ho => ?_⟩
    obtain ⟨c, j, hopen⟩ := openFw_opens hg.1 (hpass hg) hg.2.2.2.2 ht ho
    exact ⟨_, agentRun_answers hr _ (hown.trans hopen) rfl rfl rfl rfl, rfl, rfl, tget_tput_same .., tget_tput_same .., rfl, rfl⟩
  case verifying => exact fun hf h2 => agentRun_refuses hr (updBlock_verifying hp hd hf h2)
  case shut => exact fun hf h2 hq ha => agentRun_answers hr _ (updBlock_shut (s := inFlightWith h (.updBlock p) s) hp hd hf h2 hq ha) rfl rfl rfl rfl
  case takes =>
    intro hf h2 hq
    have ht := updBlock_takes (s := inFlightWith h (.updBlock p) s) hp hd hf h2 hq
    refine ⟨fun hc => ?_, fun hc => ?_⟩
    · have hst : fwDropCheck (inFlightWith h (.updBlock p) s) d = stCheckFail := dropCheck_badCrc hc
      rw [fwDrop_refused (by rw [hst]; decide), hst] at ht
      exact ⟨_, agentRun_answers hr _ ht rfl rfl rfl rfl, rfl⟩
    · obtain ⟨c, hw⟩ := fwDrop_written (s := inFlightWith h (.updBlock p) s) hc
      rw [hw] at ht
      exact ⟨_, agentRun_waitsWith hr ht rfl, rfl, fun g hg hh hq => by rw [flight_isNew hr hg hh hq]⟩
  case camp =>
    intro hf k hk hc hl
    obtain ⟨n, hn⟩ := updBlock_campaign (s := inFlightWith h (.updBlock p) s) hp hd hf hk hc hl
    exact ⟨_, agentRun_answers hr _ hn rfl rfl rfl rfl, rfl, tget_tput_same .., rfl, rfl⟩
  case activate =>
    intro b refused runs reply
    refine ⟨fun hp => agentRun_refuses hr (updActivate_bad hp _), fun hp h0 h3 h4 => agentRun_refuses hr (updActivate_unverified hp h0 h3 h4),
      fun hp h0 ht => agentRun_refuses hr (updActivate_noTrial hp h0 ht), fun hp h0 hv => ?_, fun hp h1 ht => ?_,
      fun hp h2 ht => agentRun_answers hr _ (updActivate_reverts (s := inFlightWith h (.updActivate p) s) hp h2 ht) rfl rfl rfl rfl⟩
    · obtain ⟨c, j, ht⟩ := updActivate_trial (h := h) (s := inFlightWith h (.updActivate p) s) hp h0 hv
      exact ⟨_, agentRun_answers hr _ ht rfl rfl rfl rfl, rfl, rfl, rfl, rfl, rfl⟩
    · have hc := commitSlot_commits (inFlightWith h (.updActivate p) s)
      refine ⟨_, agentRun_answers hr _ (updActivate_commits hp h1 ht) hc.hif (congrArg (·.c) hc.time) rfl rfl, ?_, hc.trial, hc.grows, hc.boot⟩
      change answered h _ stOk 0 (le 4 _ ++ _) s = _
      rw [hc.boot]
      rfl
  case noIntake =>
    have : dropIntake s = s := by simp [dropIntake, hi]
    exact congrArg Host.Outcome.next this
  case intake =>
    refine ⟨fun ha => congrArg Host.Outcome.next (dropIntake_shut hi hp ha), fun ha hc => ?_⟩
    obtain ⟨c, hw⟩ := fwDrop_written (d := d) (s := withUpd (fun u => { u with intake := l }) s) hc
    exact ⟨_, congrArg Host.Outcome.next ((dropIntake_takes hi hp ha).trans (congrArg Prod.fst hw)), rfl⟩
  case notPending =>
    exact congrArg Host.Outcome.next (dropDurable_idle hn)
  case durable =>
    by_cases hk : a = true ∨ b = true
    · obtain ⟨_, ht⟩ := dropDurable_held hd hk
      have hh := dropHeld_holds i data (withFw (fun f => { f with pendingDrops := tdel f.pendingDrops i }) s)
      generalize dropHeld i data _ = t at ht hh
      obtain ⟨⟨_, _, _, _, _, rfl⟩, hp, hheld, himage⟩ := hh
      exact ⟨_, congrArg Host.Outcome.next ht, hp, rfl, rfl, fun _ => ⟨hheld, himage⟩, fun ha hb => by simp [ha, hb] at hk⟩
    · obtain ⟨_, ht⟩ := dropDurable_lost hd hk
      have hh := dropSpoilt_spoils i (withFw (fun f => { f with pendingDrops := tdel f.pendingDrops i }) s)
      generalize dropSpoilt i _ = t at ht hh
      obtain ⟨⟨_, _, _, _, rfl⟩, hp, hheld, hevent⟩ := hh
      exact ⟨_, congrArg Host.Outcome.next ht, hp, rfl, rfl, fun h => absurd h hk, fun _ _ => ⟨hheld, hevent⟩⟩
  case flush =>
    obtain ⟨c, j, n, hf, hn⟩ := flushHeld_enters s
    exact ⟨_, congrArg Host.Outcome.next ((if_neg hl).trans hf), rfl, hn, rfl⟩
  case verified =>
    intro m drops whole
    have hempty : whole → badSegs bad s = [] := fun ⟨hb, _, hs, _⟩ => by
      refine List.filter_eq_nil_iff.mpr fun i hi => ?_
      simpa [hb] using hs i (List.mem_range.mp hi)
    by_cases hw : badSegs bad s = [] ∧ hashGood s ∧ ok = true
    · obtain ⟨hb, hh, rfl⟩ := hw
      obtain ⟨he, hf, hs⟩ := fwVerifyDone_verified h2 hb hh
      refine ⟨_, rfl, he.event, he.otp, fun _ => ⟨hf, hs⟩, fun hn => ?_⟩
      rcases hn with ⟨i, hi, hg⟩ | hn
      · have := List.filter_eq_nil_iff.mp hb i (List.mem_range.mpr hi)
        simp only [Bool.or_eq_true, Bool.not_eq_true', not_or, Bool.not_eq_false] at this
        exact absurd this.2 (by simpa using hg)
      · simp at hn
    · have hb : badSegs bad s ≠ [] ∨ ¬ hashGood s ∨ ok = false := by
        rw [← Bool.not_eq_true]
        tauto
      obtain ⟨he, hf⟩ := fwVerifyDone_failed h2 hb
      exact ⟨_, rfl, he.event, he.otp, fun hk => absurd ⟨hempty hk, hk.2.2.2, hk.2.1⟩ hw, fun _ => hf⟩
  case commit =>
    have hc := commitSlot_commits s
    exact ⟨_, congrArg Host.Outcome.next (autoCommit_due hd), hc.trial, hc.grows, by rw [hc.boot], by rw [hc.boot]⟩

end Sys2Proof.Proofs
end

section
/-!
PROOFS. Node image campaigns (R444-R452, R455, R520): what their frames, their visits and their service reach, then what each meaning and each
event comes to.
-/
namespace Sys2Proof.Proofs
open Machine Safety Laws

/-! What moves frames, and no campaign (R448, R450). -/

/-- Frames put into a queue or taken out of it, and routes looked up: no campaign changes. -/
def Conveys (s t : State) : Prop := ∃ n e tm tbl, t = { s with free := n, evt := e, tm := tm, tbl := tbl }

theorem Conveys.refl (s : State) : Conveys s s := ⟨_, _, _, _, rfl⟩

theorem Conveys.trans {s t u : State} (h : Conveys s t) (k : Conveys t u) : Conveys s u := by
  obtain ⟨_, _, _, _, rfl⟩ := h
  obtain ⟨_, _, _, _, rfl⟩ := k
  exact ⟨_, _, _, _, rfl⟩

theorem Conveys.upd {s t : State} (h : Conveys s t) : t.upd = s.upd := by
  obtain ⟨_, _, _, _, rfl⟩ := h
  rfl

theorem Conveys.camp {s t : State} (h : Conveys s t) (c : Nat) : campOf t c = campOf s c := by
  unfold campOf
  rw [h.upd]

theorem conveys_foldl {α : Type} {f : State → α → State} (hf : ∀ s a, Conveys s (f s a)) (l : List α) (s : State) : Conveys s (l.foldl f s) := by
  induction l generalizing s with
  | nil => exact .refl s
  | cons a l ih => exact (hf s a).trans (ih _)

theorem conveys_withTm (f : TmSt → TmSt) (s : State) : Conveys s (withTm f s) := ⟨_, _, _, _, rfl⟩

theorem conveys_withTbl (f : TblSt → TblSt) (s : State) : Conveys s (withTbl f s) := ⟨_, _, _, _, rfl⟩

theorem conveys_tblCnt (i : Nat) (s : State) : Conveys s (tblCnt i s) := conveys_withTbl ..

theorem conveys_raise (n : Nat) (s : State) : Conveys s (raise n s) := by
  rw [raise_only]
  exact ⟨_, _, _, _, rfl⟩

theorem conveys_offerQueue (q : Nat) (s : State) : Conveys s (offerQueue q s) := by
  obtain ⟨_, _, _, -, ho⟩ := offerQueue_only q s
  rw [ho]
  exact conveys_withTm ..

theorem conveys_withdraw (q : Nat) (p : QFrame → Bool) (s : State) : Conveys s (withdraw q p s) := by
  unfold withdraw
  extract_lets out taken
  exact ((conveys_withTm ..).trans (conveys_foldl (fun s f => conveys_withTm ..) out taken)).trans (conveys_offerQueue ..)

theorem conveys_allocBuf {data : List Byte} {s t : State} {x : Nat × Nat} (h : allocBuf data s = some (t, x)) : Conveys s t := by
  unfold allocBuf at h
  dsimp only at h
  split at h
  · cases h
  · cases h
    rw [reserveFell, raiseIf_only]
    exact ⟨_, _, _, _, rfl⟩

theorem conveys_putDrop {q : Nat} {d : DropRec} {addr port : Nat} {x : QFrame} {s t : State} (h : putDrop q d addr port x s = some t) :
    Conveys s t := by
  unfold putDrop at h
  extract_lets data at h
  split at h
  · cases h
  next u id w hu =>
    dsimp only at h
    split at h
    · cases h
    next ha =>
      obtain ⟨tm, hj, -, -⟩ := admitFrame_takes (not_not.mp ha)
      rw [hj] at h
      cases h
      exact (conveys_allocBuf hu).trans ⟨_, _, _, _, rfl⟩

theorem conveys_parityMiss (s : State) : Conveys s (parityMiss s) := (conveys_withTbl ..).trans (conveys_raise ..)

theorem conveys_trieLookup (a : Nat) (s : State) : Conveys s (trieLookup a s).1 := by
  unfold trieLookup
  extract_lets counted
  have hc : Conveys s counted := conveys_tblCnt ..
  split
  · split
    · exact hc.trans ((conveys_parityMiss ..).trans (conveys_tblCnt ..))
    · exact hc
  · exact hc.trans (conveys_tblCnt ..)

theorem conveys_nodeLookup (kind panId addr : Nat) (s : State) : Conveys s (nodeLookup kind panId addr s).1 := by
  unfold nodeLookup
  extract_lets h touched
  have hc : Conveys s touched := conveys_withTbl ..
  split
  · split
    · exact hc.trans ((conveys_parityMiss ..).trans (conveys_tblCnt ..))
    · exact hc.trans (conveys_tblCnt ..)
  · exact hc.trans (conveys_tblCnt ..)

theorem conveys_nbrLookup (n : Nat) (s : State) : Conveys s (nbrLookup n s).1 := by
  unfold nbrLookup
  extract_lets l counted touched e
  have hc : Conveys s touched := (conveys_tblCnt ..).trans (conveys_withTbl ..)
  split
  · exact hc.trans (conveys_parityMiss ..)
  · split
    · exact hc
    · exact hc

theorem conveys_repairRoute (addr port : Nat) (s : State) : Conveys s (repairRoute addr port s).1 := by
  unfold repairRoute
  extract_lets r
  have hr : Conveys s r.1 := conveys_trieLookup ..
  split
  · exact hr
  next p hp =>
    split
    · exact hr
    · extract_lets k a
      have ha : Conveys s a.1 := hr.trans (conveys_nodeLookup ..)
      split
      · exact ha
      · split
        · exact ha
        · exact (ha.trans (conveys_withTbl ..)).trans (conveys_nbrLookup ..)

/-! What serving a campaign does (R448-R450). -/

/-- A campaign served: it stays in its state and round, in its window or out of it, and no member's passes go back. -/
structure CampServed (k k' : CampSt) : Prop where
  state : k'.state = k.state
  round : k'.round = k.round
  inWindow : k'.inWindow = k.inWindow
  passes : ∀ i, (tget {} k.members i).pass ≤ (tget {} k'.members i).pass

theorem CampServed.refl (k : CampSt) : CampServed k k := ⟨rfl, rfl, rfl, fun _ => le_rfl⟩

theorem CampServed.trans {k l m : CampSt} (h : CampServed k l) (g : CampServed l m) : CampServed k m :=
  ⟨g.state.trans h.state, g.round.trans h.round, g.inWindow.trans h.inWindow, fun i => (h.passes i).trans (g.passes i)⟩

/-- What serving campaign c reaches. -/
structure Served (c : Nat) (s t : State) : Prop where
  blocks : ∃ n e tm tbl twin upd, t = { s with free := n, evt := e, tm := tm, tbl := tbl, twin := twin, upd := upd }
  camp : CampServed (campOf s c) (campOf t c)

theorem Served.refl (c : Nat) (s : State) : Served c s s := ⟨⟨_, _, _, _, _, _, rfl⟩, .refl _⟩

theorem Served.trans {c : Nat} {s t u : State} (h : Served c s t) (k : Served c t u) : Served c s u := by
  refine ⟨?_, h.camp.trans k.camp⟩
  obtain ⟨_, _, _, _, _, _, rfl⟩ := h.blocks
  obtain ⟨_, _, _, _, _, _, rfl⟩ := k.blocks
  exact ⟨_, _, _, _, _, _, rfl⟩

theorem Conveys.served {s t : State} (h : Conveys s t) (c : Nat) : Served c s t := by
  refine ⟨?_, h.camp c ▸ .refl _⟩
  obtain ⟨_, _, _, _, rfl⟩ := h
  exact ⟨_, _, _, _, _, _, rfl⟩

theorem served_withCamp {c : Nat} {f : CampSt → CampSt} {s : State} (hf : CampServed (campOf s c) (f (campOf s c))) : Served c s (withCamp c f s) :=
  ⟨⟨_, _, _, _, _, _, rfl⟩, by rw [campOf_withCamp]; exact hf⟩

theorem served_foldl {c : Nat} {α : Type} {f : State → α → State} (hf : ∀ s a, Served c s (f s a)) (l : List α) (s : State) :
    Served c s (l.foldl f s) := by
  induction l generalizing s with
  | nil => exact .refl c s
  | cons a l ih => exact (hf s a).trans (ih _)

theorem served_noteDelta (c : Nat) (f : DeltaRec → DeltaRec) (s : State) : Served c s (noteDelta f s) := by
  obtain ⟨_, hn⟩ := noteDelta_twin f s
  rw [hn]
  exact ⟨⟨_, _, _, _, _, _, rfl⟩, .refl _⟩

/-- A member put into a campaign keeps the others; its passes may only grow. -/
theorem campServed_putMember {k : CampSt} {i : Nat} {m : MemberSt} (h : (tget {} k.members i).pass ≤ m.pass) :
    CampServed k { k with members := tput k.members i m } := by
  refine ⟨rfl, rfl, rfl, fun j => ?_⟩
  rw [tget_tput]
  split
  next hj => exact hj ▸ h
  · exact le_rfl

/-- What a change of every entry keeps of each, it keeps of the entry that is not listed. -/
theorem tget_map_keeps {α β : Type} (d : α) (g : α → β) {f : Nat × α → Nat × α} (hf : ∀ e, (f e).1 = e.1 ∧ g (f e).2 = g e.2) (t : Tbl α) (i : Nat) :
    g (tget d (t.map f) i) = g (tget d t i) := by
  induction t with
  | nil => rfl
  | cons e t ih =>
    obtain ⟨h1, h2⟩ := hf e
    simp only [List.map_cons, tget, h1]
    split
    · exact h2
    · exact ih

theorem served_memberFail (c : Nat) (s : State) : Served c s (memberFail c s) := by
  unfold memberFail
  split
  · exact .refl c s
  · have hw : Served c s (withCamp c (fun k => { k with lastFailS := some (rawSec s) }) s) := served_withCamp ⟨rfl, rfl, rfl, fun _ => le_rfl⟩
    exact hw.trans ((conveys_raise ..).served c)

/-- Member i of campaign c set to m. -/
def memberPut (c i : Nat) (m : MemberSt) (s : State) : State := withCamp c (fun k => { k with members := tput k.members i m }) s

theorem campOf_memberPut (c i : Nat) (m : MemberSt) (s : State) :
    campOf (memberPut c i m s) c = { campOf s c with members := tput (campOf s c).members i m } := campOf_withCamp ..

theorem putMember_only (c i : Nat) (m : MemberSt) (s : State) : ∃ tw, putMember c i m s = { memberPut c i m s with twin := tw } := by
  unfold putMember
  extract_lets old changed
  obtain ⟨tw, ht⟩ := noteDelta_twin (fun d => { d with camps := d.camps ++ [(c, i, m.state, changed)] }) (memberPut c i m s)
  exact ⟨tw, ht⟩

theorem campOf_putMember (c i : Nat) (m : MemberSt) (s : State) :
    campOf (putMember c i m s) c = { campOf s c with members := tput (campOf s c).members i m } := by
  obtain ⟨_, hp⟩ := putMember_only c i m s
  rw [hp]
  exact campOf_memberPut ..

theorem served_putMember {c i : Nat} {m : MemberSt} {s : State} (h : (tget {} (campOf s c).members i).pass ≤ m.pass) :
    Served c s (putMember c i m s) := by
  refine ⟨?_, by rw [campOf_putMember]; exact campServed_putMember h⟩
  obtain ⟨_, hp⟩ := putMember_only c i m s
  rw [hp]
  exact ⟨_, _, _, _, _, _, rfl⟩

theorem served_endVisit (c i : Nat) (s : State) : Served c s (endVisit c i s) := by
  have hw : Served c s (withCamp c (fun k => { k with members := tmod {} k.members i (fun m => { m with visiting := false }) }) s) :=
    served_withCamp (campServed_putMember le_rfl)
  exact hw.trans ((conveys_withdraw ..).served c)

/-- A pass that is over counts. -/
theorem passDone_counts (c i : Nat) (s : State) :
    Served c s (passDone c i s) ∧ (tget {} (campOf s c).members i).pass + 1 ≤ (tget {} (campOf (passDone c i s) c).members i).pass := by
  unfold passDone
  extract_lets k m m'
  have hm : m'.pass = (tget {} (campOf s c).members i).pass + 1 := rfl
  split
  · have hp : Served c s (putMember c i { m' with state := 4 } s) := served_putMember (by rw [hm]; exact Nat.le_succ _)
    refine ⟨hp.trans (served_memberFail ..), le_trans (le_of_eq ?_) ((served_memberFail c _).camp.passes i)⟩
    rw [campOf_putMember, tget_tput_same]
  · refine ⟨served_withCamp (campServed_putMember (by rw [hm]; exact Nat.le_succ _)), le_of_eq ?_⟩
    rw [campOf_withCamp, tget_tput_same]

theorem served_fillVisit (c i n : Nat) (s : State) : Served c s (fillVisit c i n s) := by
  induction n generalizing s with
  | zero => exact .refl c s
  | succ n ih =>
    rw [fillVisit]
    split
    · exact .refl c s
    · split
      · exact .refl c s
      next p hp =>
        extract_lets r
        have hr : Conveys s r.1 := conveys_repairRoute ..
        split
        · have hw : Served c r.1 (withCamp c (fun k => { k with skipped := k.skipped + 1 }) r.1) := served_withCamp ⟨rfl, rfl, rfl, fun _ => le_rfl⟩
          exact (((hr.served c).trans hw).trans (served_endVisit ..)).trans (passDone_counts ..).1
        · extract_lets x
          split
          · exact hr.served c
          next t ht =>
            have hc : Conveys s t := hr.trans (conveys_putDrop ht)
            refine ((hc.served c).trans (served_withCamp (campServed_putMember ?_))).trans (ih _)
            rw [hc.camp]

theorem served_openVisits (c : Nat) (s : State) : Served c s (openVisits c s) := by
  unfold openVisits
  extract_lets k open' next opened passEnds
  have ho : CampServed k opened :=
    ⟨rfl, rfl, rfl, fun i => ge_of_eq (tget_map_keeps {} (·.pass) (fun e => by split <;> exact ⟨rfl, rfl⟩) k.members i)⟩
  refine served_withCamp ?_
  split
  · exact ho.trans ⟨rfl, rfl, rfl, fun _ => le_rfl⟩
  · exact ho

theorem served_fillWindow (c n : Nat) (s : State) : Served c s (fillWindow c n s) := by
  induction n generalizing s with
  | zero => exact .refl c s
  | succ n ih =>
    rw [fillWindow]
    split
    · exact .refl c s
    · split
      · exact served_withCamp ⟨rfl, rfl, rfl, fun _ => le_rfl⟩
      next p hp =>
        extract_lets x
        split
        · exact .refl c s
        next t ht =>
          have hw : Served c t (withCamp c (fun k => { k with position := p + 1, roundSent := k.roundSent + 1 }) t) :=
            served_withCamp ⟨rfl, rfl, rfl, fun _ => le_rfl⟩
          exact (((conveys_putDrop ht).served c).trans hw).trans (ih _)

theorem served_endRound (c : Nat) (s : State) : Served c s (endRound c s) := by
  unfold endRound
  extract_lets k
  split
  · exact .refl c s
  · have hw : Served c s (withCamp c (fun k => { k with waitingReports := true }) s) := served_withCamp ⟨rfl, rfl, rfl, fun _ => le_rfl⟩
    exact hw.trans ((conveys_raise ..).served c)

theorem served_serveCamp (c : Nat) (s : State) : Served c s (serveCamp c s) := by
  unfold serveCamp
  extract_lets k opened
  split
  · exact .refl c s
  · split
    · refine Served.trans ?_ (served_endRound ..)
      split
      · exact served_fillWindow ..
      · exact .refl c s
    · split
      · exact (served_openVisits c s).trans (served_foldl (fun s m => served_fillVisit ..) ..)
      · exact .refl c s

/-! Tables of members. -/

theorem eraseDups_of_nodup {l : List Nat} (h : l.Nodup) : l.eraseDups = l := by
  induction l with
  | nil => rfl
  | cons a l ih =>
    obtain ⟨ha, hl⟩ := List.nodup_cons.mp h
    have hf : l.filter (fun b => !b == a) = l := List.filter_eq_self.mpr fun b hb => by
      simpa using fun he : b = a => ha (he ▸ hb)
    rw [List.eraseDups_cons, hf, ih hl]

theorem tfind_map_val {α : Type} (f : α → α) (t : Tbl α) (i : Nat) : tfind (t.map (fun e => (e.1, f e.2))) i = (tfind t i).map f := by
  induction t with
  | nil => rfl
  | cons e t ih =>
    simp only [List.map_cons, tfind]
    split
    · rfl
    · exact ih

theorem tfind_foldl_tput_other {α β : Type} (key : β → Nat) (val : β → α) {l : List β} {i : Nat} (h : i ∉ l.map key) (t : Tbl α) :
    tfind (l.foldl (fun t m => tput t (key m) (val m)) t) i = tfind t i := by
  induction l generalizing t with
  | nil => rfl
  | cons m l ih =>
    obtain ⟨hm, hl⟩ := not_or.mp (List.mem_cons.not.mp h)
    rw [List.foldl_cons, ih hl, tfind_tput, if_neg (Ne.symm hm)]

/-- Entries put under keys that differ are each found. -/
theorem tfind_foldl_tput {α β : Type} (key : β → Nat) (val : β → α) {l : List β} (hn : (l.map key).Nodup) {r : β} (hr : r ∈ l) (t : Tbl α) :
    tfind (l.foldl (fun t m => tput t (key m) (val m)) t) (key r) = some (val r) := by
  induction l generalizing t with
  | nil => cases hr
  | cons m l ih =>
    obtain ⟨hm, hl⟩ := List.nodup_cons.mp hn
    rw [List.foldl_cons]
    rcases List.mem_cons.mp hr with rfl | hr
    · rw [tfind_foldl_tput_other key val hm, tfind_tput, if_pos rfl]
    · exact ih hl hr _

theorem tfind_foldl_tdel {α β : Type} (key : β → Nat) (l : List β) (t : Tbl α) (i : Nat) :
    tfind (l.foldl (fun t m => tdel t (key m)) t) i = if i ∈ l.map key then none else tfind t i := by
  induction l generalizing t with
  | nil => rfl
  | cons m l ih =>
    rw [List.foldl_cons, ih, tfind_tdel]
    by_cases hm : key m = i
    · simp [hm]
    · simp [hm, Ne.symm hm]

/-! UPD_CAMPAIGN_CFG (R446, R455). -/

/-- An index and an address of a member. -/
def MemberKnown (r : MemberRef) : Prop := r.member < 262144 ∧ r.address < 2 ^ 128

theorem updCampaignCfg_badOp {h : Hdr} {p : UpdCampaignCfgP} (hp : 2 < p.op) (s : State) : updCampaignCfg h p s = refuse s stBadParam := by
  simp [updCampaignCfg, hp]

section
variable {h : Hdr} {p : UpdCampaignCfgP} {s : State} (hp : p.op = 0)
include hp

theorem updCampaignCfg_open (hk : 1 < (campOf s (h.flow - 0x100)).state) : updCampaignCfg h p s = refuse s stBusy := by
  simp [updCampaignCfg, hp, hk]

theorem updCampaignCfg_badCfg (hk : (campOf s (h.flow - 0x100)).state ≤ 1) (hc : campCfgOk s p.cfg = false) :
    updCampaignCfg h p s = refuse s stBadParam := by
  simp [updCampaignCfg, hp, Nat.not_lt.mpr hk, hc]

theorem updCampaignCfg_keyGone (hk : (campOf s (h.flow - 0x100)).state ≤ 1) (hc : campCfgOk s p.cfg = true) (hl : p.cfg.mcSecLevel ≠ 0)
    (hs : keyStatus s p.cfg.mcKeySlot 0 ≠ stOk) : updCampaignCfg h p s = refuse s stKeyGone := by
  simp [updCampaignCfg, hp, Nat.not_lt.mpr hk, hc, hl, hs]

theorem updCampaignCfg_configures (hk : (campOf s (h.flow - 0x100)).state ≤ 1) (hc : campCfgOk s p.cfg = true)
    (hs : p.cfg.mcSecLevel = 0 ∨ keyStatus s p.cfg.mcKeySlot 0 = stOk) :
    updCampaignCfg h p s = done (withCamp (h.flow - 0x100) (fun k => { k with state := 1, cfg := p.cfg }) s) := by
  have hn : ¬ (p.cfg.mcSecLevel ≠ 0 ∧ keyStatus s p.cfg.mcKeySlot 0 ≠ stOk) := by tauto
  simp only [updCampaignCfg, hp, hc]
  simp [Nat.not_lt.mpr hk, hn]
end

theorem keyStatus_dead {s : State} {n b : Nat} (h : (slotOf s n).state = 0 ∨ (2 ≤ (slotOf s n).state ∧ (slotOf s n).state ≤ 4)) :
    keyStatus s n b ≠ stOk := by
  have : (slotOf s n).state = 0 ∨ (slotOf s n).state = 4 ∨ (slotOf s n).state = 2 ∨ (slotOf s n).state = 3 := by omega
  rcases this with h | h | h | h <;> simp [keyStatus, h, stOk, stKeyGone, stKeyOrphan, stKeyExhausted]

theorem addMembers_unconfigured {c : Nat} {l : List MemberRef} {s : State} (hk : (campOf s c).state = 0) : addMembers c l s = refuse s stBusy := by
  simp [addMembers, hk]

theorem anyUnknown_iff (l : List MemberRef) : l.any (fun m => 262144 ≤ m.member || 2 ^ 128 ≤ m.address) = true ↔ ∃ r ∈ l, ¬ MemberKnown r := by
  simp only [List.any_eq_true, Bool.or_eq_true, decide_eq_true_eq, MemberKnown, not_and_or, not_lt]

theorem addMembers_unknown {c : Nat} {l : List MemberRef} {s : State} (hk : (campOf s c).state ≠ 0) (hr : ∃ r ∈ l, ¬ MemberKnown r) :
    addMembers c l s = refuse s stBadParam := by
  simp only [addMembers, if_neg hk, (anyUnknown_iff l).mpr hr, if_true]

theorem addMembers_taken {c : Nat} {l : List MemberRef} {s : State} (hk : (campOf s c).state ≠ 0) (hr : ∀ r ∈ l, MemberKnown r)
    (ht : ∃ r ∈ l, memberTaken s r.member = true) : addMembers c l s = refuse s stDuplicate := by
  have hn : ¬ (l.any (fun m => 262144 ≤ m.member || 2 ^ 128 ≤ m.address) = true) := by
    rw [anyUnknown_iff]
    exact fun ⟨r, hm, hu⟩ => hu (hr r hm)
  have ha : l.any (fun m => memberTaken s m.member) = true := by simpa using ht
  simp only [addMembers, if_neg hk, if_neg hn, ha, Bool.true_or, if_true]

/-- A member as it joins: nothing held (R446, R451). -/
def newMember (k : CampSt) (r : MemberRef) : MemberSt := { address := r.address, bitmap := zeros 512, pass := k.pass }

/-- A campaign with members added. -/
def campAdded (l : List MemberRef) (k : CampSt) : CampSt :=
  { k with members := l.foldl (fun t m => tput t m.member (newMember k m)) k.members }

/-- A campaign that was DONE repairs what it has been given (R451). -/
def campReopened (k : CampSt) : CampSt := { k with state := 5, pass := 0, members := k.members.map (fun m => (m.1, { m.2 with pass := 0 })) }

/-- A campaign once UPD_CAMPAIGN_CFG has added members. -/
def campExtended (l : List MemberRef) (k : CampSt) : CampSt :=
  if k.state = 7 ∧ l ≠ [] then campReopened (campAdded l k) else campAdded l k

theorem addMembers_adds {c : Nat} {l : List MemberRef} {s : State} (hk : (campOf s c).state ≠ 0)
    (hr : ∀ r ∈ l, MemberKnown r ∧ memberTaken s r.member = false) (hn : (l.map (·.member)).Nodup) :
    let k := campExtended l (campOf s c)
    addMembers c l s = done { s with upd := { s.upd with camps := tput s.upd.camps c k } } (le 4 k.members.length) := by
  have hu : ¬ (l.any (fun m => 262144 ≤ m.member || 2 ^ 128 ≤ m.address) = true) := by
    rw [anyUnknown_iff]
    exact fun ⟨r, hm, hu⟩ => hu (hr r hm).1
  have ht : ¬ ((l.any (fun m => memberTaken s m.member) || (l.map (·.member)).eraseDups.length ≠ l.length) = true) := by
    simp only [eraseDups_of_nodup hn, List.length_map, ne_eq, not_true_eq_false, decide_false, Bool.or_false, List.any_eq_true, not_exists, not_and]
    exact fun r hm => by simp [(hr r hm).2]
  intro k
  unfold addMembers
  extract_lets k₀ added reopened
  have ha : added = withCamp c (campAdded l) s := rfl
  have hreopened : reopened = withCamp c (fun _ => k) s := by
    simp only [reopened, k₀, k, campExtended, ha, Bool.and_eq_true, decide_eq_true_eq]
    split
    · simp only [withCamp, withUpd, tmod, tput_tput, tget_tput_same]
      rfl
    · rfl
  rw [if_neg hk, if_neg hu, if_neg ht, hreopened, campOf_withCamp]
  rfl

theorem campAdded_finds {k : CampSt} {l : List MemberRef} (hn : (l.map (·.member)).Nodup) {r : MemberRef} (hr : r ∈ l) :
    tfind (campAdded l k).members r.member = some (newMember k r) :=
  tfind_foldl_tput MemberRef.member (newMember k) hn hr k.members

theorem campExtended_finds {k : CampSt} {l : List MemberRef} (hn : (l.map (·.member)).Nodup) {r : MemberRef} (hr : r ∈ l) :
    ∃ x, tfind (campExtended l k).members r.member = some x ∧ x.address = r.address ∧ x.state = 0 ∧ x.bitmap = zeros 512 := by
  have hf := campAdded_finds (k := k) hn hr
  unfold campExtended
  split
  · have hm : tfind (campReopened (campAdded l k)).members r.member =
        (tfind (campAdded l k).members r.member).map (fun m : MemberSt => { m with pass := 0 }) :=
      tfind_map_val (fun m : MemberSt => { m with pass := 0 }) (campAdded l k).members r.member
    rw [hm, hf]
    exact ⟨_, rfl, rfl, rfl, rfl⟩
  · exact ⟨_, hf, rfl, rfl, rfl⟩

theorem campExtended_state {k : CampSt} {l : List MemberRef} :
    (k.state ≠ 7 → (campExtended l k).state = k.state) ∧ (k.state = 7 → l ≠ [] → (campExtended l k).state = 5) := by
  refine ⟨fun h => ?_, fun h hl => ?_⟩
  · rw [campExtended, if_neg (fun hn => h hn.1)]
    rfl
  · rw [campExtended, if_pos ⟨h, hl⟩]
    rfl

theorem removeMembers_unconfigured {c : Nat} {l : List MemberRef} {s : State} (hk : (campOf s c).state = 0) : removeMembers c l s = refuse s stBusy := by
  simp [removeMembers, hk]

theorem removeMembers_unknown {c : Nat} {l : List MemberRef} {s : State} (hk : (campOf s c).state ≠ 0)
    (hr : ∃ r ∈ l, tfind (campOf s c).members r.member = none) : removeMembers c l s = refuse s stBadParam := by
  have ha : l.any (fun m => (tfind (campOf s c).members m.member).isNone) = true := by simpa using hr
  simp only [removeMembers, if_neg hk, ha, if_true]

/-- Members removed: what moves beside the campaign is their frames. -/
theorem removeMembers_removes {c : Nat} {l : List MemberRef} {s : State} (hk : (campOf s c).state ≠ 0)
    (hr : ∀ r ∈ l, (tfind (campOf s c).members r.member).isSome = true) :
    ∃ t d, Conveys s t ∧ removeMembers c l s = done
      (withCamp c (fun k => { k with members := l.foldl (fun t m => tdel t m.member) k.members }) t) d := by
  have ha : ¬ (l.any (fun m => (tfind (campOf s c).members m.member).isNone) = true) := by
    simp only [List.any_eq_true, not_exists, not_and, Bool.not_eq_true, Option.isNone_eq_false_iff]
    exact hr
  unfold removeMembers
  extract_lets k freed removed
  rw [if_neg hk, if_neg ha]
  exact ⟨_, _, conveys_foldl (fun s m => conveys_withdraw ..) .., rfl⟩

/-! UPD_OPEN of a campaign (R445). -/

/-- What UPD_OPEN takes for campaign k. -/
def campOpenOk (k : CampSt) (p : UpdOpenP) : Prop :=
  p.replace ≤ 1 ∧ k.state = 1 ∧ mfGood 1 p.manifest = true ∧ mfTarget p.manifest = k.cfg.nodeModel

/-- Signed by the campaign's key. -/
def campSigned (k : CampSt) (m : List Byte) : Prop := signerKey m = k.cfg.keyHash ∧ sigGood m = true

theorem openCamp_busy {c : Nat} {p : UpdOpenP} {s : State} (hp : p.replace ≤ 1) (hk : (campOf s c).state ≠ 1) : openCamp c p s = refuse s stBusy := by
  simp [openCamp, Nat.not_lt.mpr hp, hk]

section
variable {c : Nat} {p : UpdOpenP} {s : State} (hp : campOpenOk (campOf s c) p)
include hp

theorem openCamp_unsigned (hs : ¬ campSigned (campOf s c) p.manifest) : openCamp c p s = refuse s stSigFail := by
  obtain ⟨hr, hk, hg, ht⟩ := hp
  simp only [openCamp, Nat.not_lt.mpr hr, hk, hg, ht]
  simp [or_iff_not_imp_left]
  exact fun hk hg => absurd ⟨hk, hg⟩ hs

theorem openCamp_rollback (hs : campSigned (campOf s c) p.manifest) (hv : mfSv p.manifest < (campOf s c).cfg.svFloor) :
    openCamp c p s = refuse s stRollback := by
  obtain ⟨hr, hk, hg, ht⟩ := hp
  simp [openCamp, Nat.not_lt.mpr hr, hk, hg, ht, hs.1, hs.2, hv]

theorem openCamp_opens (hs : campSigned (campOf s c) p.manifest) (hv : (campOf s c).cfg.svFloor ≤ mfSv p.manifest)
    (hl : s.flash.libManifest.find? (fun e => decide (tagOf e.2 = tagOf p.manifest)) = none) (hd : mfDrops p.manifest ≠ 0) :
    openCamp c p s = done (withCamp c (fun k => { k with state := 2, manifest := p.manifest, drops := [] }) s) (openReply 0 p.manifest) := by
  obtain ⟨hr, hk, hg, ht⟩ := hp
  have hcamp := campOf_withCamp c (fun k => { k with state := 2, manifest := p.manifest, drops := [] }) s
  have hlib : fromLibrary c p.manifest (withCamp c (fun k => { k with state := 2, manifest := p.manifest, drops := [] }) s) =
      withCamp c (fun k => { k with state := 2, manifest := p.manifest, drops := [] }) s := by
    unfold fromLibrary
    rw [show (withCamp c _ s).flash.libManifest.find? _ = none from hl]
  have hcheck := campCheck_incomplete (c := c) (s := withCamp c (fun k => { k with state := 2, manifest := p.manifest, drops := [] }) s)
    (by rw [hcamp]; exact Nat.pos_of_ne_zero hd)
  unfold openCamp
  extract_lets k m opened
  rw [if_neg (Nat.not_lt.mpr hr), if_neg (not_not.mpr hk), if_neg (by simp [m, k, hg, ht]), if_neg (by simp [m, k, hs.1, hs.2]),
    if_neg (Nat.not_lt.mpr hv)]
  have ho : opened = withCamp c (fun k => { k with state := 2, manifest := p.manifest, drops := [] }) s := hlib
  rw [ho, hcheck, hcamp]
  rfl
end

/-! Reports (R447). -/

theorem getElem?_fit (b : List Byte) {k i : Nat} (hi : i < k) : (fit k b)[i]? = some (nth 0 b i) := by
  rw [fit, List.getElem?_take_of_lt hi, nth, List.getD_eq_getElem?_getD]
  by_cases h : i < b.length
  · rw [List.getElem?_append_left h, List.getElem?_eq_getElem h]
    rfl
  · have hz : (zeros k)[i - b.length]? = some 0 := by
      rw [zeros, List.getElem?_replicate, if_pos (by omega)]
    rw [List.getElem?_append_right (Nat.not_lt.mp h), hz, List.getElem?_eq_none (Nat.not_lt.mp h)]
    rfl

theorem nth_orSlice (r : NodeReport) (b : List Byte) {i : Nat} (hi : i < 512) :
    nth 0 (orSlice r b) i = if r.offset ≤ i then nth 0 b i ||| nth 0 r.slice (i - r.offset) else nth 0 b i := by
  rw [nth, List.getD_eq_getElem?_getD, orSlice, List.getElem?_map, List.getElem?_zipIdx, getElem?_fit b hi]
  simp

/-- A report clears no bit of the bitmap (R447). -/
theorem mapBit_orSlice (r : NodeReport) {b : List Byte} {j : Nat} (hj : j < 4096) (h : mapBit b j = true) : mapBit (orSlice r b) j = true := by
  unfold mapBit at h ⊢
  rw [nth_orSlice r b (by omega)]
  split
  · rw [BitVec.getLsbD_or, h, Bool.true_or]
  · exact h

theorem applyReport_ended {k : CampSt} {r : NodeReport} {m : MemberSt} (h : m.state = 3 ∨ m.state = 4) : (applyReport k r m).state = m.state := by
  simp [applyReport, h]

/-- NODE_OK, INSTALLED and FAILED, by the kind of the report. -/
theorem applyReport_reached {k : CampSt} {r : NodeReport} {m : MemberSt} (h : m.state < 3) :
    (r.kind = 2 → (applyReport k r m).state = 3) ∧ (r.kind = 3 → (applyReport k r m).state = 4) ∧ (r.kind = 1 → (applyReport k r m).state = 2) := by
  have h3 : m.state ≠ 3 := by omega
  have h4 : m.state ≠ 4 := by omega
  refine ⟨fun hr => ?_, fun hr => ?_, fun hr => ?_⟩
  all_goals simp [applyReport, h3, h4, hr]

/-- What a report of member i reaches: the member as the report leaves it, up to its visit, and one more report counted. -/
structure Reported (c i : Nat) (r : NodeReport) (s t : State) : Prop where
  blocks : ∃ n e tm tbl twin upd, t = { s with free := n, evt := e, tm := tm, tbl := tbl, twin := twin, upd := upd }
  cnt : t.upd.cnt = bump s.upd.cnt 5
  others : ∀ d, d ≠ c → campOf t d = campOf s d
  member : ∃ v, tget {} (campOf t c).members i = { applyReport (campOf s c) r (tget {} (campOf s c).members i) with visiting := v }

theorem campOf_withCamp_other {c d : Nat} (h : d ≠ c) (f : CampSt → CampSt) (s : State) : campOf (withCamp c f s) d = campOf s d :=
  (tget_tmod ({} : CampSt) s.upd.camps c d f).trans (if_neg h.symm)

theorem report_reported (c i : Nat) (r : NodeReport) (s : State) : Reported c i r s (report c i r s) := by
  unfold report
  extract_lets k m counted
  obtain ⟨tw, hp⟩ := putMember_only c i m s
  have hc : counted = { memberPut c i m (updCnt 5 s) with twin := tw } := congrArg (updCnt 5) hp
  have hcamp : campOf counted c = { k with members := tput k.members i m } := by
    rw [hc]
    exact campOf_memberPut c i m (updCnt 5 s)
  split
  · obtain ⟨_, _, _, _, hw⟩ := conveys_withdraw (campOf counted c).cfg.repairQueue (isRepairOf c i)
      (withCamp c (fun k => { k with members := tmod {} k.members i (fun m => { m with visiting := false }) }) counted)
    rw [endVisit, hw]
    refine ⟨?_, by rw [hc]; rfl, fun d hd => ?_, false, ?_⟩
    · rw [hc]
      exact ⟨_, _, _, _, _, _, rfl⟩
    · refine (campOf_withCamp_other hd _ counted).trans ?_
      rw [hc]
      exact campOf_withCamp_other hd _ s
    · have hm := campOf_withCamp c (fun k => { k with members := tmod {} k.members i (fun m => { m with visiting := false }) }) counted
      rw [hcamp] at hm
      refine (congrArg (fun k : CampSt => tget {} k.members i) hm).trans ?_
      simp only [tget_tmod, if_true, tget_tput_same]
      rfl
  · refine ⟨?_, by rw [hc]; rfl, fun d hd => ?_, m.visiting, ?_⟩
    · rw [hc]
      exact ⟨_, _, _, _, _, _, rfl⟩
    · rw [hc]
      exact campOf_withCamp_other hd _ s
    · rw [hcamp]
      exact tget_tput_same ..

theorem Reported.keepsBits {c i : Nat} {r : NodeReport} {s t : State} (h : Reported c i r s t) {j : Nat} (hj : j < 4096)
    (hb : mapBit (tget {} (campOf s c).members i).bitmap j = true) : mapBit (tget {} (campOf t c).members i).bitmap j = true := by
  obtain ⟨v, hm⟩ := h.member
  rw [hm]
  exact mapBit_orSlice r hj hb

/-! UPD_CAMPAIGN_CTRL (R444, R447, R451). -/

section
variable {h : Hdr} {p : UpdCampaignCtrlP} {s : State}

theorem updCampaignCtrl_badOp (hp : 5 < p.op) : updCampaignCtrl h p s = refuse s stBadParam := by
  simp [updCampaignCtrl, hp]

theorem updCampaignCtrl_frozen (hp : p.op = 0 ∨ p.op = 2) (hf : s.fwall.frozen.contains 32 = true) : updCampaignCtrl h p s = refuse s stFrozen := by
  rw [updCampaignCtrl, if_neg (by omega), if_pos (by rw [hf]; simp [hp])]

theorem updCampaignCtrl_start (hp : p.op = 0) (hf : s.fwall.frozen.contains 32 = false) : updCampaignCtrl h p s =
    if (campOf s (h.flow - 0x100)).state ≠ 3 then refuse s stBusy
    else done (withCamp (h.flow - 0x100) (fun k => { k with state := 4, round := 1, position := 0, roundSent := 0, waitingReports := false }) s) := by
  rw [updCampaignCtrl, if_neg (by omega), if_neg (by rw [hf]; simp), if_pos hp]

theorem updCampaignCtrl_pause (hp : p.op = 1) : updCampaignCtrl h p s =
    if (campOf s (h.flow - 0x100)).state = 4 ∨ (campOf s (h.flow - 0x100)).state = 5 then done (pauseCamp (h.flow - 0x100) s) else refuse s stBusy := by
  simp [updCampaignCtrl, hp]

theorem updCampaignCtrl_resume (hp : p.op = 2) (hf : s.fwall.frozen.contains 32 = false) : updCampaignCtrl h p s =
    if (campOf s (h.flow - 0x100)).state = 6 then done (withCamp (h.flow - 0x100) (fun k => { k with state := k.pausedFrom }) s)
    else refuse s stBusy := by
  rw [updCampaignCtrl, if_neg (by omega), if_neg (by rw [hf]; simp), if_neg (by omega), if_neg (by omega), if_pos hp]

theorem updCampaignCtrl_cancel (hp : p.op = 3) : updCampaignCtrl h p s = done (cancelCamp (h.flow - 0x100) s) := by
  simp [updCampaignCtrl, hp]

theorem updCampaignCtrl_early (hp : p.op = 4) (hk : (campOf s (h.flow - 0x100)).state < 3) : updCampaignCtrl h p s = refuse s stBusy := by
  simp [updCampaignCtrl, hp, hk]

theorem updCampaignCtrl_stranger (hp : p.op = 4) (hk : 3 ≤ (campOf s (h.flow - 0x100)).state)
    (hr : reporter (campOf s (h.flow - 0x100)) p.address p.report = none) :
    updCampaignCtrl h p s = { st := updCnt 6 s, status := stBadParam } := by
  simp [updCampaignCtrl, hp, Nat.not_lt.mpr hk, hr]

theorem updCampaignCtrl_reports {i : Nat} (hp : p.op = 4) (hk : 3 ≤ (campOf s (h.flow - 0x100)).state)
    (hr : reporter (campOf s (h.flow - 0x100)) p.address p.report = some i) :
    updCampaignCtrl h p s = done (report (h.flow - 0x100) i p.report s) := by
  simp [updCampaignCtrl, hp, Nat.not_lt.mpr hk, hr]

theorem updCampaignCtrl_noMember (hp : p.op = 5) (hm : tfind (campOf s (h.flow - 0x100)).members p.member = none) :
    updCampaignCtrl h p s = refuse s stBadParam := by
  simp [updCampaignCtrl, hp, hm]

theorem updCampaignCtrl_tells {m : MemberSt} (hp : p.op = 5) (hm : tfind (campOf s (h.flow - 0x100)).members p.member = some m) :
    updCampaignCtrl h p s = done { s with hostMem := outputAt p.bufferAddr (fit 512 m.bitmap) s }
      (le 1 m.state ++ zeros 3 ++ le 4 ((List.range (mfDrops (campOf s (h.flow - 0x100)).manifest)).filter (mapBit m.bitmap)).length) := by
  simp only [updCampaignCtrl, hp, hm, toHost_outputAt]
  simp
end

/-! Pause, cancel and the windows (R444, R448, R449). -/

/-- What stopping campaign c reaches: that campaign, and the frames of it. -/
structure StopsCamp (c : Nat) (s t : State) : Prop where
  blocks : ∃ n e tm tbl upd, t = { s with free := n, evt := e, tm := tm, tbl := tbl, upd := upd }
  others : ∀ d, d ≠ c → campOf t d = campOf s d

theorem StopsCamp.trans {c : Nat} {s t u : State} (h : StopsCamp c s t) (k : StopsCamp c t u) : StopsCamp c s u := by
  refine ⟨?_, fun d hd => (k.others d hd).trans (h.others d hd)⟩
  obtain ⟨_, _, _, _, _, rfl⟩ := h.blocks
  obtain ⟨_, _, _, _, _, rfl⟩ := k.blocks
  exact ⟨_, _, _, _, _, rfl⟩

theorem Conveys.stopsCamp {s t : State} (h : Conveys s t) (c : Nat) : StopsCamp c s t := by
  refine ⟨?_, fun d _ => h.camp d⟩
  obtain ⟨_, _, _, _, rfl⟩ := h
  exact ⟨_, _, _, _, _, rfl⟩

theorem stopsCamp_withCamp (c : Nat) (f : CampSt → CampSt) (s : State) : StopsCamp c s (withCamp c f s) :=
  ⟨⟨_, _, _, _, _, rfl⟩, fun _ hd => campOf_withCamp_other hd f s⟩

/-- The round goes on from the first frame taken back. -/
theorem takeBackRound_stops (c : Nat) (s : State) : StopsCamp c s (takeBackRound c s) ∧ ∃ place sent, place ≤ (campOf s c).position ∧
    campOf (takeBackRound c s) c = { campOf s c with position := place, roundSent := sent } := by
  unfold takeBackRound
  extract_lets k out place
  have hw := conveys_withdraw k.cfg.mcQueue (isMulticast c)
    (withCamp c (fun k => { k with position := place, roundSent := k.roundSent - out.length }) s)
  exact ⟨(stopsCamp_withCamp ..).trans (hw.stopsCamp c), place, _, (foldl_min_le ..).1, (hw.camp c).trans (campOf_withCamp ..)⟩

theorem pauseCamp_pauses {c : Nat} {s : State} (hk : (campOf s c).state = 4 ∨ (campOf s c).state = 5) :
    StopsCamp c s (pauseCamp c s) ∧ (campOf (pauseCamp c s) c).state = 6 ∧ (campOf (pauseCamp c s) c).pausedFrom = (campOf s c).state ∧
      (campOf (pauseCamp c s) c).inWindow = false ∧ (campOf (pauseCamp c s) c).round = (campOf s c).round := by
  obtain ⟨hs, place, sent, -, hb⟩ := takeBackRound_stops c s
  unfold pauseCamp
  extract_lets k taken
  have hw : Conveys (takeBackRound c s) taken := conveys_withdraw ..
  have hc : campOf taken c = { k with position := place, roundSent := sent } := (hw.camp c).trans hb
  clear_value taken
  rw [if_neg (by simp only [Bool.and_eq_true, decide_eq_true_eq]; tauto), campOf_withCamp, hc]
  exact ⟨(hs.trans (hw.stopsCamp c)).trans (stopsCamp_withCamp ..), rfl, rfl, rfl, rfl⟩

theorem cancelCamp_frees (c : Nat) (s : State) : StopsCamp c s (cancelCamp c s) ∧ campOf (cancelCamp c s) c = {} := by
  unfold cancelCamp
  extract_lets k freed
  have hw : Conveys s freed := (conveys_withdraw ..).trans (conveys_withdraw ..)
  exact ⟨(hw.stopsCamp c).trans (stopsCamp_withCamp ..), campOf_withCamp ..⟩

theorem Served.sec {c : Nat} {s t : State} (h : Served c s t) : t.sec = s.sec := by
  obtain ⟨_, _, _, _, _, _, rfl⟩ := h.blocks
  rfl

theorem windowStart_idle {c : Nat} {s : State} (h : (campOf s c).state ≠ 4 ∨ windowNow s (campOf s c).cfg = false) : windowStart c s = s := by
  refine if_pos ?_
  simpa using h

theorem windowStart_opens {c : Nat} {s : State} (hk : (campOf s c).state = 4) (hw : windowNow s (campOf s c).cfg = true) :
    windowStart c s = serveCamp c (withCamp c (fun k => { k with inWindow := true }) s) := by
  simp [windowStart, hk, hw]

theorem windowEnd_idle {c : Nat} {s : State} (h : (campOf s c).inWindow = false) : windowEnd c s = s := by
  simp [windowEnd, h]

theorem windowEnd_closes {c : Nat} {s : State} (h : (campOf s c).inWindow = true) :
    windowEnd c s = takeBackRound c (withCamp c (fun k => { k with inWindow := false }) s) := by
  simp [windowEnd, h]

/-- A campaign with its next round begun. -/
def nextRound (k : CampSt) : CampSt := { k with round := k.round + 1, position := 0, roundSent := 0, waitingReports := false }

theorem reportWait_idle {c : Nat} {s : State} (h : (campOf s c).state ≠ 4 ∨ (campOf s c).waitingReports = false) : reportWait c s = s := by
  refine if_pos ?_
  simpa using h

theorem reportWait_ends {c : Nat} {s : State} (hk : (campOf s c).state = 4) (hw : (campOf s c).waitingReports = true) :
    reportWait c s = if (campOf s c).cfg.maxRounds < (campOf s c).round + 1 ∨ (nextPlace (nextRound (campOf s c))).isNone = true then startRepair c s
      else serveCamp c (withCamp c (fun _ => nextRound (campOf s c)) s) := by
  unfold reportWait
  extract_lets k next
  rw [if_neg (by simp [k, hk, hw])]
  simp only [Bool.or_eq_true, decide_eq_true_eq]
  rfl

theorem startRepair_state (c : Nat) (s : State) : (campOf (startRepair c s) c).state = 5 := by
  unfold startRepair
  rw [(served_serveCamp c _).camp.state, campOf_withCamp]

theorem visitTimeout_idle {c i : Nat} {s : State} (h : (campOf s c).state ≠ 5 ∨ (tget {} (campOf s c).members i).visiting = false) :
    visitTimeout c i s = s := by
  refine if_pos ?_
  simpa using h

theorem visitTimeout_passes {c i : Nat} {s : State} (hk : (campOf s c).state = 5) (hv : (tget {} (campOf s c).members i).visiting = true) :
    (campOf (visitTimeout c i s) c).state = 5 ∧
      (tget {} (campOf s c).members i).pass < (tget {} (campOf (visitTimeout c i s) c).members i).pass := by
  have ht : visitTimeout c i s = serveCamp c (passDone c i (endVisit c i s)) := by simp [visitTimeout, hk, hv]
  have he := served_endVisit c i s
  obtain ⟨hp, hc⟩ := passDone_counts c i (endVisit c i s)
  have hs := served_serveCamp c (passDone c i (endVisit c i s))
  rw [ht]
  exact ⟨(((he.trans hp).trans hs).camp.state).trans hk, lt_of_lt_of_le (Nat.lt_succ_of_le (he.camp.passes i)) (hc.trans (hs.camp.passes i))⟩

theorem doneWait_idle {c : Nat} {s : State} (h : (campOf s c).state ≠ 5 ∨ membersIn (campOf s c) 0 ≠ 0) : doneWait c s = s := by
  refine if_pos ?_
  simpa using h

theorem doneWait_ends {c : Nat} {s : State} (hk : (campOf s c).state = 5) (hm : membersIn (campOf s c) 0 = 0) :
    doneWait c s = raise 0x0F6 (withCamp c (fun k => { k with state := 7 }) s) := by
  simp [doneWait, hk, hm]

/-! NODE_REPORT_RX. -/

theorem nodeReport_stranger {addr : Nat} {r : NodeReport} {s : State} (h : ∀ e ∈ s.upd.camps, reporter e.2 addr r = none) :
    nodeReport addr r s = updCnt 6 s := by
  have hf : s.upd.camps.findSome? (fun e => (reporter e.2 addr r).map (fun i => (e.1, i))) = none :=
    List.findSome?_eq_none_iff.mpr fun e he => by rw [h e he]; rfl
  simp only [nodeReport, hf]

theorem nodeReport_ofOne {addr c i : Nat} {k : CampSt} {r : NodeReport} {s : State} (hc : s.upd.camps = [(c, k)]) (hr : reporter k addr r = some i) :
    nodeReport addr r s = report c i r s := by
  simp [nodeReport, hc, hr]

/-- Settles O55: each command is Ready, so its reply is what its meaning comes to; serving a campaign moves its frames and its passes only. -/
theorem nodeCampaigns : Obligations.NodeCampaigns := by
  unfold Obligations.NodeCampaigns
  intro h s c k put
  refine ⟨fun p hr => ?cfg, fun p hr hf hd => ?opens, fun p hr => ?ctrl, fun addr r hn => congrArg Host.Outcome.next (nodeReport_stranger hn),
    fun addr r i hc hr => ?report, fun hi => congrArg Host.Outcome.next (windowStart_idle hi), fun hk hw => ?windowStart,
    fun hi => congrArg Host.Outcome.next (windowEnd_idle hi), fun hw => ?windowEnd, fun hi => congrArg Host.Outcome.next (reportWait_idle hi),
    fun hk hw => ?reportWait, fun i hi => congrArg Host.Outcome.next (visitTimeout_idle hi), fun i hk hv => ?visitTimeout,
    fun hi => congrArg Host.Outcome.next (doneWait_idle hi), fun hk hm => congrArg Host.Outcome.next (doneWait_ends hk hm)⟩
  case cfg =>
    intro refused known
    let u := inFlightWith h (.updCampaignCfg p) s
    have hadd (ho : p.op = 1) : updCampaignCfg h p u = addMembers c p.members u := by simp [updCampaignCfg, ho, c]
    have hremove (ho : p.op = 2) : updCampaignCfg h p u = removeMembers c p.members u := by simp [updCampaignCfg, ho, c]
    refine ⟨fun ho => agentRun_refuses hr (updCampaignCfg_badOp ho _), fun ho hk => agentRun_refuses hr (updCampaignCfg_open ho hk),
      fun ho hk hc => agentRun_refuses hr (updCampaignCfg_badCfg ho hk hc),
      fun ho hk hc hl hs => agentRun_refuses hr (updCampaignCfg_keyGone ho hk hc hl (keyStatus_dead (s := u) hs)),
      fun ho hk hc hs => agentRun_answers hr _ (updCampaignCfg_configures (s := u) ho hk hc (hs.imp_right fun hs => keyStatus_live hs.1 hs.2)) rfl rfl rfl rfl,
      fun ho hk => ?_, fun ho hk hu => agentRun_refuses hr ((hadd ho).trans (addMembers_unknown hk hu)),
      fun ho hk hu ht => agentRun_refuses hr ((hadd ho).trans (addMembers_taken hk hu ht)), fun ho hk hu hn => ?_,
      fun ho hk hu => agentRun_refuses hr ((hremove ho).trans (removeMembers_unknown hk hu)), fun ho hk hu => ?_⟩
    · rcases ho with ho | ho
      · exact agentRun_refuses hr ((hadd ho).trans (addMembers_unconfigured hk))
      · exact agentRun_refuses hr ((hremove ho).trans (removeMembers_unconfigured hk))
    · let k' := campExtended p.members k
      obtain ⟨t, ht⟩ : ∃ t, t = { s with hif := answered h (.updCampaignCfg p) stOk 0 (le 4 k'.members.length) s, upd := put k' } := ⟨_, rfl⟩
      have hcamp : campOf t c = k' := by
        rw [ht]
        exact tget_tput_same ..
      refine ⟨t, ?_, ?_, ?_⟩
      · rw [ht]
        exact agentRun_answers hr _ ((hadd ho).trans (addMembers_adds (s := u) hk hu hn)) rfl rfl rfl rfl
      · rw [hcamp, ht]
      · rw [hcamp]
        exact ⟨fun r hm => campExtended_finds hn hm, campExtended_state⟩
    · obtain ⟨t, d, ht, he⟩ := removeMembers_removes (s := u) hk hu
      have hcamp := campOf_withCamp c (fun k => { k with members := p.members.foldl (fun t m => tdel t m.member) k.members }) t
      rw [ht.camp] at hcamp
      obtain ⟨hh, hc, hsec, hflash⟩ : t.hif = u.hif ∧ t.time.c = s.time.c ∧ t.sec = s.sec ∧ t.flash = s.flash := by
        obtain ⟨_, _, _, _, hb⟩ := ht
        rw [hb]
        exact ⟨rfl, rfl, rfl, rfl⟩
      refine ⟨_, agentRun_answers hr _ ((hremove ho).trans he) hh hc rfl rfl, fun i => ?_, ?_, hsec, hflash⟩
      · exact (congrArg (fun k : CampSt => tfind k.members i) hcamp).trans (tfind_foldl_tdel MemberRef.member p.members k.members i)
      · exact (congrArg CampSt.state hcamp).trans rfl
  case opens =>
    intro m refused ok signed
    let u := inFlightWith h (.updOpen p) s
    have hcamp : updOpen h p u = openCamp c p u := by
      rw [updOpen, if_neg hf, if_neg (show ¬ u.sys.devState ≠ .run from not_not.mpr hd)]
    exact ⟨fun hp hk => agentRun_refuses hr (hcamp.trans (openCamp_busy hp hk)), fun hk hs => agentRun_refuses hr (hcamp.trans (openCamp_unsigned hk hs)),
      fun hk hs hv => agentRun_refuses hr (hcamp.trans (openCamp_rollback hk hs hv)),
      fun hk hs hv hl hz => agentRun_answers hr _ (hcamp.trans (openCamp_opens (s := u) hk hs hv hl hz)) rfl rfl rfl rfl⟩
  case ctrl =>
    intro refused set stops frozen
    let u := inFlightWith h (.updCampaignCtrl p) s
    have hstops {t : State} {y : CampSt → Prop} (he : updCampaignCtrl h p u = done t) (hs : StopsCamp c u t) (hy : y (campOf t c)) : stops y := by
      obtain ⟨⟨_, _, _, _, _, hb⟩, ho⟩ := hs
      exact ⟨_, agentRun_answers hr _ he (congrArg (·.hif) hb) (congrArg (·.time.c) hb) rfl rfl, rfl, hy, congrArg (·.sec) hb, congrArg (·.flash) hb, ho⟩
    refine ⟨fun ho => agentRun_refuses hr (updCampaignCtrl_badOp (s := u) ho), fun ho hf => agentRun_refuses hr (updCampaignCtrl_frozen (s := u) ho hf),
      fun ho hf hk => agentRun_refuses hr ((updCampaignCtrl_start (s := u) ho hf).trans (if_pos hk)),
      fun ho hf hk => agentRun_answers hr _ ((updCampaignCtrl_start (s := u) ho hf).trans (if_neg (not_not.mpr hk))) rfl rfl rfl rfl,
      fun ho h4 h5 => agentRun_refuses hr ((updCampaignCtrl_pause (s := u) ho).trans (if_neg (not_or.mpr ⟨h4, h5⟩))), fun ho hk => ?_,
      fun ho hf hk => agentRun_refuses hr ((updCampaignCtrl_resume (s := u) ho hf).trans (if_neg hk)),
      fun ho hf hk => agentRun_answers hr _ ((updCampaignCtrl_resume (s := u) ho hf).trans (if_pos hk)) rfl rfl rfl rfl,
      fun ho => ?_,
      fun ho hk => agentRun_refuses hr (updCampaignCtrl_early (s := u) ho hk),
      fun ho hk hn => agentRun_answers hr _ (updCampaignCtrl_stranger (s := u) ho hk hn) rfl rfl rfl rfl, fun i ho hk hi => ?_,
      fun ho hm => agentRun_refuses hr (updCampaignCtrl_noMember (s := u) ho hm),
      fun m ho hm => agentRun_answers hr _ (updCampaignCtrl_tells (s := u) ho hm) rfl rfl rfl rfl⟩
    · obtain ⟨hs, hst, hp, hw, hro⟩ := pauseCamp_pauses (c := c) (s := u) hk
      exact hstops (y := fun y => y.state = 6 ∧ y.pausedFrom = k.state ∧ y.inWindow = false ∧ y.round = k.round)
        ((updCampaignCtrl_pause (s := u) ho).trans (if_pos hk)) hs ⟨hst, hp, hw, hro⟩
    · obtain ⟨hs, hy⟩ := cancelCamp_frees c u
      exact hstops (y := fun y => y = {}) (updCampaignCtrl_cancel (s := u) ho) hs hy
    · have hrep := report_reported c i p.report u
      obtain ⟨_, _, _, _, _, _, hb⟩ := hrep.blocks
      exact ⟨_, agentRun_answers hr _ (updCampaignCtrl_reports (s := u) ho hk hi) (congrArg (·.hif) hb) (congrArg (·.time.c) hb) rfl rfl, rfl,
        fun j hj hm => hrep.keepsBits hj hm, congrArg (·.sec) hb, congrArg (·.flash) hb, hrep.others⟩
  case report =>
    have hrep := report_reported c i r s
    obtain ⟨v, hm⟩ := hrep.member
    refine ⟨_, congrArg Host.Outcome.next (nodeReport_ofOne hc hr), ?_, by rw [hm]; rfl, fun j hj hb => hrep.keepsBits hj hb, fun hst => ?_,
      fun hst => ?_, fun hst => ?_, fun hst => ?_⟩
    · rw [hrep.cnt, tget_bump, if_pos rfl]
    all_goals rw [hm]
    · exact applyReport_ended hst
    · exact (applyReport_reached hst).1
    · exact (applyReport_reached hst).2.1
    · exact (applyReport_reached hst).2.2
  case windowStart =>
    have hs := served_serveCamp c (withCamp c (fun k => { k with inWindow := true }) s)
    refine ⟨_, congrArg Host.Outcome.next (windowStart_opens hk hw), ?_, ?_, ?_, hs.sec⟩
    · rw [hs.camp.inWindow, campOf_withCamp]
    · rw [hs.camp.state, campOf_withCamp]
      exact hk
    · rw [hs.camp.round, campOf_withCamp]
  case windowEnd =>
    obtain ⟨hs, place, sent, hp, hb⟩ := takeBackRound_stops c (withCamp c (fun k => { k with inWindow := false }) s)
    rw [campOf_withCamp] at hp hb
    obtain ⟨_, _, _, _, _, hx⟩ := hs.blocks
    exact ⟨_, congrArg Host.Outcome.next (windowEnd_closes hw), by rw [hb], by rw [hb], by rw [hb]; exact hp, congrArg (·.sec) hx⟩
  case reportWait =>
    refine ⟨_, congrArg Host.Outcome.next (reportWait_ends hk hw), fun hm => ?_, fun hm hn => ?_⟩
    · rw [if_pos (.inl (Nat.lt_succ_of_le hm))]
      exact startRepair_state c s
    · have hp : nextPlace (nextRound k) = nextPlace { k with round := k.round + 1, position := 0 } := rfl
      have hn' : ¬ ((nextPlace (nextRound k)).isNone = true) := by
        rw [hp, Option.isNone_iff_eq_none]
        exact Option.isSome_iff_ne_none.mp hn
      rw [if_neg (not_or.mpr ⟨Nat.not_lt.mpr hm, hn'⟩)]
      have hs := served_serveCamp c (withCamp c (fun _ => nextRound k) s)
      exact ⟨by rw [hs.camp.state, campOf_withCamp]; exact hk, by rw [hs.camp.round, campOf_withCamp]; rfl⟩
  case visitTimeout =>
    obtain ⟨hst, hp⟩ := visitTimeout_passes hk hv
    exact ⟨_, rfl, hst, hp⟩

end Sys2Proof.Proofs
end

section
/-!
PROOFS. The Dalhiuf links (R457-R468, R483, R486): what a frame that is sent reaches, then what each meaning and each event comes to.
-/
namespace Sys2Proof.Proofs
open Machine Safety Laws

/-! What a use of a key reaches (R373, R379-R386). -/

/-- What a request, a use or an automatic commit of a key reaches: no link, no reply, no memory; no cause bit is lost. -/
structure KeyWork (s t : State) : Prop where
  blocks : ∃ free evt rfc sec cry twin, t = { s with free := free, evt := evt, rfc := rfc, sec := sec, cry := cry, twin := twin }
  srcCfg : t.evt.srcCfg = s.evt.srcCfg
  causes : ∀ n, s.evt.cause.testBit n = true → t.evt.cause.testBit n = true

theorem KeyWork.refl (s : State) : KeyWork s s := ⟨⟨_, _, _, _, _, _, rfl⟩, rfl, fun _ h => h⟩

theorem KeyWork.trans {s t u : State} (h : KeyWork s t) (k : KeyWork t u) : KeyWork s u := by
  refine ⟨?_, k.srcCfg.trans h.srcCfg, fun n hn => k.causes n (h.causes n hn)⟩
  obtain ⟨_, _, _, _, _, _, rfl⟩ := h.blocks
  obtain ⟨_, _, _, _, _, _, rfl⟩ := k.blocks
  exact ⟨_, _, _, _, _, _, rfl⟩

theorem KeyWork.ite {p : Prop} [Decidable p] {s t u : State} (h : KeyWork s t) (k : KeyWork s u) : KeyWork s (if p then t else u) := by
  split
  · exact h
  · exact k

theorem keyWork_withSec (f : SecSt → SecSt) (s : State) : KeyWork s (withSec f s) := ⟨⟨_, _, _, _, _, _, rfl⟩, rfl, fun _ h => h⟩
theorem keyWork_withCry (f : CrySt → CrySt) (s : State) : KeyWork s (withCry f s) := ⟨⟨_, _, _, _, _, _, rfl⟩, rfl, fun _ h => h⟩
theorem keyWork_withTwin (f : TwinSt → TwinSt) (s : State) : KeyWork s (withTwin f s) := ⟨⟨_, _, _, _, _, _, rfl⟩, rfl, fun _ h => h⟩
theorem keyWork_tick1 (s : State) : KeyWork s (tick1 s) := ⟨⟨_, _, _, _, _, _, rfl⟩, rfl, fun _ h => h⟩

theorem keyWork_raise (n : Nat) (s : State) : KeyWork s (raise n s) := by
  refine ⟨?_, by rw [raise_only], fun i h => raise_keeps_causes n h⟩
  rw [raise_only]
  exact ⟨_, _, _, _, _, _, rfl⟩

theorem keyWork_keyEvent (n slot : Nat) (s : State) : KeyWork s (keyEvent n slot s) := (keyWork_withSec ..).trans (keyWork_raise ..)

theorem keyWork_noteKey (slot : Nat) (s : State) : KeyWork s (noteKey slot s) := .ite (keyWork_withTwin ..) (.refl s)

theorem keyWork_orphan (k p : Nat) (g : Option Nat) (s : State) : KeyWork s (orphan k p g s).1 := by
  induction k generalizing p g s with
  | zero => exact .refl s
  | succ k ih =>
    have hf (l : List Nat) (a : State × Nat) (ha : KeyWork s a.1) : KeyWork s (l.foldl (fun (a : State × Nat) c =>
        let r := orphan k c none (noteKey c (withKey c (fun x => { x with state := 2 }) a.1))
        (r.1, a.2 + 1 + r.2)) a).1 := by
      induction l generalizing a with
      | nil => exact ha
      | cons c l ihl => exact ihl _ (((ha.trans (keyWork_withSec ..)).trans (keyWork_noteKey ..)).trans (ih ..))
    exact hf _ (s, 0) (.refl s)

theorem keyWork_orphanBy (p : Nat) (g : Option Nat) (s : State) : KeyWork s (orphanBy p g s).1 := by
  unfold orphanBy
  extract_lets r
  have hr : KeyWork s r.1 := keyWork_orphan ..
  split
  · exact hr
  · exact hr.trans (keyWork_keyEvent ..)

theorem keyWork_takeGen (slot : Nat) (m : KeyMat) (overlapMs : Nat) (s : State) : KeyWork s (takeGen slot m overlapMs s) :=
  (((keyWork_tick1 s).trans (keyWork_withSec ..)).trans (keyWork_noteKey ..)).trans (keyWork_orphanBy ..)

theorem keyWork_abortMessages (slot gen : Nat) (s : State) : KeyWork s (abortMessages slot gen s) :=
  ⟨⟨_, _, _, _, _, _, rfl⟩, rfl, fun _ h => h⟩

theorem keyWork_abortRetiring (slot : Nat) (s : State) : KeyWork s (abortRetiring slot s) := by
  unfold abortRetiring
  extract_lets k
  split
  · exact .refl s
  · exact .ite (keyWork_withSec ..)
      ((((keyWork_withSec ..).trans (keyWork_abortMessages ..)).trans (keyWork_withSec ..)).trans (keyWork_keyEvent ..))

theorem keyWork_commitAtLimit (slot : Nat) (s : State) : KeyWork s (commitAtLimit slot s) := by
  unfold commitAtLimit
  extract_lets k
  refine .ite (.refl s) ?_
  split
  · exact (((keyWork_abortRetiring ..).trans (keyWork_takeGen ..)).trans (keyWork_withSec ..)).trans (keyWork_keyEvent ..)
  · exact .refl s

theorem keyWork_keyRefuse (slot status : Nat) (s : State) : KeyWork s (keyRefuse slot status s).st :=
  .ite ((keyWork_withSec ..).trans (keyWork_keyEvent ..)) (.ite (keyWork_withSec ..) (.ite (keyWork_withSec ..) (.ite (keyWork_withSec ..) (.refl s))))

theorem keyWork_drawUse (slot : Nat) (s : State) : KeyWork s (drawUse slot s).st := by
  unfold drawUse
  extract_lets m drawn warned checked
  have hd : KeyWork s drawn := (keyWork_withSec ..).trans (keyWork_withSec ..)
  have hw : KeyWork s warned := .ite (hd.trans (keyWork_keyEvent ..)) hd
  exact .ite (hw.trans (keyWork_keyEvent ..)) hw

theorem keyWork_useKey (slot b : Nat) (s : State) : KeyWork s (useKey slot b s).st := by
  unfold useKey
  extract_lets st t k
  have ht : KeyWork s t := keyWork_commitAtLimit ..
  split
  · exact keyWork_keyRefuse ..
  · split
    · split
      · exact ht.trans (keyWork_drawUse ..)
      · exact ht.trans (keyWork_keyRefuse ..)
    · exact (((ht.trans (keyWork_withSec ..)).trans (keyWork_noteKey ..)).trans (keyWork_keyEvent ..)).trans (keyWork_keyRefuse ..)

/-! What sending a link frame reaches (R411, R459, R483). -/

/-- A port that has sent, dropped or aborted frames: its settings and its state stand, and its other counts. -/
structure PortKept (a b : LnkPort) : Prop where
  only : b = { a with cnt := b.cnt }
  cnt : ∀ i, i = 1 ∨ i = 2 ∨ i = 7 → tget 0 b.cnt i = tget 0 a.cnt i

theorem PortKept.refl (a : LnkPort) : PortKept a a := ⟨rfl, fun _ _ => rfl⟩

theorem PortKept.trans {a b c : LnkPort} (h : PortKept a b) (k : PortKept b c) : PortKept a c := by
  refine ⟨?_, fun i hi => (k.cnt i hi).trans (h.cnt i hi)⟩
  rw [k.only, h.only]

/-- What link frames sent reach. -/
structure LinkSends (s t : State) : Prop where
  blocks : ∃ free evt rfc sec cry twin lnk, t = { s with free := free, evt := evt, rfc := rfc, sec := sec, cry := cry, twin := twin, lnk := lnk }
  srcCfg : t.evt.srcCfg = s.evt.srcCfg
  causes : ∀ n, s.evt.cause.testBit n = true → t.evt.cause.testBit n = true
  link : ∃ ports waiting out, t.lnk = { s.lnk with ports := ports, waiting := waiting, out := out }
  ports : ∀ n, PortKept (portOf s n) (portOf t n)

theorem LinkSends.refl (s : State) : LinkSends s s := ⟨⟨_, _, _, _, _, _, _, rfl⟩, rfl, fun _ h => h, ⟨_, _, _, rfl⟩, fun _ => .refl _⟩

theorem LinkSends.trans {s t u : State} (h : LinkSends s t) (k : LinkSends t u) : LinkSends s u := by
  refine ⟨?_, k.srcCfg.trans h.srcCfg, fun n hn => k.causes n (h.causes n hn), ?_, fun n => (h.ports n).trans (k.ports n)⟩
  · obtain ⟨_, _, _, _, _, _, _, rfl⟩ := h.blocks
    obtain ⟨_, _, _, _, _, _, _, rfl⟩ := k.blocks
    exact ⟨_, _, _, _, _, _, _, rfl⟩
  · obtain ⟨_, _, _, hl⟩ := h.link
    obtain ⟨_, _, _, kl⟩ := k.link
    rw [kl, hl]
    exact ⟨_, _, _, rfl⟩

theorem KeyWork.linkSends {s t : State} (h : KeyWork s t) : LinkSends s t := by
  refine ⟨?_, h.srcCfg, h.causes, ?_, fun n => ?_⟩
  all_goals obtain ⟨_, _, _, _, _, _, hb⟩ := h.blocks; rw [hb]
  · exact ⟨_, _, _, _, _, _, _, rfl⟩
  · exact ⟨_, _, _, rfl⟩
  · exact .refl _

theorem linkSends_foldl {α : Type} {f : State → α → State} (hf : ∀ s a, LinkSends s (f s a)) (l : List α) (s : State) : LinkSends s (l.foldl f s) := by
  induction l generalizing s with
  | nil => exact .refl s
  | cons a l ih => exact (hf s a).trans (ih _)

theorem portOf_withPort (p n : Nat) (f : LnkPort → LnkPort) (s : State) :
    portOf (withPort p f s) n = if p = n then f (portOf s n) else portOf s n := tget_tmod ..

/-- Frames sent, aborted or dropped for want of a route are counted. -/
theorem linkSends_portCnt {p i : Nat} (hi : i ≠ 1 ∧ i ≠ 2 ∧ i ≠ 7) (s : State) : LinkSends s (portCnt p i s) := by
  refine ⟨⟨_, _, _, _, _, _, _, rfl⟩, rfl, fun _ h => h, ⟨_, _, _, rfl⟩, fun n => ?_⟩
  rw [portCnt, portOf_withPort]
  split
  · refine ⟨rfl, fun j hj => ?_⟩
    rw [tget_bump, if_neg (by omega)]
  · exact .refl _

theorem linkSends_putOnWire (p : Nat) (f : LinkFrame) (s : State) : LinkSends s (putOnWire p f s) := by
  unfold putOnWire
  extract_lets sent
  have ho : LinkSends s (withLnk (fun l => { l with out := l.out ++ [(p, f)] }) s) :=
    ⟨⟨_, _, _, _, _, _, _, rfl⟩, rfl, fun _ h => h, ⟨_, _, _, rfl⟩, fun _ => .refl _⟩
  have hs : LinkSends s sent := ho.trans (linkSends_portCnt (by decide) _)
  split
  · exact hs.trans (linkSends_portCnt (by decide) _)
  · exact hs

theorem linkSends_sealLink (p : Nat) (f : LinkFrame) (s : State) : LinkSends s (sealLink p f s) := by
  unfold sealLink
  extract_lets slot u m g aad r
  have hu : KeyWork s u.st := keyWork_useKey ..
  split
  · exact (keyWork_keyRefuse ..).linkSends
  · split
    · exact hu.linkSends
    · exact (hu.trans (keyWork_withSec ..)).linkSends.trans (linkSends_putOnWire ..)

theorem linkSends_transmit (p : Nat) (f : LinkFrame) (s : State) : LinkSends s (transmit p f s) := by
  unfold transmit
  extract_lets t
  have ht : LinkSends s t := (keyWork_commitAtLimit ..).linkSends
  split
  · exact .refl s
  · split
    · exact linkSends_portCnt (by decide) s
    · split
      · exact linkSends_putOnWire ..
      · split
        · have hq : LinkSends t (withLnk (fun l => { l with waiting := l.waiting ++ [(p, f)] }) t) :=
            ⟨⟨_, _, _, _, _, _, _, rfl⟩, rfl, fun _ h => h, ⟨_, _, _, rfl⟩, fun _ => .refl _⟩
          exact ((ht.trans hq).trans (keyWork_withCry ..).linkSends).trans (keyWork_raise ..).linkSends
        · exact ht.trans (linkSends_sealLink ..)

theorem linkSends_flushLinks (s : State) : LinkSends s (flushLinks s) := by
  have hw : LinkSends s (withLnk (fun l => { l with waiting := [] }) s) :=
    ⟨⟨_, _, _, _, _, _, _, rfl⟩, rfl, fun _ h => h, ⟨_, _, _, rfl⟩, fun _ => .refl _⟩
  exact hw.trans (linkSends_foldl (fun s (x : Nat × LinkFrame) => linkSends_transmit x.1 x.2 s) _ _)

/-! Link state, and what follows a port (R461, R464, R466). -/

/-- What a port's change tells: its own counts and state stand, and so does what is no link's. -/
structure LinkTells (s t : State) : Prop where
  blocks : ∃ free evt rfc sec cry twin lnk time, t = { s with
    free := free, evt := evt, rfc := rfc, sec := sec, cry := cry, twin := twin, lnk := lnk, time := time }
  clock : t.time.c = s.time.c
  srcCfg : t.evt.srcCfg = s.evt.srcCfg
  causes : ∀ n, s.evt.cause.testBit n = true → t.evt.cause.testBit n = true
  ports : ∀ n, PortKept (portOf s n) (portOf t n)

theorem LinkTells.trans {s t u : State} (h : LinkTells s t) (k : LinkTells t u) : LinkTells s u := by
  refine ⟨?_, k.clock.trans h.clock, k.srcCfg.trans h.srcCfg, fun n hn => k.causes n (h.causes n hn), fun n => (h.ports n).trans (k.ports n)⟩
  obtain ⟨_, _, _, _, _, _, _, _, rfl⟩ := h.blocks
  obtain ⟨_, _, _, _, _, _, _, _, rfl⟩ := k.blocks
  exact ⟨_, _, _, _, _, _, _, _, rfl⟩

theorem LinkSends.tells {s t : State} (h : LinkSends s t) : LinkTells s t := by
  refine ⟨?_, ?_, h.srcCfg, h.causes, h.ports⟩
  all_goals obtain ⟨_, _, _, _, _, _, _, hb⟩ := h.blocks; rw [hb]
  exact ⟨_, _, _, _, _, _, _, _, rfl⟩

theorem LinkTells.refl (s : State) : LinkTells s s := (LinkSends.refl s).tells

/-- A change of the links beside their ports. -/
theorem linkTells_withLnk {f : LnkSt → LnkSt} (s : State) (hf : ∀ l, (f l).ports = l.ports := by exact fun _ => rfl) : LinkTells s (withLnk f s) := by
  refine ⟨⟨_, _, _, _, _, _, _, _, rfl⟩, rfl, rfl, fun _ h => h, fun n => ?_⟩
  have : portOf (withLnk f s) n = portOf s n := by
    unfold portOf
    rw [withLnk_lnk, hf]
  rw [this]
  exact .refl _

theorem linkTells_raise (n : Nat) (s : State) : LinkTells s (raise n s) := (keyWork_raise n s).linkSends.tells

theorem linkTells_noteRing (m p : Nat) (up : Bool) (s : State) : LinkTells s (noteRing m p up s) := by
  unfold noteRing
  extract_lets reported broken
  have hr : LinkTells s reported := linkTells_withLnk s
  split
  · exact hr
  · exact (hr.trans (linkTells_withLnk reported)).trans (linkTells_raise ..)

/-- A broadcast of the part's own: it is remembered, its number is used, and it goes out on every port it may. -/
theorem broadcast_sends (vl kind : Nat) (body : List Byte) (m : LinkMsg) (s : State) :
    let f := (newFrame vl kind 0xFFFF body m s).2
    LinkSends (remember s.lnk.memberId vl f.seq (newFrame vl kind 0xFFFF body m s).1) (broadcast vl kind body m s) :=
  linkSends_foldl (fun _ _ => linkSends_transmit ..) _ _

theorem linkTells_broadcast (vl kind : Nat) (body : List Byte) (m : LinkMsg) (s : State) : LinkTells s (broadcast vl kind body m s) := by
  have hn := linkTells_withLnk (f := fun l => { l with seqs := tput l.seqs vl ((tget 0 s.lnk.seqs vl + 1) % 65536) }) s
  exact (hn.trans (linkTells_withLnk _)).trans (broadcast_sends vl kind body m s).tells

theorem linkTells_linkState (p : Nat) (up : Bool) (s : State) : LinkTells s (linkState p up s) :=
  (linkTells_noteRing ..).trans (linkTells_broadcast ..)

theorem linkTells_loseSource (i : Nat) (s : State) : LinkTells s (loseSource i s) := by
  have ht : LinkTells s (withTime (setDom i { domOf s.time i with locked := false, good := 0 }) s) := by
    exact ⟨⟨_, _, _, _, _, _, _, _, rfl⟩, setDom_c .., rfl, fun _ h => h, fun _ => .refl _⟩
  exact ht.trans (linkTells_raise ..)

theorem linkTells_foldl {α : Type} {f : State → α → State} (hf : ∀ s a, LinkTells s (f s a)) (l : List α) (s : State) : LinkTells s (l.foldl f s) := by
  induction l generalizing s with
  | nil => exact .refl s
  | cons a l ih => exact (hf s a).trans (ih _)

theorem linkTells_setDom (i : Nat) (d : DomSt) (s : State) : LinkTells s (withTime (setDom i d) s) :=
  ⟨⟨_, _, _, _, _, _, _, _, rfl⟩, setDom_c .., rfl, fun _ h => h, fun _ => .refl _⟩

theorem linkTells_moveFollowers (p q : Nat) (s : State) : LinkTells s (moveFollowers p q s) := by
  refine linkTells_foldl (fun s i => ?_) _ s
  split
  · exact (linkTells_setDom ..).trans (linkTells_loseSource ..)
  · exact .refl s

theorem linkTells_upPortLost (p : Nat) (s : State) : LinkTells s (upPortLost p s) := by
  unfold upPortLost
  split
  · exact .refl s
  · split
    · extract_lets q
      split
      · exact .refl s
      · exact (linkTells_withLnk s).trans (linkTells_moveFollowers ..)
    · exact .refl s

/-- A port that goes DOWN from UP: counted, told and its events raised. -/
theorem takeDown_tells {p : Nat} {s : State} (hu : (portOf s p).state = 2) :
    LinkTells (raise 0x111 (portCnt p 7 (withPort p (fun q => { q with state := 0, lock := false, matched := false }) s))) (takeDown p s) := by
  unfold takeDown
  extract_lets up down
  have hd : LinkTells (raise 0x111 (portCnt p 7 (withPort p (fun q => { q with state := 0, lock := false, matched := false }) s))) down := by
    simp only [down, portDown, hu, ne_eq, not_true_eq_false, if_false]
    exact linkTells_linkState ..
  rw [if_pos hu]
  exact hd.trans (linkTells_upPortLost ..)

/-- A port that leaves TRAINING or is DOWN tells nothing. -/
theorem takeDown_quiet {p : Nat} {s : State} (hu : (portOf s p).state ≠ 2) :
    takeDown p s = withPort p (fun q => { q with state := 0, lock := false, matched := false }) s := by
  simp [takeDown, portDown, hu]

/-- A port as it goes DOWN. -/
def portLow (q : LnkPort) (c : Tbl Nat) : LnkPort := { q with state := 0, lock := false, matched := false, cnt := c }

/-- A port taken DOWN. -/
structure TakenDown (p : Nat) (s t : State) : Prop where
  blocks : ∃ free evt rfc sec cry twin lnk time, t = { s with
    free := free, evt := evt, rfc := rfc, sec := sec, cry := cry, twin := twin, lnk := lnk, time := time }
  clock : t.time.c = s.time.c
  port : portOf t p = portLow (portOf s p) (portOf t p).cnt
  counted : (portOf s p).state = 2 → tget 0 (portOf t p).cnt 7 = min (tget 0 (portOf s p).cnt 7 + 1) 0xFFFFFFFF
  event : (portOf s p).state = 2 → (srcCfgOf s 0x111).enable = true → t.evt.cause.testBit 0x111 = true

theorem takeDown_takes (p : Nat) (s : State) : TakenDown p s (takeDown p s) := by
  by_cases hu : (portOf s p).state = 2
  · have ht := takeDown_tells hu
    generalize takeDown p s = t at ht ⊢
    have hport : portOf (raise 0x111 (portCnt p 7 (withPort p (fun q => { q with state := 0, lock := false, matched := false }) s))) p =
        portLow (portOf s p) (bump (portOf s p).cnt 7) := by
      rw [raise_only]
      change portOf (portCnt p 7 (withPort p _ s)) p = _
      rw [portCnt, portOf_withPort, portOf_withPort, if_pos rfl, if_pos rfl]
      rfl
    have hk := ht.ports p
    rw [hport] at hk
    refine ⟨?_, ?_, ?_, fun _ => ?_, fun _ he => ?_⟩
    · obtain ⟨_, _, _, _, _, _, _, _, hb⟩ := ht.blocks
      rw [hb, raise_only]
      exact ⟨_, _, _, _, _, _, _, _, rfl⟩
    · rw [ht.clock, raise_only]
      rfl
    · exact hk.only
    · rw [hk.cnt 7 (by decide)]
      exact (tget_bump ..).trans (if_pos rfl)
    · exact ht.causes _ (raise_sets he)
  · rw [takeDown_quiet hu]
    refine ⟨⟨_, _, _, _, _, _, _, _, rfl⟩, rfl, ?_, fun h => absurd h hu, fun h => absurd h hu⟩
    rw [portOf_withPort, if_pos rfl]
    rfl

/-- A port trained. -/
theorem portUp_trains (p : Nat) (s : State) : LinkTells (raise 0x110 (withPort p (fun q => { q with state := 2 }) s)) (portUp p s) :=
  linkTells_linkState ..

/-! LNK_PORT_CFG (R457, R461). -/

/-- The ranges of LNK_PORT_CFG on port f. -/
def portCfgOk (f : Nat) (p : LnkPortCfgP) : Prop :=
  p.enable ≤ 1 ∧ p.role ≤ 1 ∧ (p.role = 1 → f = 2) ∧ p.expectedPeer ≤ 4095 ∧ p.txSlot ≤ 4095 ∧ p.rxSlot ≤ 4095 ∧ 20 ≤ p.linkDownUs ∧
    p.linkDownUs ≤ 10000 ∧ p.boundaryOut ≤ 1 ∧ p.handoverOut ≤ 1

/-- The role of DL2 would change on a configured twin. -/
abbrev roleChanges (f : Nat) (p : LnkPortCfgP) (s : State) : Prop := s.twin.configured = true ∧ f = 2 ∧ p.role ≠ (portOf s f).role

theorem portCfgRefusal_bad {f : Nat} {p : LnkPortCfgP} {s : State} (hp : ¬ portCfgOk f p) : portCfgRefusal f p s = stBadParam := by
  refine if_pos ?_
  simp only [Bool.or_eq_true, Bool.and_eq_true, decide_eq_true_eq]
  unfold portCfgOk at hp
  omega

section
variable {f : Nat} {p : LnkPortCfgP} {s : State} (hp : portCfgOk f p)
include hp

theorem portCfgRefusal_inRange : portCfgRefusal f p s = if roleChanges f p s then stBusy else
    if keyStatus s p.txSlot 1 = stOk ∧ keyStatus s p.rxSlot 1 = stOk then 0
    else if keyStatus s p.txSlot 1 = stKeyDenied ∨ (keyStatus s p.txSlot 1 = stOk ∧ keyStatus s p.rxSlot 1 = stKeyDenied) then stKeyDenied
    else stKeyGone := by
  rw [portCfgRefusal, if_neg]
  · simp only [Bool.and_eq_true, Bool.or_eq_true, decide_eq_true_eq, roleChanges, and_assoc]
  · simp only [Bool.or_eq_true, Bool.and_eq_true, decide_eq_true_eq]
    unfold portCfgOk at hp
    omega

theorem portCfgRefusal_change (hc : roleChanges f p s) : portCfgRefusal f p s = stBusy := by
  rw [portCfgRefusal_inRange hp, if_pos hc]

theorem portCfgRefusal_deadTx (hc : ¬ roleChanges f p s)
    (hk : (slotOf s p.txSlot).state = 0 ∨ (2 ≤ (slotOf s p.txSlot).state ∧ (slotOf s p.txSlot).state ≤ 4)) : portCfgRefusal f p s = stKeyGone := by
  have ho : keyStatus s p.txSlot 1 ≠ stOk := keyStatus_dead hk
  have hd : keyStatus s p.txSlot 1 ≠ stKeyDenied := by
    have : (slotOf s p.txSlot).state = 0 ∨ (slotOf s p.txSlot).state = 4 ∨ (slotOf s p.txSlot).state = 2 ∨ (slotOf s p.txSlot).state = 3 := by omega
    rcases this with h | h | h | h <;> simp [keyStatus, h, stKeyDenied, stKeyGone, stKeyOrphan, stKeyExhausted]
  rw [portCfgRefusal_inRange hp, if_neg hc, if_neg (fun h => ho h.1), if_neg (not_or.mpr ⟨hd, fun h => ho h.1⟩)]

theorem portCfgRefusal_live (hc : ¬ roleChanges f p s) (ht : keyStatus s p.txSlot 1 = stOk) (hr : keyStatus s p.rxSlot 1 = stOk) :
    portCfgRefusal f p s = 0 := by
  rw [portCfgRefusal_inRange hp, if_neg hc, if_pos ⟨ht, hr⟩]
end

/-- A port's new settings. -/
def portSet (p : LnkPortCfgP) (q : LnkPort) : LnkPort := { q with
  enable := decide (p.enable = 1), role := p.role, expectedPeer := p.expectedPeer, txSlot := p.txSlot, rxSlot := p.rxSlot,
  linkDownUs := p.linkDownUs, boundaryOut := decide (p.boundaryOut = 1), handoverOut := decide (p.handoverOut = 1), mismatchSeen := false }

/-- An enabled port may leave DOWN for TRAINING (R461, R520). -/
abbrev mayTrain (n : Nat) (q : LnkPort) (s : State) : Prop :=
  q.state = 0 ∧ q.lock = true ∧ q.held = false ∧ s.fwall.frozen.contains (33 + n) = false

theorem lnkPortCfg_refuses {h : Hdr} {p : LnkPortCfgP} {s : State} {st : Nat} (hr : portCfgRefusal h.flow p s = st) (h0 : st ≠ 0) :
    lnkPortCfg h p s = refuse s st := by
  simp [lnkPortCfg, hr, h0]

theorem withPort_withPort (n : Nat) (f g : LnkPort → LnkPort) (s : State) : withPort n g (withPort n f s) = withPort n (fun q => g (f q)) s := by
  simp [withPort, withLnk, tmod, tput_tput]

/-- A port that is enabled trains where it may. -/
theorem lnkPortCfg_enables {h : Hdr} {p : LnkPortCfgP} {s : State} (hr : portCfgRefusal h.flow p s = 0) (he : p.enable = 1) :
    lnkPortCfg h p s = done (withPort h.flow (fun q => { portSet p q with
      state := if mayTrain h.flow (portOf s h.flow) s then 1 else q.state }) s) := by
  have hl : portOf (withPort h.flow (portSet p) s) h.flow = portSet p (portOf s h.flow) := by rw [portOf_withPort, if_pos rfl]
  have hc : (decide ((portSet p (portOf s h.flow)).state = 0) && (portSet p (portOf s h.flow)).lock && !(portSet p (portOf s h.flow)).held &&
      !s.fwall.frozen.contains (33 + h.flow)) = true ↔ mayTrain h.flow (portOf s h.flow) s := by
    simp only [Bool.and_eq_true, decide_eq_true_eq, Bool.not_eq_true', and_assoc]
    rfl
  unfold lnkPortCfg
  extract_lets f st t q down
  have hst : ¬ st ≠ 0 := not_not.mpr hr
  have hq : q = portSet p (portOf s h.flow) := hl
  have ht : t = withPort h.flow (portSet p) s := rfl
  rw [if_neg hst, if_neg (by omega), hq, ht]
  by_cases hm : mayTrain h.flow (portOf s h.flow) s
  · refine (congrArg (fun x => done x) (if_pos (hc.mpr hm))).trans ?_
    simp only [if_pos hm]
    exact congrArg (fun x => done x) (withPort_withPort ..)
  · refine (congrArg (fun x => done x) (if_neg (mt hc.mp hm))).trans ?_
    simp only [if_neg hm]
    rfl

/-- A port that is disabled goes DOWN, and keeps its block lock. -/
theorem lnkPortCfg_disables {h : Hdr} {p : LnkPortCfgP} {s : State} (hr : portCfgRefusal h.flow p s = 0) (he : p.enable = 0) :
    lnkPortCfg h p s = done (withPort h.flow (fun x => { x with lock := (portOf s h.flow).lock })
      (takeDown h.flow (withPort h.flow (portSet p) s))) := by
  have hl : portOf (withPort h.flow (portSet p) s) h.flow = portSet p (portOf s h.flow) := by rw [portOf_withPort, if_pos rfl]
  unfold lnkPortCfg
  extract_lets f st t q down
  have hst : ¬ st ≠ 0 := not_not.mpr hr
  have hq : q = portSet p (portOf s h.flow) := hl
  rw [if_neg hst, if_pos he, hq]
  rfl

/-! LNK_TOPOLOGY and LNK_STATUS (R462, R465). -/

theorem le_foldl_max {α : Type} (f : α → Nat) (l : List α) (n : Nat) :
    n ≤ l.foldl (fun n r => max n (f r)) n ∧ ∀ r ∈ l, f r ≤ l.foldl (fun n r => max n (f r)) n := by
  induction l generalizing n with
  | nil => simp
  | cons a l ih =>
    obtain ⟨h1, h2⟩ := ih (max n (f a))
    refine ⟨(le_max_left ..).trans h1, fun r hr => ?_⟩
    rcases List.mem_cons.mp hr with rfl | hr
    · exact (le_max_right ..).trans h1
    · exact h2 r hr

theorem hopsPrimary_le_longest {l : List Route} {r : Route} (h : r ∈ l) : r.hopsPrimary ≤ longestRoute l :=
  (le_max_left ..).trans ((le_foldl_max (fun r : Route => max r.hopsPrimary (if r.alternate = 0xFF then 0 else r.hopsAlternate)) l 0).2 r h)

/-- A set without cycles: one path to each member, within the length limit (R462, R465). -/
theorem topologyOk_acyclic {s : State} {p : LnkTopologyP} (h : topologyOk s p = true) (hk : p.kind = 0) {r : Route} (hr : r ∈ p.routes) :
    (r.alternate = 0xFF ∨ r.alternate = r.primary) ∧ r.hopsPrimary ≤ hMaxOf p := by
  simp only [topologyOk, hk, if_true, Bool.and_eq_true, Bool.not_eq_true', List.any_eq_false, decide_eq_true_eq] at h
  obtain ⟨-, hc, hl⟩ := h
  have hn := hc r hr
  simp only [cyclic, Bool.and_eq_true, decide_eq_true_eq] at hn
  exact ⟨by tauto, (hopsPrimary_le_longest hr).trans hl⟩

theorem lnkTopology_bad {h : Hdr} {p : LnkTopologyP} {s : State} (hp : ¬ (topologyRange s p = true ∧ topologyOk s p = true)) :
    lnkTopology h p s = refuse s stBadParam := by
  rw [lnkTopology, if_pos]
  rw [Bool.not_eq_true', ← Bool.not_eq_true, Bool.and_eq_true]
  exact hp

/-- The links with a topology set. -/
def topologySet (p : LnkTopologyP) (l : LnkSt) : LnkSt := { l with
  setId := p.setId, memberId := p.memberId, kind := p.kind, members := p.members, timeRoot := p.timeRoot, hopLimit := p.hopLimit,
  linkRing := p.linkRing, routes := p.routes, hMax := hMaxOf p, downReports := [], ringBroken := false, seen := [],
  upPort := match p.routes.find? (fun r => decide (r.member = p.timeRoot)) with
    | some r => r.primary
    | none => 0 }

theorem lnkTopology_sets {h : Hdr} {p : LnkTopologyP} {s : State} (hp : topologyRange s p = true ∧ topologyOk s p = true) :
    lnkTopology h p s = done (withLnk (topologySet p) s) (le 2 (hMaxOf p) ++ le 2 (longestRoute p.routes)) := by
  rw [lnkTopology, if_neg (by simp [hp])]
  rfl

theorem lnkStatus_bad {h : Hdr} {p : LnkStatusP} (hp : 1 < p.clear) (s : State) : lnkStatus h p s = refuse s stBadParam := by
  simp [lnkStatus, hp]

theorem lnkStatus_topology {h : Hdr} {p : LnkStatusP} (hp : p.clear ≤ 1) (hf : 3 ≤ h.flow) (s : State) :
    lnkStatus h p s = done s (le 4 (topoWord s) ++ le 2 s.lnk.hMax) := by
  rw [lnkStatus, if_neg (Nat.not_lt.mpr hp), if_neg (Nat.not_lt.mpr hf)]

theorem lnkStatus_port {h : Hdr} {p : LnkStatusP} (hp : p.clear ≤ 1) (hf : h.flow < 3) (s : State) :
    lnkStatus h p s = done { s with lnk := if p.clear = 1 then
        { s.lnk with ports := tput s.lnk.ports h.flow { portOf s h.flow with cnt := [] } } else s.lnk }
      (le 1 (portOf s h.flow).state ++ zeros 1 ++ le 2 (portOf s h.flow).peer ++
        (List.range 8).flatMap (fun i => le 2 (sat16 (tget 0 (portOf s h.flow).cnt i)))) := by
  rw [lnkStatus, if_neg (Nat.not_lt.mpr hp), if_pos hf]
  split <;> rfl

/-! LNK_SEND (R463, R464, R468). -/

theorem lnkSend_bad {h : Hdr} {p : LnkSendP} {s : State} (hp : 4095 < p.dst ∧ p.dst ≠ 0xFFFF ∨ sendMsg p = none) :
    lnkSend h p s = refuse s stBadParam := by
  unfold lnkSend
  split
  · rfl
  next hd =>
    have hm : sendMsg p = none := hp.resolve_left (by simpa using hd)
    rw [hm]

section
variable {h : Hdr} {p : LnkSendP} {s : State} {m : LinkMsg} (hm : sendMsg p = some m)
include hm

theorem lnkSend_carries (hd : p.dst ≤ 4095 ∨ p.dst = 0xFFFF) : lnkSend h p s = if gated s then refuse s stStandby
    else if p.dst = 0xFFFF then if sourcePorts s = [] then refuse s stBusy else done (broadcast p.vl p.kind p.body m s)
    else match egressPort s p.dst with
      | none => refuse s stBusy
      | some q => done (transmit q (newFrame p.vl p.kind p.dst p.body m s).2 (newFrame p.vl p.kind p.dst p.body m s).1) := by
  rw [lnkSend, if_neg (by simp only [Bool.and_eq_true, decide_eq_true_eq]; omega), hm] <;> rfl

theorem lnkSend_broadcasts (hd : p.dst = 0xFFFF) (hg : gated s = false) (hs : sourcePorts s ≠ []) :
    lnkSend h p s = done (broadcast p.vl p.kind p.body m s) := by
  rw [lnkSend_carries hm (.inr hd), if_neg (by simp [hg]), if_pos hd, if_neg hs]

theorem lnkSend_noRoute (hd : p.dst ≤ 4095) (hg : gated s = false) (he : egressPort s p.dst = none) : lnkSend h p s = refuse s stBusy := by
  rw [lnkSend_carries hm (.inl hd), if_neg (by simp [hg]), if_neg (by omega), he]

theorem lnkSend_routes {q : Nat} (hd : p.dst ≤ 4095) (hg : gated s = false) (he : egressPort s p.dst = some q) :
    lnkSend h p s = done (transmit q (newFrame p.vl p.kind p.dst p.body m s).2 (newFrame p.vl p.kind p.dst p.body m s).1) := by
  rw [lnkSend_carries hm (.inl hd), if_neg (by simp [hg]), if_neg (by omega), he]

/-- What LNK_SEND may carry goes on a lane of its own, sealed. -/
theorem sendMsg_lane : p.vl ≠ 0 := by
  intro hv
  simp [sendMsg, hv] at hm
end

theorem egressPort_up {s : State} {m q : Nat} (h : egressPort s m = some q) : (portOf s q).state = 2 := by
  have hu {x : Nat} (h : memberUp s x = true) : (portOf s x).state = 2 := by
    simp only [memberUp, Bool.and_eq_true, decide_eq_true_eq] at h
    exact h.2
  unfold egressPort at h
  split at h
  · cases h
  next r hr =>
    extract_lets away alt at h
    have ha (h : alt = true) : memberUp s r.alternate = true := ((Bool.and_eq_true _ _).mp h).2
    split at h
    next hc =>
      cases h
      exact hu (ha ((Bool.and_eq_true _ _).mp hc).2)
    · split at h
      next hp =>
        cases h
        exact hu hp
      · split at h
        next hal =>
          cases h
          exact hu (ha hal)
        · cases h

/-- The key of a port can seal a frame now (R402, R409, R411). -/
structure Sealable (s : State) (n : Nat) : Prop where
  live : (slotOf s n).state = 1
  engine : (slotOf s n).mat.engines.testBit 1 = true
  use : (slotOf s n).mat.usageCount < (slotOf s n).mat.usageLimit
  nonce : (slotOf s n).mat.nc ≠ 2 ^ 64 - 1
  nonceReady : nonceReady s (slotOf s n).mat = true
  drawReady : drawReady s n = true

/-- A frame sealed and sent: what it carries, and what it drew. -/
structure FrameSealed (q : Nat) (f : LinkFrame) (s t : State) : Prop where
  blocks : ∃ e sec lnk, t = { s with evt := e, sec := sec, lnk := lnk }
  seqs : t.lnk.seqs = s.lnk.seqs
  sent : ∃ fixed aad body tag, t.lnk.out = s.lnk.out ++
    [(q, { f with enc := true, ivFixed := fixed, nc := (slotOf s (portOf s q).txSlot).mat.nc, aad := aad, body := body, tag := tag })]
  drawn : slotOf t (portOf s q).txSlot = { slotOf s (portOf s q).txSlot with
    mat := drawNonce { (slotOf s (portOf s q).txSlot).mat with usageCount := (slotOf s (portOf s q).txSlot).mat.usageCount + 1 } }

theorem putOnWire_sends {q : Nat} {f : LinkFrame} (ha : f.aborted = false) (s : State) :
    putOnWire q f s = portCnt q 0 (withLnk (fun l => { l with out := l.out ++ [(q, f)] }) s) := by
  simp [putOnWire, ha]

theorem sealLink_seals {q : Nat} {f : LinkFrame} {s : State} (ha : f.aborted = false) (hk : Sealable s (portOf s q).txSlot) :
    FrameSealed q f s (sealLink q f s) := by
  obtain ⟨hs, hb, hu, hn, -, -⟩ := hk
  obtain ⟨e, c, l, hd⟩ := drawUse_draws (portOf s q).txSlot s
  have huse := useKey_live hs hb hu
  unfold sealLink
  extract_lets n u m g aad r
  have hu : u = drawUse n s := huse
  rw [if_neg (by simpa using fun _ => hn)]
  rw [if_neg (by rw [hu, hd]; exact not_not.mpr rfl), putOnWire_sends (f := { g with aad := aad, body := r.1, tag := r.2 }) ha]
  have hm : m = (slotOf s n).mat := by rw [show m = (drawUse n s).mat from congrArg KeyUse.mat hu, hd]
  have hst : u.st = _ := (congrArg KeyUse.st hu).trans (congrArg KeyUse.st hd)
  refine ⟨?_, by rw [hst]; rfl, ?_, ?_⟩
  · rw [hst]
    exact ⟨_, _, _, rfl⟩
  · rw [hst]
    refine ⟨m.nonceFixed, aad, r.1, r.2, ?_⟩
    rw [← hm]
    rfl
  · rw [hst]
    change tget {} (tput (tput s.sec.slots n (used (slotOf s n))) n _) n = _
    rw [tget_tput_same, tget_tput_same]
    rfl

theorem transmit_seals {q : Nat} {f : LinkFrame} {s : State} (hq : (portOf s q).state = 2) (hg : gated s = false) (hv : f.vl ≠ 0)
    (ha : f.aborted = false) (hk : Sealable s (portOf s q).txSlot) (hw : ∀ w ∈ s.lnk.waiting, w.1 ≠ q) : FrameSealed q f s (transmit q f s) := by
  have hc : commitAtLimit (portOf s q).txSlot s = s := commitAtLimit_below hk.use
  have hr : linkReady s q = true := by simp [linkReady, hk.nonceReady, hk.drawReady]
  have hany : s.lnk.waiting.any (fun w => w.1 = q) = false := by simpa using hw
  have ht : transmit q f s = sealLink q f s := by
    simp [transmit, hq, hg, hv, hc, hr, hany]
  rw [ht]
  exact sealLink_seals ha hk

/-- LNK_SEND to one member: the frame takes the lane's next number. -/
theorem newFrame_transmit_seals {vl kind dst q : Nat} {body : List Byte} {m : LinkMsg} {s : State} (hq : (portOf s q).state = 2) (hg : gated s = false)
    (hv : vl ≠ 0) (hk : Sealable s (portOf s q).txSlot) (hw : ∀ w ∈ s.lnk.waiting, w.1 ≠ q) :
    let r := newFrame vl kind dst body m s
    FrameSealed q r.2 r.1 (transmit q r.2 r.1) :=
  transmit_seals (s := (newFrame vl kind dst body m s).1) hq hg hv rfl ⟨hk.live, hk.engine, hk.use, hk.nonce, hk.nonceReady, hk.drawReady⟩ hw

/-! Training (R461, R467). -/

theorem dlBlockLock_locks {n : Nat} (hn : n ≤ 2) (s : State) : dlBlockLock n s = withPort n (fun q => { q with
    lock := true, state := if (portOf s n).enable = true ∧ (portOf s n).state = 0 ∧ (portOf s n).held = false ∧
      s.fwall.frozen.contains (33 + n) = false then 1 else q.state }) s := by
  unfold dlBlockLock
  extract_lets q
  rw [if_neg (Nat.not_lt.mpr hn)]
  simp only [Bool.and_eq_true, decide_eq_true_eq, Bool.not_eq_true', and_assoc]
  rfl

theorem dlHelloTx_silent {n : Nat} {s : State} (h : (portOf s n).enable = false ∨ (portOf s n).held = true ∨ (n < 2 ∧ gated s = true)) :
    dlHelloTx n s = s := by
  refine if_pos ?_
  simp only [Bool.or_eq_true, Bool.and_eq_true, decide_eq_true_eq, Bool.not_eq_true']
  tauto

theorem dlHelloTx_sends {n : Nat} {s : State} (hn : n ≤ 2) (he : (portOf s n).enable = true) (hh : (portOf s n).held = false)
    (hg : 2 ≤ n ∨ gated s = false) : dlHelloTx n s = withPort n (fun q => { q with hellos := min (q.hellos + 1) 0xFFFFFFFF }) s := by
  refine if_neg ?_
  simp only [Bool.or_eq_true, Bool.and_eq_true, decide_eq_true_eq, he, hh]
  have h2 : ¬ 2 < n := Nat.not_lt.mpr hn
  rcases hg with hg | hg
  · have : ¬ n < 2 := Nat.not_lt.mpr hg
    simp [h2, this]
  · simp [h2, hg]

theorem dlHelloRx_disabled {n id m : Nat} {tw : Bool} {chip : Nat} {s : State} (he : (portOf s n).enable = false) :
    dlHelloRx n id m tw chip s = s := by
  refine if_pos ?_
  simp [he]

/-- A hello of the peer: who it is, and whether it is the one expected (R461, R469). -/
structure HelloTaken (n m chip : Nat) (ok : Bool) (s t : State) : Prop where
  blocks : t = { s with lnk := t.lnk, evt := t.evt }
  matched : (portOf t n).matched = ok
  peer : (portOf t n).peer = m % 4096
  chip : (portOf t n).peerChip = chip
  cause : t.evt.cause = if ok = false ∧ (portOf s n).state = 1 ∧ (portOf s n).mismatchSeen = false then causeAfter 0x114 s else s.evt.cause

theorem dlHelloRx_takes {n id m : Nat} {tw : Bool} {chip : Nat} {s : State} (hn : n ≤ 2) (he : (portOf s n).enable = true) :
    HelloTaken n m chip (decide (id = s.lnk.setId ∧ m = (portOf s n).expectedPeer ∧ b2n tw = (portOf s n).role)) s (dlHelloRx n id m tw chip s) := by
  unfold dlHelloRx
  extract_lets q ok heard
  have hok : ok = decide (id = s.lnk.setId ∧ m = (portOf s n).expectedPeer ∧ b2n tw = (portOf s n).role) := by
    simp only [ok, q, Bool.decide_and, Bool.and_assoc]
  rw [← hok]
  have hp : portOf heard n = { q with peer := m % 4096, peerChip := chip, matched := ok, lastMs := rawNs s / 1000000 } := by
    rw [portOf_withPort, if_pos rfl]
  have hq : ¬ ((decide (2 < n) || !q.enable) = true) := by simp [q, he, Nat.not_lt.mpr hn]
  rw [if_neg hq]
  by_cases hm : (!ok && decide (q.state = 1) && !q.mismatchSeen) = true
  · have hm' : ok = false ∧ (portOf s n).state = 1 ∧ (portOf s n).mismatchSeen = false := by
      simpa [and_assoc] using hm
    obtain ⟨e, hr, -, hc⟩ := raise_evt 0x114 (withPort n (fun x => { x with mismatchSeen := true }) heard)
    rw [if_pos hm, hr]
    have hp' : portOf (withPort n (fun x => { x with mismatchSeen := true }) heard) n = { portOf heard n with mismatchSeen := true } := by
      rw [portOf_withPort, if_pos rfl]
    rw [hp] at hp'
    refine ⟨rfl, congrArg LnkPort.matched hp', congrArg LnkPort.peer hp', congrArg LnkPort.peerChip hp', ?_⟩
    rw [if_pos hm']
    exact hc
  · have hm' : ¬ (ok = false ∧ (portOf s n).state = 1 ∧ (portOf s n).mismatchSeen = false) := by
      simpa [and_assoc] using hm
    rw [if_neg hm]
    exact ⟨rfl, congrArg LnkPort.matched hp, congrArg LnkPort.peer hp, congrArg LnkPort.peerChip hp, (if_neg hm').symm⟩

theorem dlTrainingUp_idle {n : Nat} {s : State} (h : (portOf s n).state ≠ 1 ∨ (portOf s n).lock = false ∨ (portOf s n).matched = false) :
    dlTrainingUp n s = s := by
  refine if_pos ?_
  simp only [Bool.or_eq_true, decide_eq_true_eq, Bool.not_eq_true']
  tauto

theorem dlTrainingUp_up {n : Nat} {s : State} (hn : n ≤ 2) (h1 : (portOf s n).state = 1) (hl : (portOf s n).lock = true)
    (hm : (portOf s n).matched = true) : dlTrainingUp n s = portUp n s := by
  simp [dlTrainingUp, h1, hl, hm, Nat.not_lt.mpr hn]

theorem dlDown_takes {n : Nat} {s : State} (hn : n ≤ 2) (h : (portOf s n).state = 2) :
    dlDownTimeout n s = takeDown n s ∧ dlOverflow n s = takeDown n s := by
  simp [dlDownTimeout, dlOverflow, h, Nat.not_lt.mpr hn]

theorem dlDown_idle {n : Nat} {s : State} (h : (portOf s n).state ≠ 2) : dlDownTimeout n s = s ∧ dlOverflow n s = s := by
  simp [dlDownTimeout, dlOverflow, h]

/-! What a message of a frame reaches at its member: no port but by what it sends (R333, R464, R468). -/

/-- Every port keeps its settings, its state and its other counts. -/
structure PortsKept (s t : State) : Prop where
  port : ∀ n, PortKept (portOf s n) (portOf t n)

theorem PortsKept.trans {s t u : State} (h : PortsKept s t) (k : PortsKept t u) : PortsKept s u := ⟨fun n => (h.port n).trans (k.port n)⟩

theorem LinkTells.kept {s t : State} (h : LinkTells s t) : PortsKept s t := ⟨h.ports⟩

theorem LinkSends.kept {s t : State} (h : LinkSends s t) : PortsKept s t := ⟨h.ports⟩

theorem PortsKept.ite {p : Prop} [Decidable p] {s t u : State} (h : PortsKept s t) (k : PortsKept s u) : PortsKept s (if p then t else u) := by
  split
  · exact h
  · exact k

theorem portsKept_ofLnk {s t : State} (h : t.lnk = s.lnk) : PortsKept s t := by
  refine ⟨fun n => ?_⟩
  rw [portOf, portOf, h]
  exact .refl _

@[simp] theorem raise_lnk (n : Nat) (s : State) : (raise n s).lnk = s.lnk := by rw [raise_only]

theorem Conveys.lnk {s t : State} (h : Conveys s t) : t.lnk = s.lnk := by
  obtain ⟨_, _, _, _, rfl⟩ := h
  rfl

theorem frontBadPos_lnk (s : State) : (frontBadPos s).lnk = s.lnk := by
  obtain ⟨_, _, _, h, -⟩ := frontBadPos_only s
  rw [h]

theorem frontError_lnk (e : Int) (s : State) : (frontError e s).lnk = s.lnk := by
  by_cases h : 1000 * s.slot.frontWindow < e.natAbs
  · rw [frontError_rejected h, frontBadPos_lnk, raise_lnk]
    rfl
  · obtain ⟨_, _, _, ha⟩ := frontError_accepted (Nat.not_lt.mp h)
    rw [ha]

theorem frontReport_lnk (p asn : Nat) (b : Int) (s : State) : (frontReport p asn b s).lnk = s.lnk := by
  unfold frontReport
  split
  · rfl
  · split
    · rw [frontBadPos_lnk, raise_lnk]
      rfl
    · exact frontError_lnk ..

theorem putRecord_lnk (kind : Nat) (body : List Byte) (s : State) : (putRecord kind body s).lnk = s.lnk := by
  unfold putRecord
  split
  · rfl
  · split
    · exact raise_lnk ..
    · exact raise_lnk ..

theorem observe_lnk (kind panId addr : Nat) (o : LearnObs) (s : State) : (observe kind panId addr o s).lnk = s.lnk := by
  unfold observe
  extract_lets present fresh recorded
  split
  · rfl
  · split
    · split <;> rfl
    · split
      · exact (raise_lnk ..).trans (putRecord_lnk ..)
      · split
        · have hr : recorded.lnk = s.lnk := putRecord_lnk ..
          split
          · exact hr
          · exact hr
        · rfl

theorem toFw_lnk (x : QFrame) (s : State) : (toFw x s).lnk = s.lnk := rfl

theorem route_lnk (x : QFrame) (s : State) : (route x s).lnk = s.lnk := by
  unfold route
  split
  · rfl
  next ip hi =>
    extract_lets r
    have hr : r.1.lnk = s.lnk := (conveys_trieLookup ..).lnk
    clear_value r
    split
    · exact hr
    · split
      · exact hr
      · split
        · exact hr
        · split
          · exact hr
          · extract_lets k a
            have ha : a.1.lnk = s.lnk := (conveys_nodeLookup ..).lnk.trans hr
            clear_value a
            split
            · exact ha
            next w e hw =>
              split
              · exact ha
              · extract_lets b
                have hb : b.1.lnk = s.lnk := (conveys_nbrLookup ..).lnk.trans ha
                clear_value b
                split
                · exact hb
                · exact hb

theorem downlink_lnk (f : PktFrame) (s : State) : (downlink f s).1.lnk = s.lnk := by
  unfold downlink
  split
  · rfl
  next t id h ha => exact (route_lnk ..).trans (conveys_allocBuf ha).lnk

theorem peerReport_lnk (p kind panId addr : Nat) (o : LearnObs) (s : State) : (peerReport p kind panId addr o s).lnk = s.lnk := by
  unfold peerReport
  extract_lets direct
  split
  · rfl
  · exact observe_lnk ..

theorem portsKept_deltaAcked (seq : Nat) (s : State) : PortsKept s (deltaAcked seq s) := by
  unfold deltaAcked
  extract_lets acked limited
  have hl : PortsKept s limited := portsKept_ofLnk rfl
  exact .ite (portsKept_ofLnk rfl) (hl.trans (linkSends_flushLinks _).kept)

/-- A message on any lane but TIME. -/
theorem portsKept_deliver {p : Nat} {f : LinkFrame} (hv : f.vl ≠ 0) (body : List Byte) (s : State) : PortsKept s (deliver p f body s) := by
  have hs : PortsKept s s := portsKept_ofLnk rfl
  have hring (s : State) : PortsKept s (toLinkRing p f body s) := portsKept_ofLnk rfl
  unfold deliver
  split
  · rw [if_neg (by simp [hv])]
    exact hs
  · exact .ite (portsKept_ofLnk (frontReport_lnk ..)) hs
  · exact .ite ((linkTells_noteRing ..).kept.trans (hring _)) hs
  · exact .ite (hring _) hs
  · exact .ite (portsKept_ofLnk (peerReport_lnk ..)) hs
  · exact .ite (portsKept_ofLnk rfl) hs
  · exact .ite (portsKept_ofLnk (downlink_lnk ..)) hs
  · exact .ite (portsKept_deltaAcked ..) hs
  · exact .ite (portsKept_ofLnk rfl) hs
  · exact hs

/-! DL_FRAME_RX (R457-R460, R463, R483). -/

theorem linkSends_forward (p : Nat) (qs : List Nat) (f : LinkFrame) (s : State) : LinkSends s (forward p qs f s) := by
  unfold forward
  split
  · exact .refl s
  · split
    · exact (linkSends_portCnt (by decide) s).trans (keyWork_raise ..).linkSends
    · exact linkSends_foldl (fun _ _ => linkSends_transmit ..) _ s

theorem portsKept_acceptFrame {p : Nat} {f : LinkFrame} (hv : f.vl ≠ 0) (body : List Byte) (s : State) :
    PortsKept (portCnt p 1 s) (acceptFrame p f body s) := by
  unfold acceptFrame
  extract_lets counted plain far
  have hs : PortsKept counted counted := portsKept_ofLnk rfl
  split
  · exact portsKept_deliver hv body counted
  · split
    · refine .ite hs ?_
      have hr : PortsKept counted (remember f.src f.vl f.seq counted) := (linkTells_withLnk counted).kept
      exact (hr.trans (linkSends_forward ..).kept).trans (portsKept_deliver hv ..)
    · split
      · exact (linkSends_portCnt (by decide) counted).kept
      · exact (linkSends_forward ..).kept

/-- The port is UP, and the lane may be used on it. -/
def Heard (n : Nat) (f : LinkFrame) (s : State) : Prop := (portOf s n).state = 2 ∧ laneOk s n f.vl = true

theorem dlFrameRx_unheard {n : Nat} {f : LinkFrame} {s : State} (h : ¬ Heard n f s) : dlFrameRx n f s = s := by
  refine if_pos ?_
  simp only [Bool.or_eq_true, decide_eq_true_eq, Bool.not_eq_true']
  unfold Heard at h
  rw [← Bool.not_eq_true]
  tauto

section
variable {n : Nat} {f : LinkFrame} {s : State} (hn : n ≤ 2) (h : Heard n f s)
include hn h

theorem dlFrameRx_heard : ¬ ((decide (2 < n) || decide ((portOf s n).state ≠ 2) || !laneOk s n f.vl) = true) := by
  simp [Nat.not_lt.mpr hn, h.1, h.2]

theorem dlFrameRx_aborted (ha : f.aborted = true) : dlFrameRx n f s = portCnt n 5 s := by
  rw [dlFrameRx, if_neg (dlFrameRx_heard hn h), if_pos ha]

theorem dlFrameRx_damaged (ha : f.aborted = false) (hc : f.crcOk = false) : dlFrameRx n f s = portCnt n 4 s := by
  rw [dlFrameRx, if_neg (dlFrameRx_heard hn h), if_neg (by simp [ha]), if_pos (by simp [hc])]

theorem dlFrameRx_unsealed (ha : f.aborted = false) (hc : f.crcOk = true) (hv : f.vl ≠ 0) (he : f.enc = false) :
    dlFrameRx n f s = portCnt n 2 s := by
  rw [dlFrameRx, if_neg (dlFrameRx_heard hn h), if_neg (by simp [ha]), if_neg (by simp [hc]), if_neg hv, if_pos (by simp [he])]

/-- A whole frame is opened under the port's rx slot (R459). -/
theorem dlFrameRx_whole (ha : f.aborted = false) (hc : f.crcOk = true) (hv : f.vl ≠ 0) (he : f.enc = true)
    (hk : (slotOf s (portOf s n).rxSlot).state = 1) (hb : (slotOf s (portOf s n).rxSlot).mat.engines.testBit 1 = true) :
    let k := slotOf s (portOf s n).rxSlot
    dlFrameRx n f s = match gcmOpen k.mat.key (linkIv f.ivFixed f.nc) (linkAad f f.body.length) f.body f.tag with
      | none => authFailed n f (secCnt 0 s)
      | some body => if replayed s n k.gen f.nc then raise 0x113 (portCnt n 3 (secCnt 0 s))
        else acceptFrame n f body (withPort n (fun q => { q with floor := some (k.gen, f.nc) }) (secCnt 0 s)) := by
  rw [dlFrameRx, if_neg (dlFrameRx_heard hn h), if_neg (by simp [ha]), if_neg (by simp [hc]), if_neg hv, if_neg (by simp [he]),
    requestKey_live hk hb, if_neg (by simp)]
  rfl
end

section
variable {n : Nat} {f : LinkFrame} {s : State} (hn : n ≤ 2) (h : Heard n f s) (ha : f.aborted = false) (hc : f.crcOk = true) (hv : f.vl ≠ 0)
  (he : f.enc = true) (hk : (slotOf s (portOf s n).rxSlot).state = 1) (hb : (slotOf s (portOf s n).rxSlot).mat.engines.testBit 1 = true)
include hn h ha hc hv he hk hb

theorem dlFrameRx_notAuthentic
    (ho : gcmOpen (slotOf s (portOf s n).rxSlot).mat.key (linkIv f.ivFixed f.nc) (linkAad f f.body.length) f.body f.tag = none) :
    dlFrameRx n f s = authFailed n f (secCnt 0 s) := by
  rw [dlFrameRx_whole hn h ha hc hv he hk hb, ho]

theorem dlFrameRx_authentic {b : List Byte}
    (ho : gcmOpen (slotOf s (portOf s n).rxSlot).mat.key (linkIv f.ivFixed f.nc) (linkAad f f.body.length) f.body f.tag = some b) :
    dlFrameRx n f s = if replayed s n (slotOf s (portOf s n).rxSlot).gen f.nc then raise 0x113 (portCnt n 3 (secCnt 0 s))
      else acceptFrame n f b (withPort n (fun q => { q with floor := some ((slotOf s (portOf s n).rxSlot).gen, f.nc) }) (secCnt 0 s)) := by
  rw [dlFrameRx_whole hn h ha hc hv he hk hb, ho]
end

theorem authFailed_drops (n : Nat) (f : LinkFrame) (s : State) :
    (portOf (authFailed n f s) n).floor = (portOf s n).floor ∧
      tget 0 (portOf (authFailed n f s) n).cnt 2 = min (tget 0 (portOf s n).cnt 2 + 1) 0xFFFFFFFF ∧ (authFailed n f s).hostMem = s.hostMem ∧
      ((srcCfgOf s 0x112).enable = true → (authFailed n f s).evt.cause.testBit 0x112 = true) := by
  have hf := linkSends_forward n (onwardPorts s n f) { f with aborted := true, tag := [] } s
  unfold authFailed
  generalize forward n (onwardPorts s n f) { f with aborted := true, tag := [] } s = t at hf ⊢
  have hc : srcCfgOf (portCnt n 2 t) 0x112 = srcCfgOf s 0x112 := congrArg (fun c => tget _ c 0x112) hf.srcCfg
  have hp : portOf (raise 0x112 (portCnt n 2 t)) n = { portOf t n with cnt := bump (portOf t n).cnt 2 } := by
    rw [portOf, raise_lnk]
    exact (portOf_withPort ..).trans (if_pos rfl)
  have hk := hf.ports n
  rw [hp]
  refine ⟨?_, ?_, ?_, fun he => raise_sets (by rw [hc]; exact he)⟩
  · rw [hk.only]
  · rw [tget_bump, if_pos rfl, hk.cnt 2 (by decide)]
  · rw [raise_hostMem]
    obtain ⟨_, _, _, _, _, _, _, hb⟩ := hf.blocks
    rw [hb]
    rfl

theorem acceptFrame_counts {n : Nat} {f : LinkFrame} (hv : f.vl ≠ 0) (body : List Byte) (s : State) :
    (portOf (acceptFrame n f body s) n).floor = (portOf s n).floor ∧
      tget 0 (portOf (acceptFrame n f body s) n).cnt 1 = min (tget 0 (portOf s n).cnt 1 + 1) 0xFFFFFFFF := by
  have hk := (portsKept_acceptFrame (p := n) hv body s).port n
  have hp : portOf (portCnt n 1 s) n = { portOf s n with cnt := bump (portOf s n).cnt 1 } := (portOf_withPort ..).trans (if_pos rfl)
  rw [hp] at hk
  refine ⟨by rw [hk.only], ?_⟩
  rw [hk.cnt 1 (by decide)]
  exact (tget_bump ..).trans (if_pos rfl)

/-- A broadcast leaves what is no link's, is remembered, and uses its number. -/
theorem broadcast_remembered (vl kind : Nat) (body : List Byte) (m : LinkMsg) (s : State) :
    let t := broadcast vl kind body m s
    t.hif = s.hif ∧ t.time.c = s.time.c ∧ t.hostMem = s.hostMem ∧ (s.lnk.memberId, vl, tget 0 s.lnk.seqs vl) ∈ t.lnk.seen ∧
      tget 0 t.lnk.seqs vl = (tget 0 s.lnk.seqs vl + 1) % 65536 := by
  intro t
  have hs := broadcast_sends vl kind body m s
  obtain ⟨_, _, _, hl⟩ := hs.link
  obtain ⟨_, _, _, _, _, _, _, hb⟩ := hs.blocks
  refine ⟨congrArg (·.hif) hb, congrArg (·.time.c) hb, congrArg (·.hostMem) hb, ?_, ?_⟩
  · rw [hl]
    exact List.mem_cons_self
  · rw [hl]
    exact tget_tput_same ..

/-- Settles O56: each command is Ready, so its reply is what its meaning comes to; frames sent keep every port but its counts. -/
theorem dalhiufLinks : Obligations.DalhiufLinks := by
  unfold Obligations.DalhiufLinks
  intro h s f setPort up
  refine ⟨fun p hr => ?cfg, fun p hr => ⟨fun hk h0 r hm => topologyOk_acyclic hk.2 h0 hm, fun hk => agentRun_refuses hr (lnkTopology_bad hk),
      fun hk => agentRun_answers hr _ (lnkTopology_sets (s := inFlightWith h (.lnkTopology p) s) hk) rfl rfl rfl rfl⟩,
    fun p hr => ⟨fun hp => agentRun_refuses hr (lnkStatus_bad hp _),
      fun hp hf => agentRun_answers hr _ (lnkStatus_topology hp hf (inFlightWith h (.lnkStatus p) s)) rfl rfl rfl rfl,
      fun hp hf => agentRun_answers hr _ (lnkStatus_port hp hf (inFlightWith h (.lnkStatus p) s)) rfl rfl rfl rfl⟩,
    fun p hr => ?send, fun n hn => ?training, fun n g hn => ?frame⟩
  case cfg =>
    intro q refused ok change live y
    let u := inFlightWith h (.lnkPortCfg p) s
    have hlive (hk : ok) (hc : ¬ change) (ht : live p.txSlot) (hx : live p.rxSlot) : portCfgRefusal f p u = 0 :=
      portCfgRefusal_live (s := u) hk hc (keyStatus_live ht.1 ht.2) (keyStatus_live hx.1 hx.2)
    refine ⟨fun hk => agentRun_refuses hr (lnkPortCfg_refuses (portCfgRefusal_bad hk) (by decide)),
      fun hk hc => agentRun_refuses hr (lnkPortCfg_refuses (portCfgRefusal_change (s := u) hk hc) (by decide)),
      fun hk hc hd => agentRun_refuses hr (lnkPortCfg_refuses (portCfgRefusal_deadTx (s := u) hk hc hd) (by decide)),
      fun hk hc ht hx he => agentRun_answers hr _ (lnkPortCfg_enables (s := u) (hlive hk hc ht hx) he) rfl rfl rfl rfl, fun hk hc ht hx he => ?_⟩
    have hdown := takeDown_takes f (withPort f (portSet p) u)
    have hl : portOf (withPort f (portSet p) u) f = y := (portOf_withPort ..).trans (if_pos rfl)
    have hport : portOf (withPort f (fun x => { x with lock := q.lock }) (takeDown f (withPort f (portSet p) u))) f =
        { y with state := 0, matched := false, cnt := (portOf (takeDown f (withPort f (portSet p) u)) f).cnt } := by
      rw [portOf_withPort, if_pos rfl, hdown.port, hl]
      rfl
    obtain ⟨_, _, _, _, _, _, _, _, hb⟩ := hdown.blocks
    refine ⟨_, agentRun_answers hr _ (lnkPortCfg_disables (s := u) (hlive hk hc ht hx) he) (congrArg (·.hif) hb) hdown.clock rfl rfl, ?_,
      congrArg (·.hostMem) hb, congrArg (·.flash) hb⟩
    refine hport.trans ?_
    exact congrArg (fun c => { y with state := 0, matched := false, cnt := c }) (congrArg LnkPort.cnt hport).symm
  case send =>
    intro refused
    let u := inFlightWith h (.lnkSend p) s
    have hgated {m : LinkMsg} (hm : sendMsg p = some m) (hd : p.dst ≤ 4095 ∨ p.dst = 0xFFFF) (hg : gated s = true) : refused stStandby :=
      agentRun_refuses hr ((lnkSend_carries hm hd).trans (if_pos hg))
    refine ⟨fun hp => agentRun_refuses hr (lnkSend_bad hp), fun m hd hm => ⟨hgated hm (.inr hd), fun hg hs => ?_, fun hg hs => ?_⟩,
      fun m hd hm => ⟨hgated hm (.inl hd), fun hg he => agentRun_refuses hr (lnkSend_noRoute (s := u) hm hd hg he), fun q hg he => ?_⟩⟩
    · refine agentRun_refuses hr ((lnkSend_carries hm (.inr hd)).trans ((if_neg ?_).trans ((if_pos hd).trans (if_pos hs))))
      exact fun hg' => by simp [show gated s = true from hg'] at hg
    · obtain ⟨hh, hc, hmem, hseen, hseq⟩ := broadcast_remembered p.vl p.kind p.body m u
      exact ⟨_, agentRun_answers hr _ (lnkSend_broadcasts (s := u) hm hd hg hs) hh hc rfl rfl, rfl, hseen, hmem, hseq⟩
    · intro n k hs hb hu hn hr' hd' hw
      have hsealed := newFrame_transmit_seals (kind := p.kind) (dst := p.dst) (body := p.body) (m := m) (s := u) (egressPort_up he) hg (sendMsg_lane hm)
        ⟨hs, hb, hu, hn, hr', hd'⟩ hw
      obtain ⟨_, _, _, hx⟩ := hsealed.blocks
      obtain ⟨fixed, aad, body, tag, hout⟩ := hsealed.sent
      have hdrawn := hsealed.drawn
      refine ⟨_, _, agentRun_answers hr _ (lnkSend_routes (s := u) hm hd hg he) (congrArg (·.hif) hx) (congrArg (·.time.c) hx) rfl rfl, rfl, hout,
        rfl, rfl, rfl, rfl, rfl, rfl, rfl, rfl, congrArg (·.mat.nc) hdrawn, congrArg (·.mat.usageCount) hdrawn, ?_⟩
      exact (congrArg (fun q => tget 0 q p.vl) hsealed.seqs).trans (tget_tput_same ..)
  case training =>
    intro q
    refine ⟨congrArg Host.Outcome.next (dlBlockLock_locks hn s), fun he hh hg => congrArg Host.Outcome.next (dlHelloTx_sends hn he hh hg),
      fun hi => congrArg Host.Outcome.next (dlHelloTx_silent hi), fun id m tw chip he => congrArg Host.Outcome.next (dlHelloRx_disabled he),
      fun id m tw chip he => ?_, fun h1 hl hm => ?_, fun hi => congrArg Host.Outcome.next (dlTrainingUp_idle hi), fun hu e he => ?_, fun hu => ?_⟩
    · have ht := dlHelloRx_takes (id := id) (m := m) (tw := tw) (chip := chip) hn he
      exact ⟨_, rfl, ht.blocks, ht.matched, ht.peer, ht.chip, ht.cause⟩
    · have ht := portUp_trains n s
      refine ⟨_, congrArg Host.Outcome.next (dlTrainingUp_up hn h1 hl hm), ?_, ?_, fun he => ht.causes _ (raise_sets he)⟩
      · have hp : portOf (raise 0x110 (withPort n (fun q => { q with state := 2 }) s)) n = { portOf s n with state := 2 } := by
          rw [portOf, raise_lnk]
          exact (portOf_withPort ..).trans (if_pos rfl)
        rw [(ht.ports n).only, hp]
      · obtain ⟨_, _, _, _, _, _, _, _, hb⟩ := ht.blocks
        rw [hb]
        exact raise_hostMem ..
    · have hu2 : q.state = 2 := of_decide_eq_true hu
      obtain ⟨htimeout, hoverflow⟩ := dlDown_takes hn hu2
      have ht := takeDown_takes n s
      have hport := ht.port
      obtain ⟨_, _, _, _, _, _, _, _, hb⟩ := ht.blocks
      refine ⟨takeDown n s, ?_, by rw [hport]; rfl, by rw [hport]; rfl, ht.counted hu2, congrArg (·.hostMem) hb, ht.event hu2⟩
      rcases he with rfl | rfl
      · exact congrArg Host.Outcome.next htimeout
      · exact congrArg Host.Outcome.next hoverflow
    · obtain ⟨htimeout, hoverflow⟩ := dlDown_idle (of_decide_eq_false hu)
      exact ⟨congrArg Host.Outcome.next htimeout, congrArg Host.Outcome.next hoverflow⟩
  case frame =>
    intro q cntd heard whole k opened
    have hheard (hh : heard) : Heard n g s := ⟨of_decide_eq_true hh.1, hh.2⟩
    refine ⟨fun hh => congrArg Host.Outcome.next (dlFrameRx_unheard fun ⟨hu, hl⟩ => hh ⟨decide_eq_true hu, hl⟩),
      fun hh ha => congrArg Host.Outcome.next (dlFrameRx_aborted hn (hheard hh) ha),
      fun hh ha hc => congrArg Host.Outcome.next (dlFrameRx_damaged hn (hheard hh) ha hc),
      fun hh ha hc hv he => congrArg Host.Outcome.next (dlFrameRx_unsealed hn (hheard hh) ha hc hv he), fun ⟨hh, ha, hc, hv, he⟩ hs hb => ?_⟩
    refine ⟨fun ho => ?_, fun b ho hrep => ?_, fun b ho hrep => ?_⟩
    · obtain ⟨hf, hcnt, hm, hev⟩ := authFailed_drops n g (secCnt 0 s)
      exact ⟨_, congrArg Host.Outcome.next (dlFrameRx_notAuthentic hn (hheard hh) ha hc hv he hs hb ho), hf, hcnt, hm, hev⟩
    · have hrx := dlFrameRx_authentic hn (hheard hh) ha hc hv he hs hb ho
      obtain ⟨e, he, -, hcause⟩ := raise_evt 0x113 (portCnt n 3 (secCnt 0 s))
      exact ⟨_, congrArg Host.Outcome.next (hrx.trans ((if_pos hrep).trans he)), rfl, hcause⟩
    · have hrx := dlFrameRx_authentic hn (hheard hh) ha hc hv he hs hb ho
      obtain ⟨hf, hcnt⟩ := acceptFrame_counts (n := n) hv b (withPort n (fun q => { q with floor := some (k.gen, g.nc) }) (secCnt 0 s))
      rw [portOf_withPort, if_pos rfl] at hf hcnt
      exact ⟨_, congrArg Host.Outcome.next (hrx.trans (if_neg (by rw [hrep]; exact Bool.false_ne_true))), hf, hcnt⟩

end Sys2Proof.Proofs
end

section
/-!
PROOFS. The Ethernet ports (R494-R499, R513, R514): their settings, their MACsec SAs, and what a line event or a frame on the line comes to.
-/
namespace Sys2Proof.Proofs
open Machine Safety Laws

/-! The ports by index. -/

theorem ethOf_withEthP (e q : Nat) (f : EthPort → EthPort) (s : State) :
    ethOf (withEthP e f s) q = if e = q then f (ethOf s q) else ethOf s q := by
  by_cases h : e = q
  · subst h; simp [ethOf, withEthP, withEth, tmod]
  · simp [ethOf, withEthP, withEth, tmod, tget_tput, h]

@[simp] theorem ethOf_withEthP_same (e : Nat) (f : EthPort → EthPort) (s : State) : ethOf (withEthP e f s) e = f (ethOf s e) := by
  simp [ethOf_withEthP]

@[simp] theorem ethOf_ethCnt (e i : Nat) (s : State) : ethOf (ethCnt e i s) e = { ethOf s e with cnt := bump (ethOf s e).cnt i } :=
  ethOf_withEthP_same ..

/-! SYS_ETH_CFG (R496). -/

/-- The fields SYS_ETH_CFG takes. -/
def EthCfgOk (p : SysEthCfgP) : Prop :=
  p.port ≤ 1 ∧ p.mode ≤ 3 ∧ p.autoneg ≤ 1 ∧ 1518 ≤ p.maxFrame ∧ p.maxFrame ≤ 9216 ∧ p.pauseRx ≤ 1 ∧ p.macAddr < 2 ^ 48 ∧ p.macsec ≤ 1 ∧
    p.eapolRing ≤ 31

/-- The port as SYS_ETH_CFG leaves it: the link goes down where drop says so. -/
def cfgPort (p : SysEthCfgP) (drop : Bool) (e : EthPort) : EthPort :=
  { e with
    mode := p.mode, link := e.link && !drop, autoneg := p.autoneg = 1, maxFrame := p.maxFrame, pauseRx := p.pauseRx = 1, mac := p.macAddr,
    macsec := p.macsec = 1, eapolRing := p.eapolRing }

/-- Whether the settings change the mode of a port that has a link. -/
def dropsLink (p : SysEthCfgP) (s : State) : Bool := p.mode ≠ (ethOf s p.port).mode && (ethOf s p.port).link

theorem sysEthCfg_bad (h : Hdr) {p : SysEthCfgP} {s : State} (hn : ¬ EthCfgOk p) : sysEthCfg h p s = refuse s stBadParam := by
  refine if_pos ?_
  simp only [Bool.or_eq_true, decide_eq_true_eq]
  unfold EthCfgOk at hn
  omega

theorem sysEthCfg_stores (h : Hdr) {p : SysEthCfgP} {s : State} (hp : EthCfgOk p) :
    ∃ data, sysEthCfg h p s = done (raiseIf (dropsLink p s) (0x128 + p.port) (withEthP p.port (cfgPort p (dropsLink p s)) s)) data := by
  refine ⟨_, if_neg ?_⟩
  simp only [Bool.or_eq_true, decide_eq_true_eq]
  unfold EthCfgOk at hp
  omega

/-! SYS_MACSEC_SA (R498, R499, R514). -/

theorem keyStatus_empty {s : State} {n b : Nat} (h : (slotOf s n).state = 0) : keyStatus s n b = stKeyGone := by simp [keyStatus, h]

/-- The fields SYS_MACSEC_SA takes with an op it knows. -/
def SaOk (p : SysMacsecSaP) : Prop :=
  p.port ≤ 1 ∧ p.an ≤ 3 ∧ p.slot ≤ 4095 ∧ p.encrypt ≤ 1 ∧ p.nextPn < 2 ^ 64 ∧ p.salt < 2 ^ 96

theorem sysMacsecSa_inRange (h : Hdr) {p : SysMacsecSaP} (s : State) (hp : SaOk p) (ho : p.op ≤ 3) :
    sysMacsecSa h p s = if p.op < 2 then installSa p s else if p.op = 2 then activateAn p s else removeSa p s := by
  refine if_neg ?_
  simp only [Bool.or_eq_true, Bool.and_eq_true, decide_eq_true_eq]
  unfold SaOk at hp
  omega

theorem sysMacsecSa_installs (h : Hdr) {p : SysMacsecSaP} (s : State) (hp : SaOk p) (ho : p.op ≤ 1) : sysMacsecSa h p s = installSa p s := by
  rw [sysMacsecSa_inRange h s hp (by omega), if_pos (by omega)]

theorem sysMacsecSa_activates (h : Hdr) {p : SysMacsecSaP} (s : State) (hp : SaOk p) (ho : p.op = 2) : sysMacsecSa h p s = activateAn p s := by
  rw [sysMacsecSa_inRange h s hp (by omega), if_neg (by omega), if_pos ho]

theorem sysMacsecSa_removes (h : Hdr) {p : SysMacsecSaP} (s : State) (hp : SaOk p) (ho : p.op = 3) : sysMacsecSa h p s = removeSa p s := by
  rw [sysMacsecSa_inRange h s hp (by omega), if_neg (by omega), if_neg (by omega)]

theorem installSa_denied {p : SysMacsecSaP} {s : State} (hk : keyStatus s p.slot 2 = stKeyDenied) : installSa p s = refuse s stKeyDenied := by
  rw [installSa, hk, if_pos (by decide), if_pos rfl]

theorem installSa_gone {p : SysMacsecSaP} {s : State} (hk : keyStatus s p.slot 2 = stKeyGone) : installSa p s = refuse s stKeyGone := by
  rw [installSa, hk, if_pos (by decide), if_neg (by decide)]

/-- The port with the receive SA of the request. -/
def addRxSa (p : SysMacsecSaP) (e : EthPort) : EthPort := { e with rxSas := rxWithout e p.sci p.an ++ [(p.sci, p.an, newSa p)] }

/-- The port with the transmit SA of the request: another SCI takes the SAs of the one before away. -/
def addTxSa (p : SysMacsecSaP) (e : EthPort) : EthPort :=
  { e with
    txSci := p.sci, txSas := tput (if e.txSci = p.sci then e.txSas else []) p.an (newSa p), txAnSet := e.txAnSet && e.txSci = p.sci }

/-- The receive channels that hold an SA beside the one of the request. -/
def channels (p : SysMacsecSaP) (s : State) : List Nat := ((rxWithout (ethOf s p.port) p.sci p.an).map (·.1)).eraseDups

theorem installSa_rx {p : SysMacsecSaP} {s : State} (hk : keyStatus s p.slot 2 = stOk) (ho : p.op = 0) :
    installSa p s = if 4 ≤ (channels p s).length && !(channels p s).contains p.sci then refuse s stNoRoom
      else done (withEthP p.port (addRxSa p) s) (le 8 p.nextPn) := by
  rw [installSa, hk, if_neg (by simp), if_pos ho]
  rfl

theorem installSa_rx_full {p : SysMacsecSaP} {s : State} (hk : keyStatus s p.slot 2 = stOk) (ho : p.op = 0) (hn : 4 ≤ (channels p s).length)
    (hc : p.sci ∉ channels p s) : installSa p s = refuse s stNoRoom := by
  rw [installSa_rx hk ho, if_pos (by simp [hn, hc])]

theorem installSa_rx_room {p : SysMacsecSaP} {s : State} (hk : keyStatus s p.slot 2 = stOk) (ho : p.op = 0) (hn : (channels p s).length < 4) :
    installSa p s =
      done (withEthP p.port (addRxSa p) s) (le 8 p.nextPn) := by
  rw [installSa_rx hk ho, if_neg (by simp; omega)]

theorem installSa_tx {p : SysMacsecSaP} {s : State} (hk : keyStatus s p.slot 2 = stOk) (ho : p.op = 1) :
    installSa p s = if s.twin.configured && p.sci % 2 ≠ s.twin.chipId then refuse s stBadParam
      else done (withEthP p.port (addTxSa p) s) (le 8 p.nextPn) := by
  rw [installSa, hk, if_neg (by simp), if_neg (by omega)]
  rfl

/-- The receive SA that is installed is there, and nothing else of the port changed. -/
theorem rxSa_added {a e : EthPort} {l : List (Nat × Nat × MacsecSa)} {x : Nat × Nat × MacsecSa} (h : a = { e with rxSas := l ++ [x] }) :
    a = { e with rxSas := a.rxSas } ∧ x ∈ a.rxSas := by
  subst h
  exact ⟨rfl, by simp⟩

theorem installSa_otherChip {p : SysMacsecSaP} {s : State} (hk : keyStatus s p.slot 2 = stOk) (ho : p.op = 1) (ht : s.twin.configured = true)
    (hc : p.sci % 2 ≠ s.twin.chipId) : installSa p s = refuse s stBadParam := by
  rw [installSa_tx hk ho, if_pos (by simp [ht, hc])]

theorem installSa_tx_alone {p : SysMacsecSaP} {s : State} (hk : keyStatus s p.slot 2 = stOk) (ho : p.op = 1) (ht : s.twin.configured = false) :
    installSa p s = done (withEthP p.port (addTxSa p) s) (le 8 p.nextPn) := by
  rw [installSa_tx hk ho, if_neg (by simp [ht])]

theorem activateAn_of_sa {p : SysMacsecSaP} {s : State} {a : MacsecSa} (ha : tfind (ethOf s p.port).txSas p.an = some a) :
    activateAn p s = done (withEthP p.port (fun e => { e with txAn := p.an, txAnSet := true, txStopped := false }) s) (le 8 a.nextPn) := by
  simp [activateAn, ha]

/-- The transmit SA of an AN is removed unless the port sends with it. -/
theorem removeSa_tx {p : SysMacsecSaP} {s : State} {a : MacsecSa} (hi : (ethOf s p.port).txSci = p.sci)
    (ha : tfind (ethOf s p.port).txSas p.an = some a) :
    removeSa p s = if (ethOf s p.port).txAnSet && (ethOf s p.port).txAn = p.an then refuse s stBusy
      else done (withEthP p.port (fun e => { e with txSas := tdel e.txSas p.an }) s) (le 8 a.nextPn) := by
  simp [removeSa, hi, ha]

/-! Line events (R494, R513). -/

theorem ethLink_idle {e : Nat} {up : Bool} (speed : Nat) {s : State} (h : (ethOf s e).link = up ∨ (ethOf s e).mode = 0 ∨ 1 < e) :
    ethLink e up speed s = s := by
  refine if_pos ?_
  simp only [Bool.or_eq_true, decide_eq_true_eq]
  rcases h with h | h | h <;> simp [h]

theorem ethLink_changes {e : Nat} {up : Bool} (speed : Nat) {s : State} (he : e ≤ 1) (hm : (ethOf s e).mode ≠ 0) (hh : (ethOf s e).held = false)
    (hl : (ethOf s e).link ≠ up) :
    ethLink e up speed s = raise (0x128 + e) (withEthP e (fun p => { p with link := up, speed := if up then speed % 4 else p.speed }) s) := by
  refine if_neg ?_
  simp only [Bool.or_eq_true, Bool.and_eq_true, decide_eq_true_eq, hh, hm, hl]
  simp
  omega

/-! Frames on the line (R495, R497). -/

/-- A port that takes frames. -/
def EthUp (s : State) (e : Nat) : Prop := e ≤ 1 ∧ (ethOf s e).mode ≠ 0 ∧ (ethOf s e).link = true ∧ (ethOf s e).held = false

/-- The length of a frame on the line, with its FCS. -/
def frameLen (f : EthFrame) : Nat := f.aad.length + f.bytes.length + f.icv.length + 4

/-- What becomes of a frame of a good length and FCS, once it is counted, at a port with these settings. -/
def takenFrame (e : Nat) (f : EthFrame) (p : EthPort) (s : State) : State :=
  match f.pause with
  | some q =>
    if p.pauseRx then withTm (fun t => { t with pauseNs := tput t.pauseNs e (rawNs s + q * 512000 / ethMbps p.speed) }) (ethCnt e 4 s)
    else ethCnt e 4 s
  | none =>
    if !p.macsec then ethDeliver e f f.bytes s
    else if f.eapol then
      withPcie (fun x => { x with reports := x.reports ++ [(p.eapolRing, { data := f.bytes, srcPort := e, ts := rawNs s })] }) (ethCnt e 8 s)
    else
      match (macsecValidate e f s).2 with
      | none => (macsecValidate e f s).1
      | some d => ethDeliver e f (f.aad.take 12 ++ d) (macsecValidate e f s).1

theorem ethFrameRx_idle {e : Nat} {f : EthFrame} {s : State} (h : (ethOf s e).link = false ∨ (ethOf s e).mode = 0 ∨ 1 < e) :
    ethFrameRx e f s = s := by
  refine if_pos ?_
  simp only [Bool.or_eq_true, decide_eq_true_eq]
  rcases h with h | h | h <;> simp [h]

section
variable {e : Nat} {f : EthFrame} {s : State} (hu : EthUp s e)
include hu

theorem ethFrameRx_badFcs (hf : f.fcsOk = false) : ethFrameRx e f s = ethCnt e 2 s := by
  obtain ⟨he, hm, hl, hh⟩ := hu
  simp [ethFrameRx, hm, hl, hh, hf]; omega

theorem ethFrameRx_oversize (hf : f.fcsOk = true) (hn : (ethOf s e).maxFrame < frameLen f) : ethFrameRx e f s = ethCnt e 9 s := by
  obtain ⟨he, hm, hl, hh⟩ := hu
  rw [frameLen] at hn
  simp [ethFrameRx, hm, hl, hh, hf, hn]; omega

variable (hf : f.fcsOk = true) (hlo : 64 ≤ frameLen f) (hhi : frameLen f ≤ (ethOf s e).maxFrame)
include hf hlo hhi

theorem ethFrameRx_takes : ethFrameRx e f s = takenFrame e f (ethOf s e) (ethCnt e 0 s) := by
  obtain ⟨he, hm, hl, hh⟩ := hu
  rw [frameLen] at hlo hhi
  rw [ethFrameRx, if_neg (by simp [hm, hl, hh, he]), if_neg (by simp [hf]), if_neg (by omega), if_neg (by omega)]
  rfl

theorem ethFrameRx_pause {q : Nat} (hq : f.pause = some q) : ethFrameRx e f s =
    if (ethOf s e).pauseRx then
      withTm (fun t => { t with pauseNs := tput t.pauseNs e (rawNs s + q * 512000 / ethMbps (ethOf s e).speed) }) (ethCnt e 4 (ethCnt e 0 s))
    else ethCnt e 4 (ethCnt e 0 s) := by
  rw [ethFrameRx_takes hu hf hlo hhi, takenFrame, hq]
  rfl

theorem ethFrameRx_plain (hq : f.pause = none) (hs : (ethOf s e).macsec = false) :
    ethFrameRx e f s = ethDeliver e f f.bytes (ethCnt e 0 s) := by
  rw [ethFrameRx_takes hu hf hlo hhi, takenFrame, hq, hs]
  rfl

theorem ethFrameRx_eapol (hq : f.pause = none) (hs : (ethOf s e).macsec = true) (ha : f.eapol = true) :
    ethFrameRx e f s = withPcie (fun x => { x with
      reports := x.reports ++ [((ethOf s e).eapolRing, { data := f.bytes, srcPort := e, ts := rawNs s })] }) (ethCnt e 8 (ethCnt e 0 s)) := by
  rw [ethFrameRx_takes hu hf hlo hhi, takenFrame, hq, hs, ha]
  rfl

/-- With MACsec a frame that no receive SA takes is counted and dropped. -/
theorem ethFrameRx_noSa (hq : f.pause = none) (hs : (ethOf s e).macsec = true) (ha : f.eapol = false)
    (hn : f.tagged = false ∨ rxSa (ethOf s e) f.sci f.an = none) : ethFrameRx e f s = ethCnt e 5 (ethCnt e 0 s) := by
  have hsa : (if f.tagged then rxSa (ethOf (ethCnt e 0 s) e) f.sci f.an else none) = none := by
    rcases hn with hn | hn
    · simp [hn]
    · simpa [rxSa] using fun _ => hn
  have hv : macsecValidate e f (ethCnt e 0 s) = (ethCnt e 5 (ethCnt e 0 s), none) := by simp only [macsecValidate, hsa]
  rw [ethFrameRx_takes hu hf hlo hhi, takenFrame, hq, hs, ha]
  simp [hv]

end

theorem rxDrop_first {e : Nat} {s : State} (hd : (ethOf s e).dropSec ≠ some (rawSec s)) :
    rxDrop e s = raise 0x12B (withEthP e (fun p => { p with dropSec := some (rawSec s) }) (ethCnt e 3 s)) := by
  refine if_neg ?_
  rw [ethOf_ethCnt]
  exact hd


/-- Settles O22: SYS_ETH_CFG and SYS_MACSEC_SA by what each form of them comes to, and a line event or frame by the branch it takes. -/
theorem ethernetPorts : Obligations.EthernetPorts := by
  unfold Obligations.EthernetPorts
  refine ⟨fun h s => ⟨fun p hr => ?cfg, fun p hr hport han hslot henc hpn hsalt => ?sa⟩, fun s => ⟨?link, ?still, rfl, fun _ => rfl, ?frame, ?noPort⟩⟩
  case cfg =>
    extract_lets ok e drop
    refine ⟨fun hn => agentRun_refuses hr (sysEthCfg_bad h hn), fun hok => ?_⟩
    obtain ⟨data, hd⟩ := sysEthCfg_stores h (s := inFlightWith h (.sysEthCfg p) s) hok
    have hdrop : dropsLink p (inFlightWith h (.sysEthCfg p) s) = decide drop := by
      rw [Bool.decide_and, Bool.decide_eq_true]
      rfl
    rw [hdrop] at hd
    obtain ⟨v, hv⟩ := raiseIf_evt (decide drop) (0x128 + p.port) (withEthP p.port (cfgPort p (decide drop)) (inFlightWith h (.sysEthCfg p) s))
    have hkept (q : Nat) := ethOf_withEthP p.port q (cfgPort p (decide drop)) s
    refine ⟨_, (agentRun_answers hr _ hd (by rw [hv]; rfl) (by rw [hv]; rfl) rfl rfl), ⟨data, rfl⟩, by rw [hv]; rfl, fun q hq => ?_, ?_, fun hn => ?_,
      fun hy he => ?_⟩
    · rw [hv]
      exact (hkept q).trans (if_neg (Ne.symm hq))
    · rw [hv]
      exact (hkept p.port).trans (if_pos rfl)
    · simp [done, raiseIf, hn, withEthP, withEth, inFlightWith]
    · simp only [done, raiseIf, decide_eq_true hy]
      exact raise_sets he
  case sa =>
    have hp : SaOk p := ⟨hport, han, hslot, henc, hpn, hsalt⟩
    let u := inFlightWith h (.sysMacsecSa p) s
    refine ⟨fun ho hk => ?denied, fun ho hk => ?gone, fun ho hk hn hc => ?full, fun ho hk hn => ?room, fun ho hk ht hc => ?otherChip,
      fun ho hk ht => ?alone, fun a ho ha => ?activate, fun ho hi ha hs hn => ?inUse, fun a ho hi ha hn => ?remove⟩
    case denied => exact agentRun_refuses hr ((sysMacsecSa_installs h u hp ho).trans (installSa_denied hk))
    case gone => exact agentRun_refuses hr ((sysMacsecSa_installs h u hp ho).trans (installSa_gone (keyStatus_empty hk)))
    case full => exact agentRun_refuses hr ((sysMacsecSa_installs h u hp (by omega)).trans (installSa_rx_full hk ho hn hc))
    case room =>
      exact ⟨_, agentRun_answers hr _ ((sysMacsecSa_installs h u hp (by omega)).trans (installSa_rx_room hk ho hn)) rfl rfl rfl rfl, rfl,
        rxSa_added (ethOf_withEthP_same p.port (addRxSa p) u)⟩
    case otherChip => exact agentRun_refuses hr ((sysMacsecSa_installs h u hp (by omega)).trans (installSa_otherChip hk ho ht hc))
    case alone =>
      have ht' : ethOf (withEthP p.port (addTxSa p) u) p.port = addTxSa p (ethOf s p.port) := ethOf_withEthP_same ..
      exact ⟨_, agentRun_answers hr _ ((sysMacsecSa_installs h u hp (by omega)).trans (installSa_tx_alone hk ho ht)) rfl rfl rfl rfl, rfl,
        congrArg (·.txSci) ht', (congrArg (tfind ·.txSas p.an) ht').trans (by rw [addTxSa, tfind_tput, if_pos rfl]; rfl)⟩
    case activate => exact agentRun_answers hr _ ((sysMacsecSa_activates h u hp ho).trans (activateAn_of_sa ha)) rfl rfl rfl rfl
    case inUse =>
      obtain ⟨a, ha⟩ := Option.isSome_iff_exists.mp ha
      exact agentRun_refuses hr ((sysMacsecSa_removes h u hp ho).trans ((removeSa_tx (s := u) hi ha).trans (if_pos (by exact Bool.and_eq_true .. ▸ ⟨hs, decide_eq_true hn⟩))))
    case remove =>
      exact agentRun_answers hr _ ((sysMacsecSa_removes h u hp ho).trans ((removeSa_tx (s := u) hi ha).trans (if_neg (by exact fun hx => hn (of_decide_eq_true (Bool.and_eq_true .. ▸ hx).2))))) rfl rfl rfl rfl
  case link =>
    intro e up speed he hm hh hl
    exact congrArg Host.Outcome.next (ethLink_changes speed he hm hh hl)
  case still =>
    intro e up speed hi
    exact congrArg Host.Outcome.next (ethLink_idle speed hi)
  case frame =>
    intro e f he hm hl hh p len counted
    have hu : EthUp s e := ⟨he, hm, hl, hh⟩
    refine ⟨fun hf => congrArg Host.Outcome.next (ethFrameRx_badFcs hu hf), fun hf hn => congrArg Host.Outcome.next (ethFrameRx_oversize hu hf hn),
      fun q hf hhi hlo hq => ⟨_, congrArg Host.Outcome.next (ethFrameRx_pause hu hf hlo hhi hq), ?_⟩,
      fun hf hhi hlo hq hs => ⟨fun ha => congrArg Host.Outcome.next (ethFrameRx_eapol hu hf hlo hhi hq hs ha),
        fun ha hn => congrArg Host.Outcome.next (ethFrameRx_noSa hu hf hlo hhi hq hs ha hn)⟩,
      fun hf hhi hlo hq hs hfull hd => congrArg Host.Outcome.next ?_⟩
    · split
      · exact ⟨rfl, fun hx => by simp_all [p], fun _ hsp => by rw [hsp]; rfl⟩
      · exact ⟨rfl, fun _ => rfl, fun hx => absurd hx ‹_›⟩
    · rw [ethFrameRx_plain hu hf hlo hhi hq hs, ethDeliver, if_pos hfull, rxDrop_first (by rw [ethOf_ethCnt]; exact hd)]
      rfl
  case noPort =>
    intro e f hi
    exact congrArg Host.Outcome.next (ethFrameRx_idle hi)

end Sys2Proof.Proofs
end

section
/-!
PROOFS. The fatal path and the cores (R525-R527, R533, R534): what stopping the data path keeps, the dump, and the spare that takes a core's
place.
-/
namespace Sys2Proof.Proofs
open Machine Safety Laws

/-! No step of the halt loses a cause bit. -/

/-- Each cause bit that was set is set still. -/
structure KeepsCauses (s t : State) : Prop where
  kept : ∀ n, s.evt.cause.testBit n = true → t.evt.cause.testBit n = true

theorem KeepsCauses.refl (s : State) : KeepsCauses s s := ⟨fun _ h => h⟩

theorem KeepsCauses.trans {s t u : State} (h : KeepsCauses s t) (k : KeepsCauses t u) : KeepsCauses s u := ⟨fun n hn => k.kept n (h.kept n hn)⟩

theorem KeepsCauses.ite {p : Prop} [Decidable p] {s t u : State} (h : KeepsCauses s t) (k : KeepsCauses s u) : KeepsCauses s (if p then t else u) := by
  split
  · exact h
  · exact k

theorem KeepsCauses.foldl {α : Type} {f : State → α → State} (hf : ∀ s x, KeepsCauses s (f s x)) (l : List α) (s : State) :
    KeepsCauses s (l.foldl f s) := by
  induction l generalizing s with
  | nil => exact .refl s
  | cons x l ih => exact (hf s x).trans (ih _)

/-- What does not reach the events keeps their cause bits. -/
theorem keepsCauses_beside {s t : State} (h : t.evt = s.evt := by exact rfl) : KeepsCauses s t := ⟨fun n hn => by rwa [h]⟩

theorem keepsCauses_raise (i : Nat) (s : State) : KeepsCauses s (raise i s) := ⟨fun _ => raise_keeps_causes i⟩

theorem keepsCauses_endRaw (c status info : Nat) (t rl : Int) (valid : Bool) (s : State) : KeepsCauses s (endRaw c status info t rl valid s) := by
  unfold endRaw
  split
  · exact .refl s
  · exact keepsCauses_beside

theorem keepsCauses_freeTestChain (r : TestRun) (s : State) : KeepsCauses s (freeTestChain r s) := by
  unfold freeTestChain
  extract_lets c live held freed
  have hh : KeepsCauses s held := keepsCauses_beside
  have hf : KeepsCauses held freed := .ite keepsCauses_beside (.refl _)
  refine (hh.trans hf).trans ?_
  split
  · exact keepsCauses_beside
  · exact .refl _

theorem keepsCauses_endTest (status : Nat) (s : State) : KeepsCauses s (endTest status s) := by
  unfold endTest
  split
  · exact .refl s
  · next r _ =>
    have hr : KeepsCauses s (withTest (fun t => { t with run := none, last := some r, finalStatus := status }) s) := keepsCauses_beside
    exact hr.trans (.ite (.refl _) (.ite (keepsCauses_freeTestChain ..) (.ite keepsCauses_beside (.ite keepsCauses_beside keepsCauses_beside))))

theorem keepsCauses_endEntry_standby (e : TxEntry) (s : State) : KeepsCauses s (endEntry stStandby e s) := by
  unfold endEntry
  split
  · exact (keepsCauses_endTest ..).trans (keepsCauses_raise ..)
  · exact keepsCauses_beside
  · exact .refl s
  · exact keepsCauses_beside
  · exact keepsCauses_endRaw ..
  · exact .refl s

theorem keepsCauses_silence (c : Nat) (s : State) : KeepsCauses s (silence c s) := by
  unfold silence
  split
  · exact .refl s
  · next t _ =>
    refine .ite (.refl s) ?_
    extract_lets low
    have hl : KeepsCauses s low := keepsCauses_beside
    have he : KeepsCauses low (endEntry stStandby t.entry (popTx c low)) := .trans (t := popTx c low) keepsCauses_beside (keepsCauses_endEntry_standby ..)
    have hp : KeepsCauses low (popTx c low) := keepsCauses_beside
    exact hl.trans (.trans (KeepsCauses.ite he hp) keepsCauses_beside)

theorem keepsCauses_gatesOff (s : State) : KeepsCauses s (gatesOff s) := by
  have hw (f : TwinSt → TwinSt) : KeepsCauses s (withTwin f s) := keepsCauses_beside
  exact .ite (hw _) ((hw _).trans (.ite (.foldl (fun s c => keepsCauses_silence c s) _ _) (.refl _)))

theorem keepsCauses_stopAll (s : State) : KeepsCauses s (stopAll s) :=
  .trans (t := notLive s) (.trans (t := withTwin (fun t => { t with live := false }) s) keepsCauses_beside (keepsCauses_gatesOff _)) keepsCauses_beside

/-! The halt (R533, R534). -/

/-- The halt of a part once its dump is written: the data path stops, the keys and the root go, nothing is in flight. -/
def haltDumped (cause : Nat) (s : State) : State :=
  withSys (fun x => { x with devState := .halted, haltCause := some cause, resetKind := none })
    (withSec (fun b => { b with slots := [], root := [], rootReady := false })
      (withHif (fun h => { h with flights := [], delayList := [] }) (stopAll (withTest (fun t => { t with run := none, last := none }) s))))

theorem fatal_cases (cause core : Nat) (s : State) :
    fatal cause core s = s ∨ ∃ rom, fatal cause core s = haltDumped cause (writeDump rom cause core s) := by
  unfold fatal
  split
  iterate 4 exact .inl rfl
  exact .inr ⟨_, rfl⟩

theorem fatal_run {s : State} (h : s.sys.devState = .run) (cause core : Nat) :
    ∃ rom, fatal cause core s = haltDumped cause (writeDump rom cause core s) := by
  unfold fatal
  rw [h]
  exact ⟨_, rfl⟩

theorem haltDumped_only (cause : Nat) (s : State) : ∃ sys hif evt rfc lane slot tm sec time lnk twin eth pcie test, haltDumped cause s = { s with
    sys := sys, hif := hif, evt := evt, rfc := rfc, lane := lane, slot := slot, tm := tm, sec := sec, time := time,
    lnk := lnk, twin := twin, eth := eth, pcie := pcie, test := test } := by
  unfold haltDumped stopAll
  extract_lets silent still stopped
  have hn := stopsTraffic_notLive (withTest (fun t => { t with run := none, last := none }) s)
  have hs : StopsTraffic s silent := by
    refine .trans (t := withTest (fun t => { t with run := none, last := none }) s) ⟨_, _, _, _, _, _, _, _, _, _, _, rfl⟩ (hn.trans ?_)
    exact ⟨_, _, _, _, _, _, _, _, _, _, _, rfl⟩
  clear_value silent
  obtain ⟨_, _, _, _, _, _, _, _, _, _, _, rfl⟩ := hs
  exact ⟨_, _, _, _, _, _, _, _, _, _, _, _, _, _, rfl⟩

theorem keepsCauses_haltDumped (cause : Nat) (s : State) : KeepsCauses s (haltDumped cause s) :=
  .trans (t := stopAll (withTest (fun t => { t with run := none, last := none }) s))
    (.trans (t := withTest (fun t => { t with run := none, last := none }) s) keepsCauses_beside (keepsCauses_stopAll _)) keepsCauses_beside

/-- What a fatal error reaches: no memory errors, no health counts, no fuses, no tables; and no cause bit is lost. -/
structure Fatal (s t : State) : Prop where
  blocks : ∃ free sys hif evt rfc lane slot tm sec flash time lnk twin eth pcie dump test, t = { s with
    free := free, sys := sys, hif := hif, evt := evt, rfc := rfc, lane := lane, slot := slot, tm := tm, sec := sec, flash := flash, time := time,
    lnk := lnk, twin := twin, eth := eth, pcie := pcie, dump := dump, test := test }
  causes : KeepsCauses s t

theorem Fatal.refl (s : State) : Fatal s s := ⟨⟨_, _, _, _, _, _, _, _, _, _, _, _, _, _, _, _, _, rfl⟩, .refl s⟩

theorem Fatal.ddr {s t : State} (h : Fatal s t) : t.ddr = s.ddr := by
  obtain ⟨_, _, _, _, _, _, _, _, _, _, _, _, _, _, _, _, _, rfl⟩ := h.blocks
  rfl

theorem Fatal.fwall {s t : State} (h : Fatal s t) : t.fwall = s.fwall := by
  obtain ⟨_, _, _, _, _, _, _, _, _, _, _, _, _, _, _, _, _, rfl⟩ := h.blocks
  rfl

theorem fatal_reaches (cause core : Nat) (s : State) : Fatal s (fatal cause core s) := by
  rcases fatal_cases cause core s with h | ⟨rom, h⟩
  · rw [h]
    exact .refl s
  · have hk : KeepsCauses s (writeDump rom cause core s) := keepsCauses_beside
    have hx := hk.trans (keepsCauses_haltDumped cause (writeDump rom cause core s))
    obtain ⟨free, flash, dump, hw⟩ : ∃ free flash dump, writeDump rom cause core s = { s with free := free, flash := flash, dump := dump } :=
      ⟨_, _, _, rfl⟩
    obtain ⟨_, _, _, _, _, _, _, _, _, _, _, _, _, _, hb⟩ := haltDumped_only cause (writeDump rom cause core s)
    rw [h]
    refine ⟨?_, hx⟩
    rw [hb, hw]
    exact ⟨_, _, _, _, _, _, _, _, _, _, _, _, _, _, _, _, _, rfl⟩

/-- A part that runs: its dump is written before the data path stops, which leaves it as it is, and no slot runs after. -/
theorem fatal_dumps {s : State} (h : s.sys.devState = .run) (cause core : Nat) : ∃ rom,
    (fatal cause core s).dump = (writeDump rom cause core s).dump ∧ (fatal cause core s).flash = (writeDump rom cause core s).flash ∧
      (fatal cause core s).slot.running = false := by
  obtain ⟨rom, hf⟩ := fatal_run h cause core
  have hr (u : State) : (haltDumped cause u).slot.running = false := rfl
  obtain ⟨_, _, _, _, _, _, _, _, _, _, _, _, _, _, hb⟩ := haltDumped_only cause (writeDump rom cause core s)
  rw [hf]
  exact ⟨rom, by rw [hb], by rw [hb], hr _⟩

theorem writeDump_cause (rom : Bool) (cause core : Nat) (s : State) : (writeDump rom cause core s).dump.cause = cause := rfl

/-- An empty pair of flash slots takes the dump in the first. -/
theorem writeDump_first {s : State} (hd : s.flash.dumps = []) (rom : Bool) (cause core : Nat) :
    ∃ d, (writeDump rom cause core s).flash.dumps = [(0, d)] ∧ d.cause = cause := by
  have hf : freeDumpSlot s = some 0 := by simp [freeDumpSlot, hd, tfind]
  simp [writeDump, hf, hd, tput, tick1, dumpOf]

theorem fatalError_ignored {cause core : Nat} {s : State} (h : cause = 0 ∨ 0xB < cause) : fatalError cause core s = s := by
  refine if_pos ?_
  simpa using h

/-- Only the uncorrectable error of a core marks one. -/
theorem fatalError_halts {cause core : Nat} {s : State} (h1 : 1 ≤ cause) (hb : cause ≤ 0xB) (ha : cause ≠ 0xA) :
    fatalError cause core s = fatal cause core s := by
  rw [fatalError, if_neg (by simp; omega)]
  simp [ha]

/-! Cores (R525-R527). -/

/-- The spare that takes a core's place: the lowest-numbered core that neither is active nor has failed. -/
theorem spareCore_first {s : State} {q : Nat} (hq : q ≤ 9) (ha : bit s.hlth.coresActive q = false) (hf : bit s.flash.failedCores q = false)
    (hm : ∀ m ≤ 9, m < q → bit s.hlth.coresActive m = true ∨ bit s.flash.failedCores m = true) : spareCore s = some q := by
  refine List.find?_range_eq_some.mpr ⟨by simp [ha, hf], by simp; omega, fun m hmq => ?_⟩
  rcases hm m (by omega) hmq with h | h <;> simp [h]

/-- The core that leaves is no spare of its own: the search finds the same core after it has left. -/
theorem spareCore_drained {c : Nat} {s t : State} (ha : bit s.hlth.coresActive c = true)
    (hx : t.hlth.coresActive = clrBit s.hlth.coresActive c) (hf : t.flash.failedCores = setBit s.flash.failedCores c) :
    spareCore t = spareCore s := by
  unfold spareCore
  congr 1
  funext m
  rw [hx, hf]
  simp only [bit, testBit_clrBit, testBit_setBit] at ha ⊢
  by_cases hm : m = c
  · simp [hm, ha]
  · simp [hm]

/-- The part once core c has been drained and q has taken its place. -/
def coreMoved (c q : Nat) (s : State) : State :=
  { s with
    hlth := { s.hlth with coresActive := setBit (clrBit s.hlth.coresActive c) q, cnt := bump s.hlth.cnt 3 },
    flash := { s.flash with failedCores := setBit s.flash.failedCores c } }

theorem drainCore_moves {c q : Nat} {s : State} (ha : bit s.hlth.coresActive c = true) (hq : spareCore s = some q) :
    drainCore c s = raise 0x15B (coreMoved c q s) := by
  unfold drainCore
  extract_lets was marked left
  have hs : spareCore left = some q := (spareCore_drained ha rfl rfl).trans hq
  have hw : was = true := ha
  rw [hw, hs]
  rfl

/-- What the failure of an active core with a spare comes to. -/
theorem drainCore_effect {c q : Nat} {s : State} (ha : bit s.hlth.coresActive c = true) (hq : spareCore s = some q) :
    (drainCore c s).flash.failedCores = setBit s.flash.failedCores c ∧
      (drainCore c s).hlth.coresActive = setBit (clrBit s.hlth.coresActive c) q ∧
      ((srcCfgOf s 0x15B).enable = true → (drainCore c s).evt.cause.testBit 0x15B = true) ∧ (drainCore c s).sys = s.sys := by
  rw [drainCore_moves ha hq]
  refine ⟨by rw [raise_only]; rfl, by rw [raise_only]; rfl, fun he => raise_sets he, by rw [raise_only]; rfl⟩

theorem coreFail_drains {c : Nat} {s : State} (hc : c ≤ 9) (hf : bit s.flash.failedCores c = false) : coreFail c s = drainCore c (hlthCnt 2 s) := by
  refine if_neg ?_
  simp [hf, hc]

/-- A watchdog of an active core is noted; the third within 24 h drains it. -/
theorem coreWatchdog_notes {c : Nat} {s : State} (hc : c ≤ 9) (ha : bit s.hlth.coresActive c = true) :
    coreWatchdog c s =
      let noted := withHlth (fun h => { h with watchdogs := tput h.watchdogs c (within24h s (tget [] s.hlth.watchdogs c)) }) s
      if 3 ≤ (within24h s (tget [] s.hlth.watchdogs c)).length then drainCore c noted else noted := by
  refine if_neg ?_
  simp [ha, hc]

/-- Settles O29: the halt by its own steps and what stopping the data path leaves alone, the cores by the spare that is found. -/
theorem fatalErrorsAndCores : Obligations.FatalErrorsAndCores := by
  intro s hs
  refine ⟨fun cause core h1 hb ha => ⟨_, congrArg Host.Outcome.next (fatalError_halts h1 hb ha), ?_⟩,
    fun cause core h => congrArg Host.Outcome.next (fatalError_ignored h), fun c q hc ha hf hqc hm hq hqa hqf => ?_⟩
  · obtain ⟨hd, hcause, hslots, hroot, -, hfl⟩ := fatal_halts hs cause core
    obtain ⟨rom, hdump, hflash, hrun⟩ := fatal_dumps hs cause core
    refine ⟨hd, hcause, hfl, hslots, hroot, fatal_aon .., by rw [hdump, writeDump_cause], fun he => ?_, hrun⟩
    rw [hflash]
    exact writeDump_first he rom cause core
  · have hq : spareCore s = some q := spareCore_first hq hqa hqf hm
    refine ⟨⟨_, congrArg Host.Outcome.next (coreFail_drains hc hf), drainCore_effect (s := hlthCnt 2 s) ha hq⟩,
      fun hw => ⟨_, congrArg Host.Outcome.next ((coreWatchdog_notes hc ha).trans (if_neg (by simp [within24h, hw]))), rfl, ?_⟩,
      fun hw => ⟨_, congrArg Host.Outcome.next ((coreWatchdog_notes hc ha).trans (if_pos (by simp [within24h, hw]))), ?_⟩⟩
    · exact (tget_tput_same ..).trans (by rw [within24h, hw]; rfl)
    · obtain ⟨h1, h2, -⟩ := drainCore_effect (c := c) (q := q)
        (s := withHlth (fun h => { h with watchdogs := tput h.watchdogs c (within24h s (tget [] s.hlth.watchdogs c)) }) s) ha hq
      exact ⟨h1, h2⟩

end Sys2Proof.Proofs
end

section
/-!
PROOFS. Health, retirement and memory errors (R506-R508, R522-R531, R540, R542).
-/
namespace Sys2Proof.Proofs
open Machine Safety Laws

/-! A reply joins the commands in flight, which no event reads. -/

theorem settle_withFlights (v : Nat) (was again : Bool) (l : List Flight) (s : State) :
    settle v was again { s with hif := { s.hif with flights := l } } = { settle v was again s with hif := { s.hif with flights := l } } := by
  have hv : vecPending { s with hif := { s.hif with flights := l } } v = vecPending s v := rfl
  unfold settle notify
  rw [hv]
  split_ifs <;> rfl

theorem raise_settles {n : Nat} {s : State} (h : ¬ (!(srcCfgOf s n).enable || s.evt.cause.testBit n) = true) : raise n s =
    settle (vecOfSrc (srcCfgOf s n)) (vecPending s (vecOfSrc (srcCfgOf s n))) false (withEvt (fun e => { e with cause := setBit e.cause n }) s) :=
  if_neg h

theorem raise_withFlights (n : Nat) (l : List Flight) (s : State) :
    raise n { s with hif := { s.hif with flights := l } } = { raise n s with hif := { s.hif with flights := l } } := by
  by_cases h : (!(srcCfgOf s n).enable || s.evt.cause.testBit n) = true
  · have hi : (srcCfgOf s n).enable = false ∨ s.evt.cause.testBit n = true := by simpa using h
    rw [raise_idle hi, raise_idle (s := { s with hif := { s.hif with flights := l } }) hi]
  · rw [raise_settles h, raise_settles (s := { s with hif := { s.hif with flights := l } }) h]
    exact settle_withFlights _ _ false l (withEvt (fun e => { e with cause := setBit e.cause n }) s)

/-- A command that raises an event as it completes: the event does not read the reply. -/
theorem raise_answered (n : Nat) (h : Hdr) (c : Cmd) (status info : Nat) (data : List Byte) (s : State) :
    { raise n (inFlightWith h c s) with hif := answered h c status info data s } =
      raise n { s with hif := answered h c status info data s } :=
  (congrArg (fun t : State => { t with hif := answered h c status info data s }) (raise_withFlights n (inFlightWith h c s).hif.flights s)).trans
    (raise_withFlights n (answered h c status info data s).flights s).symm

/-! Reports (R540, R542). -/

theorem hlthStatus_bad (h : Hdr) {p : HlthStatusP} (s : State) (hn : 1 < p.clear) : hlthStatus h p s = refuse s stBadParam := if_pos hn

theorem hlthStatus_reports (h : Hdr) {p : HlthStatusP} (s : State) (hc : p.clear ≤ 1) : hlthStatus h p s =
    done (if p.clear = 1 then withHlth (fun h => { h with cnt := [] }) s else s)
      (le 4 s.hlth.degraded ++ le 1 (coresActive s) ++ le 1 (coresSpare s) ++ le 1 (sparesFree s) ++ le 1 s.otp.enrolled ++
        le 2 s.flash.retiredPages.length ++ le 2 s.flash.flashRemaps.length ++ le 2 (popcount s.otp.dead 16) ++ le 2 s.otp.svBurnt ++
        le 2 s.otp.clearBurnt ++ le 2 s.sec.pufErrors) := if_neg (by omega)

/-- The fields HLTH_SPARE_MAP takes. -/
def SpareMapOk (p : HlthSpareMapP) : Prop := p.op = 0 ∨ (p.op = 1 ∧ p.reserve ≤ 8)

theorem hlthSpareMap_bad (h : Hdr) {p : HlthSpareMapP} (s : State) (hn : ¬ SpareMapOk p) : hlthSpareMap h p s = refuse s stBadParam := by
  refine if_pos ?_
  simp only [Bool.or_eq_true, Bool.and_eq_true, decide_eq_true_eq]
  unfold SpareMapOk at hn
  omega

/-- The maps of R540 as the buffer takes them. -/
def spareMaps (s : State) : List Byte := (hlthRegs s).flatMap (fun x => le 4 x.2) ++ (List.range 96).flatMap (fun n => le 4 (lmapWord s n))

/-- The reserve that stands once the command is done. -/
def reserveAfter (p : HlthSpareMapP) (s : State) : Nat := if p.op = 1 then p.reserve else s.lane.reserve

/-- A reserve that is stored changes no map. -/
theorem hlthSpareMap_reports (h : Hdr) {p : HlthSpareMapP} (s : State) (hp : SpareMapOk p) : hlthSpareMap h p s =
    done { s with lane := { s.lane with reserve := reserveAfter p s }, hostMem := outputAt p.bufferAddr (spareMaps s) s }
      (le 1 (reserveAfter p s)) := by
  rw [hlthSpareMap, if_neg ?range]
  case range =>
    simp only [Bool.or_eq_true, Bool.and_eq_true, decide_eq_true_eq]
    unfold SpareMapOk at hp
    omega
  unfold reserveAfter
  split <;> exact congrArg (done · _) (toHost_outputAt ..)

theorem spareCore_idle {s : State} {q : Nat} (hq : spareCore s = some q) : s.hlth.coresActive.testBit q = false := by
  have h := List.find?_some hq
  simp only [bit, Bool.and_eq_true, Bool.not_eq_true'] at h
  exact h.1

/-! Retirement (R530, R531, R542). -/

/-- A page becomes a candidate, unless it is one or has been retired. -/
theorem pageCandidate_enters (page : Nat) (s : State) : ∃ l x, pageCandidate page s = { s with ddr := { s.ddr with candidates := l }, hlth := x } ∧
    (page ∈ l ∨ ∃ e ∈ s.flash.retiredPages, e.1 = page) := by
  unfold pageCandidate
  split
  · next h =>
    refine ⟨s.ddr.candidates, s.hlth, rfl, ?_⟩
    simpa using h
  · exact ⟨_, _, rfl, .inl (by simp)⟩

/-- A block outside the boot area is replaced while spares last. -/
theorem remapBlock_spare {b : Nat} {s : State} (hb : 16 ≤ b) (hn : s.flash.flashRemaps.length < 496) : (remapBlock b s).1 =
    raise 0x15E { s with
      hlth := { s.hlth with cnt := bump s.hlth.cnt 3 }, flash := { s.flash with flashRemaps := s.flash.flashRemaps ++ [b] } } := by
  have hn' : ¬ 496 ≤ (hlthCnt 3 s).flash.flashRemaps.length := Nat.not_le.mpr hn
  rw [remapBlock, if_neg (by omega), if_neg hn']
  rfl

theorem remapBlock_boot {b : Nat} (s : State) (hb : b < 16) : (remapBlock b s).1 = { s with hlth := { s.hlth with cnt := bump s.hlth.cnt 3 } } := by
  rw [remapBlock, if_pos hb]
  rfl

section
variable (h : Hdr) {p : HlthRetireP} (s : State)

theorem hlthRetire_unknown (hk : 4 < p.kind) : hlthRetire h p s = refuse s stBadParam := by
  unfold hlthRetire
  split
  iterate 5 omega
  rfl

theorem hlthRetire_core (hk : p.kind = 0) : hlthRetire h p s =
    if 9 < p.index || p.index = recoveryCore s then refuse s stBadParam
    else if bit s.hlth.coresActive p.index then retired (spareCore s).isSome (drainCore p.index s)
    else done (if bit s.flash.failedCores p.index then s else drainCore p.index s) (le 1 0) := by
  simp only [hlthRetire, hk]

theorem hlthRetire_core_bad (hk : p.kind = 0) (hi : 9 < p.index ∨ p.index = recoveryCore s) : hlthRetire h p s = refuse s stBadParam := by
  rw [hlthRetire_core h s hk, if_pos (by simpa using hi)]

theorem hlthRetire_core_moves {q : Nat} (hk : p.kind = 0) (h9 : p.index ≤ 9) (hn : p.index ≠ recoveryCore s)
    (ha : bit s.hlth.coresActive p.index = true) (hq : spareCore s = some q) :
    hlthRetire h p s = retired true (raise 0x15B (coreMoved p.index q s)) := by
  rw [hlthRetire_core h s hk, if_neg (by simpa using ⟨h9, hn⟩), if_pos ha, hq, drainCore_moves ha hq]
  rfl

theorem hlthRetire_core_failed (hk : p.kind = 0) (h9 : p.index ≤ 9) (hn : p.index ≠ recoveryCore s) (ha : bit s.hlth.coresActive p.index = false)
    (hf : bit s.flash.failedCores p.index = true) : hlthRetire h p s = done s (le 1 0) := by
  rw [hlthRetire_core h s hk, if_neg (by simpa using ⟨h9, hn⟩), if_neg (by simp [ha]), if_pos hf]

theorem hlthRetire_lane (hk : p.kind = 1) : hlthRetire h p s =
    if 103 < p.index then refuse s stBadParam
    else if roleOf s p.index = 0 then
      retired ((List.range 104).any (fun q => roleOf s q = 1 || roleOf s q = 2)) (failPhys p.index s)
    else done (failPhys p.index s) (le 1 0) := by
  simp only [hlthRetire, hk]

theorem hlthRetire_lane_free (hk : p.kind = 1) (hi : p.index ≤ 103) (hr : roleOf s p.index = 1 ∨ roleOf s p.index = 2) :
    hlthRetire h p s = done (failPhys p.index s) (le 1 0) := by
  rw [hlthRetire_lane h s hk, if_neg (by omega), if_neg (by omega)]

theorem hlthRetire_page (hk : p.kind = 2) : hlthRetire h p s =
    if 256 * s.sys.dramMib ≤ p.index then refuse s stBadParam
    else if 16384 ≤ s.flash.retiredPages.length then refuse (exhausted 2 s) stNoRoom
    else done (pageCandidate p.index s) (le 1 1) := by
  simp only [hlthRetire, hk]

theorem hlthRetire_page_ok (hk : p.kind = 2) (hi : p.index < 256 * s.sys.dramMib) (hn : s.flash.retiredPages.length < 16384) :
    hlthRetire h p s = done (pageCandidate p.index s) (le 1 1) := by
  rw [hlthRetire_page h s hk, if_neg (by omega), if_neg (by omega)]

theorem hlthRetire_block (hk : p.kind = 3) : hlthRetire h p s =
    if p.index < 16 || 8192 ≤ p.index then refuse s stBadParam
    else if 496 ≤ s.flash.flashRemaps.length then refuse (exhausted 3 s) stNoRoom
    else done (remapBlock p.index s).1 (le 1 1) := by
  simp only [hlthRetire, hk]

theorem hlthRetire_block_bad (hk : p.kind = 3) (hi : p.index < 16 ∨ 8192 ≤ p.index) : hlthRetire h p s = refuse s stBadParam := by
  rw [hlthRetire_block h s hk, if_pos (by simpa using hi)]

theorem hlthRetire_block_ok (hk : p.kind = 3) (h16 : 16 ≤ p.index) (hi : p.index < 8192) (hn : s.flash.flashRemaps.length < 496) :
    hlthRetire h p s = done (raise 0x15E { s with
      hlth := { s.hlth with cnt := bump s.hlth.cnt 3 }, flash := { s.flash with flashRemaps := s.flash.flashRemaps ++ [p.index] } }) (le 1 1) := by
  rw [hlthRetire_block h s hk, if_neg (by simpa using ⟨h16, hi⟩), if_neg (by omega), remapBlock_spare h16 hn]

theorem hlthRetire_array (hk : p.kind = 4) : hlthRetire h p s =
    if 2 < p.index || p.index = s.otp.pufArray then refuse s stBadParam
    else done (withOtp (fun o => { o with pufBad := setBit o.pufBad p.index }) s) (le 1 0) := by
  simp only [hlthRetire, hk]

theorem hlthRetire_array_bad (hk : p.kind = 4) (hi : 2 < p.index ∨ p.index = s.otp.pufArray) : hlthRetire h p s = refuse s stBadParam := by
  rw [hlthRetire_array h s hk, if_pos (by simpa using hi)]

theorem hlthRetire_array_ok (hk : p.kind = 4) (hi : p.index ≤ 2) (hn : p.index ≠ s.otp.pufArray) :
    hlthRetire h p s = done (withOtp (fun o => { o with pufBad := setBit o.pufBad p.index }) s) (le 1 0) := by
  rw [hlthRetire_array h s hk, if_neg (by simpa using ⟨hi, hn⟩)]

end

/-! DRAM (R506-R508, R523, R525, R530). -/

/-- The page errors and the times once a corrected error is counted. -/
def ceCounted (a : Nat) (s : State) : State :=
  withDdr (fun d => { d with
    cnt := bump d.cnt 0, lastCe := a / 64 % 2 ^ 32, ceSec := some (rawSec s),
    pageErrs := tput d.pageErrs (a / 4096) (within24h s (tget [] s.ddr.pageErrs (a / 4096))) }) s

theorem dramCe_counts (a : Nat) (s : State) : dramCe a s =
    let told := raiseIf (s.ddr.ceSec ≠ some (rawSec s)) 0x148 (ceCounted a s)
    if 16 ≤ (within24h s (tget [] s.ddr.pageErrs (a / 4096))).length then pageCandidate (a / 4096) told else told := rfl

/-- A corrected error is counted and told of, and its page may become a candidate. -/
theorem dramCe_only (a : Nat) (s : State) : ∃ l x, dramCe a s =
    let told := raiseIf (s.ddr.ceSec ≠ some (rawSec s)) 0x148 (ceCounted a s)
    { told with ddr := { (ceCounted a s).ddr with candidates := l }, hlth := x } := by
  have ht : (raiseIf (s.ddr.ceSec ≠ some (rawSec s)) 0x148 (ceCounted a s)).ddr = (ceCounted a s).ddr := by rw [raiseIf_only]
  rw [dramCe_counts]
  extract_lets told
  split
  · obtain ⟨l, x, hp, -⟩ := pageCandidate_enters (a / 4096) told
    rw [hp, ht]
    exact ⟨l, x, rfl⟩
  · exact ⟨(ceCounted a s).ddr.candidates, told.hlth, congrArg (fun d => ({ told with ddr := d } : State)) ht⟩

/-- What the loss of a unit leads to elsewhere: of the memory errors only the list units that are skipped, and no cause bit lost. -/
structure Damages (s t : State) : Prop where
  ddr : ∃ u, t.ddr = { s.ddr with skipUnits := u }
  causes : KeepsCauses s t

theorem damages_beside {s t : State} (hd : t.ddr = s.ddr := by exact rfl) (he : t.evt = s.evt := by exact rfl) : Damages s t :=
  ⟨⟨s.ddr.skipUnits, hd⟩, keepsCauses_beside he⟩

theorem ReachesCamps.damages {s t : State} (h : ReachesCamps s t) : Damages s t := by
  obtain ⟨_, _, rfl⟩ := h
  exact damages_beside

theorem damageImage_reaches (c : Nat) (s : State) : ReachesCamps s (damageImage c s) :=
  .ite (reachesCamps_withCamp ..) (reachesCamps_pauseCamp ..)

theorem damageBitmap_reaches (i o : Nat) (s : State) : ReachesCamps s (damageBitmap i o s) := by
  refine .foldl (fun s e => ?_) _ s
  split
  · exact reachesCamps_withCamp ..
  · exact .refl s

theorem regionDamage_damages (a : Nat) (s : State) : Damages s (regionDamage a s) := by
  have hf := fatal_reaches 3 0xFFFF s
  have hi := (damageImage_reaches ((a - 336 * mib) / (4 * mib)) s).damages
  have hb := (damageBitmap_reaches ((a - 400 * mib) / 512) ((a - 400 * mib) % 512 / 64 * 64) s).damages
  unfold regionDamage
  split
  · exact ⟨⟨s.ddr.skipUnits, hf.ddr⟩, hf.causes⟩
  split
  · exact damages_beside
  split
  · exact damages_beside
  split
  · exact damages_beside
  split
  · exact ⟨⟨_, rfl⟩, keepsCauses_beside⟩
  split
  · exact damages_beside
  split
  · exact hi
  split
  · exact hb
  split
  · exact damages_beside
  · exact damages_beside

/-- The state once an uncorrectable error is counted, its unit poisoned and its page a candidate. -/
def uePoisoned (a : Nat) (s : State) : State :=
  pageCandidate (a / 4096) (raise 0x149 (withDdr (fun d => { d with
    cnt := bump d.cnt 1, lastUe := a / 64 % 2 ^ 32,
    poisoned := if d.poisoned.contains (a / 64) then d.poisoned else d.poisoned ++ [a / 64] }) s))

theorem dramUe_damages (a : Nat) (s : State) : dramUe a s = regionDamage (originalPage s (a / 4096) * 4096 + a % 4096) (uePoisoned a s) := rfl

theorem uePoisoned_only (a : Nat) (s : State) : ∃ l x e, uePoisoned a s = { s with
    ddr := { s.ddr with
      cnt := bump s.ddr.cnt 1, lastUe := a / 64 % 2 ^ 32, candidates := l,
      poisoned := if s.ddr.poisoned.contains (a / 64) then s.ddr.poisoned else s.ddr.poisoned ++ [a / 64] },
    hlth := x, evt := e } := by
  unfold uePoisoned
  obtain ⟨l, x, hp, -⟩ := pageCandidate_enters (a / 4096) (raise 0x149 (withDdr (fun d => { d with
    cnt := bump d.cnt 1, lastUe := a / 64 % 2 ^ 32,
    poisoned := if d.poisoned.contains (a / 64) then d.poisoned else d.poisoned ++ [a / 64] }) s))
  rw [hp, raise_only]
  exact ⟨l, x, _, rfl⟩

theorem uePoisoned_evt (a : Nat) (s : State) : KeepsCauses s (uePoisoned a s) ∧
    ((srcCfgOf s 0x149).enable = true → (uePoisoned a s).evt.cause.testBit 0x149 = true) := by
  unfold uePoisoned
  obtain ⟨l, x, hp, -⟩ := pageCandidate_enters (a / 4096) (raise 0x149 (withDdr (fun d => { d with
    cnt := bump d.cnt 1, lastUe := a / 64 % 2 ^ 32,
    poisoned := if d.poisoned.contains (a / 64) then d.poisoned else d.poisoned ++ [a / 64] }) s))
  rw [hp]
  exact ⟨⟨fun n hn => raise_keeps_causes 0x149 hn⟩, fun he => raise_sets he⟩

/-- What every uncorrectable error comes to, whatever its region. -/
structure Poisons (a : Nat) (s t : State) : Prop where
  poisoned : a / 64 ∈ t.ddr.poisoned
  lastUe : t.ddr.lastUe = a / 64 % 2 ^ 32
  counted : tget 0 t.ddr.cnt 1 = min (tget 0 s.ddr.cnt 1 + 1) 0xFFFFFFFF
  event : (srcCfgOf s 0x149).enable = true → t.evt.cause.testBit 0x149 = true
  causes : KeepsCauses s t

theorem dramUe_poisons (a : Nat) (s : State) : Poisons a s (dramUe a s) := by
  obtain ⟨⟨u, hd⟩, hk⟩ := regionDamage_damages (originalPage s (a / 4096) * 4096 + a % 4096) (uePoisoned a s)
  obtain ⟨hu, he⟩ := uePoisoned_evt a s
  obtain ⟨l, x, e, hp⟩ := uePoisoned_only a s
  rw [dramUe_damages]
  generalize regionDamage (originalPage s (a / 4096) * 4096 + a % 4096) (uePoisoned a s) = t at hd hk ⊢
  refine ⟨?_, ?_, ?_, fun hn => hk.kept _ (he hn), hu.trans hk⟩
  · rw [hd, hp]
    dsimp only
    split
    · next h => simpa using h
    · simp
  · rw [hd, hp]
  · rw [hd, hp]
    exact (tget_bump ..).trans (if_pos rfl)

/-- Without a retired page the address is the unit's own. -/
theorem originalPage_self {s : State} (hr : s.flash.retiredPages = []) (p : Nat) : originalPage s p = p := by simp [originalPage, hr]

theorem dramUe_own {s : State} (hr : s.flash.retiredPages = []) (a : Nat) : dramUe a s = regionDamage a (uePoisoned a s) := by
  rw [dramUe_damages, originalPage_self hr, Nat.div_add_mod']

theorem regionDamage_above {a : Nat} (s : State) (ha : 592 * mib ≤ a) : regionDamage a s = s := by
  unfold mib at ha
  unfold regionDamage mib
  iterate 9 rw [if_neg (by omega)]

theorem regionDamage_firmware {a : Nat} (s : State) (ha : a < 256 * mib) : regionDamage a s = fatal 3 0xFFFF s := if_pos ha

theorem caAlert_again (a : Nat) (s : State) : ∃ d, caAlert a true s = dramUe a (raise 0x14B { s with ddr := d }) := ⟨_, rfl⟩

theorem ddrTemp_hot {c : Int} {s : State} (hc : 85 ≤ c) (hr : s.ddr.refresh2x = false) :
    ddrTemp c s = raise 0x14A { s with ddr := { s.ddr with refresh2x := true } } := by
  simp [ddrTemp, hc, hr, withDdr]

theorem ddrTemp_cool {c : Int} (s : State) (hc : c < 80) : ddrTemp c s = { s with ddr := { s.ddr with refresh2x := false } } := by
  rw [ddrTemp, if_neg (by omega), if_pos hc]
  rfl

theorem ddrTemp_same {c : Int} {s : State} (hc : 80 ≤ c) (h : c < 85 ∨ s.ddr.refresh2x = true) : ddrTemp c s = s := by
  unfold ddrTemp
  split
  · rw [if_pos (h.resolve_left (by omega))]
  · rw [if_neg (by omega)]

theorem retireDone_other {p : Nat} {s : State} (hp : p ∉ s.ddr.candidates) : retireDone p s = s := by
  simp [retireDone, hp]

theorem retireDone_replaces {p : Nat} {s : State} (hp : p ∈ s.ddr.candidates) (hn : s.flash.retiredPages.length < 16384) :
    retireDone p s = raise 0x15D { s with
      ddr := { s.ddr with candidates := s.ddr.candidates.filter (fun x => decide (x ≠ p)) },
      flash := { s.flash with retiredPages := s.flash.retiredPages ++ [(p, 151552 + s.flash.retiredPages.length)] } } := by
  rw [retireDone, if_neg (by simp [hp])]
  exact if_neg (by omega)

/-! SRAM (R522, R525). -/

/-- The row errors of a memory are noted in the health block and told of by EV_SRAM_REPAIR alone. -/
theorem rowError_notes (m row : Nat) (s : State) : ∃ x e, rowError m row s = { s with hlth := x, evt := e } ∧ tget 0 x.cnt 0 = tget 0 s.hlth.cnt 0 := by
  unfold rowError
  extract_lets k old l noted
  clear_value l k
  split
  · exact ⟨_, _, rfl, rfl⟩
  · split
    · exact ⟨_, _, rfl, rfl⟩
    · have hc : tget 0 (bump s.hlth.cnt 3) 0 = tget 0 s.hlth.cnt 0 := (tget_bump ..).trans (if_neg (by decide))
      have hn : hlthCnt 3 (withHlth (fun h => { h with sramPending := h.sramPending + 1 }) noted) =
          { s with hlth := { noted.hlth with sramPending := noted.hlth.sramPending + 1, cnt := bump s.hlth.cnt 3 } } := rfl
      obtain ⟨e, he, -⟩ := raise_evt 0x15C (hlthCnt 3 (withHlth (fun h => { h with sramPending := h.sramPending + 1 }) noted))
      rw [he, hn]
      exact ⟨_, e, rfl, hc⟩

theorem sramError_none {m : Nat} (hm : 6 < m) (u dirty : Bool) (row : Nat) (s : State) : sramError m u dirty row s = s := if_pos hm

theorem sramError_corrected {m : Nat} (hm : m < 4) (dirty : Bool) (row : Nat) (s : State) :
    sramError m false dirty row s = rowError m row (hlthCnt 0 s) := by
  rw [sramError, if_neg (by omega), if_pos (by simp [hm])]

theorem sramError_uncorrected {m : Nat} (hm : m ≤ 6) {u : Bool} (hu : u = true ∨ 4 ≤ m) (dirty : Bool) (row : Nat) (s : State) :
    sramError m u dirty row s =
      if m = 1 && dirty then fatal 4 0xFFFF (hlthCnt 1 s)
      else if m = 3 then fatal 9 0xFFFF (hlthCnt 1 s)
      else if 4 ≤ m then parityMiss (raise 0x162 (hlthCnt 1 s))
      else raise 0x162 (if m = 0 then loseRow row (hlthCnt 1 s) else hlthCnt 1 s) := by
  rw [sramError, if_neg (by omega), if_neg (by rcases hu with h | h <;> simp [h])]

/-- A dirty line of a core and the island are fatal. -/
theorem sramError_fatal {m : Nat} {dirty : Bool} (h : (m = 1 ∧ dirty = true) ∨ m = 3) (row : Nat) (s : State) :
    ∃ cause, sramError m true dirty row s = fatal cause 0xFFFF (hlthCnt 1 s) := by
  rw [sramError_uncorrected (by omega) (.inl rfl)]
  rcases h with ⟨rfl, rfl⟩ | rfl
  · exact ⟨4, rfl⟩
  · exact ⟨9, rfl⟩

theorem sramError_clean {m : Nat} {dirty : Bool} (h : m = 2 ∨ (m = 1 ∧ dirty = false)) (row : Nat) (s : State) :
    sramError m true dirty row s = raise 0x162 (hlthCnt 1 s) := by
  rw [sramError_uncorrected (by omega) (.inl rfl)]
  rcases h with rfl | ⟨rfl, rfl⟩ <;> simp

theorem sramError_buffer (dirty : Bool) (row : Nat) (s : State) : sramError 0 true dirty row s = raise 0x162 (loseRow row (hlthCnt 1 s)) := by
  rw [sramError_uncorrected (by omega) (.inl rfl)]
  simp

theorem sramError_parity {m : Nat} (h4 : 4 ≤ m) (h6 : m ≤ 6) (u dirty : Bool) (row : Nat) (s : State) :
    sramError m u dirty row s = parityMiss (raise 0x162 (hlthCnt 1 s)) := by
  rw [sramError_uncorrected h6 (.inr h4), if_neg (by simp; omega), if_neg (by omega), if_pos h4]

/-! A row of the packet buffer that is lost (R522). -/

theorem endsEntry_loseFrame (p : Nat) (cause : Option Nat) (s : State) : EndsEntry s (loseFrame p cause s) := by
  unfold loseFrame
  split
  · exact .refl s
  · extract_lets n ended counted
    have he : EndsEntry s ended := .ite (endsEntry_chkEnds ..) (.refl s)
    have hc : EndsEntry ended counted := by
      cases cause with
      | none => exact .refl _
      | some i =>
        change EndsEntry ended (countLane n i ended)
        rw [countLane_only]
        exact endsEntry_beside
    exact (he.trans hc).trans endsEntry_beside

theorem endsEntry_abort (p : Nat) (cause : Option Nat) (s : State) : EndsEntry s (abortFrame p cause s) := by
  refine .ite ((endsEntry_loseFrame p cause s).trans ?_) (.refl s)
  rw [endFrame_only]
  exact endsEntry_beside

theorem endsEntry_loseQueued (q : Nat) (f : QFrame) (s : State) : EndsEntry s (loseQueued q f s) := by
  unfold loseQueued
  split
  · exact endsEntry_leaveQueue ..
  · split
    · exact (endsEntry_withChain (by exact fun k => linesFall_lists k ..) _ s).trans (endsEntry_endEntry ..)
    · exact endsEntry_failFrame ..

theorem endsEntry_loseRow (row : Nat) (s : State) : EndsEntry s (loseRow row s) := by
  unfold loseRow
  extract_lets held unqueued
  have hq : EndsEntry s unqueued :=
    List.foldlRecOn (motive := EndsEntry s) _ _ (.refl s) (fun _ ht _ _ => ht.trans (endsEntry_loseQueued ..))
  refine List.foldlRecOn (motive := EndsEntry s) _ _ hq (fun t ht p _ => ht.trans ?_)
  split
  · exact .ite (endsEntry_abort ..) (.refl _)
  · exact .refl _

/-- Settles O58: each command by the form its fields choose, each error by what it counts, poisons and leads to. -/
theorem healthAndMemoryErrors : Obligations.HealthAndMemoryErrors := by
  intro h s d set worn
  refine ⟨fun p hr => ?status, fun p hr => ?maps, fun p hr => ?retire, fun a => ?ce, fun a => ?ue, fun a => ⟨rfl, ?alert⟩, ⟨rfl, rfl⟩,
    fun c => ⟨fun hc hx => congrArg Host.Outcome.next (ddrTemp_hot hc hx), fun hc => congrArg Host.Outcome.next (ddrTemp_cool s hc),
      fun hc hx => congrArg Host.Outcome.next (ddrTemp_same hc hx)⟩,
    fun p hp => congrArg Host.Outcome.next (retireDone_other hp), fun p hp hn => congrArg Host.Outcome.next (retireDone_replaces hp hn),
    fun b => ?blocks, fun m dirty row => ?sram⟩
  case status =>
    refine ⟨fun hc => agentRun_refuses hr (hlthStatus_bad h _ hc), fun hc => ?_⟩
    have he := hlthStatus_reports h (inFlightWith h (.hlthStatus p) s) hc
    split at he <;> rename_i h1
    · rw [if_pos h1]
      exact agentRun_answers hr _ he rfl rfl rfl rfl
    · rw [if_neg h1]
      exact agentRun_answers hr _ he rfl rfl rfl rfl
  case maps =>
    exact ⟨fun hn => agentRun_refuses hr (hlthSpareMap_bad h _ hn), fun hp => agentRun_answers hr _ (hlthSpareMap_reports h _ hp) rfl rfl rfl rfl⟩
  case retire =>
    intro i refused
    let u := inFlightWith h (.hlthRetire p) s
    refine ⟨fun hk => agentRun_refuses hr (hlthRetire_unknown h u hk), fun hk hi => agentRun_refuses hr (hlthRetire_core_bad h u hk hi),
      fun q hk h9 hn ha hq => ?core,
      fun hk h9 hn ha hf => agentRun_answers hr _ (hlthRetire_core_failed h u hk h9 hn ha hf) rfl rfl rfl rfl,
      fun hk hi => agentRun_refuses hr ((hlthRetire_lane h u hk).trans (if_pos hi)), fun hk hi hrole => ?lane,
      fun hk hi => agentRun_refuses hr ((hlthRetire_page h u hk).trans (if_pos hi)), fun hk hi hn => ?page,
      fun hk hi => agentRun_refuses hr (hlthRetire_block_bad h u hk hi), fun hk h16 hi hn => ?block,
      fun hk hi => agentRun_refuses hr (hlthRetire_array_bad h u hk hi), fun hk hi hn => ?array⟩
    case core =>
      have hx : (raise 0x15B (coreMoved i q u)).hlth.coresActive = setBit (clrBit s.hlth.coresActive i) q := by rw [raise_only]; rfl
      have hf : (raise 0x15B (coreMoved i q u)).flash.failedCores = setBit s.flash.failedCores i := by rw [raise_only]; rfl
      have hiq : i ≠ q := fun hiq => by simp [hiq, spareCore_idle hq] at ha
      refine ⟨_, agentRun_answers hr _ (hlthRetire_core_moves h u hk h9 hn ha hq) (raise_hif ..) (congrArg (·.c) (raise_time ..)) rfl rfl, rfl,
        (congrArg (·.testBit i) hx).trans ?_, (congrArg (·.testBit q) hx).trans ?_, (congrArg (·.testBit i) hf).trans ?_, fun he => raise_sets he⟩
      · simp [testBit_setBit, testBit_clrBit, hiq]
      · simp [testBit_setBit]
      · simp [testBit_setBit]
    case lane =>
      have h3 : roleOf u i ≠ 3 := fun h3 => by rcases hrole with h' | h' <;> exact absurd (h'.symm.trans h3) (by decide)
      obtain ⟨hrole', hfailed, -⟩ := failPhys_fails (show i < 104 by omega) h3
      obtain ⟨_, _, _, _, _, hb⟩ := failPhys_only (show i < 104 by omega) h3
      exact ⟨_, agentRun_answers hr _ (hlthRetire_lane_free h u hk hi hrole) (congrArg (·.hif) hb) (congrArg (·.time.c) hb) rfl rfl, hrole', hfailed,
        List.mem_append_right _ (List.mem_singleton_self _)⟩
    case page =>
      obtain ⟨l, x, hp, hm⟩ := pageCandidate_enters i u
      exact ⟨_, agentRun_answers hr _ ((hlthRetire_page_ok h u hk hi hn).trans (congrArg (done · _) hp)) rfl rfl rfl rfl, rfl, hm⟩
    case block =>
      let v : State := { s with
        hlth := { s.hlth with cnt := bump s.hlth.cnt 3 }, flash := { s.flash with flashRemaps := s.flash.flashRemaps ++ [i] } }
      exact (agentRun_answers hr _ (hlthRetire_block_ok h u hk h16 hi hn) (raise_hif ..) (congrArg (·.c) (raise_time ..)) rfl rfl).trans
        (congrArg Host.Outcome.next (raise_answered 0x15E h (.hlthRetire p) stOk 0 (le 1 1) v))
    case array =>
      exact ⟨_, agentRun_answers hr _ (hlthRetire_array_ok h u hk hi hn) rfl rfl rfl rfl, rfl, fun b => testBit_setBit ..⟩
  case ce =>
    obtain ⟨l, x, hd⟩ := dramCe_only a s
    refine ⟨_, congrArg Host.Outcome.next hd, by rw [raiseIf_only]; rfl, (tget_bump ..).trans (if_pos rfl), rfl, rfl, fun hn he => ?_, fun hn => ?_⟩
    · rw [decide_eq_true hn]
      exact raise_sets he
    · rw [decide_eq_false (not_not.mpr hn)]
      rfl
  case ue =>
    have hp := dramUe_poisons a s
    refine ⟨_, rfl, hp.poisoned, hp.lastUe, hp.event, hp.counted, fun hr ha => ?_, fun hr ha hs => ?_⟩
    · obtain ⟨l, x, e, hu⟩ := uePoisoned_only a s
      rw [dramUe_own hr, regionDamage_above _ ha, hu]
    · obtain ⟨l, x, e, hu⟩ := uePoisoned_only a s
      rw [dramUe_own hr, regionDamage_firmware _ ha]
      have hx := fatal_halts (show (uePoisoned a s).sys.devState = .run by rw [hu]; exact hs) 3 0xFFFF
      exact ⟨hx.devState, hx.haltCause⟩
  case alert =>
    obtain ⟨d', hd⟩ := caAlert_again a s
    have hp := dramUe_poisons a (raise 0x14B { s with ddr := d' })
    exact ⟨_, congrArg Host.Outcome.next hd, hp.poisoned, fun he => hp.causes.kept _ (raise_sets he), fun he => hp.event (by rw [raise_only]; exact he)⟩
  case blocks =>
    exact ⟨fun hb => congrArg Host.Outcome.next (if_pos hb),
      fun hb => congrArg Host.Outcome.next ((if_neg (by omega)).trans (remapBlock_boot s hb)),
      fun h16 hb hn => congrArg Host.Outcome.next ((if_neg (by omega)).trans (remapBlock_spare h16 hn))⟩
  case sram =>
    refine ⟨fun hm u => congrArg Host.Outcome.next (sramError_none hm u dirty row s), fun hm => ?corrected, fun hm hs => ?fatal,
      fun hm => congrArg Host.Outcome.next (sramError_clean hm row s), fun hm => ?buffer, fun h4 h6 u => ?parity⟩
    case corrected =>
      obtain ⟨x, e, hx, hc⟩ := rowError_notes m row (hlthCnt 0 s)
      exact ⟨_, congrArg Host.Outcome.next ((sramError_corrected hm dirty row s).trans hx), rfl, hc.trans ((tget_bump ..).trans (if_pos rfl))⟩
    case fatal =>
      obtain ⟨cause, hx⟩ := sramError_fatal hm row s
      have hh := fatal_halts (s := hlthCnt 1 s) hs cause 0xFFFF
      exact ⟨_, congrArg Host.Outcome.next hx, hh.devState, hh.slots⟩
    case buffer =>
      subst hm
      exact ⟨_, congrArg Host.Outcome.next (sramError_buffer dirty row s),
        fun he => raise_sets (by rw [(endsEntry_loseRow row (hlthCnt 1 s)).srcCfgOf]; exact he)⟩
    case parity =>
      refine ⟨_, congrArg Host.Outcome.next (sramError_parity h4 h6 u dirty row s), ?_, ?_, fun he => ?_, fun he => ?_⟩
      · rw [parityMiss, raise_only, raise_only 0x162]
        rfl
      · rw [parityMiss, raise_only, raise_only 0x162]
        exact (tget_bump ..).trans (if_pos rfl)
      · exact raise_keeps_causes 0xC0 (show (raise 0x162 (hlthCnt 1 s)).evt.cause.testBit 0x162 = true from raise_sets he)
      · refine raise_sets ?_
        rw [raise_only]
        exact he

end Sys2Proof.Proofs
end

section
/-!
PROOFS. The firewall and the dumps (R515-R521, R538-R542).
-/
namespace Sys2Proof.Proofs
open Machine Safety Laws

/-! What a frozen master leaves undone (R520). -/

/-- The firewall as it was, and no cause bit lost. -/
structure Freezes (s t : State) : Prop where
  fwall : t.fwall = s.fwall
  causes : KeepsCauses s t

theorem Freezes.refl (s : State) : Freezes s s := ⟨rfl, .refl s⟩

theorem Freezes.trans {s t u : State} (h : Freezes s t) (k : Freezes t u) : Freezes s u := ⟨k.fwall.trans h.fwall, h.causes.trans k.causes⟩

theorem Freezes.foldl {α : Type} {f : State → α → State} (hf : ∀ s x, Freezes s (f s x)) (l : List α) (s : State) : Freezes s (l.foldl f s) := by
  induction l generalizing s with
  | nil => exact .refl s
  | cons x l ih => exact (hf s x).trans (ih _)

theorem freezes_beside {s t : State} (hw : t.fwall = s.fwall := by exact rfl) (he : t.evt = s.evt := by exact rfl) : Freezes s t :=
  ⟨hw, keepsCauses_beside he⟩

theorem freezes_raise (n : Nat) (s : State) : Freezes s (raise n s) := ⟨by rw [raise_only], keepsCauses_raise n s⟩

theorem EndsFrames.freezes {s t : State} (h : EndsFrames s t) : Freezes s t := by
  obtain ⟨_, _, _, hb⟩ := h.blocks
  exact ⟨congrArg (·.fwall) hb, ⟨h.causes⟩⟩

theorem freezes_noBuffer (p : Nat) (s : State) : Freezes s (noBuffer p s) := (endsFrames_abortFrame ..).freezes.trans (freezes_raise ..)

theorem ReachesCamps.freezes {s t : State} (h : ReachesCamps s t) : Freezes s t := by
  obtain ⟨_, _, rfl⟩ := h
  exact freezes_beside

theorem LinkTells.freezes {s t : State} (h : LinkTells s t) : Freezes s t := by
  obtain ⟨_, _, _, _, _, _, _, _, hb⟩ := h.blocks
  exact ⟨congrArg (·.fwall) hb, ⟨h.causes⟩⟩

theorem freezes_takeDown (p : Nat) (s : State) : Freezes s (takeDown p s) := by
  by_cases hu : (portOf s p).state = 2
  · have hc : Freezes s (portCnt p 7 (withPort p (fun q => { q with state := 0, lock := false, matched := false }) s)) := freezes_beside
    exact (hc.trans (freezes_raise 0x111 _)).trans (takeDown_tells hu).freezes
  · rw [takeDown_quiet hu]
    exact freezes_beside

theorem freezes_freezeEffect (m : Nat) (s : State) : Freezes s (freezeEffect m s) := by
  unfold freezeEffect
  split
  · exact freezes_beside
  split
  · exact freezes_beside
  split
  · exact .refl s
  split
  · refine .foldl (fun s p => ?_) _ s
    split
    · split
      · split
        · exact freezes_noBuffer ..
        · exact .refl s
      · exact .refl s
    · exact .refl s
  split
  · exact .foldl (fun s (e : Nat × CampSt) => (reachesCamps_pauseCamp e.1 s).freezes) _ s
  split
  · exact .refl s
  · exact freezes_takeDown ..

theorem freezeEffect_core {m : Nat} (hm : m < 10) (s : State) : (freezeEffect m s).sys = s.sys := by
  rw [freezeEffect, if_pos hm]
  rfl

/-! Violations (R515-R521). -/

theorem violation_none {m a : Nat} {w : Bool} {s : State} (h : 35 < m ∨ s.fwall.frozen.contains m = true ∨ fwallAllows s m a w = true) :
    violation m a w s = s := by
  refine if_pos ?_
  simpa [or_assoc] using h

/-- The record of an access. -/
def violationRecord (m a : Nat) (isWrite : Bool) (s : State) : FwRec :=
  { master := m, addr := a % 2 ^ 48, isWrite := isWrite,
    region := match decidingRegion s a with
      | some (i, _) => i
      | none => 127 }

/-- The firewall with master m frozen, before its record is queued. -/
def masterFrozen (m : Nat) (s : State) : State :=
  withFwall (fun f => { f with
    frozen := f.frozen ++ [m], ownerReset := f.ownerReset.filter (· ≠ m), violations := satInc f.violations }) s

/-- The state once an access is recorded and its event raised. -/
def violationTold (m a : Nat) (isWrite : Bool) (s : State) : State := raise 0x150 (pushRecord (violationRecord m a isWrite s) (masterFrozen m s))

theorem violation_freezes {m a : Nat} {w : Bool} {s : State} (hm : m ≤ 35) (hf : s.fwall.frozen.contains m = false)
    (ha : fwallAllows s m a w = false) : violation m a w s =
      let t := freezeEffect m (violationTold m a w s)
      if m = recoveryCore t then fatal 2 m t else t := by
  refine if_neg ?_
  simp only [hf, ha, Bool.or_false, decide_eq_true_eq]
  omega

theorem pushRecord_room {r : FwRec} {s : State} (h : s.fwall.records.length < 8) :
    pushRecord r s = withFwall (fun f => { f with records := f.records ++ [r] }) s := if_neg (by omega)

theorem pushRecord_full {r : FwRec} {s : State} (h : 8 ≤ s.fwall.records.length) : pushRecord r s = raise 0x151 s := if_pos h

/-- A record reaches the queue or an event, and no routing. -/
theorem pushRecord_only (r : FwRec) (s : State) : ∃ l e, pushRecord r s = { s with fwall := { s.fwall with records := l }, evt := e } ∧
    e.srcCfg = s.evt.srcCfg ∧ (s.fwall.records.length < 8 → l = s.fwall.records ++ [r]) ∧ (8 ≤ s.fwall.records.length → l = s.fwall.records) := by
  by_cases h : s.fwall.records.length < 8
  · rw [pushRecord_room h]
    exact ⟨_, s.evt, rfl, rfl, fun _ => rfl, fun h8 => absurd h8 (by omega)⟩
  · obtain ⟨e, he, hc, -⟩ := raise_evt 0x151 s
    rw [pushRecord_full (by omega), he]
    exact ⟨s.fwall.records, e, rfl, hc, fun h8 => absurd h8 h, fun _ => rfl⟩

/-- The firewall once an access is recorded. -/
theorem violationTold_only (m a : Nat) (w : Bool) (s : State) : ∃ l e, violationTold m a w s = { s with
    evt := e, fwall := { s.fwall with
      frozen := s.fwall.frozen ++ [m], ownerReset := s.fwall.ownerReset.filter (· ≠ m), violations := satInc s.fwall.violations, records := l } } ∧
    (s.fwall.records.length < 8 → l = s.fwall.records ++ [violationRecord m a w s]) ∧ (8 ≤ s.fwall.records.length → l = s.fwall.records) ∧
    ((srcCfgOf s 0x150).enable = true → e.cause.testBit 0x150 = true) := by
  obtain ⟨l, e, hp, hc, hroom, hfull⟩ := pushRecord_only (violationRecord m a w s) (masterFrozen m s)
  have hs (he : (srcCfgOf s 0x150).enable = true) : (violationTold m a w s).evt.cause.testBit 0x150 = true := by
    refine raise_sets ?_
    rw [hp]
    have hr : srcCfgOf { masterFrozen m s with fwall := { (masterFrozen m s).fwall with records := l }, evt := e } 0x150 = srcCfgOf s 0x150 := by
      simp only [srcCfgOf, hc]
      rfl
    rw [hr]
    exact he
  obtain ⟨e', he', -⟩ := raise_evt 0x150 (pushRecord (violationRecord m a w s) (masterFrozen m s))
  have ht : violationTold m a w s = _ := he'
  rw [ht] at hs ⊢
  rw [hp]
  exact ⟨l, e', rfl, hroom, hfull, hs⟩

/-- The recovery core stops the part; no other master does more than its own freeze. -/
theorem violation_reaches {m a : Nat} {w : Bool} {s : State} (hm : m ≤ 35) (hf : s.fwall.frozen.contains m = false)
    (ha : fwallAllows s m a w = false) : Freezes (violationTold m a w s) (violation m a w s) := by
  rw [violation_freezes hm hf ha]
  extract_lets t
  have ht : Freezes (violationTold m a w s) t := freezes_freezeEffect ..
  split
  · exact ht.trans ⟨(fatal_reaches ..).fwall, (fatal_reaches ..).causes⟩
  · exact ht

theorem violation_recovery {m a : Nat} {w : Bool} {s : State} (hm : m < 10) (hf : s.fwall.frozen.contains m = false)
    (ha : fwallAllows s m a w = false) (hr : m = recoveryCore s) (hs : s.sys.devState = .run) : HaltedBy 2 (violation m a w s) := by
  obtain ⟨l, e, ht, -⟩ := violationTold_only m a w s
  have hsys := freezeEffect_core hm (violationTold m a w s)
  have hcore : recoveryCore (freezeEffect m (violationTold m a w s)) = recoveryCore s := by
    rw [freezeEffect, if_pos hm, ht]
    rfl
  rw [violation_freezes (by omega) hf ha]
  dsimp only
  rw [hcore, if_pos hr]
  exact fatal_halts (by rw [hsys, ht]; exact hs) 2 m

theorem ownerReset_none {m : Nat} {s : State} (h : s.fwall.frozen.contains m = false ∨ s.fwall.ownerReset.contains m = true) :
    ownerReset m s = s := by
  refine if_pos ?_
  simpa using h

theorem ownerReset_notes {m : Nat} {s : State} (hf : s.fwall.frozen.contains m = true) (ho : s.fwall.ownerReset.contains m = false) :
    ownerReset m s = { s with fwall := { s.fwall with ownerReset := s.fwall.ownerReset ++ [m] } } := by
  refine if_neg ?_
  rw [hf, ho]
  decide

/-! Commands on the firewall (R516, R521, R542). -/

section
variable {h : Hdr} (p : DiagUnfreezeP) {s : State}

theorem diagUnfreeze_none (hf : s.fwall.frozen.contains (h.flow - 0x100) = false) : diagUnfreeze h p s = done s (le 1 0) := by
  refine if_pos ?_
  rw [hf]
  rfl

theorem diagUnfreeze_early (hf : s.fwall.frozen.contains (h.flow - 0x100) = true) (ho : s.fwall.ownerReset.contains (h.flow - 0x100) = false) :
    diagUnfreeze h p s = refuse s stBusy := by
  rw [diagUnfreeze]
  dsimp only
  rw [if_neg (by rw [hf]; decide), if_pos (by rw [ho]; rfl)]

/-- Master m released. -/
def masterReleased (m : Nat) (s : State) : State :=
  withFwall (fun f => { f with frozen := f.frozen.filter (· ≠ m), ownerReset := f.ownerReset.filter (· ≠ m) }) s

/-- Whether the release of master m lets its Dalhiuf port train again. -/
def retrains (m : Nat) (s : State) : Bool :=
  let q := portOf s (m - 33)
  33 ≤ m && q.enable && q.lock && !q.held && q.state = 0

theorem diagUnfreeze_releases (hf : s.fwall.frozen.contains (h.flow - 0x100) = true) (ho : s.fwall.ownerReset.contains (h.flow - 0x100) = true) :
    diagUnfreeze h p s = done (if retrains (h.flow - 0x100) s then withPort (h.flow - 0x100 - 33) (fun x => { x with state := 1 })
      (masterReleased (h.flow - 0x100) s) else masterReleased (h.flow - 0x100) s) (le 1 1) := by
  rw [diagUnfreeze]
  dsimp only
  rw [if_neg (by rw [hf]; decide), if_neg (by rw [ho]; decide)]
  rfl

end

/-- The region and the base and size DIAG_FW_REGION takes. -/
def FwRegionOk (p : DiagFwRegionP) : Prop := 16 ≤ p.region ∧ p.region ≤ 63
def FwRangeOk (p : DiagFwRegionP) : Prop := p.base % 4096 = 0 ∧ p.base < 2 ^ 48 ∧ p.size % 4096 = 0 ∧ 4096 ≤ p.size ∧ p.size ≤ 2 ^ 34

/-- Region p.region set. -/
def regionPut (p : DiagFwRegionP) (r : FwRegion) (s : State) : State := withFwall (fun f => { f with regions := tput f.regions p.region r }) s

theorem diagFwRegion_bad (h : Hdr) {p : DiagFwRegionP} (s : State) (hn : ¬ FwRegionOk p ∨ 1 < p.op) : diagFwRegion h p s = refuse s stBadParam := by
  refine if_pos ?_
  simp only [Bool.or_eq_true, decide_eq_true_eq]
  unfold FwRegionOk at hn
  omega

theorem diagFwRegion_inRange (h : Hdr) {p : DiagFwRegionP} (s : State) (hp : FwRegionOk p) (ho : p.op ≤ 1) : diagFwRegion h p s =
    if p.op = 0 then done (regionPut p { tget {} s.fwall.regions p.region with enable := false } s)
    else if p.base % 4096 ≠ 0 || 2 ^ 48 ≤ p.base || p.size % 4096 ≠ 0 || p.size < 4096 || 2 ^ 34 < p.size then refuse s stBadParam
    else done (regionPut p { base := p.base, pages := p.size / 4096, read := p.readGroups, write := p.writeGroups, enable := true } s) := by
  refine if_neg ?_
  simp only [Bool.or_eq_true, decide_eq_true_eq]
  unfold FwRegionOk at hp
  omega

theorem diagFwRegion_disables (h : Hdr) {p : DiagFwRegionP} (s : State) (hp : FwRegionOk p) (ho : p.op = 0) : diagFwRegion h p s =
    done (regionPut p { tget {} s.fwall.regions p.region with enable := false } s) := by
  rw [diagFwRegion_inRange h s hp (by omega), if_pos ho]

theorem diagFwRegion_badRange (h : Hdr) {p : DiagFwRegionP} (s : State) (hp : FwRegionOk p) (ho : p.op = 1) (hn : ¬ FwRangeOk p) :
    diagFwRegion h p s = refuse s stBadParam := by
  rw [diagFwRegion_inRange h s hp (by omega), if_neg (by omega), if_pos]
  simp only [Bool.or_eq_true, decide_eq_true_eq]
  unfold FwRangeOk at hn
  omega

theorem diagFwRegion_sets (h : Hdr) {p : DiagFwRegionP} (s : State) (hp : FwRegionOk p) (ho : p.op = 1) (hr : FwRangeOk p) : diagFwRegion h p s =
    done (regionPut p { base := p.base, pages := p.size / 4096, read := p.readGroups, write := p.writeGroups, enable := true } s) := by
  rw [diagFwRegion_inRange h s hp (by omega), if_neg (by omega), if_neg]
  simp only [Bool.or_eq_true, decide_eq_true_eq]
  unfold FwRangeOk at hr
  omega

/-! DIAG_DUMP_READ (R538, R542). -/

theorem reporting_iff (s : State) : reporting s = true ↔ s.sys.devState = .run ∨ s.sys.devState = .init := by
  simp [reporting]

/-- The fields DIAG_DUMP_READ takes. -/
def DumpReadOk (p : DiagDumpReadP) : Prop := p.op ≤ 1 ∧ p.src ≤ 2 ∧ p.len ≤ 16384

theorem diagDumpRead_bad (h : Hdr) {p : DiagDumpReadP} (s : State) (hn : 1 < p.op ∨ 2 < p.src ∨ 16384 < p.len) :
    diagDumpRead h p s = refuse s stBadParam := by
  refine if_pos ?_
  simpa [or_assoc] using hn

/-- The reply of a read from the dump that its source holds. -/
def dumpReply (p : DiagDumpReadP) (s : State) : Option DumpRec → Res
  | none => done s (zeros 8)
  | some d =>
    let l := ((d.bytes.take d.length).drop p.offset).take p.len
    done (toHost p.bufferAddr l s) (le 4 l.length ++ le 4 d.length)

/-- The source as a release leaves it. -/
def dumpReleased (p : DiagDumpReadP) (s : State) : State :=
  if p.src = 0 then withDump (fun d => { d with dram := none }) s else withFlash (fun f => { f with dumps := tdel f.dumps (p.src - 1) }) s

theorem diagDumpRead_inRange (h : Hdr) {p : DiagDumpReadP} (s : State) (hp : DumpReadOk p) : diagDumpRead h p s =
    if p.src = 0 && !reporting s then refuse s stBusy else if p.op = 1 then done (dumpReleased p s) (zeros 8) else dumpReply p s (dumpAt s p.src) := by
  refine (if_neg ?_).trans ?_
  · simp only [Bool.or_eq_true, decide_eq_true_eq]
    unfold DumpReadOk at hp
    omega
  · rfl

/-- Before INIT the DRAM dump cannot be read (R538). -/
theorem diagDumpRead_early (h : Hdr) {p : DiagDumpReadP} {s : State} (hp : DumpReadOk p) (h0 : p.src = 0) (hr : ¬ reporting s = true) :
    diagDumpRead h p s = refuse s stBusy := by
  rw [diagDumpRead_inRange h s hp, if_pos (by simp [h0, hr])]

theorem diagDumpRead_reads (h : Hdr) {p : DiagDumpReadP} {s : State} (hp : DumpReadOk p) (hr : p.src = 0 → reporting s = true) :
    diagDumpRead h p s = if p.op = 1 then done (dumpReleased p s) (zeros 8) else dumpReply p s (dumpAt s p.src) := by
  rw [diagDumpRead_inRange h s hp, if_neg (by simpa using hr)]

/-- Settles O59: a violation by its record and what freezing leaves undone, each command by the form its fields choose. -/
theorem firewallAndDumps : Obligations.FirewallAndDumps := by
  intro h s w
  refine ⟨fun m a write hn => congrArg Host.Outcome.next (violation_none hn), fun m a write hm hf ha => ⟨_, rfl, ?violation⟩,
    fun m => ⟨fun hn => congrArg Host.Outcome.next (ownerReset_none hn), fun hf ho => congrArg Host.Outcome.next (ownerReset_notes hf ho)⟩,
    fun p hr => ?unfreeze, fun p hr => ?region, fun p hr => ?dump⟩
  case violation =>
    obtain ⟨hw, hk⟩ := violation_reaches hm hf ha
    have hx (hm : m < 10) := violation_recovery (m := m) (a := a) (w := write) hm hf ha
    obtain ⟨l, e, ht, hroom, hfull, he⟩ := violationTold_only m a write s
    rw [ht] at hw hk
    generalize violation m a write s = t at hw hk hx ⊢
    refine ⟨congrArg (·.frozen) hw, by rw [hw]; simp, congrArg (·.violations) hw, congrArg (·.regions) hw, fun hc => hk.kept _ (he hc),
      fun hl => ⟨_, (congrArg (·.records) hw).trans (hroom hl), rfl, rfl, rfl⟩, fun hl => (congrArg (·.records) hw).trans (hfull hl),
      fun h10 hc hs => ⟨(hx h10 hc hs).devState, (hx h10 hc hs).haltCause⟩⟩
  case unfreeze =>
    intro m
    refine ⟨fun hf => agentRun_answers hr _ (diagUnfreeze_none p hf) rfl rfl rfl rfl, fun hf ho => agentRun_refuses hr (diagUnfreeze_early p hf ho),
      fun hf ho => ?_⟩
    have hx := diagUnfreeze_releases p (s := inFlightWith h (.diagUnfreeze p) s) hf ho
    split at hx
    · next ht =>
      refine ⟨_, agentRun_answers hr _ hx rfl rfl rfl rfl, rfl, fun h33 => ?_, fun _ _ _ _ _ => ?_⟩
      · have hm : 33 ≤ m := by
          simp only [retrains, Bool.and_eq_true, decide_eq_true_eq] at ht
          exact ht.1.1.1.1
        omega
      · exact congrArg (·.state) ((portOf_withPort ..).trans (if_pos rfl))
    · next ht =>
      refine ⟨_, agentRun_answers hr _ hx rfl rfl rfl rfl, rfl, fun _ => rfl, fun h33 he hl hh h0 => absurd ?_ ht⟩
      have hq : portOf (inFlightWith h (.diagUnfreeze p) s) (m - 33) = portOf s (m - 33) := rfl
      simp only [retrains, Bool.and_eq_true, decide_eq_true_eq]
      rw [hq]
      exact ⟨⟨⟨⟨h33, he⟩, hl⟩, by rw [hh]; rfl⟩, h0⟩
  case region =>
    intro refused put ok range
    exact ⟨fun hn => agentRun_refuses hr (diagFwRegion_bad h _ hn), fun hp ho => agentRun_answers hr _ (diagFwRegion_disables h _ hp ho) rfl rfl rfl rfl,
      fun hp ho hn => agentRun_refuses hr (diagFwRegion_badRange h _ hp ho hn),
      fun hp ho hg => agentRun_answers hr _ (diagFwRegion_sets h _ hp ho hg) rfl rfl rfl rfl⟩
  case dump =>
    intro refused ok from'
    let u := inFlightWith h (.diagDumpRead p) s
    have hreads (hp : ok) := diagDumpRead_reads h (s := u) ⟨hp.1, hp.2.1, hp.2.2.1⟩ fun h0 => (reporting_iff _).mpr (hp.2.2.2 h0)
    refine ⟨fun hn => agentRun_refuses hr (diagDumpRead_bad h u hn), fun ho h0 hl hrun hinit => agentRun_refuses hr
      (diagDumpRead_early h (s := u) ⟨ho, by omega, hl⟩ h0 fun hx => ((reporting_iff _).mp hx).elim hrun hinit), fun hp ho => ?release,
      fun hp ho hd => ?none, fun r hp ho hd => ?some⟩
    case release =>
      have hx := (hreads hp).trans (if_pos ho)
      unfold dumpReleased at hx
      split at hx <;> rename_i h0
      · rw [if_pos h0, if_pos h0]
        exact agentRun_answers hr _ hx rfl rfl rfl rfl
      · rw [if_neg h0, if_neg h0]
        exact agentRun_answers hr _ hx rfl rfl rfl rfl
    case none =>
      have hx := (hreads hp).trans (if_neg (by omega))
      rw [show dumpAt u p.src = none from hd] at hx
      exact agentRun_answers hr _ hx rfl rfl rfl rfl
    case some =>
      intro l
      have hx := (hreads hp).trans (if_neg (by omega))
      rw [show dumpAt u p.src = some r from hd] at hx
      have ht : dumpReply p u (some r) = done { u with hostMem := outputAt p.bufferAddr l u } (le 4 l.length ++ le 4 r.length) :=
        congrArg (done · _) (toHost_outputAt ..)
      exact agentRun_answers hr _ (hx.trans ht) rfl rfl rfl rfl

end Sys2Proof.Proofs
end

section
/-!
PROOFS. Self-tests, loop-backs, patterns, the TAP and queue flushes (R491, R492, R543-R558).
-/
namespace Sys2Proof.Proofs
open Machine Safety Laws

/-! Commands that change HIF beside their reply. -/

/-- A command whose meaning leaves the commands in flight and the counter as they were is answered; the rest of HIF is as the meaning left it. -/
theorem agentRun_joins {h : Hdr} {c : Cmd} {run : State → Res} {s : State} (hr : Ready h c s) (r : Res) (he : run (inFlightWith h c s) = r)
    (hf : r.st.hif.flights = (inFlightWith h c s).hif.flights) (hc : r.st.time.c = s.time.c) (ha : r.again = false) (hw : r.wait = false) :
    agentRun h c run s =
      .next { r.st with hif := { r.st.hif with flights := s.hif.flights ++ [doneFlight h c r.status r.info r.data s] } } := by
  have hfl : r.st.hif.flights = s.hif.flights ++ [newFlight h c s] := hf
  rw [agentRun_ready hr, he]
  simp only [complete, withHif, modFirst_append_new _ _ (not_isFor (c := c) hr.2.1) (isFor_new h c s), ha, hw, hfl]
  simp [doneFlight, newFlight, fwTick, hc]

/-! A test that starts (R543, R544). -/

/-- The test block as a test's start leaves it. -/
def startedTest (r : TestRun) (j : Nat) (t : TestSt) : TestSt :=
  { t with
    run := some { r with job := j }, last := none, sent := 0, received := 0, errors := 0, bistFail := 0, engFail := 0, finalStatus := stPending,
    lastRl := 0 }

theorem startTest_starts (r : TestRun) (s : State) : startTest r s =
    { st := { s with free := s.free + 1, test := startedTest r (freshJob s) s.test }, status := stPending, info := freshJob s } := rfl

/-- The port of a test is held and has no link. -/
def PortHeld (n : Nat) (t : State) : Prop :=
  (n = 4 ∨ n = 5 → (ethOf t (n - 4)).held = true ∧ (ethOf t (n - 4)).link = false) ∧
    (6 ≤ n → n ≤ 8 → (portOf t (n - 6)).held = true ∧ (portOf t (n - 6)).state = 0)

/-- What taking a port DOWN for a test keeps, and what it leaves (R548, R549). -/
structure HoldsPort (n : Nat) (s t : State) : Prop where
  flights : t.hif.flights = s.hif.flights
  clock : t.time.c = s.time.c
  test : t.test = s.test
  port : PortHeld n t
  pcie : n = 9 → t.pcie.held = true

/-- An Ethernet port held for a test. -/
def ethHeld (p : EthPort) : EthPort := { p with link := false, held := true }

theorem holdPort_eth {n : Nat} (h4 : 4 ≤ n) (h6 : n < 6) (s : State) : HoldsPort n s (holdPort n s) := by
  obtain ⟨e, he⟩ := raiseIf_evt (ethOf s (n - 4)).link (0x128 + (n - 4)) (withEthP (n - 4) ethHeld s)
  have hp : holdPort n s = { withEthP (n - 4) ethHeld s with evt := e } := (if_pos h6).trans he
  have hx : ethOf (holdPort n s) (n - 4) = ethHeld (ethOf s (n - 4)) := by
    rw [hp]
    exact ethOf_withEthP_same (n - 4) ethHeld s
  refine ⟨by rw [hp]; rfl, by rw [hp]; rfl, by rw [hp]; rfl, ⟨fun _ => ?_, fun h => absurd h (by omega)⟩, fun h => absurd h (by omega)⟩
  rw [hx]
  exact ⟨rfl, rfl⟩

theorem holdPort_link {n : Nat} (h6 : 6 ≤ n) (h9 : n < 9) (s : State) : HoldsPort n s (holdPort n s) := by
  have hp : holdPort n s = withPort (n - 6) (fun q => { q with held := true }) (takeDown (n - 6) s) := (if_neg (by omega)).trans (if_pos h9)
  obtain ⟨hb, hc, hport, -, -⟩ := takeDown_takes (n - 6) s
  generalize takeDown (n - 6) s = t at hp hb hc hport
  obtain ⟨_, _, _, _, _, _, _, _, hb⟩ := hb
  have hx : portOf (holdPort n s) (n - 6) = { portOf t (n - 6) with held := true } := by
    rw [hp, portOf_withPort, if_pos rfl]
  refine ⟨by rw [hp, withPort, hb]; rfl, by rw [hp]; exact hc, by rw [hp, withPort, hb]; rfl, ⟨fun h => by omega, fun _ _ => ?_⟩, fun h => by omega⟩
  rw [hx, hport]
  exact ⟨rfl, rfl⟩

theorem holdPort_pcie (s : State) : HoldsPort 9 s (holdPort 9 s) := ⟨rfl, rfl, rfl, ⟨fun h => by omega, fun _ h => by omega⟩, fun _ => rfl⟩

theorem holdPort_holds {n : Nat} (h4 : 4 ≤ n) (h9 : n ≤ 9) (s : State) : HoldsPort n s (holdPort n s) := by
  rcases (by omega : n < 6 ∨ (6 ≤ n ∧ n < 9) ∨ n = 9) with h | h | rfl
  · exact holdPort_eth h4 h s
  · exact holdPort_link h.1 h.2 s
  · exact holdPort_pcie s

/-- A command that is answered with the job of the test it starts. -/
def Accepts (h : Hdr) (c : Cmd) (o : Host.Outcome State Fault Refusal) (r : TestRun) (s : State) : Prop :=
  ∃ t j, o = .next t ∧ doneFlight h c stPending j [] s ∈ t.hif.flights ∧ t.test.run = some { r with job := j } ∧ t.test.last = none ∧
    t.test.finalStatus = stPending

/-- A test of a port is accepted, and its port held. -/
theorem startTest_accepted {h : Hdr} {c : Cmd} {run : State → Res} {s : State} {n : Nat} {r : TestRun} (hr : Ready h c s) (h4 : 4 ≤ n) (h9 : n ≤ 9)
    (he : run (inFlightWith h c s) = startTest r (holdPort n (inFlightWith h c s))) :
    Accepts h c (agentRun h c run s) r s ∧ ∀ t, agentRun h c run s = .next t → PortHeld n t ∧ (n = 9 → t.pcie.held = true) := by
  obtain ⟨hf, hc, ht, hp, hpcie⟩ := holdPort_holds h4 h9 (inFlightWith h c s)
  have hx := agentRun_joins hr _ (he.trans (startTest_starts ..)) hf hc rfl rfl
  refine ⟨⟨_, _, hx, List.mem_append_right _ (List.mem_singleton_self _), rfl, rfl, rfl⟩, fun t ht => ?_⟩
  rw [hx] at ht
  injection ht with ht
  subst ht
  exact ⟨hp, hpcie⟩

/-! The chain of a test (R545, R546, R553). -/

theorem isIdleTwin_iff (s : State) : isIdleTwin s = true ↔ s.twin.configured = true ∧ gateHeld s = false := by simp [isIdleTwin]

/-- The run of a chain while the slot engine runs: it begins in the first slot that has no plan. -/
def slottedRun (r : TestRun) (s : State) : TestRun :=
  { r with fromAsn := firstUnbuilt s, slots := cdiv (1000 * r.durationMs) s.slot.slotLenUs }

/-- The lane a loop-back listens on, taken. -/
def laneTaken (l : Option Nat) (s : State) : State :=
  match l with
  | some p => withPhys p (fun x => { x with role := some 2, logical := some 0 }) s
  | none => s

theorem laneTaken_only (l : Option Nat) (s : State) : ∃ lane, laneTaken l s = { s with lane := lane } := by
  cases l with
  | none => exact ⟨s.lane, rfl⟩
  | some p => exact ⟨_, rfl⟩

theorem startChain_waits {r : TestRun} {s : State} (hs : s.slot.running = true) :
    ∃ lane, startChain r s = startTest (slottedRun r s) { s with lane := lane } := by
  obtain ⟨lane, hl⟩ := laneTaken_only r.lane s
  refine ⟨lane, ?_⟩
  have hc : startChain r s = (let x := startTest { r with
      fromAsn := firstUnbuilt (laneTaken r.lane s), slots := testSlots (laneTaken r.lane s) r.durationMs } (laneTaken r.lane s)
    if (laneTaken r.lane s).slot.running then x else { x with st := beginTest x.st }) := by
    unfold startChain laneTaken
    cases r.lane <;> rfl
  rw [hc, hl]
  dsimp only
  rw [if_pos hs, testSlots, if_pos hs]
  rfl

theorem startChain_accepted {h : Hdr} {c : Cmd} {run : State → Res} {s : State} {r : TestRun} (hr : Ready h c s) (hs : s.slot.running = true)
    (he : run (inFlightWith h c s) = startChain r (inFlightWith h c s)) : Accepts h c (agentRun h c run s) (slottedRun r s) s := by
  obtain ⟨lane, hx⟩ := startChain_waits (r := r) (s := inFlightWith h c s) hs
  exact ⟨_, _, agentRun_joins hr _ ((he.trans hx).trans (startTest_starts ..)) rfl rfl rfl rfl,
    List.mem_append_right _ (List.mem_singleton_self _), rfl, rfl, rfl⟩

theorem noSpareLane {s : State} (hq : ∀ q < 104, roleOf s q ≠ 1) : (List.range 104).find? (fun q => roleOf s q = 1) = none := by
  simpa [List.find?_eq_none, List.mem_range] using hq

/-! TEST_LOOPBACK (R545). -/

/-- The fields TEST_LOOPBACK takes. -/
def LoopbackOk (p : TestLoopbackP) : Prop :=
  p.target ≤ 9 ∧ depthOk p.target p.depth = true ∧ p.pattern ≤ 2 ∧ 16 ≤ p.frameLen ∧ p.frameLen ≤ 2047 ∧ 1 ≤ p.durationMs ∧ p.durationMs ≤ 60000

/-- A loop-back that goes over the air or the line. -/
def Radiates (p : TestLoopbackP) : Prop := p.depth = 3 ∨ (p.target < 4 ∧ p.depth = 2)

/-- The test a loop-back asks for. -/
def loopbackRun (p : TestLoopbackP) (started : Bool) : TestRun :=
  { kind := 1, target := p.target, depth := p.depth, pattern := p.pattern, frameLen := p.frameLen, durationMs := p.durationMs, channel := p.channel,
    phy := p.phyMode, power := p.powerHdbm, started := started }

section
variable (h : Hdr) {p : TestLoopbackP} {s : State} (hn : s.test.run = none)
include hn

theorem testLoopback_bad (hp : ¬ LoopbackOk p) : testLoopback h p s = refuse s stBadParam := by
  rw [testLoopback, if_neg (by simp [hn]), if_pos]
  simp only [Bool.or_eq_true, Bool.not_eq_true', decide_eq_true_eq]
  unfold LoopbackOk at hp
  have hd := Bool.eq_false_or_eq_true (depthOk p.target p.depth)
  by_contra hc
  refine hp ⟨by omega, ?_, by omega, by omega, by omega, by omega, by omega⟩
  rcases hd with hd | hd
  · exact hd
  · exact absurd (.inl (.inl (.inl (.inl (.inl (.inr hd)))))) hc

variable (hp : LoopbackOk p)
include hp

/-- What comes after the fields have been checked. -/
theorem testLoopback_inRange : testLoopback h p s =
    if (p.depth = 3 || (p.target < 4 && p.depth = 2)) && isIdleTwin s then refuse s stStandby
    else if p.target < 4 then
      if chainRefusal s p.target p.phyMode p.channel ≠ stOk then refuse s (chainRefusal s p.target p.phyMode p.channel)
      else ((List.range 104).find? (fun q => roleOf s q = 1)).elim (refuse s stBusy)
        (fun q => startChain { loopbackRun p (4 ≤ p.target) with lane := some q } s)
    else if p.target = 8 && (portOf s 2).role = 1 then refuse s stBusy
    else if p.target = 9 && h.qp < 64 then refuse s stBusy
    else startTest (loopbackRun p (4 ≤ p.target)) (holdPort p.target s) := by
  obtain ⟨ht, hd, hpat, hf, hf', hms, hms'⟩ := hp
  rw [testLoopback, if_neg (by simp [hn]), if_neg (by simp [hd]; omega)]
  cases (List.range 104).find? (fun q => roleOf s q = 1) <;> rfl

theorem testLoopback_standby (hr : Radiates p) (hi : isIdleTwin s = true) : testLoopback h p s = refuse s stStandby := by
  rw [testLoopback_inRange h hn hp, if_pos]
  simpa [hi, Radiates] using hr

variable (hr : ¬ (Radiates p ∧ isIdleTwin s = true))
include hr

theorem testLoopback_chain (ht : p.target < 4) : testLoopback h p s =
    if chainRefusal s p.target p.phyMode p.channel ≠ stOk then refuse s (chainRefusal s p.target p.phyMode p.channel)
    else ((List.range 104).find? (fun q => roleOf s q = 1)).elim (refuse s stBusy)
      (fun q => startChain { loopbackRun p false with lane := some q } s) := by
  rw [testLoopback_inRange h hn hp, if_neg (by simpa [Radiates] using hr), if_pos ht, decide_eq_false (by omega : ¬ 4 ≤ p.target)]

theorem testLoopback_port (ht : 4 ≤ p.target) : testLoopback h p s =
    if p.target = 8 && (portOf s 2).role = 1 then refuse s stBusy
    else if p.target = 9 && h.qp < 64 then refuse s stBusy
    else startTest (loopbackRun p true) (holdPort p.target s) := by
  rw [testLoopback_inRange h hn hp, if_neg (by simpa [Radiates] using hr), if_neg (by omega), decide_eq_true ht]

theorem testLoopback_portBusy (hb : (p.target = 8 ∧ (portOf s 2).role = 1) ∨ (p.target = 9 ∧ h.qp < 64)) :
    testLoopback h p s = refuse s stBusy := by
  rw [testLoopback_port h hn hp hr (by omega)]
  rcases hb with hb | hb
  · exact if_pos (by simpa using hb)
  · exact (if_neg (by simp [hb.1])).trans (if_pos (by simpa using hb))

theorem testLoopback_portStarts (ht : 4 ≤ p.target) (h8 : ¬ (p.target = 8 ∧ (portOf s 2).role = 1)) (h9 : p.target = 9 → 64 ≤ h.qp) :
    testLoopback h p s = startTest (loopbackRun p true) (holdPort p.target s) := by
  rw [testLoopback_port h hn hp hr ht, if_neg (by simpa using h8), if_neg (by simpa using h9)]

end

/-! TEST_PATTERN (R553). -/

/-- The fields TEST_PATTERN takes. -/
def PatternOk (p : TestPatternP) : Prop :=
  p.target ≤ 8 ∧ p.pattern ≤ 4 ∧ (p.target < 4 → p.pattern ≤ 2) ∧ (4 ≤ p.target → 3 ≤ p.pattern) ∧ 1 ≤ p.durationMs ∧ p.durationMs ≤ 60000 ∧
    (p.pattern = 2 → 10 ≤ p.toneKhz ∧ p.toneKhz ≤ 500)

/-- The test a pattern asks for. -/
def patternRun (p : TestPatternP) (started : Bool) : TestRun :=
  { kind := 3, target := p.target, pattern := p.pattern, durationMs := p.durationMs, channel := p.channel, phy := p.phyMode, power := p.powerHdbm,
    started := started }

section
variable (h : Hdr) {p : TestPatternP} {s : State} (hn : s.test.run = none)
include hn

theorem testPattern_bad (hp : ¬ PatternOk p) : testPattern h p s = refuse s stBadParam := by
  rw [testPattern, if_neg (by simp [hn]), if_pos]
  simp only [Bool.or_eq_true, Bool.and_eq_true, decide_eq_true_eq]
  unfold PatternOk at hp
  omega

variable (hp : PatternOk p)
include hp

theorem testPattern_inRange : testPattern h p s =
    if isIdleTwin s then refuse s stStandby
    else if p.target < 4 then
      if chainRefusal s p.target p.phyMode p.channel ≠ stOk then refuse s (chainRefusal s p.target p.phyMode p.channel)
      else startChain (patternRun p (4 ≤ p.target)) s
    else if p.target = 8 && (portOf s 2).role = 1 then refuse s stBusy
    else startTest (patternRun p (4 ≤ p.target)) (holdPort p.target s) := by
  rw [testPattern, if_neg (by simp [hn]), if_neg]
  · rfl
  · simp only [Bool.or_eq_true, Bool.and_eq_true, decide_eq_true_eq]
    unfold PatternOk at hp
    omega

theorem testPattern_standby (hi : isIdleTwin s = true) : testPattern h p s = refuse s stStandby := by
  rw [testPattern_inRange h hn hp, if_pos hi]

variable (hi : ¬ isIdleTwin s = true)
include hi

theorem testPattern_chain (ht : p.target < 4) : testPattern h p s =
    if chainRefusal s p.target p.phyMode p.channel ≠ stOk then refuse s (chainRefusal s p.target p.phyMode p.channel)
    else startChain (patternRun p false) s := by
  rw [testPattern_inRange h hn hp, if_neg hi, if_pos ht, decide_eq_false (by omega : ¬ 4 ≤ p.target)]

theorem testPattern_portBusy (ht : p.target = 8) (hb : (portOf s 2).role = 1) : testPattern h p s = refuse s stBusy := by
  rw [testPattern_inRange h hn hp, if_neg hi, if_neg (by omega), if_pos (by simpa using ⟨ht, hb⟩)]

theorem testPattern_portStarts (ht : 4 ≤ p.target) (h8 : ¬ (p.target = 8 ∧ (portOf s 2).role = 1)) :
    testPattern h p s = startTest (patternRun p true) (holdPort p.target s) := by
  rw [testPattern_inRange h hn hp, if_neg hi, if_neg (by omega), if_neg (by simpa using h8), decide_eq_true ht]

end

/-! TEST_BIST (R550-R552). -/

/-- Each target of a mask is one the state allows. -/
def BistAllowed (p : TestBistP) (s : State) : Prop := ∀ i < 11, p.mask.testBit i = true → (s.sys.devState = .run ↔ 6 ≤ i)

theorem bistAllowed_iff (i : Nat) (s : State) : bistAllowed s i = true ↔ (s.sys.devState = .run ↔ 6 ≤ i) := by
  unfold bistAllowed
  split
  · next h => simp [h]
  · next h => simp [h]

theorem any_notAllowed (p : TestBistP) (s : State) :
    (List.range 11).any (fun i => bit p.mask i && !bistAllowed s i) = true ↔ ¬ BistAllowed p s := by
  simp only [List.any_eq_true, List.mem_range, Bool.and_eq_true, Bool.not_eq_true', ← Bool.not_eq_true, bistAllowed_iff, BistAllowed, bit]
  push Not
  rfl

section
variable (h : Hdr) {p : TestBistP} {s : State} (hn : s.test.run = none)
include hn

theorem testBist_bad (hm : p.mask = 0 ∨ 2047 < p.mask) : testBist h p s = refuse s stBadParam := by
  rw [testBist, if_neg (by simp [hn]), if_pos (by simpa using hm)]

theorem testBist_inRange (h0 : p.mask ≠ 0) (h1 : p.mask ≤ 2047) : testBist h p s =
    if (List.range 11).any (fun i => bit p.mask i && !bistAllowed s i) then refuse s stBusy
    else if bit p.mask 10 && !bistRangeOk p s then refuse s stBadParam
    else startTest { kind := 2, mask := p.mask, started := true, fromAsn := p.rangeBase / 4096, depth := p.rangeLen / 4096 } s := by
  rw [testBist, if_neg (by simp [hn]), if_neg (by simpa using ⟨h0, h1⟩)]

end

/-! The end of a test (R544, R551). -/

/-- What the end of a test reaches: no event, no reply, no clock, no memory; the test is kept with its final status. -/
theorem endTest_ends {r : TestRun} {s : State} (hr : s.test.run = some r) (status : Nat) : ∃ rfc lane eth lnk pcie, endTest status s = { s with
    rfc := rfc, lane := lane, eth := eth, lnk := lnk, pcie := pcie, test := { s.test with run := none, last := some r, finalStatus := status } } := by
  unfold endTest
  rw [hr]
  dsimp only
  split
  · exact ⟨_, _, _, _, _, rfl⟩
  split
  · unfold freeTestChain
    extract_lets c live held freed
    have hf : ∃ rfc, freed = { withTest (fun t => { t with run := none, last := some r, finalStatus := status }) s with rfc := rfc } := by
      simp only [freed]
      split
      · exact ⟨_, rfl⟩
      · exact ⟨_, rfl⟩
    obtain ⟨rfc, hf⟩ := hf
    rw [hf]
    split
    · exact ⟨_, _, _, _, _, rfl⟩
    · exact ⟨_, _, _, _, _, rfl⟩
  split
  · exact ⟨_, _, _, _, _, rfl⟩
  split
  · exact ⟨_, _, _, _, _, rfl⟩
  · exact ⟨_, _, _, _, _, rfl⟩

theorem testStatus_bad (h : Hdr) {p : TestStatusP} (s : State) (ho : 1 < p.op) : testStatus h p s = refuse s stBadParam := if_pos ho

theorem testStatus_reports (h : Hdr) {p : TestStatusP} {s : State} (ho : p.op = 0 ∨ (p.op = 1 ∧ s.test.run = none)) :
    testStatus h p s = done s (testReply s) := by
  rw [testStatus, if_neg (by omega)]
  rcases ho with ho | ⟨ho, hn⟩
  · simp [ho]
  · simp [hn]

theorem testStatus_aborts (h : Hdr) {p : TestStatusP} {r : TestRun} {s : State} (ho : p.op = 1) (hr : s.test.run = some r) :
    testStatus h p s = done (raise 0x16E (endTest stFlushed s)) (testReply (raise 0x16E (endTest stFlushed s))) := by
  rw [testStatus, if_neg (by omega)]
  simp [ho, hr]

theorem testBit_maskOf (l : List Nat) (n : Nat) : (maskOf l).testBit n = decide (n ∈ l) := by
  have hf (c : Nat) : (l.foldl setBit c).testBit n = (c.testBit n || decide (n ∈ l)) := by
    induction l generalizing c with
    | nil => simp
    | cons b l ih => rw [List.foldl_cons, ih, testBit_setBit]; simp [Bool.or_assoc]
  rw [maskOf, hf]
  simp

/-- The failures of a self-test's own targets. -/
def ownFailures (r : TestRun) (fail : Nat) : Nat :=
  if r.kind = 2 then maskOf ((List.range 11).filter (fun i => bit fail i && bit r.mask i)) else 0

theorem testBit_ownFailures {r : TestRun} (hk : r.kind = 2) (fail : Nat) {i : Nat} (hi : i < 11) :
    (ownFailures r fail).testBit i = (fail.testBit i && r.mask.testBit i) := by
  rw [ownFailures, if_pos hk, testBit_maskOf]
  simp [bit, hi]

/-- What the failures of a self-test lead to reaches the events, the health and the memory-error blocks, and no routing. -/
theorem bistOutcome_only (r : TestRun) (fail : Nat) (s : State) : ∃ free evt hlth ddr, bistOutcome r fail s = { s with
    free := free, evt := evt, hlth := hlth, ddr := ddr } ∧ evt.srcCfg = s.evt.srcCfg := by
  unfold bistOutcome
  extract_lets n repaired told
  have hr : ∃ evt hlth, repaired = { s with evt := evt, hlth := hlth } ∧ evt.srcCfg = s.evt.srcCfg := by
    simp only [repaired]
    split
    · exact ⟨_, _, rfl, rfl⟩
    · rw [raise_only]
      exact ⟨_, _, rfl, rfl⟩
  obtain ⟨evt, hlth, hr, hc⟩ := hr
  have ht : ∃ evt', told = { s with evt := evt', hlth := hlth } ∧ evt'.srcCfg = s.evt.srcCfg := by
    simp only [told, raiseIf, hr]
    split
    · rw [raise_only]
      exact ⟨_, rfl, hc⟩
    · exact ⟨_, rfl, hc⟩
  obtain ⟨evt', ht, hc'⟩ := ht
  rw [ht]
  split
  · exact ⟨_, evt', _, _, rfl, hc'⟩
  · exact ⟨_, evt', _, _, rfl, hc'⟩

theorem testComplete_none (a b c e f : Nat) {s : State} (hn : s.test.run = none) : testComplete a b c e f s = s := by simp [testComplete, hn]

theorem testComplete_ends {r : TestRun} {s : State} (hr : s.test.run = some r) (hs : r.started = true) (a b c e f : Nat) :
    testComplete a b c e f s = raise 0x16C (bistOutcome r (ownFailures r e) (withTest (fun t => { t with
      sent := a, received := b, errors := c, bistFail := ownFailures r e, engFail := if bit (ownFailures r e) 8 then f % 32 else 0 })
      (endTest stOk s))) := by
  simp only [testComplete, hr, hs]
  rfl

/-! The TAP and the flushes (R491, R492, R555, R556). -/

/-- The instructions test mode takes. -/
theorem tapInstruction_answers (s : State) (ir : Nat) : tapInstruction s ir =
    if ir = 2 ∨ (s.sys.testMode = true ∧ s.sys.devState ≠ .tamperHold ∧ (ir ≤ 4 ∨ ir = 0x10 ∨ ir = 0x11)) then ir else 0xFF := by
  unfold tapInstruction
  by_cases h2 : ir = 2
  · simp [h2]
  · rw [if_neg h2]
    have hi : (ir = 0 ∨ ir = 1 ∨ ir = 3 ∨ ir = 4 ∨ ir = 0x10 ∨ ir = 0x11) ↔ (ir ≤ 4 ∨ ir = 0x10 ∨ ir = 0x11) := by omega
    simp [h2, ← hi, and_assoc, or_assoc]

theorem queueFlush_none {q tag : Nat} (h : 93 < q ∨ 127 < tag) (fin : Bool) (n items : Nat) (s : State) : queueFlush q tag fin n items s = s := by
  refine if_pos ?_
  simpa using h

theorem queueFlush_counts {q tag : Nat} (hq : q ≤ 93) (ht : tag ≤ 127) (fin : Bool) (n items : Nat) (s : State) :
    queueFlush q tag fin n items s = { s with test := { s.test with
      flushWords := tput s.test.flushWords (128 * q + tag) (min 0xFFFFFFFF (tget 0 s.test.flushWords (128 * q + tag) + n)),
      flushItems := tput s.test.flushItems (128 * q + tag)
        (min 0xFFFFFFFF (tget 0 s.test.flushItems (128 * q + tag) + (items + if fin = true then 0 else 1))) } } := by
  rw [queueFlush, if_neg (by simp; omega)]
  cases fin <;> rfl

/-! The statement. -/

/-- Why the chain of a test is refused, as the statement says it. -/
theorem chainRefusal_eq (s : State) (c phy ch : Nat) : chainRefusal s c phy ch =
    if (channelCentre (chainOf s c) phy ch).isNone then stBadParam
    else if (chainOf s c).service = 2 then stDegraded else if (chainOf s c).service = 1 ∨ (chainOf s c).cal.isSome then stBusy else stOk := by
  unfold chainRefusal
  simp only [Bool.or_eq_true, decide_eq_true_eq]

/-- Settles O60: each command by the branch its fields choose, a test that is accepted by what its start leaves. -/
theorem testsAndTap : Obligations.TestsAndTap := by
  intro h s w taken held chainBusy idle
  have hcb (c phy ch : Nat) : chainBusy c phy ch = chainRefusal s c phy ch := (chainRefusal_eq s c phy ch).symm
  have hidle : isIdleTwin s = true ↔ idle := isIdleTwin_iff s
  refine ⟨fun c hf hst hrun ha hfl he hd hq => ?busy, fun p hr => ?loopback, fun p hr => ?pattern, fun p hr => ?bist, fun p hr => ?status,
    fun a b c e f hn => congrArg Host.Outcome.next (testComplete_none a b c e f hn), fun a b c e f r hr hs => ?complete,
    fun ir => ?tap, fun q tag fin n items hq ht => congrArg Host.Outcome.next (queueFlush_counts hq ht fin n items s),
    fun q tag fin n items hq => congrArg Host.Outcome.next (queueFlush_none hq fin n items s)⟩
  case busy =>
    have ht : TagFree h s := fun f hx => absurd hx (by simp [hfl])
    have hj : jobBusy c h.flow s = true := by simp only [jobBusy, hst, jobRuns, hf]; exact hrun
    obtain ⟨-, -, hb⟩ := heldCommandHasNoEffect h c s ha ht he hd
    exact hb (by simp [hfl]) (by simp [hfl]) hq hj
  case tap =>
    exact congrArg (fun i => Host.Outcome.next { s with sys := { s.sys with jtagIr := some i } }) (tapInstruction_answers s ir)
  case loopback =>
    intro refused r ok radiates
    let u := inFlightWith h (.testLoopback p) s
    have hrad (hx : ¬ (radiates ∧ idle)) : ¬ (Radiates p ∧ isIdleTwin u = true) := fun hy => hx ⟨hy.1, hidle.mp hy.2⟩
    refine ⟨fun hn hp => agentRun_refuses hr (testLoopback_bad h (s := u) hn hp),
      fun hn hp hx hi => agentRun_refuses hr (testLoopback_standby h (s := u) hn hp hx (hidle.mpr hi)), fun hn hp hx ht hc => ?chainRefused,
      fun hn hp hx ht hc hq => ?noSpare, fun q hn hp hx ht hc hq hs => ?chain, fun hn hp hx ht => ?portBusy, fun hn hp hx ht h8 h9 => ?port⟩
    case chainRefused =>
      rw [hcb] at hc ⊢
      exact agentRun_refuses hr ((testLoopback_chain h (s := u) hn hp (hrad hx) ht).trans (if_pos hc))
    case noSpare =>
      have hq' : (List.range 104).find? (fun q => roleOf u q = 1) = none := noSpareLane hq
      refine agentRun_refuses hr ((testLoopback_chain h (s := u) hn hp (hrad hx) ht).trans ((if_neg ?_).trans (by rw [hq']; rfl)))
      exact not_not.mpr ((hcb ..).symm.trans hc)
    case chain =>
      have hq' : (List.range 104).find? (fun q => roleOf u q = 1) = some q := hq
      have hx := (testLoopback_chain h (s := u) hn hp (hrad hx) ht).trans (if_neg (not_not.mpr ((hcb ..).symm.trans hc)))
      rw [hq'] at hx
      exact startChain_accepted (run := testLoopback h p) (r := { loopbackRun p false with lane := some q }) hr hs hx
    case portBusy => exact agentRun_refuses hr (testLoopback_portBusy h (s := u) hn hp (hrad hx) ht)
    case port => exact startTest_accepted hr ht hp.1 (testLoopback_portStarts h (s := u) hn hp (hrad hx) ht h8 h9)
  case pattern =>
    intro refused r ok free
    let u := inFlightWith h (.testPattern p) s
    have hni (hi : ¬ idle) : ¬ isIdleTwin u = true := fun hy => hi (hidle.mp hy)
    refine ⟨fun hn hp => agentRun_refuses hr (testPattern_bad h (s := u) hn hp),
      fun hn hp hi => agentRun_refuses hr (testPattern_standby h (s := u) hn hp (hidle.mpr hi)), fun ⟨hn, hp, hi⟩ ht hc => ?chainRefused,
      fun ⟨hn, hp, hi⟩ ht hc hs => ?chain, fun ⟨hn, hp, hi⟩ ht h8 => ?portBusy, fun ⟨hn, hp, hi⟩ ht h8 => ?port⟩
    case chainRefused =>
      rw [hcb] at hc ⊢
      exact agentRun_refuses hr ((testPattern_chain h (s := u) hn hp (hni hi) ht).trans (if_pos hc))
    case chain =>
      exact startChain_accepted hr hs ((testPattern_chain h (s := u) hn hp (hni hi) ht).trans (if_neg (not_not.mpr ((hcb ..).symm.trans hc))))
    case portBusy => exact agentRun_refuses hr (testPattern_portBusy h (s := u) hn hp (hni hi) ht h8)
    case port =>
      have ⟨ht8, _⟩ := hp
      obtain ⟨ha, hheld⟩ := startTest_accepted hr ht (by omega) (testPattern_portStarts h (s := u) hn hp (hni hi) ht h8)
      exact ⟨ha, fun t ht => (hheld t ht).1⟩
  case bist =>
    intro refused allowed
    let u := inFlightWith h (.testBist p) s
    have hx (hn : w.run = none) (h0 : p.mask ≠ 0) (h1 : p.mask ≤ 2047) := testBist_inRange h (p := p) (s := u) hn h0 h1
    have hall (ha : allowed) : ¬ (List.range 11).any (fun i => bit p.mask i && !bistAllowed u i) = true := by
      rw [any_notAllowed]
      exact not_not.mpr ha
    refine ⟨fun hn hm => agentRun_refuses hr (testBist_bad h (s := u) hn hm),
      fun hn h0 h1 ha => agentRun_refuses hr ((hx hn h0 h1).trans (if_pos ((any_notAllowed p u).mpr ha))),
      fun hn h0 h1 ha hb hg => agentRun_refuses hr ((hx hn h0 h1).trans ((if_neg (hall ha)).trans (if_pos ?_))),
      fun hn h0 h1 ha hg => ⟨_, agentRun_answers hr _ (((hx hn h0 h1).trans ((if_neg (hall ha)).trans (if_neg ?_))).trans (startTest_starts ..))
        rfl rfl rfl rfl, rfl, _, rfl, rfl, rfl, rfl, rfl⟩⟩
    · have hg' : bistRangeOk p u = false := hg
      simp [bit, hb, hg']
    · have hg' : p.mask.testBit 10 = false ∨ bistRangeOk p u = true := hg
      rcases hg' with hg' | hg' <;> simp [bit, hg']
  case status =>
    let u := inFlightWith h (.testStatus p) s
    refine ⟨fun ho => agentRun_refuses hr (testStatus_bad h u ho),
      fun ho => agentRun_answers hr _ (testStatus_reports h (s := u) ho) rfl rfl rfl rfl, fun r ho hrun => ?_⟩
    obtain ⟨_, _, _, _, _, he⟩ := endTest_ends (s := u) hrun stFlushed
    obtain ⟨e, hx, -, hc⟩ := raise_evt 0x16E (endTest stFlushed u)
    have hs := testStatus_aborts h (s := u) ho hrun
    rw [hx] at hs
    rw [he] at hs hc
    exact ⟨_, agentRun_answers hr _ hs rfl rfl rfl rfl, rfl, rfl, hc⟩
  case complete =>
    have hx := testComplete_ends hr hs a b c e f
    obtain ⟨_, _, _, _, _, he⟩ := endTest_ends hr stOk
    obtain ⟨_, _, _, _, hb, hc⟩ := bistOutcome_only r (ownFailures r e) (withTest (fun t => { t with
      sent := a, received := b, errors := c, bistFail := ownFailures r e, engFail := if bit (ownFailures r e) 8 then f % 32 else 0 }) (endTest stOk s))
    rw [hb, he] at hx
    rw [he] at hc
    have ht : (testComplete a b c e f s).test = _ := (congrArg (·.test) hx).trans (congrArg (·.test) (raise_only ..))
    have hm : (testComplete a b c e f s).hostMem = s.hostMem := (congrArg (·.hostMem) hx).trans (congrArg (·.hostMem) (raise_only ..))
    refine ⟨_, rfl, congrArg (·.run) ht, congrArg (·.last) ht, congrArg (·.sent) ht, congrArg (·.received) ht, congrArg (·.errors) ht,
      congrArg (·.finalStatus) ht, hm, fun hen => ?_, fun hk => ?_, fun hk i hi => ?_⟩
    · rw [hx]
      exact raise_sets (by simp only [srcCfgOf, hc]; exact hen)
    · exact (congrArg (·.bistFail) ht).trans (if_neg hk)
    · exact (congrArg (·.bistFail.testBit i) ht).trans (testBit_ownFailures hk e hi)

end Sys2Proof.Proofs
end

section
/-!
PROOFS. What no function beside the fuses and the latch reaches, one rule per function (R96, R97, R442): operations, commands, keys, engines, time
and traffic.
-/
namespace Sys2Proof.Proofs
open Machine Safety Laws

/-- The queue of waiting commands, the burnt security version, the tamper latch, and whether the power has been cycled since it was set. -/
def vault (s : State) : List Instr × Nat × Bool × Bool := (s.pending, s.otp.svBurnt, s.aon.latch, s.aon.cycled)

/-! The blocks. -/

@[simp] theorem withFree_vault (f) (s : State) : vault (withFree f s) = vault s := rfl
@[simp] theorem withSys_vault (f) (s : State) : vault (withSys f s) = vault s := rfl
@[simp] theorem withBoot_vault (f) (s : State) : vault (withBoot f s) = vault s := rfl
@[simp] theorem withHif_vault (f) (s : State) : vault (withHif f s) = vault s := rfl
@[simp] theorem withEvt_vault (f) (s : State) : vault (withEvt f s) = vault s := rfl
@[simp] theorem withRfc_vault (f) (s : State) : vault (withRfc f s) = vault s := rfl
@[simp] theorem withLane_vault (f) (s : State) : vault (withLane f s) = vault s := rfl
@[simp] theorem withSlot_vault (f) (s : State) : vault (withSlot f s) = vault s := rfl
@[simp] theorem withBudg_vault (f) (s : State) : vault (withBudg f s) = vault s := rfl
@[simp] theorem withTm_vault (f) (s : State) : vault (withTm f s) = vault s := rfl
@[simp] theorem withTbl_vault (f) (s : State) : vault (withTbl f s) = vault s := rfl
@[simp] theorem withSec_vault (f) (s : State) : vault (withSec f s) = vault s := rfl
@[simp] theorem withFlash_vault (f) (s : State) : vault (withFlash f s) = vault s := rfl
@[simp] theorem withCry_vault (f) (s : State) : vault (withCry f s) = vault s := rfl
@[simp] theorem withChk_vault (f) (s : State) : vault (withChk f s) = vault s := rfl
@[simp] theorem withUpd_vault (f) (s : State) : vault (withUpd f s) = vault s := rfl
@[simp] theorem withTime_vault (f) (s : State) : vault (withTime f s) = vault s := rfl
@[simp] theorem withLnk_vault (f) (s : State) : vault (withLnk f s) = vault s := rfl
@[simp] theorem withTwin_vault (f) (s : State) : vault (withTwin f s) = vault s := rfl
@[simp] theorem withEth_vault (f) (s : State) : vault (withEth f s) = vault s := rfl
@[simp] theorem withPcie_vault (f) (s : State) : vault (withPcie f s) = vault s := rfl
@[simp] theorem withDdr_vault (f) (s : State) : vault (withDdr f s) = vault s := rfl
@[simp] theorem withFwall_vault (f) (s : State) : vault (withFwall f s) = vault s := rfl
@[simp] theorem withHlth_vault (f) (s : State) : vault (withHlth f s) = vault s := rfl
@[simp] theorem withDump_vault (f) (s : State) : vault (withDump f s) = vault s := rfl
@[simp] theorem withTest_vault (f) (s : State) : vault (withTest f s) = vault s := rfl
@[simp] theorem withHostMem_vault (f) (s : State) : vault (withHostMem f s) = vault s := rfl

@[simp] theorem withAon_vault (f : AonSt → AonSt) (s : State) (hf : ∀ a, (f a).latch = a.latch ∧ (f a).cycled = a.cycled) :
    vault (withAon f s) = vault s := by
  simp [vault, withAon, hf]

@[simp] theorem withOtp_vault (f : OtpSt → OtpSt) (s : State) (hv : ∀ o, (f o).svBurnt = o.svBurnt) : vault (withOtp f s) = vault s := by
  simp [vault, withOtp, hv]

@[simp] theorem toHost_vault (a bs) (s : State) : vault (toHost a bs s) = vault s := by
  unfold toHost
  split <;> rfl

@[simp] theorem hostWrite_vault (a bs) (s : State) : vault (hostWrite a bs s) = vault s := rfl

/-! A branch and a fold. -/

@[simp] theorem vault_ite (p : Prop) [Decidable p] (s t : State) :
    vault (if p then s else t) = if p then vault s else vault t := apply_ite ..

@[simp] theorem vault_foldl {α : Type} {f : State → α → State} (hf : ∀ s x, vault (f s x) = vault s) (l : List α) (s : State) :
    vault (l.foldl f s) = vault s := by
  induction l generalizing s with
  | nil => rfl
  | cons x l ih => exact (ih _).trans (hf s x)

@[simp] theorem vault_foldl_fst {α β : Type} {f : State × β → α → State × β} (hf : ∀ r x, vault (f r x).1 = vault r.1) (l : List α)
    (r : State × β) : vault (l.foldl f r).1 = vault r.1 := by
  induction l generalizing r with
  | nil => rfl
  | cons x l ih => exact (ih _).trans (hf r x)

variable (s : State)

/-! Tables, bytes, events and counters. -/

@[simp] theorem tick1_vault : vault (tick1 s) = vault s := by simp [tick1]
@[simp] theorem refuse_vault (status) : vault (refuse s status).st = vault s := by simp [refuse]
@[simp] theorem done_vault (data) : vault (done s data).st = vault s := by simp [done]
@[simp] theorem withQp_vault (q f) : vault (withQp q f s) = vault s := by simp [withQp]
@[simp] theorem notify_vault (v) : vault (notify v s) = vault s := by simp [notify]
@[simp] theorem settle_vault (v was again) : vault (settle v was again s) = vault s := by simp [settle]
@[simp] theorem raise_vault (n) : vault (raise n s) = vault s := by simp [raise]
@[simp] theorem raiseW_vault (n w) : vault (raiseW n w s) = vault s := by simp [raiseW]
@[simp] theorem raiseIf_vault (b n) : vault (raiseIf b n s) = vault s := by simp [raiseIf]
@[simp] theorem withChain_vault (c f) : vault (withChain c f s) = vault s := by simp [withChain]
@[simp] theorem withLaneN_vault (n f) : vault (withLaneN n f s) = vault s := by simp [withLaneN]
@[simp] theorem withPhys_vault (p f) : vault (withPhys p f s) = vault s := by simp [withPhys]
@[simp] theorem laneCnt_vault (i) : vault (laneCnt i s) = vault s := by simp [laneCnt]
@[simp] theorem withSf_vault (n f) : vault (withSf n f s) = vault s := by simp [withSf]
@[simp] theorem withSuper_vault (n f) : vault (withSuper n f s) = vault s := by simp [withSuper]
@[simp] theorem slotCnt_vault (i) : vault (slotCnt i s) = vault s := by simp [slotCnt]
@[simp] theorem withNbr_vault (n f) : vault (withNbr n f s) = vault s := by simp [withNbr]
@[simp] theorem tblCnt_vault (i) : vault (tblCnt i s) = vault s := by simp [tblCnt]
@[simp] theorem withQueue_vault (q f) : vault (withQueue q f s) = vault s := by simp [withQueue]
@[simp] theorem tmCnt_vault (i) : vault (tmCnt i s) = vault s := by simp [tmCnt]
@[simp] theorem withKey_vault (n f) : vault (withKey n f s) = vault s := by simp [withKey]
@[simp] theorem secCnt_vault (i) : vault (secCnt i s) = vault s := by simp [secCnt]
@[simp] theorem cryCnt_vault (i) : vault (cryCnt i s) = vault s := by simp [cryCnt]
@[simp] theorem updCnt_vault (i) : vault (updCnt i s) = vault s := by simp [updCnt]
@[simp] theorem withCamp_vault (c f) : vault (withCamp c f s) = vault s := by simp [withCamp]
@[simp] theorem withFw_vault (f) : vault (withFw f s) = vault s := by simp [withFw]
@[simp] theorem withPort_vault (p f) : vault (withPort p f s) = vault s := by simp [withPort]
@[simp] theorem portCnt_vault (p i) : vault (portCnt p i s) = vault s := by simp [portCnt]
@[simp] theorem twinCnt_vault (i) : vault (twinCnt i s) = vault s := by simp [twinCnt]
@[simp] theorem withEthP_vault (e f) : vault (withEthP e f s) = vault s := by simp [withEthP]
@[simp] theorem ethCnt_vault (e i) : vault (ethCnt e i s) = vault s := by simp [ethCnt]
@[simp] theorem withChkU_vault (u f) : vault (withChkU u f s) = vault s := by simp [withChkU]
@[simp] theorem withCmp_vault (n f) : vault (withCmp n f s) = vault s := by simp [withCmp]
@[simp] theorem withCap_vault (i f) : vault (withCap i f s) = vault s := by simp [withCap]
@[simp] theorem reserveFell_vault (before) : vault (reserveFell before s) = vault s := by simp [reserveFell]

theorem allocBuf_vault {data : List Byte} {s t : State} {x : Nat × Nat} (h : allocBuf data s = some (t, x)) : vault t = vault s := by
  unfold allocBuf at h
  split at h
  · cases h
  · cases h
    simp

@[simp] theorem freeBuf_vault (id) : vault (freeBuf id s) = vault s := by simp [freeBuf]
@[simp] theorem degrade_vault (b) : vault (degrade b s) = vault s := by simp [degrade]
@[simp] theorem undegrade_vault (b) : vault (undegrade b s) = vault s := by simp [undegrade]

/-! The command path (R30, R98-R137). -/

@[simp] theorem fetchEntry_vault (h c mac seqNo) : vault (fetchEntry h c mac seqNo s) = vault s := by simp [fetchEntry]
@[simp] theorem complete_vault (p r) : vault (complete p r) = vault r.st := rfl

@[simp] theorem finishWait_vault (who status data) : vault (finishWait who status data s) = vault s := by
  unfold finishWait
  split <;> simp

@[simp] theorem finishStored_vault (who) : vault (finishStored who s) = vault s := by
  unfold finishStored
  split <;> simp

@[simp] theorem stageTimed_vault (h c r) : vault (stageTimed h c r s) = vault s := by
  unfold stageTimed
  split <;> simp

@[simp] theorem endFlights_vault (status p) : vault (endFlights status p s) = vault s := by simp [endFlights]
@[simp] theorem drain_vault (q) : vault (drain q s) = vault s := by simp [drain]
@[simp] theorem sqDoorbell_vault (q value) : vault (sqDoorbell q value s) = vault s := by simp [sqDoorbell]
@[simp] theorem cqDoorbell_vault (q value) : vault (cqDoorbell q value s) = vault s := by simp [cqDoorbell]
@[simp] theorem pf1Drop_vault : vault (pf1Drop s) = vault s := by simp [pf1Drop]
@[simp] theorem qpOn_vault (func q ctrl) : vault (qpOn func q ctrl s) = vault s := by simp [qpOn]
@[simp] theorem qpOff_vault (func q ctrl) : vault (qpOff func q ctrl s) = vault s := by simp [qpOff]
@[simp] theorem commandFetch_vault (e) : vault (commandFetch e s) = vault s := by simp [commandFetch]
@[simp] theorem disarm_vault (n) : vault (disarm n s) = vault s := by simp [disarm]

@[simp] theorem deadlineAbandon_vault (qp tag) : vault (deadlineAbandon qp tag s) = vault s := by
  unfold deadlineAbandon
  dsimp only
  (repeat' split) <;> simp

theorem armDue_vault (l) (t : State) : vault (armDue s l t).2 = vault t := by
  induction l generalizing t with
  | nil => rfl
  | cons d l ih =>
    rw [armDue]
    split <;> simp [ih]

@[simp] theorem delayListWalk_vault : vault (delayListWalk s) = vault s := armDue_vault ..

@[simp] theorem coalExpiry_vault (kind index) : vault (coalExpiry kind index s) = vault s := by simp [coalExpiry]
@[simp] theorem msixUnmask_vault (func vector) : vault (msixUnmask func vector s) = vault s := by simp [msixUnmask]
@[simp] theorem evtClear_vault (k value) : vault (evtClear k value s) = vault s := by simp [evtClear]
@[simp] theorem spiSubmit_vault (e lengthOk) : vault (spiSubmit e lengthOk s) = vault s := by simp [spiSubmit]
@[simp] theorem spiReadReply_vault : vault (spiReadReply s) = vault s := by simp [spiReadReply]
@[simp] theorem spiReadStatus_vault : vault (spiReadStatus s) = vault s := by simp [spiReadStatus]
@[simp] theorem mgmtVlanFrame_vault (port mac vlan verified seq entries) :
    vault (mgmtVlanFrame port mac vlan verified seq entries s) = vault s := by
  simp [mgmtVlanFrame]

/-! The security island (R363-R396). -/

@[simp] theorem keyEvent_vault (n slot) : vault (keyEvent n slot s) = vault s := by simp [keyEvent]
@[simp] theorem noteKey_vault (slot) : vault (noteKey slot s) = vault s := by simp [noteKey]

@[simp] theorem journalPut_vault (fp h) : vault (journalPut fp h s) = vault s := by
  unfold journalPut
  split <;> simp

@[simp] theorem orphan_vault (k p g) : vault (orphan k p g s).1 = vault s := by
  induction k generalizing p g s with
  | zero => rfl
  | succ k ih => simp [orphan, ih]

@[simp] theorem orphanBy_vault (p g) : vault (orphanBy p g s).1 = vault s := by simp [orphanBy]
@[simp] theorem takeGen_vault (slot m overlapMs) : vault (takeGen slot m overlapMs s) = vault s := by simp [takeGen]
@[simp] theorem abortMessages_vault (slot gen) : vault (abortMessages slot gen s) = vault s := by simp [abortMessages]

@[simp] theorem abortRetiring_vault (slot) : vault (abortRetiring slot s) = vault s := by
  unfold abortRetiring
  dsimp only
  split <;> simp

@[simp] theorem installWaiting_vault (slot) : vault (installWaiting slot s) = vault s := by
  unfold installWaiting
  dsimp only
  split <;> simp

@[simp] theorem makeGen_vault (h slot m overlapMs) : vault (makeGen h slot m overlapMs s).st = vault s := by simp [makeGen]
@[simp] theorem keyRefuse_vault (slot status) : vault (keyRefuse slot status s).st = vault s := by simp [keyRefuse]
@[simp] theorem requestKey_vault (slot bitNo) : vault (requestKey slot bitNo s).st = vault s := by simp [requestKey]
@[simp] theorem drawUse_vault (slot) : vault (drawUse slot s).st = vault s := by simp [drawUse]

@[simp] theorem commitAtLimit_vault (slot) : vault (commitAtLimit slot s) = vault s := by
  unfold commitAtLimit
  dsimp only
  (repeat' split) <;> simp

@[simp] theorem useKey_vault (slot bitNo) : vault (useKey slot bitNo s).st = vault s := by simp [useKey]
@[simp] theorem holdKey_vault (slot) : vault (holdKey slot s) = vault s := by simp [holdKey]

@[simp] theorem settleErase_vault (who) : vault (settleErase who s) = vault s := by
  unfold settleErase
  split <;> simp

@[simp] theorem emptySlot_vault (slot) : vault (emptySlot slot s) = vault s := by simp [emptySlot]
@[simp] theorem tryEmpty_vault (slot) : vault (tryEmpty slot s) = vault s := by simp [tryEmpty]
@[simp] theorem startErase_vault (slot erase who) : vault (startErase slot erase who s).1 = vault s := by simp [startErase]
@[simp] theorem wrapKey_vault (wkey binding m) : vault (wrapKey wkey binding m s).1 = vault s := by simp [wrapKey]

@[simp] theorem obtainKey_vault (slot k) : vault (obtainKey slot k s).st = vault s := by
  unfold obtainKey
  dsimp only
  (repeat' split) <;> simp

@[simp] theorem keyCommit_vault (h p) : vault (keyCommit h p s).st = vault s := by
  unfold keyCommit
  (repeat' split) <;> simp

@[simp] theorem eraseAll_vault (slots erase who) : vault (eraseAll slots erase who s).1 = vault s := by simp [eraseAll]
@[simp] theorem keyErase_vault (h p) : vault (keyErase h p s).st = vault s := by simp [keyErase]
@[simp] theorem keyInvalidate_vault (h p) : vault (keyInvalidate h p s).st = vault s := by simp [keyInvalidate]
@[simp] theorem keyStoreCfg_vault (h p) : vault (keyStoreCfg h p s).st = vault s := by simp [keyStoreCfg]

@[simp] theorem endMessage_vault (slot gen) : vault (endMessage slot gen s) = vault s := by
  unfold endMessage
  dsimp only
  split <;> simp

@[simp] theorem keyReferenceDrop_vault (slot gen) : vault (keyReferenceDrop slot gen s) = vault s := by
  unfold keyReferenceDrop
  dsimp only
  (repeat' split) <;> simp

@[simp] theorem keyWaitExpiry_vault (slot) : vault (keyWaitExpiry slot s) = vault s := by
  unfold keyWaitExpiry
  dsimp only
  (repeat' split) <;> simp

@[simp] theorem rxOverlapExpiry_vault (slot) : vault (rxOverlapExpiry slot s) = vault s := by
  unfold rxOverlapExpiry
  dsimp only
  split <;> simp

@[simp] theorem identityGenerated_vault : vault (identityGenerated s) = vault s := by simp [identityGenerated]
@[simp] theorem pufSpareEnrol_vault (array active) : vault (pufSpareEnrol array active s) = vault s := by simp [pufSpareEnrol]

@[simp] theorem journalEntryDurable_vault (slot) : vault (journalEntryDurable slot s) = vault s := by
  unfold journalEntryDurable
  dsimp only
  split <;> simp

@[simp] theorem journalWriteFail_vault (slot) : vault (journalWriteFail slot s) = vault s := by simp [journalWriteFail]
@[simp] theorem journalCompactDone_vault : vault (journalCompactDone s) = vault s := by simp [journalCompactDone]

/-! The cipher engines and the check-value units (R397-R426). -/

@[simp] theorem arriveMsg_vault (engine m) : vault (arriveMsg engine m s) = vault s := by
  unfold arriveMsg
  dsimp only
  split <;> simp

@[simp] theorem engineResume_vault (engine) : vault (engineResume engine s) = vault s := by
  unfold engineResume
  (repeat' split) <;> simp

@[simp] theorem stall_vault : vault (stall s).st = vault s := by simp [stall]
@[simp] theorem cryVerify_vault (h p) : vault (cryVerify h p s).st = vault s := by simp [cryVerify]
@[simp] theorem cryXtsRegion_vault (h p) : vault (cryXtsRegion h p s).st = vault s := by simp [cryXtsRegion]
@[simp] theorem cryChkCfg_vault (h p) : vault (cryChkCfg h p s).st = vault s := by simp [cryChkCfg]
@[simp] theorem chkPauseTake_vault (u) : vault (chkPauseTake u s) = vault s := by simp [chkPauseTake]
@[simp] theorem chkPauseWrite_vault (u value) : vault (chkPauseWrite u value s) = vault s := by simp [chkPauseWrite]
@[simp] theorem chkValueWrite_vault (u value) : vault (chkValueWrite u value s) = vault s := by simp [chkValueWrite]
@[simp] theorem chkResultRead_vault (u) : vault (chkResultRead u s) = vault s := by simp [chkResultRead]
@[simp] theorem chkResult_vault (u data abort spawned v) : vault (chkResult u data abort spawned v s) = vault s := by simp [chkResult]
@[simp] theorem chkFrameEnd_vault (n data abort spawned u) : vault (chkFrameEnd n data abort spawned u s) = vault s := by
  simp [chkFrameEnd]
@[simp] theorem chkEnds_vault (n data abort spawned) : vault (chkEnds n data abort spawned s) = vault s := by simp [chkEnds]

/-! Time domains, comparators, captures and PTP (R216-R241). -/

@[simp] theorem stepDomain_vault (i inc mark) : vault (stepDomain i inc mark s) = vault s := by simp [stepDomain]
@[simp] theorem setRate_vault (i r) : vault (setRate i r s) = vault s := by simp [setRate]
@[simp] theorem timeStep_vault (h p) : vault (timeStep h p s).st = vault s := by simp [timeStep]
@[simp] theorem timeRate_vault (h p) : vault (timeRate h p s).st = vault s := by simp [timeRate]
@[simp] theorem timeSelect_vault (h p) : vault (timeSelect h p s).st = vault s := by simp [timeSelect]
@[simp] theorem slewDone_vault : vault (slewDone s) = vault s := by simp [slewDone]
@[simp] theorem holdRelease_vault : vault (holdRelease s) = vault s := by simp [holdRelease]
@[simp] theorem rateFold_vault (domain) : vault (rateFold domain s) = vault s := by simp [rateFold]
@[simp] theorem timeTick_vault : vault (timeTick s) = vault s := by simp [timeTick]
@[simp] theorem timeTrigger_vault (h p) : vault (timeTrigger h p s).st = vault s := by simp [timeTrigger]
@[simp] theorem drivePin_vault (c) : vault (drivePin c s) = vault s := by simp [drivePin]
@[simp] theorem captureEdge_vault (i falling) : vault (captureEdge i falling s) = vault s := by simp [captureEdge]
@[simp] theorem timeInEdge_vault (input falling) : vault (timeInEdge input falling s) = vault s := by simp [timeInEdge]
@[simp] theorem captureRead_vault (i) : vault (captureRead i s) = vault s := by simp [captureRead]
@[simp] theorem snapshotRead_vault : vault (snapshotRead s) = vault s := by simp [snapshotRead]
@[simp] theorem timeCaptureCfg_vault (h p) : vault (timeCaptureCfg h p s).st = vault s := by simp [timeCaptureCfg]
@[simp] theorem timePtpPortCfg_vault (h p) : vault (timePtpPortCfg h p s).st = vault s := by simp [timePtpPortCfg]
@[simp] theorem ptpEventRx_vault (port msg) : vault (ptpEventRx port msg s) = vault s := by simp [ptpEventRx]

@[simp] theorem ptpTcEgress_vault (port id) : vault (ptpTcEgress port id s) = vault s := by
  unfold ptpTcEgress
  split <;> simp

@[simp] theorem correctRate_vault (i dr) : vault (correctRate i dr s) = vault s := by simp [correctRate]
@[simp] theorem ptpOffset_vault (i offset rateCorr) : vault (ptpOffset i offset rateCorr s) = vault s := by simp [ptpOffset]

@[simp] theorem airOffset_vault (offset) : vault (airOffset offset s) = vault s := by
  unfold airOffset
  split <;> simp

@[simp] theorem loseSource_vault (i) : vault (loseSource i s) = vault s := by simp [loseSource]
@[simp] theorem ptpTimeout_vault (i) : vault (ptpTimeout i s) = vault s := by simp [ptpTimeout]
@[simp] theorem timeDomainCfg_vault (h p) : vault (timeDomainCfg h p s).st = vault s := by simp [timeDomainCfg]
@[simp] theorem timeStatus_vault (h p) : vault (timeStatus h p s).st = vault s := by simp [timeStatus]

/-! The traffic manager (R341-R362). -/

@[simp] theorem noteDelta_vault (f) : vault (noteDelta f s) = vault s := by simp [noteDelta]
@[simp] theorem meterFrame_vault (m b pre) : vault (meterFrame m b pre s).1 = vault s := by simp [meterFrame]
@[simp] theorem withShaper_vault (k f) : vault (withShaper k f s) = vault s := by simp [withShaper]

@[simp] theorem evalShaper_vault (q) : vault (evalShaper q s) = vault s := by
  unfold evalShaper
  split <;> simp

@[simp] theorem chargeShaper_vault (q f) : vault (chargeShaper q f s) = vault s := by simp [chargeShaper]

@[simp] theorem offerQueue_vault (q) : vault (offerQueue q s) = vault s := by
  unfold offerQueue
  dsimp only
  (repeat' split) <;> simp

@[simp] theorem releaseShaper_vault (k) : vault (releaseShaper k s) = vault s := by simp [releaseShaper]
@[simp] theorem wheelFine_vault : vault (wheelFine s) = vault s := by simp [wheelFine]
@[simp] theorem wheelCoarse_vault : vault (wheelCoarse s) = vault s := by simp [wheelCoarse]

@[simp] theorem leaveQueue_vault (q id sent) : vault (leaveQueue q id sent s) = vault s := by
  unfold leaveQueue
  (repeat' split) <;> simp

@[simp] theorem dropFrames_vault (p) : vault (dropFrames p s) = vault s := by simp [dropFrames]
@[simp] theorem dropEvents_vault (why q) : vault (dropEvents why q s) = vault s := by simp [dropEvents]
@[simp] theorem admitFrame_vault (q f colour) : vault (admitFrame q f colour s).1 = vault s := by simp [admitFrame]
@[simp] theorem classifyAdmit_vault (profile16 f x) : vault (classifyAdmit profile16 f x s).1 = vault s := by simp [classifyAdmit]

@[simp] theorem drrNext_vault (port skip k) : vault (drrNext port skip k s).1 = vault s := by
  obtain ⟨_, _, _, _, h⟩ := (schedules_drrNext port skip k s).blocks
  rw [h]
  rfl

@[simp] theorem nextFrame_vault (port skip) : vault (nextFrame port skip s).1 = vault s := by
  obtain ⟨_, _, _, _, h⟩ := (schedules_nextFrame port skip s).blocks
  rw [h]
  rfl

@[simp] theorem sendFrame_vault (q f) : vault (sendFrame q f s) = vault s := by simp [sendFrame]

@[simp] theorem bindFrame_vault (q id) : vault (bindFrame q id s) = vault s := by
  unfold bindFrame
  split <;> simp

@[simp] theorem unbindFrame_vault (q id) : vault (unbindFrame q id s) = vault s := by simp [unbindFrame]

@[simp] theorem tmNext_vault (peer mask fits) : vault (tmNext peer mask fits s).1 = vault s := by
  unfold tmNext
  dsimp only
  (repeat' split) <;> simp

@[simp] theorem tmQueueCfg_vault (h p) : vault (tmQueueCfg h p s).st = vault s := by simp [tmQueueCfg]
@[simp] theorem tmMeterCfg_vault (h p) : vault (tmMeterCfg h p s).st = vault s := by simp [tmMeterCfg]
@[simp] theorem tmShaperCfg_vault (h p) : vault (tmShaperCfg h p s).st = vault s := by simp [tmShaperCfg]
@[simp] theorem tmClassMap_vault (h p) : vault (tmClassMap h p s).st = vault s := by simp [tmClassMap]
@[simp] theorem tmStats_vault (h p) : vault (tmStats h p s).st = vault s := by simp [tmStats]

end Sys2Proof.Proofs
end

section
/-!
PROOFS. What no function beside the fuses and the latch reaches: the air budget, the tables, lanes and chains.
-/
namespace Sys2Proof.Proofs
open Machine Safety Laws

variable (s : State)

/-! The air budget (R295-R309). -/

@[simp] theorem debitAll_vault (bucket chain bands us) : vault (debitAll bucket chain bands us s) = vault s := by simp [debitAll]
@[simp] theorem nearCheck_vault (bucket chain bands) : vault (nearCheck bucket chain bands s) = vault s := by simp [nearCheck]
@[simp] theorem budgetCheck_vault (carrier phy chain us bucket) : vault (budgetCheck carrier phy chain us bucket s).1 = vault s := by
  simp [budgetCheck]
@[simp] theorem settleDebit_vault (carrier phy chain bucket reserved sent) :
    vault (settleDebit carrier phy chain bucket reserved sent s) = vault s := by
  simp [settleDebit]
@[simp] theorem budgRegionLoad_vault (h p) : vault (budgRegionLoad h p s).st = vault s := by simp [budgRegionLoad]
@[simp] theorem budgStatus_vault (h p) : vault (budgStatus h p s).st = vault s := by simp [budgStatus]
@[simp] theorem budgetExpiry_vault : vault (budgetExpiry s) = vault s := by simp [budgetExpiry]

/-! The node, neighbour and prefix tables (R310-R340). -/

@[simp] theorem noteNbr_vault (n) : vault (noteNbr n s) = vault s := by simp [noteNbr]
@[simp] theorem noteReplay_vault (n) : vault (noteReplay n s) = vault s := by simp [noteReplay]
@[simp] theorem withNode_vault (pos f) : vault (withNode pos f s) = vault s := by simp [withNode]
@[simp] theorem parityMiss_vault : vault (parityMiss s) = vault s := by simp [parityMiss]

@[simp] theorem nodeLookup_vault (kind panId addr) : vault (nodeLookup kind panId addr s).1 = vault s := by
  unfold nodeLookup
  dsimp only
  split <;> simp

@[simp] theorem nbrLookup_vault (n) : vault (nbrLookup n s).1 = vault s := by simp [nbrLookup]
@[simp] theorem nodeHit_vault (pos) : vault (nodeHit pos s) = vault s := by simp [nodeHit]
@[simp] theorem nbrHit_vault (n) : vault (nbrHit n s) = vault s := by simp [nbrHit]

@[simp] theorem trieLookup_vault (dst) : vault (trieLookup dst s).1 = vault s := by
  unfold trieLookup
  dsimp only
  split <;> simp

@[simp] theorem setPrefixes_vault (ps) : vault (setPrefixes ps s) = vault s := by simp [setPrefixes]
@[simp] theorem learnHoldoff_vault (kind panId addr) : vault (learnHoldoff kind panId addr s) = vault s := by simp [learnHoldoff]
@[simp] theorem learnHeadWrite_vault (value) : vault (learnHeadWrite value s) = vault s := by simp [learnHeadWrite]
@[simp] theorem invalidateNbr_vault (n) : vault (invalidateNbr n s) = vault s := by simp [invalidateNbr]
@[simp] theorem placeNode_vault (pos e) : vault (placeNode pos e s) = vault s := by simp [placeNode]

@[simp] theorem tblNodeDelete_vault (h p) : vault (tblNodeDelete h p s).st = vault s := by
  unfold tblNodeDelete
  (repeat' split) <;> simp

@[simp] theorem tblPrefixAdd_vault (h p) : vault (tblPrefixAdd h p s).st = vault s := by
  unfold tblPrefixAdd
  dsimp only
  (repeat' split) <;> simp

@[simp] theorem tblPrefixDel_vault (h p) : vault (tblPrefixDel h p s).st = vault s := by simp [tblPrefixDel]
@[simp] theorem tblAgingCfg_vault (h p) : vault (tblAgingCfg h p s).st = vault s := by simp [tblAgingCfg]
@[simp] theorem tblEvictPolicy_vault (h p) : vault (tblEvictPolicy h p s).st = vault s := by simp [tblEvictPolicy]
@[simp] theorem tblCfg_vault (h p) : vault (tblCfg h p s).st = vault s := by simp [tblCfg]
@[simp] theorem tblNeighbourSet_vault (h p) : vault (tblNeighbourSet h p s).st = vault s := by simp [tblNeighbourSet]

/-! The receive lanes (R179-R215). -/

@[simp] theorem exhausted_vault (kind) : vault (exhausted kind s) = vault s := by simp [exhausted]
@[simp] theorem countLane_vault (n i) : vault (countLane n i s) = vault s := by simp [countLane]
@[simp] theorem tunePhys_vault (p u) : vault (tunePhys p u s) = vault s := by simp [tunePhys]
@[simp] theorem toPool_vault (p) : vault (toPool p s) = vault s := by simp [toPool]
@[simp] theorem endFrame_vault (p) : vault (endFrame p s) = vault s := by simp [endFrame]
@[simp] theorem trigSnapshot_vault (n trigger) : vault (trigSnapshot n trigger s) = vault s := by simp [trigSnapshot]

@[simp] theorem loseFrame_vault (p cause) : vault (loseFrame p cause s) = vault s := by
  unfold loseFrame
  (repeat' split) <;> simp

@[simp] theorem abortFrame_vault (p cause) : vault (abortFrame p cause s) = vault s := by simp [abortFrame]
@[simp] theorem startFrame_vault (p rssi captured falseSync) : vault (startFrame p rssi captured falseSync s) = vault s := by
  simp [startFrame]
@[simp] theorem takePreamble_vault (p rssi) : vault (takePreamble p rssi s) = vault s := by simp [takePreamble]
@[simp] theorem spawnLane_vault (n p q rssi) : vault (spawnLane n p q rssi s) = vault s := by simp [spawnLane]

@[simp] theorem preamble_vault (p rssi) : vault (preamble p rssi s) = vault s := by
  unfold preamble
  dsimp only
  (repeat' split) <;> simp

@[simp] theorem preambleDetect_vault (p corr rssi) : vault (preambleDetect p corr rssi s) = vault s := by
  unfold preambleDetect
  split <;> simp

@[simp] theorem syncFieldEnd_vault (p) : vault (syncFieldEnd p s) = vault s := by simp [syncFieldEnd]
@[simp] theorem maxPreamble_vault (p) : vault (maxPreamble p s) = vault s := by simp [maxPreamble]

@[simp] theorem mapTaken_vault (h) : vault (mapTaken h s) = vault s := by
  unfold mapTaken
  split <;> simp

@[simp] theorem toPayload_vault (p h map) : vault (toPayload p h map s) = vault s := by simp [toPayload]

@[simp] theorem headerCheck_vault (p h) : vault (headerCheck p h s) = vault s := by
  unfold headerCheck
  (repeat' split) <;> simp

@[simp] theorem noBuffer_vault (p) : vault (noBuffer p s) = vault s := by simp [noBuffer]

@[simp] theorem cellAlloc_vault (p data backpressure) : vault (cellAlloc p data backpressure s) = vault s := by
  unfold cellAlloc
  split <;> simp

@[simp] theorem measure_vault (link tone) : vault (Machine.measure link tone s) = vault s := by
  unfold Machine.measure
  split <;> simp

@[simp] theorem noteAckJob_vault (u n f) : vault (noteAckJob u n f s) = vault s := by
  unfold noteAckJob
  (repeat' split) <;> simp

@[simp] theorem frameDone_vault (p u f snr) : vault (frameDone p u f snr s) = vault s := by simp [frameDone]

@[simp] theorem laneFrameEnd_vault (p fcsOk snr tone) : vault (laneFrameEnd p fcsOk snr tone s) = vault s := by
  unfold laneFrameEnd
  split <;> simp

@[simp] theorem applyAssign_vault (n a) : vault (applyAssign n a s) = vault s := by simp [applyAssign]
@[simp] theorem takeEntry_vault (n e) : vault (takeEntry n e s) = vault s := by simp [takeEntry]
@[simp] theorem boundaryEntry_vault (n e) : vault (boundaryEntry n e s) = vault s := by simp [boundaryEntry]
@[simp] theorem listenOpen_vault (n) : vault (listenOpen n s) = vault s := by simp [listenOpen]
@[simp] theorem listenClose_vault (n) : vault (listenClose n s) = vault s := by simp [listenClose]

@[simp] theorem deferredApply_vault (n) : vault (deferredApply n s) = vault s := by
  unfold deferredApply
  dsimp only
  (repeat' split) <;> simp

@[simp] theorem laneAssign_vault (h p) : vault (laneAssign h p s).st = vault s := by simp [laneAssign]
@[simp] theorem lanePhyCfg_vault (h p) : vault (lanePhyCfg h p s).st = vault s := by simp [lanePhyCfg]
@[simp] theorem laneCaptureCfg_vault (h p) : vault (laneCaptureCfg h p s).st = vault s := by simp [laneCaptureCfg]
@[simp] theorem laneStatus_vault (h p) : vault (laneStatus h p s).st = vault s := by simp [laneStatus]

@[simp] theorem laneFlush_vault (h p) : vault (laneFlush h p s).st = vault s := by
  unfold laneFlush
  dsimp only
  split
  · rfl
  · simp only [vault_foldl, abortFrame_vault, implies_true]

@[simp] theorem laneBitload_vault (h p) : vault (laneBitload h p s).st = vault s := by simp [laneBitload]
@[simp] theorem loseLane_vault (n) : vault (loseLane n s) = vault s := by simp [loseLane]
@[simp] theorem failPhys_vault (p) : vault (failPhys p s) = vault s := by simp [failPhys]
@[simp] theorem moveLane_vault (n q) : vault (moveLane n q s) = vault s := by simp [moveLane]

@[simp] theorem laneSpareMove_vault (n) : vault (laneSpareMove n s) = vault s := by
  unfold laneSpareMove
  split <;> simp

@[simp] theorem blankLanes_vault : vault (blankLanes s) = vault s := by
  unfold blankLanes
  exact vault_foldl (fun s p => by split <;> simp) _ s

/-! The radio chains (R138-R178). -/

@[simp] theorem rffeSend_vault (c w) : vault (rffeSend c w s) = vault s := by simp [rffeSend]
@[simp] theorem askCal_vault (c steps job) : vault (askCal c steps job s) = vault s := by simp [askCal]
@[simp] theorem radCal_vault (h p) : vault (radCal h p s).st = vault s := by simp [radCal]

@[simp] theorem calStart_vault (c) : vault (calStart c s) = vault s := by
  unfold calStart
  split
  · rfl
  · refine (vault_foldl (fun s p => ?_) _ _).trans (withChain_vault ..)
    split <;> simp

@[simp] theorem calDone_vault (c failedStep degC) : vault (calDone c failedStep degC s) = vault s := by
  unfold calDone
  split <;> simp

@[simp] theorem autoRecal_vault (c degC) : vault (autoRecal c degC s) = vault s := by
  unfold autoRecal
  dsimp only
  split <;> simp

@[simp] theorem radChainCfg_vault (h p) : vault (radChainCfg h p s).st = vault s := by simp [radChainCfg]
@[simp] theorem radCoexCfg_vault (h p) : vault (radCoexCfg h p s).st = vault s := by simp [radCoexCfg]
@[simp] theorem radAgcCfg_vault (h p) : vault (radAgcCfg h p s).st = vault s := by simp [radAgcCfg]
@[simp] theorem radPaRamp_vault (h p) : vault (radPaRamp h p s).st = vault s := by simp [radPaRamp]
@[simp] theorem takeProfiles_vault (c) : vault (takeProfiles c s) = vault s := by simp [takeProfiles]
@[simp] theorem radBlankMap_vault (h p) : vault (radBlankMap h p s).st = vault s := by simp [radBlankMap]
@[simp] theorem setTuner_vault (c t) : vault (setTuner c t s) = vault s := by simp [setTuner]
@[simp] theorem radTuner_vault (h p) : vault (radTuner h p s).st = vault s := by simp [radTuner]

@[simp] theorem tunerReading_vault (c rl) : vault (tunerReading c rl s) = vault s := by
  unfold tunerReading
  dsimp only
  split <;> simp

@[simp] theorem tunerTimeout_vault (c) : vault (tunerTimeout c s) = vault s := by
  unfold tunerTimeout
  (repeat' split) <;> simp

@[simp] theorem agcBoundary_vault (power) : vault (agcBoundary power s) = vault s := by simp [agcBoundary]
@[simp] theorem rawSlotBoundary_vault (env) : vault (rawSlotBoundary env s) = vault s := by simp [rawSlotBoundary]

@[simp] theorem nbAgc_vault (c level) : vault (nbAgc c level s) = vault s := by
  unfold nbAgc
  split <;> simp

@[simp] theorem adcClip_vault (c clipped) : vault (adcClip c clipped s) = vault s := by simp [adcClip]

@[simp] theorem synthWrite_vault (c) : vault (synthWrite c s) = vault s := by
  unfold synthWrite
  dsimp only
  split <;> simp

@[simp] theorem synthLock_vault (c) : vault (synthLock c s) = vault s := by simp [synthLock]
@[simp] theorem radTxRaw_vault (h p) : vault (radTxRaw h p s).st = vault s := by simp [radTxRaw]

end Sys2Proof.Proofs
end

section
/-!
PROOFS. What no function beside the fuses and the latch reaches: plans, transmissions and slots.
-/
namespace Sys2Proof.Proofs
open Machine Safety Laws

variable (s : State)

/-! FORECAST, the lane-plan builder (R245-R257, R268-R278). -/

@[simp] theorem preCnt_vault (i) : vault (preCnt i s) = vault s := by simp [preCnt]
@[simp] theorem precommit_vault (pl e inSuper reserved) : vault (precommit pl e inSuper reserved s).1 = vault s := by simp [precommit]
@[simp] theorem placeTx_vault (e pl) : vault (placeTx e pl s).1 = vault s := by simp [placeTx]

@[simp] theorem tryTx_vault (t e l pl) : vault (tryTx t e l pl s).1 = vault s := by
  induction l generalizing pl s with
  | nil => rfl
  | cons x l ih =>
    rw [tryTx]
    dsimp only
    split <;> simp [ih]

@[simp] theorem reserveAck_vault (t c f x ch lane pl) : vault (reserveAck t c f x ch lane pl s).1 = vault s := by simp [reserveAck]

@[simp] theorem tryRx_vault (t f x ch l pl) : vault (tryRx t f x ch l pl s).1 = vault s := by
  induction l generalizing pl s with
  | nil => rfl
  | cons y l ih =>
    rw [tryRx]
    dsimp only
    split <;> simp [ih]

@[simp] theorem chooseFrame_vault (t pl x) : vault (chooseFrame t pl x s).1 = vault s := by simp [chooseFrame]

@[simp] theorem doCell_vault (x pl) : vault (doCell x pl s).1 = vault s := by
  unfold doCell
  dsimp only
  (repeat' split) <;> simp

@[simp] theorem doRx_vault (x pl) : vault (doRx x pl s).1 = vault s := by
  unfold doRx
  dsimp only
  split <;> simp

@[simp] theorem doCells_vault (pl) : vault (doCells pl s).1 = vault s := by simp [doCells]

@[simp] theorem doBeacon_vault (i x pl) : vault (doBeacon i x pl s).1 = vault s := by
  unfold doBeacon
  dsimp only
  split <;> simp

@[simp] theorem fillRun_vault (i peer f stop k t pl) : vault (fillRun i peer f stop k t pl s).1 = vault s := by
  induction k generalizing t pl s with
  | zero => rfl
  | succ k ih =>
    rw [fillRun]
    dsimp only
    split <;> simp [ih]

@[simp] theorem doRun_vault (i x d pl) : vault (doRun i x d pl s).1 = vault s := by
  unfold doRun
  dsimp only
  (repeat' split) <;> simp

@[simp] theorem superLane_vault (i x pl) : vault (superLane i x pl s).1 = vault s := by
  unfold superLane
  dsimp only
  split <;> simp

@[simp] theorem doSuper_vault (i pl) : vault (doSuper i pl s).1 = vault s := by simp [doSuper]

@[simp] theorem endRaw_vault (c status info t rl valid) : vault (endRaw c status info t rl valid s) = vault s := by
  unfold endRaw
  split <;> simp

@[simp] theorem doRaw_vault (c pl) : vault (doRaw c pl s).1 = vault s := by
  unfold doRaw
  dsimp only
  (repeat' split) <;> simp

@[simp] theorem buildPlan_vault (n) : vault (buildPlan n s) = vault s := by simp [buildPlan]
@[simp] theorem takeBack_vault (n) : vault (takeBack n s) = vault s := by simp [takeBack]

/-! Frames and acknowledgements in the slot engine (R258-R266). -/

@[simp] theorem replayCheck_vault (n gen c) : vault (replayCheck n gen c s).1 = vault s := by simp [replayCheck]

@[simp] theorem storeMap_vault (n z) : vault (storeMap n z s) = vault s := by
  unfold storeMap
  split <;> simp

@[simp] theorem heardSource_vault (offset) : vault (heardSource offset s) = vault s := by simp [heardSource]
@[simp] theorem txReport_vault (e acked rssi snr lqi) : vault (txReport e acked rssi snr lqi s) = vault s := by simp [txReport]
@[simp] theorem settleBackoff_vault (e ok) : vault (settleBackoff e ok s) = vault s := by simp [settleBackoff]

@[simp] theorem failFrame_vault (e) : vault (failFrame e s) = vault s := by
  unfold failFrame
  split <;> simp

@[simp] theorem completeFrame_vault (e acked rssi snr lqi) : vault (completeFrame e acked rssi snr lqi s) = vault s := by
  simp [completeFrame]
@[simp] theorem beaconLost_vault (status i) : vault (beaconLost status i s) = vault s := by simp [beaconLost]

@[simp] theorem freeTestChain_vault (r) : vault (freeTestChain r s) = vault s := by
  unfold freeTestChain
  split <;> simp

@[simp] theorem endTest_vault (status) : vault (endTest status s) = vault s := by
  unfold endTest
  split <;> simp

@[simp] theorem endEntry_vault (status e) : vault (endEntry status e s) = vault s := by
  unfold endEntry
  split <;> simp

@[simp] theorem ackListenOpen_vault (c) : vault (ackListenOpen c s) = vault s := by
  unfold ackListenOpen
  split <;> simp

@[simp] theorem ackValid_vault (w a) : vault (ackValid w a s).1 = vault s := by
  unfold ackValid
  dsimp only
  (repeat' split) <;> simp

@[simp] theorem ackWaitEnd_vault (c ack) : vault (ackWaitEnd c ack s) = vault s := by
  unfold ackWaitEnd
  (repeat' split) <;> simp

/-! The transmit sequence of a chain (R144-R170). -/

@[simp] theorem modHead_vault (c f) : vault (modHead c f s) = vault s := by simp [modHead]
@[simp] theorem popTx_vault (c) : vault (popTx c s) = vault s := by simp [popTx]
@[simp] theorem dropCoex_vault (c) : vault (dropCoex c s) = vault s := by simp [dropCoex]
@[simp] theorem releaseTx_vault (c) : vault (releaseTx c s) = vault s := by simp [releaseTx]
@[simp] theorem abandonTx_vault (c status e) : vault (abandonTx c status e s) = vault s := by simp [abandonTx]
@[simp] theorem modTx_vault (c p f) : vault (modTx c p f s) = vault s := by simp [modTx]

@[simp] theorem secureStart_vault (c) : vault (secureStart c s) = vault s := by
  unfold secureStart
  dsimp only
  split <;> simp

@[simp] theorem secureDeadline_vault (c) : vault (secureDeadline c s) = vault s := by
  unfold secureDeadline
  split <;> simp

@[simp] theorem txCoexReq_vault (c) : vault (txCoexReq c s) = vault s := by
  unfold txCoexReq
  split <;> simp

@[simp] theorem txRffeOn_vault (c) : vault (txRffeOn c s) = vault s := by
  unfold txRffeOn
  split <;> simp

@[simp] theorem grantDeadline_vault (c level) : vault (grantDeadline c level s) = vault s := by
  unfold grantDeadline
  split <;> simp

@[simp] theorem txPaEnable_vault (c) : vault (txPaEnable c s) = vault s := by
  unfold txPaEnable
  split <;> simp

@[simp] theorem lockDeadline_vault (c) : vault (lockDeadline c s) = vault s := by
  unfold lockDeadline
  split <;> simp

@[simp] theorem txModulation_vault (c) : vault (txModulation c s) = vault s := by
  unfold txModulation
  split <;> simp

@[simp] theorem addSent_vault (e) : vault (addSent e s) = vault s := by simp [addSent]

@[simp] theorem finishEntry_vault (t rl valid) : vault (finishEntry t rl valid s) = vault s := by
  unfold finishEntry
  dsimp only
  (repeat' split) <;> simp

@[simp] theorem coupler_vault (c fwd rev) : vault (coupler c fwd rev s) = vault s := by simp [coupler]

@[simp] theorem txLastSymbol_vault (c fwd rev inputOk) : vault (txLastSymbol c fwd rev inputOk s) = vault s := by
  unfold txLastSymbol
  split <;> simp

@[simp] theorem txPaDisable_vault (c) : vault (txPaDisable c s) = vault s := by
  unfold txPaDisable
  split <;> simp

@[simp] theorem txEnRelease_vault (c) : vault (txEnRelease c s) = vault s := by
  unfold txEnRelease
  split <;> simp

@[simp] theorem blankEnd_vault (c) : vault (blankEnd c s) = vault s := by simp [blankEnd]
@[simp] theorem stopTx_vault (c status t) : vault (stopTx c status t s) = vault s := by simp [stopTx]

@[simp] theorem grantRevoke_vault (c) : vault (grantRevoke c s) = vault s := by
  unfold grantRevoke
  dsimp only
  (repeat' split) <;> simp

@[simp] theorem synthUnlock_vault (c) : vault (synthUnlock c s) = vault s := by
  unfold synthUnlock
  dsimp only
  (repeat' split) <;> simp

@[simp] theorem sendAck_vault (e n level frame) : vault (sendAck e n level frame s).1 = vault s := by simp [sendAck]
@[simp] theorem markAcked_vault (handle) : vault (markAcked handle s) = vault s := by simp [markAcked]

@[simp] theorem enhAckCommit_vault (buffer) : vault (enhAckCommit buffer s) = vault s := by
  unfold enhAckCommit
  split <;> simp

/-! The slot engine (R242-R294). -/

@[simp] theorem armBoundary_vault (ns) : vault (armBoundary ns s) = vault s := by simp [armBoundary]
@[simp] theorem slotSet_vault (h p) : vault (slotSet h p s).st = vault s := by simp [slotSet]

@[simp] theorem slotStart_vault (p) : vault (slotStart p s).st = vault s := by
  unfold slotStart
  extract_lets started
  have hs : vault started = vault s := by simp [started]
  (repeat' split) <;> simp [hs]

@[simp] theorem slotStop_vault : vault (slotStop s).st = vault s := by simp [slotStop]
@[simp] theorem slotTemplate_vault (h p) : vault (slotTemplate h p s).st = vault s := by simp [slotTemplate]
@[simp] theorem slotCfg_vault (h p) : vault (slotCfg h p s).st = vault s := by simp [slotCfg]

@[simp] theorem slotListLoad_vault (h p) : vault (slotListLoad h p s).st = vault s := by
  unfold slotListLoad
  dsimp only
  (repeat' split) <;> simp

@[simp] theorem applyList_vault (off f) : vault (applyList off f s) = vault s := by simp [applyList]
@[simp] theorem activateList_vault (off f a) : vault (activateList off f a s).st = vault s := by simp [activateList]

@[simp] theorem slotListActivate_vault (h p) : vault (slotListActivate h p s).st = vault s := by
  unfold slotListActivate
  dsimp only
  (repeat' split) <;> simp

@[simp] theorem slotSuperframeCfg_vault (h p) : vault (slotSuperframeCfg h p s).st = vault s := by simp [slotSuperframeCfg]

@[simp] theorem settleRes_vault (r) : vault (settleRes r s) = vault s := by
  unfold settleRes
  split <;> simp

@[simp] theorem settleRuns_vault (n) : vault (settleRuns n s) = vault s := by simp [settleRuns]
@[simp] theorem superframeEvent_vault (n kind) : vault (superframeEvent n kind s) = vault s := by simp [superframeEvent]

@[simp] theorem substitute_vault (q id) : vault (substitute q id s) = vault s := by
  unfold substitute
  dsimp only
  (repeat' split) <;> simp

@[simp] theorem slotTx_vault (h p) : vault (slotTx h p s).st = vault s := by
  unfold slotTx
  dsimp only
  split
  · rfl
  · split
    · rfl
    · split
      · rfl
      · split
        · rfl
        · next h => simp [allocBuf_vault h]

@[simp] theorem setShift_vault (p) : vault (setShift p s) = vault s := by simp [setShift]
@[simp] theorem slotFrontCfg_vault (h p) : vault (slotFrontCfg h p s).st = vault s := by simp [slotFrontCfg]
@[simp] theorem frontBadPos_vault : vault (frontBadPos s) = vault s := by simp [frontBadPos]
@[simp] theorem frontError_vault (e) : vault (frontError e s) = vault s := by simp [frontError]
@[simp] theorem frontInEdge_vault (falling) : vault (frontInEdge falling s) = vault s := by simp [frontInEdge]
@[simp] theorem frontMissing_vault : vault (frontMissing s) = vault s := by simp [frontMissing]
@[simp] theorem frontReport_vault (port asn boundary) : vault (frontReport port asn boundary s) = vault s := by simp [frontReport]
@[simp] theorem slotFollowCfg_vault (h p) : vault (slotFollowCfg h p s).st = vault s := by simp [slotFollowCfg]
@[simp] theorem beaconMiss_vault : vault (beaconMiss s) = vault s := by simp [beaconMiss]
@[simp] theorem guardReached_vault : vault (guardReached s) = vault s := by simp [guardReached]
@[simp] theorem guardNow_vault : vault (guardNow s) = vault s := by simp [guardNow]
@[simp] theorem beaconHeard_vault (offset) : vault (beaconHeard offset s) = vault s := by simp [beaconHeard]

@[simp] theorem endSlot_vault : vault (endSlot s) = vault s := by
  unfold endSlot
  split <;> simp

@[simp] theorem nextSlot_vault : vault (nextSlot s) = vault s := by simp [nextSlot]
@[simp] theorem frontStep_vault : vault (frontStep s) = vault s := by simp [frontStep]
@[simp] theorem fallback_vault (p) : vault (fallback p s) = vault s := by simp [fallback]

@[simp] theorem freezePlans_vault (late) : vault (freezePlans late s) = vault s := by
  unfold freezePlans
  split <;> simp

@[simp] theorem takeEntries_vault : vault (takeEntries s) = vault s := by
  unfold takeEntries
  refine vault_foldl (fun s n => ?_) _ s
  split <;> simp

@[simp] theorem activations_vault : vault (activations s) = vault s := by
  unfold activations
  refine vault_foldl (fun s f => ?_) _ s
  split <;> simp

@[simp] theorem stopEffect_vault : vault (stopEffect s) = vault s := by simp [stopEffect]
@[simp] theorem slotStopEffect_vault : vault (slotStopEffect s) = vault s := by simp [slotStopEffect]
@[simp] theorem boundaryCore_vault (env) : vault (boundaryCore env s) = vault s := by simp [boundaryCore]

end Sys2Proof.Proofs
end

section
/-!
PROOFS. What no function beside the fuses and the latch reaches: links, the packet engine, the twin, the ports and PCIe.
-/
namespace Sys2Proof.Proofs
open Machine Safety Laws

variable (s : State)

/-! Link frames on their way out (R458-R468). -/

@[simp] theorem putOnWire_vault (p f) : vault (putOnWire p f s) = vault s := by simp [putOnWire]
@[simp] theorem sealLink_vault (p f) : vault (sealLink p f s) = vault s := by simp [sealLink]
@[simp] theorem transmit_vault (p f) : vault (transmit p f s) = vault s := by simp [transmit]
@[simp] theorem flushLinks_vault : vault (flushLinks s) = vault s := by simp [flushLinks]
@[simp] theorem remember_vault (src vl seq) : vault (remember src vl seq s) = vault s := by simp [remember]
@[simp] theorem newFrame_vault (vl kind dst body msg) : vault (newFrame vl kind dst body msg s).1 = vault s := by simp [newFrame]
@[simp] theorem toPeer_vault (p vl kind body msg) : vault (toPeer p vl kind body msg s) = vault s := by simp [toPeer]
@[simp] theorem broadcast_vault (vl kind body msg) : vault (broadcast vl kind body msg s) = vault s := by simp [broadcast]
@[simp] theorem noteRing_vault (member port up) : vault (noteRing member port up s) = vault s := by simp [noteRing]
@[simp] theorem linkState_vault (p up) : vault (linkState p up s) = vault s := by simp [linkState]
@[simp] theorem handOver_vault (kind panId addr o ts) : vault (handOver kind panId addr o ts s) = vault s := by simp [handOver]
@[simp] theorem tellBoundary_vault : vault (tellBoundary s) = vault s := by simp [tellBoundary]
@[simp] theorem toLinkRing_vault (p f body) : vault (toLinkRing p f body s) = vault s := by simp [toLinkRing]

/-! The packet engine (R23-R29). -/

@[simp] theorem arrive_vault (profile x) : vault (arrive profile x s) = vault s := by simp [arrive]
@[simp] theorem toFw_vault (x) : vault (toFw x s) = vault s := by simp [toFw]

@[simp] theorem route_vault (x) : vault (route x s) = vault s := by
  unfold route
  dsimp only
  (repeat' split) <;> simp

@[simp] theorem downlink_vault (f) : vault (downlink f s).1 = vault s := by
  unfold downlink
  split
  · rfl
  · next h => simp [allocBuf_vault h]

@[simp] theorem tmEnqueue_vault : vault (tmEnqueue s) = vault s := by
  unfold tmEnqueue
  split <;> simp

@[simp] theorem sourceLookup_vault (f) : vault (sourceLookup f s).1 = vault s := by
  unfold sourceLookup
  dsimp only
  (repeat' split) <;> simp

@[simp] theorem noteStatus_vault (handle status n f) : vault (noteStatus handle status n f s) = vault s := by simp [noteStatus]

@[simp] theorem superAck_vault (handle f) : vault (superAck handle f s).1 = vault s := by
  unfold superAck
  split <;> simp

@[simp] theorem judged_vault (handle status n f) : vault (judged handle status n f s).1 = vault s := by simp [judged]

@[simp] theorem heardFrom_vault (n r f) : vault (heardFrom n r f s) = vault s := by
  unfold heardFrom
  (repeat' split) <;> simp

@[simp] theorem beaconFrom_vault (n r f) : vault (beaconFrom n r f s) = vault s := by
  unfold beaconFrom
  (repeat' split) <;> simp

@[simp] theorem discard_vault (id) : vault (Machine.discard id s) = vault s := by simp [Machine.discard]

@[simp] theorem checkFrame_vault (n f) : vault (checkFrame n f s).1 = vault s := by
  unfold checkFrame
  dsimp only
  (repeat' split) <;> simp

@[simp] theorem knownSource_vault (id w n r f) : vault (knownSource id w n r f s) = vault s := by simp [knownSource]

/-! The Dalhiuf links (R457-R486). -/

@[simp] theorem portUp_vault (p) : vault (portUp p s) = vault s := by simp [portUp]
@[simp] theorem portDown_vault (p) : vault (portDown p s) = vault s := by simp [portDown]
@[simp] theorem moveFollowers_vault (p q) : vault (moveFollowers p q s) = vault s := by simp [moveFollowers]

@[simp] theorem upPortLost_vault (p) : vault (upPortLost p s) = vault s := by
  unfold upPortLost
  (repeat' split) <;> simp

@[simp] theorem takeDown_vault (p) : vault (takeDown p s) = vault s := by simp [takeDown]
@[simp] theorem lnkPortCfg_vault (h p) : vault (lnkPortCfg h p s).st = vault s := by simp [lnkPortCfg]
@[simp] theorem lnkTopology_vault (h p) : vault (lnkTopology h p s).st = vault s := by simp [lnkTopology]
@[simp] theorem lnkStatus_vault (h p) : vault (lnkStatus h p s).st = vault s := by simp [lnkStatus]

@[simp] theorem lnkSend_vault (h p) : vault (lnkSend h p s).st = vault s := by
  unfold lnkSend
  (repeat' split) <;> simp

@[simp] theorem dlBlockLock_vault (p) : vault (dlBlockLock p s) = vault s := by simp [dlBlockLock]
@[simp] theorem dlHelloTx_vault (p) : vault (dlHelloTx p s) = vault s := by simp [dlHelloTx]
@[simp] theorem dlHelloRx_vault (p setId member twin chip) : vault (dlHelloRx p setId member twin chip s) = vault s := by
  simp [dlHelloRx]
@[simp] theorem dlTrainingUp_vault (p) : vault (dlTrainingUp p s) = vault s := by simp [dlTrainingUp]
@[simp] theorem dlDownTimeout_vault (p) : vault (dlDownTimeout p s) = vault s := by simp [dlDownTimeout]
@[simp] theorem dlOverflow_vault (p) : vault (dlOverflow p s) = vault s := by simp [dlOverflow]
@[simp] theorem forward_vault (p qs f) : vault (forward p qs f s) = vault s := by simp [forward]
@[simp] theorem deltaAcked_vault (seq) : vault (deltaAcked seq s) = vault s := by simp [deltaAcked]
@[simp] theorem peerBeat_vault (claim) : vault (peerBeat claim s) = vault s := by simp [peerBeat]
@[simp] theorem authFailed_vault (p f) : vault (authFailed p f s) = vault s := by simp [authFailed]

/-! The hot twin (R469-R486). -/

@[simp] theorem twinCfg_vault (h p) : vault (twinCfg h p s).st = vault s := by simp [twinCfg]
@[simp] theorem twinClaim_vault (h p) : vault (twinClaim h p s).st = vault s := by simp [twinClaim]
@[simp] theorem twinSwitch_vault (h p) : vault (twinSwitch h p s).st = vault s := by simp [twinSwitch]
@[simp] theorem twinStatus_vault (h p) : vault (twinStatus h p s).st = vault s := by simp [twinStatus]
@[simp] theorem restore_vault (step budget v) : vault (restore step budget v s) = vault s := by simp [restore]
@[simp] theorem twinSaveState_vault (h p) : vault (twinSaveState h p s).st = vault s := by simp [twinSaveState]

@[simp] theorem takeSnapshot_vault : vault (takeSnapshot s) = vault s := by
  unfold takeSnapshot
  split <;> simp

@[simp] theorem twinSaveDone_vault (isRestore authOk) : vault (twinSaveDone isRestore authOk s) = vault s := by
  unfold twinSaveDone
  (repeat' split) <;> simp

@[simp] theorem silence_vault (c) : vault (silence c s) = vault s := by
  unfold silence
  split <;> simp

@[simp] theorem gatesOff_vault : vault (gatesOff s) = vault s := by
  unfold gatesOff
  dsimp only
  (repeat' split) <;> simp

@[simp] theorem notLive_vault : vault (notLive s) = vault s := by simp [notLive]
@[simp] theorem twinWatchdog_vault : vault (twinWatchdog s) = vault s := by simp [twinWatchdog]
@[simp] theorem stepCounters_vault : vault (stepCounters s) = vault s := by simp [stepCounters]

@[simp] theorem gateSwitch_vault : vault (gateSwitch s) = vault s := by
  unfold gateSwitch
  (repeat' split) <;> simp

@[simp] theorem claimLost_vault : vault (claimLost s) = vault s := by simp [claimLost]
@[simp] theorem claimWon_vault : vault (claimWon s) = vault s := by simp [claimWon]
@[simp] theorem claimArbitration_vault (peer busOk) : vault (claimArbitration peer busOk s) = vault s := by simp [claimArbitration]
@[simp] theorem heartbeatTx_vault : vault (heartbeatTx s) = vault s := by simp [heartbeatTx]
@[simp] theorem heartbeatMissing_vault : vault (heartbeatMissing s) = vault s := by simp [heartbeatMissing]
@[simp] theorem keyEntry_vault (d) : vault (keyEntry d s).1 = vault s := by simp [keyEntry]
@[simp] theorem deltaOf_vault : vault (deltaOf s).1 = vault s := by simp [deltaOf]
@[simp] theorem sendTwin_vault (kind l) : vault (sendTwin kind l s) = vault s := by simp [sendTwin]

@[simp] theorem sendDelta_vault : vault (sendDelta s) = vault s := by
  generalize ht : sendDelta s = t
  unfold sendDelta at ht
  dsimp only at ht
  subst ht
  rw [vault_ite, vault_ite, sendTwin_vault, withTwin_vault, ite_self, sendTwin_vault, twinCnt_vault, withTwin_vault,
    deltaOf_vault, ite_self]

@[simp] theorem deltaAckTimeout_vault : vault (deltaAckTimeout s) = vault s := by simp [deltaAckTimeout]

@[simp] theorem applyKey_vault (d) : vault (applyKey d s) = vault s := by
  unfold applyKey
  dsimp only
  (repeat' split) <;> simp

@[simp] theorem applyCounter_vault (x) : vault (applyCounter x s) = vault s := by simp [applyCounter]
@[simp] theorem applyReplay_vault (r) : vault (applyReplay r s) = vault s := by simp [applyReplay]

@[simp] theorem applyNode_vault (x) : vault (applyNode x s) = vault s := by
  unfold applyNode
  split <;> simp

@[simp] theorem applyQueue_vault (x) : vault (applyQueue x s) = vault s := by
  unfold applyQueue
  refine vault_foldl (fun s c => ?_) _ s
  split <;> simp

@[simp] theorem applyCamp_vault (x) : vault (applyCamp x s) = vault s := by simp [applyCamp]
@[simp] theorem applySections_vault (d) : vault (applySections d s) = vault s := by simp [applySections]
@[simp] theorem sendAckOf_vault (seq) : vault (sendAckOf seq s) = vault s := by simp [sendAckOf]

/-! The Ethernet ports, and PCIe with its data rings (R494-R514). -/

@[simp] theorem sysEthCfg_vault (h p) : vault (sysEthCfg h p s).st = vault s := by simp [sysEthCfg]
@[simp] theorem installSa_vault (p) : vault (installSa p s).st = vault s := by simp [installSa]

@[simp] theorem activateAn_vault (p) : vault (activateAn p s).st = vault s := by
  unfold activateAn
  split <;> simp

@[simp] theorem removeSa_vault (p) : vault (removeSa p s).st = vault s := by
  unfold removeSa
  dsimp only
  (repeat' split) <;> simp

@[simp] theorem sysMacsecSa_vault (h p) : vault (sysMacsecSa h p s).st = vault s := by simp [sysMacsecSa]
@[simp] theorem rxDrop_vault (e) : vault (rxDrop e s) = vault s := by simp [rxDrop]
@[simp] theorem icvFail_vault (e) : vault (icvFail e s) = vault s := by simp [icvFail]
@[simp] theorem ethDeliver_vault (e f data) : vault (ethDeliver e f data s) = vault s := by simp [ethDeliver]

@[simp] theorem macsecValidate_vault (e f) : vault (macsecValidate e f s).1 = vault s := by
  unfold macsecValidate
  dsimp only
  (repeat' split) <;> simp

@[simp] theorem ethFrameRx_vault (e f) : vault (ethFrameRx e f s) = vault s := by
  unfold ethFrameRx
  dsimp only
  (repeat' split) <;> simp

@[simp] theorem pauseExpiry_vault (e) : vault (pauseExpiry e s) = vault s := by simp [pauseExpiry]
@[simp] theorem ethLink_vault (e up speed) : vault (ethLink e up speed s) = vault s := by simp [ethLink]
@[simp] theorem ethSend_vault (e f) : vault (ethSend e f s) = vault s := by simp [ethSend]
@[simp] theorem stopEth_vault (e) : vault (stopEth e s) = vault s := by simp [stopEth]
@[simp] theorem drawPn_vault (e an a) : vault (drawPn e an a s) = vault s := by simp [drawPn]

@[simp] theorem serveEth_vault (e) : vault (serveEth e s) = vault s := by
  unfold serveEth
  dsimp only
  (repeat' split) <;> simp

@[simp] theorem serveDl_vault (p) : vault (serveDl p s) = vault s := by
  unfold serveDl
  dsimp only
  (repeat' split) <;> simp

@[simp] theorem serveFw_vault : vault (serveFw s) = vault s := by
  unfold serveFw
  dsimp only
  split <;> simp

@[simp] theorem portServe_vault (p) : vault (portServe p s) = vault s := by simp [portServe]
@[simp] theorem withTh_vault (r f) : vault (withTh r f s) = vault s := by simp [withTh]
@[simp] theorem withFh_vault (r f) : vault (withFh r f s) = vault s := by simp [withFh]
@[simp] theorem badTail_vault (fh r) : vault (badTail fh r s) = vault s := by simp [badTail]
@[simp] theorem thDoorbell_vault (r value) : vault (thDoorbell r value s) = vault s := by simp [thDoorbell]
@[simp] theorem fhDoorbell_vault (r value) : vault (fhDoorbell r value s) = vault s := by simp [fhDoorbell]
@[simp] theorem thNoBuffer_vault (r) : vault (thNoBuffer r s) = vault s := by simp [thNoBuffer]

@[simp] theorem thNext_vault (r) : vault (thNext r s).1 = vault s := by
  unfold thNext
  dsimp only
  (repeat' split) <;> simp

@[simp] theorem fhFrame_vault (e) : vault (fhFrame e s).1 = vault s := by
  unfold fhFrame
  dsimp only
  split
  · rfl
  · split
    · rfl
    · split
      · rfl
      · next h => simp [allocBuf_vault h]

@[simp] theorem pcieLinkUp_vault (width speed) : vault (pcieLinkUp width speed s) = vault s := by simp [pcieLinkUp]
@[simp] theorem aerError_vault (kind) : vault (aerError kind s) = vault s := by simp [aerError]
@[simp] theorem pcieFlr_vault (func) : vault (pcieFlr func s) = vault s := by simp [pcieFlr]

end Sys2Proof.Proofs
end

section
/-!
PROOFS. What no function beside the fuses and the latch reaches: updates, tests, resets, registers, health and boot.
-/
namespace Sys2Proof.Proofs
open Machine Safety Laws

variable (s : State)

/-! What wears and is replaced (R525-R531). -/

@[simp] theorem hlthCnt_vault (i) : vault (hlthCnt i s) = vault s := by simp [hlthCnt]

@[simp] theorem retireBank_vault (b c) : vault (retireBank b c s) = vault s := by
  unfold retireBank
  dsimp only
  split <;> simp

@[simp] theorem remapBlock_vault (b) : vault (remapBlock b s).1 = vault s := by simp [remapBlock]

/-! Image updates (R427-R456). -/

@[simp] theorem countDrop_vault (st) : vault (countDrop st s) = vault s := by simp [countDrop]
@[simp] theorem journal_vault (slot kind arg) : vault (journal slot kind arg s) = vault s := by simp [journal]
@[simp] theorem flushHeld_vault : vault (flushHeld s) = vault s := by simp [flushHeld]
@[simp] theorem spoil_vault (first count) : vault (spoil first count s) = vault s := by simp [spoil]
@[simp] theorem fwReplay_vault (readable) : vault (fwReplay readable s) = vault s := by simp [fwReplay]
@[simp] theorem openFw_vault (p) : vault (openFw p s).st = vault s := by simp [openFw]
@[simp] theorem campCheck_vault (c) : vault (campCheck c s) = vault s := by simp [campCheck]

@[simp] theorem fromLibrary_vault (c m) : vault (fromLibrary c m s) = vault s := by
  unfold fromLibrary
  split <;> simp

@[simp] theorem openCamp_vault (c p) : vault (openCamp c p s).st = vault s := by simp [openCamp]
@[simp] theorem updOpen_vault (h p) : vault (updOpen h p s).st = vault s := by simp [updOpen]
@[simp] theorem fwDrop_vault (d) : vault (fwDrop d s).1 = vault s := by simp [fwDrop]
@[simp] theorem campDrop_vault (c d) : vault (campDrop c d s).1 = vault s := by simp [campDrop]
@[simp] theorem recoveryDrop_vault (d) : vault (recoveryDrop d s).1 = vault s := by simp [recoveryDrop]

theorem takeDrops_vault {f : DropRec → State → State × Nat} (hf : ∀ d s, vault (f d s).1 = vault s) (n : Nat) (l : List DropRec)
    (r : State × Nat × Nat) : vault (takeDrops f n l r).1 = vault r.1 := by
  induction l generalizing n r with
  | nil => rfl
  | cons d l ih => exact (ih ..).trans (hf d r.1)

@[simp] theorem blockFw_vault (h p) : vault (blockFw h p s).st = vault s := by
  unfold blockFw
  simp [takeDrops_vault]

@[simp] theorem updBlock_vault (h p) : vault (updBlock h p s).st = vault s := by
  unfold updBlock
  simp [takeDrops_vault]

@[simp] theorem dropIntake_vault : vault (dropIntake s) = vault s := by
  unfold dropIntake
  dsimp only
  (repeat' split) <;> simp

@[simp] theorem settleBlocks_vault (bad) : vault (settleBlocks bad s) = vault s := by simp [settleBlocks]
@[simp] theorem startVerify_vault (job) : vault (startVerify job s) = vault s := by simp [startVerify]
@[simp] theorem dropHeld_vault (i data) : vault (dropHeld i data s) = vault s := by simp [dropHeld]
@[simp] theorem dropSpoilt_vault (i) : vault (dropSpoilt i s) = vault s := by simp [dropSpoilt]

@[simp] theorem dropDurable_vault (i readBackOk rewriteOk) : vault (dropDurable i readBackOk rewriteOk s) = vault s := by
  unfold dropDurable
  split <;> simp

@[simp] theorem updVerify_vault (h p) : vault (updVerify h p s).st = vault s := by simp [updVerify]

@[simp] theorem fwVerifyDone_vault (failed imageOk) : vault (fwVerifyDone failed imageOk s) = vault s := by
  unfold fwVerifyDone
  dsimp only
  (repeat' split) <;> simp

@[simp] theorem writeBoot_vault (f) : vault (writeBoot f s) = vault s := by simp [writeBoot]
@[simp] theorem trialSlot_vault (p) : vault (trialSlot p s).st = vault s := by simp [trialSlot]
@[simp] theorem startRecovery_vault (h) : vault (startRecovery h s).st = vault s := by simp [startRecovery]
/-! Node image campaigns (R444-R452). -/

@[simp] theorem withdraw_vault (q p) : vault (withdraw q p s) = vault s := by simp [withdraw]

theorem putDrop_vault {q : Nat} {d : DropRec} {addr port : Nat} {x : QFrame} {s t : State} (h : putDrop q d addr port x s = some t) :
    vault t = vault s := by
  unfold putDrop at h
  dsimp only at h
  split at h
  · cases h
  · next ha =>
    split at h
    · cases h
    · cases h
      simp [allocBuf_vault ha]

@[simp] theorem fillWindow_vault (c n) : vault (fillWindow c n s) = vault s := by
  induction n generalizing s with
  | zero => rfl
  | succ n ih =>
    rw [fillWindow]
    dsimp only
    split
    · rfl
    · split
      · simp
      · split
        · rfl
        · next h => simp [ih, putDrop_vault h]

@[simp] theorem takeBackRound_vault (c) : vault (takeBackRound c s) = vault s := by simp [takeBackRound]
@[simp] theorem endRound_vault (c) : vault (endRound c s) = vault s := by simp [endRound]
@[simp] theorem memberFail_vault (c) : vault (memberFail c s) = vault s := by simp [memberFail]
@[simp] theorem putMember_vault (c i m) : vault (putMember c i m s) = vault s := by simp [putMember]
@[simp] theorem endVisit_vault (c i) : vault (endVisit c i s) = vault s := by simp [endVisit]
@[simp] theorem passDone_vault (c i) : vault (passDone c i s) = vault s := by simp [passDone]

@[simp] theorem repairRoute_vault (addr port) : vault (repairRoute addr port s).1 = vault s := by
  unfold repairRoute
  dsimp only
  (repeat' split) <;> simp

@[simp] theorem fillVisit_vault (c i n) : vault (fillVisit c i n s) = vault s := by
  induction n generalizing s with
  | zero => rfl
  | succ n ih =>
    rw [fillVisit]
    dsimp only
    split
    · rfl
    · split
      · rfl
      · split
        · simp
        · split
          · simp
          · next h => simp [ih, putDrop_vault h]

@[simp] theorem openVisits_vault (c) : vault (openVisits c s) = vault s := by simp [openVisits]
@[simp] theorem serveCamp_vault (c) : vault (serveCamp c s) = vault s := by simp [serveCamp]
@[simp] theorem serveCamps_vault : vault (serveCamps s) = vault s := by simp [serveCamps]
@[simp] theorem pauseCamp_vault (c) : vault (pauseCamp c s) = vault s := by simp [pauseCamp]
@[simp] theorem cancelCamp_vault (c) : vault (cancelCamp c s) = vault s := by simp [cancelCamp]
@[simp] theorem startRepair_vault (c) : vault (startRepair c s) = vault s := by simp [startRepair]
@[simp] theorem addMembers_vault (c l) : vault (addMembers c l s).st = vault s := by simp [addMembers]
@[simp] theorem removeMembers_vault (c l) : vault (removeMembers c l s).st = vault s := by simp [removeMembers]
@[simp] theorem updCampaignCfg_vault (h p) : vault (updCampaignCfg h p s).st = vault s := by simp [updCampaignCfg]
@[simp] theorem report_vault (c i r) : vault (report c i r s) = vault s := by simp [report]

@[simp] theorem nodeReport_vault (addr r) : vault (nodeReport addr r s) = vault s := by
  unfold nodeReport
  split <;> simp

@[simp] theorem windowStart_vault (c) : vault (windowStart c s) = vault s := by simp [windowStart]
@[simp] theorem windowEnd_vault (c) : vault (windowEnd c s) = vault s := by simp [windowEnd]
@[simp] theorem reportWait_vault (c) : vault (reportWait c s) = vault s := by simp [reportWait]
@[simp] theorem visitTimeout_vault (c i) : vault (visitTimeout c i s) = vault s := by simp [visitTimeout]
@[simp] theorem doneWait_vault (c) : vault (doneWait c s) = vault s := by simp [doneWait]

/-! Tests, the TAP, and the slot boundary as a whole (R242, R543-R558). -/

@[simp] theorem placeTests_vault (r carrier air gap bytes n t pl) :
    vault (placeTests r carrier air gap bytes n t pl s) = vault s := by
  induction n generalizing t pl s with
  | zero => rfl
  | succ n ih =>
    rw [placeTests]
    dsimp only
    split <;> simp [ih]

@[simp] theorem beginTest_vault : vault (beginTest s) = vault s := by
  unfold beginTest
  split
  · rfl
  · next r _ =>
    extract_lets c held cleared
    have hc : vault cleared = vault s := by
      refine (vault_foldl (fun s p => ?_) _ held).trans (by simp [held])
      split <;> simp
    split <;> simp [hc]

@[simp] theorem testBoundary_vault : vault (testBoundary s) = vault s := by
  unfold testBoundary
  split <;> simp

@[simp] theorem startTest_vault (r) : vault (startTest r s).st = vault s := by simp [startTest]
@[simp] theorem holdPort_vault (target) : vault (holdPort target s) = vault s := by simp [holdPort]

@[simp] theorem startChain_vault (r) : vault (startChain r s).st = vault s := by
  unfold startChain
  split <;> simp

@[simp] theorem testLoopback_vault (h p) : vault (testLoopback h p s).st = vault s := by
  unfold testLoopback
  (repeat' split) <;> simp

@[simp] theorem testPattern_vault (h p) : vault (testPattern h p s).st = vault s := by simp [testPattern]
@[simp] theorem testBist_vault (h p) : vault (testBist h p s).st = vault s := by simp [testBist]
@[simp] theorem testStatus_vault (h p) : vault (testStatus h p s).st = vault s := by simp [testStatus]
@[simp] theorem bistOutcome_vault (r fail) : vault (bistOutcome r fail s) = vault s := by simp [bistOutcome]

@[simp] theorem testComplete_vault (sent received errors fail engines) :
    vault (testComplete sent received errors fail engines s) = vault s := by
  unfold testComplete
  split <;> simp

@[simp] theorem queueFlush_vault (queue tag lastWasEnd words items) :
    vault (queueFlush queue tag lastWasEnd words items s) = vault s := by
  simp [queueFlush]
@[simp] theorem slotBoundary_vault (env) : vault (slotBoundary env s) = vault s := by simp [slotBoundary]

/-! Resets, tamper, supplies and references (R41-R77, R387-R391). -/

@[simp] theorem commitRepairs_vault : vault (commitRepairs s) = vault s := by simp [commitRepairs]
@[simp] theorem clearFull_vault (k cause) : vault (clearFull k cause s) = vault s := rfl
@[simp] theorem clearWarm_vault : vault (clearWarm s) = vault s := rfl

@[simp] theorem takeReset_vault (k cause) : vault (takeReset k cause s) = vault s := by
  unfold takeReset
  split <;> simp

@[simp] theorem resetCtrl_vault (full key) : vault (resetCtrl full key s) = vault s := by
  unfold resetCtrl
  (repeat' split) <;> simp

@[simp] theorem pinReset_vault (lowNs) : vault (pinReset lowNs s) = vault s := by simp [pinReset]
@[simp] theorem markTrial_vault : vault (markTrial s) = vault s := by simp [markTrial]
@[simp] theorem bootExpiry_vault : vault (bootExpiry s) = vault s := by simp [bootExpiry]
@[simp] theorem perstRise_vault : vault (perstRise s) = vault s := by simp [perstRise]
@[simp] theorem sysReset_vault (h p) : vault (sysReset h p s).st = vault s := by simp [sysReset]
@[simp] theorem frost_vault : vault (frost s) = vault s := by simp [frost]
@[simp] theorem silenceAll_vault : vault (silenceAll s) = vault s := by simp [silenceAll]
@[simp] theorem stopAll_vault : vault (stopAll s) = vault s := by simp [stopAll]
@[simp] theorem enterHold_vault : vault (enterHold s) = vault s := by simp [enterHold]

@[simp] theorem vbatLoss_vault : vault (vbatLoss s) = vault s := by simp [vbatLoss]
@[simp] theorem powerBack_vault : vault (powerBack s) = vault s := by simp [powerBack]
@[simp] theorem avsSet_vault (targetMv attempts) : vault (avsSet targetMv attempts s) = vault s := by simp [avsSet]
@[simp] theorem avsEvaluate_vault (targetMv attempts) : vault (avsEvaluate targetMv attempts s) = vault s := by simp [avsEvaluate]

@[simp] theorem dropTxs_vault (c n) : vault (dropTxs c n s) = vault s := by
  induction n generalizing s with
  | zero => rfl
  | succ n ih =>
    rw [dropTxs]
    split <;> simp [ih]

@[simp] theorem dropRaws_vault (c) : vault (dropRaws c s) = vault s := by simp [dropRaws]
@[simp] theorem rfLost_vault : vault (rfLost s) = vault s := by simp [rfLost]
@[simp] theorem ethRefLost_vault : vault (ethRefLost s) = vault s := by simp [ethRefLost]
@[simp] theorem refLoss_vault (r) : vault (refLoss r s) = vault s := by simp [refLoss]
@[simp] theorem refReturn_vault (r) : vault (refReturn r s) = vault s := by simp [refReturn]

/-! The register map (R7). -/

/-- Clearing a counter that reads as it is cleared keeps host memory (R118). -/
theorem rcRegs_vault (b) {x : Nat × Nat × (State → State)} (h : x ∈ rcRegs b s) (t : State) : vault (x.2.2 t) = vault t := by
  unfold rcRegs at h
  split at h <;> simp only [rcRow, chainCounters, chkCounters, List.mem_append, List.mem_flatMap, List.mem_map, List.mem_cons,
    List.not_mem_nil, or_false] at h <;> aesop

@[simp] theorem rcRead_vault (a) : vault (rcRead a s) = vault s := by
  unfold rcRead
  dsimp only
  split
  · next h => simp [rcRegs_vault _ _ (List.mem_of_find?_eq_some h)]
  · rfl

@[simp] theorem asnRead_vault : vault (asnRead s) = vault s := by simp [asnRead]
@[simp] theorem recordRead_vault : vault (recordRead s) = vault s := by simp [recordRead]

@[simp] theorem writeQp_vault (func q off v) : vault (writeQp func q off v s) = vault s := by
  unfold writeQp
  dsimp only
  split <;> simp

@[simp] theorem writeSrcCfg_vault (n v) : vault (writeSrcCfg n v s) = vault s := by simp [writeSrcCfg]
@[simp] theorem writeMsix_vault (v0 off a v) : vault (writeMsix v0 off a v s) = vault s := by simp [writeMsix]

theorem ite_keeps_vault {p : Prop} [Decidable p] {s t u : State} (ht : vault t = vault s) (hu : vault u = vault s) :
    vault (if p then t else u) = vault s := by
  split
  · exact ht
  · exact hu

@[simp] theorem writeReg_vault (func a v) : vault (writeReg func a v s) = vault s := by
  unfold writeReg
  iterate 16 refine ite_keeps_vault (by simp) ?_
  refine ite_keeps_vault ?_ rfl
  dsimp only
  split <;> simp

@[simp] theorem registerWrite_vault (func a v) : vault (registerWrite func a v s) = vault s := by simp [registerWrite]

/-! Dumps, the firewall, spares and memory errors (R515-R542). -/

@[simp] theorem writeDump_vault (rom cause core) : vault (writeDump rom cause core s) = vault s := by simp [writeDump]

@[simp] theorem fatal_vault (cause core) : vault (fatal cause core s) = vault s := by
  unfold fatal
  split <;> simp

@[simp] theorem fatalError_vault (cause core) : vault (fatalError cause core s) = vault s := by simp [fatalError]
@[simp] theorem freezeEffect_vault (m) : vault (freezeEffect m s) = vault s := by
  unfold freezeEffect
  split
  · simp
  · split
    · simp
    · split
      · rfl
      · split
        · refine vault_foldl (fun s p => ?_) _ s
          split <;> simp
        · simp

@[simp] theorem pushRecord_vault (r) : vault (pushRecord r s) = vault s := by simp [pushRecord]
@[simp] theorem violation_vault (m a isWrite) : vault (violation m a isWrite s) = vault s := by simp [violation]
@[simp] theorem ownerReset_vault (m) : vault (ownerReset m s) = vault s := by simp [ownerReset]
@[simp] theorem diagUnfreeze_vault (h p) : vault (diagUnfreeze h p s).st = vault s := by simp [diagUnfreeze]
@[simp] theorem diagFwRegion_vault (h p) : vault (diagFwRegion h p s).st = vault s := by simp [diagFwRegion]
@[simp] theorem pageCandidate_vault (page) : vault (pageCandidate page s) = vault s := by simp [pageCandidate]
@[simp] theorem dramCe_vault (a) : vault (dramCe a s) = vault s := by simp [dramCe]
@[simp] theorem damageBudget_vault (u) : vault (damageBudget u s) = vault s := by simp [damageBudget]
@[simp] theorem damageImage_vault (c) : vault (damageImage c s) = vault s := by simp [damageImage]

@[simp] theorem damageBitmap_vault (i o) : vault (damageBitmap i o s) = vault s := by
  unfold damageBitmap
  refine vault_foldl (fun s e => ?_) _ s
  split <;> simp

@[simp] theorem regionDamage_vault (a) : vault (regionDamage a s) = vault s := by simp [regionDamage]
@[simp] theorem dramUe_vault (a) : vault (dramUe a s) = vault s := by simp [dramUe]
@[simp] theorem caAlert_vault (a again) : vault (caAlert a again s) = vault s := by simp [caAlert]
@[simp] theorem patrolScrub_vault (wrapped) : vault (patrolScrub wrapped s) = vault s := by simp [patrolScrub]
@[simp] theorem ddrTemp_vault (degC) : vault (ddrTemp degC s) = vault s := by simp [ddrTemp]
@[simp] theorem retireDone_vault (page) : vault (retireDone page s) = vault s := by simp [retireDone]
@[simp] theorem flashFail_vault (block) : vault (flashFail block s) = vault s := by simp [flashFail]
@[simp] theorem rowError_vault (mem row) : vault (rowError mem row s) = vault s := by simp [rowError]

@[simp] theorem loseQueued_vault (q f) : vault (loseQueued q f s) = vault s := by
  unfold loseQueued
  (repeat' split) <;> simp

@[simp] theorem loseRow_vault (row) : vault (loseRow row s) = vault s := by
  unfold loseRow
  refine (vault_foldl (fun s p => ?_) _ _).trans (by simp)
  split <;> simp

@[simp] theorem sramError_vault (mem uncorrectable dirty row) : vault (sramError mem uncorrectable dirty row s) = vault s := by
  simp [sramError]

@[simp] theorem drainCore_vault (c) : vault (drainCore c s) = vault s := by
  unfold drainCore
  dsimp only
  (repeat' split) <;> simp

@[simp] theorem coreFail_vault (c) : vault (coreFail c s) = vault s := by simp [coreFail]
@[simp] theorem coreWatchdog_vault (c) : vault (coreWatchdog c s) = vault s := by simp [coreWatchdog]
@[simp] theorem hlthStatus_vault (h p) : vault (hlthStatus h p s).st = vault s := by simp [hlthStatus]
@[simp] theorem retired_vault (spare) : vault (retired spare s).st = vault s := by simp [retired]

@[simp] theorem hlthRetire_vault (h p) : vault (hlthRetire h p s).st = vault s := by
  unfold hlthRetire
  split <;> simp

/-! The boot ROM, INIT and LULL (R64-R97). -/

@[simp] theorem setResult_vault (f r) : vault (setResult f r s) = vault s := by simp [setResult]
@[simp] theorem enterInit_vault (p f) : vault (enterInit p f s) = vault s := by simp [enterInit]
@[simp] theorem waitImage_vault : vault (waitImage s) = vault s := by simp [waitImage]

@[simp] theorem trySlots_vault (p l) : vault (trySlots p l s) = vault s := by
  induction l generalizing s with
  | nil => simp [trySlots]
  | cons f l ih => simp [trySlots, ih]

@[simp] theorem markFailed_vault (f) : vault (Machine.markFailed f s) = vault s := by simp [Machine.markFailed]

@[simp] theorem verifySlots_vault (p) : vault (verifySlots p s) = vault s := by
  unfold verifySlots
  extract_lets failed entered marked first
  have hm : vault marked = vault s := by
    simp only [marked, failed]
    cases s.sys.slotFailed <;> simp [entered]
  (repeat' split) <;> simp [hm]

@[simp] theorem rootUp_vault (root errors attempts) : vault (rootUp root errors attempts s) = vault s := by simp [rootUp]

@[simp] theorem regenerate_vault (p a) : vault (regenerate p a s) = vault s := by
  unfold regenerate
  dsimp only
  (repeat' split) <;> simp

@[simp] theorem freshSalt_vault : vault (freshSalt s) = vault s := by simp [freshSalt]
@[simp] theorem reEnrol_vault (p a) : vault (reEnrol p a s) = vault s := by simp [reEnrol]

@[simp] theorem pufStep_vault (p) : vault (pufStep p s) = vault s := by
  unfold pufStep
  dsimp only
  (repeat' split) <;> simp

@[simp] theorem romBoot_vault (p) : vault (romBoot p s) = vault s := by
  unfold romBoot
  dsimp only
  (repeat' split) <;> simp

@[simp] theorem resetEnd_vault (p) : vault (resetEnd p s) = vault s := by simp [resetEnd]
@[simp] theorem initSalt_vault : vault (initSalt s) = vault s := by simp [initSalt]
@[simp] theorem partKeys_vault : vault (partKeys s) = vault s := by simp [partKeys]
@[simp] theorem initRegions_vault : vault (initRegions s) = vault s := by simp [initRegions]
@[simp] theorem initFirewall_vault : vault (initFirewall s) = vault s := by simp [initFirewall]

@[simp] theorem initLanes_vault : vault (initLanes s) = vault s := by
  unfold initLanes
  refine (vault_foldl (fun s p => ?_) _ _).trans (by simp)
  split <;> simp

@[simp] theorem initLaneFail_vault (p) : vault (initLaneFail p s) = vault s := by simp [initLaneFail]
@[simp] theorem initChain_vault (p c) : vault (initChain p s c) = vault s := by simp [initChain]
@[simp] theorem initCals_vault (p) : vault (initCals p s) = vault s := by simp [initCals]

@[simp] theorem pufWear_vault : vault (pufWear s) = vault s := by
  unfold pufWear
  dsimp only
  (repeat' split) <;> simp

@[simp] theorem slotFault_vault : vault (slotFault s) = vault s := by simp [slotFault]
@[simp] theorem loseAllFrames_vault : vault (loseAllFrames s) = vault s := by simp [loseAllFrames]
@[simp] theorem linksDown_vault : vault (linksDown s) = vault s := by simp [linksDown]
@[simp] theorem wakeUp_vault (source) : vault (wakeUp source s) = vault s := by simp [wakeUp]
@[simp] theorem lullWake_vault (source gpio) : vault (lullWake source gpio s) = vault s := by simp [lullWake]
@[simp] theorem lostDram_vault : vault (lostDram s) = vault s := by simp [lostDram]

@[simp] theorem releaseExit_vault (savedOk) : vault (releaseExit savedOk s) = vault s := by
  unfold releaseExit
  dsimp only
  split <;> simp

@[simp] theorem lullLeave_vault (cycles segmentsOk savedOk) : vault (lullLeave cycles segmentsOk savedOk s) = vault s := by
  unfold lullLeave
  extract_lets timed counted restored chains trained
  have hc : vault counted = vault s := (withSys_vault _ timed).trans (withTime_vault _ s)
  have hr : vault restored = vault counted := by
    simp only [restored]
    split
    · exact releaseExit_vault ..
    · exact withDdr_vault ..
  have hk : vault chains = vault restored := vault_foldl (fun s c => withChain_vault ..) _ restored
  have ht : vault trained = vault s := (withPcie_vault _ chains).trans (hk.trans (hr.trans hc))
  split
  · split
    · exact (slotFault_vault ..).trans hc
    · exact (takeReset_vault ..).trans hc
  · exact (raiseW_vault ..).trans ((withSys_vault ..).trans ht)

@[simp] theorem pwrGood_vault (cycles segmentsOk savedOk) : vault (pwrGood cycles segmentsOk savedOk s) = vault s := by simp [pwrGood]
@[simp] theorem sysEventMap_vault (h p) : vault (sysEventMap h p s).st = vault s := by simp [sysEventMap]
@[simp] theorem sysTimed_vault (h p) : vault (sysTimed h p s).st = vault s := by simp [sysTimed]
@[simp] theorem sysMgmtCfg_vault (h p) : vault (sysMgmtCfg h p s).st = vault s := by simp [sysMgmtCfg]

/-! What runs any command (R103, R112-R125). -/

@[simp] theorem undelay_vault (d) : vault (undelay d s) = vault s := by simp [undelay]

@[simp] theorem noteRelease_vault (f) : vault (noteRelease f s) = vault s := by
  unfold noteRelease
  split <;> simp

@[simp] theorem resetAfter_vault (f) : vault (resetAfter f s) = vault s := by
  unfold resetAfter
  split <;> simp

@[simp] theorem snapAt_vault (n) : vault (snapAt n s) = vault s := by simp [snapAt]
@[simp] theorem cmpActions_vault (n c) : vault (cmpActions n c s) = vault s := by simp [cmpActions]

end Sys2Proof.Proofs
end

section
/-!
PROOFS. What no function that writes host memory reaches beside it.
-/
namespace Sys2Proof.Proofs
open Machine Safety Laws

variable (s : State)

/-! The command path (R30, R98-R137). -/

@[simp] theorem postReply_vault (f) : vault (postReply f s) = vault s := by simp [postReply]
@[simp] theorem sendReply_vault (f) : vault (sendReply f s) = vault s := by simp [sendReply]
@[simp] theorem releaseFlight_vault (f) : vault (releaseFlight f s) = vault s := by
  simp [releaseFlight]

/-! The security island (R363-R396). -/

@[simp] theorem storeKey_vault (store outAddr m) : vault (storeKey store outAddr m s).1 = vault s := by
  simp [storeKey]
@[simp] theorem importKey_vault (h k replace store outAddr) :
    vault (importKey h k replace store outAddr s).st = vault s := by
  simp [importKey]
@[simp] theorem keyImport_vault (h p) : vault (keyImport h p s).st = vault s := by simp [keyImport]
@[simp] theorem keyDerive_vault (h p) : vault (keyDerive h p s).st = vault s := by simp [keyDerive]
@[simp] theorem keyStage_vault (h p) : vault (keyStage h p s).st = vault s := by simp [keyStage]
@[simp] theorem keyInfo_vault (h p) : vault (keyInfo h p s).st = vault s := by simp [keyInfo]
@[simp] theorem keyAttest_vault (h p) : vault (keyAttest h p s).st = vault s := by simp [keyAttest]

/-! The cipher engines and the check-value units (R397-R426). -/

@[simp] theorem cryCcm_vault (p) : vault (cryCcm p s).st = vault s := by
  unfold cryCcm
  dsimp only
  (repeat' split) <;> simp

@[simp] theorem cryGcm_vault (p) : vault (cryGcm p s).st = vault s := by
  unfold cryGcm
  dsimp only
  (repeat' split) <;> simp

@[simp] theorem cryXts_vault (p) : vault (cryXts p s).st = vault s := by simp [cryXts]
@[simp] theorem cryOp_vault (h p) : vault (cryOp h p s).st = vault s := by simp [cryOp]
@[simp] theorem crySign_vault (h p) : vault (crySign h p s).st = vault s := by simp [crySign]

@[simp] theorem cryHash_vault (h p) : vault (cryHash h p s).st = vault s := by
  unfold cryHash
  dsimp only
  (repeat' split) <;> simp

@[simp] theorem cryStatus_vault (h p) : vault (cryStatus h p s).st = vault s := by simp [cryStatus]

/-! The node, neighbour and prefix tables (R310-R340). -/

@[simp] theorem putRecord_vault (kind body) : vault (putRecord kind body s) = vault s := by
  simp [putRecord]
@[simp] theorem learnRecord_vault (l unmerged) : vault (learnRecord l unmerged s) = vault s := by
  simp [learnRecord]
@[simp] theorem goneRecord_vault (kind table keyKind panId addr index) :
    vault (goneRecord kind table keyKind panId addr index s) = vault s := by
  simp [goneRecord]

@[simp] theorem observe_vault (kind panId addr o) : vault (observe kind panId addr o s) = vault s := by
  unfold observe
  (repeat' split) <;> simp

@[simp] theorem learnWindow_vault (kind panId addr) :
    vault (learnWindow kind panId addr s) = vault s := by
  unfold learnWindow
  split <;> simp

@[simp] theorem tblNodeInsert_vault (h p) : vault (tblNodeInsert h p s).st = vault s := by
  unfold tblNodeInsert
  dsimp only
  (repeat' split) <;> simp

@[simp] theorem tblLookup_vault (h p) : vault (tblLookup h p s).st = vault s := by
  unfold tblLookup
  (repeat' split) <;> simp

@[simp] theorem tblStatus_vault (h p) : vault (tblStatus h p s).st = vault s := by simp [tblStatus]
@[simp] theorem removeNode_vault (record pos e) : vault (removeNode record pos e s) = vault s := by
  simp [removeNode]
@[simp] theorem removeNbr_vault (record n) : vault (removeNbr record n s) = vault s := by
  simp [removeNbr]

@[simp] theorem agingVisit_vault (table index hitNow) :
    vault (agingVisit table index hitNow s) = vault s := by
  unfold agingVisit
  (repeat' split) <;> simp

@[simp] theorem parityRepair_vault (table index) : vault (parityRepair table index s) = vault s := by
  unfold parityRepair
  (repeat' split) <;> simp

/-! The receive lanes (R179-R215). -/

@[simp] theorem snapshotEnd_vault (n) : vault (snapshotEnd n s) = vault s := by
  unfold snapshotEnd
  split <;> simp

/-! The slot engine (R242-R294). -/

@[simp] theorem slotStatus_vault (h p) : vault (slotStatus h p s).st = vault s := by
  simp [slotStatus]

/-! The packet engine (R23-R29). -/

@[simp] theorem unknownSource_vault (id r f) : vault (unknownSource id r f s) = vault s := by
  unfold unknownSource
  dsimp only
  split <;> simp

@[simp] theorem airRecordProcess_vault (p f) : vault (airRecordProcess p f s) = vault s := by
  unfold airRecordProcess
  dsimp only
  (repeat' split) <;> simp

/-! The Dalhiuf links (R457-R486). -/

@[simp] theorem peerReport_vault (p kind panId addr o) :
    vault (peerReport p kind panId addr o s) = vault s := by
  simp [peerReport]

@[simp] theorem deliver_vault (p f body) : vault (deliver p f body s) = vault s := by
  unfold deliver
  split <;> simp

@[simp] theorem acceptFrame_vault (p f body) : vault (acceptFrame p f body s) = vault s := by
  unfold acceptFrame
  dsimp only
  (repeat' split) <;> simp

@[simp] theorem dlFrameRx_vault (p f) : vault (dlFrameRx p f s) = vault s := by
  unfold dlFrameRx
  dsimp only
  (repeat' split) <;> simp

/-! The Ethernet ports, and PCIe with its data rings (R494-R514). -/

@[simp] theorem placeTh_vault (r f cls first l bufs) :
    vault (placeTh r f cls first l bufs s) = vault s := by
  induction bufs generalizing first l s with
  | nil => rfl
  | cons b t ih => rw [placeTh, ih]; simp

theorem vault_thNext_taken {r : Nat} {s t : State} {f : PktFrame} {cls : Nat} {data : List Byte} (h : (thNext r s).2 = some (f, cls, data, t)) :
    vault t = vault s := by
  unfold thNext at h
  split at h
  · cases h
    rfl
  · dsimp only at h
    split at h
    · cases h
    · cases h
      simp

@[simp] theorem thDeliver_vault (r bufs) : vault (thDeliver r bufs s) = vault s := by
  unfold thDeliver
  split
  · rfl
  · dsimp only
    split
    · simp
    · next ht =>
      split
      · simp
      · simp [vault_thNext_taken ht]

@[simp] theorem fhFetch_vault (r e) : vault (fhFetch r e s) = vault s := by simp [fhFetch]

/-! Image updates (R427-R456). -/

@[simp] theorem updStatus_vault (h p) : vault (updStatus h p s).st = vault s := by simp [updStatus]

/-! Node image campaigns (R444-R452). -/

@[simp] theorem updCampaignCtrl_vault (h p) : vault (updCampaignCtrl h p s).st = vault s := by
  unfold updCampaignCtrl
  dsimp only
  (repeat' split) <;> simp

/-! Dumps, the firewall, spares and memory errors (R515-R542). -/

@[simp] theorem diagDumpRead_vault (h p) : vault (diagDumpRead h p s).st = vault s := by
  unfold diagDumpRead
  (repeat' split) <;> simp

@[simp] theorem hlthSpareMap_vault (h p) : vault (hlthSpareMap h p s).st = vault s := by
  simp [hlthSpareMap]

/-! The boot ROM, INIT and LULL (R64-R97). -/

@[simp] theorem sysInfo_vault (h p) : vault (sysInfo h p s).st = vault s := by simp [sysInfo]

end Sys2Proof.Proofs
end

section
/-!
PROOFS. The fuses and the latch (R96, R97, R442): the functions that burn a fuse, set the latch or clear it, what calls them, and the statement.
-/
namespace Sys2Proof.Proofs
open Machine Safety Laws

/-! What every step but a power cycle keeps. -/

/-- From vault u to vault v: the queue stands, the security version has not fallen, and a latch set with no power cycle since is so still. -/
structure Kept (u v : List Instr × Nat × Bool × Bool) : Prop where
  queue : v.1 = u.1
  burnt : u.2.1 ≤ v.2.1
  latch : u.2.2.1 = true → u.2.2.2 = false → v.2.2.1 = true ∧ v.2.2.2 = false

@[simp] theorem Kept.refl (u : List Instr × Nat × Bool × Bool) : Kept u u := ⟨rfl, le_refl _, fun hl hc => ⟨hl, hc⟩⟩

theorem kept_foldl {u : List Instr × Nat × Bool × Bool} {α : Type} {f : State → α → State}
    (hf : ∀ s x, Kept u (vault s) → Kept u (vault (f s x))) (l : List α) {s : State} (h : Kept u (vault s)) : Kept u (vault (l.foldl f s)) := by
  induction l generalizing s with
  | nil => exact h
  | cons x l ih => exact ih (hf s x h)

variable {u : List Instr × Nat × Bool × Bool} {s : State}

/-! The counters of fuses (R440, R442, R529). -/

/-- A step of the security version burns one more; one of the tamper-clear counter leaves it. -/
theorem burnStep_kept (c n : Nat) (h : Kept u (vault s)) : Kept u (vault (burnStep c n s)) := by
  induction n generalizing s with
  | zero => exact h
  | succ n ih =>
    unfold burnStep
    split
    · exact h
    · dsimp only
      split
      · refine ⟨h.queue, h.burnt.trans ?_, h.latch⟩
        simp only [vault, withOtp, tick1, withFree]
        split
        · exact Nat.le_succ _
        · exact le_refl _
      · exact ih (by simpa using h)

theorem burnStep_clear_vault (n : Nat) (s : State) : vault (burnStep 1 n s) = vault s := by
  induction n generalizing s with
  | zero => rfl
  | succ n ih =>
    unfold burnStep
    split
    · rfl
    · dsimp only
      split
      · rfl
      · simp [ih]

theorem burnTo_kept (v : Nat) (h : Kept u (vault s)) : Kept u (vault (burnTo v s)) := by
  unfold burnTo
  rw [withFw_vault]
  exact kept_foldl (fun s _ => burnStep_kept 0 16) _ h

theorem commitSlot_kept (h : Kept u (vault s)) : Kept u (vault (commitSlot s)) := by
  unfold commitSlot
  rw [journal_vault]
  exact burnTo_kept _ (by simpa using h)

theorem autoCommit_kept (h : Kept u (vault s)) : Kept u (vault (autoCommit s)) := by
  unfold autoCommit
  split
  · exact h
  · exact commitSlot_kept h

theorem updActivate_kept (hd : Hdr) (p : UpdActivateP) (h : Kept u (vault s)) : Kept u (vault (updActivate hd p s).st) := by
  unfold updActivate
  (repeat' split) <;> simp [h, commitSlot_kept h]

theorem startAgents_kept (p : InitProbe) (warm : Bool) (h : Kept u (vault s)) : Kept u (vault (startAgents p warm s)) := by
  unfold startAgents
  extract_lets ready b due burnt told reported woken dumped worn journalled
  have hr : Kept u (vault ready) := by simpa [ready] using h
  have hb : Kept u (vault burnt) := by
    simp only [burnt]
    split
    · exact burnTo_kept _ hr
    · exact hr
  have hv : vault journalled = vault burnt := by simp [journalled, worn, dumped, woken, reported, told]
  rw [withSys_vault, hv]
  exact hb

theorem initRest_kept (p : InitProbe) (warm : Bool) (h : Kept u (vault s)) : Kept u (vault (initRest p warm s)) := by
  unfold initRest
  extract_lets fenced counted reduced powered
  split
  · simpa [counted, fenced] using h
  · exact startAgents_kept p warm (by simpa [powered, reduced, counted, fenced] using h)

theorem initDone_kept (p : InitProbe) (h : Kept u (vault s)) : Kept u (vault (initDone p s)) := by
  unfold initDone
  extract_lets warm lost gib trained reduced
  have hr : Kept u (vault reduced) := by simpa [reduced, trained] using h
  split
  · exact h
  split
  · simpa using h
  split
  · simpa using hr
  · exact initRest_kept p warm hr

/-! The latch (R95-R97, R387-R391). -/

theorem tamper_kept (b : Nat) (h : Kept u (vault s)) : Kept u (vault (tamper b s)) := by
  unfold tamper
  extract_lets latched marked
  have hl : Kept u (vault latched) := by
    refine ⟨h.queue, h.burnt, fun hu hc => ⟨rfl, ?_⟩⟩
    have hs : s.aon.cycled = false := (h.latch hu hc).2
    simp [latched, vault, withAon, hs]
  have hm : Kept u (vault marked) := by simpa [marked] using hl
  clear_value marked
  (repeat' split) <;> simpa using hm

theorem tamperAlarm_kept (sensor : Nat) (h : Kept u (vault s)) : Kept u (vault (tamperAlarm sensor s)) := by
  unfold tamperAlarm
  split
  · exact h
  · exact tamper_kept sensor h

theorem loopSample_kept (i : Nat) (mismatch : Bool) (h : Kept u (vault s)) : Kept u (vault (loopSample i mismatch s)) := by
  unfold loopSample
  split
  · exact h
  split
  · simpa using h
  · dsimp only
    split
    · exact tamper_kept _ (by simpa using h)
    · simpa using h

theorem excursion_kept (rail : Nat) (lowPm highPm : Int) (stillLow throughHigh : Bool) (durPs : Nat) (h : Kept u (vault s)) :
    Kept u (vault (excursion rail lowPm highPm stillLow throughHigh durPs s)) := by
  unfold excursion
  (repeat' split) <;> simp [h, tamper_kept]

theorem temperature_kept (degC : Int) (h : Kept u (vault s)) : Kept u (vault (temperature degC s)) := by
  unfold temperature
  extract_lets sampled l n counted tripped alarmed
  have ht : Kept u (vault tripped) := by simpa [tripped, counted, sampled] using h
  have ha : Kept u (vault alarmed) := by
    simp only [alarmed]
    split
    · exact tamper_kept 2 ht
    · exact ht
  clear_value alarmed
  split
  · simpa using ha
  · simpa using ha

/-- CLEAR_TAMPER clears the latch and the mark of the power cycle; it burns no security version. -/
theorem clearTamper_vault (s : State) : vault (clearTamper s) = (s.pending, s.otp.svBurnt, false, false) := by
  rw [clearTamper, withSys_vault, burnStep_clear_vault]
  rfl

/-- It is refused before a power cycle. -/
theorem sysState_kept (hd : Hdr) (p : SysStateP) (h : Kept u (vault s)) : Kept u (vault (sysState hd p s).st) := by
  unfold sysState
  split
  · simpa using h
  split
  · simpa using h
  split
  · simp [h]
  split
  · simpa using h
  · next hc =>
    have hs : s.aon.cycled = true := by simp only [Bool.or_eq_true, Bool.not_eq_true', not_or, Bool.not_eq_false] at hc; exact hc.1
    rw [done_vault, clearTamper_vault]
    exact ⟨h.queue, h.burnt, fun hu hcyc => absurd ((h.latch hu hcyc).2) (by simp [vault, hs])⟩

/-! What runs any command (R103, R112-R125). -/

theorem runCmd_kept (hd : Hdr) (c : Cmd) (h : Kept u (vault s)) : Kept u (vault (runCmd hd c s).st) := by
  cases c
  case sysState p => exact sysState_kept hd p h
  case updActivate p => exact updActivate_kept hd p h
  all_goals simpa [runCmd] using h

theorem unlessJob_kept (hd : Hdr) (c : Cmd) {run : State → Res} (hr : Kept u (vault (run s).st)) (h : Kept u (vault s)) :
    Kept u (vault (unlessJob hd c run s).st) := by
  unfold unlessJob
  split
  · exact h
  · exact hr

theorem dueRun_kept (d : Delayed) (c : Cmd) (h : Kept u (vault s)) : Kept u (vault (dueRun d c s).st) := by
  unfold dueRun
  dsimp only
  split
  · exact unlessJob_kept _ _ (runCmd_kept _ _ h) h
  · exact h

theorem timedDue_kept (d : Delayed) (h : Kept u (vault s)) : Kept u (vault (timedDue d s)) := by
  unfold timedDue
  dsimp only
  split
  · split
    · simpa using h
    · simpa using dueRun_kept d _ (by simpa using h)
  · simpa using h

theorem runStaged_kept (f : Flight) (h : Kept u (vault s)) : Kept u (vault (runStaged f s)) := by
  unfold runStaged
  dsimp only
  split
  · exact h
  · split
    · rw [complete_vault]
      exact dueRun_kept _ _ (by simpa using h)
    · rw [complete_vault]
      exact unlessJob_kept _ _ (runCmd_kept _ _ h) h

theorem releaseNow_kept (qp tag : Nat) (h : Kept u (vault s)) : Kept u (vault (releaseNow qp tag s)) := by
  unfold releaseNow
  split <;> simpa using h

theorem commandRelease_kept (qp tag : Nat) (h : Kept u (vault s)) : Kept u (vault (commandRelease qp tag s)) := by
  unfold commandRelease
  split
  · exact h
  · split
    · exact h
    · split
      · split <;> simpa using h
      · refine releaseNow_kept _ _ ?_
        split
        · exact runStaged_kept _ h
        · exact h

theorem lullEntry_kept (h : Kept u (vault s)) : Kept u (vault (lullEntry s)) := by
  unfold lullEntry
  split
  · exact h
  · extract_lets release stopped ended released camps saved chains silent wake asleep
    have hs : Kept u (vault stopped) := by simpa [stopped] using h
    have he : Kept u (vault ended) := by
      simp only [ended, silenceAll_vault, endFlights_vault]
      exact kept_foldl (fun s f hs => by split; exacts [runStaged_kept f hs, hs]) _ hs
    have hr : Kept u (vault released) := kept_foldl (fun s f hs => by split; exacts [hs, releaseNow_kept _ _ hs]) _ he
    have hc : vault camps = vault released := vault_foldl (fun s e => by simp) _ released
    have hv : vault saved = vault camps := by simp [saved]
    have hd : vault chains = vault saved := (vault_foldl (fun s c => withChain_vault s c _) _ _).trans (loseAllFrames_vault saved)
    have ha : vault asleep = vault saved := by
      simp only [asleep, silent, withSys_vault, withTime_vault]
      refine (withAon_vault _ _ ?_).trans ((linksDown_vault chains).trans hd)
      exact fun _ => ⟨rfl, rfl⟩
    have hw : Kept u (vault asleep) := by rwa [ha, hv, hc]
    clear_value wake asleep
    cases wake with
    | none => exact hw
    | some w => simpa using hw

theorem comparatorFire_kept (n : Nat) (h : Kept u (vault s)) : Kept u (vault (comparatorFire n s)) := by
  unfold comparatorFire
  dsimp only
  split
  · exact h
  · split
    · simpa using h
    · split
      · simpa using timedDue_kept _ (by simpa using h)
      · simpa using h

theorem applyDelta_kept (d : DeltaRec) (h : Kept u (vault s)) : Kept u (vault (applyDelta d s)) := by
  rw [applyDelta, applySections_vault]
  refine kept_foldl (fun s e hs => ?_) _ h
  split
  · exact runCmd_kept _ _ hs
  · exact hs

theorem deltaRx_kept (d : DeltaRec) (h : Kept u (vault s)) : Kept u (vault (deltaRx d s)) := by
  unfold deltaRx
  split
  · exact h
  · simpa using applyDelta_kept d h

theorem bulkRx_kept (d : DeltaRec) (h : Kept u (vault s)) : Kept u (vault (bulkRx d s)) := by
  unfold bulkRx
  split
  · exact h
  · simpa using applyDelta_kept d h

theorem workOn_kept (hd : Hdr) (c : Cmd) (h : Kept u (vault s)) : Kept u (vault (workOn hd c (runCmd hd c) s)) := by
  have hj : Kept u (vault (unlessJob hd c (runCmd hd c) s).st) := unlessJob_kept hd c (runCmd_kept hd c h) h
  unfold workOn
  dsimp only
  (repeat' split) <;> simp [h, hj]

/-! One step (R96, R97, R442). -/

/-- What the statement asks of an outcome that answers a next state. -/
def NextKept (s : State) (o : Host.Outcome State Fault Refusal) : Prop := ∀ t, o = .next t →
  t.pending = s.pending ∧ s.otp.svBurnt ≤ t.otp.svBurnt ∧ (s.aon.latch = true → s.aon.cycled = false → t.aon.latch = true)

theorem nextKept_next {t : State} (h : Kept (vault s) (vault t)) : NextKept s (.next t) := by
  rintro _ ⟨⟩
  exact ⟨h.queue, h.burnt, fun hl hc => (h.latch hl hc).1⟩

theorem nextKept_of_vault {t : State} (h : vault t = vault s) : NextKept s (.next t) :=
  nextKept_next (h ▸ Kept.refl _)

theorem nextKept_row (hd : Hdr) (c : Cmd) {run : State → Res} (hrun : run = runCmd hd c) : NextKept s (agentRun hd c run s) := by
  subst hrun
  unfold agentRun
  split
  · exact nextKept_of_vault rfl
  · split
    · exact nextKept_next (workOn_kept hd c (Kept.refl _))
    · exact nextKept_next (workOn_kept hd c (by simp))

/-- A power-up marks a power cycle only: it clears neither a fuse nor the latch. -/
theorem powerOn_vault (coreLow : Bool) (s : State) : ∃ b, vault (powerOn coreLow s) = (s.pending, s.otp.svBurnt, s.aon.latch, b) := by
  unfold powerOn
  dsimp only
  split
  · exact ⟨_, rfl⟩
  · exact ⟨_, takeReset_vault _ _ _⟩

theorem nextKept_powered {t : State} {b : Bool} (h : vault t = (s.pending, s.otp.svBurnt, s.aon.latch, b)) : NextKept s (.next t) := by
  simp only [vault, Prod.mk.injEq] at h
  obtain ⟨hq, hv, hl, -⟩ := h
  rintro _ ⟨⟩
  exact ⟨hq, hv.ge, fun hs _ => hl.trans hs⟩

theorem exec_nextKept (c : Instr) (s : State) : NextKept s (exec c s) := by
  cases c
  case sysInfo | sysReset | sysState | sysEventMap | sysTimed | sysMgmtCfg | sysEthCfg | sysMacsecSa | radChainCfg | radCal | radTuner |
      radCoexCfg | radAgcCfg | radPaRamp | radTxRaw | radBlankMap | laneAssign | lanePhyCfg | laneCaptureCfg | laneStatus | laneFlush |
      laneBitload | slotCfg | slotListLoad | slotListActivate | slotSuperframeCfg | slotTx | slotFrontCfg | slotStatus | slotFollowCfg |
      budgRegionLoad | budgStatus | tmQueueCfg | tmMeterCfg | tmShaperCfg | tmClassMap | tmStats | tblNodeInsert | tblNodeDelete |
      tblPrefixAdd | tblPrefixDel | tblAgingCfg | tblLookup | tblEvictPolicy | tblCfg | tblNeighbourSet | tblStatus | keyImport |
      keyDerive | keyStage | keyCommit | keyErase | keyInfo | keyInvalidate | keyAttest | keyStoreCfg | cryOp | crySign | cryVerify |
      cryHash | cryXtsRegion | cryChkCfg | cryStatus | updOpen | updBlock | updStatus | updVerify | updActivate | updCampaignCfg |
      updCampaignCtrl | timeStep | timeRate | timeSelect | timeTrigger | timeCaptureCfg | timePtpPortCfg | timeDomainCfg | timeStatus |
      lnkPortCfg | lnkTopology | lnkStatus | lnkSend | twinCfg | twinClaim | twinSwitch | twinStatus | twinSaveState | hlthStatus |
      hlthSpareMap | hlthRetire | diagDumpRead | diagUnfreeze | diagFwRegion | testLoopback | testBist | testPattern | testStatus =>
    exact nextKept_row _ _ rfl
  case powerOnReset coreLow =>
    obtain ⟨b, hb⟩ := powerOn_vault coreLow s
    exact nextKept_powered hb
  case mainPowerRemoval =>
    obtain ⟨b, hb⟩ := powerOn_vault true (withSys (fun x => { x with devState := .reset }) s)
    exact nextKept_powered hb
  case initDone => exact nextKept_next (initDone_kept _ (Kept.refl _))
  case tamperAlarm => exact nextKept_next (tamperAlarm_kept _ (Kept.refl _))
  case tamperLoopSample => exact nextKept_next (loopSample_kept _ _ (Kept.refl _))
  case supplyExcursion => exact nextKept_next (excursion_kept _ _ _ _ _ _ (Kept.refl _))
  case temperatureSample => exact nextKept_next (temperature_kept _ (Kept.refl _))
  case autoCommitTimer => exact nextKept_next (autoCommit_kept (Kept.refl _))
  case commandRelease => exact nextKept_next (commandRelease_kept _ _ (Kept.refl _))
  case lullEntry => exact nextKept_next (lullEntry_kept (Kept.refl _))
  case comparatorFire => exact nextKept_next (comparatorFire_kept _ (Kept.refl _))
  case deltaRx => exact nextKept_next (deltaRx_kept _ (Kept.refl _))
  case twinBulkRx => exact nextKept_next (bulkRx_kept _ (Kept.refl _))
  all_goals exact nextKept_of_vault (by simp)

/-- Settles O6, by the rules of the functions: a fuse is burnt upwards only, and what clears the latch asks for the mark of a power cycle. -/
theorem fusesAndLatchKept : Obligations.FusesAndLatchKept := by
  unfold Obligations.FusesAndLatchKept
  exact fun c s t ht => exec_nextKept c s t ht

end Sys2Proof.Proofs
end
